-- ==== Sys2Proof/Word.lean ====
section
/-! DEFINITION. The word and byte types and the shape of a sparse table; nothing else (a repair may not
mend this file). -/

namespace Sys2Proof

/-- A register word of BAR0 (R8): 32 bits. -/
abbrev Word := BitVec 32

/-- One byte of a memory structure or of a wire format (R12). -/
abbrev Byte := BitVec 8

/-- Bytes in the order of their addresses, or in transmission order (R12). -/
abbrev Bytes := List Byte

/-- A table whose rows are numbered: the listed rows, by rising number. A row that is not listed holds the
value the reader of the table gives as its default, and no listed row equals that default. -/
abbrev Sparse (α : Type) := List (Nat × α)

end Sys2Proof
end

