-- ==== Sys2Proof/Syntax.lean ====
section
/-! DEFINITION. The commands and events of spec/opcode_table.json, one constructor each, with what the outside brings to
each of them. Every row carries the instant `t` at which it occurs, in cycles of the root PLL (R27: 6.0 GHz). -/

namespace Sys2Proof

/-- The read of an indirect buffer or of a submission entry in host memory (R76, R78): its bytes, a failed
access, or one that took longer than 1 ms. -/
inductive BufRead where
  | data (b : Bytes)
  | failed
  | slow
  deriving DecidableEq, Repr

/-- A command: one submission entry (R73), with the host and the ring it came by. `flags` is byte 2, `domByte`
byte 3, `params` bytes 16–63. -/
structure Cmd where
  host : Nat
  ring : Nat
  opcode : Nat
  flags : Nat
  domByte : Nat
  tag : Nat
  reply : Nat
  params : Bytes
  deriving DecidableEq, Repr

/-- The levels of the strap pins (R42). -/
structure Straps where
  bootMode : Nat
  topoSel : Nat
  principalSel : Nat
  deriving DecidableEq, Repr

/-- A write that a host brings to its register window (R8). -/
structure RegWrite where
  host : Nat
  addr : Nat
  size : Nat
  value : Nat
  deriving DecidableEq, Repr

/-- A read that a host makes of its register window (R8). -/
structure RegRead where
  host : Nat
  addr : Nat
  size : Nat
  deriving DecidableEq, Repr

/-- The header of a Usfold image as it was read, with what the checks of the named standards found (R448). -/
structure Image where
  magicOk : Bool
  format : Nat
  imageType : Nat
  part : Nat
  stepping : Nat
  binding : Nat
  unitId : Nat
  version : Nat
  security : Nat
  signer : Nat
  configFormat : Nat
  minConfigFormat : Nat
  ucodeInterface : Nat
  payloadLength : Nat
  signaturesOk : Bool
  hashOk : Bool
  deriving DecidableEq, Repr

/-- What the flash holds of signed principal provisioning (R43, R96). -/
structure Provisioning where
  principal : Nat
  timeoutMs : Nat
  successors : List Nat
  key : Bool
  deriving DecidableEq, Repr

/-- What the boot ROM finds (R44 step 4, R43): whether the flash responds, which cores pass self-test, the images
of the two firmware slots, and the topology record and provisioning of the flash configuration. -/
structure BootRead where
  flashOk : Bool
  coresOk : List Nat
  slot0 : Option Image
  slot1 : Option Image
  topology : Option Nat
  provisioning : Option Provisioning
  deriving DecidableEq, Repr

/-- A JTAG instruction (R105): the three open ones, what a session lets the port do (R95, R106, R232), and any other. `thread` carries
bytes 16–63 of a THREAD_DEBUG. -/
inductive JtagInstr where
  | bypass
  | idcode
  | samplePreload
  | regRead (addr : Nat)
  | regWrite (addr value : Nat)
  | thread (params : Bytes)
  | other (code : Nat)
  deriving DecidableEq, Repr

/-- A frame at the MAC: its bytes without the FCS, whether the FCS is good and whether it holds an uncorrectable
codeword (R116). -/
structure RxFrame where
  bytes : Bytes
  fcsOk : Bool
  uncorrectable : Bool
  deriving DecidableEq, Repr

/-- A lane marker of an ELI lane (R129, R130) or of a fabric lane (R330, R331): its fields, the line bits since
the marker before it and, for ELI, the lane's skew in ns. -/
structure LaneMarker where
  pattern : Nat
  lane : Nat
  laneInv : Nat
  groupCount : Nat
  lineBits : Nat
  skewNs : Nat
  deriving DecidableEq, Repr

/-- A frame that an ELI receiver takes from its deskewed stream, as it came, scrambled (R131, R132): its 64 overhead bytes and the 1,000
bytes of each of its 128 slots. -/
structure EliFrame where
  overhead : Bytes
  slots : List Bytes
  deriving DecidableEq, Repr

/-- A thread: C*c*.E*e*.T*t*. -/
structure ThreadId where
  cluster : Nat
  engine : Nat
  thread : Nat
  deriving DecidableEq, Repr

/-- An associative search that answers (R205): its tag, and the rows, by position and row, on which it met a parity error (R212). -/
structure SearchEnd where
  tag : Nat
  bad : List (Nat × Nat)
  deriving DecidableEq, Repr

/-- A check-byte or ECC error that a lookup meets (R196): the place, and which of its copies are bad; for an LPM table the leaf
in `bucket`, and in `leaves` the other leaves under a bad trie node. -/
structure EntryError where
  bucket : Nat
  slot : Nat
  firstBad : Bool
  secondBad : Bool
  leaves : List Nat
  deriving DecidableEq, Repr

/-- What an issued bundle does to its thread beyond the rows of their own (10_packet_engines.md documents the
contract, not the datapath opcodes). -/
inductive BundleOp where
  | plain
  | setReg (r v : Nat)
  | localWrite (word v : Nat)
  | sharedWrite (word v : Nat)
  | watch (reg channel : Nat)
  | jump (addr : Nat)
  | readBundle
  | learn (table : Nat) (key : Bytes) (result : Nat)
  | metaWord (i v : Nat)
  | illegal
  | outOfRange (addr : Nat)
  | eccError (addr : Nat)
  deriving DecidableEq, Repr

/-- How a thread ends its pass (R255): as a drop, or with an action-list pointer; `malformed` marks a bad
descriptor (fault 0x0A). -/
structure PassEnd where
  drop : Bool
  pointer : Nat
  malformed : Bool
  deriving DecidableEq, Repr

/-- A request for one cell (R276): the requester's position in the allocation order, the queue charged and the
memory chosen. -/
structure CellReq where
  requester : Nat
  queue : Nat
  far : Bool
  deriving DecidableEq, Repr

/-- One XGEM frame of an upstream burst (R352, R353, R363); `fcsOk` says whether the frame check sequence of the
frame it carries is good (R116). -/
structure Xgem where
  portId : Nat
  keyIndex : Nat
  headerOk : Bool
  codewordOk : Bool
  fcsOk : Bool
  frame : Bytes
  deriving DecidableEq, Repr

/-- One allocation of an upstream burst: its Alloc-ID, its frames, the bytes of its non-idle frames, and the
status report decoded from it. -/
structure BurstAlloc where
  allocId : Nat
  frames : List Xgem
  used : Nat
  report : Option Nat
  deriving DecidableEq, Repr

/-- An upstream burst (R353, R354): the instant of its delimiter in 2^−16 ns on the time base, the delimiter's bit
errors, the ONU-ID its header decodes to, its uncorrectable codewords and its allocations. -/
structure Burst where
  arrival : Nat
  bitErrors : Nat
  onuId : Option Nat
  badCodewords : Nat
  allocs : List BurstAlloc
  deriving DecidableEq, Repr

/-- Where a disagreement falls (R384). -/
inductive DisagreeAt where
  | rx (th : ThreadId)
  | tunnel (sa : Nat) (egress firstByteLeft : Bool)
  | tx (port : Nat) (firstByteLeft : Bool)
  | pon (tree : Nat) (downstream : Bool)
  deriving DecidableEq, Repr

/-- A condition of a port that clears (R118). -/
inductive PortCond where
  | signal
  | alignment
  | remoteFault
  deriving DecidableEq, Repr

/-- An ECC error of a DRAM access (R423). -/
structure EccError where
  uncorrectable : Bool
  channel : Nat
  pc : Nat
  bank : Nat
  row : Nat
  deriving DecidableEq, Repr

/-- The commands and events: one constructor for each row of spec/opcode_table.json. -/
inductive Instr where
  /-- POWER_ON_RESET (R47). -/
  | powerOnReset (t : Nat) (straps : Straps)
  /-- PIN_RESET (R47). -/
  | pinReset (t : Nat) (lowNs : Nat) (straps : Straps)
  /-- DEV_RESET_FULL (R52). -/
  | devResetFull (t : Nat) (host : Nat) (value : Nat)
  /-- DEV_RESET_DATA_PLANE (R49). -/
  | devResetDataPlane (t : Nat) (host : Nat) (value : Nat)
  /-- HOST_LINK_LOSS (R72). -/
  | hostLinkLoss (t : Nat) (host : Nat) (perst : Bool)
  /-- HOST_LINK_TRAINED (R439). -/
  | hostLinkTrained (t : Nat) (host : Nat) (cxl : Bool)
  /-- ROOT_PLL_LOSS (R446). -/
  | rootPllLoss (t : Nat)
  /-- SUPPLY_FAULT (R467). -/
  | supplyFault (t : Nat) (rail : Nat) (outNs : Nat) (outOfOrder : Bool)
  /-- THERMAL_TRIP (R470). -/
  | thermalTrip (t : Nat) (tjF : Int) (tjT : Int)
  /-- JUNCTION_OVER_MAX (R470). -/
  | junctionOverMax (t : Nat) (tjF : Int) (tjT : Int) (stackMax : Nat)
  /-- BOOT_IMAGE_CHECK (R44). -/
  | bootImageCheck (t : Nat) (boot : BootRead)
  /-- GUYLINE_TRAINING_DONE (R44). -/
  | guylineTrainingDone (t : Nat) (failed : List Nat)
  /-- SERDES_CALIBRATION_DONE (R44). -/
  | serdesCalibrationDone (t : Nat) (fabric : Bool) (quad : Nat) (failed : List Nat)
  /-- DRAM_TRAINING_DONE (R421). -/
  | dramTrainingDone (t : Nat) (stack : Nat) (failedAt : Option (Nat × Nat)) (repaired : Nat)
  /-- TRAINING_TIMEOUT (R46). -/
  | trainingTimeout (t : Nat) (kind : Nat) (number : Nat)
  /-- STACK_ZEROING_DONE (R44). -/
  | stackZeroingDone (t : Nat) (stack : Nat)
  /-- CONFIG_APPLY (R461). -/
  | configApply (t : Nat)
  /-- STANDBY_ENTRY (R44). -/
  | standbyEntry (t : Nat)
  /-- MODE_SET (R34). -/
  | modeSet (t : Nat) (c : Cmd)
  /-- DATA_PLANE_HOLD_DONE (R38). -/
  | dataPlaneHoldDone (t : Nat)
  /-- UNKNOWN_OPCODE (R74). -/
  | unknownOpcode (t : Nat) (c : Cmd)
  /-- NOP (R84). -/
  | nop (t : Nat) (c : Cmd)
  /-- DEV_QUERY (R85). -/
  | devQuery (t : Nat) (c : Cmd)
  /-- EVENT_CONFIG (R86). -/
  | eventConfig (t : Nat) (c : Cmd)
  /-- MEM_WINDOW (R87). -/
  | memWindow (t : Nat) (c : Cmd)
  /-- REGISTER_WRITE (R57). -/
  | registerWrite (t : Nat) (writes : List RegWrite)
  /-- RING_CFG_ENABLE (R66). -/
  | ringCfgEnable (t : Nat) (host : Nat) (ring : Nat) (value : Nat)
  /-- RING_CFG_DISABLE (R66). -/
  | ringCfgDisable (t : Nat) (host : Nat) (ring : Nat) (value : Nat)
  /-- SQ_TAIL (R65). -/
  | sqTail (t : Nat) (host : Nat) (ring : Nat) (value : Nat)
  /-- CQ_HEAD (R65). -/
  | cqHead (t : Nat) (host : Nat) (ring : Nat) (value : Nat)
  /-- RING_ENTRY_FETCH (R64). -/
  | ringEntryFetch (t : Nat) (host : Nat) (ring : Nat) (entry : BufRead)
  /-- HOST_BUFFER_TIMEOUT (R78). -/
  | hostBufferTimeout (t : Nat) (c : Cmd)
  /-- HOST_WRITE_FAILED (R66). -/
  | hostWriteFailed (t : Nat) (host : Nat) (ring : Nat)
  /-- RING_DRAINED (R66). -/
  | ringDrained (t : Nat) (host : Nat) (ring : Nat)
  /-- EVENT_QUEUE_DRAIN (R82). -/
  | eventQueueDrain (t : Nat) (host : Nat)
  /-- INTERRUPT_COAL_TIMEOUT (R83). -/
  | interruptCoalTimeout (t : Nat) (host : Nat) (ring : Nat)
  /-- HCMD_EVT_LOST_READ (R82). -/
  | hcmdEvtLostRead (t : Nat) (r : RegRead)
  /-- CXLMEM_READ (R61). -/
  | cxlmemRead (t : Nat) (host : Nat) (addr : Nat)
  /-- CXLMEM_WRITE (R61). -/
  | cxlmemWrite (t : Nat) (host : Nat) (addr : Nat) (data : Bytes)
  /-- DOMAIN_SET (R94). -/
  | domainSet (t : Nat) (c : Cmd)
  /-- RESOURCE_ASSIGN (R93). -/
  | resourceAssign (t : Nat) (c : Cmd)
  /-- PRINCIPAL_SET (R96). -/
  | principalSet (t : Nat) (c : Cmd)
  /-- SEC_HEARTBEAT (R96). -/
  | secHeartbeat (t : Nat) (host : Nat) (value : Nat)
  /-- HEARTBEAT_TIMEOUT (R97). -/
  | heartbeatTimeout (t : Nat)
  /-- PRINCIPAL_RECHECK (R98). -/
  | principalRecheck (t : Nat)
  /-- KEY_LOCK_CLAIM (R103). -/
  | keyLockClaim (t : Nat) (writes : List RegWrite)
  /-- KEY_LOCK_RELEASE (R104). -/
  | keyLockRelease (t : Nat) (host : Nat) (value : Nat)
  /-- KEY_LOCK_EXPIRED (R104). -/
  | keyLockExpired (t : Nat)
  /-- KEY_INFO (R100). -/
  | keyInfo (t : Nat) (c : Cmd)
  /-- KEY_IMPORT (R101). -/
  | keyImport (t : Nat) (c : Cmd) (b : BufRead)
  /-- KEY_EXPORT (R101). -/
  | keyExport (t : Nat) (c : Cmd)
  /-- KEY_DESTROY (R103). -/
  | keyDestroy (t : Nat) (c : Cmd)
  /-- DEBUG_AUTH (R106). -/
  | debugAuth (t : Nat) (c : Cmd) (b : BufRead)
  /-- JTAG_TOKEN (R106). -/
  | jtagToken (t : Nat) (token : Bytes)
  /-- JTAG_INSTRUCTION (R105). -/
  | jtagInstruction (t : Nat) (j : JtagInstr)
  /-- DEBUG_SESSION_EXPIRE (R108). -/
  | debugSessionExpire (t : Nat)
  /-- PORT_MAP (R124). -/
  | portMap (t : Nat) (c : Cmd)
  /-- PORT_CONFIG (R125). -/
  | portConfig (t : Nat) (c : Cmd)
  /-- LANE_CONFIG (R126). -/
  | laneConfig (t : Nat) (c : Cmd)
  /-- PORT_STATS (R127). -/
  | portStats (t : Nat) (c : Cmd)
  /-- PORT_UP (R118). -/
  | portUp (t : Nat) (port : Nat)
  /-- LINK_TRAINING_RESTART (R118). -/
  | linkTrainingRestart (t : Nat) (port : Nat)
  /-- LANE_SIGNAL_LOSS (R118). -/
  | laneSignalLoss (t : Nat) (lane : Nat) (alignment : Bool)
  /-- REMOTE_FAULT_RECEIVED (R118). -/
  | remoteFaultReceived (t : Nat) (port : Nat)
  /-- FEC_DEGRADE_INTERVAL (R118). -/
  | fecDegradeInterval (t : Nat) (port : Nat) (corrected : Nat) (uncorrected : Nat)
  /-- LANE_FAIL (R122). -/
  | laneFail (t : Nat) (lane : Nat)
  /-- QUAD_FAIL (R123). -/
  | quadFail (t : Nat) (quad : Nat)
  /-- ETH_FRAME_RECEIVE (R116). -/
  | ethFrameReceive (t : Nat) (port : Nat) (f : RxFrame)
  /-- PFC_FRAME_RECEIVE (R117). -/
  | pfcFrameReceive (t : Nat) (port : Nat) (enable : Nat) (quanta : List Nat)
  /-- PFC_PAUSE_EXPIRE (R117). -/
  | pfcPauseExpire (t : Nat) (port : Nat) (cls : Nat)
  /-- FRAME_TRANSMIT (R262). -/
  | frameTransmit (t : Nat) (port : Nat)
  /-- ELI_LANE_MARKER (R130). -/
  | eliLaneMarker (t : Nat) (port : Nat) (lane : Nat) (m : LaneMarker)
  /-- ELI_FAW_MATCH (R138). -/
  | eliFawMatch (t : Nat) (port : Nat) (offset : Nat) (mfas : Nat)
  /-- ELI_FRAME_RECEIVE (R133). -/
  | eliFrameReceive (t : Nat) (port : Nat) (f : EliFrame)
  /-- ELI_TX_FRAME_START (R147). -/
  | eliTxFrameStart (t : Nat) (port : Nat)
  /-- ELI_EXPRESS_REPLACE (R152). -/
  | eliExpressReplace (t : Nat) (dst : Nat) (group : Nat)
  /-- ELI_EXPRESS_RESTORE (R152). -/
  | eliExpressRestore (t : Nat) (dst : Nat) (group : Nat)
  /-- ELI_CONFIG (R147). -/
  | eliConfig (t : Nat) (c : Cmd)
  /-- ELI_SLOTMAP (R134). -/
  | eliSlotmap (t : Nat) (c : Cmd)
  /-- ELI_EXPRESS (R150). -/
  | eliExpress (t : Nat) (c : Cmd)
  /-- ELI_COUNTERS (R154). -/
  | eliCounters (t : Nat) (c : Cmd)
  /-- INGRESS_DISPATCH (R156). -/
  | ingressDispatch (t : Nat) (port : Nat)
  /-- EGRESS_DISPATCH (R264). -/
  | egressDispatch (t : Nat) (port : Nat)
  /-- PARSE_COMPLETE (R160). -/
  | parseComplete (t : Nat) (th : ThreadId)
  /-- ORDER_BUCKET_RELEASE (R158). -/
  | orderBucketRelease (t : Nat) (cluster : Nat) (bucket : Nat)
  /-- STEER_HOLD_DRAINED (R159). -/
  | steerHoldDrained (t : Nat) (idx : Nat)
  /-- STEER_HOLD_TIMEOUT (R159). -/
  | steerHoldTimeout (t : Nat) (idx : Nat)
  /-- LOOKUP_ISSUE (R178). -/
  | lookupIssue (t : Nat) (th : ThreadId) (tag : Nat) (table : Nat) (key : Bytes)
  /-- CLASSIFY_ISSUE (R167). -/
  | classifyIssue (t : Nat) (th : ThreadId) (tag : Nat) (tree : Nat)
  /-- SCAN_ISSUE (R171). -/
  | scanIssue (t : Nat) (th : ThreadId) (set : Nat) (depth : Nat)
  /-- ASSOC_SEARCH_ISSUE (R208). -/
  | assocSearchIssue (t : Nat) (th : ThreadId) (tag : Nat) (array : Nat) (key : Bytes)
  /-- LOOKUP_RESPONSE (R246). -/
  | lookupResponse (t : Nat) (th : ThreadId) (tag : Nat) (err : Option EntryError)
  /-- SCAN_RESPONSE (R172). -/
  | scanResponse (t : Nat) (th : ThreadId)
  /-- ASSOC_RESPONSE (R205). -/
  | assocResponse (t : Nat) (th : ThreadId) (ans : SearchEnd)
  /-- PARSE_GRAPH_LOAD (R163). -/
  | parseGraphLoad (t : Nat) (c : Cmd) (b : BufRead)
  /-- PARSE_PORT_CONFIG (R155). -/
  | parsePortConfig (t : Nat) (c : Cmd)
  /-- CLASS_TREE_LOAD (R169). -/
  | classTreeLoad (t : Nat) (c : Cmd) (b : BufRead)
  /-- CLASS_TREE_DELETE (R175). -/
  | classTreeDelete (t : Nat) (c : Cmd)
  /-- AUTO_SET_LOAD (R175). -/
  | autoSetLoad (t : Nat) (c : Cmd) (b : BufRead)
  /-- AUTO_SET_DELETE (R175). -/
  | autoSetDelete (t : Nat) (c : Cmd)
  /-- CLASS_LIMIT (R176). -/
  | classLimit (t : Nat) (c : Cmd)
  /-- PARSE_COUNTERS (R176). -/
  | parseCounters (t : Nat) (c : Cmd)
  /-- TABLE_CREATE (R177). -/
  | tableCreate (t : Nat) (c : Cmd)
  /-- TABLE_DESTROY (R177). -/
  | tableDestroy (t : Nat) (c : Cmd)
  /-- TABLE_INSERT (R186). -/
  | tableInsert (t : Nat) (c : Cmd)
  /-- TABLE_UPDATE (R186). -/
  | tableUpdate (t : Nat) (c : Cmd)
  /-- TABLE_DELETE (R188). -/
  | tableDelete (t : Nat) (c : Cmd)
  /-- TABLE_SEARCH (R185). -/
  | tableSearch (t : Nat) (c : Cmd)
  /-- TABLE_NEXT (R200). -/
  | tableNext (t : Nat) (c : Cmd)
  /-- TABLE_FLUSH_PORT (R201). -/
  | tableFlushPort (t : Nat) (c : Cmd)
  /-- TABLE_DMA (R198). -/
  | tableDma (t : Nat) (c : Cmd) (b : BufRead)
  /-- DMA_LOCK_RELEASE (R198). -/
  | dmaLockRelease (t : Nat) (table : Nat) (bucket : Nat) (finished : Bool)
  /-- LPM_ADD (R180). -/
  | lpmAdd (t : Nat) (c : Cmd) (b : BufRead)
  /-- LPM_DELETE (R183). -/
  | lpmDelete (t : Nat) (c : Cmd) (b : BufRead)
  /-- LEARN_CONFIG (R195). -/
  | learnConfig (t : Nat) (c : Cmd)
  /-- TABLE_AGE (R191). -/
  | tableAge (t : Nat) (c : Cmd)
  /-- TABLE_LIMIT (R202). -/
  | tableLimit (t : Nat) (c : Cmd)
  /-- HIT_WRITE (R190). -/
  | hitWrite (t : Nat)
  /-- LEARN (R194). -/
  | learn (t : Nat)
  /-- AGE_SWEEP_VISIT (R191). -/
  | ageSweepVisit (t : Nat) (table : Nat) (bucket : Nat)
  /-- CONDITIONAL_DELETE (R193). -/
  | conditionalDelete (t : Nat)
  /-- MIRROR_REPAIR (R196). -/
  | mirrorRepair (t : Nat) (table : Nat) (bucket : Nat) (slot : Nat)
  /-- LPM_REBUILD (R196). -/
  | lpmRebuild (t : Nat) (table : Nat)
  /-- ASSOC_CREATE (R203). -/
  | assocCreate (t : Nat) (c : Cmd)
  /-- ASSOC_DELETE (R203). -/
  | assocDelete (t : Nat) (c : Cmd)
  /-- ASSOC_WRITE (R210). -/
  | assocWrite (t : Nat) (c : Cmd) (b : BufRead)
  /-- ASSOC_UPDATE_STEP (R211). -/
  | assocUpdateStep (t : Nat) (array : Nat)
  /-- ASSOC_READ (R210). -/
  | assocRead (t : Nat) (c : Cmd)
  /-- ASSOC_GROUP (R207). -/
  | assocGroup (t : Nat) (c : Cmd)
  /-- ASSOC_SEARCH (R208). -/
  | assocSearch (t : Nat) (c : Cmd) (b : BufRead)
  /-- ASSOC_SCRUB (R212). -/
  | assocScrub (t : Nat) (block : Nat) (row : Nat) (bad : Bool)
  /-- ASSOC_ROW_REPAIR (R212). -/
  | assocRowRepair (t : Nat) (block : Nat) (row : Nat)
  /-- ENGINE_ISSUE (R216). -/
  | engineIssue (t : Nat) (cluster : Nat) (engine : Nat) (waiting : List Nat) (ops : List BundleOp)
  /-- SLOT_TABLE_SWITCH (R217). -/
  | slotTableSwitch (t : Nat) (cluster : Nat) (engine : Nat)
  /-- WAIT (R219). -/
  | wait (t : Nat) (th : ThreadId) (mask : Nat)
  /-- SIGNAL (R220). -/
  | signal (t : Nat) (th : ThreadId) (engine : Nat) (thread : Nat) (sig : Nat)
  /-- SIGNAL_DELIVER (R220). -/
  | signalDeliver (t : Nat) (cluster : Nat)
  /-- TIMER_SET (R220). -/
  | timerSet (t : Nat) (th : ThreadId) (delta : Option Nat)
  /-- TIMER_FIRE (R220). -/
  | timerFire (t : Nat) (th : ThreadId)
  /-- CHAN_STAGE (R223). -/
  | chanStage (t : Nat) (th : ThreadId) (channel : Nat) (word : Nat) (value : Nat)
  /-- CHAN_COMMIT (R224). -/
  | chanCommit (t : Nat) (th : ThreadId)
  /-- CHAN_VISIBLE (R224). -/
  | chanVisible (t : Nat) (cluster : Nat) (channel : Nat)
  /-- CHAN_READ (R225). -/
  | chanRead (t : Nat) (th : ThreadId) (channel : Nat)
  /-- YIELD (R220). -/
  | yield (t : Nat) (th : ThreadId) (n : Nat)
  /-- YIELD_EXPIRE (R220). -/
  | yieldExpire (t : Nat) (th : ThreadId)
  /-- FAULT_RAISE (R228). -/
  | faultRaise (t : Nat) (th : ThreadId) (code : Nat) (detail : Nat)
  /-- FAULT_QUEUE_READ (R229). -/
  | faultQueueRead (t : Nat) (cluster : Nat)
  /-- CONFIRM (R221). -/
  | confirm (t : Nat) (th : ThreadId)
  /-- PACKET_DMA (R249). -/
  | packetDma (t : Nat) (th : ThreadId) (toLocal : Bool) (packetOff : Nat) (localOff : Nat) (len : Nat)
  /-- PACKET_DMA_DONE (R218). -/
  | packetDmaDone (t : Nat) (th : ThreadId)
  /-- RESPONSE_TIMEOUT (R218). -/
  | responseTimeout (t : Nat) (th : ThreadId) (bit : Nat)
  /-- PASS_BUDGET_EXCEEDED (R227). -/
  | passBudgetExceeded (t : Nat) (th : ThreadId)
  /-- PASS_END (R255). -/
  | passEnd (t : Nat) (th : ThreadId) (e : PassEnd)
  /-- ALLWAIT_DETECT (R230). -/
  | allwaitDetect (t : Nat) (cluster : Nat)
  /-- ALLWAIT_ESCALATE (R230). -/
  | allwaitEscalate (t : Nat) (cluster : Nat)
  /-- CLUSTER_STALL_RECOVERY (R231). -/
  | clusterStallRecovery (t : Nat) (cluster : Nat)
  /-- CLUSTER_HEALTH_WORD (R442). -/
  | clusterHealthWord (t : Nat) (cluster : Nat)
  /-- CLUSTER_FAIL (R442). -/
  | clusterFail (t : Nat) (cluster : Nat) (uncorrectable : Bool)
  /-- THREAD_STOPPED (R232). -/
  | threadStopped (t : Nat) (th : ThreadId)
  /-- ENG_PROFILE_LOAD (R234). -/
  | engProfileLoad (t : Nat) (c : Cmd) (b : BufRead)
  /-- ENG_SLOT_SET (R217). -/
  | engSlotSet (t : Nat) (c : Cmd)
  /-- ENG_CONFIG (R226). -/
  | engConfig (t : Nat) (c : Cmd)
  /-- THREAD_DEBUG (R232). -/
  | threadDebug (t : Nat) (c : Cmd)
  /-- PROFILE_WRITE (R235). -/
  | profileWrite (t : Nat) (c : Cmd) (b : BufRead)
  /-- SCOUT_DELIVER (R244). -/
  | scoutDeliver (t : Nat) (th : ThreadId)
  /-- SQUASH (R247). -/
  | squash (t : Nat) (th : ThreadId)
  /-- SCOUT_FILL (R250). -/
  | scoutFill (t : Nat) (cluster : Nat)
  /-- SCOUT_ALARM_INTERVAL (R253). -/
  | scoutAlarmInterval (t : Nat)
  /-- SCOUT_PARTITION (R242). -/
  | scoutPartition (t : Nat) (c : Cmd)
  /-- SCOUT_CONFIG (R253). -/
  | scoutConfig (t : Nat) (c : Cmd)
  /-- SCOUT_TEMPLATE (R252). -/
  | scoutTemplate (t : Nat) (c : Cmd)
  /-- SCOUT_INVALIDATE (R251). -/
  | scoutInvalidate (t : Nat) (c : Cmd)
  /-- SCOUT_STATS (R252). -/
  | scoutStats (t : Nat) (c : Cmd)
  /-- EDIT_APPLY (R258). -/
  | editApply (t : Nat) (cluster : Nat)
  /-- ACTION_WRITE (R256). -/
  | actionWrite (t : Nat) (c : Cmd) (b : BufRead)
  /-- ACTION_LIMIT (R265). -/
  | actionLimit (t : Nat) (c : Cmd)
  /-- EDIT_STATS (R257). -/
  | editStats (t : Nat) (c : Cmd)
  /-- TUNNEL_CIPHER (R381). -/
  | tunnelCipher (t : Nat) (pipe : Nat)
  /-- GUYLINE_DELIVER (R17). -/
  | guylineDeliver (t : Nat) (toT : Bool) (group : Nat) (crcOk : Bool)
  /-- GUYLINE_GROUP_FAILED (R22). -/
  | guylineGroupFailed (t : Nat) (group : Nat)
  /-- GUYLINE_MAPOUT_DRAINED (R23). -/
  | guylineMapoutDrained (t : Nat) (group : Nat)
  /-- GUYLINE_ENTRY_RETURN (R23). -/
  | guylineEntryReturn (t : Nat) (toT : Bool) (idx : Nat)
  /-- CELL_ALLOCATE (R276). -/
  | cellAllocate (t : Nat) (pool : Nat) (reqs : List CellReq)
  /-- CELL_FREE (R273). -/
  | cellFree (t : Nat) (cell : Nat)
  /-- POOL_CACHE_REFILL (R270). -/
  | poolCacheRefill (t : Nat) (pool : Nat) (far : Bool)
  /-- PFC_XOFF_REFRESH (R279). -/
  | pfcXoffRefresh (t : Nat) (port : Nat) (cls : Nat)
  /-- FAR_PAGE_MOVE (R269). -/
  | farPageMove (t : Nat) (page : Nat)
  /-- FAR_RING_COPY_REBUILT (R271). -/
  | farRingCopyRebuilt (t : Nat)
  /-- FAR_RING_REBUILT (R271). -/
  | farRingRebuilt (t : Nat)
  /-- BUF_RECONCILE (R283). -/
  | bufReconcile (t : Nat)
  /-- BUF_ERR_LOG_READ (R282). -/
  | bufErrLogRead (t : Nat) (r : RegRead)
  /-- POOL_CONFIG (R274). -/
  | poolConfig (t : Nat) (c : Cmd)
  /-- ACCOUNT_CONFIG (R274). -/
  | accountConfig (t : Nat) (c : Cmd)
  /-- POOL_THRESH (R278). -/
  | poolThresh (t : Nat) (c : Cmd)
  /-- QUEUE_BUF (R285). -/
  | queueBuf (t : Nat) (c : Cmd)
  /-- BUF_STATS (R285). -/
  | bufStats (t : Nat) (c : Cmd)
  /-- ENQUEUE (R291). -/
  | enqueue (t : Nat) (requester : Nat)
  /-- DEPTH_SNAPSHOT (R280). -/
  | depthSnapshot (t : Nat)
  /-- TOKEN_REFILL (R294). -/
  | tokenRefill (t : Nat)
  /-- SCHED_SELECT (R298). -/
  | schedSelect (t : Nat) (node : Nat)
  /-- SELECTION_COMPLETE (R299). -/
  | selectionComplete (t : Nat) (slice : Nat)
  /-- FLUSH_COMPLETE (R292). -/
  | flushComplete (t : Nat) (c : Cmd)
  /-- NODE_CONFIG (R310). -/
  | nodeConfig (t : Nat) (c : Cmd)
  /-- QUEUE_STATE (R311). -/
  | queueState (t : Nat) (c : Cmd)
  /-- NODE_QUERY (R312). -/
  | nodeQuery (t : Nat) (c : Cmd)
  /-- QUEUE_STATS (R313). -/
  | queueStats (t : Nat) (c : Cmd)
  /-- SCHED_LIMIT (R314). -/
  | schedLimit (t : Nat) (c : Cmd)
  /-- SLICE_FAIL (R308). -/
  | sliceFail (t : Nat) (slice : Nat)
  /-- OBS_SAMPLE_PASS (R326). -/
  | obsSamplePass (t : Nat) (domain : Nat)
  /-- POLICER_CONFIG (R320). -/
  | policerConfig (t : Nat) (c : Cmd)
  /-- POLICER_STATS (R319). -/
  | policerStats (t : Nat) (c : Cmd)
  /-- CONG_PROFILE (R328). -/
  | congProfile (t : Nat) (c : Cmd)
  /-- QUEUE_CONG (R327). -/
  | queueCong (t : Nat) (c : Cmd)
  /-- OBS_SELECT (R326). -/
  | obsSelect (t : Nat) (c : Cmd)
  /-- OBS_CONFIG (R326). -/
  | obsConfig (t : Nat) (c : Cmd)
  /-- OBS_HWM (R325). -/
  | obsHwm (t : Nat) (c : Cmd)
  /-- CONG_STATS (R323). -/
  | congStats (t : Nat) (c : Cmd)
  /-- CONG_LIMIT (R327). -/
  | congLimit (t : Nat) (c : Cmd)
  /-- CONG_SEED (R322). -/
  | congSeed (t : Nat) (c : Cmd)
  /-- FAB_LANE_MARKER (R331). -/
  | fabLaneMarker (t : Nat) (link : Nat) (m : LaneMarker)
  /-- FAB_CELL_RECEIVE (R332). -/
  | fabCellReceive (t : Nat) (link : Nat) (cell : Bytes) (fecBad : Bool)
  /-- FAB_CELL_SEND (R339). -/
  | fabCellSend (t : Nat) (link : Nat)
  /-- FAB_GAP_TIMEOUT (R340). -/
  | fabGapTimeout (t : Nat) (device : Nat)
  /-- FAB_REQUEST_REFRESH (R337). -/
  | fabRequestRefresh (t : Nat) (voq : Nat)
  /-- FAB_RESYNC (R337). -/
  | fabResync (t : Nat) (voq : Nat)
  /-- FAB_CREDIT_GRANT (R338). -/
  | fabCreditGrant (t : Nat) (port : Nat)
  /-- FAB_ACK_TIMER (R340). -/
  | fabAckTimer (t : Nat)
  /-- FAB_LINK_FAIL (R341). -/
  | fabLinkFail (t : Nat) (link : Nat) (laneFailed : Bool)
  /-- FAB_RESEND (R341). -/
  | fabResend (t : Nat) (link : Nat)
  /-- FAB_LINK_RETURN (R342). -/
  | fabLinkReturn (t : Nat) (link : Nat)
  /-- FAB_LINK_MAPOUT_DONE (R342). -/
  | fabLinkMapoutDone (t : Nat) (link : Nat)
  /-- FAB_CONFIG (R329). -/
  | fabConfig (t : Nat) (c : Cmd)
  /-- FAB_VOQ_MAP (R344). -/
  | fabVoqMap (t : Nat) (c : Cmd)
  /-- FAB_PORT_CREDIT (R338). -/
  | fabPortCredit (t : Nat) (c : Cmd)
  /-- FAB_LINK (R342). -/
  | fabLink (t : Nat) (c : Cmd)
  /-- FAB_STATS (R344). -/
  | fabStats (t : Nat) (c : Cmd)
  /-- PON_DS_FRAME (R350). -/
  | ponDsFrame (t : Nat) (tree : Nat)
  /-- PON_BURST_RECEIVE (R354). -/
  | ponBurstReceive (t : Nat) (tree : Nat) (b : Burst)
  /-- PON_WINDOW_CLOSE (R354). -/
  | ponWindowClose (t : Nat) (tree : Nat) (window : Nat)
  /-- PON_ENERGY_DETECT (R358). -/
  | ponEnergyDetect (t : Nat) (tree : Nat) (ns : Nat)
  /-- PON_SERIAL_NUMBER (R357). -/
  | ponSerialNumber (t : Nat) (tree : Nat) (serial : Nat)
  /-- PON_RANGING_TIMEOUT (R356). -/
  | ponRangingTimeout (t : Nat) (tree : Nat) (onu : Nat)
  /-- PON_ROGUE_SEARCH_STEP (R359). -/
  | ponRogueSearchStep (t : Nat) (tree : Nat)
  /-- PON_OMCI_RECEIVE (R362). -/
  | ponOmciReceive (t : Nat) (tree : Nat) (onu : Nat) (msg : Bytes)
  /-- PON_CHANNEL_FAIL (R438). -/
  | ponChannelFail (t : Nat) (tree : Nat)
  /-- PON_TREE_CONFIG (R364). -/
  | ponTreeConfig (t : Nat) (c : Cmd)
  /-- PON_BURST_PROFILE (R353). -/
  | ponBurstProfile (t : Nat) (c : Cmd)
  /-- PON_ONU (R357). -/
  | ponOnu (t : Nat) (c : Cmd)
  /-- PON_XGEM (R352). -/
  | ponXgem (t : Nat) (c : Cmd)
  /-- PON_ONU_KEY (R363). -/
  | ponOnuKey (t : Nat) (c : Cmd)
  /-- PON_OMCI_SEND (R362). -/
  | ponOmciSend (t : Nat) (c : Cmd) (b : BufRead)
  /-- PON_TOD (R351). -/
  | ponTod (t : Nat) (c : Cmd)
  /-- PON_STATS (R363). -/
  | ponStats (t : Nat) (c : Cmd)
  /-- GRANT_SNAPSHOT (R367). -/
  | grantSnapshot (t : Nat) (tree : Nat)
  /-- GRANT_MAP_READY (R368). -/
  | grantMapReady (t : Nat) (tree : Nat)
  /-- GRANT_SHARE_INTERVAL (R372). -/
  | grantShareInterval (t : Nat)
  /-- GRANT_TREE_CONFIG (R375). -/
  | grantTreeConfig (t : Nat) (c : Cmd)
  /-- GRANT_ALLOC (R365). -/
  | grantAlloc (t : Nat) (c : Cmd)
  /-- GRANT_GROUP (R371). -/
  | grantGroup (t : Nat) (c : Cmd)
  /-- GRANT_QUERY (R370). -/
  | grantQuery (t : Nat) (c : Cmd)
  /-- GRANT_STATS (R367). -/
  | grantStats (t : Nat) (c : Cmd)
  /-- MACSEC_VERDICT (R379). -/
  | macsecVerdict (t : Nat) (th : ThreadId) (good : Bool)
  /-- CIPHER_DISAGREE (R384). -/
  | cipherDisagree (t : Nat) (unit : Nat) (w : DisagreeAt)
  /-- CIPHER_KAT (R386). -/
  | cipherKat (t : Nat) (unit : Nat) (pass : Bool)
  /-- CIPHER_REPLACE (R386). -/
  | cipherReplace (t : Nat) (unit : Nat)
  /-- MACSEC_SA (R387). -/
  | macsecSa (t : Nat) (c : Cmd)
  /-- MACSEC_PORT (R377). -/
  | macsecPort (t : Nat) (c : Cmd)
  /-- TUNNEL_SA (R387). -/
  | tunnelSa (t : Nat) (c : Cmd)
  /-- CIPH_STATS (R388). -/
  | ciphStats (t : Nat) (c : Cmd)
  /-- CIPH_FAULT_LOG_READ (R384). -/
  | ciphFaultLogRead (t : Nat) (r : RegRead)
  /-- TIME_NS_READ (R392). -/
  | timeNsRead (t : Nat) (r : RegRead)
  /-- TIME_STEP (R394). -/
  | timeStep (t : Nat) (c : Cmd)
  /-- TIME_ARM (R394). -/
  | timeArm (t : Nat) (c : Cmd)
  /-- TIME_RATE (R395). -/
  | timeRate (t : Nat) (c : Cmd)
  /-- TIME_SLEW (R394). -/
  | timeSlew (t : Nat) (c : Cmd)
  /-- SLEW_COMPLETE (R394). -/
  | slewComplete (t : Nat)
  /-- TIME_PULSE (R406). -/
  | timePulse (t : Nat) (c : Cmd)
  /-- PULSE_FIRE (R404). -/
  | pulseFire (t : Nat) (out : Nat)
  /-- PULSE_END (R404). -/
  | pulseEnd (t : Nat) (out : Nat)
  /-- TIME_IN_EDGE (R407). -/
  | timeInEdge (t : Nat) (input : Nat) (rising : Bool) (heldNs : Nat)
  /-- TIME_CAPTURE (R407). -/
  | timeCapture (t : Nat) (c : Cmd)
  /-- TIME_TS_READ (R403). -/
  | timeTsRead (t : Nat) (c : Cmd)
  /-- TIME_PORT_ADJ (R398). -/
  | timePortAdj (t : Nat) (c : Cmd)
  /-- DRAM_ARBITRATE (R411). -/
  | dramArbitrate (t : Nat) (stack : Nat) (pc : Nat) (err : Option EccError)
  /-- DRAM_REFRESH_DUE (R413). -/
  | dramRefreshDue (t : Nat) (stack : Nat) (pc : Nat) (bank : Nat)
  /-- DRAM_DISTURB_WINDOW (R422). -/
  | dramDisturbWindow (t : Nat) (stack : Nat)
  /-- DRAM_THROTTLE_EXPIRE (R422). -/
  | dramThrottleExpire (t : Nat) (stack : Nat) (pc : Nat) (bank : Nat)
  /-- DRAM_SELF_REFRESH_ENTER (R417). -/
  | dramSelfRefreshEnter (t : Nat) (stack : Nat)
  /-- DRAM_SPILL_INTERVAL (R420). -/
  | dramSpillInterval (t : Nat) (stack : Nat)
  /-- DRAM_OPPOINT_CHANGE (R418). -/
  | dramOppointChange (t : Nat) (stack : Nat)
  /-- DRAM_OPPOINT (R418). -/
  | dramOppoint (t : Nat) (stack : Nat)
  /-- DRAM_PATROL_SCRUB (R423). -/
  | dramPatrolScrub (t : Nat) (stack : Nat) (err : Option EccError)
  /-- DRAM_STACK_FAIL (R424). -/
  | dramStackFail (t : Nat) (stack : Nat) (cause : Nat)
  /-- DRAM_ERR_COUNT_READ (R423). -/
  | dramErrCountRead (t : Nat) (r : RegRead)
  /-- DRAM_QUERY (R425). -/
  | dramQuery (t : Nat) (c : Cmd)
  /-- DRAM_MAP (R410). -/
  | dramMap (t : Nat) (c : Cmd)
  /-- DRAM_POWER (R420). -/
  | dramPower (t : Nat) (c : Cmd)
  /-- DRAM_TRAIN (R425). -/
  | dramTrain (t : Nat) (c : Cmd) (counts : List Nat)
  /-- DRAM_DISTURB (R422). -/
  | dramDisturb (t : Nat) (c : Cmd)
  /-- LANT_CNT_LO_READ (R433). -/
  | lantCntLoRead (t : Nat) (r : RegRead)
  /-- LANT_READ (R434). -/
  | lantRead (t : Nat) (c : Cmd)
  /-- LANT_MODE (R427). -/
  | lantMode (t : Nat) (c : Cmd)
  /-- BASECAMP_CORE_FAIL (R440). -/
  | basecampCoreFail (t : Nat) (core : Nat) (tags : List Nat)
  /-- TABLE_BANK_FAIL (R441). -/
  | tableBankFail (t : Nat) (bank : Nat) (tables : List Nat)
  /-- TABLE_BANK_REBUILT (R441). -/
  | tableBankRebuilt (t : Nat) (bank : Nat) (missing : List Nat)
  /-- ASSOC_BLOCK_FAIL (R213). -/
  | assocBlockFail (t : Nat) (block : Nat)
  /-- NEAR_BANK_FAIL (R284). -/
  | nearBankFail (t : Nat) (bank : Nat)
  /-- UNIT_MAP (R447). -/
  | unitMap (t : Nat) (c : Cmd) (selfTest : List Nat)
  /-- CLUSTER_DRAINED (R447). -/
  | clusterDrained (t : Nat) (cluster : Nat)
  /-- NEAR_BANK_DRAINED (R447). -/
  | nearBankDrained (t : Nat) (bank : Nat)
  /-- SLICE_NODE_MOVE (R447). -/
  | sliceNodeMove (t : Nat) (node : Nat)
  /-- UNIT_MAP_TIMEOUT (R447). -/
  | unitMapTimeout (t : Nat) (kind : Nat) (number : Nat)
  /-- FAULT_LOG_READ (R445). -/
  | faultLogRead (t : Nat) (c : Cmd)
  /-- FAULT_ACK (R446). -/
  | faultAck (t : Nat) (c : Cmd)
  /-- FAULT_CONFIG (R446). -/
  | faultConfig (t : Nat) (c : Cmd)
  /-- FW_DELIVER (R453). -/
  | fwDeliver (t : Nat) (c : Cmd) (b : BufRead)
  /-- FW_HEADER_VERIFIED (R453). -/
  | fwHeaderVerified (t : Nat)
  /-- FW_CHUNK_WRITTEN (R453). -/
  | fwChunkWritten (t : Nat)
  /-- INBAND_FW_FRAME (R455). -/
  | inbandFwFrame (t : Nat) (port : Nat) (frame : Bytes)
  /-- FW_STATUS (R454). -/
  | fwStatus (t : Nat) (c : Cmd)
  /-- FW_ACTIVATE (R456). -/
  | fwActivate (t : Nat) (c : Cmd)
  /-- HANDOVER_QUIESCED (R456). -/
  | handoverQuiesced (t : Nat)
  /-- FW_HANDOVER (R456). -/
  | fwHandover (t : Nat)
  /-- HANDOVER_HEALTH_TIMEOUT (R457). -/
  | handoverHealthTimeout (t : Nat)
  /-- PROFILE_CLUSTER_SWAP (R458). -/
  | profileClusterSwap (t : Nat) (cluster : Nat)
  /-- TRIAL_EXPIRE (R460). -/
  | trialExpire (t : Nat) (imageType : Nat)
  /-- FW_COMMIT (R460). -/
  | fwCommit (t : Nat) (c : Cmd)
  /-- FW_ROLLBACK (R460). -/
  | fwRollback (t : Nat) (c : Cmd)
  /-- FW_FLOOR (R449). -/
  | fwFloor (t : Nat) (c : Cmd)
  /-- FW_INBAND (R455). -/
  | fwInband (t : Nat) (c : Cmd)
  /-- FW_CONFIG_SAVE (R461). -/
  | fwConfigSave (t : Nat) (c : Cmd)
  /-- RESET_N_RISING_EDGE (R42). -/
  | resetNRisingEdge (t : Nat) (straps : Straps)
  /-- ELI_FAW_NOT_FOUND (R138). -/
  | eliFawNotFound (t : Nat) (port : Nat) (offset : Nat)
  /-- PORT_CONDITION_CLEARED (R118). -/
  | portConditionCleared (t : Nat) (port : Nat) (cond : PortCond)
  /-- DRAM_SELF_REFRESH_EXIT (R417). -/
  | dramSelfRefreshExit (t : Nat) (stack : Nat)
  /-- TRAILHEAD_STEER_REBALANCE (R159). -/
  | trailheadSteerRebalance (t : Nat) (idx : Nat) (cluster : Nat)
  deriving DecidableEq, Repr

end Sys2Proof
end

