-- ==== Sys2Proof/Decode.lean ====
section
/-! DEFINITION. The command that a word of spec/opcode_table.json spells: the table gives no row any bits. -/

namespace Sys2Proof

/-- No row of spec/opcode_table.json has bits, so no word spells a command. A Phowell command reaches the device as a
64-byte entry that RING_ENTRY_FETCH brings (R73). -/
def decodeTableWord (_nbits _w : Nat) : Option Instr := none

end Sys2Proof
end

