-- ==== Sys2Proof/Config.lean ====
section
/-! DEFINITION. What one unit fixes (fuses), the free values, and the functions of standards the spec names and does not
restate. Constants without a body are free: no proof can see them. -/

namespace Sys2Proof

/-- The free value of number `n`: what the device draws from its random source (R107, R322) or the spec leaves open. DESIGN CHOICE, log entry 6. -/
opaque Config.freeValue : Nat → Nat
/-- The recovery time in µs of a fault record, by its sequence number (R444): how long Basecamp's own work took. DESIGN CHOICE, log entry 144. -/
opaque Config.recoveryTime : Nat → Nat

/-- The fused ordering code, 0 or 1 (DEV_ID). DESIGN CHOICE, log entry 11. -/
opaque Config.orderingCode : BitVec 4
/-- The fused unit serial number (DEV_UNIT_ID). DESIGN CHOICE, log entry 11. -/
opaque Config.unitId : BitVec 64
/-- The rollback floor that the fuses of a fresh part hold (R449), by image type. DESIGN CHOICE, log entry 11. -/
opaque Config.fusedFloor : Nat → BitVec 8
/-- TK's public half (R100): 97 bytes. DESIGN CHOICE, log entry 11. -/
opaque Config.tkPublic : Nat → BitVec 8
/-- DK (R100): 32 bytes. DESIGN CHOICE, log entry 11. -/
opaque Config.deviceKey : Nat → BitVec 8
/-- ECDH with TK (R101): the shared x-coordinate for an uncompressed point, or none where the bytes spell no point of P-384. DESIGN CHOICE, log entry 12. -/
opaque Config.ecdhTk : List (BitVec 8) → Option (List (BitVec 8))
/-- The signature over bytes 0–31 of a debug token verifies for its signer (R106). DESIGN CHOICE, log entry 12. -/
opaque Config.tokenSigned : List (BitVec 8) → Bool
/-- The bytes that a field of so many bits and this value adds to the flow hash (R155), where the field is no whole
number of bytes: the spec does not say how it is laid out. DESIGN CHOICE, log entry 13. -/
opaque Config.hashPack : Nat → Nat → List (BitVec 8)
/-- Where a decision-tree image holds its node 0 and its rule 0 (R168): the spec gives no offsets for them. DESIGN CHOICE, log entry 14. -/
opaque Config.treeNodes : List (BitVec 8) → Nat
opaque Config.treeRules : List (BitVec 8) → Nat
/-- The DRAM stack in which a classification reads its leaf and rules, by tree and key, where it is below 4; else they lie in table SRAM
(R168: the spec does not say where). DESIGN CHOICE, log entry 14. -/
opaque Config.treeStack : Nat → Nat → Nat
/-- The trie leaf that a route lies in, by kind, prefix and length (R181, R182): the spec does not lay the trie out. DESIGN CHOICE, log entry 14. -/
opaque Config.leafOf : Nat → Nat → Nat → Nat
/-- The leaf of a route fits in table SRAM (R32), by kind, prefix and length. DESIGN CHOICE, log entry 14. -/
opaque Config.leafInSram : Nat → Nat → Nat → Bool
/-- Where the microcode of a profile begins a pass, by profile sequence number and pass (10: the datapath is not
documented). DESIGN CHOICE, log entry 14. -/
opaque Config.passEntry : Nat → Bool → Nat
/-- Where a supervisor starts that the profile does not name (R214), by profile sequence number. DESIGN CHOICE, log entry 14. -/
opaque Config.supervisorEntry : Nat → Nat
/-- What the payload of a profile image declares (R234); the spec does not lay it out: resident threads by engine, thread
and entry point, how many bundles of microcode, the doorbell channel, and the tables as entry size and count. DESIGN CHOICE, log entry 14. -/
opaque Config.profileResidents : List (BitVec 8) → List (Nat × Nat × Nat)
opaque Config.profileBundles : List (BitVec 8) → Nat
opaque Config.profileDoorbell : List (BitVec 8) → Nat
opaque Config.profileLayout : List (BitVec 8) → List (Nat × Nat)
/-- The congestion generator (R322): the spec gives its polynomial but not its form; the state of a slice's generator after
a draw of 12 steps, and the number drawn. DESIGN CHOICE, log entry 15. -/
opaque Config.lfsrNext : Nat → Nat
opaque Config.lfsrDraw : Nat → Nat
/-- The key stream of the PON channel cipher (R345): byte `i` for a key, a frame and an XGEM port. DESIGN CHOICE, log entry 12. -/
opaque Config.ponStream : Nat → Nat → Nat → Nat → BitVec 8
/-- The stack supports refresh management (R422). DESIGN CHOICE, log entry 16. -/
opaque Config.rfm : Nat → Bool
/-- Both signatures over the header of an image's first 8,192 bytes verify under a signer that no fuse revokes (R448). DESIGN CHOICE, log entry 12. -/
opaque Config.imageSigned : List (BitVec 8) → Bool
/-- A microcode interface version that the device supports (24, status VERSION). DESIGN CHOICE, log entry 16. -/
opaque Config.ucodeSupported : Nat → Bool

end Sys2Proof
end

