-- ==== Sys2Proof/Machine/State.lean ====
section
/-! DEFINITION. The state of the KX5140 as plain data: one record per chapter of the spec, and the state after a power-on
reset. Every table whose rows are numbered is a `Sparse` list in canonical form; a row that is not listed holds the
`{}` of its type, which is its reset value (R11). Instants are cycles of the root PLL (R27). -/

namespace Sys2Proof.Machine

/-! ### What stops the machine: nothing -/

/-- No command or event of the spec stops the device, so no meaning answers with a fault. -/
inductive Fault where
  /-- Raised by no meaning: the spec gives every row an effect. Safe. -/
  | none
  deriving DecidableEq, Repr

/-- The refusals of the model. -/
inductive Refusal where
  /-- Raised by an arm of `exec` whose row has no meaning yet. Safe. -/
  | notModelled (mnemonic : String)
  deriving DecidableEq, Repr

/-! ### 02, 25: modes, start-up, pins -/

/-- DEV_MODE.mode (R33). -/
inductive Mode where
  | safe
  | calibrate
  | standby
  | service
  | degraded
  | handover
  deriving DecidableEq, Repr

/-- An open debug session (R106). -/
structure Session where
  viaHost : Bool
  signer : Nat
  scope : Nat
  mask : Nat
  deadline : Nat
  deriving DecidableEq, Repr

/-- An internal-scan session whose token has been checked and that opens when the data plane has stopped (R108): the command that brought
the token where it came through the host, and how long the session lasts. -/
structure ScanDue where
  cmd : Option Cmd
  session : Session
  seconds : Nat
  deriving DecidableEq, Repr

/-- A hold of the data plane in progress (R36, R38): the MODE_SET and the internal-scan session that wait for it, and the latest instant
at which it ends. -/
structure Hold where
  mode : Option Cmd := none
  scan : Option ScanDue := none
  deadline : Nat
  deriving DecidableEq, Repr

/-- Registers and pins of the DEV block (02 Registers, R42–R52) and of the package (R470). -/
structure Dev where
  mode : Mode := .safe
  prevMode : Mode := .safe
  modeSeq : Nat := 0
  bootError : Nat := 0
  topology : Nat := 0
  flashConfig : Bool := false
  ready : Bool := false
  principalSource : Bool := false
  topoSource : Bool := false
  straps : Straps := { bootMode := 0, topoSel := 0, principalSel := 0 }
  startMs : Nat := 0
  configDone : Bool := false
  dramDone : Bool := false
  guylineDone : Bool := false
  serdesDone : Bool := false
  /-- Quads whose calibration has ended: 0–63 on the F die, 64 + *q* on the T die. -/
  serdesQuads : Sparse Bool := []
  bootDone : Bool := false
  /-- The rising edge of RESET_N or the delivery of the image, from which R44 and R45 count. -/
  startOrigin : Nat := 0
  /-- The hold of the data plane in progress (R38, R108). -/
  hold : Option Hold := none
  /-- Trailhead, and then the scheduler, are stopped (R38, R108). -/
  dispatchOff : Bool := true
  schedOff : Bool := true
  /-- A data-plane reset runs its zeroing phase since this instant (R47, R49). -/
  zeroing : Option Nat := none
  /-- The root PLL or an always-on domain is lost: no clock runs and the registers do not answer (R446). -/
  dead : Bool := false
  /-- RESET_N is low since a power-on, pin or supply reset. -/
  inReset : Bool := false
  /-- Every clock outside the always-on domains is stopped until a power-on reset (R470). -/
  thermTrip : Bool := false
  tjF : Int := 0
  tjT : Int := 0
  stackMax : Nat := 0
  overMax : Bool := false
  deriving DecidableEq, Repr

/-! ### 01, 23: units and the fault log -/

/-- A map-out or a return in progress (R447, R23), with the command that asked for it. -/
structure UnitWork where
  cmd : Cmd
  ret : Bool
  since : Nat
  deriving DecidableEq, Repr

/-- A fault record (R444): its 32 bytes by field. `time` is the TIME of detection in 2^−40 ns. -/
structure Rec where
  seq : Nat
  time : Nat
  kind : Nat
  severity : Nat
  unit : Nat
  cause : Nat
  action : Nat
  mask : Nat
  lost : Nat
  recoveryUs : Nat
  planned : Bool
  acked : Bool
  late : Bool
  deriving DecidableEq, Repr

/-- A holding of FAULT_N by the always-on monitor (R446). -/
structure AlwaysOn where
  pll : Bool := false
  supply : Bool := false
  thermal : Bool := false
  deriving DecidableEq, Repr

/-- A transfer in flight on a Guyline group (R17, R20, R21): its direction, its steering entry, when its last byte left or it was
last replayed, and how often its CRC has failed. -/
structure Transfer where
  toT : Bool
  entry : Nat
  packet : Nat
  issued : Nat
  tries : Nat := 0
  deriving DecidableEq, Repr

/-- A Guyline group (R21): its transfers in flight, oldest first, and the instants of its last replays. -/
structure Group where
  flight : List Transfer := []
  replays : List Nat := []
  /-- The group has exceeded a replay limit and is declared failed. -/
  failed : Bool := false
  deriving DecidableEq, Repr

/-- Units mapped out, Guyline and the fault log. `out` is keyed by `kind * 65536 + number` (R438). `steer` holds, by
`direction * 64 + entry`, one more than the group of an entry that does not name its home (R19, R22). -/
structure Units where
  out : Sparse Bool := []
  /-- The switched power domains that are off because every unit in them is mapped out (R468), by their number in `domainUnits`. -/
  domainsOff : Sparse Bool := []
  work : Sparse UnitWork := []
  steer : Sparse Nat := []
  /-- Steering entries on which issuing has stopped (R23), by `direction * 64 + entry`. -/
  steerStop : Sparse Bool := []
  groups : Sparse Group := []
  /-- Records of the log, oldest first; at most 1,024 (R444). -/
  log : List Rec := []
  lastSeq : Nat := 0
  level : Nat := 2
  hold : AlwaysOn := {}
  /-- The instants of the last uncorrectable words or cells of a bank, by `kind * 65536 + number` (R438). -/
  health : Sparse Nat := []
  deriving DecidableEq, Repr

/-! ### 03: host ports, rings, commands -/

/-- RING_STATUS.state (R66). -/
inductive RingState where
  | disabled
  | active
  | draining
  | error
  deriving DecidableEq, Repr

/-- An RC count as a read in the KCLK cycle of an event finds it (R9): one more than the number of the last KCLK cycle in which the count
changed, and the value it held when that cycle began. -/
structure RcMark where
  cycle : Nat := 0
  base : Nat := 0
  deriving DecidableEq, Repr

/-- A command whose entry has been read and that waits behind its fence (R70), with the mode in force when it was read (R33). -/
structure Fenced where
  cmd : Cmd
  mode : Mode
  deriving DecidableEq, Repr

/-- A ring's registers (03 Registers, R63–R68) and its interrupt coalescing (R83). -/
structure Ring where
  sqBase : Nat := 0
  cqBase : Nat := 0
  shadow : Nat := 0
  enable : Bool := false
  sizeLog2 : Nat := 0
  vector : Nat := 0
  coalCount : Nat := 0
  coalTime : Nat := 0
  state : RingState := .disabled
  error : Nat := 0
  sqHead : Nat := 0
  sqTail : Nat := 0
  cqTail : Nat := 0
  cqHead : Nat := 0
  /-- Completion entries reserved by started commands (R67). -/
  reserved : Nat := 0
  unsignalled : Nat := 0
  /-- The instant of the oldest unsignalled completion entry. -/
  oldest : Nat := 0
  /-- An entry read from the ring that waits behind its fence (R70); its completion entry is reserved. -/
  fenced : Option Fenced := none
  deriving DecidableEq, Repr

/-- An event that waits in a host's event queue (R82); `mask` names the domains one of which its host must hold when it is posted (R81),
0 for an event about no resource. -/
structure Event where
  code : Nat
  detail : Nat
  result : Nat
  mask : Nat
  deriving DecidableEq, Repr

/-- A window page that is mapped (R60, R87): region, page within it, access and the domain it was mapped under. -/
structure WinPage where
  region : Nat := 0
  page : Nat := 0
  write : Bool := false
  domain : Nat := 0
  mapped : Bool := false
  deriving DecidableEq, Repr

/-- A host port: link, event queue, interrupt state, host-own registers and shadows. -/
structure HostPort where
  link : Bool := false
  cxl : Bool := false
  /-- The width in lanes and the rate in GT/s at which the link has trained (R53). -/
  width : Nat := 0
  rate : Nat := 0
  evtLost : Nat := 0
  evtMark : RcMark := {}
  lostSince : Nat := 0
  eventRing : Option Nat := none
  eventMask : Nat := 0
  events : List Event := []
  /-- MSI-X is disabled in the function's configuration space. -/
  msixOff : Bool := false
  /-- Vectors whose mask bit is 0, pending bits, and the address and data words of the table by `vector * 4 + word` (R53). -/
  msixUnmasked : Sparse Bool := []
  msixPending : Sparse Bool := []
  msixTable : Sparse Nat := []
  /-- SEC_KEY_LOCK.last_result (R103). -/
  keyResult : Nat := 0
  /-- Shadows of LANT_CNT_HI (R433) and of TIME (R392). -/
  lantHi : Nat := 0
  timeHi : Nat := 0
  timeSec : Nat := 0
  timeFrac : Nat := 0
  /-- The ring that took the host's last turn (R71). -/
  lastRing : Nat := 15
  deriving DecidableEq, Repr

/-- A started command (R67), with what was in force when its entry was read (R33) and when it started: the mode, whether its domain
was in the issuing host's held set, and whether its host held the key lock under its domain (R104). `working` marks one whose effect is
under way and whose reply a later row posts. -/
structure Started where
  cmd : Cmd
  mode : Mode
  held : Bool
  locked : Bool := false
  working : Bool := false
  /-- Another command on its object was in progress when it started, and its opcode answers BUSY for that. -/
  busy : Bool := false
  /-- Its reply is dropped: its host's port was reset (R72). -/
  dropped : Bool := false
  deriving DecidableEq, Repr

/-- A reply or event entry of 16 bytes (R77). -/
structure Entry where
  tag : Nat
  code : Nat
  status : Nat
  detail : Nat
  result : Nat
  deriving DecidableEq, Repr

/-- What the device puts outside, in the order in which it does so (R68): accesses of host memory name their address. -/
inductive Out where
  | long (host addr : Nat) (data : Bytes)
  | reply (host addr : Nat) (e : Entry)
  | sqRead (host addr : Nat)
  | entry (host addr : Nat) (e : Entry)
  | shadow (host addr : Nat) (data : Bytes)
  | msix (host vector : Nat)
  | read (host value : Nat)
  | mem (host : Nat) (data : Bytes)
  | frame (port : Nat) (data : Bytes)
  | pause (port enable : Nat) (quanta : List Nat)
  | eli (port : Nat) (lanes : List (Nat × List Nat))
  | cell (link : Nat) (data : Bytes)
  | fabric (link : Nat) (symbols : List Nat)
  | map (tree : Nat) (allocs : List (Nat × Nat × Nat))
  | ploam (tree onu code value : Nat)
  | omci (tree onu : Nat) (data : Bytes)
  | xgem (tree portId keyIndex : Nat) (data : Bytes)
  | pulse (out : Nat) (level : Bool)
  | jtag (data : Nat)
  | core (stack pc kind bank : Nat)
  deriving DecidableEq, Repr

/-- Host ports, rings by `host * 16 + ring`, windows by `host * 4096 + page`, the commands in progress, the 8-byte
words of exported regions by `region * 2^40 + offset / 8`, and what went outside, oldest first. -/
structure Hosts where
  ports : Sparse HostPort := []
  rings : Sparse Ring := []
  windows : Sparse WinPage := []
  started : List Started := []
  regions : Sparse Nat := []
  out : List Out := []
  /-- The host that took the last turn (R71). -/
  lastHost : Nat := 3
  deriving DecidableEq, Repr

/-! ### 04: domains, keys, debug -/

/-- A domain number (R88, R90): whether the domain exists, the host that holds it. Its epoch lies in the flash (R90). -/
structure Domain where
  live : Bool := false
  /-- The host that holds it; none while R98 applies. -/
  host : Option Nat := none
  deriving DecidableEq, Repr

/-- A key of the store (R100): its kind, 1 AES-128 or 2 AES-256; the big-endian number of its bytes is
read by no path but the cipher's and an export's wrap. -/
structure Key where
  kind : Nat := 0
  key : Nat := 0
  deriving DecidableEq, Repr

/-- The key lock when it is held (R103). -/
structure KeyLock where
  host : Nat
  domain : Nat
  deadline : Nat
  deriving DecidableEq, Repr

/-- Domains and secrecy. `owner` is keyed by `type * 2^24 + identifier`; a resource not listed belongs to D0 (R89). -/
structure Doms where
  domains : Sparse Domain := []
  owner : Sparse Nat := []
  principal : Nat := 0
  valid : Bool := true
  changeSeq : Nat := 0
  timeoutMs : Nat := 0
  successors : List Nat := []
  /-- The instant from which the heartbeat timeout runs (R96). -/
  beat : Nat := 0
  /-- Domains that pass with D0 while no host holds them (R98). -/
  orphans : List Nat := []
  keys : Sparse Key := []
  /-- The ladder is disabled until the next power-on reset (R108). -/
  ladderOff : Bool := false
  lock : Option KeyLock := none
  session : Option Session := none
  nonce : Nat := 0
  provisioned : Bool := false
  deriving DecidableEq, Repr

/-! ### 22: Lantern -/

/-- A Lantern counter (R426, R427): its value and mode, and the last cycle of its block that a level count took. -/
structure Counter where
  value : Nat := 0
  level : Bool := false
  last : Nat := 0
  deriving DecidableEq, Repr

/-! ### 05: lanes, ports -/

/-- PORT_MAP's personality (R113). -/
inductive Personality where
  | none
  | ethernet
  | eli
  | pon
  deriving DecidableEq, Repr

/-- PORT_STATUS.state (R118). -/
inductive LinkState where
  | disabled
  | training
  | up
  | faultLocal
  | faultRemote
  deriving DecidableEq, Repr

/-- What PORT_CONFIG sets beside enable (R125). -/
structure PortCfg where
  linkTraining : Bool := false
  downFlush : Bool := false
  maxFrame : Nat := 1518
  pfcRx : Nat := 0
  pfcTx : Nat := 0
  upHoldMs : Nat := 0
  fecDegradeCw : Nat := 0
  pfcMap : Nat := 0
  deriving DecidableEq, Repr

/-- A port instance: its binding (R124), its settings, its link state, its conditions (R118), its PFC pauses by class
(R117), and the counters of R127 by index. -/
structure Port where
  personality : Personality := .none
  firstLane : Nat := 0
  laneCount : Nat := 0
  laneRate : Nat := 0
  fec : Nat := 0
  tree : Nat := 0
  ponType : Nat := 0
  enable : Bool := false
  cfg : PortCfg := {}
  state : LinkState := .disabled
  cause : Nat := 0
  berAlarm : Bool := false
  /-- Conditions now present (R118): 1 loss of signal, 2 alignment lost, 4 Remote Fault, 5 FEC degrade, 6 ELI line
  condition, 7 cipher unavailable, 8 dBDI and 9 dLOL or dLOF of an ELI port, with the causes 4 and 2 (R139). A failed lane is read from
  the units. -/
  conds : List Nat := []
  /-- When the last condition cleared, or training began: up_hold_ms counts from it. -/
  clearSince : Nat := 0
  trainStart : Nat := 0
  /-- Pauses in force, by class: the instant at which each ends. -/
  paused : Sparse Nat := []
  counters : Sparse Nat := []
  deriving DecidableEq, Repr

/-- A lane: what LANE_CONFIG sets (R126), and the signal its receiver sees. -/
structure Lane where
  invert : Nat := 0
  taps : List Nat := []
  signalLost : Bool := false
  alignLost : Bool := false
  /-- Mapped out with its quad as a whole (R123). -/
  quadOut : Bool := false
  deriving DecidableEq, Repr

/-- Ports and network lanes. -/
structure Ports where
  port : Sparse Port := []
  lane : Sparse Lane := []
  /-- Packets in the egress pipe of a port, oldest first (R262). -/
  pipes : Sparse (List Nat) := []
  deriving DecidableEq, Repr

/-! ### Packets on their way through the device (01 R25, 12 R263) -/

/-- A descriptor (R263) by field. `stamp` is in 2^−40 ns. -/
structure Desc where
  queue : Nat := 0
  port : Nat := 0
  color : Nat := 0
  egressPass : Bool := false
  length : Nat := 0
  domain : Nat := 0
  mirror : Bool := false
  punt : Bool := false
  cls : Nat := 0
  hash : Nat := 0
  stamp : Nat := 0
  egressList : Nat := 0
  ingress : Nat := 0
  policer : Nat := 0
  policed : Bool := false
  ptpOffset : Nat := 0xFFFF
  ptpKind : Nat := 0
  ipv6 : Bool := false
  ecn : Bool := false
  ipOffset : Nat := 0xFFFF
  meta0 : Nat := 0
  meta1 : Nat := 0
  meta2 : Nat := 0
  deriving DecidableEq, Repr

/-- A fill that waits for its cluster's cache port (R250). -/
structure Fill where
  domain : Nat
  sig : Nat
  template : Nat
  bundle : Nat
  deriving DecidableEq, Repr

/-- A packet: its bytes without FCS, its descriptor, its header vector with the layer that wrote each field byte (one
more than the layer's index), and what its pass knows of it. -/
structure Packet where
  live : Bool := false
  bytes : Bytes := []
  desc : Desc := {}
  hv : Bytes := []
  writers : Sparse Nat := []
  /-- For each layer of its parse, whether its node has the IP flag (R163, R166). -/
  ipLayers : List Bool := []
  /-- One more than the number of the PON burst it came in (R276). -/
  burst : Nat := 0
  /-- The TSCLK cycle of its ingress stamp (R401). -/
  rxCycle : Nat := 0
  /-- The pass is an egress-feature pass (R264). -/
  egress : Bool := false
  cluster : Nat := 0
  steer : Nat := 0
  bucket : Nat := 0
  /-- It committed and waits for its order bucket, or its bucket has been passed by a release (R158, R159). -/
  committed : Bool := false
  late : Bool := false
  /-- MACsec: the SA that decrypted it and its packet number, and the verdict when it is known (R379). -/
  sa : Option Nat := none
  pn : Nat := 0
  verdict : Option Bool := none
  stomp : Bool := false
  /-- A failed verdict lets the frame pass all the same: validateFrames is Check and its E bit is clear (R379). -/
  checkPass : Bool := false
  /-- It is in a pass: a thread, a queue of Trailhead or its order bucket holds it. -/
  inPass : Bool := false
  /-- The action-list pointer its pass handed over, and the list as it stood then (R255, R256). -/
  pointer : Nat := 0
  list : Bytes := []
  /-- The tunnel cipher found it untrusted (R383). -/
  untrusted : Bool := false
  /-- The cells that hold it, in chain order (R266), and the instant the queue accepted it. -/
  cells : List Nat := []
  accepted : Nat := 0
  /-- The fill of Scout's cache that it makes when it goes to Guyline (R250). -/
  fill : Option Fill := none
  deriving DecidableEq, Repr

/-! ### 06: ELI -/

/-- A 66b block (R131): its sync header, the first bit in bit 1, and its payload, the first octet lowest. -/
structure Blk where
  sync : Nat
  data : Nat
  deriving DecidableEq, Repr

/-- A logical lane's receiver (R130). -/
structure EliLane where
  locked : Bool := false
  lane : Nat := 0
  groupCount : Nat := 0
  good : Nat := 0
  bad : Nat := 0
  skewNs : Nat := 0
  /-- When its last marker arrived: the lanes' group counts are compared at the lane groups that arrive together. -/
  markAt : Nat := 0
  deriving DecidableEq, Repr

/-- An offset of the hunt (R138). -/
structure EliCand where
  offset : Nat
  count : Nat
  mfas : Nat
  deriving DecidableEq, Repr

/-- A defect that R139 raises and clears by runs of frames: whether it is raised and the run against that. -/
structure Run where
  up : Bool := false
  run : Nat := 0
  deriving DecidableEq, Repr

/-- ELI_CONFIG's fields (R147). The spec states no reset value for them. -/
structure EliCfg where
  follow : Bool := false
  capMin : Nat := 0
  capMax : Nat := 0
  fixedCap : Nat := 0
  deriving DecidableEq, Repr

/-- A pending change of capacity (R142). -/
structure EliPending where
  raw : Nat
  cap : Nat
  left : Nat
  deriving DecidableEq, Repr

/-- The receiver of an ELI port: lanes, alignment, defects, last good overhead. -/
structure EliRx where
  lanes : Sparse EliLane := []
  inFrame : Bool := false
  cands : List EliCand := []
  badCount : Nat := 0
  nextMfas : Nat := 0
  offset : Nat := 0
  lol : Bool := false
  lof : Bool := false
  line : Run := {}
  bdi : Run := {}
  ais : Sparse Run := []
  slm : Sparse Bool := []
  /-- Labels of the copies received in this multiframe, by MFAS, one more than the label. -/
  labels : Sparse Nat := []
  frameCap : Nat := 0
  modemCap : Nat := 0
  /-- The run of equal announcements in one multiframe (R142): CAP_NEXT, countdown, length. -/
  annNext : Nat := 0
  annLeft : Nat := 0
  annRun : Nat := 0
  /-- Good frames of this multiframe all with a low CAP_NOW, and the full multiframes before it (R145). -/
  lowAll : Bool := false
  lowFrames : Nat := 0
  lowMulti : Nat := 0
  /-- The parity of the last frame's scrambled slots (R133), the last bits of each TEST slot (R134), and the packet that the blocks of
  the LOCAL slots have begun, with the mark of an error in it (R135). -/
  bip : Option Nat := none
  prbs : Sparse Nat := []
  packet : Option (Bytes × Bool) := none
  deriving DecidableEq, Repr

/-- The transmitter of an ELI port: capacity, slot table, pending changes. -/
structure EliTx where
  cap : Nat := 0
  mfas : Nat := 0
  sinceSwitch : Nat := 255
  pending : Option EliPending := none
  safetyDue : Bool := false
  /-- The first switch after IN_FRAME is due (R146). -/
  firstDue : Bool := true
  capLow : Bool := false
  bdi : Bool := false
  /-- The instants of the last increments of the hold-down counter (R144). -/
  holdDowns : List Nat := []
  /-- The parity of the last frame's scrambled slots (R133), the group count of the next lane group (R129), and the generators of the
  TEST slots (R134). -/
  bip : Nat := 0
  groupCount : Nat := 0
  prbs : Sparse Nat := []
  /-- The transmit buffer (R149), as the 66b blocks of its packets, and the deficit of the gaps between them. -/
  blocks : List Blk := []
  dic : Nat := 0
  deriving DecidableEq, Repr

/-- An ELI port. `types` and `rxTypes` are the slot tables in force, `next` one that waits for MFAS 0 (R137). -/
structure Eli where
  cfg : EliCfg := {}
  nextCfg : Option EliCfg := none
  types : Sparse Nat := []
  rxTypes : Sparse Nat := []
  nextTypes : Option (Sparse Nat) := none
  nextRx : Option (Sparse Nat) := none
  rx : EliRx := {}
  tx : EliTx := {}
  counters : Sparse Nat := []
  deriving DecidableEq, Repr

/-- An express group (R150), by `destination port * 128 + group`. -/
structure Express where
  live : Bool := false
  src : Nat := 0
  srcFirst : Nat := 0
  dstFirst : Nat := 0
  count : Nat := 0
  active : Bool := false
  replaced : Bool := false
  lost : Bool := false
  /-- The elastic store (R151), whether its blocks are being sent, and whether a packet goes on behind the last one. -/
  store : List Blk := []
  running : Bool := false
  mid : Bool := false
  deriving DecidableEq, Repr

/-- ELI ports and express groups. -/
structure Elis where
  port : Sparse Eli := []
  express : Sparse Express := []
  deriving DecidableEq, Repr

/-! ### 07: Trailhead, parser, classifiers -/

/-- A move of a steering entry that waits for the old cluster (R159). -/
structure SteerHold where
  active : Bool := false
  old : Nat := 0
  since : Nat := 0
  /-- Packets held in the new cluster, oldest first. -/
  held : List Nat := []
  deriving DecidableEq, Repr

/-- A node of the parse graph (R163): `extracts` holds source byte, length, destination byte. -/
structure GNode where
  flags : Nat
  fixedLen : Nat
  lenByte : Nat
  lenMask : Nat
  lenShift : Nat
  lenScale : Nat
  lenAdd : Nat
  selOff : Nat
  selBits : Nat
  count : Nat
  first : Nat
  dflt : Nat
  extracts : List (Nat × Nat × Nat)
  deriving DecidableEq, Repr

/-- A transition of the parse graph. -/
structure GTrans where
  value : Nat
  mask : Nat
  next : Nat
  deriving DecidableEq, Repr

/-- The parse graph in use (R160). -/
structure Graph where
  start : List Nat
  nodes : List GNode
  trans : List GTrans
  deriving DecidableEq, Repr

/-- PARSE_PORT (07 Registers). -/
structure ParsePort where
  profile : Nat := 0
  oddDrop : Bool := false
  hashSelect : Nat := 0
  deriving DecidableEq, Repr

/-- A rule of a decision tree (R167). -/
structure Rule where
  number : Nat
  result : Nat
  lo1 : Nat
  hi1 : Nat
  lo2 : Nat
  hi2 : Nat
  value : Nat
  mask : Nat
  deriving DecidableEq, Repr

/-- A field of a key template: header-vector byte, length, key bit. -/
structure KeyField where
  src : Nat
  len : Nat
  pos : Nat
  deriving DecidableEq, Repr

/-- A decision tree (R167–R169) with the image being staged (R175). -/
structure Tree where
  live : Bool := false
  partition : Nat := 0
  keyBits : Nat := 0
  rules : List Rule := []
  dflt : Nat := 0
  template : List KeyField := []
  staged : Bytes := []
  stagedPart : Nat := 0
  stagedRules : Nat := 0
  /-- Part of it lies in a failed bank of table SRAM; the part found no room in the healthy ones (R441). -/
  bankMiss : Bool := false
  bankLost : Bool := false
  deriving DecidableEq, Repr

/-- A pattern of an automaton set (R170). -/
structure Pattern where
  id : Nat
  anchored : Bool
  minStart : Nat
  maxStart : Nat
  bytes : Bytes
  mask : Bytes
  deriving DecidableEq, Repr

/-- An automaton set with the list being staged. -/
structure AutoSet where
  live : Bool := false
  partition : Nat := 0
  patterns : List Pattern := []
  staged : Bytes := []
  stagedPart : Nat := 0
  stagedCount : Nat := 0
  deriving DecidableEq, Repr

/-- Trailhead, the parser and the classifiers. `steer` holds one more than the cluster of an entry that does not name the
cluster it names at reset; `ingressQ` and `egressQ` are the queues of R157 by cluster; `buckets` the order buckets by
`cluster * 4096 + bucket`; `waiting` the frames of a port that Trailhead has not taken. -/
structure Parse where
  steer : Sparse Nat := []
  holds : Sparse SteerHold := []
  waiting : Sparse (List Nat) := []
  egressWaiting : List Nat := []
  ingressQ : Sparse (List Nat) := []
  egressQ : Sparse (List Nat) := []
  buckets : Sparse (List Nat) := []
  graph : Option Graph := none
  loadSeq : Nat := 0
  ports : Sparse ParsePort := []
  trees : Sparse Tree := []
  sets : Sparse AutoSet := []
  ruleAllow : Sparse Nat := []
  patternAllow : Sparse Nat := []
  /-- Counters of R176 by `port * 8 + index`. -/
  counters : Sparse Nat := []
  deriving DecidableEq, Repr

/-! ### 08: forwarding tables -/

/-- An entry of an exact-match or label table at its place (R199). `key` is the number of its key bytes, low byte
first; `stamp` is in milliseconds modulo 2^32. -/
structure TEntry where
  valid : Bool := false
  key : Nat := 0
  result : Nat := 0
  port : Nat := 0
  isStatic : Bool := false
  learned : Bool := false
  hit : Bool := false
  once : Bool := false
  stamp : Nat := 0
  deriving DecidableEq, Repr

/-- A route: the prefix as the number of 16 bytes in wire order, an IPv4 address in the first four; length; result. -/
structure Route where
  pfx : Nat
  len : Nat
  result : Nat
  deriving DecidableEq, Repr

/-- The ageing settings of a table (R191, R192). -/
structure AgeCfg where
  mode : Nat := 0
  sweepMs : Nat := 0
  limitMs : Nat := 0
  deriving DecidableEq, Repr

/-- A table (R177). `entries` by place: `bucket * 4 + slot`, the stash in the pseudo-buckets after the last bucket.
`routes` by rising prefix and length. -/
structure Table where
  live : Bool := false
  kind : Nat := 0
  mirror : Bool := false
  learn : Bool := false
  sram : Bool := false
  partition : Nat := 0
  keyBits : Nat := 0
  size : Nat := 0
  entries : Sparse TEntry := []
  routes : List Route := []
  age : AgeCfg := {}
  /-- A TABLE_AGE that waits for the next period (R191). -/
  nextAge : Option AgeCfg := none
  /-- When the sweeper's period began, and the next pseudo-bucket it visits. -/
  period : Nat := 0
  swept : Nat := 0
  agedOut : Nat := 0
  /-- TABLE_ERR_LOG and the errors since creation (R196). -/
  errValid : Bool := false
  errRepaired : Bool := false
  errStack : Nat := 0
  errSlot : Nat := 0
  errBucket : Nat := 0
  errors : Nat := 0
  /-- How many moves the update engine has made, and the number of the move that brought an entry to its place (R187, R200). -/
  moves : Nat := 0
  movedAt : Sparse Nat := []
  /-- Places whose first copy is bad and waits for its repair, or whose entry, bad in every copy, waits for a bucket lock to clear
  before it is invalidated (`dying`); leaves of the trie that wait for a rebuild. -/
  badPlaces : List Nat := []
  dying : List Nat := []
  badLeaves : List Nat := []
  /-- A bank of table SRAM that the table needs is mapped out and not rebuilt, or its rebuild found no room (R441). -/
  bankMiss : Bool := false
  bankLost : Bool := false
  deriving DecidableEq, Repr

/-- A hit write on its way to the update port (R190). -/
structure HitWrite where
  table : Nat
  gen : Nat
  key : Nat
  handle : Nat
  deriving DecidableEq, Repr

/-- A learn request (R194), with the domain of its packet. -/
structure LearnReq where
  domain : Nat
  table : Nat
  key : Nat
  result : Nat
  port : Nat
  deriving DecidableEq, Repr

/-- A conditional delete on its way to the update port (R193). -/
structure CondDel where
  table : Nat
  gen : Nat
  place : Nat
  key : Nat
  stampMode : Bool
  stamp : Nat
  deriving DecidableEq, Repr

/-- A TABLE_DMA that runs (R198): the bucket lock is on the bucket `first + moved` since `lockAt`. -/
structure TableDma where
  cmd : Cmd
  table : Nat
  load : Bool
  first : Nat
  count : Nat
  moved : Nat := 0
  abandoned : Nat := 0
  lockAt : Nat
  data : Bytes
  deriving DecidableEq, Repr

/-- The learn settings of a port (R195). -/
structure LearnPort where
  limit : Nat := 0
  flood : Bool := false
  charge : Nat := 0
  /-- Learns refused at the limit. -/
  excess : Nat := 0
  deriving DecidableEq, Repr

/-- The forwarding tables: tables by id, their generations (R200), what waits for the update ports, the leaf cache by
domain, table and leaf, oldest first (R182), and the allowances of R202. -/
structure Tables where
  tables : Sparse Table := []
  gens : Sparse Nat := []
  hits : List HitWrite := []
  learns : List LearnReq := []
  deletes : List CondDel := []
  dma : Option TableDma := none
  ports : Sparse LearnPort := []
  leafCache : List (Nat × Nat × Nat) := []
  unitAllow : Sparse Nat := []
  entryAllow : Sparse Nat := []
  deriving DecidableEq, Repr

/-! ### 09: associative arrays -/

/-- A row of a block (R203): value and mask of 80 bits, valid bit, result; `bad` is a parity error not yet rewritten, which clears `valid`. -/
structure ARow where
  valid : Bool := false
  value : Nat := 0
  mask : Nat := 0
  result : Nat := 0
  bad : Bool := false
  /-- The row is valid in Basecamp's copy while it is bad here. -/
  held : Bool := false
  deriving DecidableEq, Repr

/-- A block's error log (R212). -/
structure ABlock where
  errValid : Bool := false
  errRepaired : Bool := false
  errRow : Nat := 0
  errors : Nat := 0
  deriving DecidableEq, Repr

/-- A record of an ASSOC_WRITE. -/
structure ARecord where
  row : Nat
  position : Nat
  invalidate : Bool
  result : Nat
  value : Nat
  mask : Nat
  deriving DecidableEq, Repr

/-- An ASSOC_WRITE that runs (R210, R211): what is left of its buffer from record `index` on, and the step that comes
next: 0 invalidate, 1 write, 2 validate. -/
structure AWork where
  cmd : Cmd
  data : Bytes
  count : Nat
  index : Nat := 0
  step : Nat := 0
  deriving DecidableEq, Repr

/-- An array (R203). Tags by `position * 256 + group`, as `gval * 256 + gmask` (R206). -/
structure AArray where
  live : Bool := false
  first : Nat := 0
  count : Nat := 0
  width : Nat := 1
  prefilter : Bool := false
  pf : List Nat := []
  tags : Sparse Nat := []
  work : Option AWork := none
  /-- Updates that wait for the one that runs, oldest first. -/
  later : List AWork := []
  /-- The next CCLK cycle in which the array can start a search, and the first in which it grants an update slot while
  searches wait (R208, R211). -/
  nextSlot : Nat := 0
  nextUpdate : Nat := 0
  /-- Searches that met a block mapped out (R213). -/
  refused : Nat := 0
  deriving DecidableEq, Repr

/-- A search response (R208). -/
structure AResponse where
  status : Nat
  position : Nat := 0
  row : Nat := 0
  groups : Nat := 0
  result : Nat := 0
  deriving DecidableEq, Repr

/-- A search under way: who asked, the array, the key, the CCLK cycle in which it starts, and, once it has started, its response and the
rows that match, best first, as position, row and result. -/
structure ASearch where
  thread : ThreadId
  tag : Nat
  array : Nat
  key : Nat
  start : Nat
  response : Option AResponse := none
  found : List (Nat × Nat × Nat) := []
  deriving DecidableEq, Repr

/-- The associative arrays. Rows by `block * 8192 + row`. -/
structure Assoc where
  rows : Sparse ARow := []
  blocks : Sparse ABlock := []
  arrays : Sparse AArray := []
  searches : List ASearch := []
  deriving DecidableEq, Repr

/-! ### 10: engines and threads -/

/-- ENG_THREAD.state. -/
inductive TState where
  | empty
  | run
  | wait
  | stopped
  | faulted
  deriving DecidableEq, Repr

/-- An operation that a provisional thread, or one whose MACsec verdict is outstanding, holds behind its CONFIRM (R222,
R249, R379). -/
inductive HeldOp where
  | confirm
  | signal (engine thread sig : Nat)
  | stage (channel word value : Nat)
  | commit
  | chanRead (channel : Nat)
  | faultRaise (code detail : Nat)
  | faultRead
  | dma (toLocal : Bool) (packetOff localOff len : Nat)
  | localWrite (word value : Nat)
  | sharedWrite (word value : Nat)
  | learn (table : Nat) (key : Bytes) (result : Nat)
  | metaWord (i value : Nat)
  | passEnd (e : PassEnd)
  deriving DecidableEq, Repr

/-- What a thread in WAIT, or one that cannot go on, waits for: a selected event (R219), a free slot of a channel
(R223), Scout's comparison or a verdict (R221, R379). -/
inductive Waiting where
  | none
  | events
  | slot (channel word value : Nat)
  | confirm (op : HeldOp)
  deriving DecidableEq, Repr

/-- A DMA between the packet buffer and local memory (R218). -/
structure PktDma where
  toLocal : Bool
  packetOff : Nat
  localOff : Nat
  len : Nat
  deriving DecidableEq, Repr

/-- A request outstanding, by its event bit (R218): when it was issued, whether after the checkpoint, its response, the
table entry it hit, the LPM leaf it read, and the table it looked into. -/
structure Request where
  live : Bool := false
  at_ : Nat := 0
  after : Bool := false
  status : Nat := 0
  result : Nat := 0
  bytes : Bytes := []
  hit : Option (Nat × Nat × Nat) := none
  /-- The leaves of an LPM route, by domain, table and leaf, and whether they lie in S0–S3. -/
  leaves : List (Nat × Nat × Nat) := []
  far : Bool := false
  table : Option Nat := none
  /-- A classification: it waits for a cluster slot and counts as wasted under R173. -/
  tree : Bool := false
  dma : Option PktDma := none
  deriving DecidableEq, Repr

/-- A response that has arrived, by its tag: what Scout's comparison and the thread read of it. -/
structure Got where
  live : Bool := false
  status : Nat := 0
  result : Nat := 0
  after : Bool := false
  bytes : Bytes := []
  /-- It is a classification's (R173). -/
  tree : Bool := false
  deriving DecidableEq, Repr

/-- The checkpoint (R245). -/
structure Checkpoint where
  pc : Nat
  regs : Sparse Nat
  mask : Nat
  watch : Sparse Nat
  timer : Option Nat
  issued : Nat
  deriving DecidableEq, Repr

/-- The outcome of Scout's comparison (R246): `other` marks one denied, timed out or incomplete. -/
inductive Compare where
  | open_
  | equal
  | unequal (other : Bool) (timeout : Option Nat)
  deriving DecidableEq, Repr

/-- What Scout keeps for the pass of a thread (11): the settings at dispatch, the flow signature and template, the
prediction, the checkpoint, the undo log (word and old value, newest first), the event bits that provisional WAITs
cleared, the slots it issued, and requests issued after the checkpoint. -/
structure Spec where
  enabled : Bool := false
  fill : Bool := false
  sig : Nat := 0
  template : Nat := 0
  probed : Bool := false
  due : Option Nat := none
  /-- The bundle that the probe found, with its way. -/
  found : Option (Nat × Nat) := none
  prov : Bool := false
  ckpt : Option Checkpoint := none
  compare : Compare := .open_
  undo : List (Nat × Nat) := []
  cleared : Nat := 0
  slots : Nat := 0
  heldFault : Option (Nat × Nat) := none
  deriving DecidableEq, Repr

/-- A thread. `mem` by 8-byte word, `out` and `got` by event bit, `issuedTags` the tags requested in this pass. -/
structure Thread where
  state : TState := .empty
  /-- The state it had before a stop; a stop that waits for the bundle boundary, after a step or not. -/
  before : TState := .empty
  stopDue : Bool := false
  stepping : Bool := false
  resident : Bool := false
  entry : Nat := 0
  regs : Sparse Nat := []
  mem : Sparse Nat := []
  pc : Nat := 0
  /-- The address of the bundle issued last. -/
  last : Nat := 0
  pending : Nat := 0
  mask : Nat := 0
  waiting : Waiting := .none
  /-- Watch registers, one more than the channel; 0 where it points at none. -/
  watch : Sparse Nat := []
  timer : Option Nat := none
  /-- The CCLK in which TIMER_SET set it (R220). -/
  timerSet : Nat := 0
  pass : Option Nat := none
  domain : Nat := 0
  egress : Bool := false
  issued : Nat := 0
  yieldUntil : Nat := 0
  parsed : Bool := false
  channel : Option Nat := none
  staged : Sparse Nat := []
  stagedMask : Nat := 0
  out : Sparse Request := []
  got : Sparse Got := []
  issuedTags : Nat := 0
  hits : List (Nat × Nat × Nat × Bool) := []
  /-- What the last WAIT returned, and the last channel message read; none for an empty channel (R219, R225). -/
  returned : Nat := 0
  message : Option (List Nat) := none
  spec : Spec := {}
  deriving DecidableEq, Repr

/-- An engine (R216, R217): its slot pointer, its slot table where it was written, one more than the thread per entry, and
a table that waits for the pointer's return. -/
structure Engine where
  pointer : Nat := 0
  slots : Sparse Nat := []
  next : Option (List Nat) := none
  /-- One more than the CCLK cycle in which its lanes issued last (R216). -/
  issuedAt : Nat := 0
  deriving DecidableEq, Repr

/-- A channel (R223–R225): messages visible, oldest first; commits not yet visible, with their instant
and their engine and thread; slots reserved;
commits modulo 65,536. -/
structure Channel where
  visible : List (List Nat) := []
  coming : List (Nat × Nat × List Nat) := []
  reserved : Nat := 0
  commits : Nat := 0
  deriving DecidableEq, Repr

/-- A signal on its way (R220): when it arrives, the target and the signal. -/
structure SignalDue where
  due : Nat
  engine : Nat
  thread : Nat
  sig : Nat
  deriving DecidableEq, Repr

/-- A cluster: supervisor, limits, ALLWAIT, fault queue, channels, shared memory, signals; the origin of its time counter
(R220), its health words (R442), its drain, and the profile it runs. -/
structure Cluster where
  supEngine : Nat := 0
  supThread : Nat := 0
  allwaitUs : Nat := 50
  budget : Nat := 2048
  allwait : Bool := false
  snap : Sparse Nat := []
  snapThreads : Nat := 0
  /-- The instant from which every watched thread has been in an internal-only wait. -/
  quiet : Option Nat := none
  /-- When a record 0x07 was posted to the supervisor in this firing. -/
  recorded : Option Nat := none
  stall : Bool := false
  draining : Bool := false
  faults : List Bytes := []
  /-- The CCLK of the record posted last, and how many of the last records were posted in it (R229). -/
  faultCycle : Nat := 0
  faultsNew : Nat := 0
  channels : Sparse Channel := []
  shared : Sparse Nat := []
  signals : List SignalDue := []
  origin : Nat := 0
  health : Nat := 0
  profile : Nat := 0
  deriving DecidableEq, Repr

/-- A forwarding profile (R234): its image, and what it declares: resident threads by engine, thread and entry point, the
doorbell channel, the layouts of its tables as entry size and count. -/
structure Profile where
  seq : Nat := 0
  version : Nat := 0
  security : Nat := 0
  image : Bytes := []
  residents : List (Nat × Nat × Nat) := []
  doorbell : Nat := 0
  layout : List (Nat × Nat) := []
  deriving DecidableEq, Repr

/-- The engines: clusters, engines by `cluster * 16 + engine`, threads by `cluster * 256 + engine * 16 + thread`, the
active profile and the one staged, and profile-table entries by `(partition * 64 + table) * 2^32 + index`. -/
structure Engines where
  clusters : Sparse Cluster := []
  engines : Sparse Engine := []
  threads : Sparse Thread := []
  active : Option Profile := none
  ready : Option Profile := none
  staged : Bytes := []
  loading : Bool := false
  tables : Sparse Bytes := []
  /-- Packets that kills dropped, by domain (R233). -/
  kills : Sparse Nat := []
  deriving DecidableEq, Repr

/-! ### 11: Scout -/

/-- An extract of a template: header-vector byte and length; a mapped field: one more than its tag (0 for unmapped) and
the bit of its result. -/
structure Template where
  enabled : Bool := false
  extracts : List (Nat × Nat) := []
  fields : List (Nat × Nat) := []
  deriving DecidableEq, Repr

/-- An entry of a cluster's cache (R240); `used` orders its set by use. -/
structure SEntry where
  valid : Bool := false
  sig : Nat := 0
  template : Nat := 0
  domain : Nat := 0
  bundle : Nat := 0
  used : Nat := 0
  deriving DecidableEq, Repr

/-- SCOUT_DOM's settings (R253). -/
structure ScoutDom where
  enable : Bool := false
  fill : Bool := false
  alarm : Nat := 0
  deriving DecidableEq, Repr

/-- Scout: segments' owners (R240), settings by domain, templates by `domain * 32 + template`, cache entries by
`((cluster * 64 + segment) * 64 + set) * 4 + way`, fill queues by cluster, SCOUT_STATS by
`(cluster * 16 + domain) * 8 + index`, and the hits and squashes of the present interval by `cluster * 16 + domain`. -/
structure Scout where
  segs : Sparse Nat := []
  doms : Sparse ScoutDom := []
  templates : Sparse Template := []
  cache : Sparse SEntry := []
  uses : Nat := 0
  fills : Sparse (List Fill) := []
  stats : Sparse Nat := []
  hits : Sparse Nat := []
  squashes : Sparse Nat := []
  interval : Nat := 0
  deriving DecidableEq, Repr

/-! ### 12: action lists -/

/-- The action store (R254): the lists by pointer, the allowances, the edit queue of each cluster and the counters of
EDIT_STATS by `domain * 8 + index`. -/
structure Actions where
  lists : Sparse Bytes := []
  /-- Lists whose granules lie in a failed bank of table SRAM, and those of them that found no room in the healthy banks (R441). -/
  missing : List Nat := []
  lost : List Nat := []
  allow : Sparse Nat := []
  editQ : Sparse (List Nat) := []
  stats : Sparse Nat := []
  deriving DecidableEq, Repr

/-! ### 13: the buffer pool -/

/-- A cell that is allocated: its link word (R266) and the account and pool it is charged to. -/
structure CellState where
  used : Bool := false
  next : Option Nat := none
  bytes : Nat := 0
  account : Nat := 0
  pool : Nat := 0
  ingress : Nat := 0
  /-- What it held is lost: its stack or bank was mapped out (R269, R284). -/
  lost : Bool := false
  deriving DecidableEq, Repr

/-- A free-cell ring (R270): how many of the pointers it was built with have been taken, and the pointers returned since,
oldest first. -/
structure FreeRing where
  built : Bool := false
  taken : Nat := 0
  back : List Nat := []
  deriving DecidableEq, Repr

/-- A threshold of a pool (R278). -/
structure Threshold where
  measure : Nat := 0
  setCells : Nat := 0
  clearCells : Nat := 0
  actions : Nat := 0
  pfcClasses : Nat := 0
  pfcFloor : Nat := 0
  /-- POOL_THRESH has written it. -/
  written : Bool := false
  isSet : Bool := false
  deriving DecidableEq, Repr

/-- A pool (R274). -/
structure Pool where
  enabled : Bool := false
  near : Nat := 0
  far : Nat := 0
  nearUsed : Nat := 0
  farUsed : Nat := 0
  high : Nat := 0
  thresholds : Sparse Threshold := []
  /-- Cells held per ingress port (R278). -/
  byPort : Sparse Nat := []
  cacheNear : List Nat := []
  cacheFar : List Nat := []
  counters : Sparse Nat := []
  deriving DecidableEq, Repr

/-- An account (R274). -/
structure Account where
  valid : Bool := false
  pool : Nat := 0
  domain : Nat := 0
  min : Nat := 0
  max : Nat := 0
  used : Nat := 0
  farUsed : Nat := 0
  high : Nat := 0
  counters : Sparse Nat := []
  deriving DecidableEq, Repr

/-- A far page that does not lie where start-up put it (R269). -/
structure FarPage where
  moved : Bool := false
  lost : Bool := false
  stack : Nat := 0
  slot : Nat := 0
  deriving DecidableEq, Repr

/-- A PFC pause that the device holds on a port and class (R279). -/
structure Xoff where
  on : Bool := false
  refresh : Nat := 0
  deriving DecidableEq, Repr

/-- A requester of R276 that writes a packet: the packet and whether it must wait. -/
structure Writer where
  busy : Bool := false
  packet : Nat := 0
  far : Bool := false
  decided : Bool := false
  deriving DecidableEq, Repr

/-- The buffer pool. `frees` holds cells that the reader or a drop gives back; `arrivals` the packets that wait for a
writer, with the writer class (0 ingress, 1 fabric, 2 PON, 3 recirculation). -/
structure Bufs where
  pools : Sparse Pool := []
  accounts : Sparse Account := []
  cells : Sparse CellState := []
  nearRing : FreeRing := {}
  farRing : FreeRing := {}
  /-- Stacks that hold a copy of the far ring (R271); a rebuild under way. -/
  farCopies : List Nat := []
  farCopyWork : Option Nat := none
  farRingWork : Option Nat := none
  pages : Sparse FarPage := []
  xoff : Sparse Xoff := []
  writers : Sparse Writer := []
  arrivals : List (Nat × Nat) := []
  frees : List Nat := []
  /-- Cells whose free falls at the end of the present TCLK cycle (R273). -/
  endFrees : List Nat := []
  /-- By pool, one more than the TCLK cycle that its allocator served last (R276). -/
  served : Sparse Nat := []
  /-- Free pointers that are withheld: their bank or stack is out of service, or the stack changes its operating point. -/
  aside : List Nat := []
  errValid : Bool := false
  errKind : Nat := 0
  errCount : Nat := 0
  errMark : RcMark := {}
  errAddr : Nat := 0
  corrected : Nat := 0
  deriving DecidableEq, Repr

/-! ### 14: queues and the scheduler; 15: what hangs on a queue -/

/-- A node of the scheduler (R286–R299). Tokens are in 1/65,536 byte or packet; they stood as they are written at the
TCLK cycle `filled`. -/
structure Node where
  live : Bool := false
  owner : Nat := 0
  parentLevel : Nat := 0
  parent : Nat := 0
  priority : Nat := 0
  weight : Nat := 0
  mode : Nat := 0
  overhead : Int := 0
  cir : Nat := 0
  pir : Nat := 0
  cbs : Nat := 0
  pbs : Nat := 0
  tokC : Int := 0
  tokP : Int := 0
  filled : Nat := 0
  defC : Int := 0
  defE : Int := 0
  /-- The rings of R298 by `pass * 8 + priority`, the ring pointer's child first; children by `level * 2^20 + id`. -/
  rings : Sparse (List Nat) := []
  attachMask : Nat := 0
  /-- The peak rate in force of an ELI port's node (R303), one more than the rate. -/
  eliRate : Nat := 0
  deriving DecidableEq, Repr

/-- A queue's state (R290). -/
inductive QueueState where
  | closed
  | opened
  | closing
  deriving DecidableEq, Repr

/-- A queue: its packets oldest first, spill settings (R280), congestion settings (R321–R327), counters. -/
structure Queue where
  state : QueueState := .closed
  maxCells : Nat := 0
  packets : List Nat := []
  depth : Nat := 0
  flushing : Bool := false
  account : Nat := 0
  mark : Nat := 0
  clear : Nat := 0
  predict : Bool := false
  spilling : Bool := false
  /-- Depth snapshots of the last epochs, newest first, and the epoch of the newest (R280). -/
  snaps : List Nat := []
  epoch : Nat := 0
  counters : Sparse Nat := []
  /-- Profile slots, one more than the profile id; 0 is 0xFFFF (none). -/
  slots : Sparse Nat := []
  sojournUs : Nat := 0
  avg : Nat := 0
  emptyAt : Nat := 0
  cong : Sparse Nat := []
  high : Nat := 0
  /-- The mark before the present cycle, and one more than the TCLK cycle that changed it last (R325). -/
  highOld : Nat := 0
  highCycle : Nat := 0
  selected : Bool := false
  deriving DecidableEq, Repr

/-- A selection in flight (R300): the slice, the level-A node, the path chosen with its passes (child, pass), the queue. -/
structure Selection where
  slice : Nat
  node : Nat
  path : List (Nat × Nat)
  queue : Nat
  deriving DecidableEq, Repr

/-- The queue manager and scheduler. `nodes` by `level * 2^20 + id`; `moved` holds one more than the slice of a level-A
node that moved (R307, R308). -/
structure Tm where
  nodes : Sparse Node := []
  queues : Sparse Queue := []
  moved : Sparse Nat := []
  /-- The rank of a moved node's claim on its slice's selections: nodes of lower rank come first, those that have not moved
  (rank 0) before all (R308). -/
  claim : Sparse Nat := []
  selections : List Selection := []
  allow : Sparse Nat := []
  /-- The level-A node a slice selected last (R300), one more. -/
  lastA : Sparse Nat := []
  /-- By slice, one more than the TCLK cycle of its last selection (R300). -/
  selectedAt : Sparse Nat := []
  /-- The TCLK cycle of the last NODE_CONFIG, and the nodes as they stood before the writes of that cycle (R309). -/
  prior : Option (Nat × Sparse Node) := none
  deriving DecidableEq, Repr

/-! ### 15: policers, congestion profiles, observation -/

/-- A policer (R318–R320): its settings, its two buckets in 1/65,536 as they stood at the TCLK cycle `filled`, its counters. -/
structure Policer where
  enable : Bool := false
  kind : Nat := 0
  aware : Bool := false
  couple : Bool := false
  packet : Bool := false
  overhead : Int := 0
  yellowDrop : Bool := false
  redDrop : Bool := true
  cir : Nat := 0
  rate2 : Nat := 0
  cbs : Nat := 0
  size2 : Nat := 0
  tokC : Nat := 0
  tok2 : Nat := 0
  filled : Nat := 0
  stats : Sparse Nat := []
  deriving DecidableEq, Repr

/-- A congestion profile. -/
structure CongProfile where
  live : Bool := false
  owner : Nat := 0
  mode : Nat := 0
  w : Nat := 0
  decayNs : Nat := 0
  minTh : Nat := 0
  maxTh : Nat := 0
  maxP : Nat := 0
  hardTh : Nat := 0
  deriving DecidableEq, Repr

/-- A domain's latency observer (R326): OBS_CONFIG's settings, the last sequence number, the place of the next record. -/
structure Observer where
  enable : Bool := false
  pages : Nat := 0
  periodUs : Nat := 0
  late : Bool := false
  seq : Nat := 0
  pos : Nat := 0
  /-- The start of the next sample period (R326). -/
  next : Nat := 0
  deriving DecidableEq, Repr

/-- A policer as it stood before a POLICER_CONFIG of the TCLK cycle before `cycle` (R320), and whether the write keeps its tokens. -/
structure PriorPolicer where
  cycle : Nat := 0
  keeps : Bool := false
  old : Policer := {}
  deriving DecidableEq, Repr

/-- A congestion profile as it stood before a CONG_PROFILE of the TCLK cycle before `cycle` (R328). -/
structure PriorProfile where
  cycle : Nat := 0
  old : CongProfile := {}
  deriving DecidableEq, Repr

/-- Policing and congestion: `gens` holds a slice's generator (R322), 0 where the random source still seeds it; `denied` the
policer-denied drops by domain. -/
structure Police where
  policers : Sparse Policer := []
  profiles : Sparse CongProfile := []
  obs : Sparse Observer := []
  gens : Sparse Nat := []
  profileAllow : Sparse Nat := []
  slotAllow : Sparse Nat := []
  denied : Sparse Nat := []
  priorPolicers : Sparse PriorPolicer := []
  priorProfiles : Sparse PriorProfile := []
  deriving DecidableEq, Repr

/-! ### 16: the fabric interface -/

/-- A virtual output queue (R335–R337, R344), by its queue: the destination, the credit balance in bytes, the last demand sent
and when, and when the balance fell to 0 or below. -/
structure Voq where
  mapped : Bool := false
  device : Nat := 0
  dstQueue : Nat := 0
  balance : Int := 0
  /-- Credit of the TCLK cycle before `recentAt`, which counts from the next one (R336). -/
  recent : Nat := 0
  recentAt : Nat := 0
  lastDemand : Nat := 0
  lastRequest : Nat := 0
  starvedAt : Option Nat := none
  deriving DecidableEq, Repr

/-- A fabric link (R330, R331, R341, R342): its lane's lock and the runs of good and bad markers, whether it is in the round
robin, whether it is mapped out by command, the run of cells with rdi, the instants of its last discards for CRC, since when it
has held lock with no rdi, and a map-out under way with its command. -/
structure FabLink where
  locked : Bool := false
  good : Nat := 0
  bad : Nat := 0
  robin : Bool := false
  commandOut : Bool := false
  laneFailed : Bool := false
  rdiRx : Bool := false
  rdiRun : Nat := 0
  crc : List Nat := []
  cleanSince : Option Nat := none
  resendDue : Bool := false
  work : Option (Cmd × Nat) := none
  /-- The lane group being sent (R330): its group_count and its cells so far. -/
  txGroup : Nat := 0
  txCells : List Bytes := []
  deriving DecidableEq, Repr

/-- A data cell on its way out: its pair's destination, its sequence number, the link that carried it last, the VOQ, the packet
it is of, and its header fields and payload. -/
structure OutCell where
  device : Nat
  seq : Nat
  link : Nat
  packet : Nat
  first : Bool
  last : Bool
  queue : Nat
  payload : Bytes
  deriving DecidableEq, Repr

/-- A packet whose cells are being sent: its VOQ, and its cells' payload left. -/
structure OutPacket where
  packet : Nat
  voq : Nat
  device : Nat
  queue : Nat
  first : Bool
  rest : Bytes
  deriving DecidableEq, Repr

/-- A cell held for reordering, with the instant of its arrival (R340). -/
structure HeldCell where
  seq : Nat
  first : Bool
  last : Bool
  queue : Nat
  payload : Bytes
  since : Nat := 0
  deriving DecidableEq, Repr

/-- A pair as its destination sees it (R340), by source device: the next number it expects, the cells held beyond it, since when
a gap stands open, the packet under reassembly, and whether the acknowledgement has moved since it was last sent. -/
structure RxPair where
  next : Nat := 0
  held : List HeldCell := []
  gap : Option Nat := none
  building : Option Bytes := none
  ackDue : Bool := false
  deriving DecidableEq, Repr

/-- What a destination keeps of a requesting VOQ (R338): the egress queue, the demand and the units granted since. -/
structure Demand where
  queue : Nat := 0
  demand : Nat := 0
  granted : Nat := 0
  deriving DecidableEq, Repr

/-- FAB_PORT_CREDIT's settings, the instant from which the generator may issue, and the VOQ served last (R338). -/
structure PortCredit where
  pct : Nat := 0
  depth : Nat := 0
  ready : Nat := 0
  last : Nat := 0
  deriving DecidableEq, Repr

/-- A request entry that waits: its destination, VOQ, egress queue, demand and resync flag (R337). -/
structure ReqEntry where
  device : Nat
  voq : Nat
  queue : Nat
  demand : Nat
  resync : Bool
  deriving DecidableEq, Repr

/-- The fabric interface. `demands` by `source device * 2^20 + VOQ`; `nextSeq` by destination; `credits` hold source device,
VOQ and units; `resend` the cells to be sent again. -/
structure Fab where
  enabled : Bool := false
  device : Nat := 0
  voqs : Sparse Voq := []
  links : Sparse FabLink := []
  sending : List OutPacket := []
  nextSeq : Sparse Nat := []
  unacked : List OutCell := []
  resend : List OutCell := []
  pairs : Sparse RxPair := []
  demands : Sparse Demand := []
  portCredit : Sparse PortCredit := []
  requests : List ReqEntry := []
  credits : List (Nat × Nat × Nat) := []
  stats : Sparse Nat := []
  deriving DecidableEq, Repr

/-! ### 17, 18: PON trees and grants -/

/-- PON_ONU_STATUS.state (R357). -/
inductive OnuState where
  | empty
  | provisioned
  | ranging
  | operational
  | lost
  | isolated
  deriving DecidableEq, Repr

/-- An ONU of a tree. `eqd` is in 2^−16 ns, `offsets` the delimiter offsets of the last accepted bursts in 2^−16 ns, newest
first; key slots are one more than the slot; `active` is 1 when downstream frames use index 2; `switch` a change of the active
index under way: the command, the index and, once the Key_Control exchange is complete, the SFC from which it may take effect;
`candidates` the instants of its attributed candidates. -/
structure Onu where
  state : OnuState := .empty
  serial : Nat := 0
  onuId : Nat := 0
  profile : Nat := 0
  key1 : Nat := 0
  key2 : Nat := 0
  active : Nat := 0
  switch : Option (Cmd × Nat × Option Nat) := none
  eqd : Nat := 0
  offsets : List Int := []
  rangeSent : Bool := false
  attempts : Nat := 0
  missed : Nat := 0
  candidates : List Nat := []
  /-- The frame in which the ONU was isolated (R357). -/
  isolatedIn : Nat := 0
  deriving DecidableEq, Repr

/-- A burst profile (R353). -/
structure BurstProfile where
  fec : Bool := false
  delimiter : Nat := 0
  preamble : Nat := 0
  pattern : Nat := 0
  deriving DecidableEq, Repr

/-- A burst of a map (R369): the ONU, its allocations (the grant entry, none for PLOAM, with its Alloc-ID and bytes), the line byte of
the frame at which it starts and the bits before its delimiter. -/
structure MapBurst where
  onu : Nat
  allocs : List (Option Nat × Nat × Nat)
  start : Nat := 0
  lead : Nat := 0
  deriving DecidableEq, Repr

/-- What a map computation did to a node: the rings as it left them, and the changes of deficits and tokens. -/
structure NodeChange where
  key : Nat
  rings : Sparse (List Nat)
  defC : Int
  defE : Int
  tokC : Int
  tokP : Int
  deriving DecidableEq, Repr

/-- A map computed for a frame (R367): the quiet line bytes at its start, for whom (none: discovery) and whether a window begins
with them; its bursts; what it leaves of the line; what it found and its debits per node. -/
structure GrantMap where
  frame : Nat
  ready : Bool
  bursts : List MapBurst
  quiet : Nat
  quietFor : Option Nat
  quietNew : Bool
  free : Nat
  caps : List (Nat × Nat)
  refused : Nat
  trimCapped : Bool
  bufCapped : Bool
  changes : List NodeChange
  deriving DecidableEq, Repr

/-- The window of a grant (R354): its number, the frame of its map, the burst, the expected arrival in 2^−16 ns. -/
structure GrantWindow where
  number : Nat
  frame : Nat
  burst : MapBurst
  expected : Nat
  deriving DecidableEq, Repr

/-- A destination group (R371, R373). -/
structure GrantGroup where
  live : Bool := false
  trim : Bool := false
  onUs : Nat := 0
  offUs : Nat := 0
  shareMin : Nat := 0
  fMin : Nat := 0
  step : Nat := 0
  members : Nat := 0
  /-- 256 less the factor *f*. -/
  cut : Nat := 0
  sojournUs : Nat := 0
  deriving DecidableEq, Repr

/-- A tree: what PON_TREE_CONFIG and GRANT_TREE_CONFIG set, framing, the ranging and rogue engines, OMCI, and counters.
`rogueManual` is the complement of rogue_auto; `unitLess` holds grant_unit when it is not 2,048, `guardLess` guard_bits when it
is not 64, `limitSet` rogue_limit when it is not 4, one more each. -/
structure PonTree where
  enabled : Bool := false
  rogueManual : Bool := false
  limitSet : Nat := 0
  teqd : Nat := 0
  minKm : Nat := 0
  maxKm : Nat := 0
  discoveryMs : Nat := 0
  framing : Bool := false
  los : Bool := false
  sfc : Nat := 0
  /-- TIME at the latest frame's first bit in 2^−40 ns. -/
  frameTime : Nat := 0
  profiles : Sparse BurstProfile := []
  discovered : List Nat := []
  /-- When the last discovery window opened, the quiet line bytes still to reserve, and the quiet windows of the present frame
  in 2^−16 ns of TIME: from, to, the ONU ranged (none: discovery). -/
  lastDiscovery : Nat := 0
  rangeDue : List Nat := []
  quietLeft : Nat := 0
  quietFor : Option Nat := none
  quiet : List (Nat × Nat × Option Nat) := []
  /-- The reference time of the latest quiet window, in 2^−16 ns (R356). -/
  quietRef : Nat := 0
  windows : List GrantWindow := []
  nextWindow : Nat := 0
  maps : List GrantMap := []
  lastBursts : Nat := 0
  lastFree : Nat := 0
  /-- The newest frame a burst of which was accepted; frames in a row that held a grant and saw no accepted burst, and the last
  of them (R349). -/
  heard : Option Nat := none
  silent : Nat := 0
  silentFrame : Nat := 0
  /-- Unattributed candidates in the present frame and the last, frames in a row with one, the instants of the last second's, and
  the search (R359): the ONU under test, the frame at which its test ends, and whether a candidate occurred in it. -/
  energyNow : Bool := false
  energy : Bool := false
  energyRun : Nat := 0
  energyTimes : List Nat := []
  search : Option (Nat × Nat × Bool) := none
  /-- PLOAM exchanges pending (R366): ONUs that owe an answer. -/
  ploam : List Nat := []
  bcast1 : Nat := 0
  bcast2 : Nat := 0
  bcastActive : Nat := 0
  bcastSwitch : Option (Cmd × Nat × Option Nat) := none
  /-- ONUs that have not answered the broadcast Key_Control exchange. -/
  bcastWait : List Nat := []
  omciSeq : Nat := 0
  omciOut : List (Nat × Bytes) := []
  /-- Record places of the OMCI ring that no host has read since they were written. -/
  omciUnread : Sparse Bool := []
  stats : Sparse Nat := []
  learnWord : Nat := 0
  unitLess : Nat := 0
  guardLess : Nat := 0
  groups : Sparse GrantGroup := []
  grantStats : Sparse Nat := []
  deriving DecidableEq, Repr

/-- An XGEM entry (PON_XGEM). -/
structure XgemEntry where
  live : Bool := false
  tree : Nat := 0
  portId : Nat := 0
  onu : Nat := 0
  flags : Nat := 0
  deriving DecidableEq, Repr

/-- A grant entry (R365, R370, R372): its binding; the last report and the bytes granted since; the last accepted allocation;
the last map; the learn buckets, the open one first, each the total and the groups 0–7; the shares. -/
structure GrantEntry where
  live : Bool := false
  tree : Nat := 0
  onu : Nat := 0
  allocId : Nat := 0
  queue : Nat := 0
  fixedKbps : Nat := 0
  report : Bool := false
  reported : Nat := 0
  /-- Bytes granted in maps by the frame of the map, for frames still of use to R370. -/
  grantedBy : List (Nat × Nat) := []
  used : Nat := 0
  usedOf : Nat := 0
  acceptedFrame : Option Nat := none
  lastDemand : Nat := 0
  lastGrant : Nat := 0
  lastCap : Nat := 0
  missed : Nat := 0
  buckets : List (List Nat) := []
  shares : List Nat := []
  /-- The TCLK of the last learned packet, and what that TCLK has added to the open bucket (R374). -/
  learnedAt : Nat := 0
  learned : List Nat := []
  /-- The TCLK of the last status report, and the report and the grants since it as they stood before (R374). -/
  reportAt : Option Nat := none
  before : Nat × List (Nat × Nat) := (0, [])
  deriving DecidableEq, Repr

/-- PON and grants: trees, ONUs by `tree * 256 + index`, XGEM entries, grant entries, and the sojourn gauges of level-A nodes
in root cycles (R373). -/
structure Pon where
  trees : Sparse PonTree := []
  onus : Sparse Onu := []
  xgems : Sparse XgemEntry := []
  entries : Sparse GrantEntry := []
  gauges : Sparse Nat := []
  deriving DecidableEq, Repr

/-! ### 19: the cipher engines -/

/-- A MACsec SA (R387, MACSEC_SA): its settings, its PN (next when transmitting, highest validated when receiving) and the
lowest PN it was installed with, and the counters of CIPH_STATS. -/
structure MacSa where
  live : Bool := false
  receive : Bool := false
  port : Nat := 0
  an : Nat := 0
  suite : Nat := 0
  flags : Nat := 0
  slot : Nat := 0
  window : Nat := 0
  sci : Nat := 0
  ssci : Nat := 0
  salt : Bytes := []
  pn : Nat := 0
  low : Nat := 0
  /-- Receive: a PN has been validated since the SA was installed or set. -/
  seen : Bool := false
  lowPosted : Bool := false
  endPosted : Bool := false
  /-- Its key slot was zeroised (R387). -/
  invalid : Bool := false
  stats : Sparse Nat := []
  deriving DecidableEq, Repr

/-- A tunnel SA (TUNNEL_SA): its settings, its sequence number (next when outbound, right edge of the window when inbound),
the numbers marked in the window, and counters. -/
structure TunSa where
  live : Bool := false
  domain : Nat := 0
  inbound : Bool := false
  aes256 : Bool := false
  tunnel : Bool := false
  esn : Bool := false
  window : Nat := 0
  slot : Nat := 0
  spi : Nat := 0
  salt : Nat := 0
  seq : Nat := 0
  marks : List Nat := []
  lowPosted : Bool := false
  endPosted : Bool := false
  invalid : Bool := false
  stats : Sparse Nat := []
  deriving DecidableEq, Repr

/-- A port's cipher settings (MACSEC_PORT, CIPH_PORT): the pipelines are one more than their number, 0 for none. -/
structure CipherPort where
  tx : Bool := false
  rx : Bool := false
  validate : Nat := 0
  txAn : Nat := 0
  rxPipe : Nat := 0
  txPipe : Nat := 0
  stats : Sparse Nat := []
  deriving DecidableEq, Repr

/-- A cipher unit (CIPH_PIPE): a known-answer test under way, its disagreements, the instants of the last ones (R386). -/
structure CipherUnit where
  testing : Bool := false
  disagree : Nat := 0
  last : List Nat := []
  deriving DecidableEq, Repr

/-- A MACsec SA as it stood before a set-PN op of the CCLK before `cycle`, for the frames of that CCLK (R388). -/
structure PriorMac where
  cycle : Nat := 0
  old : MacSa := {}
  deriving DecidableEq, Repr

/-- A tunnel SA as it stood before a set-sequence op of the CCLK before `cycle`. -/
structure PriorTun where
  cycle : Nat := 0
  old : TunSa := {}
  deriving DecidableEq, Repr

/-- The active transmit AN of a port as it stood before a change in the CCLK before `cycle` (R388). -/
structure PriorAn where
  cycle : Nat := 0
  an : Nat := 0
  deriving DecidableEq, Repr

/-- The cipher engines: SAs, ports, units, the queues of the tunnel pipelines, CIPH_FAULT_LOG, packets dropped as SA denied
by domain (R381), and the ports that wait for a pipeline of a direction after a map-out, by
`port * 2 + direction` with direction 1 receive (R386). -/
structure Cipher where
  macSas : Sparse MacSa := []
  tunSas : Sparse TunSa := []
  ports : Sparse CipherPort := []
  units : Sparse CipherUnit := []
  queues : Sparse (List Nat) := []
  denied : Sparse Nat := []
  logValid : Bool := false
  logUnit : Nat := 0
  logCount : Nat := 0
  logMark : RcMark := {}
  replacing : Sparse Bool := []
  priorMac : Sparse PriorMac := []
  priorTun : Sparse PriorTun := []
  priorAn : Sparse PriorAn := []
  deriving DecidableEq, Repr

/-! ### 20: time -/

/-- A pulse in progress (R404, R406): when its width ends and the polarity it was fired with. -/
structure Firing where
  ends : Nat
  polarity : Nat
  deriving DecidableEq, Repr

/-- A pulse output (R404). TIME values are in 2^−40 ns. -/
structure Pulse where
  enabled : Bool := false
  polarity : Nat := 0
  start : Nat := 0
  periodNs : Nat := 0
  widthNs : Nat := 0
  /-- The next scheduled instant; none when the output has no more to fire. -/
  next : Option Nat := none
  firing : Option Firing := none
  missed : Bool := false
  /-- The TSCLK cycle at whose end the settings took effect (R406). -/
  setCycle : Option Nat := none
  deriving DecidableEq, Repr

/-- A capture input (R407): its queue holds a TIME in 2^−40 ns and the edge, oldest first. -/
structure Capture where
  edge : Nat := 0
  last : Option Nat := none
  queue : List (Nat × Nat) := []
  overflow : Nat := 0
  deriving DecidableEq, Repr

/-- A record of R403: egress stamp, messageType, domainNumber, sequenceId. -/
structure TsRecord where
  stamp : Nat
  msgType : Nat
  domain : Nat
  seqId : Nat
  deriving DecidableEq, Repr

/-- Per port: the adjustments of R398 in 2^−16 ns and the capture queue of R403. -/
structure PortTime where
  rxAdj : Int := 0
  txAdj : Int := 0
  queue : List TsRecord := []
  dropped : Nat := 0
  deriving DecidableEq, Repr

/-- The time base (R391): TIME was `value` (in 2^−40 ns) at TSCLK cycle `cycle`; what it reads later follows from the
rate and the slew. -/
structure TimeBase where
  value : Nat := 0
  cycle : Nat := 0
  rate : Int := 0
  slewRate : Int := 0
  slewLeft : Int := 0
  armed : Bool := true
  stepSeq : Nat := 0
  /-- The last step (R394): its amount in 2^−40 ns, the TIME before it and its TSCLK cycle. -/
  stepAmount : Int := 0
  stepOld : Nat := 0
  stepCycle : Option Nat := none
  pulses : Sparse Pulse := []
  inputs : Sparse Capture := []
  ports : Sparse PortTime := []
  /-- Frames sent unchanged (R400) and frames whose correction saturated (R401). -/
  unchanged : Nat := 0
  saturated : Nat := 0
  deriving DecidableEq, Repr

/-! ### 21: DRAM -/

/-- DRAM_STATUS.state; a stack mapped out is read from the units. -/
inductive StackState where
  | training
  | active
  | selfRefresh
  | changing
  deriving DecidableEq, Repr

/-- A request that waits at a pseudo-channel (R411): RT or BE with its requester (0 lookups, 1 table DMA, statistics and
automata, 2 CXL.mem, 3 Basecamp), its bank and row, its length in bytes, the far cell it moves and the packet it reads it for,
one more. -/
structure DramReq where
  rt : Bool
  requester : Nat
  bank : Nat
  row : Nat
  bytes : Nat
  cell : Option Nat
  packet : Nat
  deriving DecidableEq, Repr

/-- A pseudo-channel: its requests, oldest first; the instants of BE service in the last 1 µs with their bytes; the requester
that the BE round robin served last and how many turns it took in a row; postponement counts by bank; banks whose refresh is
forced. -/
structure Pseudo where
  waiting : List DramReq := []
  beDone : List (Nat × Nat) := []
  lastBe : Nat := 0
  turns : Nat := 0
  postponed : Sparse Nat := []
  forced : List Nat := []
  deriving DecidableEq, Repr

/-- A row that a bank counts (R422): its activations by requester (8 for RT). -/
structure RowCount where
  row : Nat
  by_ : Sparse Nat
  deriving DecidableEq, Repr

/-- A stack. `actLess` and `throttleLess` hold act_limit and throttle_us when they are not at their reset values, one more
each; banks by `pc * 32 + bank` with `pc` 0–63 counting pseudo-channels; masks by field where they are not those of R409, one
more each; `throttled` holds by bank and BE requester held there the end of the period and the last activation. -/
structure Stack where
  state : StackState := .training
  trained : Bool := false
  zeroed : Bool := false
  economy : Bool := false
  mode : Nat := 0
  pcs : Sparse Pseudo := []
  maxPost : Nat := 0
  spill : Nat := 0
  lastSpill : Nat := 0
  low : Nat := 0
  /-- The point that a change that is due goes to; the point of the change under way, and when it started. -/
  due : Option Bool := none
  goal : Bool := false
  changeStart : Nat := 0
  idleUs : Nat := 0
  lastRequest : Nat := 0
  masks : Sparse Nat := []
  pending : Option (Sparse Nat) := none
  actLess : Nat := 0
  throttleLess : Nat := 0
  rows : Sparse (List RowCount) := []
  throttled : Sparse (Nat × Nat) := []
  disturbs : Nat := 0
  forcedCount : Nat := 0
  corrected : Nat := 0
  uncorrected : Nat := 0
  rcCorr : Nat := 0
  rcUncorr : Nat := 0
  corrMark : RcMark := {}
  uncorrMark : RcMark := {}
  logValid : Bool := false
  logUncorr : Bool := false
  logAt : Nat × Nat × Nat × Nat := (0, 0, 0, 0)
  uncorrAt : List Nat := []
  /-- Correctable errors of the last second: channel and instant. -/
  corrAt : List (Nat × Nat) := []
  /-- One more than the second in which DRAM_ECC was last posted for a correctable and for an uncorrectable error; 0 for never. -/
  corrPosted : Nat := 0
  uncorrPosted : Nat := 0
  repaired : Nat := 0
  /-- DRAM_TRAIN op 0, or a planned map-out (true), under way. -/
  work : Option (Cmd × Bool) := none
  deriving DecidableEq, Repr

/-! ### 24: firmware and stored configuration -/

/-- Slot states of the directory (R451). -/
inductive SlotState where
  | empty
  | receiving
  | verified
  | trial
  | good
  | bad
  deriving DecidableEq, Repr

/-- A flash slot: its state, its image's header and its payload. -/
structure Slot where
  state : SlotState := .empty
  image : Option Image := none
  payload : Bytes := []
  deriving DecidableEq, Repr

/-- A delivery session (R452, R453): its number, its image type, the in-band port it belongs to (none: the principal host), what
was received and how much of it is committed, the total, and a chunk in work: its bytes, its command or its in-band frame's
reply addresses. -/
structure Delivery where
  session : Nat
  imageType : Nat
  port : Option Nat
  data : Bytes
  committed : Nat
  total : Nat
  verifying : Bool
  chunk : Option Bytes
  cmd : Option Cmd
  macs : Bytes
  deriving DecidableEq, Repr

/-- A handover under way (R456–R459): its image type, the slot taken into use, the phase as FW_SLOTS.handover shows it, the
cluster being swapped, when it was accepted, whether the mode before it was STANDBY, commit_s, and whether it is a rollback. -/
structure Handover where
  cmd : Option Cmd
  imageType : Nat
  slot : Nat
  phase : Nat
  cluster : Nat
  since : Nat
  fromStandby : Bool
  commitS : Nat
  rollback : Bool
  expired : Bool
  /-- The steering entries to give back to the cluster being swapped. -/
  entries : List Nat := []
  deriving DecidableEq, Repr

/-- A trial (R460): its slot and the instant at which it rolls back by itself. -/
structure Trial where
  slot : Nat
  deadline : Option Nat
  deriving DecidableEq, Repr

/-- What a stored configuration holds (R461; the spec does not list it). -/
structure Conf where
  ports : Sparse Port := []
  lanes : Sparse Lane := []
  parsePorts : Sparse ParsePort := []
  graph : Option Graph := none
  pools : Sparse Pool := []
  accounts : Sparse Account := []
  masks : Sparse (Sparse Nat) := []
  deriving DecidableEq, Repr

/-- A configuration copy of the flash (R461). -/
structure ConfCopy where
  format : Nat
  seq : Nat
  crcOk : Bool
  conf : Conf
  deriving DecidableEq, Repr

/-- Firmware and flash. Slots 0 and 1 are firmware, 2 and 3 profiles; `primary` and `running` hold the slot of a type (0 or
1) by image type; `floors` the fuse counters above the fused start; `config` and `minConfig` the formats of the running
firmware. -/
structure Fw where
  slots : Sparse Slot := []
  primary : Sparse Nat := []
  running : Sparse Nat := []
  floors : Sparse Nat := []
  delivery : Option Delivery := none
  handover : Option Handover := none
  trials : Sparse Trial := []
  inband : Nat := 0
  /-- In-band frames that a port passed in the present second, with the second; frames dropped as excess. -/
  inbandRate : Sparse (Nat × Nat) := []
  inbandDrops : Sparse Nat := []
  config : Nat := 0
  minConfig : Nat := 0
  version : Nat := 0
  copies : Sparse ConfCopy := []
  /-- The topology record and the provisioning of the flash, as the boot ROM found them (R43). -/
  topoRecord : Option Nat := none
  prov : Option Provisioning := none
  /-- The domain epochs of the flash (R90). -/
  epochs : Sparse Nat := []
  /-- PLOAM messages that wait for a switch window to close (R457), oldest first: tree, ONU, message, value. -/
  held : List (Nat × Nat × Nat × Nat) := []
  deriving DecidableEq, Repr

/-! ### The machine -/

/-- The state of the device. `now` counts root-PLL cycles since power-on; `free` counts the free values drawn (a field of
the model's own); `pending` is the queue of commands and events, first in first out. -/
structure State where
  now : Nat := 0
  free : Nat := 0
  pending : List Instr := []
  dev : Dev := {}
  units : Units := {}
  host : Hosts := {}
  dom : Doms := {}
  lant : Sparse Counter := []
  ports : Ports := {}
  eli : Elis := {}
  pkts : Sparse Packet := []
  nextPkt : Nat := 0
  parse : Parse := {}
  tables : Tables := {}
  assoc : Assoc := {}
  eng : Engines := {}
  scout : Scout := {}
  act : Actions := {}
  buf : Bufs := {}
  tm : Tm := {}
  pol : Police := {}
  fab : Fab := {}
  cipher : Cipher := {}
  pon : Pon := {}
  dram : Sparse Stack := []
  fw : Fw := {}
  time : TimeBase := {}
  deriving DecidableEq, Repr

/-- The state after a power-on reset with straps of 0 and an empty flash: mode SAFE, D0 alone, held by H0 (R89), the nonce drawn from
the random source (R107), everything else at its reset value (R11). -/
def State.reset : State :=
  { free := 1, dom := { domains := [(0, { live := true, host := some 0 })], nonce := Config.freeValue 0 % 2 ^ 64 } }

end Sys2Proof.Machine
end

