-- ==== Sys2Proof/Machine/Operands.lean ====
section
/-! DEFINITION. Reading operands: numbers in byte strings, the fields of a command entry (R73), the checks of fields
and of indirect buffers (R74, R76, R78). -/

namespace Sys2Proof

/-- Bits `hi:lo` of a number (R7). -/
def bits (v hi lo : Nat) : Nat := v / 2 ^ lo % 2 ^ (hi + 1 - lo)

/-- Bit `i` of a number. -/
def bit (v i : Nat) : Bool := v / 2 ^ i % 2 == 1

/-- The number that is 1 for true. -/
def b2n (b : Bool) : Nat := if b then 1 else 0

/-- Byte `i` of a byte string; 0 past its end. -/
def byteAt (b : Bytes) (i : Nat) : Nat :=
  match b[i]? with
  | some x => x.toNat
  | none => 0

/-- The little-endian number of `n` bytes from byte `i` (R12: memory structures). -/
def leAt (b : Bytes) (i : Nat) : Nat → Nat
  | 0 => 0
  | n + 1 => byteAt b i + 256 * leAt b (i + 1) n

/-- The big-endian number of `n` bytes from byte `i` (R12: wire formats). -/
def beAt (b : Bytes) (i : Nat) : Nat → Nat
  | 0 => 0
  | n + 1 => byteAt b i * 256 ^ n + beAt b (i + 1) n

/-- A number as `n` little-endian bytes. -/
def leBytes : Nat → Nat → Bytes
  | 0, _ => []
  | n + 1, v => BitVec.ofNat 8 v :: leBytes n (v / 256)

/-- A number as `n` big-endian bytes. -/
def beBytes (n v : Nat) : Bytes := (leBytes n v).reverse

/-- The two's complement reading of a number of `w` bits. -/
def signed (w v : Nat) : Int := if v < 2 ^ (w - 1) then v else (v : Int) - 2 ^ w

/-- An integer as a number of `w` bits in two's complement. -/
def unsigned (w : Nat) (v : Int) : Nat := (v % (2 ^ w : Int)).toNat

/-- `n` bytes from byte `i`, zeros past the end. -/
def slice (b : Bytes) (i n : Nat) : Bytes := (List.range n).map fun k => BitVec.ofNat 8 (byteAt b (i + k))

/-- The bytes with `d` laid over them from byte `i`. -/
def overlay (b : Bytes) (i : Nat) (d : Bytes) : Bytes := b.take i ++ d ++ b.drop (i + d.length)

/-! ### The command entry (R73) -/

/-- The little-endian field of `n` bytes at byte `off` of the entry, for parameters (bytes 16–63). -/
def Cmd.field (c : Cmd) (off n : Nat) : Nat := leAt c.params (off - 16) n

/-- A one-byte parameter. -/
def Cmd.u8 (c : Cmd) (off : Nat) : Nat := c.field off 1
/-- A two-byte parameter. -/
def Cmd.u16 (c : Cmd) (off : Nat) : Nat := c.field off 2
/-- A four-byte parameter. -/
def Cmd.u32 (c : Cmd) (off : Nat) : Nat := c.field off 4
/-- An eight-byte parameter. -/
def Cmd.u64 (c : Cmd) (off : Nat) : Nat := c.field off 8
/-- A signed one-byte parameter. -/
def Cmd.i8 (c : Cmd) (off : Nat) : Int := signed 8 (c.u8 off)
/-- A signed four-byte parameter. -/
def Cmd.i32 (c : Cmd) (off : Nat) : Int := signed 32 (c.u32 off)
/-- A signed eight-byte parameter. -/
def Cmd.i64 (c : Cmd) (off : Nat) : Int := signed 64 (c.u64 off)

/-- Byte 3, bits 3:0. -/
def Cmd.domain (c : Cmd) : Nat := c.domByte % 16
/-- Flags bit 0. -/
def Cmd.fence (c : Cmd) : Bool := bit c.flags 0
/-- Flags bit 1. -/
def Cmd.inline (c : Cmd) : Bool := bit c.flags 1
/-- Flags bit 2. -/
def Cmd.interrupt (c : Cmd) : Bool := bit c.flags 2

/-! ### Status codes and the checks (R74, R78) -/

/-- The status codes of R78. -/
inductive Status where
  | ok
  | busy
  | denied
  | invalidParam
  | notFound
  | tableFull
  | quota
  | wrongMode
  | hwFault
  | timeout
  | locked
  | version
  | stale
  | refused
  deriving DecidableEq, Repr

/-- The code of a status (R78). -/
def Status.code : Status → Nat
  | .ok => 0x00
  | .busy => 0x01
  | .denied => 0x02
  | .invalidParam => 0x03
  | .notFound => 0x04
  | .tableFull => 0x05
  | .quota => 0x06
  | .wrongMode => 0x07
  | .hwFault => 0x08
  | .timeout => 0x09
  | .locked => 0x0A
  | .version => 0x0B
  | .stale => 0x0C
  | .refused => 0x0D

/-- What a failed check answers. -/
structure Err where
  status : Status
  detail : Nat := 0
  deriving DecidableEq, Repr

/-- A check: nothing where `ok` holds, the error otherwise. -/
def need (ok : Bool) (e : Err) : Option Err := if ok then none else some e

/-- The first failed check of a list. -/
def firstErr : List (Option Err) → Option Err
  | [] => none
  | some e :: _ => some e
  | none :: t => firstErr t

/-- INVALID_PARAM kind 0x01 at a byte of the command (R78). -/
def badField (off : Nat) : Err := { status := .invalidParam, detail := 0x01000000 + off }
/-- INVALID_PARAM kind 0x02 at a byte of the indirect buffer. -/
def badBuffer (off : Nat) : Err := { status := .invalidParam, detail := 0x02000000 + off % 65536 }
/-- DENIED, whose detail is always 0. -/
def denied : Err := { status := .denied }
/-- REFUSED with its detail. -/
def refusedWith (d : Nat) : Err := { status := .refused, detail := d }

/-- A field that must hold (R3), reported at its byte. -/
def at_ (off : Nat) (ok : Bool) : Option Err := need ok (badField off)

/-- The reserved bytes from `off` on must be 0 (R10); the first that is not is reported. -/
def Cmd.zeros (c : Cmd) (off : Nat) : Nat → Option Err
  | 0 => none
  | n + 1 => if c.u8 off ≠ 0 then some (badField off) else c.zeros (off + 1) n

/-- The reply-address check of an opcode with a long result (R77). -/
def Cmd.needReply (c : Cmd) : Option Err := at_ 8 (c.reply ≠ 0)

/-- Reserved bytes of an indirect buffer. -/
def bufZeros (b : Bytes) (off : Nat) : Nat → Option Err
  | 0 => none
  | n + 1 => if byteAt b off ≠ 0 then some (badBuffer off) else bufZeros b (off + 1) n

/-- The checks of an indirect buffer's address and length (R76). -/
def Cmd.bufferErr (c : Cmd) : Option Err :=
  need (c.u64 16 % 64 = 0 && c.u32 24 ≤ 1048576) { status := .invalidParam, detail := 0x04000000 }

/-- What the read of the indirect buffer answers when it does not bring the bytes (R78). -/
def BufRead.err : BufRead → Option Err
  | .data _ => none
  | .failed => some { status := .invalidParam, detail := 0x05000000 }
  | .slow => some { status := .timeout, detail := 1 }

/-- The buffer's bytes, as many as the command names. -/
def BufRead.bytes (r : BufRead) (c : Cmd) : Bytes :=
  match r with
  | .data b => slice b 0 (c.u32 24)
  | _ => []

/-- The first failed check over a list of things, each with its own. -/
def firstOf {α : Type} (f : α → Option Err) : List α → Option Err
  | [] => none
  | a :: t =>
    match f a with
    | some e => some e
    | none => firstOf f t

/-- A ones' complement sum with a word `m` replaced by `m'`. -/
def onesReplace (x m m' : Nat) : Nat :=
  let y := x + (0xFFFF - m) + m'
  let z := y % 65536 + y / 65536
  z % 65536 + z / 65536

end Sys2Proof
end

