-- ==== Sys2Proof/Machine/Ops.lean ====
section
/-! DEFINITION. The named operations over the state: sparse tables, time, what goes outside, completion rings and
events, the answering of commands, Lantern counts, the fault log and the change of mode. -/

namespace Sys2Proof

/-! ### Sparse tables -/

/-- The row `k` of a table whose unlisted rows hold `d`. -/
def look {α : Type} (m : Sparse α) (k : Nat) (d : α) : α :=
  match m with
  | [] => d
  | (i, a) :: t => if i = k then a else look t k d

/-- The table without its row `k`. -/
def drop {α : Type} (m : Sparse α) (k : Nat) : Sparse α :=
  match m with
  | [] => []
  | (i, a) :: t => if i = k then drop t k else (i, a) :: drop t k

/-- The table with row `k` listed as `v`, in the place that keeps the numbers rising. -/
def insertRow {α : Type} (m : Sparse α) (k : Nat) (v : α) : Sparse α :=
  match m with
  | [] => [(k, v)]
  | (i, a) :: t => if i < k then (i, a) :: insertRow t k v else (k, v) :: (i, a) :: t

/-- The table with row `k` holding `v`; a row that holds the default `d` is not listed. -/
def put {α : Type} [DecidableEq α] (m : Sparse α) (k : Nat) (d v : α) : Sparse α :=
  if v = d then drop m k else insertRow (drop m k) k v

/-- The canonical form: numbers strictly rising, no row equal to the default. -/
def canon {α : Type} [DecidableEq α] (d : α) (m : Sparse α) : Bool :=
  match m with
  | [] => true
  | (i, a) :: t => a ≠ d && (t.all fun r => i < r.1) && canon d t

/-- The table of the rows whose number and content `p` keeps. -/
def keepRows {α : Type} (m : Sparse α) (p : Nat → α → Bool) : Sparse α := m.filter fun r => p r.1 r.2

/-- How many listed rows `p` holds of. -/
def countRows {α : Type} (m : Sparse α) (p : Nat → α → Bool) : Nat := (keepRows m p).length

/-- Add `n` to the row `k` of a table of 64-bit counters (they wrap). -/
def bump (m : Sparse Nat) (k n : Nat) : Sparse Nat := put m k 0 ((look m k 0 + n) % 2 ^ 64)

/-- The first `n` rows of a counter table as 8-byte values (R127). -/
def counterBytes (m : Sparse Nat) (n : Nat) : Bytes := (List.range n).flatMap fun i => leBytes 8 (look m i 0)

/-- Fold an update of the state over a list. -/
def each {σ α : Type} (f : α → σ → σ) : List α → σ → σ
  | [], s => s
  | a :: t, s => each f t (f a s)

/-! ### Instants (R27) -/

/-- Nanoseconds in cycles of the root PLL. -/
def ns (n : Nat) : Nat := 6 * n
/-- Microseconds. -/
def us (n : Nat) : Nat := 6000 * n
/-- Milliseconds. -/
def ms (n : Nat) : Nat := 6000000 * n

/-! ### The order of commands (R69, R93, R94) -/

/-- The objects that a command names (R69): a class, 1 to 8 being the resource types of R91, the first of a run, and how many; none where
the opcode's chapter names no handle, key or instance. -/
def Cmd.object (c : Cmd) : Option (Nat × Nat × Nat) :=
  match c.opcode with
  | 0x0111 => some (8, c.u32 28, 1)
  | 0x0112 => some (8, c.u32 16, 1)
  | 0x0113 => some (8, c.u32 16, c.u32 20)
  | 0x0200 | 0x0201 | 0x0203 | 0x0300 | 0x0301 | 0x0303 | 0x0401 | 0x0407 | 0x050B | 0x0B02 | 0x0D01 | 0x0E06 | 0x0E07 =>
    some (1, c.u8 16, 1)
  | 0x0202 => some (9, c.u8 16, 1)
  | 0x0302 => some (1, c.u8 19, 1)
  | 0x0402 => some (10, c.u16 28, 1)
  | 0x0403 => some (10, c.u16 16, 1)
  | 0x0404 => some (11, c.u8 28, 1)
  | 0x0405 => some (11, c.u8 16, 1)
  | 0x0408 => some (12, c.u16 28 * 2 ^ 20 + c.u32 32, 1)
  | 0x0500 | 0x0501 | 0x0502 | 0x0503 | 0x0504 | 0x0505 | 0x0506 | 0x0507 | 0x050C => some (13, c.u16 16, 1)
  | 0x0508 | 0x0509 | 0x050A => some (13, c.u16 28, 1)
  | 0x0600 | 0x0601 | 0x0603 | 0x0604 => some (14, c.u8 16, 1)
  | 0x0602 | 0x0605 => some (14, c.u8 28, 1)
  | 0x0701 | 0x0702 | 0x0703 => some (15, c.u8 16, 1)
  | 0x0704 => some (16, (c.u16 28 * 64 + c.u8 30) * 2 ^ 32 + c.u32 32, 1)
  | 0x0800 | 0x0802 => some (17, c.u8 16, 1)
  | 0x0801 => some (18, c.u16 16, 1)
  | 0x0803 | 0x0901 | 0x0A03 | 0x0A06 => some (2, c.u32 16, c.u32 20)
  | 0x0A04 => some (2, c.u32 20, c.u32 24)
  | 0x0900 | 0x0902 => if c.u8 16 = 4 then some (2, c.u32 20, 1) else some (30, c.u8 16 * 2 ^ 32 + c.u32 20, 1)
  | 0x0903 | 0x0A07 => some (2, c.u32 16, 1)
  | 0x0A00 | 0x0A01 => some (6, c.u32 16, 1)
  | 0x0A02 => some (19, c.u16 18, 1)
  | 0x0B01 => some (2, c.u32 16, c.u32 20)
  | 0x0B03 => some (20, c.u8 16, 1)
  | 0x0C00 | 0x0C01 | 0x0C02 | 0x0C04 | 0x0C06 | 0x0C07 | 0x0C08 | 0x0C0A | 0x0C0C => some (7, c.u8 16, 1)
  | 0x0C05 => some (7, c.u8 28, 1)
  | 0x0C03 => some (21, c.u16 16, 1)
  | 0x0C09 | 0x0C0B => some (22, c.u16 16, 1)
  | 0x0D00 => some (23, c.u16 16, 1)
  | 0x0D02 => some (24, c.u16 16, 1)
  | 0x0E04 => some (25, c.u8 16, 1)
  | 0x0E05 => some (26, c.u8 16, 1)
  | 0x0F00 | 0x0F01 | 0x0F02 | 0x0F03 | 0x0F04 => if c.u8 16 = 0xFF then some (27, 0, 10) else some (27, c.u8 16, 1)
  | 0x1000 => some (5, c.u8 16, 1)
  | 0x1101 => some (28, c.u8 16 * 65536 + c.u16 18, 1)
  | 0x1200 => some (29, c.u8 28, 1)
  | 0x1202 | 0x1203 | 0x1204 | 0x1205 => some (29, c.u8 16, 1)
  | _ => none

/-- Two commands name one object. -/
def clash (x y : Cmd) : Bool :=
  match x.object, y.object with
  | some (k, f, n), some (l, g, m) => decide (k = l) && decide (f < g + m) && decide (g < f + n)
  | _, _ => false

/-- A command takes resources or a host from domains (R93, R94): RESOURCE_ASSIGN, or DOMAIN_SET to destroy or move. -/
def Cmd.uproots (c : Cmd) : Bool := c.opcode = 0x0101 || (c.opcode = 0x0100 && c.u8 16 ≠ 0)

/-- The work that a command keeps to itself while it is in progress: a second command on it that starts meanwhile answers BUSY (R175 for
trees and sets, R234 for a profile, the status tables of 11 and 19). -/
def Cmd.exclusive (c : Cmd) : Option (Nat × Nat) :=
  match c.opcode with
  | 0x0402 => some (0, c.u16 28)
  | 0x0403 => some (0, c.u16 16)
  | 0x0404 => some (1, c.u8 28)
  | 0x0405 => some (1, c.u8 16)
  | 0x0700 => some (2, 0)
  | 0x0782 => some (3, c.domain)
  | 0x0783 => some (3, c.domain)
  | 0x0D00 => some (4, c.u16 16)
  | 0x0D02 => some (5, c.u16 16)
  | _ => none

/-- BUSY is a command's answer where its object is in use: not that of creating an SA (19). -/
def Cmd.yields (c : Cmd) : Bool := c.exclusive.isSome && !((c.opcode = 0x0D00 || c.opcode = 0x0D02) && c.u8 18 = 0)

namespace Machine

/-- The state at the instant `t` of a row: time never runs back. -/
def State.at_ (s : State) (t : Nat) : State := { s with now := max s.now t }

/-- Draw a free value: the state with its counter advanced. -/
def State.drawn (s : State) : State := { s with free := s.free + 1 }

/-- Draw a new nonce (R107). -/
def State.drawNonce (s : State) : State :=
  let v := Config.freeValue s.free % 2 ^ 64
  { s.drawn with dom := { s.dom with nonce := v } }

/-! ### Fields that a read clears (R9) -/

/-- The number of the present KCLK cycle, from 1 on (R27). -/
def State.kclk (s : State) : Nat := s.now / 12 + 1

/-- What a read in KCLK cycle `k` returns of a count that now holds `v`: the events of that cycle stay for the next read. -/
def RcMark.seen (m : RcMark) (k v : Nat) : Nat := if m.cycle = k then m.base else v

/-- The mark once the count, which held `v`, changes in KCLK cycle `k`. -/
def RcMark.note (m : RcMark) (k v : Nat) : RcMark := if m.cycle = k then m else { cycle := k, base := v }

/-- The mark after a read in KCLK cycle `k`. -/
def RcMark.cleared (m : RcMark) (k : Nat) : RcMark := if m.cycle = k then { cycle := k, base := 0 } else {}

/-- How many bytes an ELI port's transmit buffer holds (R149). -/
def EliTx.buffered (x : EliTx) : Nat := 8 * x.blocks.length

/-- What goes outside, appended (R68). -/
def State.emit (s : State) (o : Out) : State := { s with host := { s.host with out := s.host.out ++ [o] } }

/-- The allowance of a domain: unlimited for D0 at reset, 0 for the others. -/
def allowance (m : Sparse Nat) (d : Nat) : Nat := look m d (if d = 0 then 2 ^ 64 else 0)
/-- Set the allowance of a domain. -/
def setAllowance (m : Sparse Nat) (d v : Nat) : Sparse Nat := put m d (if d = 0 then 2 ^ 64 else 0) v

/-! ### Access to the tables of the state -/

/-- A host port. -/
def State.hostPort (s : State) (h : Nat) : HostPort := look s.host.ports h {}
/-- Set a host port. -/
def State.setHostPort (s : State) (h : Nat) (p : HostPort) : State :=
  { s with host := { s.host with ports := put s.host.ports h {} p } }
/-- A ring of a host. -/
def State.ring (s : State) (h r : Nat) : Ring := look s.host.rings (h * 16 + r) {}
/-- Set a ring of a host. -/
def State.setRing (s : State) (h r : Nat) (g : Ring) : State :=
  { s with host := { s.host with rings := put s.host.rings (h * 16 + r) {} g } }
/-- A port instance. -/
def State.port (s : State) (p : Nat) : Port := look s.ports.port p {}
/-- Set a port instance. -/
def State.setPort (s : State) (p : Nat) (x : Port) : State :=
  { s with ports := { s.ports with port := put s.ports.port p {} x } }
/-- A network lane. -/
def State.lane (s : State) (l : Nat) : Lane := look s.ports.lane l {}
/-- Set a network lane. -/
def State.setLane (s : State) (l : Nat) (x : Lane) : State :=
  { s with ports := { s.ports with lane := put s.ports.lane l {} x } }

/-! ### Domains and owners (R57, R88, R91) -/

/-- A domain number. -/
def State.domain (s : State) (d : Nat) : Domain := look s.dom.domains d {}
/-- Set a domain number. -/
def State.setDomain (s : State) (d : Nat) (x : Domain) : State :=
  { s with dom := { s.dom with domains := put s.dom.domains d {} x } }
/-- The domain is in the host's held set (R57). -/
def State.holds (s : State) (h d : Nat) : Bool := (s.domain d).live && (s.domain d).host == some h
/-- HCMD_HOST.held_domains. -/
def State.heldMask (s : State) (h : Nat) : Nat :=
  ((List.range 16).map fun d => if s.holds h d then 2 ^ d else 0).sum

/-- How many identifiers a resource type has (R91); 0 for no type. -/
def resourceRange : Nat → Nat
  | 1 => 128
  | 2 => 1048576
  | 3 => 4096
  | 4 => 32
  | 5 => 256
  | 6 => 524288
  | 7 => 48
  | 8 => 65536
  | _ => 0

/-- The owner of a resource. -/
def State.owner (s : State) (type id : Nat) : Nat := look s.dom.owner (type * 2 ^ 24 + id) 0
/-- The domain owns the resource; an identifier beyond its range is owned by none (R92, R95). -/
def State.owns (s : State) (d type id : Nat) : Bool := decide (id < resourceRange type) && s.owner type id == d
/-- The check that names a resource (R74, R92). -/
def State.ownErr (s : State) (c : Cmd) (type id : Nat) : Option Err := need (s.owns c.domain type id) denied

/-! ### Units (R437, R438) -/

/-- A unit is mapped out. -/
def State.isOut (s : State) (kind n : Nat) : Bool := look s.units.out (kind * 65536 + n) false
/-- A unit is in service. -/
def State.healthy (s : State) (kind n : Nat) : Bool := !s.isOut kind n
/-- FAULT_KIND_OUT: the units of a kind now mapped out. -/
def State.countOut (s : State) (kind : Nat) : Nat := countRows s.units.out fun k _ => k / 65536 == kind
/-- DEV_STATUS.units_mapped_out. -/
def State.anyOut (s : State) : Bool := s.units.out != []

/-- Network lanes that the topology uses (R114). -/
def State.laneRange (s : State) : Nat := if s.dev.topology = 1 then 128 else 256

/-- The smallest serviceable set is met (R31). -/
def State.serviceable (s : State) : Bool :=
  s.healthy 0x0E 0 && s.countOut 1 < 4 && (s.countOut 2 < 4 || s.dev.flashConfig) && s.countOut 3 ≤ 14
    && s.countOut 4 < 32 && s.countOut 5 < 16 && s.countOut 7 < 8 && s.countOut 8 < 32
    && countRows s.units.out (fun k _ => k / 65536 == 0x0A && k % 65536 < s.laneRange) < s.laneRange

/-- DEV_STATUS.unserviceable (R35). -/
def State.unserviceable (s : State) : Bool := !s.serviceable

/-! ### Lantern (R426, R427, R431) -/

/-- The unit whose service a counter follows (R426): its kind and number; none where no unit's map-out stops it. -/
def lantUnit (i : Nat) : Option (Nat × Nat) :=
  if i < 2048 then some (4, i / 64)
  else if i < 2560 then some (4, (i - 2048) % 32)
  else if i < 2816 then none
  else if i < 2848 then some (4, i - 2816)
  else if i < 2880 then some (3, (i - 2848) / 2)
  else if i < 2888 then none
  else if i < 2952 then some (8, (i - 2888) / 2)
  else if i < 3016 then none
  else if i < 3096 then some (9, (i - 3016) / 8)
  else if i < 3228 then some (0x0C, i - 3096)
  else if i < 3232 then none
  else if i < 3424 then some (0x0B, i - 3232)
  else if i < 3552 then some (4, (i - 3424) / 4)
  else none

/-- The cycle of a counter's block in root cycles (R426). -/
def lantPeriod (s : State) (i : Nat) : Nat :=
  if i < 2848 then 3
  else if i < 3016 then 4
  else if i < 3096 then (if (look s.dram ((i - 3016) / 8) {}).economy then 12 else 6)
  else if i < 3232 then (if i < 3224 then 3 else 4)
  else if i < 3424 then 4
  else 3

/-- A Lantern counter. -/
def State.counter (s : State) (i : Nat) : Counter := look s.lant i {}

/-- Add `n` occurrences to a counter (R426, R427): a counter of a unit mapped out holds; one in level mode adds 1 for
each cycle with an occurrence. -/
def State.count (s : State) (i n : Nat) : State :=
  let c := s.counter i
  let stopped := match lantUnit i with
    | some (k, u) => s.isOut k u
    | none => false
  if stopped || n == 0 then s
  else if c.level then
    let cyc := s.now / lantPeriod s i + 1
    if c.last = cyc then s
    else { s with lant := put s.lant i {} { c with value := (c.value + 1) % 2 ^ 56, last := cyc } }
  else { s with lant := put s.lant i {} { c with value := (c.value + n) % 2 ^ 56 } }

/-- The mask of a spread field of a stack (R409). -/
def Stack.mask (x : Stack) (j : Nat) : Nat :=
  match look x.masks j 0 with
  | 0 => 0x41 * 2 ^ j % 2 ^ 17
  | n + 1 => n

/-- The parity of a number of 17 bits. -/
def parity17 (v : Nat) : Nat := ((List.range 17).filter fun i => bit v i).length % 2

/-- A spread field of a stack-local address (R409). -/
def Stack.spread (x : Stack) (addr j : Nat) : Nat := (addr / 2 ^ (6 + j) + parity17 (bits addr 33 17 &&& x.mask j)) % 2

/-- Fields `lo` to `lo + n − 1` of an address as a number. -/
def Stack.fields (x : Stack) (addr lo n : Nat) : Nat := ((List.range n).map fun i => x.spread addr (lo + i) * 2 ^ i).sum

/-- A request arrives at a stack (R408, R411): at the pseudo-channel that the address names. -/
def State.dramReq (s : State) (stack addr bytes : Nat) (rt : Bool) (requester : Nat) (cell : Option Nat) (packet : Nat) : State :=
  if s.isOut 9 stack then s
  else
    let x := look s.dram stack {}
    let pc := 2 * x.fields addr 0 5 + x.spread addr 5
    let q := look x.pcs pc {}
    let r : DramReq := { rt := rt, requester := requester, bank := x.fields addr 6 5, row := bits addr 33 21, bytes := bytes,
                         cell := cell, packet := packet }
    { s with dram := put s.dram stack {} { x with pcs := put x.pcs pc {} { q with waiting := q.waiting ++ [r] },
                                                  lastRequest := s.now } }

/-- A best-effort request at an address that the spec does not give. -/
def State.dramBest (s : State) (stack bytes requester : Nat) : State :=
  (s.drawn).dramReq stack (Config.freeValue s.free % 2 ^ 34) bytes false requester none 0

/-- A best-effort request at a stack and an address that the spec does not give. -/
def State.dramAny (s : State) (bytes requester : Nat) : State := (s.drawn).dramBest (Config.freeValue s.free % 10) bytes requester

/-- Count a domain event `j` of domain `d` (R431). -/
def State.countDomain (s : State) (d j : Nat) : State := s.count (2560 + 16 * d + j) 1

/-! ### TIME (R390, R391) -/

/-- One second in 2^−40 ns. -/
def second : Nat := 1000000000 * 2 ^ 40

/-- The amount of a slew applied in `n` cycles (R394): the extra rate each cycle until the amount is used up. -/
def slewApplied (rate left : Int) (n : Nat) : Int :=
  if left < 0 then max left (-(rate.natAbs * n : Int)) else min left (rate.natAbs * n : Int)

/-- The time base `n` TSCLK cycles after the instant it was last set at. -/
def TimeBase.after (b : TimeBase) (n : Nat) : TimeBase :=
  let a := slewApplied b.slewRate b.slewLeft n
  let v := ((b.value : Int) + n * (2 ^ 40 + b.rate) + a) % (2 ^ 48 * second : Int)
  let left := b.slewLeft - a
  { b with value := v.toNat, cycle := b.cycle + n, slewLeft := left, slewRate := if left = 0 then 0 else b.slewRate }

/-- The time base at the present TSCLK cycle. -/
def State.timeBase (s : State) : TimeBase := s.time.after (s.now / 6 - s.time.cycle)
/-- TIME now, in 2^−40 ns; in the TSCLK cycle of a step it is the time before it (R396). -/
def State.timeNow (s : State) : Nat := if s.time.stepCycle = some (s.now / 6) then s.time.stepOld else s.timeBase.value
/-- A TIME in bytes: seconds, nanoseconds, fraction (R390). -/
def timeBytes (v : Nat) : Bytes :=
  leBytes 6 (v / second) ++ leBytes 4 (v % second / 2 ^ 40) ++ leBytes 2 (v % 2 ^ 40 / 2 ^ 24)
/-- The TIME that 12 bytes spell. -/
def timeOf (b : Bytes) (i : Nat) : Nat := leAt b i 6 * second + leAt b (i + 6) 4 * 2 ^ 40 + leAt b (i + 10) 2 * 2 ^ 24

/-! ### Completion rings, interrupts, events (R67, R68, R75, R81–R83) -/

/-- Entries of each side of a ring. -/
def Ring.size (g : Ring) : Nat := 2 ^ g.sizeLog2
/-- Completion entries in use: posted and not freed, or reserved (R67). -/
def Ring.used (g : Ring) : Nat := (g.cqTail + g.size - g.cqHead) % g.size + g.reserved
/-- A completion entry is free (R63: a ring of N holds at most N − 1). -/
def Ring.room (g : Ring) : Bool := g.used + 1 < g.size

/-- Signal a ring's vector (R83): the message, or the pending bit where MSI-X is off or the vector masked. -/
def State.signal (s : State) (h r : Nat) : State :=
  let g := s.ring h r
  let p := s.hostPort h
  let s := s.setRing h r { g with unsignalled := 0 }
  if p.msixOff || !look p.msixUnmasked g.vector false then
    s.setHostPort h { p with msixPending := put p.msixPending g.vector false true }
  else s.emit (.msix h g.vector)

/-- The 8-byte shadow of a ring (R68): cq_tail, sq_head, four reserved bytes. -/
def Ring.shadowBytes (g : Ring) : Bytes := leBytes 2 g.cqTail ++ leBytes 2 g.sqHead ++ leBytes 4 0
/-- Write a ring's shadow to RING_SHADOW (R68). -/
def State.writeShadow (s : State) (h r : Nat) : State := s.emit (.shadow h (s.ring h r).shadow (s.ring h r).shadowBytes)

/-- Write a completion entry at its place (R63), then the shadow, then signal where a threshold or the flag asks for it (R68, R83). -/
def State.postEntry (s : State) (h r : Nat) (e : Entry) (now : Bool) : State :=
  let g := s.ring h r
  let n := g.unsignalled + 1
  let s := s.emit (.entry h (g.cqBase + 16 * g.cqTail) e)
  let g := { g with cqTail := (g.cqTail + 1) % g.size, unsignalled := n,
                    oldest := if g.unsignalled = 0 then s.now else g.oldest }
  let s := (s.setRing h r g).writeShadow h r
  if now || (g.coalCount ≠ 0 && g.coalCount ≤ n) then s.signal h r else s

/-- The event-mask bit of an event code (R73). -/
def maskBit (code : Nat) : Nat :=
  let hi := code / 256
  if hi < 7 then hi else if hi = 7 then (if code % 256 < 0x80 then 7 else 8) else hi + 1

/-- The switch window of a firmware handover is open (R456, R457). -/
def State.fwWindow (s : State) : Bool :=
  match s.fw.handover with
  | some h => h.imageType = 1 && h.phase = 3
  | none => false

/-- Send a PLOAM message to an ONU of a tree; in the switch window of a handover it waits (R457). -/
def State.ploam (s : State) (tree onu code value : Nat) : State :=
  if s.fwWindow then { s with fw := { s.fw with held := s.fw.held ++ [(tree, onu, code, value)] } }
  else s.emit (.ploam tree onu code value)

/-- The switch window has closed: the PLOAM messages that waited go (R457). -/
def State.releasePloam (s : State) : State :=
  let s1 := { s with fw := { s.fw with held := [] } }
  each (fun m s => State.ploam s m.1 m.2.1 m.2.2.1 m.2.2.2) s.fw.held s1

/-- Post an event to one host (R81, R82): to its event ring, or into its queue; dropped and counted when that is full. In the
switch window of a handover events wait in the queue (R457). -/
def State.eventHost (s : State) (e : Event) (h : Nat) : State :=
  let p := s.hostPort h
  match p.eventRing with
  | none => s
  | some r =>
    if !bit p.eventMask (maskBit e.code) then s
    else
      let g := s.ring h r
      if p.events = [] && p.lostSince = 0 && g.state = .active && g.room && !s.fwWindow then
        s.postEntry h r { tag := 0xFFFFFFFF, code := e.code, status := 0, detail := e.detail, result := e.result } false
      else if p.events.length < 256 then s.setHostPort h { p with events := p.events ++ [e] }
      else s.setHostPort h { p with evtLost := min (p.evtLost + 1) 0xFFFFFFFF, evtMark := p.evtMark.note s.kclk p.evtLost,
                                    lostSince := min (p.lostSince + 1) 0xFFFFFFFF }

/-- A domain of a mask is held by the host. -/
def State.holdsMask (s : State) (h mask : Nat) : Bool :=
  (List.range 16).any fun d => bit mask d && s.holds h d

/-- The host may be told of an event: it is about no resource, or the host holds a domain of its mask (R81). -/
def State.mayHear (s : State) (h mask : Nat) : Bool := mask = 0 || s.holdsMask h mask

/-- Post an event, about what the domains of a mask own, to every host of `dest` that may be told of it. -/
def State.event (s : State) (code detail result mask : Nat) (dest : Nat → Bool) : State :=
  let e : Event := { code := code, detail := detail % 2 ^ 32, result := result % 2 ^ 32, mask := mask }
  each (fun h s => if dest h && s.mayHear h mask then s.eventHost e h else s) [0, 1, 2, 3] s

/-- Post an event to the hosts that hold a domain of a mask (R81). -/
def State.eventMask (s : State) (mask code detail result : Nat) : State := s.event code detail result mask fun _ => mask ≠ 0

/-- Post an event about a resource to the hosts that hold its owner (R81). -/
def State.eventTo (s : State) (d code detail result : Nat) : State := s.eventMask (2 ^ d) code detail result

/-- Post an event to every host. -/
def State.eventAll (s : State) (code detail result : Nat) : State := s.event code detail result 0 fun _ => true

/-! ### Answering commands (R67, R72, R75, R79) -/

/-- A list without the first started command that is `c`. -/
def dropStarted (c : Cmd) : List Started → List Started
  | [] => []
  | x :: t => if x.cmd = c then t else x :: dropStarted c t

/-- The started command that is `c`. -/
def findStarted (c : Cmd) : List Started → Option Started
  | [] => none
  | x :: t => if x.cmd = c then some x else findStarted c t

/-- A command's started record. -/
def State.startedAs (s : State) (c : Cmd) : Option Started := findStarted c s.host.started

/-- Started commands of a ring. -/
def State.startedOn (s : State) (h r : Nat) : Nat :=
  (s.host.started.filter fun x => x.cmd.host = h && x.cmd.ring = r && !x.dropped).length

/-- The key lock as it is held now: it releases itself 10 ms after the last claim (R104). -/
def State.lockNow (s : State) : Option KeyLock := s.dom.lock.filter fun l => s.now < l.deadline

/-- The host of a command holds the key lock under the command's domain (R103). -/
def State.locks (s : State) (c : Cmd) : Bool := s.lockNow.any fun l => l.host = c.host && l.domain = c.domain

/-- A command starts whose completion entry is reserved, in the mode that its entry was read in; what is in force is noted (R33, R104),
and whether its object is in use. -/
def State.startAs (s : State) (c : Cmd) (m : Mode) : State :=
  { s with host := { s.host with started :=
      s.host.started ++ [{ cmd := c, mode := m, held := s.holds c.host c.domain, locked := s.locks c,
                           busy := c.yields && s.host.started.any fun x => x.cmd.exclusive = c.exclusive }] } }

/-- BUSY where the command's object was in use when it started. -/
def State.busyErr (s : State) (c : Cmd) : Option Err := need (!(s.startedAs c).any (·.busy)) { status := .busy }

/-- Reserve a completion entry of a ring (R67). -/
def State.reserve (s : State) (h r : Nat) : State := s.setRing h r { s.ring h r with reserved := (s.ring h r).reserved + 1 }

/-- Start a command (R67): reserve its completion entry and note what is in force (R33). -/
def State.start (s : State) (c : Cmd) : State := (s.reserve c.host c.ring).startAs c s.dev.mode

/-- A command of a ring has completed: one that waits behind a fence starts (R70). -/
def State.releaseFence (s : State) (h r : Nat) : State :=
  let g := s.ring h r
  match g.fenced with
  | none => s
  | some f =>
    if s.startedOn h r = 0 && g.state = .active then (s.setRing h r { g with fenced := none }).startAs f.cmd f.mode else s

/-- Put a reply where R75 routes it, after the long result, and signal where flags bit 2 asks for it. -/
def State.route (s : State) (c : Cmd) (e : Entry) (long : Bytes) : State :=
  let s := if long = [] then s else s.emit (.long c.host (c.reply + 16) long)
  if c.inline || (c.reply = 0 && e.status ≠ 0) then s.postEntry c.host c.ring e c.interrupt
  else if c.reply ≠ 0 then
    let s := s.emit (.reply c.host c.reply e)
    if c.interrupt then s.signal c.host c.ring else s
  else s

/-- Basecamp runs: a core is in service (R440) and the clocks run (R446). -/
def State.basecampUp (s : State) : Bool := decide (s.countOut 1 < 4) && !s.dev.dead

/-- Complete a command with its status, detail and result (R75, R78); its reservation returns (R67). A reply of a host
whose port was reset is dropped (R72). With no Basecamp core no command completes (R440). -/
def State.answer (s : State) (c : Cmd) (st : Status) (detail result : Nat) (long : Bytes) : State :=
  match s.startedAs c with
  | none => s
  | some x =>
    if !s.basecampUp then s
    else
    let s := { s with host := { s.host with started := dropStarted c s.host.started } }
    if x.dropped then s
    else
      let g := s.ring c.host c.ring
      let s := s.setRing c.host c.ring { g with reserved := g.reserved - 1 }
      let e := { tag := c.tag, code := c.opcode, status := st.code, detail := detail % 2 ^ 32, result := result % 2 ^ 32 }
      (s.route c e long).releaseFence c.host c.ring

/-- Mark a command whose effect is under way and whose reply a later row posts. -/
def State.keepWorking (s : State) (c : Cmd) : State :=
  let l := s.host.started.map (fun x => if x.cmd = c then { x with working := true } else x)
  { s with host := { s.host with started := l } }

/-- The modes that accept an opcode (R33). -/
def modeAccepts (m : Mode) (c : Cmd) : Bool :=
  match m with
  | .safe => (c.opcode = 0x1200 && c.u8 28 = 1) || c.opcode = 0x1201
  | .calibrate => false
  | .handover => c.opcode ≠ 0x0001
  | _ => true

/-- Who may use an opcode (R74 step 3): any domain, or D0 on the principal host. -/
inductive Who where
  | any
  | d0
  deriving DecidableEq, Repr

/-- Steps 1 to 4 of R74 for a known opcode. -/
def frameErr (x : Started) (c : Cmd) (who : Who) : Option Err :=
  firstErr [
    at_ 2 (c.flags < 8),
    at_ 3 (c.domByte < 16),
    need x.held denied,
    need (who = .any || c.domain = 0) denied,
    need (modeAccepts x.mode c) { status := .wrongMode }]

/-- What an opcode that passed its checks does: the state it leaves, its reply, and whether the reply comes later. -/
structure Done where
  s : State
  status : Status := .ok
  detail : Nat := 0
  result : Nat := 0
  long : Bytes := []
  later : Bool := false

/-- The result of a reply that is not OK: 0 for DENIED (R78), else the opcode's. -/
def errResult (e : Err) (r : Nat) : Nat := if e.status = .denied then 0 else r

/-! ### The order of commands (R69, R93, R94) -/

/-- A command takes something from a domain. -/
def State.takesFrom (s : State) (c : Cmd) (d : Nat) : Bool :=
  if c.opcode = 0x0101 then
    d ≠ c.u8 17 && (List.range (c.u32 24)).any fun i => s.owner (c.u8 16) (c.u32 20 + i) = d
  else d = c.u8 17

/-- The commands that started before one, and those that started after it. -/
def splitStarted (c : Cmd) : List Started → List Started × List Started
  | [] => ([], [])
  | x :: t => if x.cmd = c then ([], t) else (x :: (splitStarted c t).1, (splitStarted c t).2)

/-- A command has to wait: one that started before it names the same object and has not taken effect (R69), or it takes a resource or a
host from a domain of which a command has started that completes first (R93, R94). -/
def State.waits (s : State) (c : Cmd) : Bool :=
  let (before, after) := splitStarted c s.host.started
  let open_ (x : Started) : Bool := !x.working
  (before.any fun x => open_ x && (clash x.cmd c || (c.uproots && s.takesFrom c x.cmd.domain))) ||
    after.any fun x => open_ x && c.uproots && !x.cmd.uproots && s.takesFrom c x.cmd.domain

/-- Carry out a command (R74): it acts only when it has started and its opcode is the row's, and no other has to take effect first; the first failed check
answers and changes no state (R79); otherwise `done` is what comes about, whichever path carries it out (R80). Nothing runs without a Basecamp core (R440). `res` is the result field of a failure. -/
def State.command (s : State) (code : Nat) (c : Cmd) (who : Who) (errs : List (Option Err)) (done : Done)
    (res : Nat := 0) : State :=
  match s.startedAs c with
  | none => s
  | some x =>
    if c.opcode ≠ code || x.working || !s.basecampUp || (s.waits c && !x.busy) then s
    else
      match firstErr (frameErr x c who :: errs) with
      | some e => s.answer c e.status e.detail (errResult e res) []
      | none =>
        if done.later then done.s.keepWorking c
        else done.s.answer c done.status done.detail done.result done.long

/-! ### The fault log (R444) and the modes (R34, R37) -/

/-- Append a record to the fault log, keep the latest 1,024, and post FAULT_RECORD (R444). -/
def State.record (s : State) (kind n severity action cause mask lost : Nat) (planned : Bool := false) : State :=
  let q := s.units.lastSeq + 1
  let r : Rec := { seq := q, time := s.timeNow, kind := kind, severity := severity, unit := n, cause := cause,
                   action := action, mask := mask, lost := min lost 0xFFFFFFFF, recoveryUs := Config.recoveryTime q, planned := planned,
                   acked := false, late := s.fwWindow }
  let log := s.units.log ++ [r]
  let s := { s with units := { s.units with lastSeq := q, log := log.drop (log.length - 1024) } }
  s.eventMask (mask ||| 1) 0x11F0 (kind + 256 * (n % 256) + 65536 * severity + 1048576 * action) q

/-- DEV_MODE.mode's code (R33). -/
def Mode.code : Mode → Nat
  | .safe => 0
  | .calibrate => 1
  | .standby => 2
  | .service => 3
  | .degraded => 4
  | .handover => 5

/-- Change the mode (R37). -/
def State.setMode (s : State) (m : Mode) : State :=
  let d := s.dev
  if d.mode = m then s
  else
    let s := { s with dev := { d with mode := m, prevMode := d.mode, modeSeq := (d.modeSeq + 1) % 256 } }
    s.eventAll 0x00F0 (m.code + 16 * d.mode.code + 256 * s.dev.modeSeq) 0

/-- The data plane moves packets: Trailhead dispatches. -/
def State.dispatching (s : State) : Bool :=
  !s.dev.dispatchOff && !s.dev.thermTrip && (s.dev.mode = .service || s.dev.mode = .degraded || s.dev.mode = .handover)
/-- The scheduler sends. In a HANDOVER that was entered from STANDBY the data plane stays held, as it was: the mode table has it running in
HANDOVER, and no rule says that it is released. DESIGN CHOICE, log entry 123. -/
def State.sending (s : State) : Bool :=
  !s.dev.schedOff && !s.dev.thermTrip && (s.dev.mode = .service || s.dev.mode = .degraded || s.dev.mode = .handover)

/-- A handover ends without its image (R457, R459): the slot's state, the event, the reply. The spec states no status for the reply: it
is HW_FAULT, with the number of the newest record, or REFUSED, freely. -/
def State.abandonHandover (s : State) (st : SlotState) : State :=
  match s.fw.handover with
  | none => s
  | some h =>
    let k := (if h.imageType = 1 then 0 else 2) + h.slot
    let x := look s.fw.slots k {}
    let x := if h.rollback then x else { x with state := st }
    let s := { s with fw := { s.fw with handover := none, slots := put s.fw.slots k {} x } }.releasePloam
    let v := match x.image with
      | some i => i.version
      | none => 0
    let s := s.eventTo 0 0x12F1 (h.imageType + 32) v
    match h.cmd with
    | none => s
    | some c =>
      let f := Config.freeValue s.free
      if f % 2 = 0 then s.drawn.answer c .hwFault s.units.lastSeq 0 [] else s.drawn.answer c .refused (f / 2) 0 []

/-- What a map-out does to the mode (R34). -/
def State.afterMapOut (s : State) : State :=
  let m := s.dev.mode
  if m = .service || m = .degraded || m = .handover then
    if s.serviceable then (if m = .service then s.setMode .degraded else s)
    else (({ s with dev := { s.dev with dispatchOff := true, schedOff := true } }).setMode .standby).abandonHandover .verified
  else s

/-- What a return does to the mode (R34). -/
def State.afterReturn (s : State) : State :=
  if s.dev.mode = .degraded && !s.anyOut then s.setMode .service else s

/-! ### Power domains (R468) -/

/-- The units of a switched power domain, by kind and number, in the order of R468's table: on the F die clusters 0–31, table SRAM banks
32–47, associative blocks 48–79, quads of network lanes 80–143, F ends of Guyline groups 144–151, stacks S0–S3 152–155, the port
cipher's banks 156–157, the tunnel cipher 158, PON cipher groups 159–164, payload automata memory 165; on the T die quads of
fabric links 166–213, near-buffer banks 214–221, T ends of Guyline groups 222–229, stacks S4–S9 230–235, eight slices each 236–239, policers
240, the PON grant engine 241. The domains of which no unit is mapped out alone have none. -/
def domainUnits (d : Nat) : List (Nat × Nat) :=
  let run (kind first n : Nat) : List (Nat × Nat) := (List.range n).map fun i => (kind, first + i)
  if d < 32 then run 4 d 1
  else if d < 48 then run 5 (d - 32) 1
  else if d < 80 then run 6 (d - 48) 1
  else if d < 144 then run 0x0A (4 * (d - 80)) 4
  else if d < 152 then run 3 (2 * (d - 144)) 2
  else if d < 156 then run 9 (d - 152) 1
  else if d < 158 then run 0x0C (32 * (d - 156)) 32
  else if d = 158 then run 0x0C 64 8
  else if d < 165 then run 0x0C (72 + 10 * (d - 159)) 10
  else if d = 165 then []
  else if d < 214 then run 0x0B (4 * (d - 166)) 4
  else if d < 222 then run 7 (d - 214) 1
  else if d < 230 then run 3 (2 * (d - 222)) 2
  else if d < 236 then run 9 (d - 226) 1
  else if d < 240 then run 8 (8 * (d - 236)) 8
  else []

/-- The domains that feed a unit. -/
def unitDomains (kind n : Nat) : List Nat :=
  match kind with
  | 3 => [144 + n / 2, 222 + n / 2]
  | 4 => [n]
  | 5 => [32 + n]
  | 6 => [48 + n]
  | 7 => [214 + n]
  | 8 => [236 + n / 8]
  | 9 => [if n < 4 then 152 + n else 226 + n]
  | 0x0A => [80 + n / 4]
  | 0x0B => [166 + n / 4]
  | 0x0C => [if n < 64 then 156 + n / 32 else if n < 72 then 158 else 159 + (n - 72) / 10]
  | _ => []

/-- Mark a unit mapped out, or in service. -/
def Units.mark (u : Units) (kind n : Nat) (out : Bool) : Units := { u with out := put u.out (kind * 65536 + n) false out }

/-- Basecamp switches the domains of a unit: off when every unit in them is mapped out, on when one is in service (R468). What a domain
holds is lost and comes back from Basecamp's own copy, so that a unit is found again as its return leaves it; the time that switching takes
is not modelled. -/
def Units.switch (u : Units) (kind n : Nat) : Units :=
  { u with domainsOff := (unitDomains kind n).foldl (fun m d =>
      put m d false ((domainUnits d).all fun r => look u.out (r.1 * 65536 + r.2) false)) u.domainsOff }

/-- A switched power domain is on (R466, R468, R469): the topology uses its lanes, and a unit in it is in service. -/
def State.domainOn (s : State) (d : Nat) : Bool :=
  (if 80 ≤ d && d < 144 then 4 * (d - 80) < s.laneRange else if 166 ≤ d && d < 214 then s.dev.topology = 1 else d < 242) &&
    !look s.units.domainsOff d false

/-- List a unit as mapped out. -/
def State.markOut (s : State) (kind n : Nat) : State :=
  { s with units := (s.units.mark kind n true).switch kind n }
/-- List a unit as in service. -/
def State.markIn (s : State) (kind n : Nat) : State :=
  { s with units := (s.units.mark kind n false).switch kind n }

/-- A unit fails and is mapped out: the unit lists, the record (R444: unserviceable where the set of R31 is no longer
met), the mode (R34). A unit already out fails no further. -/
def State.mapOut (s : State) (kind n cause mask lost : Nat) (planned : Bool := false) : State :=
  if s.isOut kind n then s
  else
    let s := s.markOut kind n
    let ok := s.serviceable
    (s.record kind n (if ok then 2 else 3) (if ok then 2 else 4) cause mask lost planned).afterMapOut

/-- A unit that is out, or that is being recovered in place, fails again while its recovery runs (R436): the failure is logged and the
recovery goes on. The record's severity and action, 2 and 2 where the unit is mapped out and 1 and 1 otherwise, are a DESIGN CHOICE, log entry 145. -/
def State.failAgain (s : State) (kind n cause mask : Nat) : State :=
  if s.isOut kind n then s.record kind n 2 2 cause mask 0 else s.record kind n 1 1 cause mask 0

/-- A unit returns to service, reset (R47): the nonce (R107), the list, the record of a return, the mode. -/
def State.bringBack (s : State) (kind n mask : Nat) (planned : Bool) : State :=
  if s.isOut kind n then ((s.drawNonce.markIn kind n).record kind n 0 3 0 mask 0 planned).afterReturn else s

/-- The sequence number of the newest record of a unit; 0 where the log holds none. -/
def State.seqOf (s : State) (kind n : Nat) : Nat :=
  match s.units.log.reverse.find? fun r => r.kind = kind && r.unit = n with
  | some r => r.seq
  | none => 0

end Machine

end Sys2Proof
end

