-- ==== Sys2Proof/Machine/Rings.lean ====
section
/-! DEFINITION. Host ports, rings, doorbells and the device-level opcodes of 03_host_ports_and_commands.md. -/

namespace Sys2Proof.Machine

/-- The register window of a host answers: its link is trained and the device is not held (R446, R467). -/
def State.answers (s : State) (h : Nat) : Bool := (s.hostPort h).link && !s.dev.dead && !s.dev.inReset

/-- The part of a register that a read returns (R8): a read not aligned for its own width returns 0. -/
def readPart (r : RegRead) (v : Nat) : Nat :=
  if r.size ≠ 0 && r.addr % r.size = 0 then v / 2 ^ (8 * (r.addr % 4)) % 2 ^ (8 * r.size) else 0

/-- The read is aligned, so it has the side effects of a read (R8). -/
def readAligned (r : RegRead) : Bool := (r.size = 1 || r.size = 2 || r.size = 4) && r.addr % r.size = 0

/-- The read reaches the register at `a`. -/
def readHits (r : RegRead) (a : Nat) : Bool := r.addr / 4 = a / 4

/-- A ring leaves ACTIVE (R66): an entry that waits behind its fence never starts, and its reservation returns. RING_STATUS.error keeps
its code until the ring is ACTIVE again. -/
def Ring.leave (g : Ring) (st : RingState) (err : Nat) : Ring :=
  { g with state := st, error := err, fenced := none, reserved := if g.fenced.isSome then g.reserved - 1 else g.reserved }

/-- An opcode of the table (R73, R74 step 1). -/
def knownOpcode (op : Nat) : Bool :=
  let lo := op % 256
  match op / 256 with
  | 0x00 => lo ≤ 4
  | 0x01 => lo ≤ 2 || (0x10 ≤ lo && lo ≤ 0x13) || lo = 0x20
  | 0x02 => lo ≤ 3
  | 0x03 => lo ≤ 3
  | 0x04 => lo ≤ 0x0A
  | 0x05 => lo ≤ 0x0D
  | 0x06 => lo ≤ 5
  | 0x07 => lo ≤ 4 || (0x80 ≤ lo && lo ≤ 0x84)
  | 0x08 => lo ≤ 4
  | 0x09 => lo ≤ 4
  | 0x0A => lo ≤ 9
  | 0x0B => lo ≤ 4
  | 0x0C => lo ≤ 0x0C
  | 0x0D => lo ≤ 3
  | 0x0E => lo ≤ 7
  | 0x0F => lo ≤ 4
  | 0x10 => lo ≤ 1
  | 0x11 => lo ≤ 3
  | 0x12 => lo ≤ 7
  | _ => false

/-- UNKNOWN_OPCODE (R74): INVALID_PARAM kind 0x03. -/
def execUnknownOpcode (t : Nat) (c : Cmd) (s : State) : Host.Outcome State Fault Refusal :=
  let s := s.at_ t
  .next (if knownOpcode c.opcode then s else s.answer c .invalidParam 0x03000000 0 [])

/-- NOP (R84). -/
def execNop (t : Nat) (c : Cmd) (s : State) : Host.Outcome State Fault Refusal :=
  let s := s.at_ t
  .next (s.command 0x0000 c .any [c.zeros 16 48] { s := s })

/-- Bit `i` of the result is 1 for each of `n` units of a kind that is healthy. -/
def healthyMask (s : State) (kind n : Nat) : Nat :=
  ((List.range n).map fun i => if s.healthy kind i then 2 ^ i else 0).sum

/-- DEV_ID (02 Registers). -/
def devId : Nat := 0x5140B000 + Config.orderingCode.toNat * 16

/-- Device ID and Revision ID of function 0, the one function of every host port (R53). -/
def functionId : Nat × Nat := (0x5140, 0xB0)

/-- The version of the firmware that runs (R85); FW state holds it for image type 1. -/
def devQueryBytes (h version : Nat) (s : State) : Bytes :=
  leBytes 4 devId ++ leBytes 8 Config.unitId.toNat ++ leBytes 4 version ++ leBytes 4 (healthyMask s 4 32)
    ++ leBytes 2 (healthyMask s 3 16) ++ leBytes 2 (healthyMask s 9 10) ++ leBytes 1 h ++ leBytes 1 0
    ++ leBytes 2 (s.heldMask h) ++ leBytes 1 (s.dev.mode.code + 16 * s.dev.prevMode.code) ++ leBytes 35 0

/-- EVENT_CONFIG (R86). -/
def execEventConfig (t : Nat) (c : Cmd) (s : State) : Host.Outcome State Fault Refusal :=
  let s := s.at_ t
  let p := s.hostPort c.host
  .next (s.command 0x0003 c .any
    [at_ 16 (c.u8 16 < 16), c.zeros 17 3, at_ 20 (c.u32 20 < 2 ^ 20), c.zeros 24 40]
    { s := s.setHostPort c.host { p with eventRing := some (c.u8 16), eventMask := c.u32 20 } })

/-- A write of RING_CFG while the ring is DISABLED sets its configuration fields (R66). -/
def Ring.configure (g : Ring) (v : Nat) : Ring :=
  { g with enable := bit v 31, sizeLog2 := bits v 27 24, vector := bits v 23 16, coalCount := bits v 15 8,
           coalTime := bits v 7 0 }

/-- The configuration that R66 accepts. -/
def Ring.valid (g : Ring) : Bool :=
  4 ≤ g.sizeLog2 && g.sizeLog2 ≤ 12 && g.sqBase ≠ 0 && g.cqBase ≠ 0 && g.shadow ≠ 0

/-- A write of enable = 1 (R66). The error code reads 0 from the transition to ACTIVE on and is kept through the later ones. DESIGN CHOICE,
log entry 55. -/
def Ring.enableWrite (g : Ring) (v : Nat) : Ring :=
  if g.state = .disabled then
    let g := g.configure v
    if g.valid then
      { g with state := .active, error := 0, sqHead := 0, sqTail := 0, cqTail := 0, cqHead := 0, unsignalled := 0 }
    else { g with error := 1 }
  else g

/-- A write of enable = 0 (R66). -/
def Ring.disableWrite (g : Ring) (v : Nat) : Ring :=
  match g.state with
  | .disabled => g.configure v
  | .active => { g.leave .draining g.error with enable := false }
  | .error => { g.leave .draining g.error with enable := false }
  | .draining => { g with enable := false }

/-- RING_CFG_ENABLE (R66). -/
def execRingCfgEnable (t host ring value : Nat) (s : State) : Host.Outcome State Fault Refusal :=
  let s := s.at_ t
  .next (if s.answers host && ring < 16 && bit value 31 then s.setRing host ring ((s.ring host ring).enableWrite value)
    else s)

/-- RING_CFG_DISABLE (R66). -/
def execRingCfgDisable (t host ring value : Nat) (s : State) : Host.Outcome State Fault Refusal :=
  let s := s.at_ t
  .next (if s.answers host && ring < 16 && !bit value 31 then
      s.setRing host ring ((s.ring host ring).disableWrite value)
    else s)

/-- What a doorbell write does to a ring (R65): ignored while DISABLED; out of range or backwards, it puts an ACTIVE ring
in ERROR and is itself ignored -/
def Ring.doorbell (g : Ring) (v : Nat) (backwards : Bool) (set : Ring) : Ring :=
  let bad (e : Nat) : Ring := if g.state = .active then g.leave .error e else g
  if g.state = .disabled then g
  else if g.size ≤ v then bad 2
  else if backwards then bad 3
  else set

/-- A submission tail doorbell (R64, R65). -/
def Ring.sqTailWrite (g : Ring) (value : Nat) : Ring :=
  let v := value % 4096
  let n := g.size
  g.doorbell v ((v + n - g.sqHead) % n < (g.sqTail + n - g.sqHead) % n) { g with sqTail := v }

/-- A completion head doorbell (R64, R65). -/
def Ring.cqHeadWrite (g : Ring) (value : Nat) : Ring :=
  let v := value % 4096
  let n := g.size
  g.doorbell v ((g.cqTail + n - g.cqHead) % n < (g.cqTail + n - v) % n) { g with cqHead := v }

/-- SQ_TAIL (R65). -/
def execSqTail (t host ring value : Nat) (s : State) : Host.Outcome State Fault Refusal :=
  let s := s.at_ t
  .next (if s.answers host && ring < 16 then s.setRing host ring ((s.ring host ring).sqTailWrite value) else s)

/-- CQ_HEAD (R65). -/
def execCqHead (t host ring value : Nat) (s : State) : Host.Outcome State Fault Refusal :=
  let s := s.at_ t
  .next (if s.answers host && ring < 16 then s.setRing host ring ((s.ring host ring).cqHeadWrite value) else s)

/-- The command that a 64-byte entry spells (R73); a reply address that is not 16-byte aligned is used as it is.
DESIGN CHOICE, log entry 55. -/
def cmdOf (host ring : Nat) (b : Bytes) : Cmd :=
  { host := host, ring := ring, opcode := leAt b 0 2, flags := leAt b 2 1, domByte := leAt b 3 1, tag := leAt b 4 4,
    reply := leAt b 8 8, params := slice b 16 48 }

/-- The commands of a host that have started, or whose entries wait behind a fence, and that have not completed (R71). -/
def State.hostLoad (s : State) (h : Nat) : Nat :=
  (s.host.started.filter fun x => x.cmd.host = h && !x.dropped).length + ((List.range 16).filter fun r => (s.ring h r).fenced.isSome).length

/-- The device may take an entry of the ring (R33, R66, R67, R69–R71). -/
def State.mayFetch (s : State) (h r : Nat) : Bool :=
  let g := s.ring h r
  s.answers h && h < 4 && r < 16 && g.state = .active && g.sqHead ≠ g.sqTail && g.fenced = none && g.room
    && s.hostLoad h < 256
    && (s.host.started.all fun x => !(x.cmd.host = h && x.cmd.ring = r && !x.dropped && x.cmd.fence))
    && (s.dev.mode ≠ .safe || h = s.dom.principal)
    && s.countOut 1 < 4

/-- The ring of a host whose turn is next (R71). -/
def State.nextRing (s : State) (h : Nat) : Option Nat :=
  ((List.range 16).map fun i => ((s.hostPort h).lastRing + 1 + i) % 16).find? fun r => s.mayFetch h r

/-- The host whose turn is next (R71), of those with pending work. -/
def State.nextHost (s : State) : Option Nat :=
  ((List.range 4).map fun i => (s.host.lastHost + 1 + i) % 4).find? fun h => (s.nextRing h).isSome

/-- The turn is a ring's (R71): round robin over the hosts that have pending work, and within each over its active rings. -/
def State.turnOf (s : State) (h r : Nat) : Bool := s.nextHost = some h && s.nextRing h = some r

/-- A ring has taken its turn. -/
def State.tookTurn (s : State) (h r : Nat) : State :=
  let s := s.setHostPort h { s.hostPort h with lastRing := r }
  { s with host := { s.host with lastHost := h } }

/-- RING_ENTRY_FETCH (R64, R71): the entry at base + sq_head × 64 is read (R63), sq_head passes it, a completion entry is reserved (R67),
the shadow follows, and the command starts unless its fence holds it (R70); a failed read puts the ring in ERROR (R66). -/
def execRingEntryFetch (t host ring : Nat) (entry : BufRead) (s : State) : Host.Outcome State Fault Refusal :=
  let s := s.at_ t
  let g := s.ring host ring
  .next (if !s.turnOf host ring then s
    else
      let s := (s.tookTurn host ring).emit (.sqRead host (g.sqBase + 64 * g.sqHead))
      match entry with
      | .failed => s.setRing host ring (g.leave .error 4)
      | .slow => s
      | .data b =>
        let c := cmdOf host ring b
        let s1 := ((s.setRing host ring { g with sqHead := (g.sqHead + 1) % g.size }).writeShadow host ring).reserve host ring
        if c.fence && s.startedOn host ring ≠ 0 then
          s1.setRing host ring { s1.ring host ring with fenced := some { cmd := c, mode := s.dev.mode } }
        else s1.startAs c s.dev.mode)

/-- The opcode reads an indirect buffer in host memory (R76). -/
def readsBuffer (c : Cmd) : Bool :=
  match c.opcode with
  | 0x0111 | 0x0400 | 0x0402 | 0x0404 | 0x0408 | 0x0509 | 0x050A | 0x0602 | 0x0605 | 0x0700 | 0x0C05 => true
  | 0x0120 => c.u8 28 = 0
  | 0x0508 => c.u8 30 = 0
  | 0x0704 => c.u64 16 ≠ 0
  | 0x1200 => c.u8 29 = 0
  | _ => false

/-- HOST_BUFFER_TIMEOUT (R78): TIMEOUT, detail 1, of a command whose buffer is being read. -/
def execHostBufferTimeout (t : Nat) (c : Cmd) (s : State) : Host.Outcome State Fault Refusal :=
  let s := s.at_ t
  .next (match s.startedAs c with
    | some x => if x.working || !readsBuffer c then s else s.answer c .timeout 1 0 []
    | none => s)

/-- HOST_WRITE_FAILED (R66): an ACTIVE ring enters ERROR with code 5. -/
def execHostWriteFailed (t host ring : Nat) (s : State) : Host.Outcome State Fault Refusal :=
  let s := s.at_ t
  let g := s.ring host ring
  .next (if g.state = .active then s.setRing host ring (g.leave .error 5) else s)

/-- RING_DRAINED (R66). -/
def execRingDrained (t host ring : Nat) (s : State) : Host.Outcome State Fault Refusal :=
  let s := s.at_ t
  let g := s.ring host ring
  .next (if (g.state = .draining || g.state = .error) && s.startedOn host ring = 0 && !g.enable then
      s.setRing host ring { g with state := .disabled }
    else s)

/-- Post queued events while the event ring has room (R82); one about a resource whose domain the host has lost is not posted (R81). -/
def drainEvents (h r : Nat) : List Event → State → State
  | [], s => s
  | e :: t, s =>
    let g := s.ring h r
    if !s.mayHear h e.mask then drainEvents h r t (s.setHostPort h { s.hostPort h with events := t })
    else if g.state = .active && g.room then
      let s := s.postEntry h r
        { tag := 0xFFFFFFFF, code := e.code, status := 0, detail := e.detail, result := e.result } false
      let p := s.hostPort h
      drainEvents h r t (s.setHostPort h { p with events := t })
    else s

/-- Post what waits in a host's event queue: EVENT_OVERFLOW first where events were lost (R82). -/
def State.drainQueue (s : State) (h : Nat) : State :=
  let p := s.hostPort h
  match p.eventRing with
  | none => s
  | some r =>
    let g := s.ring h r
    if !(g.state = .active && g.room) then s
    else
      let s := if p.lostSince = 0 then s
        else
          let s := s.postEntry h r
            { tag := 0xFFFFFFFF, code := 0x00FF, status := 0, detail := p.lostSince, result := 0 } false
          let p := s.hostPort h
          s.setHostPort h { p with lostSince := 0 }
      drainEvents h r (s.hostPort h).events s

/-- EVENT_QUEUE_DRAIN (R82). -/
def execEventQueueDrain (t host : Nat) (s : State) : Host.Outcome State Fault Refusal :=
  .next (if s.fwWindow then s.at_ t else (s.at_ t).drainQueue host)

/-- INTERRUPT_COAL_TIMEOUT (R83). -/
def execInterruptCoalTimeout (t host ring : Nat) (s : State) : Host.Outcome State Fault Refusal :=
  let s := s.at_ t
  let g := s.ring host ring
  .next (if g.unsignalled ≠ 0 && g.coalTime ≠ 0 && g.oldest + us g.coalTime ≤ s.now then s.signal host ring else s)

/-- HCMD_EVT_LOST_READ (R82): an RC field (R9). -/
def execHcmdEvtLostRead (t : Nat) (r : RegRead) (s : State) : Host.Outcome State Fault Refusal :=
  let s := s.at_ t
  let p := s.hostPort r.host
  .next (if s.answers r.host && readHits r 0x00100004 then
      let v := p.evtMark.seen s.kclk p.evtLost
      let s1 := s.emit (.read r.host (readPart r v))
      if readAligned r then s1.setHostPort r.host { p with evtLost := p.evtLost - v, evtMark := p.evtMark.cleared s.kclk } else s1
    else s)

/-! ### CXL.mem (R60–R62) -/

/-- A window page of a host. -/
def State.window (s : State) (h page : Nat) : WinPage := look s.host.windows (h * 4096 + page) {}
/-- Set a window page of a host. -/
def State.setWindow (s : State) (h page : Nat) (w : WinPage) : State :=
  { s with host := { s.host with windows := put s.host.windows (h * 4096 + page) {} w } }

/-- The 8-byte word of an exported region at a byte offset; a word that nothing has written reads 0. -/
def State.regionWord (s : State) (region off : Nat) : Nat := look s.host.regions (region * 2 ^ 40 + off / 8) 0
/-- Set a word of an exported region. -/
def State.setRegionWord (s : State) (region off v : Nat) : State :=
  { s with host := { s.host with regions := put s.host.regions (region * 2 ^ 40 + off / 8) 0 v } }
/-- Write bytes, a whole number of words, into an exported region. -/
def State.writeRegion (s : State) (region off : Nat) (b : Bytes) : State :=
  each (fun i s => s.setRegionWord region (off + 8 * i) (leAt b (8 * i) 8)) (List.range ((b.length + 7) / 8)) s

/-- The offset within its region of an address of the HDM range (R60). -/
def WinPage.offset (w : WinPage) (addr : Nat) : Nat := w.page * 2 ^ 25 + addr % 2 ^ 25

/-- A host has read a place of a region: a record of a tree's OMCI ring (R362) is read. -/
def State.regionRead (s : State) (region off : Nat) : State :=
  if 0xC00 ≤ region && region < 0xC30 then
    let t := look s.pon.trees (region - 0xC00) {}
    let t := { t with omciUnread := put t.omciUnread (off / 2048) false false }
    { s with pon := { s.pon with trees := put s.pon.trees (region - 0xC00) {} t } }
  else s

/-- CXLMEM_READ (R61): the naturally aligned 8-byte word at the address. -/
def execCxlmemRead (t host addr : Nat) (s : State) : Host.Outcome State Fault Refusal :=
  let s := s.at_ t
  let w := s.window host (addr / 2 ^ 25)
  .next (if s.answers host && (s.hostPort host).cxl && addr < 2 ^ 37 then
      let v := if w.mapped then s.regionWord w.region (w.offset addr) else 0
      let s := s.emit (.mem host (leBytes 8 v))
      if w.mapped then (s.regionRead w.region (w.offset addr)).dramAny 64 2 else s
    else s)

/-- CXLMEM_WRITE (R61): dropped unless the page is mapped read-write. -/
def execCxlmemWrite (t host addr : Nat) (data : Bytes) (s : State) : Host.Outcome State Fault Refusal :=
  let s := s.at_ t
  let w := s.window host (addr / 2 ^ 25)
  .next (if s.answers host && (s.hostPort host).cxl && addr < 2 ^ 37 && w.mapped && w.write then
      (s.setRegionWord w.region (w.offset addr) (leAt data 0 8)).dramAny 64 2
    else s)

end Sys2Proof.Machine
end

