-- ==== Sys2Proof/Machine/Buffer.lean ====
section
/-! DEFINITION. Cells, free rings, pools, accounts, thresholds and PFC (13_buffer_pool.md). -/

namespace Sys2Proof.Machine

/-! ### Access -/

/-- A pool. -/
def State.pool (s : State) (p : Nat) : Pool := look s.buf.pools p {}
/-- Set a pool. -/
def State.setPool (s : State) (p : Nat) (x : Pool) : State :=
  { s with buf := { s.buf with pools := put s.buf.pools p {} x } }
/-- An account. -/
def State.account (s : State) (a : Nat) : Account := look s.buf.accounts a {}
/-- Set an account. -/
def State.setAccount (s : State) (a : Nat) (x : Account) : State :=
  { s with buf := { s.buf with accounts := put s.buf.accounts a {} x } }
/-- A cell. -/
def State.cell (s : State) (a : Nat) : CellState := look s.buf.cells a {}
/-- Set a cell. -/
def State.setCell (s : State) (a : Nat) (x : CellState) : State :=
  { s with buf := { s.buf with cells := put s.buf.cells a {} x } }
/-- A queue. -/
def State.queue (s : State) (q : Nat) : Queue := look s.tm.queues q {}
/-- Set a queue. -/
def State.setQueue (s : State) (q : Nat) (x : Queue) : State :=
  { s with tm := { s.tm with queues := put s.tm.queues q {} x } }
/-- A packet. -/
def State.pkt (s : State) (k : Nat) : Packet := look s.pkts k {}
/-- Set a packet. -/
def State.setPkt (s : State) (k : Nat) (x : Packet) : State := { s with pkts := put s.pkts k {} x }
/-- A packet is gone from the device. -/
def State.dropPkt (s : State) (k : Nat) : State := { s with pkts := drop s.pkts k }
/-- A new packet. -/
def State.newPkt (s : State) (x : Packet) : State :=
  { s with pkts := put s.pkts s.nextPkt {} { x with live := true }, nextPkt := s.nextPkt + 1 }
/-- The number that the next new packet gets. -/
def State.nextId (s : State) : Nat := s.nextPkt

/-- The number of the present TCLK cycle (R27). -/
def State.tclk (s : State) : Nat := s.now / 4

/-! ### Cell addresses and pages (R30, R269) -/

/-- Near cells of the device; cell `n` lies in bank `n mod 8` (R268). -/
def nearCells : Nat := 786432

/-- A far cell's address (R30). -/
def isFar (a : Nat) : Bool := bit a 29

/-- An address that R30 allows. -/
def validCell (a : Nat) : Bool := if isFar a then decide (a < 2 ^ 29 + 2 ^ 28) else decide (a < nearCells)

/-- The page of a far cell. -/
def pageOf (a : Nat) : Nat := a % 2 ^ 28 / 2 ^ 18

/-- BUF_FAR_PAGE: where a page lies. -/
def State.farPage (s : State) (p : Nat) : FarPage :=
  let x := look s.buf.pages p {}
  if x.moved then x else { stack := 4 + p % 6, slot := p / 6 }

/-- The page can serve allocations: it is not lost and its stack is in service. -/
def State.pageUp (s : State) (p : Nat) : Bool := !(s.farPage p).lost && s.healthy 9 (s.farPage p).stack

/-- The far capacity in cells (R269). -/
def State.farCapacity (s : State) : Nat :=
  ((List.range 1024).filter fun p => !(s.farPage p).lost).length * 262144

/-- The near cells of healthy banks (R274, R284). -/
def State.nearCapacity (s : State) : Nat := (8 - s.countOut 7) * 98304

/-- A map-out or return of a unit is in progress. -/
def State.inWork (s : State) (kind n : Nat) : Bool := s.units.work.any fun r => r.1 == kind * 65536 + n

/-- A pointer may be granted: its bank or page is in service (R271, R284), its stack changes no point (R418), and no planned map-out
withholds its bank (R447). -/
def State.pointerUp (s : State) (a : Nat) : Bool :=
  if isFar a then s.pageUp (pageOf a) && (look s.dram (s.farPage (pageOf a)).stack {}).state ≠ .changing
  else s.healthy 7 (a % 8) && !s.inWork 7 (a % 8)

/-- Withhold pointers that may not be granted now; those of a page that is lost are dropped (R271). -/
def State.setAside (s : State) (l : List Nat) : State :=
  { s with buf := { s.buf with aside := s.buf.aside ++ l.filter fun a => !(isFar a && (s.farPage (pageOf a)).lost) } }

/-! ### The free store (R270, R271) -/

/-- The i-th pointer of a ring as start-up builds it: consecutive near pointers name consecutive banks, and consecutive
far pointers consecutive pages, which lie in different stacks. -/
def builtPointer (far : Bool) (i : Nat) : Nat :=
  if far then 2 ^ 29 + i % 1024 * 2 ^ 18 + i / 1024 else i

/-- How many pointers a ring is built with. -/
def ringSize (far : Bool) : Nat := if far then 2 ^ 28 else nearCells

/-- The ring of a memory. -/
def State.freeRing (s : State) (far : Bool) : FreeRing := if far then s.buf.farRing else s.buf.nearRing
/-- Set the ring of a memory. -/
def State.setFreeRing (s : State) (far : Bool) (g : FreeRing) : State :=
  if far then { s with buf := { s.buf with farRing := g } } else { s with buf := { s.buf with nearRing := g } }

/-- The ring can be read: it is built, and a copy of the far ring is in service (R271). -/
def State.ringUp (s : State) (far : Bool) : Bool :=
  (s.freeRing far).built && (!far || s.buf.farCopies != [])

/-- Take the next pointer of the built part that is in service, looking at most `n` ahead: the pointer, the ring, and the
pointers passed over. -/
def takeBuilt (s : State) (far : Bool) (g : FreeRing) : Nat → Option (Nat × FreeRing × List Nat)
  | 0 => none
  | n + 1 =>
    if ringSize far ≤ g.taken then none
    else
      let a := builtPointer far g.taken
      let g := { g with taken := g.taken + 1 }
      if s.pointerUp a then some (a, g, [])
      else
        match takeBuilt s far g n with
        | some (b, g, l) => some (b, g, a :: l)
        | none => none

/-- Take the oldest returned pointer that is in service: the pointer, those left, and those passed over. -/
def takeBack (s : State) : List Nat → Option (Nat × List Nat × List Nat)
  | [] => none
  | a :: t =>
    if s.pointerUp a then some (a, t, [])
    else
      match takeBack s t with
      | some (b, l, skipped) => some (b, l, a :: skipped)
      | none => none

/-- The next pointer of a ring, and the ring without it. -/
def State.takeRing (s : State) (far : Bool) : Option (Nat × State) :=
  if !s.ringUp far then none
  else
    let g := s.freeRing far
    match takeBuilt s far g 1025 with
    | some (a, g, l) => some (a, (s.setFreeRing far g).setAside l)
    | none =>
      match takeBack s g.back with
      | some (a, b, l) => some (a, (s.setFreeRing far { g with back := b }).setAside l)
      | none => none

/-- Return a pointer to its ring. -/
def State.giveRing (s : State) (a : Nat) : State :=
  let g := s.freeRing (isFar a)
  s.setFreeRing (isFar a) { g with back := g.back ++ [a] }

/-- Take a pointer from a pool's cache, or else from the ring (R272: the cache never causes a refusal). -/
def State.takePointer (s : State) (p : Nat) (far : Bool) : Option (Nat × State) :=
  let x := s.pool p
  match takeBack s (if far then x.cacheFar else x.cacheNear) with
  | some (a, b, l) =>
    if far && s.buf.farCopies = [] then none
    else some (a, (s.setPool p (if far then { x with cacheFar := b } else { x with cacheNear := b })).setAside l)
  | none => s.takeRing far

/-! ### Errors (R282) -/

/-- Log a buffer error. -/
def State.bufError (s : State) (kind addr : Nat) : State :=
  ({ s with buf := { s.buf with errValid := true, errKind := kind, errAddr := addr,
                                errCount := min (s.buf.errCount + 1) 0xFFFF,
                                errMark := s.buf.errMark.note s.kclk s.buf.errCount } }).eventTo 0 0x08F1 kind addr

/-! ### Thresholds and PFC (R278, R279) -/

/-- A port's speed in Mb/s (R115). -/
def Port.speed (p : Port) : Nat :=
  p.laneCount * (match p.laneRate with
    | 0 => 25000
    | 1 => 50000
    | 2 => 100000
    | _ => 200000)

/-- The time of `quanta` pause units of 512 bit-times at a port's speed, in root cycles (R117). -/
def Port.pauseTime (p : Port) (quanta : Nat) : Nat := if p.speed = 0 then 0 else quanta * 512 * 6000 / p.speed

/-- A set threshold of a pool pauses the class on the port (R278 bit 0). -/
def Pool.pauses (x : Pool) (port cls : Nat) : Bool :=
  (List.range 4).any fun i =>
    let h := look x.thresholds i {}
    h.isSet && bit h.actions 0 && bit h.pfcClasses cls && decide (h.pfcFloor < look x.byPort port 0)

/-- The pools whose thresholds pause the class on the port, lowest number first. -/
def State.pausers (s : State) (port cls : Nat) : List Nat :=
  (s.buf.pools.filter fun r => r.2.pauses port cls).map fun r => r.1

/-- Send a PFC frame for one class that pfc_tx enables (R117, R279), counting it. -/
def State.sendPause (s : State) (port cls quanta : Nat) : State :=
  let p := s.port port
  if p.state = .up && p.personality = .ethernet && bit p.cfg.pfcTx cls then
    let s := (s.setPort port { p with counters := bump p.counters 9 1 }).emit
      (.pause port (2 ^ cls) ((List.range 8).map fun i => if i = cls then quanta else 0))
    match s.pausers port cls with
    | [] => s
    | k :: _ => if quanta = 0 then s else s.setPool k { s.pool k with counters := bump (s.pool k).counters 6 1 }
  else s

/-- Start or end the pause of a class on a port, as the thresholds now ask. -/
def State.updatePause (port : Nat) (cls : Nat) (s : State) : State :=
  let p := s.port port
  let want := p.personality = .ethernet && bit p.cfg.pfcTx cls && s.pausers port cls != []
  let x := look s.buf.xoff (port * 8 + cls) {}
  if want = x.on then s
  else
    let y : Xoff := if want then { on := true, refresh := s.now + p.pauseTime 0xFFFF / 2 } else {}
    let s := { s with buf := { s.buf with xoff := put s.buf.xoff (port * 8 + cls) {} y } }
    s.sendPause port cls (if want then 0xFFFF else 0)

/-- Settle the pauses of a port. -/
def State.updatePort (port : Nat) (s : State) : State := each (State.updatePause port) (List.range 8) s

/-- A threshold follows its measure (R278). -/
def State.updateThreshold (k : Nat) (i : Nat) (s : State) : State :=
  let x := s.pool k
  let h := look x.thresholds i {}
  let m := if h.measure = 0 then x.nearUsed else x.nearUsed + x.farUsed
  let now := if h.isSet then !decide (m < h.clearCells) else h.written && h.setCells ≤ m
  if now = h.isSet then s
  else
    let s := s.setPool k { x with thresholds := put x.thresholds i {} { h with isSet := now } }
    let s := s.eventTo 0 0x08F0 (k + 256 * i + 4096 * b2n now) m
    each State.updatePort (x.byPort.map fun r => r.1) s

/-- The thresholds of a pool follow its measures, and the pauses of a port that holds cells follow them. -/
def State.settlePool (s : State) (k port : Nat) : State :=
  State.updatePort port (each (State.updateThreshold k) (List.range 4) s)

/-! ### Charging, granting, freeing (R272–R277) -/

/-- The accounts of a pool. -/
def State.accountsOf (s : State) (k : Nat) : List Account :=
  (s.buf.accounts.filter fun r => r.2.valid && r.2.pool == k).map fun r => r.2
/-- The sum of the minimums of a pool's accounts (R274). -/
def State.minSum (s : State) (k : Nat) : Nat := ((s.accountsOf k).map fun a => a.min).sum
/-- The pool's shared use (R274). -/
def State.sharedUsed (s : State) (k : Nat) : Nat := ((s.accountsOf k).map fun a => a.used - a.min).sum
/-- The pool's shared size (R274). -/
def State.shared (s : State) (k : Nat) : Nat := (s.pool k).near + (s.pool k).far - s.minSum k

/-- The quota check (R275). -/
def State.quota (s : State) (a : Nat) : Bool :=
  let x := s.account a
  x.valid && (x.used < x.min || (x.used < x.max && s.sharedUsed x.pool < s.shared x.pool))

/-- The pool's allotment of a memory lets one more cell be granted (R272). -/
def Pool.allows (x : Pool) (far : Bool) : Bool :=
  x.enabled && (if far then decide (x.farUsed < x.far) else decide (x.nearUsed < x.near))

/-- Grant a cell of one memory: the pointer and the state without it; none where it cannot be granted. -/
def State.grantOf (s : State) (k : Nat) (far : Bool) : Option (Nat × State) :=
  if (s.pool k).allows far then s.takePointer k far else none

/-- Grant a cell of the chosen memory, or else of the other one (R267, R272). -/
def State.grant (s : State) (k : Nat) (far : Bool) : Option (Nat × State) :=
  match s.grantOf k far with
  | some r => some r
  | none => s.grantOf k (!far)

/-- Charge a granted cell to its account and pool. -/
def State.charge (s : State) (a acct ingress bytes : Nat) : State :=
  let x := s.account acct
  let p := s.pool x.pool
  let f := b2n (isFar a)
  let s1 := s.setCell a { used := true, bytes := bytes, account := acct, pool := x.pool, ingress := ingress }
  let s1 := s1.setAccount acct { x with used := x.used + 1, farUsed := x.farUsed + f, high := max x.high (x.used + 1) }
  let p := { p with nearUsed := p.nearUsed + (1 - f), farUsed := p.farUsed + f,
                    high := max p.high (p.nearUsed + p.farUsed + 1), byPort := bump p.byPort ingress 1 }
  (s1.setPool x.pool p).settlePool x.pool ingress

/-- Put a freed pointer into the pool's cache (R273); one whose bank or page is out of service is withheld. -/
def State.givePointer (s : State) (a k : Nat) : State :=
  if !s.pointerUp a then s.setAside [a]
  else
    let p := s.pool k
    if !p.enabled then s.giveRing a
    else if isFar a then
      if p.cacheFar.length < 2048 && p.cacheNear.length + p.cacheFar.length < 4096 then s.setPool k { p with cacheFar := p.cacheFar ++ [a] } else s.giveRing a
    else if p.cacheNear.length + p.cacheFar.length < 4096 then s.setPool k { p with cacheNear := p.cacheNear ++ [a] }
    else s.giveRing a

/-- Free a cell as its TCLK cycle ends (R273, R282). -/
def State.freeNow (a : Nat) (s : State) : State :=
  if !validCell a then s.bufError 3 a
  else
    let x := s.cell a
    if !x.used then s.bufError 1 a
    else
      let acct := s.account x.account
      let p := s.pool x.pool
      let f := b2n (isFar a)
      let s := s.setCell a {}
      let s := s.setAccount x.account { acct with used := acct.used - 1, farUsed := acct.farUsed - f }
      let s := s.setPool x.pool { p with nearUsed := p.nearUsed - (1 - f), farUsed := p.farUsed - f,
                                         byPort := put p.byPort x.ingress 0 (look p.byPort x.ingress 0 - 1) }
      (s.givePointer a x.pool).settlePool x.pool x.ingress

/-- A row of the queue asks for cells in the present TCLK cycle. -/
def State.allocAhead (s : State) : Bool :=
  s.pending.any fun
    | .cellAllocate t _ _ => t / 4 ≤ s.tclk
    | _ => false

/-- Free a cell (R273): at once, or behind the last grants of its TCLK cycle, which see the counts from before. -/
def State.freeCell (a : Nat) (s : State) : State :=
  if s.allocAhead then { s with buf := { s.buf with endFrees := s.buf.endFrees ++ [a] } } else State.freeNow a s

/-- The frees that fall at the end of a TCLK cycle take place, where no more cells are asked for in it. -/
def State.endCycle (s : State) : State :=
  if s.allocAhead then s else each State.freeNow s.buf.endFrees { s with buf := { s.buf with endFrees := [] } }

/-- Free the cells of a packet and forget it. -/
def State.discard (s : State) (k : Nat) : State := (each State.freeCell (s.pkt k).cells s).dropPkt k

/-- Count an account's event and its pool's (13 BUF_STATS). -/
def State.countAccount (s : State) (acct ai pi : Nat) : State :=
  let x := s.account acct
  let p := s.pool x.pool
  (s.setAccount acct { x with counters := bump x.counters ai 1 }).setPool x.pool { p with counters := bump p.counters pi 1 }

/-- A packet is refused a cell by the quota check (R275). -/
def State.countQuota (s : State) (acct : Nat) : State :=
  let x := s.account acct
  if x.valid then s.countAccount acct 3 3
  else
    let p := s.pool x.pool
    s.setPool x.pool { p with counters := bump p.counters 7 1 }

/-- A packet finds no cell (R276). -/
def State.countEmpty (s : State) (acct : Nat) : State :=
  (s.countAccount acct 4 4).count (2952 + (s.account acct).pool) 1

/-! ### Spill (R280) -/

/-- The depth at the epoch `n` before the present one: epochs with no change take the depth they held. -/
def Queue.snapshot (q : Queue) (epoch n : Nat) : Nat :=
  if q.epoch ≤ epoch - n then q.depth else
    match q.snaps[n - (epoch - q.epoch)]? with
    | some d => d
    | none => match q.snaps.getLast? with
      | some d => d
      | none => q.depth

/-- The number of the present 500 ns epoch (R280). -/
def State.epoch (s : State) : Nat := s.now / ns 500

/-- Record the depth at the epochs that have begun since the last record (R280). -/
def Queue.roll (q : Queue) (epoch : Nat) : Queue :=
  if epoch ≤ q.epoch then q
  else { q with epoch := epoch, snaps := (List.replicate (min (epoch - q.epoch) 5) q.depth ++ q.snaps).take 5 }

/-- The decision of R280 at a packet's arrival: the queue with its spilling flag; true is far. It
acts on packets that come, and moves no cell of one that is queued (R281). -/
def State.spill (s : State) (q : Queue) : Queue :=
  let d := q.depth
  let g := d - (q.roll s.epoch).snapshot s.epoch 4
  let predicted := q.predict && 0 < g && decide (q.mark < d + 5 * g)
  if q.mark = 0 || (s.pool (s.account q.account).pool).far = 0 then { q with spilling := false }
  else if q.mark ≤ d || predicted then { q with spilling := true }
  else if q.spilling && d < q.clear && !predicted then { q with spilling := false }
  else q

/-! ### Writers (R276) -/

/-- A requester's writer. -/
def State.writer (s : State) (r : Nat) : Writer := look s.buf.writers r {}
/-- Set a requester's writer. -/
def State.setWriter (s : State) (r : Nat) (w : Writer) : State :=
  { s with buf := { s.buf with writers := put s.buf.writers r {} w } }

/-- The class of a requester: 0 ingress writers, 1 fabric receive, 2 PON capture, 3 recirculation, 4 host injection. -/
def writerClass (r : Nat) : Nat :=
  if r < 32 then 0 else if r < 40 then 1 else if r < 44 then 2 else if r < 46 then 3 else 4

/-- The requesters of a class; PON captures by 12 trees each (R276, R348). -/
def writersOf (cls : Nat) : List Nat :=
  match cls with
  | 0 => List.range 32
  | 1 => (List.range 8).map fun i => 32 + i
  | 2 => (List.range 4).map fun i => 40 + i
  | 3 => [44, 45]
  | _ => [46]

/-- A packet waits for a writer of its class (queue of arrivals). -/
def State.arrive (s : State) (cls k : Nat) : State :=
  { s with buf := { s.buf with arrivals := s.buf.arrivals ++ [(cls, k)] } }

/-- Give waiting packets of a class to its idle writers, oldest first. -/
def loadWriters (cls : Nat) : List (Nat × Nat) → State → State
  | [], s => s
  | (c, k) :: t, s =>
    if c = cls then
      match (writersOf cls).find? fun r => !(s.writer r).busy with
      | none => { s with buf := { s.buf with arrivals := s.buf.arrivals ++ [(c, k)] } } |> loadWriters cls t
      | some r => loadWriters cls t (s.setWriter r { busy := true, packet := k })
    else loadWriters cls t { s with buf := { s.buf with arrivals := s.buf.arrivals ++ [(c, k)] } }

/-- Every waiting packet gets a writer where one of its class is idle. -/
def State.feedWriters (s : State) (cls : Nat) : State :=
  loadWriters cls s.buf.arrivals { s with buf := { s.buf with arrivals := [] } }

/-- A packet arrives at the T die's writers of a class (0 ingress, 1 fabric, 2 PON, 3 recirculation). -/
def State.toWriter (s : State) (cls k : Nat) : State := (s.arrive cls k).feedWriters cls

/-- The order in which a pool's allocator considers requesters in a TCLK (R276). -/
def allocOrder (tclk : Nat) : List Nat :=
  (List.range 44).map (fun i => (tclk % 44 + i) % 44) ++ (List.range 2).map (fun i => 44 + (tclk % 2 + i) % 2) ++ [46]

/-- Link a granted cell to the end of a packet's chain (R266). -/
def State.link (s : State) (k a : Nat) : State :=
  let p := s.pkt k
  let s := match p.cells.getLast? with
    | some l => s.setCell l { s.cell l with next := some a }
    | none => s
  s.setPkt k { p with cells := p.cells ++ [a] }

/-- The bytes of the `n`-th cell of a packet of `len` bytes. -/
def cellBytes (len n : Nat) : Nat := min 256 (len - 256 * n)

/-- The packets that a refusal drops, with the writer they stood in, and what it counts. A PON capture drops the frames
of its burst that are still unwritten (R276). -/
def State.refuse (s : State) (r k : Nat) (empty : Bool) : State :=
  let acct := (s.queue (s.pkt k).desc.queue).account
  let s := if empty then s.countEmpty acct else s.countQuota acct
  let rest := if writerClass r = 2 then
      (s.buf.arrivals.filter fun a => a.1 = 2 && (s.pkt a.2).desc.ingress = (s.pkt k).desc.ingress &&
        (s.pkt a.2).burst = (s.pkt k).burst).map fun a => a.2
    else []
  let s := { s with buf := { s.buf with
    arrivals := s.buf.arrivals.filter (fun a => !rest.contains a.2), frees := s.buf.frees ++ (s.pkt k).cells } }
  (each (fun j s => State.dropPkt s j) (k :: rest) s).setWriter r {}

/-- CELL_FREE (R273, R282): a cell that the reader gives back; one that is not allocated, or whose address R30 forbids,
is an error. A cell that its packet still holds is not given back. -/
def execCellFree (t cell : Nat) (s : State) : Host.Outcome State Fault Refusal :=
  let s := s.at_ t
  .next (if s.buf.frees.contains cell then
      State.freeCell cell { s with buf := { s.buf with frees := s.buf.frees.erase cell } }
    else if !validCell cell || !(s.cell cell).used || s.buf.endFrees.contains cell then State.freeCell cell s
    else s)

/-- Move up to `n` pointers from a ring into a pool's cache. -/
def refillCache (k : Nat) (far : Bool) : Nat → State → State
  | 0, s => s
  | n + 1, s =>
    match s.takeRing far with
    | none => s
    | some (a, s) =>
      let p := s.pool k
      refillCache k far n (s.setPool k (if far then { p with cacheFar := p.cacheFar ++ [a] }
        else { p with cacheNear := p.cacheNear ++ [a] }))

/-- POOL_CACHE_REFILL (R270): a batch of 64 back to the ring when the cache holds more than 3,584 pointers; otherwise a
batch from the ring where the cache has room for it. -/
def execPoolCacheRefill (t pool : Nat) (far : Bool) (s : State) : Host.Outcome State Fault Refusal :=
  let s := s.at_ t
  let p := s.pool pool
  let n := p.cacheNear.length + p.cacheFar.length
  let mine := if far then p.cacheFar else p.cacheNear
  .next (if !p.enabled then s
    else if 3584 < n then
      let s := s.setPool pool (if far then { p with cacheFar := mine.drop 64 } else { p with cacheNear := mine.drop 64 })
      each (fun a s => State.giveRing s a) (mine.take 64) s
    else if n + 64 ≤ 4096 && (!far || mine.length + 64 ≤ 2048) then refillCache pool far 64 s
    else s)

/-- PFC_XOFF_REFRESH (R279): XOFF is sent again each time half of the paused time has passed. -/
def execPfcXoffRefresh (t port cls : Nat) (s : State) : Host.Outcome State Fault Refusal :=
  let s := s.at_ t
  let x := look s.buf.xoff (port * 8 + cls) {}
  .next (if x.on && x.refresh ≤ s.now then
      let y : Xoff := { x with refresh := s.now + (s.port port).pauseTime 0xFFFF / 2 }
      ({ s with buf := { s.buf with xoff := put s.buf.xoff (port * 8 + cls) {} y } }).sendPause port cls 0xFFFF
    else s)

/-! ### Far pages and ring copies (R269, R271) -/

/-- A page slot of a stack is free (R269: 208 slots each). -/
def State.slotFree (s : State) (stack slot : Nat) : Bool :=
  !((List.range 1024).any fun p => (s.farPage p).stack = stack && (s.farPage p).slot = slot && !(s.farPage p).lost)

/-- The lowest spare slot of the healthy T stacks but `no`. -/
def State.spareSlot (s : State) (no : Nat) : Option (Nat × Nat) :=
  ((List.range 6).flatMap fun i => if s.healthy 9 (4 + i) && 4 + i ≠ no then
      ((List.range 208).filter fun x => s.slotFree (4 + i) x).map (fun x => (4 + i, x)) else []).head?

/-- Put a page where `x` says. -/
def State.setPage (s : State) (p : Nat) (x : FarPage) : State :=
  { s with buf := { s.buf with pages := put s.buf.pages p {} { x with moved := true } } }

/-- Withheld pointers that may be granted again return to their ring. -/
def State.returnAside (s : State) : State :=
  let up := s.buf.aside.filter fun a => s.pointerUp a
  let s := { s with buf := { s.buf with aside := s.buf.aside.filter fun a => !s.pointerUp a } }
  each (fun a s => State.giveRing s a) up s

/-- The lowest healthy T stack that holds no copy of the far ring. -/
def State.copyStack (s : State) : Option Nat :=
  ((List.range 6).map fun i => 4 + i).find? fun k => s.healthy 9 k && !s.buf.farCopies.contains k

/-- FAR_RING_COPY_REBUILT (R271): the second copy is in place. -/
def execFarRingCopyRebuilt (t : Nat) (s : State) : Host.Outcome State Fault Refusal :=
  let s := s.at_ t
  .next (match s.copyStack with
    | some k =>
      if s.buf.farCopies.length = 1 then
        { s with buf := { s.buf with farCopies := s.buf.farCopies ++ [k], farCopyWork := none } }
      else s
    | none => s)

/-- FAR_RING_REBUILT (R271): a ring rebuilt from the pages and link words is in place. -/
def execFarRingRebuilt (t : Nat) (s : State) : Host.Outcome State Fault Refusal :=
  let s := s.at_ t
  .next (match s.copyStack with
    | some k =>
      if s.buf.farCopies = [] && s.buf.farRing.built then
        { s with buf := { s.buf with farCopies := [k], farRingWork := none } }
      else s
    | none => s)

/-- The cells that packets hold or that wait to be freed. -/
def State.heldCells (s : State) : List Nat := (s.pkts.flatMap fun r => r.2.cells) ++ s.buf.frees ++ s.buf.endFrees

/-- BUF_RECONCILE (R283): allocated cells that no packet reaches are freed. -/
def execBufReconcile (t : Nat) (s : State) : Host.Outcome State Fault Refusal :=
  let s := s.at_ t
  let held := s.heldCells
  .next (each State.freeCell ((s.buf.cells.filter fun r => r.2.used && r.2.ingress ≠ 255 && !held.contains r.1).map fun r => r.1) s)

/-- BUF_ERR_LOG_READ (13 Registers): the count is RC. -/
def execBufErrLogRead (t : Nat) (r : RegRead) (s : State) : Host.Outcome State Fault Refusal :=
  let s := s.at_ t
  let n := s.buf.errMark.seen s.kclk s.buf.errCount
  let v := b2n s.buf.errValid * 2 ^ 31 + s.buf.errKind * 2 ^ 28 + n
  .next (if s.answers r.host && readHits r 0x01603010 then
      let s1 := s.emit (.read r.host (readPart r v))
      if readAligned r then { s1 with buf := { s1.buf with errCount := s.buf.errCount - n, errMark := s.buf.errMark.cleared s.kclk } } else s1
    else s)

/-! ### Commands -/

/-- The near, or far, allotments of the enabled pools other than `k`. -/
def State.allotments (s : State) (k : Nat) (far : Bool) : Nat :=
  ((s.buf.pools.filter fun r => r.1 ≠ k && r.2.enabled).map fun r => if far then r.2.far else r.2.near).sum

/-- The checks of POOL_CONFIG (R274, R285). -/
def poolConfigErrs (c : Cmd) (s : State) : List (Option Err) :=
  let k := c.u8 16
  let on := c.u8 17 = 1
  let x := s.pool k
  [at_ 16 (k < 64), at_ 17 (c.u8 17 ≤ 1), c.zeros 18 2, at_ 20 (c.u32 20 ≤ nearCells), at_ 24 (c.u32 24 ≤ 2 ^ 28),
   c.zeros 28 36,
   at_ 20 (s.minSum k ≤ c.u32 20 + c.u32 24 && (!on || s.allotments k false + c.u32 20 ≤ s.nearCapacity)),
   at_ 24 (!on || s.allotments k true + c.u32 24 ≤ s.farCapacity),
   need (on || x.nearUsed + x.farUsed = 0) (refusedWith 1)]

/-- POOL_CONFIG (R274, R285): a pool that is disabled returns its cached pointers. -/
def execPoolConfig (t : Nat) (c : Cmd) (s : State) : Host.Outcome State Fault Refusal :=
  let s := s.at_ t
  let k := c.u8 16
  let x := s.pool k
  let y := { x with enabled := c.u8 17 = 1, near := c.u32 20, far := c.u32 24 }
  .next (s.command 0x0800 c .d0 (poolConfigErrs c s)
    { s := if y.enabled then s.setPool k y
           else each (fun a s => State.giveRing s a) (x.cacheNear ++ x.cacheFar)
             (s.setPool k { y with cacheNear := [], cacheFar := [] }) })

/-- The checks of ACCOUNT_CONFIG (R274, R285). -/
def accountConfigErrs (c : Cmd) (s : State) : List (Option Err) :=
  let x := s.account (c.u16 16)
  let on := c.u8 18 = 1
  let k := c.u8 19
  let others := s.minSum k - (if x.valid && x.pool = k then x.min else 0)
  [at_ 16 (c.u16 16 < 1024), at_ 18 (c.u8 18 ≤ 1), at_ 19 (k < 64), at_ 20 (c.u8 20 < 16 && (s.domain (c.u8 20)).live),
   c.zeros 21 3, at_ 24 (!on || others + c.u32 24 ≤ (s.pool k).near + (s.pool k).far), at_ 28 (c.u32 24 ≤ c.u32 28),
   c.zeros 32 32, need ((on && k = x.pool) || x.used = 0) (refusedWith 1)]

/-- ACCOUNT_CONFIG (R274, R285). -/
def execAccountConfig (t : Nat) (c : Cmd) (s : State) : Host.Outcome State Fault Refusal :=
  let s := s.at_ t
  let a := c.u16 16
  .next (s.command 0x0801 c .d0 (accountConfigErrs c s)
    { s := s.setAccount a { s.account a with valid := c.u8 18 = 1, pool := c.u8 19, domain := c.u8 20,
                                             min := c.u32 24, max := c.u32 28 } })

/-- POOL_THRESH (R278). -/
def execPoolThresh (t : Nat) (c : Cmd) (s : State) : Host.Outcome State Fault Refusal :=
  let s := s.at_ t
  let k := c.u8 16
  let x := s.pool k
  let h := look x.thresholds (c.u8 17) {}
  let h := { h with measure := c.u8 18, actions := c.u8 19, setCells := c.u32 20, clearCells := c.u32 24,
                    pfcClasses := c.u8 28, pfcFloor := c.u32 32, written := true }
  let s1 := State.updateThreshold k (c.u8 17) (s.setPool k { x with thresholds := put x.thresholds (c.u8 17) {} h })
  .next (s.command 0x0802 c .d0
    [at_ 16 (k < 64), at_ 17 (c.u8 17 < 4), at_ 18 (c.u8 18 ≤ 1), at_ 19 (c.u8 19 < 16), at_ 24 (c.u32 24 ≤ c.u32 20),
     c.zeros 29 3, c.zeros 36 28]
    { s := each State.updatePort (x.byPort.map fun r => r.1) s1 })

/-- The domain owns every resource of a range, which lies within the type's range (R92). -/
def State.ownsRange (s : State) (d type first count : Nat) : Bool :=
  let rows := s.dom.owner.filter fun r => type * 2 ^ 24 + first ≤ r.1 && r.1 < type * 2 ^ 24 + first + count
  decide (first + count ≤ resourceRange type) && rows.all (fun r => r.2 = d) && (d = 0 || rows.length = count)

/-- The queues of a range. -/
def rangeOf (first count : Nat) : List Nat := (List.range count).map fun i => first + i

/-- The checks of QUEUE_BUF. -/
def queueBufErrs (c : Cmd) (s : State) : List (Option Err) :=
  let f := c.u32 16
  let n := c.u32 20
  [s.ownErr c 2 f, at_ 20 (1 ≤ n), need (s.ownsRange c.domain 2 f n) denied, at_ 24 (c.u16 24 < 1024),
   need ((s.account (c.u16 24)).domain = c.domain) denied, c.zeros 26 2, at_ 28 (c.u32 28 < 2 ^ 28),
   at_ 32 (c.u32 32 ≤ c.u32 28), at_ 36 (c.u8 36 ≤ 1), c.zeros 37 27,
   need ((rangeOf f n).all fun q => (s.queue q).account = c.u16 24 || (s.queue q).packets = []) { status := .busy }]

/-- QUEUE_BUF (R280, R285). -/
def execQueueBuf (t : Nat) (c : Cmd) (s : State) : Host.Outcome State Fault Refusal :=
  let s := s.at_ t
  let f (q : Nat) (s : State) : State :=
    s.setQueue q { s.queue q with account := c.u16 24, mark := c.u32 28, clear := c.u32 32, predict := c.u8 36 = 1 }
  .next (s.command 0x0803 c .any (queueBufErrs c s) { s := each f (rangeOf (c.u32 16) (c.u32 20)) s })

/-- The eight counters of an account or pool (13 BUF_STATS). -/
def bufStatsBytes (used far high : Nat) (m : Sparse Nat) : Bytes :=
  leBytes 8 used ++ leBytes 8 far ++ leBytes 8 high ++
    ([3, 4, 5, 6, 7] : List Nat).flatMap fun i => leBytes 8 (look m i 0)

/-- BUF_STATS: account or pool scope. -/
def execBufStats (t : Nat) (c : Cmd) (s : State) : Host.Outcome State Fault Refusal :=
  let s := s.at_ t
  let k := c.u16 18
  let a := s.account k
  let p := s.pool k
  let acct := c.u8 16 = 0
  let clr := bit (c.u8 20) 0
  let b := if acct then bufStatsBytes a.used a.farUsed a.high a.counters
    else bufStatsBytes p.nearUsed p.farUsed p.high p.counters
  let s1 := if !clr then s
    else if acct then s.setAccount k { a with counters := [], high := a.used }
    else s.setPool k { p with counters := [], high := p.nearUsed + p.farUsed }
  .next (s.command 0x0804 c .any
    [c.needReply, at_ 16 (c.u8 16 ≤ 1), need (acct || c.domain = 0) denied, c.zeros 17 1,
     at_ 18 (if acct then decide (k < 1024) else decide (k < 64)), need (!acct || a.domain = c.domain) denied,
     at_ 20 (c.u8 20 ≤ 1), c.zeros 21 43]
    { s := s1, result := 64, long := b })

end Sys2Proof.Machine
end

