-- ==== Sys2Proof/Machine/Queue.lean ====
section
/-! DEFINITION. Nodes, shapers, selection and the commands of the scheduler (14_queues_and_scheduling.md). -/

namespace Sys2Proof.Machine

/-! ### Access -/

/-- The key of a node (R286). -/
def nodeKey (level id : Nat) : Nat := level * 2 ^ 20 + id
/-- The level of a key. -/
def levelOf (k : Nat) : Nat := k / 2 ^ 20
/-- The identifier of a key. -/
def idOf (k : Nat) : Nat := k % 2 ^ 20
/-- A node. -/
def State.node (s : State) (k : Nat) : Node := look s.tm.nodes k {}
/-- Set a node. -/
def State.setNode (s : State) (k : Nat) (x : Node) : State :=
  { s with tm := { s.tm with nodes := put s.tm.nodes k {} x } }
/-- The key of a node's parent. -/
def Node.up (n : Node) : Nat := nodeKey n.parentLevel n.parent
/-- Nodes of a level (R286). -/
def levelCount : Nat → Nat
  | 0 => 256
  | 1 => 16384
  | 2 => 131072
  | 3 => 262144
  | 4 => 1048576
  | _ => 0

/-- The port of a PON tree, where one is mapped. -/
def State.treePort (s : State) (t : Nat) : Option Nat :=
  (s.ports.port.find? fun r => r.2.personality = .pon && r.2.tree = t).map fun r => r.1

/-- A level-A node exists (R287). -/
def State.rootExists (s : State) (a : Nat) : Bool :=
  if a < 128 then (s.port a).personality ≠ .none
  else if a < 176 then (s.treePort (a - 128)).isSome
  else if a < 192 then s.dev.topology = 1
  else false

/-- The owner of a level-A node (R287). -/
def State.rootOwner (s : State) (a : Nat) : Nat :=
  if a < 128 then s.owner 1 a else if a < 176 then s.owner 7 (a - 128) else 0

/-- The node exists: a level-A node by R287, any other when it was created; a queue when it is attached. -/
def State.nodeExists (s : State) (k : Nat) : Bool :=
  if levelOf k = 0 then s.rootExists (idOf k) else (s.node k).live

/-- The owner of a node (R288). -/
def State.nodeOwner (s : State) (k : Nat) : Nat :=
  match levelOf k with
  | 0 => s.rootOwner (idOf k)
  | 4 => s.owner 2 (idOf k)
  | _ => (s.node k).owner

/-- The path from a node to its level-A node, the node first (R288: at most five nodes). -/
def pathUp (s : State) : Nat → Nat → List Nat
  | 0, _ => []
  | n + 1, k =>
    if levelOf k = 0 then [k]
    else if (s.node k).live then k :: pathUp s n (s.node k).up
    else [k]

/-- The path of a node. -/
def State.path (s : State) (k : Nat) : List Nat := pathUp s 5 k

/-- The level-A node above a node, where it is attached to one. -/
def State.rootOf (s : State) (k : Nat) : Option Nat :=
  match (s.path k).getLast? with
  | some r => if levelOf r = 0 then some (idOf r) else none
  | none => none

/-- The children of a node. -/
def State.children (s : State) (k : Nat) : List Nat :=
  (s.tm.nodes.filter fun r => r.2.live && r.2.up == k && r.1 ≠ k).map fun r => r.1

/-- The queues under a level-A node. -/
def State.queuesUnder (s : State) (a : Nat) : List Nat :=
  (s.tm.nodes.filter fun r => levelOf r.1 = 4 && r.2.live && s.rootOf r.1 == some a).map fun r => idOf r.1

/-- The subtree of a node holds a packet. -/
def State.backlogged (s : State) (k : Nat) : Bool :=
  s.tm.queues.any fun r => r.2.packets != [] && (s.path (nodeKey 4 r.1)).contains k

/-! ### Slices (R306–R308) -/

/-- The slice that serves a level-A node. -/
def State.sliceOf (s : State) (a : Nat) : Nat :=
  match look s.tm.moved a 0 with
  | 0 =>
    if a < 128 then (s.port a).firstLane / 8
    else if a < 176 then
      match s.treePort (a - 128) with
      | some p => (s.port p).firstLane / 8
      | none => 0
    else 16 + (a - 176) % 16
  | n + 1 => n

/-! ### Shapers (R293–R296) -/

/-- The charged length of a packet of `len` bytes at a node (R293). -/
def Node.charge (n : Node) (len : Nat) : Nat :=
  if n.mode = 1 then 1 else (max 1 ((len : Int) + 4 + n.overhead)).toNat

/-- Tokens that a rate has added by the TCLK cycle `t`, in 1/65,536 (R294): kb/s in byte mode, packets per second else. -/
def credited (mode rate t : Nat) : Nat :=
  if mode = 1 then rate * 65536 * t / 1500000000 else rate * 65536 * t / 12000000

/-- A bucket at cycle `b` that stood as it is at cycle `a`, capped at its size. -/
def refillBucket (mode rate size : Nat) (tok : Int) (a b : Nat) : Int :=
  min (size * 65536 : Int) (tok + (credited mode rate b - credited mode rate a : Int))

/-- The peak rate in force (R303). -/
def Node.peakRate (n : Node) : Nat := if n.eliRate = 0 then n.pir else n.eliRate - 1

/-- An unlimited rate (R294). -/
def unlimited : Nat := 0xFFFFFFFF

/-- The node with its buckets filled up to the present cycle (R294). -/
def Node.refill (n : Node) (tclk : Nat) : Node :=
  { n with tokC := refillBucket n.mode n.cir n.cbs n.tokC n.filled tclk,
           tokP := refillBucket n.mode n.peakRate n.pbs n.tokP n.filled tclk, filled := tclk }

/-- The committed bucket is positive. -/
def Node.committed (n : Node) (tclk : Nat) : Bool := n.cir = unlimited || 0 < (n.refill tclk).tokC
/-- The peak bucket is positive. -/
def Node.peak (n : Node) (tclk : Nat) : Bool := n.peakRate = unlimited || 0 < (n.refill tclk).tokP

/-- Debit a charge from both buckets (R299); an unlimited bucket is never debited, and none falls below −2^31. -/
def Node.debit (n : Node) (tclk charge : Nat) : Node :=
  let n := n.refill tclk
  let low : Int := -(2 ^ 31 * 65536)
  { n with tokC := if n.cir = unlimited then n.tokC else max low (n.tokC - charge * 65536),
           tokP := if n.peakRate = unlimited then n.tokP else max low (n.tokP - charge * 65536) }

/-! ### Selection (R297–R302) -/

/-- The priorities that PFC pauses on a port (R117, R302). -/
def Port.pausedPriority (p : Port) (now prio : Nat) : Bool :=
  (List.range 8).any fun c => now < look p.paused c 0 && bits p.cfg.pfcMap (3 * c + 2) (3 * c) == prio

/-- The port of a level-A node. -/
def State.rootPort (s : State) (a : Nat) : Option Nat :=
  if a < 128 then some a else if a < 176 then s.treePort (a - 128) else none

/-- A level-A node is held (R301). -/
def State.rootHeld (s : State) (a : Nat) : Bool :=
  (match s.rootPort a with
    | some p => (s.port p).state ≠ .up
    | none => false)
  || !s.sending

/-- An ELI port's transmit buffer stops its level-A node (R149, R303). -/
def State.rootFull (s : State) (a : Nat) : Bool :=
  a < 128 && (s.port a).personality = .eli && 49152 < (look s.eli.port a {}).tx.buffered

/-- Data cells of a packet of `len` bytes (R333). -/
def dataCells (len : Nat) : Nat := (len + 64 + 239) / 240

/-- Cells of a virtual output queue that are chosen and not yet sent, or stand in a selection in flight. -/
def State.unsentCells (s : State) (q : Nat) : Nat :=
  ((s.fab.sending.filter fun p => p.voq = q).map fun p => (p.rest.length + 239) / 240).sum +
    (((s.queue q).packets.take (s.tm.selections.filter fun x => x.queue = q).length).map
      fun k => dataCells (s.pkt k).desc.length).sum

/-- The gate of a queue under its level-A node: PFC (R302), PON upstream (R304) and fabric credit (R305, R336): the balance
that the cells still to be sent leave is above 0. -/
def State.gate (s : State) (a q : Nat) : Bool :=
  if a < 128 then !(s.port a).pausedPriority s.now (s.node (nodeKey 4 q)).priority
  else if a < 176 then true
  else
    let v := look s.fab.voqs q {}
    v.mapped && 0 < v.balance - (if v.recentAt = s.tclk + 1 then v.recent else 0) - 256 * s.unsentCells q

/-- A packet of the queue is not in a selection already in flight. -/
def State.ahead (s : State) (q : Nat) : Nat := (s.tm.selections.filter fun x => x.queue = q).length

/-- The packet that a selection of the queue sends: the first not in a selection in flight. -/
def State.headOf (s : State) (q : Nat) : Option Nat := (s.queue q).packets[s.ahead q]?

/-- The queue was not empty at the start of the TCLK cycle: a packet that comes to an empty queue is scheduled from the next one (R309). -/
def State.ripe (s : State) (q : Queue) : Bool :=
  match q.packets with
  | [] => false
  | k :: _ => decide ((s.pkt k).accepted / 4 < s.tclk)

/-- A queue is schedulable under the level-A node `a` (R297), its own peak bucket apart. -/
def State.queueReady (a : Nat) (s : State) (q : Nat) : Bool :=
  let x := s.queue q
  (x.state = .opened || x.state = .closing) && (s.headOf q).isSome && s.gate a q && s.ripe x

/-- A node is schedulable (R297), looking `n` levels down; `leaf` says it of a queue. -/
def schedulable (leaf : State → Nat → Bool) (s : State) : Nat → Nat → Bool
  | 0, _ => false
  | n + 1, k =>
    (s.node k).peak s.tclk &&
    (if levelOf k = 4 then leaf s (idOf k) else (s.children k).any fun c => schedulable leaf s n c)

/-- A level-A node is schedulable (R297). -/
def State.rootSchedulable (s : State) (a : Nat) : Bool :=
  s.rootExists a && !s.rootHeld a && !s.rootFull a && schedulable (State.queueReady a) s 5 (nodeKey 0 a)

/-- The quantum of a child under its parent (R298). -/
def quantum (s : State) (parent child : Nat) : Nat :=
  if (s.node parent).mode = 0 then (s.node child).weight * 256 else (s.node child).weight

/-- The deficit of a child for a pass: 0 committed, 1 excess. -/
def Node.deficit (n : Node) (pass : Nat) : Int := if pass = 0 then n.defC else n.defE
/-- Change the deficit of a child for a pass. -/
def Node.addDeficit (n : Node) (pass : Nat) (d : Int) : Node :=
  if pass = 0 then { n with defC := n.defC + d } else { n with defE := n.defE + d }

/-- Turn a ring to its next member that is a candidate, at most once round. -/
def turnTo (cand : List Nat) : Nat → List Nat → List Nat
  | 0, r => r
  | _, [] => []
  | n + 1, c :: t => if cand.contains c then c :: t else turnTo cand n (t ++ [c])

/-- The loop of R298: give the member at the pointer its quantum and move on, until one has a positive deficit. Rounds
are bounded by `n`; each round adds at least a weight of 1. -/
def settleRing (parent pass : Nat) (cand : List Nat) : Nat → List Nat → State → List Nat × State
  | 0, r, s => (r, s)
  | _, [], s => ([], s)
  | n + 1, c :: t, s =>
    if 0 < (s.node c).deficit pass then (c :: t, s)
    else
      let s := s.setNode c ((s.node c).addDeficit pass (quantum s parent c))
      settleRing parent pass cand n (turnTo cand (t.length + 1) (t ++ [c])) s

/-- How many rounds can be needed before some candidate's deficit is positive. -/
def roundsNeeded (s : State) (parent pass : Nat) (cand : List Nat) : Nat :=
  match cand.map fun c => ((-(s.node c).deficit pass).toNat / (max 1 (quantum s parent c)) + 2) with
  | [] => 0
  | x :: t => (t.foldl min x + 1) * (cand.length + 1)

/-- The children that a pass may choose at a priority (R298). -/
def State.candidates (leaf : State → Nat → Bool) (s : State) (k pass prio : Nat) : List Nat :=
  (s.children k).filter fun c => (s.node c).priority = prio && schedulable leaf s 5 c &&
    (pass = 1 || (s.node c).committed s.tclk)

/-- The choice of a pass at a node over the priorities from `prio` on (R298): the child and the state with the ring
turned. -/
def pickFrom (leaf : State → Nat → Bool) (k pass : Nat) : List Nat → State → Option (Nat × State)
  | [], _ => none
  | prio :: t, s =>
    let cand := State.candidates leaf s k pass prio
    if cand = [] then pickFrom leaf k pass t s
    else
      let r := look (s.node k).rings (pass * 8 + prio) []
      let r := turnTo cand (r.length + 1) r
      let (r, s) := settleRing k pass cand (roundsNeeded s k pass cand) r s
      match r with
      | [] => none
      | c :: _ =>
        let n := s.node k
        some (c, s.setNode k { n with rings := put n.rings (pass * 8 + prio) [] r })

/-- The choice at a node: the committed pass, then the excess pass; with the pass (R298). -/
def pick (leaf : State → Nat → Bool) (k : Nat) (s : State) : Option (Nat × Nat × State) :=
  match pickFrom leaf k 0 (List.range 8) s with
  | some (c, s) => some (c, 0, s)
  | none =>
    match pickFrom leaf k 1 (List.range 8) s with
    | some (c, s) => some (c, 1, s)
    | none => none

/-- The descent of R298 from a node to a queue: the path of (child, pass), the child of the level-A node first. -/
def descend (leaf : State → Nat → Bool) : Nat → Nat → State → Option (List (Nat × Nat) × State)
  | 0, _, _ => none
  | n + 1, k, s =>
    if levelOf k = 4 then some ([], s)
    else
      match pick leaf k s with
      | none => none
      | some (c, p, s) =>
        match descend leaf n c s with
        | none => none
        | some (l, s) => some ((c, p) :: l, s)

/-- The level-A nodes that a slice serves. -/
def State.sliceNodes (s : State) (k : Nat) : List Nat :=
  (List.range 192).filter fun a => s.rootExists a && s.sliceOf a = k

/-- The slice that serves a level-A node while it has not moved. -/
def State.homeSlice (s : State) (a : Nat) : Nat := ({ s with tm := { s.tm with moved := drop s.tm.moved a } }).sliceOf a

/-- The lanes that a slice serves: those of the ports of its level-A nodes. -/
def State.sliceLanes (s : State) (k : Nat) : Nat :=
  (((s.sliceNodes k).filter fun a => decide (a < 128)).map fun a => (s.port a).laneCount).sum

/-- The healthy slice but `k` that serves the fewest lanes, the lowest number on a tie (R308). -/
def State.leastSlice (s : State) (k : Nat) : Option Nat :=
  ((List.range 32).filter fun j => j ≠ k && s.healthy 8 j).foldl (fun (best : Option Nat) j =>
    match best with
    | some b => if s.sliceLanes j < s.sliceLanes b then some j else some b
    | none => some j) none

/-- A level-A node moves to a slice, with a claim of the given rank there; at home its claim is the first. -/
def State.moveNode (s : State) (a k rank : Nat) : State :=
  let home := decide (s.homeSlice a = k)
  { s with tm := { s.tm with moved := put s.tm.moved a 0 (if home then 0 else k + 1),
                             claim := put s.tm.claim a 0 (if home then 0 else rank) } }

/-- The rank of the claim of the nodes that move now: after all that moved before (R308). -/
def State.nextClaim (s : State) : Nat := (s.tm.claim.map fun r => r.2).foldl max 0 + 1

/-- A level-A node that comes to be in a failed slice moves at once, as at the failure (R308). -/
def State.rehomeNode (rank a : Nat) (s : State) : State :=
  if s.rootExists a && s.isOut 8 (s.sliceOf a) then
    match s.leastSlice (s.sliceOf a) with
    | some k => s.moveNode a k rank
    | none => s
  else s

/-- A level-A node comes to be: it stands in its home slice (R306). -/
def State.atHome (s : State) (a : Nat) : State :=
  { s with tm := { s.tm with moved := drop s.tm.moved a, claim := drop s.tm.claim a } }

/-- No level-A node stands in a failed slice (R308). -/
def State.rehome (s : State) : State :=
  { s with tm := (each (State.rehomeNode s.nextClaim) (List.range 192) s).tm }

/-- A moved node waits while a node that the slice served before it came is schedulable (R308). -/
def State.yields (s : State) (a : Nat) : Bool :=
  (s.sliceNodes (s.sliceOf a)).any fun b => look s.tm.claim b 0 < look s.tm.claim a 0 && s.rootSchedulable b

/-- A NODE_CONFIG has written in the present TCLK cycle. -/
def State.writtenNow (s : State) : Bool :=
  match s.tm.prior with
  | some r => r.1 = s.tclk
  | none => false

/-- The state whose nodes are those from before the configuration writes of the present TCLK cycle (R309). -/
def State.asBefore (s : State) : State :=
  match s.tm.prior with
  | some (y, m) => if y = s.tclk then { s with tm := { s.tm with nodes := m } } else s
  | none => s

/-- Keep the nodes as they stand before a configuration write, once in a TCLK cycle (R309). -/
def State.notePrior (s : State) : State :=
  if s.writtenNow then s else { s with tm := { s.tm with prior := some (s.tclk, s.tm.nodes) } }

/-- A selection made on the nodes as they stood, carried to the nodes as written: the rings turn to the children chosen. -/
def carryRings : List (Nat × Nat) → Nat → State → State
  | [], _, s => s
  | (c, p) :: t, k, s =>
    let n := s.node k
    let i := p * 8 + (s.node c).priority
    let r := look n.rings i []
    carryRings t c (s.setNode k { n with rings := put n.rings i [] (turnTo [c] r.length r) })

/-- A node as written takes the deficits that a selection left it. -/
def State.carryDeficit (v : State) (k : Nat) (s : State) : State :=
  s.setNode k { s.node k with defC := (v.node k).defC, defE := (v.node k).defE }

/-- What a selection does to the nodes (R298): it is made on the nodes as they stood before the writes of its cycle (R309). -/
def State.selectPath (s : State) (node : Nat) : Option (List (Nat × Nat) × State) :=
  match descend (State.queueReady node) 5 (nodeKey 0 node) s.asBefore with
  | none => none
  | some (path, v) =>
    if !s.writtenNow then some (path, v)
    else
      let s := carryRings path (nodeKey 0 node) { s with tm := { s.tm with prior := some (s.tclk, v.tm.nodes) } }
      some (path, each (State.carryDeficit v) ((s.tm.nodes.filter fun r => (look v.tm.nodes r.1 {}).live).map fun r => r.1) s)

/-- The slice has made its selection of the present TCLK cycle (R300). -/
def State.selectedNow (s : State) (k : Nat) : Bool := look s.tm.selectedAt k 0 = s.tclk + 1

/-- SCHED_SELECT (R298, R300): a slice starts a selection under a level-A node, one in a TCLK. -/
def execSchedSelect (t node : Nat) (s : State) : Host.Outcome State Fault Refusal :=
  let s := s.at_ t
  let k := s.sliceOf node
  .next (if 192 ≤ node || !s.asBefore.rootSchedulable node || s.isOut 8 k || s.asBefore.yields node || s.selectedNow k
      || 150 ≤ (s.tm.selections.filter fun x => x.slice = k).length then s
    else match s.selectPath node with
      | none => s
      | some (path, s) =>
        match path.getLast? with
        | none => s
        | some (q, _) =>
          let x : Selection := { slice := k, node := node, path := path, queue := idOf q }
          ({ s with tm := { s.tm with selections := s.tm.selections ++ [x], lastA := put s.tm.lastA k 0 (node + 1),
                                      selectedAt := put s.tm.selectedAt k 0 (s.tclk + 1) } }).count (2888 + 2 * k) 1)

/-! ### Demand of virtual output queues (R337, R338) -/

/-- A virtual output queue. -/
def State.voq (s : State) (q : Nat) : Voq := look s.fab.voqs q {}
/-- Set a virtual output queue. -/
def State.setVoq (s : State) (q : Nat) (v : Voq) : State := { s with fab := { s.fab with voqs := put s.fab.voqs q {} v } }
/-- Count a FAB_STATS event. -/
def State.countFab (s : State) (i n : Nat) : State := { s with fab := { s.fab with stats := bump s.fab.stats i n } }
/-- The fabric interface runs (R329). -/
def State.fabRuns (s : State) : Bool := s.fab.enabled && s.dev.topology = 1

/-- A VOQ's demand in 4 KiB units (R337). -/
def State.voqDemand (s : State) (q : Nat) : Nat :=
  let ps := (s.queue q).packets
  let bytes := (ps.map fun k => (s.pkt k).desc.length + 64).sum
  let n : Int := (bytes : Int) - (s.voq q).balance
  min 255 ((n + 4095) / 4096).toNat

/-- A destination takes a request (R338). -/
def State.takeRequest (s : State) (src : Nat) (r : ReqEntry) : State :=
  let s := { s with fab := { s.fab with demands := put s.fab.demands (src * 2 ^ 20 + r.voq) {} { queue := r.queue, demand := r.demand } } }
  if r.resync then
    ({ s with fab := { s.fab with credits := s.fab.credits.filter fun c => !(c.1 = src && c.2.1 = r.voq) } }).countFab 7 1
  else s

/-- Send a request entry of a VOQ (R337); one for the device's own number reaches its table at once (R335). -/
def State.sendRequest (s : State) (q : Nat) (resync : Bool) : State :=
  let v := s.voq q
  let d := s.voqDemand q
  let r : ReqEntry := { device := v.device, voq := q, queue := v.dstQueue, demand := d, resync := resync }
  let s := s.setVoq q { v with lastDemand := d, lastRequest := s.now }
  if v.device = s.fab.device then s.takeRequest s.fab.device r
  else { s with fab := { s.fab with requests := s.fab.requests ++ [r] } }

/-- A VOQ's backlog or balance has changed: a changed demand is requested, and the time without credit is kept (R337). -/
def State.noteDemand (s : State) (q : Nat) : State :=
  let v := s.voq q
  if !(v.mapped && s.fabRuns) then s
  else
    let d := s.voqDemand q
    let starved := v.balance ≤ 0 && 0 < d
    let s := s.setVoq q { v with starvedAt := if starved then some (v.starvedAt.getD s.now) else none }
    if d ≠ v.lastDemand then s.sendRequest q false else s

/-! ### Leaving a queue -/

/-- Clear the deficits of a node whose subtree holds no packet (R296). -/
def State.clearIdle (s : State) (k : Nat) : State :=
  if s.backlogged k then s else s.setNode k { s.node k with defC := 0, defE := 0 }

/-- A packet leaves a queue: its depth falls, and a CLOSING queue that is empty is CLOSED (R290). -/
def State.leaveQueue (s : State) (q k : Nat) : State :=
  let x := (s.queue q).roll s.epoch
  let ps := x.packets.erase k
  let x := { x with packets := ps, depth := x.depth - ((s.pkt k).desc.length + 255) / 256,
                    state := if x.state = .closing && ps = [] then .closed else x.state,
                    emptyAt := if ps = [] then s.now else x.emptyAt }
  let s := s.setQueue q x
  if ps = [] then each (fun n s => State.clearIdle s n) (s.path (nodeKey 4 q)) s else s

/-- Count an event of a queue (R313). -/
def State.countQueue (s : State) (q i n : Nat) : State :=
  let x := s.queue q
  s.setQueue q { x with counters := bump x.counters i n }

/-- A packet of a queue is dropped and its cells freed. -/
def State.dropQueued (s : State) (q k : Nat) : State := ((s.leaveQueue q k).discard k).noteDemand q

/-- Drop every packet of a queue, doing `f` for each; selections of its packets end with them. -/
def State.drainQueueWith (f : State → State) (q : Nat) (s : State) : State :=
  let s := { s with tm := { s.tm with selections := s.tm.selections.filter fun x => x.queue ≠ q } }
  each (fun k s => f (State.dropQueued s q k)) (s.queue q).packets s

/-- The queues of a port that is not UP with down_flush = 1 are drained (R121), each packet counted. -/
def State.downFlush (s : State) (port : Nat) : State :=
  let p := s.port port
  if p.state ≠ .up && p.cfg.downFlush then
    each (State.drainQueueWith fun s => s.setPort port
      { s.port port with counters := bump (s.port port).counters 13 1 }) (s.queuesUnder port) s
  else s

/-- The debits of a selection's path (R299), of the charge that `f` gives at a node. -/
def debitWith (f : Node → Nat) : List (Nat × Nat) → Nat → State → State
  | [], k, s => s.setNode k ((s.node k).debit s.tclk (f (s.node k)))
  | (c, p) :: t, k, s =>
    let n := s.node k
    let s := s.setNode k (n.debit s.tclk (f n))
    let s := s.setNode c ((s.node c).addDeficit p (-(f n : Int)))
    debitWith f t c s

/-- The debits of the path of a packet of `len` bytes. -/
def debitPath (len : Nat) (path : List (Nat × Nat)) (k : Nat) (s : State) : State := debitWith (fun n => n.charge len) path k s

/-- TOKEN_REFILL (R294): every node's buckets stand filled at the present cycle. -/
def State.refillNodes (s : State) : State :=
  each (fun k s => s.setNode k ((s.node k).refill s.tclk)) (s.tm.nodes.map fun r => r.1) s

/-- DEPTH_SNAPSHOT (R280): each queue's depth at this epoch. -/
def execDepthSnapshot (t : Nat) (s : State) : Host.Outcome State Fault Refusal :=
  let s := s.at_ t
  .next (each (fun q s => s.setQueue q ((s.queue q).roll s.epoch)) (s.tm.queues.map fun r => r.1) s)

/-! ### Commands -/

/-- Attach a child to a parent (R298): it enters each ring just before the pointer. -/
def State.attach (s : State) (child parent : Nat) : State :=
  let p := (s.node child).priority
  let n := s.node parent
  let add (pass : Nat) (m : Sparse (List Nat)) := put m (pass * 8 + p) [] (look m (pass * 8 + p) [] ++ [child])
  s.setNode parent { n with rings := add 1 (add 0 n.rings) }

/-- Take a child out of its parent's rings. -/
def State.detach (s : State) (child : Nat) : State :=
  let k := (s.node child).up
  let n := s.node k
  let p := (s.node child).priority
  let del (pass : Nat) (m : Sparse (List Nat)) := put m (pass * 8 + p) [] ((look m (pass * 8 + p) []).erase child)
  s.setNode k { n with rings := del 1 (del 0 n.rings) }

/-- Delete a node. -/
def State.deleteNode (s : State) (k : Nat) : State := (s.detach k).setNode k {}

/-- The allowance of a domain for a level, and how many nodes it holds (R289). -/
def State.nodeAllow (s : State) (d level : Nat) : Nat := look s.tm.allow (d * 4 + level) (if d = 0 then 2 ^ 32 else 0)
/-- Nodes of a level that a domain holds (R289). -/
def State.nodesHeld (s : State) (d level : Nat) : Nat :=
  countRows s.tm.nodes fun k n => levelOf k = level && n.live && n.owner = d

/-- A queue of a flush in progress (14 status codes). -/
def State.flushBusy (s : State) (q : Nat) : Bool := (s.queue q).flushing

/-- A bucket's size is allowed (R294). -/
def bucketOk (rate size : Nat) : Bool := size < 2 ^ 28 && (rate = 0 || rate = unlimited || 1 ≤ size)

/-- The level-A node that a node would hang under, were it attached to `parent`. -/
def State.rootUnder (s : State) (parent : Nat) : Option Nat := s.rootOf parent

/-- The slices of two level-A nodes differ (R307). -/
def State.crossesSlice (s : State) (k parent : Nat) : Bool :=
  match s.rootOf k, s.rootOf parent with
  | some a, some b => s.sliceOf a ≠ s.sliceOf b
  | _, _ => false

/-- The parent may take children of the domain (R288). -/
def State.mayAttach (s : State) (d parent : Nat) : Bool :=
  s.nodeOwner parent = d || (levelOf parent = 0 && bit (s.node parent).attachMask d)

/-- The slice of the node, or of its level-A node, is failed and not yet moved (14 status codes). -/
def State.sliceDown (s : State) (k : Nat) : Bool :=
  match s.rootOf k with
  | some a => s.isOut 8 (s.sliceOf a)
  | none => false

/-- The record of the slice of a node (R78). -/
def State.sliceSeq (s : State) (k : Nat) : Nat :=
  match s.rootOf k with
  | some a => s.seqOf 8 (s.sliceOf a)
  | none => 0

/-- The checks of NODE_CONFIG that name the node (R287, R288, R310). -/
def nodeNameErrs (c : Cmd) (s : State) : List (Option Err) :=
  let level := c.u8 16
  let op := c.u8 17
  let id := c.u32 20
  let k := nodeKey level id
  [ (if level = 4 then s.ownErr c 2 id
     else if level = 0 then
       firstErr [at_ 20 (id < 256 && s.rootExists id), need (s.rootOwner id = c.domain) denied]
     else
       firstErr [at_ 20 (id < levelCount level),
         if op = 0 then none
         else need ((s.node k).live && (s.node k).owner = c.domain) { status := .notFound }]) ]

/-- The checks of NODE_CONFIG's attachment. -/
def nodeAttachErrs (c : Cmd) (s : State) : List (Option Err) :=
  let k := nodeKey (c.u8 16) (c.u32 20)
  let p := nodeKey (c.u8 24) (c.u32 28)
  if c.u8 17 = 2 || !bit (c.u8 18) 0 then []
  else
    [at_ 24 (c.u8 24 < 4 && c.u8 24 < c.u8 16), at_ 25 (c.u8 25 < 8), at_ 26 (1 ≤ c.u16 26 && c.u16 26 ≤ 4095),
     at_ 28 (c.u32 28 < levelCount (c.u8 24) && s.nodeExists p), need (s.mayAttach c.domain p) denied,
     need (!s.sliceDown p) { status := .hwFault, detail := s.sliceSeq p },
     need (!(s.crossesSlice k p && s.backlogged k)) (refusedWith 2)]

/-- The checks of NODE_CONFIG's shaper and attach mask. -/
def nodeShaperErrs (c : Cmd) : List (Option Err) :=
  if c.u8 17 = 2 then []
  else
    (if bit (c.u8 18) 1 then
      [at_ 32 (c.u32 36 = unlimited || c.u32 32 ≤ c.u32 36), at_ 40 (bucketOk (c.u32 32) (c.u32 40)),
       at_ 44 (bucketOk (c.u32 36) (c.u32 44)), at_ 48 (-64 ≤ c.i8 48 && c.i8 48 ≤ 63), at_ 49 (c.u8 49 ≤ 1)]
    else [])

/-- The checks of NODE_CONFIG (R310), in byte order. -/
def nodeConfigErrs (c : Cmd) (s : State) : List (Option Err) :=
  let level := c.u8 16
  let op := c.u8 17
  let wm := c.u8 18
  let k := nodeKey level (c.u32 20)
  [at_ 16 (level ≤ 4), at_ 17 (op ≤ 2 && (level ≠ 0 || op = 1)),
   at_ 18 (wm < 8 && (op ≠ 0 || wm % 4 = 3) && (level ≠ 0 || !bit wm 0) && (level = 0 || !bit wm 2)),
   at_ 19 (c.u8 19 ≤ 1)] ++ nodeNameErrs c s ++
  [at_ 20 (op ≠ 0 || !(s.node k).live)] ++ nodeAttachErrs c s ++ nodeShaperErrs c ++ [c.zeros 52 12,
   at_ 20 (level ≠ 4 || op = 0 || (s.node k).live),
   need (!(level = 4 && s.flushBusy (c.u32 20))) { status := .busy },
   need (!s.sliceDown k) { status := .hwFault, detail := s.sliceSeq k },
   need (op ≠ 0 || level = 4 || s.nodesHeld c.domain level < s.nodeAllow c.domain level) { status := .quota },
   need (op ≠ 2 || (if level = 4 then (s.queue (c.u32 20)).state = .closed && (s.queue (c.u32 20)).packets = []
     else s.children k = [])) (refusedWith 1)]

/-- Write a node's shaper (R295). -/
def Node.writeShaper (n : Node) (c : Cmd) (tclk : Nat) : Node :=
  let full := c.u8 19 = 0
  { n with cir := c.u32 32, pir := c.u32 36, cbs := c.u32 40, pbs := c.u32 44, overhead := c.i8 48, mode := c.u8 49,
           tokC := if full then c.u32 40 * 65536 else 0, tokP := if full then c.u32 44 * 65536 else 0, filled := tclk }

/-- A node takes its attachment (R310). Where the parent or the priority is new it enters the parent's rings, and the nodes it
left clear their deficits where no packet is left under them (R296). -/
def State.setAttachment (c : Cmd) (k : Nat) (s : State) : State :=
  let p := nodeKey (c.u8 24) (c.u32 28)
  let old := s.node k
  let stays := old.live && old.up = p && old.priority = c.u8 25
  let above := if old.live then s.path old.up else []
  let s := if old.live && !stays then s.detach k else s
  let s := s.setNode k { s.node k with live := true, owner := c.domain, priority := c.u8 25, weight := c.u16 26,
                                       parentLevel := c.u8 24, parent := c.u32 28 }
  if stays then s else each (fun n s => State.clearIdle s n) above (s.attach k p)

/-- What NODE_CONFIG writes (R295, R310). -/
def nodeConfigDone (c : Cmd) (s : State) : State :=
  let level := c.u8 16
  let k := nodeKey level (c.u32 20)
  if c.u8 17 = 2 then s.deleteNode k
  else
    let s := if bit (c.u8 18) 0 then State.setAttachment c k s else s
    let s := if bit (c.u8 18) 1 then s.setNode k ((s.node k).writeShaper c s.tclk) else s
    if bit (c.u8 18) 2 then s.setNode k { s.node k with attachMask := c.u16 50 } else s

/-- NODE_CONFIG (R310). -/
def execNodeConfig (t : Nat) (c : Cmd) (s : State) : Host.Outcome State Fault Refusal :=
  let s := s.at_ t
  .next (s.command 0x0900 c .any (nodeConfigErrs c s) { s := nodeConfigDone c s.notePrior })

/-- The checks of QUEUE_STATE (R311). -/
def queueStateErrs (c : Cmd) (s : State) : List (Option Err) :=
  let f := c.u32 16
  let n := c.u32 20
  let op := c.u8 24
  [s.ownErr c 2 f, at_ 20 (1 ≤ n), need (s.ownsRange c.domain 2 f n) denied, at_ 24 (op ≤ 2), c.zeros 25 3,
   at_ 28 (if op = 0 then decide (c.u32 28 < 2 ^ 28) else decide (c.u32 28 = 0)), c.zeros 32 32,
   need ((rangeOf f n).all fun q => !s.flushBusy q) { status := .busy },
   firstOf (fun q => need (!s.sliceDown (nodeKey 4 q)) { status := .hwFault, detail := s.sliceSeq (nodeKey 4 q) }) (rangeOf f n),
   at_ 24 (op ≠ 0 || (rangeOf f n).all fun q => (s.node (nodeKey 4 q)).live)]

/-- One queue of a QUEUE_STATE (R290). -/
def queueStateOne (op maxCells q : Nat) (s : State) : State :=
  let x := s.queue q
  match op with
  | 0 => s.setQueue q { x with state := .opened, maxCells := maxCells }
  | 1 => s.setQueue q { x with state := if x.packets = [] then .closed else
      (if x.state = .closed then .closed else .closing) }
  | _ => s.setQueue q (if x.packets = [] then { x with state := .closed } else
      { x with state := .closing, flushing := true })

/-- QUEUE_STATE (R311): open and close reply at once, a flush of queues with backlog after its last packet is dropped
(R292). -/
def execQueueState (t : Nat) (c : Cmd) (s : State) : Host.Outcome State Fault Refusal :=
  let s := s.at_ t
  let r := rangeOf (c.u32 16) (c.u32 20)
  let s1 := each (queueStateOne (c.u8 24) (c.u32 28)) r s
  .next (s.command 0x0901 c .any (queueStateErrs c s)
    { s := s1, later := c.u8 24 = 2 && r.any fun q => s1.flushBusy q })

/-- FLUSH_COMPLETE (R292): the backlog of the flushed range is dropped and counted, its queues are CLOSED, and the reply
is posted. -/
def execFlushComplete (t : Nat) (c : Cmd) (s : State) : Host.Outcome State Fault Refusal :=
  let s := s.at_ t
  .next (match s.startedAs c with
    | none => s
    | some x =>
      if !(x.working && c.opcode = 0x0901) then s
      else
        let f (q : Nat) (s : State) : State :=
          if s.flushBusy q then
            let s := State.drainQueueWith (fun s => s.countQueue q 6 1) q s
            s.setQueue q { s.queue q with flushing := false, state := .closed }
          else s
        (each f (rangeOf (c.u32 16) (c.u32 20)) s).answer c .ok 0 0 [])

/-- A bucket's tokens as NODE_QUERY and TM_A_TOKENS show them, in whole bytes or packets; an unlimited bucket reads
0x7FFF_FFFF. -/
def shownTokens (rate : Nat) (tok : Int) : Nat := if rate = unlimited then 0x7FFFFFFF else unsigned 32 (tok / 65536)

/-- The NODE_QUERY record (R312). -/
def nodeRecord (s : State) (k : Nat) : Bytes :=
  let n := (s.node k).refill s.tclk
  let level := levelOf k
  let q := s.queue (idOf k)
  let a := (s.rootOf k).getD 255
  let ex := s.nodeExists k
  let sch := if level = 0 then s.rootSchedulable (idOf k) else ex && (s.rootOf k).isSome && schedulable (State.queueReady a) s 5 k
  let st := if level = 4 then (match q.state with
    | .closed => 0
    | .opened => 1
    | .closing => 2) else 0
  let ps := if level = 4 then [idOf k] else
    (s.tm.queues.filter fun r => (s.path (nodeKey 4 r.1)).contains k).map fun r => r.1
  leBytes 1 level ++ leBytes 1 (b2n ex + 2 * b2n sch + 4 * b2n (sch && n.committed s.tclk) + 8 * st +
      32 * b2n (level = 0 && s.rootHeld (idOf k))) ++ leBytes 1 n.priority ++ leBytes 1 n.parentLevel ++
    leBytes 4 n.parent ++ leBytes 2 n.weight ++ leBytes 1 (unsigned 8 n.overhead) ++ leBytes 1 n.mode ++
    leBytes 4 (s.nodeOwner k + 256 * (match s.rootOf k with
      | some r => s.sliceOf r
      | none => 0)) ++
    leBytes 4 n.cir ++ leBytes 4 n.pir ++ leBytes 4 n.cbs ++ leBytes 4 n.pbs ++
    leBytes 4 (shownTokens n.cir n.tokC) ++ leBytes 4 (shownTokens n.peakRate n.tokP) ++
    leBytes 4 (unsigned 32 n.defC) ++ leBytes 4 (unsigned 32 n.defE) ++
    leBytes 4 (if level = 4 then q.maxCells else (s.children k).length) ++
    leBytes 4 ((ps.map fun x => (s.queue x).packets.length).sum) ++ leBytes 4 ((ps.map fun x => (s.queue x).depth).sum) ++
    leBytes 4 n.peakRate

/-- NODE_QUERY (R312). -/
def execNodeQuery (t : Nat) (c : Cmd) (s : State) : Host.Outcome State Fault Refusal :=
  let s := s.at_ t
  let level := c.u8 16
  let id := c.u32 20
  let k := nodeKey level id
  .next (s.command 0x0902 c .any
    [c.needReply, at_ 16 (level ≤ 4), c.zeros 17 3,
     (if level = 4 then s.ownErr c 2 id
      else firstErr [at_ 20 (id < levelCount level && s.nodeExists k), need (s.nodeOwner k = c.domain) denied]),
     c.zeros 24 40]
    { s := s, result := 64, long := nodeRecord s k })

/-- QUEUE_STATS (R313). -/
def execQueueStats (t : Nat) (c : Cmd) (s : State) : Host.Outcome State Fault Refusal :=
  let s := s.at_ t
  let q := c.u32 16
  let x := s.queue q
  .next (s.command 0x0903 c .any [c.needReply, s.ownErr c 2 q, at_ 20 (c.u8 20 ≤ 1), c.zeros 21 43]
    { s := if bit (c.u8 20) 0 then s.setQueue q { x with counters := [] } else s, result := 64,
      long := counterBytes x.counters 7 ++ leBytes 8 x.depth })

/-- SCHED_LIMIT (R314). -/
def execSchedLimit (t : Nat) (c : Cmd) (s : State) : Host.Outcome State Fault Refusal :=
  let s := s.at_ t
  let d := c.u8 16
  let f (i : Nat) (s : State) : State :=
    let v := c.u32 (16 + 4 * i)
    let v := if v = unlimited then 2 ^ 32 else v
    { s with tm := { s.tm with allow := put s.tm.allow (d * 4 + i) (if d = 0 then 2 ^ 32 else 0) v } }
  .next (s.command 0x0904 c .d0 [at_ 16 (d < 16), c.zeros 17 3, c.zeros 32 32] { s := each f [1, 2, 3] s })

end Sys2Proof.Machine
end

