-- ==== Sys2Proof/Machine/Ports.lean ====
section
/-! DEFINITION. Lanes, port bindings, link states and PFC receipt (05_ports_and_lanes.md). -/

namespace Sys2Proof.Machine

/-- The lanes of a port. -/
def Port.lanes (p : Port) : List Nat := if p.personality = .none then [] else (List.range p.laneCount).map fun i => p.firstLane + i

/-- The port that uses a lane. -/
def State.portOfLane (s : State) (l : Nat) : Option Nat :=
  (s.ports.port.find? fun r => r.2.lanes.contains l).map fun r => r.1

/-- A lane of the port, or the channel of its tree, is mapped out. -/
def State.laneDown (s : State) (p : Nat) : Bool :=
  ((s.port p).lanes.any fun l => s.isOut 0x0A l) || ((s.port p).personality = .pon && s.isOut 0x0D (s.port p).tree)

/-- What the transmitter of an Ethernet port sends. -/
inductive LineSignal where
  | off
  | idle
  | frames
  | remoteFault
  deriving DecidableEq, Repr

/-- What an Ethernet port sends in its state (R118, R119). -/
def LinkState.sends : LinkState → LineSignal
  | .disabled => .off
  | .training => .idle
  | .up => .frames
  | .faultLocal => .remoteFault
  | .faultRemote => .idle

/-- PORT_STATUS.state's code. -/
def LinkState.code : LinkState → Nat
  | .disabled => 0
  | .training => 1
  | .up => 2
  | .faultLocal => 3
  | .faultRemote => 4

/-- Move a port to a link state with a cause (R118): a change posts PORT_LINK, a change out of UP counts, and a port
that is not UP with down_flush drains its queues (R121). No change of state or cause posts nothing: so does a further lane that fails in
FAULT_LOCAL with cause 3, of which R120 does not say whether PORT_LINK is posted again. DESIGN CHOICE, log entry 126. -/
def State.moveLink (s : State) (p : Nat) (st : LinkState) (cause : Nat) : State :=
  let x := s.port p
  if x.state = st && x.cause = cause then s
  else
    let x := { x with state := st, cause := cause,
                      counters := if x.state = .up then bump x.counters 12 1 else x.counters }
    ((s.setPort p x).eventTo (s.owner 1 p) 0x02F0 (p + 256 * st.code + 4096 * cause) (look x.counters 12 0)).downFlush p

/-- A fault of a port arises (R118, R120): causes 1, 2, 3, 5, 6 and 7 are local, 4 is a received Remote Fault. -/
def State.portFault (s : State) (p cause : Nat) : State :=
  let st := (s.port p).state
  if cause = 4 then (if st = .up then s.moveLink p .faultRemote 4 else s)
  else
    match st with
    | .disabled => s
    | .training => if cause = 3 then s.moveLink p .faultLocal 3 else s
    | .up => s.moveLink p .faultLocal cause
    | .faultRemote => s.moveLink p .faultLocal cause
    | .faultLocal => if cause = 3 then s.moveLink p .faultLocal 3 else s

/-- The cause that a condition gives (R118, R139). -/
def condCause (k : Nat) : Nat := if k = 8 then 4 else if k = 9 then 2 else k

/-- A condition of a port is present. Only a lane or quad failure moves a PON port, upstream silence never (R349). -/
def State.raiseCond (s : State) (p k : Nat) : State :=
  let x := s.port p
  if x.personality = .pon then s
  else (s.setPort p (if x.conds.contains k then x else { x with conds := x.conds ++ [k] })).portFault p (condCause k)

/-- A fault of the far end is received: Remote Fault, or BDI on an ELI port. -/
def Port.farFault (x : Port) : Bool := x.conds.contains 4 || x.conds.contains 8

/-- The conditions that hold a port in its present state: a fault of the far end holds none in FAULT_LOCAL. -/
def Port.holding (x : Port) : List Nat := if x.state = .faultLocal then x.conds.filter (fun k => condCause k ≠ 4) else x.conds

/-- A condition of a port has cleared: up_hold_ms counts from the last one that holds it (R118). -/
def State.clearCond (s : State) (p k : Nat) : State :=
  let x := s.port p
  let since := if x.holding.contains k then s.now else x.clearSince
  if x.conds.contains k then s.setPort p { x with conds := x.conds.erase k, clearSince := since } else s

/-- No condition has been present, and no lane mapped out, for up_hold_ms (R118); a PON port leaves TRAINING once it frames
(R349). -/
def State.portClear (s : State) (p : Nat) : Bool :=
  let x := s.port p
  x.holding = [] && (x.personality ≠ .pon || x.state ≠ .training || (look s.pon.trees x.tree {}).framing) && !s.laneDown p && x.clearSince + ms x.cfg.upHoldMs ≤ s.now

/-- PORT_UP (R118): from TRAINING once lanes are locked and aligned, or from a fault that stays clear; a Remote Fault that is still received
moves the port on to FAULT_REMOTE. -/
def execPortUp (t port : Nat) (s : State) : Host.Outcome State Fault Refusal :=
  let s := s.at_ t
  let st := (s.port port).state
  .next (if (st = .training || st = .faultLocal || st = .faultRemote) && s.portClear port then
      (if (s.port port).farFault then (s.moveLink port .up 0).portFault port 4 else s.moveLink port .up 0)
    else s)

/-- LINK_TRAINING_RESTART (R118): link training is not done 1 s after it started. -/
def execLinkTrainingRestart (t port : Nat) (s : State) : Host.Outcome State Fault Refusal :=
  let s := s.at_ t
  let x := s.port port
  .next (if x.state = .training && x.cfg.linkTraining && x.trainStart + ms 1000 ≤ s.now then
      s.setPort port { x with trainStart := s.now, counters := bump x.counters 14 1 }
    else s)

/-- LANE_SIGNAL_LOSS (R118): loss of signal or of alignment on a lane. -/
def execLaneSignalLoss (t lane : Nat) (alignment : Bool) (s : State) : Host.Outcome State Fault Refusal :=
  let s := s.at_ t
  let l := s.lane lane
  .next (if 256 ≤ lane then s
    else
      let s := s.setLane lane (if alignment then { l with alignLost := true } else { l with signalLost := true })
      match s.portOfLane lane with
      | some p => s.raiseCond p (if alignment then 2 else 1)
      | none => s)

/-- REMOTE_FAULT_RECEIVED (R118). -/
def execRemoteFaultReceived (t port : Nat) (s : State) : Host.Outcome State Fault Refusal :=
  let s := s.at_ t
  .next (if (s.port port).personality = .none then s else s.raiseCond port 4)

/-- PORT_CONDITION_CLEARED (R118). -/
def execPortConditionCleared (t port : Nat) (cond : PortCond) (s : State) : Host.Outcome State Fault Refusal :=
  let s := s.at_ t
  let clear (f : Lane → Lane) (s : State) : State := each (fun l s => s.setLane l (f (s.lane l))) (s.port port).lanes s
  .next (match cond with
    | .signal => (clear (fun l => { l with signalLost := false }) s).clearCond port 1
    | .alignment => (clear (fun l => { l with alignLost := false }) s).clearCond port 2
    | .remoteFault => s.clearCond port 4)

/-- FEC_DEGRADE_INTERVAL (R118): the codewords of a 1 s interval. -/
def execFecDegradeInterval (t port corrected uncorrected : Nat) (s : State) : Host.Outcome State Fault Refusal :=
  let s := s.at_ t
  let x := s.port port
  let bad := x.cfg.fecDegradeCw ≠ 0 && x.cfg.fecDegradeCw < uncorrected
  .next (if x.personality = .none then s
    else
      let s := s.setPort port { x with berAlarm := bad,
                                       counters := bump (bump x.counters 10 corrected) 11 uncorrected }
      if bad then (if x.state = .up || x.state = .faultRemote then s.raiseCond port 5 else s) else s.clearCond port 5)

/-- The domain mask of a lane: the owner of the port that uses it, or D0 (R477). -/
def State.laneMask (s : State) (l : Nat) : Nat :=
  match s.portOfLane l with
  | some p => 2 ^ s.owner 1 p
  | none => 1

/-- The union of masks. -/
def orMasks (l : List Nat) : Nat := l.foldl (· ||| ·) 0

/-- Post LANE_FAULT to D0 and to the owners of the ports affected (05 Port events). -/
def State.laneFault (s : State) (detail mask : Nat) : State :=
  s.eventMask (mask ||| 1) 0x02F1 detail s.units.lastSeq

/-- The number of the record by which a lane was mapped out: its own, or that of its quad (R123). -/
def State.laneSeq (s : State) (l : Nat) : Nat := s.seqOf 0x0A (if (s.lane l).quadOut then l / 4 * 4 else l)

/-- LANE_FAIL (R122). -/
def execLaneFail (t lane : Nat) (s : State) : Host.Outcome State Fault Refusal :=
  let s := s.at_ t
  .next (if 256 ≤ lane || s.isOut 0x0A lane then s
    else
      let m := s.laneMask lane
      let s := (s.mapOut 0x0A lane 0 m 0).laneFault lane m
      match s.portOfLane lane with
      | some p => s.portFault p 3
      | none => s)

/-- HW_FAULT where a lane of a port is mapped out, with the number of its record (R78). -/
def State.lanesErr (s : State) (p : Nat) : Option Err :=
  firstOf (fun l => need (s.healthy 0x0A l) { status := .hwFault, detail := s.laneSeq l }) (s.port p).lanes

/-- The lanes of a quad. -/
def quadLanes (q : Nat) : List Nat := [4 * q, 4 * q + 1, 4 * q + 2, 4 * q + 3]

/-- Map a quad out as a whole (R123): its four lanes together, one record and one LANE_FAULT with the quad flag. -/
def State.quadDown (s : State) (q : Nat) (planned : Bool) : State :=
  let ls := quadLanes q
  let m := orMasks (ls.map s.laneMask)
  let s := each (fun l s => (s.markOut 0x0A l).setLane l { s.lane l with quadOut := true }) ls s
  let ok := s.serviceable
  let s := (s.record 0x0A (4 * q) (if ok then 2 else 3) (if ok then 2 else 4) 0 m 0 planned).laneFault (4 * q + 256) m
  each (fun l s => match s.portOfLane l with
    | some p => s.portFault p 3
    | none => s) ls s.afterMapOut

/-- QUAD_FAIL (R123). -/
def execQuadFail (t quad : Nat) (s : State) : Host.Outcome State Fault Refusal :=
  let s := s.at_ t
  .next (if 64 ≤ quad || (s.lane (4 * quad)).quadOut then s else s.quadDown quad false)

/-- What a PFC frame does to one class (R117). -/
def Port.pause (p : Port) (now enable : Nat) (quanta : List Nat) (c : Nat) (m : Sparse Nat) : Sparse Nat :=
  if bit enable c && bit p.cfg.pfcRx c then
    let q := (quanta[c]?).getD 0
    put m c 0 (if q = 0 then 0 else now + p.pauseTime q)
  else m

/-- A PFC frame is received (R117, R127): consumed and counted on every port, ignored while the port is not UP; it pauses the priorities of an
Ethernet port. -/
def State.pfcReceive (s : State) (port enable : Nat) (quanta : List Nat) : State :=
  let p := s.port port
  if p.state ≠ .up || p.personality = .none then s
  else
    let p := { p with counters := bump p.counters 5 1 }
    s.setPort port (if p.personality = .ethernet then { p with paused := each (p.pause s.now enable quanta) (List.range 8) p.paused } else p)

/-- PFC_FRAME_RECEIVE (R117). -/
def execPfcFrameReceive (t port enable : Nat) (quanta : List Nat) (s : State) : Host.Outcome State Fault Refusal :=
  .next ((s.at_ t).pfcReceive port enable quanta)

/-- PFC_PAUSE_EXPIRE (R117). -/
def execPfcPauseExpire (t port cls : Nat) (s : State) : Host.Outcome State Fault Refusal :=
  let s := s.at_ t
  let p := s.port port
  .next (if look p.paused cls 0 ≤ s.now then s.setPort port { p with paused := put p.paused cls 0 0 } else s)

/-! ### Commands -/

/-- A personality's code. -/
def Personality.code : Personality → Nat
  | .none => 0
  | .ethernet => 1
  | .eli => 2
  | .pon => 3

/-- The personality of a code. -/
def personalityOf : Nat → Personality
  | 1 => .ethernet
  | 2 => .eli
  | 3 => .pon
  | _ => .none

/-- Lanes × lane_rate that R115 lists (rates of R111). -/
def speedOk (n rate : Nat) : Bool :=
  match rate with
  | 0 => n = 1
  | 1 => n = 1 || n = 2
  | 2 => true
  | 3 => true
  | _ => false

/-- The lanes that a port may use (R112–R114). -/
def lanesOk (port pers first n : Nat) : Bool :=
  first % n = 0 && (if port < 64 then decide (first + n ≤ 128) else (128 ≤ first && first + n ≤ 256)) &&
    (pers ≠ 3 || first < 64)

/-- The lanes that PORT_MAP names. -/
def mapLanes (c : Cmd) : List Nat := (List.range (c.u8 19)).map fun i => c.u8 18 + i

/-- How many ports other than `p` have a personality. -/
def State.portsWith (s : State) (k : Personality) (p : Nat) : Nat :=
  countRows s.ports.port fun i x => x.personality = k && i ≠ p

/-- The checks of PORT_MAP beyond personality 0 (R124). -/
def portMapBindErrs (c : Cmd) (s : State) : List (Option Err) :=
  let port := c.u8 16
  let pers := c.u8 17
  let n := c.u8 19
  let rate := c.u8 20
  [at_ 19 ((n = 1 || n = 2 || n = 4 || n = 8) && (pers ≠ 2 || n = 8) && (pers ≠ 3 || n = 1)),
   at_ 18 (lanesOk port pers (c.u8 18) n),
   at_ 18 ((mapLanes c).all fun l => match s.portOfLane l with
     | some p => p = port
     | none => true),
   at_ 20 (if pers = 1 then speedOk n rate else if pers = 2 then rate = 3 else rate = 0),
   at_ 21 (if pers = 1 then (if rate = 0 then c.u8 21 ≤ 1 else c.u8 21 = 2) else c.u8 21 = 0),
   (if pers = 3 then firstErr [need (c.u8 22 < 48) denied, at_ 22 (match s.treePort (c.u8 22) with
      | some p => p = port
      | none => true), at_ 23 (c.u8 23 ≤ 3)]
    else c.zeros 22 2),
   c.zeros 24 40,
   firstOf (fun l => need (s.healthy 0x0A l) { status := .hwFault, detail := s.laneSeq l }) (mapLanes c)]

/-- The checks of PORT_MAP (R124). -/
def portMapErrs (c : Cmd) (s : State) : List (Option Err) :=
  let port := c.u8 16
  let pers := c.u8 17
  [need (port < 128) denied, at_ 16 (s.dev.topology = 0 || port < 64), at_ 17 (pers ≤ 3)] ++
  (if pers = 0 then [c.zeros 18 46] else portMapBindErrs c s) ++
  [need ((s.port port).state = .disabled) (refusedWith 1),
   need ((pers ≠ 2 || s.portsWith .eli port < 16) && (pers ≠ 3 || s.portsWith .pon port < 48)) (refusedWith 2)]

/-- The binding that PORT_MAP makes. -/
def Port.bind (p : Port) (c : Cmd) : Port :=
  if c.u8 17 = 0 then { p with personality := .none, firstLane := 0, laneCount := 0, laneRate := 0, fec := 0, tree := 0,
                               ponType := 0, conds := [] }
  else { p with personality := personalityOf (c.u8 17), firstLane := c.u8 18, laneCount := c.u8 19, laneRate := c.u8 20,
                fec := c.u8 21, tree := c.u8 22, ponType := c.u8 23, conds := [] }

/-- The conditions that the lanes of a port now show. -/
def State.laneConds (s : State) (p : Port) : List Nat :=
  (if p.lanes.any fun l => (s.lane l).signalLost then [1] else []) ++
    (if p.lanes.any fun l => (s.lane l).alignLost then [2] else [])

/-- PORT_MAP (R124). -/
def execPortMap (t : Nat) (c : Cmd) (s : State) : Host.Outcome State Fault Refusal :=
  let s := s.at_ t
  let p := (s.port (c.u8 16)).bind c
  .next (s.command 0x0200 c .d0 (portMapErrs c s)
    { s :=
        let a := nodeKey 0 (c.u8 16)
        let s := (s.setPort (c.u8 16) { p with conds := s.laneConds p }).setNode a
          { (s.node a).refill s.tclk with eliRate := if c.u8 17 = 2 then 1 else 0 }
        let s := s.atHome (c.u8 16)
        (if c.u8 17 = 3 then s.atHome (128 + p.tree) else s).rehome })

/-- The checks of PORT_CONFIG (R115, R125). -/
def portConfigErrs (c : Cmd) (s : State) : List (Option Err) :=
  let p := s.port (c.u8 16)
  [s.ownErr c 1 (c.u8 16), at_ 16 (p.personality ≠ .none), at_ 17 (c.u8 17 ≤ 1),
   at_ 18 (c.u8 18 = 0 || (c.u8 18 = 1 && p.personality = .ethernet && p.laneRate = 3)), at_ 19 (c.u8 19 ≤ 1),
   at_ 20 (1518 ≤ c.u16 20 && c.u16 20 ≤ 10240), at_ 24 (c.u16 24 ≤ 10000), c.zeros 26 2, c.zeros 35 29]

/-- The settings that PORT_CONFIG writes. -/
def portCfgOf (c : Cmd) : PortCfg :=
  { linkTraining := c.u8 18 = 1, downFlush := c.u8 19 = 1, maxFrame := c.u16 20, pfcRx := c.u8 22, pfcTx := c.u8 23,
    upHoldMs := c.u16 24, fecDegradeCw := c.u32 28, pfcMap := c.field 32 3 }

/-- The taps of LANE_CONFIG. -/
def laneTaps (c : Cmd) : List Int := [c.i8 18, c.i8 19, c.i8 20, c.i8 21, c.i8 22]

/-- LANE_CONFIG (R126). -/
def execLaneConfig (t : Nat) (c : Cmd) (s : State) : Host.Outcome State Fault Refusal :=
  let s := s.at_ t
  let l := c.u8 16
  .next (s.command 0x0202 c .d0
    [at_ 17 (c.u8 17 ≤ 3), at_ 18 (((laneTaps c).map Int.natAbs).sum ≤ 64), c.zeros 23 41,
     need (s.healthy 0x0A l) { status := .hwFault, detail := s.laneSeq l }]
    { s := s.setLane l { s.lane l with invert := c.u8 17, taps := (laneTaps c).map (unsigned 8) } })

/-- PORT_STATS (R127). -/
def execPortStats (t : Nat) (c : Cmd) (s : State) : Host.Outcome State Fault Refusal :=
  let s := s.at_ t
  let p := s.port (c.u8 16)
  .next (s.command 0x0203 c .any [c.needReply, s.ownErr c 1 (c.u8 16), at_ 17 (c.u8 17 ≤ 1), c.zeros 18 46]
    { s := if bit (c.u8 17) 0 then s.setPort (c.u8 16) { p with counters := [] } else s, result := 128,
      long := counterBytes p.counters 16 })

end Sys2Proof.Machine
end

