-- ==== Sys2Proof/Machine/Classify.lean ====
section
/-! DEFINITION. The flow hash, the parser, decision trees and automata, and their commands
(07_parse_and_classify.md). -/

namespace Sys2Proof.Machine

/-! ### CRCs -/

/-- One reflected CRC-32 step over a byte. -/
def crc32Byte (poly crc : Nat) (b : Byte) : Nat :=
  (List.range 8).foldl (fun x _ => if bit x 0 then (x / 2) ^^^ poly else x / 2) (crc ^^^ b.toNat)

/-- A reflected CRC-32 from all ones with final inversion. -/
def crc32With (poly : Nat) (b : Bytes) : Nat := (b.foldl (crc32Byte poly) 0xFFFFFFFF) ^^^ 0xFFFFFFFF

/-- CRC-32 (IEEE 802.3). -/
def crc32 : Bytes → Nat := crc32With 0xEDB88320
/-- CRC-32C (R155). -/
def crc32c : Bytes → Nat := crc32With 0x82F63B78

/-! ### The pre-parser and the flow hash (R155) -/

/-- What the pre-parser found in a frame: the fields of the hash-profile table. -/
structure PreParse where
  macs : Bytes := []
  vlans : List Nat := []
  labels : List Nat := []
  addrs : Bytes := []
  proto : List Nat := []
  flow : List Nat := []
  ports : Bytes := []
  deriving DecidableEq, Repr

/-- The L4 ports after an IP header, unless it shows a fragment. -/
def preL4 (b : Bytes) (off proto : Nat) (frag : Bool) (p : PreParse) : PreParse :=
  if !frag && (proto = 6 || proto = 17 || proto = 132) && off + 4 ≤ b.length then { p with ports := slice b off 4 } else p

/-- The IP header of the pre-parser. -/
def preIp (b : Bytes) (off ver : Nat) (p : PreParse) : PreParse :=
  if ver = 4 then
    let ihl := byteAt b off % 16
    if off + 20 ≤ b.length && 5 ≤ ihl then
      let proto := byteAt b (off + 9)
      let frag := beAt b (off + 6) 2 % 0x4000 ≠ 0
      preL4 b (off + 4 * ihl) proto frag { p with addrs := slice b (off + 12) 8, proto := [proto] }
    else p
  else if ver = 6 then
    if off + 40 ≤ b.length then
      let p := { p with addrs := slice b (off + 8) 32, flow := [beAt b off 4 % 2 ^ 20] }
      let nh := byteAt b (off + 6)
      if nh = 44 then (if off + 48 ≤ b.length then { p with proto := [byteAt b (off + 40)] } else p)
      else preL4 b (off + 40) nh false { p with proto := [nh] }
    else p
  else p

/-- Up to `n` labels of the pre-parser; an IP header follows only a label with bottom of stack. -/
def preMpls (b : Bytes) : Nat → Nat → PreParse → PreParse
  | 0, _, p => p
  | n + 1, off, p =>
    if b.length < off + 4 then p
    else
      let v := beAt b off 4
      let p := { p with labels := p.labels ++ [v / 4096] }
      if bit v 8 then preIp b (off + 4) (byteAt b (off + 4) / 16) p else preMpls b n (off + 4) p

/-- What follows an EtherType at `off`: up to `n` VLAN tags, then MPLS or IP. -/
def preType (b : Bytes) : Nat → Nat → PreParse → PreParse
  | n, off, p =>
    let ty := beAt b off 2
    if b.length < off + 2 then p
    else if ty = 0x8100 || ty = 0x88A8 then
      match n with
      | 0 => p
      | m + 1 =>
        if b.length < off + 4 then p
        else preType b m (off + 4) { p with vlans := p.vlans ++ [beAt b (off + 2) 2 % 4096] }
    else if ty = 0x8847 || ty = 0x8848 then preMpls b 8 (off + 2) p
    else if ty = 0x0800 then preIp b (off + 2) 4 p
    else if ty = 0x86DD then preIp b (off + 2) 6 p
    else p

/-- The pre-parse of a frame. -/
def preParse (b : Bytes) : PreParse := if b.length < 14 then {} else preType b 2 12 { macs := slice b 0 12 }

/-- The label below an entropy-label indicator (label 7). -/
def entropyLabel : List Nat → List Nat
  | 7 :: e :: _ => [e]
  | _ :: t => entropyLabel t
  | [] => []

/-- The bytes that a hash profile takes from a frame, in the order of its table. -/
def hashInput (sel : Nat) (p : PreParse) : Bytes :=
  let on (i : Nat) (b : Bytes) : Bytes := if bit sel i then b else []
  on 0 p.macs ++ on 1 (p.vlans.flatMap (Config.hashPack 12)) ++ on 2 ((p.labels.take 4).flatMap (Config.hashPack 20)) ++
    on 3 ((entropyLabel p.labels).flatMap (Config.hashPack 20)) ++ on 4 p.addrs ++
    on 5 (p.proto.map (BitVec.ofNat 8)) ++ on 6 (p.flow.flatMap (Config.hashPack 20)) ++ on 7 p.ports

/-- The flow hash of a frame under a hash profile (R155); a select value of 0 gives 0. -/
def flowHash (sel : Nat) (b : Bytes) : Nat := if sel = 0 then 0 else crc32c (hashInput sel (preParse b))

/-! ### The parser (R160–R166) -/

/-- A parse under way: the header's offset, the layer stack (node, offset), the field area with its writers, the status,
and the counts of labels. -/
structure Walk where
  off : Nat := 0
  stack : List (Nat × Nat) := []
  ipLayers : List Bool := []
  area : Bytes := List.replicate 256 0
  writers : Sparse Nat := []
  status : Nat := 0
  labels : Option Nat := none
  frag : Bool := false
  first : Bool := false
  v4Seen : Bool := false
  /-- The next header is the Fragment header that an IPv6 header named. -/
  v6Frag : Bool := false
  deriving DecidableEq, Repr

/-- The header length of a node at an offset (R160 step 2). -/
def GNode.len (n : GNode) (b : Bytes) (off : Nat) : Nat :=
  if bit n.flags 0 then ((byteAt b (off + n.lenByte) &&& n.lenMask) >>> n.lenShift) * n.lenScale + n.lenAdd else n.fixedLen

/-- The extracts of a header (R160 step 3); bytes past the packet's end are zeros. -/
def extract (b : Bytes) (off layer : Nat) (w : Walk) : List (Nat × Nat × Nat) → Walk
  | [] => w
  | (src, n, dst) :: t =>
    let w := { w with area := overlay w.area dst (slice b (off + src) n),
                      writers := (List.range n).foldl (fun m i => put m (dst + i) 0 (layer + 1)) w.writers }
    extract b off layer w t

/-- `n` bits from bit `off` of a header, big-endian (R12). -/
def selectBits (b : Bytes) (byteOff off n : Nat) : Nat :=
  (List.range n).foldl (fun v i =>
    let k := off + i
    2 * v + b2n (bit (byteAt b (byteOff + k / 8)) (7 - k % 8))) 0

/-- The next node by the transitions in index order, or default_next (R160 steps 5 and 6). -/
def GNode.nextOf (n : GNode) (g : Graph) (v : Nat) : Nat :=
  match ((g.trans.drop n.first).take n.count).find? fun t => v &&& t.mask = t.value &&& t.mask with
  | some t => t.next
  | none => n.dflt

/-- The ones' complement sum of an IPv4 header's 16-bit words is right. -/
def ipv4SumOk (b : Bytes) (off len : Nat) : Bool :=
  let s := ((List.range (len / 2)).map fun i => beAt b (off + 2 * i) 2).sum
  let f := s % 65536 + s / 65536
  (f % 65536 + f / 65536) % 65536 = 0xFFFF

/-- The labels of an MPLS node from an offset: how many, and whether the last has bottom of stack; at most 12. -/
def countLabels (b : Bytes) : Nat → Nat → Nat × Bool
  | 0, _ => (0, false)
  | n + 1, off =>
    if bit (beAt b off 4) 8 then (1, true)
    else
      let (k, e) := countLabels b n (off + 4)
      (k + 1, e)

/-- What an IP node finds (R161): malformed, or a fragment. `v4` is the version nibble's reading. -/
def ipCheck (b : Bytes) (off : Nat) (w : Walk) : Walk × Option Nat :=
  let ver := byteAt b off / 16
  if ver = 4 then
    if byteAt b off % 16 < 5 || (!w.v4Seen && !ipv4SumOk b off (4 * (byteAt b off % 16))) then (w, some 4)
    else
      let fr := beAt b (off + 6) 2
      let w := { w with v4Seen := true }
      if fr % 0x4000 ≠ 0 then ({ w with frag := true, first := fr % 0x2000 = 0 }, some 5) else (w, none)
  else (w, none)

/-- An IPv6 Fragment header at an offset ends the parse (R161). -/
def Walk.fragmentAt (w : Walk) (b : Bytes) (off : Nat) : Walk :=
  { w with status := 5, frag := true, first := beAt b (off + 2) 2 / 8 = 0 }

/-- One more header, from node `k` on (R160, R161); the fuel is the 16 entries of the layer stack and one more. -/
def walkFrom (g : Graph) (b : Bytes) : Nat → Nat → Walk → Walk
  | 0, _, w => { w with status := 1 }
  | fuel + 1, k, w =>
    match g.nodes[k]? with
    | none => w
    | some n =>
      if w.stack.length = 16 then { w with status := 1 }
      else
        let layer := w.stack.length
        let mpls := bit n.flags 3
        let (cnt, eos) := countLabels b 12 w.off
        let len := if mpls then 4 * cnt else n.len b w.off
        if 512 < w.off + len then { w with status := 2 }
        else if b.length < w.off + len || (bit n.flags 0 && len < n.fixedLen) then { w with status := 4 }
        else
          let w1 := { w with stack := w.stack ++ [(k, w.off)], ipLayers := w.ipLayers ++ [bit n.flags 1],
                             labels := if mpls && w.labels.isNone then some cnt else w.labels }
          let w1 := extract b w.off layer w1 n.extracts
          let (w1, e) := if bit n.flags 1 then ipCheck b w.off w1 else (w1, none)
          match e with
          | some 5 => { w1 with off := w.off + len, status := 5 }
          | some st => { w with status := st }
          | none =>
            let w2 := { w1 with off := w.off + len }
            if mpls && !eos then { w2 with status := 3 }
            else if w.v6Frag then w2.fragmentAt b w.off
            else
              let v6 := bit n.flags 1 && byteAt b w.off / 16 = 6 && byteAt b (w.off + 6) = 44
              let last := if v6 then w2.fragmentAt b w2.off else w2
              if bit n.flags 4 then last
              else
                let v := if mpls then byteAt b (w.off + len) / 16
                  else selectBits b w.off n.selOff n.selBits
                let nx := n.nextOf g v
                if nx = 0xFF then last else walkFrom g b fuel nx { w2 with v6Frag := v6 }

/-- The parse of a packet from a start node. -/
def parseFrom (g : Graph) (start : Nat) (b : Bytes) : Walk :=
  if start = 0xFF then {} else walkFrom g b 17 start {}

/-- How many layers the outer set has (R166), by the IP flags of the layers. -/
def outerCount (ip : List Bool) : Nat :=
  match ip.findIdx? id with
  | some i => i + 1
  | none => ip.length

/-- The layer stack of a header vector (R164): 16 entries of 3 bytes. -/
def stackBytes (l : List (Nat × Nat)) : Bytes :=
  (List.range 16).flatMap fun i => match l[i]? with
    | some (k, off) => leBytes 1 k ++ leBytes 2 (off % 512)
    | none => leBytes 1 0xFF ++ leBytes 2 0

/-- The end of the outer set in the packet (R164): where the layer after it starts, or the parse ended. -/
def Walk.payload (w : Walk) : Nat :=
  if w.status = 0 then w.off else
    match w.stack[outerCount w.ipLayers]? with
    | some (_, off) => off
    | none => w.off

/-- The header vector of a parse (R164). -/
def headerVector (w : Walk) (port dom pers : Nat) (egress : Bool) (len hash stamp : Nat) (dmacMulticast : Bool) : Bytes :=
  let outer := w.status ≠ 0
  leBytes 1 port ++ leBytes 1 (dom + 16 * pers + 64 * b2n egress) ++ leBytes 2 len ++ leBytes 4 hash ++ timeBytes stamp ++
    leBytes 1 w.status ++ leBytes 1 w.stack.length ++
    leBytes 1 (b2n outer + 2 * b2n w.frag + 4 * b2n (w.frag && w.first) + 8 * b2n dmacMulticast) ++
    leBytes 1 (w.labels.getD 0) ++ stackBytes w.stack ++ leBytes 2 w.payload ++ leBytes 6 0 ++ w.area.drop 80

/-- The packet is outer-only (R166), as its header vector says. -/
def outerOnly (hv : Bytes) : Bool := bit (byteAt hv 22) 0

/-! ### Decision trees (R167) -/

/-- One field of a key: zero where an extract of a layer after the outer set wrote a byte of it (R166). -/
def keyField (hv : Bytes) (writers : Sparse Nat) (outer : Nat) (f : KeyField) : Nat :=
  let hidden := outerOnly hv && (List.range f.len).any fun i => outer < look writers (f.src + i) 0
  if hidden then 0 else leAt hv f.src f.len * 2 ^ f.pos

/-- The key of a classification. -/
def treeKey (t : Tree) (hv : Bytes) (writers : Sparse Nat) (outer : Nat) : Nat :=
  (t.template.foldl (fun k f => k ||| keyField hv writers outer f) 0) % 2 ^ t.keyBits

/-- A key matches a rule (R167). -/
def Rule.hit (r : Rule) (key : Nat) : Bool :=
  key &&& r.mask = r.value && r.lo1 ≤ key % 65536 && key % 65536 ≤ r.hi1 && r.lo2 ≤ key / 65536 % 65536 &&
    key / 65536 % 65536 ≤ r.hi2

/-- The matching rule with the lowest number. -/
def bestRule (key : Nat) : List Rule → Option Rule
  | [] => none
  | r :: t =>
    match bestRule key t with
    | none => if r.hit key then some r else none
    | some b => if r.hit key && r.number < b.number then some r else some b

/-- The result of a classification (R167); one that needs what is lost (`miss`) reads as a miss (R441). -/
def Tree.classify (t : Tree) (key : Nat) (miss : Bool) : Nat :=
  match if miss then none else bestRule key t.rules with
  | some r => r.result
  | none => t.dflt

/-! ### Payload automata (R170–R172) -/

/-- A pattern matches with end offset `e` in the scanned bytes (R170). -/
def Pattern.ends (p : Pattern) (b : Bytes) (e : Nat) : Bool :=
  let n := p.bytes.length
  n ≤ e + 1 &&
    (let st := e + 1 - n
     (if p.anchored then p.minStart else 0) ≤ st && st ≤ p.maxStart &&
       (List.range n).all fun i => byteAt b (st + i) &&& byteAt p.mask i = byteAt p.bytes i &&& byteAt p.mask i)

/-- What a scan answers (R172). -/
structure ScanResult where
  status : Nat := 0
  count : Nat := 0
  scanned : Nat := 0
  hits : List (Nat × Nat) := []
  deriving DecidableEq, Repr

/-- The scan over end offsets from `e`, `n` of them left; it stops after the first at which the count is 64 or more. -/
def scanFrom (ps : List Pattern) (b : Bytes) : Nat → Nat → ScanResult → ScanResult
  | 0, _, r => r
  | n + 1, e, r =>
    let h := (ps.filter fun p => p.ends b e).map fun p => (p.id, e)
    let r := { r with count := r.count + h.length, scanned := e + 1, hits := (r.hits ++ h).take 8 }
    if 64 ≤ r.count then { r with status := 1 } else scanFrom ps b n (e + 1) r

/-- A scan of bytes with a set's patterns, which stand by rising id. -/
def scan (ps : List Pattern) (b : Bytes) : ScanResult :=
  let r := scanFrom ps b b.length 0 {}
  { r with count := min r.count 255 }

/-- A scan response in bytes. -/
def ScanResult.bytes (r : ScanResult) : Bytes :=
  leBytes 1 r.status ++ leBytes 1 r.count ++ leBytes 2 r.scanned ++
    (List.range 8).flatMap fun i => match r.hits[i]? with
      | some (id, e) => leBytes 4 (id + 65536 * e)
      | none => leBytes 4 0

/-! ### Access and allowances -/

/-- A decision tree. -/
def State.tree (s : State) (k : Nat) : Tree := look s.parse.trees k {}
/-- Set a decision tree. -/
def State.setTree (s : State) (k : Nat) (x : Tree) : State := { s with parse := { s.parse with trees := put s.parse.trees k {} x } }
/-- An automaton set. -/
def State.aset (s : State) (k : Nat) : AutoSet := look s.parse.sets k {}
/-- Set an automaton set. -/
def State.setAset (s : State) (k : Nat) (x : AutoSet) : State := { s with parse := { s.parse with sets := put s.parse.sets k {} x } }
/-- The parse settings of a port. -/
def State.parsePort (s : State) (p : Nat) : ParsePort := look s.parse.ports p {}
/-- Count a PARSE_COUNTERS event of a port. -/
def State.countParse (s : State) (port i : Nat) : State :=
  { s with parse := { s.parse with counters := bump s.parse.counters (port * 8 + i) 1 } }

/-- The rules that a tree counts for a domain: its live image and the one being staged (R169). -/
def State.treeRules (s : State) (d : Nat) (t : Tree) : Nat :=
  (if t.live && s.owner 3 t.partition = d then t.rules.length else 0) +
    (if t.staged ≠ [] && s.owner 3 t.stagedPart = d then t.stagedRules else 0)
/-- CLASS_DOM_RULES. -/
def State.rulesUsed (s : State) (d : Nat) : Nat := (s.parse.trees.map fun r => s.treeRules d r.2).sum
/-- Rules of the device, live and staged. -/
def State.rulesTotal (s : State) : Nat := (s.parse.trees.map fun r => r.2.rules.length + r.2.stagedRules).sum
/-- CLASS_DOM_PATTERNS. -/
def State.patternsUsed (s : State) (d : Nat) : Nat :=
  (s.parse.sets.map fun r => (if r.2.live && s.owner 3 r.2.partition = d then r.2.patterns.length else 0) +
    (if r.2.staged ≠ [] && s.owner 3 r.2.stagedPart = d then r.2.stagedCount else 0)).sum
/-- Patterns of the device, live and staged. -/
def State.patternsTotal (s : State) : Nat := (s.parse.sets.map fun r => r.2.patterns.length + r.2.stagedCount).sum

/-! ### Images -/

/-- A check of an image at a byte (kind 0x02). -/
def img (off : Nat) (ok : Bool) : Option Err := need ok (badBuffer off)

/-- The record of node `i` in a graph image. -/
def graphNode (b : Bytes) (i : Nat) : GNode :=
  let o := 48 + 64 * i
  { flags := byteAt b (o + 1), fixedLen := byteAt b (o + 2), lenByte := byteAt b (o + 3), lenMask := byteAt b (o + 4),
    lenShift := byteAt b (o + 5), lenScale := byteAt b (o + 6), lenAdd := byteAt b (o + 7), selOff := leAt b (o + 8) 2,
    selBits := byteAt b (o + 10), count := byteAt b (o + 11), first := leAt b (o + 12) 2, dflt := byteAt b (o + 14),
    extracts := ((List.range 8).map fun k => (byteAt b (o + 16 + 4 * k), byteAt b (o + 17 + 4 * k), byteAt b (o + 18 + 4 * k))).filter
      fun e => e.2.1 ≠ 0 }

/-- The checks of node `i` of a graph image (R160, R163). -/
def graphNodeErr (b : Bytes) (nodes trans i : Nat) : Option Err :=
  let o := 48 + 64 * i
  let n := graphNode b i
  firstErr [img o (byteAt b o = i), img (o + 1) (n.flags < 32), img (o + 8) (n.selOff < 512), img (o + 10) (n.selBits ≤ 32),
    img (o + 12) (n.first + n.count ≤ trans), img (o + 14) (n.dflt < nodes || n.dflt = 0xFF), bufZeros b (o + 15) 1,
    firstOf (fun k => firstErr [img (o + 17 + 4 * k) (byteAt b (o + 17 + 4 * k) ≤ 16),
      img (o + 18 + 4 * k) (byteAt b (o + 17 + 4 * k) = 0 || (80 ≤ byteAt b (o + 18 + 4 * k) &&
        byteAt b (o + 18 + 4 * k) + byteAt b (o + 17 + 4 * k) ≤ 256)), bufZeros b (o + 19 + 4 * k) 1]) (List.range 8),
    bufZeros b (o + 48) 16]

/-- The transition `i` of a graph image. -/
def graphTrans (b : Bytes) (nodes i : Nat) : GTrans :=
  let o := 48 + 64 * nodes + 12 * i
  { value := leAt b o 4, mask := leAt b (o + 4) 4, next := byteAt b (o + 8) }

/-- The checks of a graph image (R163). -/
def graphErrs (b : Bytes) : List (Option Err) :=
  let n := leAt b 2 2
  let t := leAt b 4 2
  [need (byteAt b 0 = 1) { status := .version, detail := byteAt b 0 }, img 1 (byteAt b 1 = 3), img 2 (1 ≤ n && n ≤ 255),
   need (t ≤ 4096) { status := .tableFull }, bufZeros b 6 2,
   firstOf (fun i => img (8 + i) (byteAt b (8 + i) < n || byteAt b (8 + i) = 0xFF)) (List.range 16), bufZeros b 24 20,
   img 4 (b.length = 48 + 64 * n + 12 * t), img 44 (leAt b 44 4 = crc32 (b.drop 48)),
   firstOf (graphNodeErr b n t) (List.range n),
   firstOf (fun i =>
     let o := 48 + 64 * n + 12 * i
     firstErr [img (o + 8) (byteAt b (o + 8) < n || byteAt b (o + 8) = 0xFF), bufZeros b (o + 9) 3]) (List.range t)]

/-- The graph of an image. -/
def graphOf (b : Bytes) : Graph :=
  let n := leAt b 2 2
  { start := (List.range 16).map fun i => byteAt b (8 + i), nodes := (List.range n).map (graphNode b),
    trans := (List.range (leAt b 4 2)).map (graphTrans b n) }

/-- PARSE_GRAPH_LOAD (R163). -/
def execParseGraphLoad (t : Nat) (c : Cmd) (b : BufRead) (s : State) : Host.Outcome State Fault Refusal :=
  let s := s.at_ t
  let d := b.bytes c
  .next (s.command 0x0400 c .d0 ([c.bufferErr, c.zeros 28 36, b.err] ++ graphErrs d)
    { s := { s with parse := { s.parse with graph := some (graphOf d), loadSeq := (s.parse.loadSeq + 1) % 256 } } })

/-- PARSE_PORT_CONFIG. -/
def execParsePortConfig (t : Nat) (c : Cmd) (s : State) : Host.Outcome State Fault Refusal :=
  let s := s.at_ t
  let x : ParsePort := { profile := c.u8 17, oddDrop := c.u8 18 = 1, hashSelect := c.u8 20 }
  .next (s.command 0x0401 c .any
    [s.ownErr c 1 (c.u8 16), at_ 17 (c.u8 17 < 16), at_ 18 (c.u8 18 ≤ 1), c.zeros 19 1, at_ 20 (c.u16 20 < 256),
     c.zeros 22 42]
    { s := { s with parse := { s.parse with ports := put s.parse.ports (c.u8 16) {} x } } })

/-- The key template of a tree image: entries until one of length 0, at most 32. -/
def templateOf (b : Bytes) : Nat → Nat → List KeyField
  | 0, _ => []
  | n + 1, o =>
    if byteAt b (o + 1) = 0 then []
    else { src := byteAt b o, len := byteAt b (o + 1), pos := leAt b (o + 2) 2 } :: templateOf b n (o + 4)

/-- The rule `i` of a tree image. -/
def treeRule (b : Bytes) (base kb i : Nat) : Rule :=
  let o := base + (16 + kb / 4) * i
  { number := leAt b o 4, result := leAt b (o + 4) 4, lo1 := leAt b (o + 8) 2, hi1 := leAt b (o + 10) 2,
    lo2 := leAt b (o + 12) 2, hi2 := leAt b (o + 14) 2, value := leAt b (o + 16) (kb / 8),
    mask := leAt b (o + 16 + kb / 8) (kb / 8) }

/-- Where the tree below node `i` first breaks R168: a node below `n` inner levels that is no leaf, or one whose children are not all
nodes of the image. -/
def treeDepthBad (b : Bytes) (base nodes : Nat) : Nat → Nat → Option Nat
  | 0, i => if byteAt b (base + 16 * i) = 1 then none else some (base + 16 * i)
  | n + 1, i =>
    let o := base + 16 * i
    if byteAt b o = 1 then none
    else if nodes < leAt b (o + 4) 4 + 2 ^ byteAt b (o + 1) then some o
    else (List.range (2 ^ byteAt b (o + 1))).findSome? fun k => treeDepthBad b base nodes n (leAt b (o + 4) 4 + k)

/-- The checks of a node of a tree image. -/
def treeNodeErr (b : Bytes) (base i : Nat) : Option Err :=
  let o := base + 16 * i
  firstErr [img o (byteAt b o ≤ 1), img (o + 1) (1 ≤ byteAt b (o + 1) && byteAt b (o + 1) ≤ (if byteAt b o = 0 then 8 else 16)),
    if byteAt b o = 1 then bufZeros b (o + 2) 2 else none, bufZeros b (o + 8) 8]

/-- The checks of a complete tree image (R167–R169). -/
def treeErrs (b : Bytes) : List (Option Err) :=
  let kb := leAt b 2 2
  let n := leAt b 8 4
  let nb := Config.treeNodes b
  let rb := Config.treeRules b
  [need (byteAt b 0 = 1) { status := .version, detail := byteAt b 0 }, img 1 (byteAt b 1 = 1),
   img 2 (8 ≤ kb && kb ≤ 512 && kb % 8 = 0), img 12 (leAt b 12 4 = b.length), img 20 (leAt b 20 4 + 4 ≤ b.length),
   bufZeros b 24 4, img 28 (leAt b 28 4 = crc32 (b.drop 32)),
   firstOf (fun f => img (leAt b 20 4) (f.len ≤ 16 && f.src + f.len ≤ 256 && f.pos + 8 * f.len ≤ kb)) (templateOf b 32 (leAt b 20 4)),
   firstOf (treeNodeErr b nb) (List.range n), (treeDepthBad b nb n 16 0).map badBuffer,
   firstOf (fun i => img (rb + (16 + kb / 4) * i) ((treeRule b rb kb i).number < 2097152)) (List.range (leAt b 4 4))]

/-- The tree of a complete image. -/
def treeOf (b : Bytes) (part : Nat) : Tree :=
  let kb := leAt b 2 2
  { live := true, partition := part, keyBits := kb, dflt := leAt b 16 4, template := templateOf b 32 (leAt b 20 4),
    rules := (List.range (leAt b 4 4)).map (treeRule b (Config.treeRules b) kb) }

/-- The chunk checks of a load (R175): the offset is 0 or the bytes already received for the same partition. -/
def chunkErr (c : Cmd) (staged : Bytes) (part : Nat) : Option Err :=
  at_ 32 (c.u32 32 = 0 || (c.u32 32 = staged.length && part = c.u16 30))

/-- The bytes staged after a chunk. -/
def chunked (c : Cmd) (staged : Bytes) (b : BufRead) : Bytes := (if c.u32 32 = 0 then [] else staged) ++ b.bytes c

/-- CLASS_TREE_LOAD (R169, R175). -/
def execClassTreeLoad (t : Nat) (c : Cmd) (b : BufRead) (s : State) : Host.Outcome State Fault Refusal :=
  let s := s.at_ t
  let k := c.u16 28
  let x := s.tree k
  let d := chunked c x.staged b
  let last := c.u8 36 = 1
  let n := leAt d 4 4
  let others := s.rulesTotal - x.stagedRules
  let mine := s.rulesUsed c.domain - (if s.owner 3 x.stagedPart = c.domain then x.stagedRules else 0)
  let staged := { x with staged := d, stagedPart := c.u16 30, stagedRules := n }
  .next (s.command 0x0402 c .any
    ([c.bufferErr, at_ 28 (k < 1024), need (!x.live || s.owner 3 x.partition = c.domain) denied, s.ownErr c 3 (c.u16 30),
      s.busyErr c, chunkErr c x.staged x.stagedPart, at_ 36 (c.u8 36 ≤ 1), c.zeros 37 27, b.err] ++
     (if last then treeErrs d else []) ++
     [need (others + n ≤ 2097152 && !(last && x.bankLost)) { status := .tableFull },
      need (0 < allowance s.parse.ruleAllow c.domain && mine + n ≤ allowance s.parse.ruleAllow c.domain) { status := .quota }])
    (if last then { s := s.setTree k (treeOf d (c.u16 30)) } else { s := s.setTree k staged, result := d.length }))

/-- CLASS_TREE_DELETE. -/
def execClassTreeDelete (t : Nat) (c : Cmd) (s : State) : Host.Outcome State Fault Refusal :=
  let s := s.at_ t
  let k := c.u16 16
  let x := s.tree k
  .next (s.command 0x0403 c .any
    [at_ 16 (k < 1024 && x.live), s.ownErr c 3 x.partition, s.busyErr c, c.zeros 18 46]
    { s := s.setTree k {} })

/-- The patterns of a list of records, with the byte at which the list breaks, if it does (R171 pattern record). -/
def patternsOf (b : Bytes) : Nat → Nat → List Pattern × Option Nat
  | 0, _ => ([], none)
  | fuel + 1, o =>
    if b.length ≤ o then ([], none)
    else
      let n := byteAt b (o + 2)
      let len := (8 + 2 * n + 7) / 8 * 8
      if n = 0 || 64 < n || 1 < byteAt b (o + 3) || 1023 < leAt b (o + 4) 2 || leAt b (o + 6) 2 < leAt b (o + 4) 2
          || 1023 < leAt b (o + 6) 2 || b.length < o + len then ([], some o)
      else
        let p : Pattern := { id := leAt b o 2, anchored := byteAt b (o + 3) = 1, minStart := leAt b (o + 4) 2,
                             maxStart := leAt b (o + 6) 2, bytes := slice b (o + 8) n, mask := slice b (o + 8 + n) n }
        let (t, e) := patternsOf b fuel (o + len)
        (p :: t, e)

/-- Insert a pattern by its id. -/
def insertPattern (p : Pattern) : List Pattern → List Pattern
  | [] => [p]
  | q :: t => if p.id < q.id then p :: q :: t else q :: insertPattern p t

/-- The ids of a list of patterns are all different. -/
def uniqueIds : List Pattern → Bool
  | [] => true
  | p :: t => t.all (fun q => q.id ≠ p.id) && uniqueIds t

/-- AUTO_SET_LOAD (R170, R175). -/
def execAutoSetLoad (t : Nat) (c : Cmd) (b : BufRead) (s : State) : Host.Outcome State Fault Refusal :=
  let s := s.at_ t
  let k := c.u8 28
  let x := s.aset k
  let d := chunked c x.staged b
  let last := c.u8 36 = 1
  let (ps, e) := patternsOf d d.length 0
  let n := ps.length
  let others := s.patternsTotal - x.stagedCount
  let mine := s.patternsUsed c.domain - (if s.owner 3 x.stagedPart = c.domain then x.stagedCount else 0)
  let staged := { x with staged := d, stagedPart := c.u16 30, stagedCount := n }
  let new : AutoSet := { live := true, partition := c.u16 30, patterns := ps.foldr insertPattern [] }
  .next (s.command 0x0404 c .any
    ([c.bufferErr, need (!x.live || s.owner 3 x.partition = c.domain) denied, c.zeros 29 1, s.ownErr c 3 (c.u16 30),
      s.busyErr c, chunkErr c x.staged x.stagedPart, at_ 36 (c.u8 36 ≤ 1), c.zeros 37 27, b.err] ++
     (if last then [need e.isNone (badBuffer (e.getD 0)), img 0 (uniqueIds ps && n ≤ 16384)] else []) ++
     [need (others + n ≤ 65536) { status := .tableFull },
      need (0 < allowance s.parse.patternAllow c.domain && mine + n ≤ allowance s.parse.patternAllow c.domain)
        { status := .quota }])
    (if last then { s := s.setAset k new } else { s := s.setAset k staged, result := d.length }))

/-- AUTO_SET_DELETE. -/
def execAutoSetDelete (t : Nat) (c : Cmd) (s : State) : Host.Outcome State Fault Refusal :=
  let s := s.at_ t
  let k := c.u8 16
  let x := s.aset k
  .next (s.command 0x0405 c .any [at_ 16 x.live, s.ownErr c 3 x.partition, s.busyErr c, c.zeros 17 47] { s := s.setAset k {} })

/-- CLASS_LIMIT (R176). -/
def execClassLimit (t : Nat) (c : Cmd) (s : State) : Host.Outcome State Fault Refusal :=
  let s := s.at_ t
  let d := c.u8 16
  .next (s.command 0x0406 c .d0 [at_ 16 (d < 16), c.zeros 17 3, c.zeros 28 36]
    { s := { s with parse := { s.parse with ruleAllow := setAllowance s.parse.ruleAllow d (c.u32 20),
                                            patternAllow := setAllowance s.parse.patternAllow d (c.u32 24) } } })

/-- PARSE_COUNTERS (R176). -/
def execParseCounters (t : Nat) (c : Cmd) (s : State) : Host.Outcome State Fault Refusal :=
  let s := s.at_ t
  let p := c.u8 16
  let b := (List.range 8).flatMap fun i => leBytes 8 (look s.parse.counters (p * 8 + i) 0)
  let cleared := { s with parse := { s.parse with counters := keepRows s.parse.counters fun k _ => k / 8 ≠ p } }
  .next (s.command 0x0407 c .any [c.needReply, s.ownErr c 1 p, at_ 17 (c.u8 17 ≤ 1), c.zeros 18 46]
    { s := if bit (c.u8 17) 0 then cleared else s, result := 64, long := b })

end Sys2Proof.Machine
end

