-- ==== Sys2Proof/Machine/Tables.lean ====
section
/-! DEFINITION. Forwarding tables: longest-prefix match, exact match and label tables, ageing, learning, table DMA, and
their commands (08_forwarding_tables.md). -/

namespace Sys2Proof.Machine

/-! ### Access -/

/-- A table. -/
def State.table (s : State) (k : Nat) : Table := look s.tables.tables k {}
/-- Set a table. -/
def State.setTable (s : State) (k : Nat) (x : Table) : State :=
  { s with tables := { s.tables with tables := put s.tables.tables k {} x } }
/-- The generation of a table id (R200). -/
def State.tableGen (s : State) (k : Nat) : Nat := look s.tables.gens k 0
/-- The learn settings of a port. -/
def State.learnPort (s : State) (p : Nat) : LearnPort := look s.tables.ports p {}
/-- The owner of a table: its partition's (R91). -/
def State.tableOwner (s : State) (k : Nat) : Nat := s.owner 3 (s.table k).partition
/-- The table exists and belongs to the domain (R177, R178). -/
def State.ownsTable (s : State) (d k : Nat) : Bool := (s.table k).live && s.tableOwner k = d

/-- TIME in whole milliseconds modulo 2^32 (R192). -/
def State.nowMs (s : State) : Nat := s.timeNow / (1000000 * 2 ^ 40) % 2 ^ 32

/-! ### Buckets (R184–R188) -/

/-- The table's buckets. -/
def Table.buckets (t : Table) : Nat := t.size / 4
/-- The bytes of a key. -/
def Table.keyBytes (t : Table) : Nat := (t.keyBits + 7) / 8
/-- CRC-32C with an initial value. -/
def crc32cFrom (init : Nat) (b : Bytes) : Nat := (b.foldl (crc32Byte 0x82F63B78) init) ^^^ 0xFFFFFFFF

/-- The candidate buckets of a key (R184). -/
def Table.cands (t : Table) (key : Nat) : Nat × Nat :=
  let b := leBytes t.keyBytes key
  let b0 := crc32cFrom 0xFFFFFFFF b % t.buckets
  let b1 := crc32cFrom 0x5A5A5A5A b % t.buckets
  (b0, if b1 = b0 then b0 ^^^ 1 else b1)

/-- An entry at a place. -/
def Table.entry (t : Table) (p : Nat) : TEntry := look t.entries p {}
/-- Set the entry at a place. -/
def Table.setEntry (t : Table) (p : Nat) (e : TEntry) : Table := { t with entries := put t.entries p {} e }
/-- The places of the stash, lowest first. -/
def Table.stash (t : Table) : List Nat := (List.range 64).map (t.size + ·)
/-- The places of a bucket. -/
def slotsOf (b : Nat) : List Nat := (List.range 4).map (4 * b + ·)
/-- Where a lookup of a key reads (R185). -/
def Table.places (t : Table) (key : Nat) : List Nat :=
  slotsOf (t.cands key).1 ++ slotsOf (t.cands key).2 ++ t.stash

/-- The place of a key. -/
def Table.find (t : Table) (key : Nat) : Option Nat :=
  (t.places key).find? fun p => (t.entry p).valid && (t.entry p).key == key

/-- The lowest free place of a list. -/
def Table.free (t : Table) (ps : List Nat) : Option Nat := ps.find? fun p => !(t.entry p).valid

/-- The other candidate bucket of the entry at a place (R186: alt). -/
def Table.alt (t : Table) (p : Nat) : Nat :=
  let c := t.cands (t.entry p).key
  if c.1 = p / 4 then c.2 else c.1

/-- A move path from bucket `b` (R186): each step is the place moved from and the bucket moved to. -/
def Table.movePath (t : Table) : Nat → List (Nat × Nat) → Nat → List Nat → Option (List (Nat × Nat))
  | 0, _, _, _ => none
  | n + 1, path, b, visited =>
    match (slotsOf b).find? fun p => (t.free (slotsOf (t.alt p))).isSome with
    | some p => some (path ++ [(p, t.alt p)])
    | none =>
      let k := path.length % 4
      match ((List.range 4).map fun i => 4 * b + (k + i) % 4).find? fun p => !visited.contains (t.alt p) with
      | none => none
      | some p => t.movePath n (path ++ [(p, t.alt p)]) (t.alt p) (visited ++ [t.alt p])

/-- Where an insert of an absent key goes (R186): the moves, in path order, and the place. -/
def Table.plan (t : Table) (key : Nat) : Option (List (Nat × Nat) × Nat) :=
  let c := t.cands key
  match t.free (slotsOf c.1 ++ slotsOf c.2) with
  | some p => some ([], p)
  | none =>
    match t.movePath 8 [] c.1 [c.1, c.2] with
    | some path => (path.head?).map fun m => (path, m.1)
    | none => (t.free t.stash).map fun p => ([], p)

/-- The entry at `p` moves to the free place `f` (R187), from the copy of it that is good; the move is numbered, for a walk that it may overtake (R200). -/
def Table.moveEntry (t : Table) (p f : Nat) : Table :=
  let bad := if t.dying.contains p then [f] else []
  { (t.setEntry f (t.entry p)).setEntry p {} with
    moves := t.moves + 1, movedAt := put (drop t.movedAt p) f 0 (t.moves + 1), badPlaces := t.badPlaces.erase p ++ bad,
    dying := t.dying.erase p ++ bad }

/-- One move of a path (R187). -/
def Table.move (t : Table) (m : Nat × Nat) : Table :=
  match t.free (slotsOf m.2) with
  | none => t
  | some f => t.moveEntry m.1 f

/-- The moves of a plan, last first, and the new entry (R186). -/
def Table.execute (t : Table) (plan : List (Nat × Nat) × Nat) (e : TEntry) : Table :=
  (plan.1.reverse.foldl Table.move t).setEntry plan.2 e

/-- The buckets that a plan writes. -/
def planBuckets (plan : List (Nat × Nat) × Nat) : List Nat :=
  plan.2 / 4 :: plan.1.flatMap fun m => [m.1 / 4, m.2]

/-- The lowest stash entry that has the bucket of the place `p` as a candidate (R188); `up` says which buckets can be read (R197). -/
def Table.refill (t : Table) (up : Nat → Bool) (p : Nat) : Option Nat :=
  if t.size ≤ p then none
  else t.stash.find? fun q => (t.entry q).valid && up (q / 4) &&
    ((t.cands (t.entry q).key).1 == p / 4 || (t.cands (t.entry q).key).2 == p / 4)

/-- Take an entry out; the lowest stash entry that has the bucket as a candidate takes its place (R188). -/
def Table.remove (t : Table) (up : Nat → Bool) (p : Nat) : Table :=
  let t := { t.setEntry p {} with badPlaces := t.badPlaces.erase p, dying := t.dying.erase p, movedAt := drop t.movedAt p }
  match t.refill up p with
  | none => t
  | some q => t.moveEntry q p

/-- The buckets that a removal at `p` writes. -/
def Table.removeBuckets (t : Table) (up : Nat → Bool) (p : Nat) : List Nat :=
  p / 4 :: (match t.refill up p with
    | none => []
    | some q => [q / 4])

/-! ### Where the copies lie (R196, R197, R441) -/

/-- The stack of a bucket's first copy; a stash pseudo-bucket `B + k` lies in stack `k mod 4`. -/
def Table.stackOf (t : Table) (b : Nat) : Nat := if t.buckets ≤ b then (b - t.buckets) % 4 else b % 4

/-- A bucket can be read and written, through its one update port (R189): a copy of it is in service. -/
def State.bucketUp (s : State) (t : Table) (b : Nat) : Bool :=
  if t.sram then !t.bankMiss
  else s.healthy 9 (t.stackOf b) || (t.mirror && s.healthy 9 ((t.stackOf b + 2) % 4))

/-- The record of a bucket's stack (R78). -/
def State.stackSeq (s : State) (t : Table) (b : Nat) : Nat :=
  if s.isOut 9 (t.stackOf b) then s.seqOf 9 (t.stackOf b) else s.seqOf 9 ((t.stackOf b + 2) % 4)

/-- The newest record of a table SRAM bank: which bank held a table is free (R447). -/
def State.bankSeq (s : State) : Nat :=
  match s.units.log.reverse.find? fun r => r.kind = 5 with
  | some r => r.seq
  | none => 0

/-- A key's place, when a lookup or search would find it there (R196, R197). -/
def State.findKey (s : State) (t : Table) (key : Nat) : Option Nat :=
  match t.find key with
  | none => none
  | some p => if s.bucketUp t (p / 4) && !t.badPlaces.contains p then some p else none

/-- The bucket is locked by the table DMA (R198). -/
def State.lockedBucket (s : State) (k b : Nat) : Bool :=
  match s.tables.dma with
  | none => false
  | some d => d.table = k && d.first + d.moved = b

/-- Where a command or an engine finds the entry of a key: an entry of a bucket that is lost reads as a miss (R197). -/
def State.findUp (s : State) (t : Table) (key : Nat) : Option Nat :=
  match t.find key with
  | none => none
  | some p => if s.bucketUp t (p / 4) then some p else none

/-- An insert, update or learn of the key must wait: a bucket it writes is locked (R198). -/
def State.keyWaits (s : State) (k key : Nat) : Bool :=
  let t := s.table k
  (match t.find key, t.plan key with
    | some p, _ => [p / 4]
    | none, some plan => planBuckets plan
    | none, none => []).any (s.lockedBucket k)

/-- A removal at a place must wait: a bucket it writes is locked (R198). -/
def State.removeWaits (s : State) (k p : Nat) : Bool :=
  ((s.table k).removeBuckets (s.bucketUp (s.table k)) p).any (s.lockedBucket k)

/-! ### Charges (R195) -/

/-- The charge of a port equals its limit. -/
def LearnPort.atLimit (p : LearnPort) : Bool := p.charge = p.limit

/-- Set the learn settings of a port; LEARN_LIMIT is posted when at_limit rises. -/
def State.setLearnPort (s : State) (p : Nat) (x : LearnPort) : State :=
  let was := (s.learnPort p).atLimit
  let s := { s with tables := { s.tables with ports := put s.tables.ports p {} x } }
  if !was && x.atLimit then s.eventTo (s.owner 1 p) 0x05F1 p x.charge else s

/-- An entry is charged to its port. -/
def TEntry.charged (e : TEntry) : Bool := e.valid && e.learned && !e.isStatic

/-- The charge of a port for some entries. -/
def chargeOf (es : List TEntry) (port : Nat) : Nat := (es.filter fun e => e.charged && e.port = port).length

/-- One write replaces the entries `old` by the entries `new`: each port whose charge this changes has its new charge at once. -/
def State.recharge (s : State) (old new : List TEntry) : State :=
  each (fun p s =>
    let x := s.learnPort p
    if chargeOf old p = chargeOf new p then s else s.setLearnPort p { x with charge := x.charge + chargeOf new p - chargeOf old p })
    ((old ++ new).map TEntry.port).eraseDups s

/-- Remove the entry at a place of a table and release its charge. -/
def State.removeEntry (s : State) (k p : Nat) : State :=
  let t := s.table k
  (s.setTable k (t.remove (s.bucketUp t) p)).recharge [t.entry p] []

/-- Invalidate the bad entries of a table whose bucket lock has cleared (R196, R198). -/
def State.settleDying (s : State) (k : Nat) : State :=
  each (fun p s => if s.removeWaits k p then s else s.removeEntry k p) (s.table k).dying s

/-- A new or rewritten entry starts its age again (R191, R192). -/
def TEntry.fresh (e : TEntry) (s : State) : TEntry := { e with hit := true, once := false, stamp := s.nowMs }

/-- Write an entry over the one at a place, moving its charge. -/
def State.rewriteEntry (s : State) (k p : Nat) (e : TEntry) : State :=
  let t := s.table k
  (s.setTable k { t.setEntry p (e.fresh s) with badPlaces := t.badPlaces.erase p, dying := t.dying.erase p }).recharge
    [t.entry p] [e]

/-! ### Longest-prefix match (R180–R183) -/

/-- The bits of an address that a prefix of the length covers agree. -/
def Route.covers (r : Route) (a : Nat) : Bool := a / 2 ^ (128 - r.len) = r.pfx / 2 ^ (128 - r.len)

/-- The longest of the routes that cover an address. -/
def bestRoute (a : Nat) : List Route → Option Route
  | [] => none
  | r :: t =>
    match bestRoute a t with
    | none => if r.covers a then some r else none
    | some b => if r.covers a && b.len < r.len then some r else some b

/-- The leaves that a lookup of the route reads (R181): one, or two for an IPv6 route longer than /64. -/
def Route.leaves (r : Route) (kind : Nat) : List Nat :=
  (if kind = 1 && 64 < r.len then [Config.leafOf kind (r.pfx / 2 ^ 64 * 2 ^ 64) 64] else []) ++ [Config.leafOf kind r.pfx r.len]

/-- The route needs a leaf in S0–S3, of which none is in service (R32). -/
def State.needsLeaf (s : State) (t : Table) (r : Route) : Bool :=
  (List.range 4).all (fun i => s.isOut 9 i) && !Config.leafInSram t.kind r.pfx r.len

/-- The routes that lookups can read: those not under a damaged part of the trie (R196), and with no stack only those whose leaves
fit in table SRAM (R32). -/
def State.routesOf (s : State) (t : Table) : List Route :=
  if t.bankMiss then []
  else t.routes.filter fun r => !(r.leaves t.kind).any t.badLeaves.contains && !s.needsLeaf t r

/-- The route units of a route (R180). -/
def routeUnits (kind len : Nat) : Nat := if kind = 0 then 1 else if len ≤ 64 then 2 else 4
/-- The units charged to a table. -/
def Table.units (t : Table) : Nat := (t.routes.map fun r => routeUnits t.kind r.len).sum
/-- The capacity charged to a table (R177, R197). -/
def Table.cost (t : Table) : Nat := if t.kind < 2 then 0 else if t.mirror then 2 * t.size else t.size

/-- The sum of a number over the tables that `p` holds of. -/
def State.sumTables (s : State) (p : Nat → Table → Bool) (f : Table → Nat) : Nat :=
  ((keepRows s.tables.tables fun k t => t.live && p k t).map fun r => f r.2).sum

/-- The allowance of a domain (R202): unlimited for D0 at reset. -/
def tableAllow (m : Sparse Nat) (d : Nat) : Nat := look m d (if d = 0 then 2 ^ 40 else 0)

/-- The position of a route in the walk order: by address, then by length. -/
def Route.before (a b : Route) : Bool := a.pfx < b.pfx || (a.pfx = b.pfx && a.len < b.len)

/-- Add a route in its place, or replace its result (R180). -/
def addRoute (r : Route) : List Route → List Route
  | [] => [r]
  | x :: t => if x.pfx = r.pfx && x.len = r.len then r :: t else if x.before r then x :: addRoute r t else r :: x :: t

/-- The route is in the table. -/
def Table.hasRoute (t : Table) (pfx len : Nat) : Bool := t.routes.any fun r => r.pfx = pfx && r.len = len

/-- A route change rewrites a leaf: its cached copies go (R182). -/
def State.dropLeaf (s : State) (k leaf : Nat) : State :=
  { s with tables := { s.tables with leafCache := s.tables.leafCache.filter fun x => !(x.2.1 = k && x.2.2 = leaf) } }

/-- A lookup that may fill brings its leaf into the cache (R182); which leaf a full cache gives up is free. -/
def State.fillLeaf (s : State) (d k leaf : Nat) : State :=
  let l := s.tables.leafCache
  if l.contains (d, k, leaf) then s
  else if l.length < 32768 then { s with tables := { s.tables with leafCache := l ++ [(d, k, leaf)] } }
  else
    let v := Config.freeValue s.free % l.length
    { s.drawn with tables := { s.tables with leafCache := l.eraseIdx v ++ [(d, k, leaf)] } }

/-! ### Lookups from microcode (R178, R179) -/

/-- A lookup response (R178). -/
structure LookupResult where
  status : Nat
  info : Nat := 0
  handle : Nat := 0
  result : Nat := 0
  deriving DecidableEq, Repr

/-- The handle of a place. -/
def Table.handleOf (t : Table) (p : Nat) : Nat := if t.size ≤ p then 0xFF000000 + (p - t.size) else p

/-- The answer of a lookup under a domain. -/
def State.lookupTable (s : State) (d k : Nat) (key : Bytes) : LookupResult :=
  let t := s.table k
  if !(k < 1024 && s.ownsTable d k) then { status := 3 }
  else if t.kind < 2 then
    let a := if t.kind = 0 then beAt key 0 4 * 2 ^ 96 else beAt key 0 16
    match bestRoute a (s.routesOf t) with
    | none => { status := 1 }
    | some r => { status := 0, info := r.len, result := r.result }
  else
    let key := leAt key 0 16 % 2 ^ t.keyBits
    match s.findKey t key with
    | none => { status := 1 }
    | some p => let e := t.entry p; { status := 0, info := e.port, handle := t.handleOf p, result := e.result }

/-- The leaves of the route that an LPM lookup takes, and whether it reads them from S0–S3 or a cache of them (R181). -/
def State.leafRead (s : State) (k : Nat) (key : Bytes) : List Nat × Bool :=
  let t := s.table k
  match if t.kind < 2 then bestRoute (if t.kind = 0 then beAt key 0 4 * 2 ^ 96 else beAt key 0 16) (s.routesOf t) else none with
  | none => ([], false)
  | some r => (r.leaves t.kind, !Config.leafInSram t.kind r.pfx r.len)

/-- Log an error of a table and post TABLE_ERROR (R196). -/
def State.tableError (s : State) (k stack slot bucket : Nat) (repaired : Bool) : State :=
  let t := s.table k
  let n := t.errors + (if repaired then 0 else 1)
  (s.setTable k { t with errValid := true, errRepaired := repaired, errStack := stack, errSlot := slot,
                         errBucket := bucket, errors := n }).eventTo (s.tableOwner k) 0x05F0
    (k + 1024 * b2n repaired + 2048 * b2n t.mirror) n

/-- A lookup meets a bad entry, node or leaf (R196). -/
def State.entryError (s : State) (k : Nat) (e : EntryError) : State :=
  let t := s.table k
  if !t.live then s
  else if t.kind < 2 then
    (s.setTable k { t with badLeaves := (t.badLeaves ++ e.bucket :: e.leaves).eraseDups }).tableError k 0 e.slot e.bucket false
  else
    let p := 4 * e.bucket + e.slot
    let first := t.stackOf e.bucket
    if e.firstBad then
      if t.mirror && !e.secondBad then
        (s.setTable k { t with badPlaces := (t.badPlaces ++ [p]).eraseDups }).tableError k first e.slot e.bucket false
      else if s.removeWaits k p then
        (s.setTable k { t with badPlaces := (t.badPlaces ++ [p]).eraseDups, dying := (t.dying ++ [p]).eraseDups }).tableError
          k first e.slot e.bucket false
      else (s.removeEntry k p).tableError k first e.slot e.bucket false
    else s

/-- MIRROR_REPAIR (R196): the update port rewrites the bad copy; repaired = 1. -/
def execMirrorRepair (t table bucket slot : Nat) (s : State) : Host.Outcome State Fault Refusal :=
  let s := s.at_ t
  let x := s.table table
  let p := 4 * bucket + slot
  .next (if x.live && x.badPlaces.contains p && !x.dying.contains p && !s.lockedBucket table bucket then
      (s.setTable table { x with badPlaces := x.badPlaces.erase p }).tableError table (x.stackOf bucket) slot bucket true
    else s)

/-- LPM_REBUILD (R196): the damaged parts of the trie are rebuilt. -/
def execLpmRebuild (t table : Nat) (s : State) : Host.Outcome State Fault Refusal :=
  let s := s.at_ t
  let x := s.table table
  .next (match x.badLeaves with
    | [] => s
    | l :: _ => if x.live then (s.setTable table { x with badLeaves := [] }).tableError table 0 0 l true else s)

/-! ### Hit writes, ageing (R190–R193) -/

/-- The hit write on an entry (R190, R192). -/
def TEntry.hitBy (e : TEntry) (s : State) (mode : Nat) : TEntry :=
  if mode = 2 then { e with stamp := s.nowMs } else { e with hit := true }

/-- A confirmed hit write, on its way to the update port. -/
def State.sendHit (s : State) (k key handle : Nat) : State :=
  { s with tables := { s.tables with hits := s.tables.hits ++
      [{ table := k, gen := s.tableGen k, key := key, handle := handle }] } }

/-- The place that a hit write's handle names. -/
def Table.placeOf (t : Table) (handle : Nat) : Nat := if 0xFF000000 ≤ handle then t.size + (handle - 0xFF000000) else handle

/-- The place that a hit write applies to (R190). -/
def Table.hitPlace (t : Table) (h : HitWrite) : Option Nat :=
  let p := t.placeOf h.handle
  if (t.entry p).valid && (t.entry p).key = h.key then some p else t.find h.key

/-- A hit write at the update port. -/
def State.applyHit (s : State) (h : HitWrite) : State :=
  let t := s.table h.table
  match if t.live && s.tableGen h.table = h.gen then t.hitPlace h else none with
  | none => s
  | some p => s.setTable h.table (t.setEntry p ((t.entry p).hitBy s t.age.mode))

/-- A hit write must wait: its bucket is locked (R198). -/
def State.hitWaits (s : State) (h : HitWrite) : Bool :=
  match (s.table h.table).hitPlace h with
  | none => false
  | some p => s.lockedBucket h.table (p / 4)

/-- HIT_WRITE (R190): the oldest hit write reaches the update port; it waits while its bucket is locked (R198). -/
def execHitWrite (t : Nat) (s : State) : Host.Outcome State Fault Refusal :=
  let s := s.at_ t
  .next (match s.tables.hits with
    | [] => s
    | h :: r =>
      if s.hitWaits h then s
      else ({ s with tables := { s.tables with hits := r } }).applyHit h)

/-- The sweeper's period of a table, in root cycles. -/
def Table.periodLen (t : Table) : Nat := ms t.age.sweepMs

/-- A table whose period is over begins the next one; a TABLE_AGE that waited takes effect then (R191). -/
def Table.turn (t : Table) : Table :=
  let start := t.period + t.periodLen
  match t.nextAge with
  | some a => { t with age := a, nextAge := none, period := start, swept := 0 }
  | none => { t with period := start, swept := 0 }

/-- The table as it stands for a visit now: all pseudo-buckets visited, the next period begins when its time has come. -/
def Table.settle (t : Table) (now : Nat) : Table :=
  if t.age.mode ≠ 0 && t.buckets + 16 ≤ t.swept && t.period + t.periodLen ≤ now then t.turn else t

/-- The sweeper acts on one entry (R191, R192). -/
def State.ageEntry (k p : Nat) (s : State) : State :=
  let t := s.table k
  let e := t.entry p
  let del (stampMode : Bool) : State :=
    { s with tables := { s.tables with deletes := s.tables.deletes ++
        [{ table := k, gen := s.tableGen k, place := p, key := e.key, stampMode := stampMode, stamp := e.stamp }] } }
  if !e.valid || e.isStatic then s
  else if t.age.mode = 1 then
    if e.hit then s.setTable k (t.setEntry p { e with hit := false, once := false })
    else if !e.once then s.setTable k (t.setEntry p { e with once := true })
    else del false
  else if t.age.mode = 2 then
    if t.age.limitMs ≤ (s.nowMs + 2 ^ 32 - e.stamp) % 2 ^ 32 then del true else s
  else s

/-- AGE_SWEEP_VISIT (R191): the sweeper visits its next pseudo-bucket, no earlier than its place in the period and not while the
bucket is locked (R198). -/
def execAgeSweepVisit (t table bucket : Nat) (s : State) : Host.Outcome State Fault Refusal :=
  let s := s.at_ t
  let x := (s.table table).settle s.now
  .next (if x.live && x.kind = 2 && x.age.mode ≠ 0 && bucket = x.swept && bucket < x.buckets + 16 &&
        x.period + bucket * x.periodLen / (x.buckets + 16) ≤ s.now && !s.lockedBucket table bucket then
      let s1 := s.setTable table { x with swept := bucket + 1 }
      each (State.ageEntry table) (slotsOf bucket) s1
    else s)

/-! ### Learning (R194, R195) -/

/-- A learn request enters the queue, or is dropped and counted when it is full (R194, R431). -/
def State.sendLearn (s : State) (r : LearnReq) : State :=
  let s := s.countDomain r.domain 7
  if s.tables.learns.length < 4096 then { s with tables := { s.tables with learns := s.tables.learns ++ [r] } }
  else s.countDomain r.domain 8

/-- A learn is refused at the limit (R195). -/
def State.excess (s : State) (p : Nat) : State := s.setLearnPort p { s.learnPort p with excess := (s.learnPort p).excess + 1 }

/-- The learn engine carries out a request. -/
def State.learn (s : State) (r : LearnReq) : State :=
  let t := s.table r.table
  let full := !decide ((s.learnPort r.port).charge < (s.learnPort r.port).limit)
  if !(t.live && 2 ≤ t.kind && t.learn && s.tableOwner r.table = r.domain) then s
  else
    let key := r.key % 2 ^ t.keyBits
    match t.find key with
    | some p =>
      let e := t.entry p
      if e.isStatic || !s.bucketUp t (p / 4) then s
      else if e.port ≠ r.port && full then s.excess r.port
      else s.rewriteEntry r.table p { e with result := r.result, port := r.port }
    | none =>
      if full then s.excess r.port
      else
        match t.plan key with
        | none => s
        | some plan =>
          if !(planBuckets plan).all (s.bucketUp t) || t.bankLost then s
          else
            let e := ({ valid := true, key := key, result := r.result, port := r.port, learned := true } : TEntry).fresh s
            (s.setTable r.table (t.execute plan e)).recharge [] [e]

/-- LEARN (R194): the learn engine takes the oldest request, unless its bucket is locked (R198). -/
def execLearn (t : Nat) (s : State) : Host.Outcome State Fault Refusal :=
  let s := s.at_ t
  .next (match s.tables.learns with
    | [] => s
    | r :: l =>
      if s.keyWaits r.table (r.key % 2 ^ (s.table r.table).keyBits) then s
      else ({ s with tables := { s.tables with learns := l } }).learn r)

/-! ### Commands -/

/-- The check of a table id (R177). -/
def State.tableErr (s : State) (c : Cmd) (off : Nat) : Option Err :=
  firstErr [Sys2Proof.at_ off (c.u16 off < 1024), need (s.ownsTable c.domain (c.u16 off)) denied]

/-- Another LPM table of the kind in the partition (R177). -/
def State.lpmTaken (s : State) (kind part : Nat) : Bool :=
  s.tables.tables.any fun r => r.2.live && r.2.kind = kind && r.2.partition = part

/-- The ageing fields at their bytes (R191, R192). -/
def ageErrs (c : Cmd) (mode sweep limit : Nat) : List (Option Err) :=
  [at_ sweep (if mode = 0 then c.u32 sweep = 0 else 10 ≤ c.u32 sweep && c.u32 sweep ≤ 3600000),
   at_ limit (if mode = 2 then 1000 ≤ c.u32 limit && c.u32 limit ≤ 86400000 else c.u32 limit = 0)]

/-- The number is one of the sizes of a kind 2 or 3 table (R177). -/
def tableSizeOk (n : Nat) (sram : Bool) : Bool :=
  ((List.range 13).any fun i => n = 2 ^ (12 + i)) && (!sram || n ≤ 65536)

/-- The cost of the table that TABLE_CREATE asks for. -/
def createCost (c : Cmd) : Nat := if c.u8 18 < 2 then 0 else if bit (c.u8 19) 0 then 2 * c.u32 24 else c.u32 24

/-- The checks of TABLE_CREATE. -/
def tableCreateErrs (c : Cmd) (s : State) : List (Option Err) :=
  let k := c.u16 16
  let kind := c.u8 18
  [at_ 16 (k < 1024 && !(s.table k).live), at_ 18 (kind < 4), at_ 19 (if kind < 2 then c.u8 19 = 0 else c.u8 19 < 8),
   s.ownErr c 3 (c.u16 20), at_ 18 (!(kind < 2 && s.lpmTaken kind (c.u16 20))),
   at_ 22 (if kind = 2 then 8 ≤ c.u16 22 && c.u16 22 ≤ 128 && c.u16 22 % 8 = 0 else c.u16 22 = 0),
   at_ 24 (if kind < 2 then c.u32 24 = 0 else tableSizeOk (c.u32 24) (bit (c.u8 19) 2)),
   at_ 28 (if kind = 2 then c.u8 28 ≤ 2 else c.u8 28 = 0), c.zeros 29 3] ++ ageErrs c (c.u8 28) 32 36 ++
  [c.zeros 40 24,
   need (s.sumTables (fun _ _ => true) Table.cost + createCost c ≤ 16777216) { status := .tableFull },
   need (!(2 ≤ kind && bit (c.u8 19) 1) ||
     s.sumTables (fun _ x => x.learn) Table.cost + createCost c ≤ 4194304) { status := .tableFull },
   need (createCost c = 0 || s.sumTables (fun i _ => s.tableOwner i = c.domain) Table.cost + createCost c
     ≤ tableAllow s.tables.entryAllow c.domain) { status := .quota }]

/-- The table that TABLE_CREATE makes. -/
def createdTable (c : Cmd) (now : Nat) : Table :=
  let kind := c.u8 18
  { live := true, kind := kind, mirror := bit (c.u8 19) 0, learn := bit (c.u8 19) 1, sram := bit (c.u8 19) 2,
    partition := c.u16 20, keyBits := if kind = 2 then c.u16 22 else if kind = 3 then 20 else 0, size := c.u32 24,
    age := { mode := c.u8 28, sweepMs := c.u32 32, limitMs := c.u32 36 }, period := now }

/-- TABLE_CREATE (R177). -/
def execTableCreate (t : Nat) (c : Cmd) (s : State) : Host.Outcome State Fault Refusal :=
  let s := s.at_ t
  let k := c.u16 16
  let s1 := s.setTable k (createdTable c s.now)
  .next (s.command 0x0500 c .any (tableCreateErrs c s)
    { s := { s1 with tables := { s1.tables with gens := put s1.tables.gens k 0 ((s.tableGen k + 1) % 2 ^ 32) } } })

/-- Destroy a table: its entries' charges are released. -/
def State.destroyTable (k : Nat) (s : State) : State :=
  (s.setTable k {}).recharge ((s.table k).entries.map fun r => r.2) []

/-- A bulk operation on the table runs. -/
def State.tableBusy (s : State) (k : Nat) : Bool :=
  match s.tables.dma with
  | none => false
  | some d => d.table = k

/-- TABLE_DESTROY. -/
def execTableDestroy (t : Nat) (c : Cmd) (s : State) : Host.Outcome State Fault Refusal :=
  let s := s.at_ t
  .next (s.command 0x0501 c .any
    [s.tableErr c 16, c.zeros 18 46, need (!s.tableBusy (c.u16 16)) { status := .busy }]
    { s := State.destroyTable (c.u16 16) s })

/-- The key of a command. -/
def cmdKey (c : Cmd) : Nat := c.field 32 16

/-- The checks that TABLE_INSERT and TABLE_UPDATE share. -/
def tableWriteErrs (c : Cmd) (s : State) : List (Option Err) :=
  let t := s.table (c.u16 16)
  [s.tableErr c 16, at_ 16 (2 ≤ t.kind), at_ 18 (c.u8 18 ≤ 1), s.ownErr c 1 (c.u8 19), c.zeros 20 4,
   at_ 32 (cmdKey c < 2 ^ t.keyBits), c.zeros 48 16]

/-- HW_FAULT where a bucket's stack is mapped out (R197). -/
def State.bucketsErr (s : State) (t : Table) (bs : List Nat) : Option Err :=
  match bs.find? fun b => !s.bucketUp t b with
  | none => none
  | some b => some { status := .hwFault, detail := if t.sram then s.bankSeq else s.stackSeq t b }

/-- Where an insert goes: over the entry that is there, or by a plan. -/
def tableInsertErrs (c : Cmd) (s : State) : List (Option Err) :=
  let t := s.table (c.u16 16)
  match t.find (cmdKey c) with
  | some p => [s.bucketsErr t [p / 4]]
  | none =>
    match t.plan (cmdKey c) with
    | none => [some { status := .tableFull }]
    | some plan => [need (!t.bankLost) { status := .tableFull }, s.bucketsErr t (planBuckets plan)]

/-- What TABLE_INSERT and TABLE_UPDATE write. -/
def tableWriteDone (c : Cmd) (s : State) : State :=
  let k := c.u16 16
  let t := s.table k
  let e : TEntry := { valid := true, key := cmdKey c, result := c.u64 24, port := c.u8 19, isStatic := c.u8 18 = 1 }
  match t.find (cmdKey c) with
  | some p => s.rewriteEntry k p { e with learned := (t.entry p).learned }
  | none =>
    match t.plan (cmdKey c) with
    | none => s
    | some plan => s.setTable k (t.execute plan (e.fresh s))

/-- TABLE_INSERT (R186): it waits while a bucket it may write is locked (R198). -/
def execTableInsert (t : Nat) (c : Cmd) (s : State) : Host.Outcome State Fault Refusal :=
  let s := s.at_ t
  .next (if s.keyWaits (c.u16 16) (cmdKey c) then s
    else s.command 0x0502 c .any (tableWriteErrs c s ++ tableInsertErrs c s) { s := tableWriteDone c s })

/-- TABLE_UPDATE: as TABLE_INSERT; the key must exist. -/
def execTableUpdate (t : Nat) (c : Cmd) (s : State) : Host.Outcome State Fault Refusal :=
  let s := s.at_ t
  .next (if s.keyWaits (c.u16 16) (cmdKey c) then s
    else s.command 0x0503 c .any (tableWriteErrs c s ++
        [need (s.findUp (s.table (c.u16 16)) (cmdKey c)).isSome { status := .notFound }] ++ tableInsertErrs c s)
      { s := tableWriteDone c s })

/-- TABLE_DELETE (R188). -/
def execTableDelete (t : Nat) (c : Cmd) (s : State) : Host.Outcome State Fault Refusal :=
  let s := s.at_ t
  let k := c.u16 16
  let x := s.table k
  let p := s.findUp x (cmdKey c)
  .next (if p.any (s.removeWaits k) then s
    else s.command 0x0504 c .any
      [s.tableErr c 16, at_ 16 (2 ≤ x.kind), c.zeros 18 14, at_ 32 (cmdKey c < 2 ^ x.keyBits), c.zeros 48 16,
       need p.isSome { status := .notFound }]
      { s := s.removeEntry k (p.getD 0) })

/-- CRC-8 of an entry (R199): polynomial x^8 + x^2 + x + 1, most significant bit first. -/
def crc8 (b : Bytes) : Nat :=
  b.foldl (fun c x => (List.range 8).foldl (fun c _ => if bit c 7 then (2 * c % 256) ^^^ 7 else 2 * c) (c ^^^ x.toNat)) 0

/-- The 32 bytes of an entry (R199). -/
def TEntry.bytes (e : TEntry) : Bytes :=
  let body := leBytes 1 e.port ++ leBytes 1 0 ++ leBytes 4 e.stamp ++ leBytes 8 e.result ++ leBytes 16 e.key
  if e.valid then
    leBytes 1 (1 + 2 * b2n e.hit + 4 * b2n e.once + 8 * b2n e.isStatic + 16 * b2n e.learned) ++ leBytes 1 (crc8 body) ++ body
  else List.replicate 32 0

/-- The 24 bytes of a route record. -/
def Route.bytes (r : Route) : Bytes := beBytes 16 r.pfx ++ leBytes 1 r.len ++ leBytes 3 0 ++ leBytes 4 r.result

/-- TABLE_SEARCH: the entry, or the route record of the longest match. -/
def execTableSearch (t : Nat) (c : Cmd) (s : State) : Host.Outcome State Fault Refusal :=
  let s := s.at_ t
  let x := s.table (c.u16 16)
  let raw := slice c.params 16 16
  let route := bestRoute (if x.kind = 0 then beAt raw 0 4 * 2 ^ 96 else beAt raw 0 16) (s.routesOf x)
  let place := s.findKey x (cmdKey c)
  .next (s.command 0x0505 c .any
    [c.needReply, s.tableErr c 16, c.zeros 18 14,
     (if x.kind = 0 then c.zeros 36 12 else if x.kind = 1 then none else at_ 32 (cmdKey c < 2 ^ x.keyBits)), c.zeros 48 16,
     need (if x.kind < 2 then route.isSome else place.isSome) { status := .notFound }]
    { s := s, result := if x.kind < 2 then 24 else 32,
      long := if x.kind < 2 then (match route with
          | some r => r.bytes
          | none => [])
        else (x.entry (place.getD 0)).bytes })

/-- The next cursor and the records of a walk of a hash table (R200); the buckets that are lost are passed over (R197). A round visits the places in order; entries that have moved
since a round began are visited by another, so none that stays in the table is passed over. Cursor bytes 4–7 hold the place to go on
from, 8–15 the least move number that the round visits, 16–23 the number of moves when it began. -/
def Table.walkEntries (t : Table) (up : Nat → Bool) (gen place since start n : Nat) : Bytes × List Bytes :=
  let l := (t.entries.filter fun r => place ≤ r.1 && r.2.valid && up (r.1 / 4) && since ≤ look t.movedAt r.1 0).take (n + 1)
  let again := t.entries.any fun r => r.2.valid && up (r.1 / 4) && start < look t.movedAt r.1 0
  ((match l[n]? with
    | some r => leBytes 4 gen ++ leBytes 4 r.1 ++ leBytes 8 since ++ leBytes 8 start
    | none => if again then leBytes 4 gen ++ leBytes 4 0 ++ leBytes 8 (start + 1) ++ leBytes 8 t.moves else List.replicate 24 0),
   (l.take n).map fun r => r.2.bytes)

/-- The same of an LPM table: bytes 4–20 hold the route to go on from. -/
def Table.walkRoutes (t : Table) (gen : Nat) (start : Option Route) (n : Nat) : Bytes × List Bytes :=
  let l := (t.routes.filter fun r => match start with
    | none => true
    | some x => !r.before x).take (n + 1)
  ((match l[n]? with
    | some r => leBytes 4 gen ++ beBytes 16 r.pfx ++ leBytes 1 r.len ++ leBytes 3 1
    | none => List.replicate 24 0),
   (l.take n).map Route.bytes)

/-- The walk that TABLE_NEXT makes. -/
def tableWalk (c : Cmd) (s : State) : Bytes × List Bytes :=
  let k := c.u16 16
  let t := s.table k
  let fresh := (slice c.params 8 24).all (· = 0)
  if t.kind < 2 then
    t.walkRoutes (s.tableGen k)
      (if fresh then none else some { pfx := beAt c.params 12 16, len := leAt c.params 28 1, result := 0 }) (c.u8 18)
  else if fresh then t.walkEntries (s.bucketUp t) (s.tableGen k) 0 0 t.moves (c.u8 18)
  else t.walkEntries (s.bucketUp t) (s.tableGen k) (c.u32 28) (c.u64 32) (c.u64 40) (c.u8 18)

/-- TABLE_NEXT (R200): a cursor of an earlier generation is STALE. -/
def execTableNext (t : Nat) (c : Cmd) (s : State) : Host.Outcome State Fault Refusal :=
  let s := s.at_ t
  let w := tableWalk c s
  let fresh := (slice c.params 8 24).all (· = 0)
  .next (s.command 0x0506 c .any
    [c.needReply, s.tableErr c 16, at_ 18 (1 ≤ c.u8 18 && c.u8 18 ≤ 64), c.zeros 19 5, c.zeros 48 16,
     need (fresh || c.u32 24 = s.tableGen (c.u16 16)) { status := .stale }]
    { s := s, result := w.2.length, long := w.1 ++ List.replicate 8 0 ++ w.2.flatten })

/-- Flush the entry of a key (R201). -/
def State.flushKey (k key : Nat) (s : State) : State :=
  match (s.table k).find key with
  | some p => s.removeEntry k p
  | none => s

/-- TABLE_FLUSH_PORT (R201). -/
def execTableFlushPort (t : Nat) (c : Cmd) (s : State) : Host.Outcome State Fault Refusal :=
  let s := s.at_ t
  let k := c.u16 16
  let x := s.table k
  let all := c.u8 19 = 1
  let goes (e : TEntry) : Bool := e.valid && e.port = c.u8 18 && (all || e.learned)
  let ps := (x.entries.filter fun r => goes r.2 && s.bucketUp x (r.1 / 4)).map fun r => r.2.key
  .next (if s.tableBusy k then s
    else s.command 0x0507 c .any
      [s.tableErr c 16, at_ 16 (2 ≤ x.kind), s.ownErr c 1 (c.u8 18), at_ 19 (c.u8 19 ≤ 1), c.zeros 20 44]
      { s := each (State.flushKey k) ps s, result := ps.length })

/-! ### Table DMA (R198, R199) -/

/-- The checks of TABLE_DMA. -/
def tableDmaErrs (c : Cmd) (b : BufRead) (s : State) : List (Option Err) :=
  let k := c.u16 28
  let t := s.table k
  [c.bufferErr, at_ 24 (c.u32 24 = c.u32 36 * 144), s.tableErr c 28, at_ 28 (2 ≤ t.kind), at_ 30 (c.u8 30 ≤ 1),
   c.zeros 31 1, at_ 32 (c.u32 32 < t.buckets + 16), at_ 36 (c.u32 36 ≤ t.buckets + 16 - c.u32 32), c.zeros 40 24,
   if c.u8 30 = 0 then b.err else none]

/-- TABLE_DMA starts, locking its first bucket; one DMA runs at a time, and the next one waits. -/
def execTableDma (t : Nat) (c : Cmd) (b : BufRead) (s : State) : Host.Outcome State Fault Refusal :=
  let s := s.at_ t
  let d : TableDma := { cmd := c, table := c.u16 28, load := c.u8 30 = 0, first := c.u32 32, count := c.u32 36,
                        lockAt := s.now, data := b.bytes c }
  .next (if s.tables.dma.isSome then s
    else s.command 0x0508 c .d0 (tableDmaErrs c b s)
      { s := if c.u32 36 = 0 then s else { s with tables := { s.tables with dma := some d } }, later := c.u32 36 ≠ 0 })

/-- An entry of a DMA image at a byte offset. -/
def entryOf (b : Bytes) (i : Nat) : TEntry :=
  let f := byteAt b i
  if bit f 0 then
    { valid := true, hit := bit f 1, once := bit f 2, isStatic := bit f 3, learned := bit f 4, port := byteAt b (i + 2),
      stamp := leAt b (i + 4) 4, result := leAt b (i + 8) 8, key := leAt b (i + 16) 16 }
  else {}

/-- An entry of a bucket image passes R199. -/
def Table.imageEntryOk (t : Table) (bucket : Nat) (img : List TEntry) (e : TEntry) : Bool :=
  let c := t.cands e.key
  !e.valid ||
    (e.key < 2 ^ t.keyBits && (t.buckets ≤ bucket || c.1 = bucket || c.2 = bucket) &&
      ((t.places e.key).all fun p => p / 4 = bucket || !((t.entry p).valid && (t.entry p).key = e.key)) &&
      (img.filter fun x => x.valid && x.key = e.key).length = 1)

/-- A DMA image is well formed (R199): its bucket, its table, its reserved bits, its entries. -/
def Table.imageOk (t : Table) (k bucket : Nat) (b : Bytes) : Bool :=
  let img := (List.range 4).map fun i => entryOf b (16 + 32 * i)
  leAt b 0 4 = bucket && leAt b 4 2 = k && (List.range 10).all (fun i => byteAt b (6 + i) = 0) &&
    ((List.range 4).all fun i => byteAt b (16 + 32 * i) < 32 && byteAt b (18 + 32 * i) < 128 && byteAt b (19 + 32 * i) = 0) &&
    img.all (t.imageEntryOk bucket img)

/-- A bucket in a DMA record. -/
def Table.dumpRecord (t : Table) (k bucket : Nat) : Bytes :=
  leBytes 4 bucket ++ leBytes 2 k ++ leBytes 10 0 ++ ((slotsOf bucket).map fun p => (t.entry p).bytes).flatten

/-- Write one place of a loaded bucket; a key that was not there counts as moved (R200). -/
def State.loadPlace (k : Nat) (b : Bytes) (p : Nat) (s : State) : State :=
  let t := s.table k
  let old := t.entry p
  let e := entryOf b (16 + 32 * (p % 4))
  let t := if old.valid && e.valid && old.key = e.key then t
    else if e.valid then { t with moves := t.moves + 1, movedAt := put t.movedAt p 0 (t.moves + 1) }
    else { t with movedAt := drop t.movedAt p }
  s.setTable k { t.setEntry p e with badPlaces := t.badPlaces.erase p, dying := t.dying.erase p }

/-- Write a loaded bucket. -/
def State.loadBucket (s : State) (k bucket : Nat) (b : Bytes) : State :=
  let old := (slotsOf bucket).map (s.table k).entry
  let s := each (State.loadPlace k b) (slotsOf bucket) s
  s.recharge old ((slotsOf bucket).map (s.table k).entry)

/-- The DMA ends. -/
def State.endDma (s : State) (d : TableDma) (st : Status) (detail : Nat) : State :=
  (({ s with tables := { s.tables with dma := none } }).settleDying d.table).answer d.cmd st detail d.moved []

/-- The DMA has moved a bucket and goes on to the next, or ends. -/
def State.nextDma (s : State) (d : TableDma) : State :=
  let d := { d with moved := d.moved + 1, abandoned := 0, lockAt := s.now }
  if d.moved = d.count then s.endDma d .ok 0 else ({ s with tables := { s.tables with dma := some d } }).settleDying d.table

/-- The bucket operation of a DMA has finished. -/
def State.moveBucket (s : State) (d : TableDma) : State :=
  let t := s.table d.table
  let b := d.first + d.moved
  let rec_ := slice d.data (144 * d.moved) 144
  match s.bucketsErr t [b] with
  | some e => s.endDma d e.status e.detail
  | none =>
    if d.load then
      if t.imageOk d.table b rec_ then (s.loadBucket d.table b rec_).nextDma d
      else s.endDma d .invalidParam (badBuffer (144 * d.moved)).detail
    else (s.emit (.long d.cmd.host (d.cmd.u64 16 + 144 * d.moved) (t.dumpRecord d.table b))).nextDma d

/-- DMA_LOCK_RELEASE (R198): the lock clears when the bucket operation has finished, or after 64 ns, and then the
operation starts again; after 3 abandoned attempts TABLE_DMA stops. -/
def execDmaLockRelease (t table bucket : Nat) (finished : Bool) (s : State) : Host.Outcome State Fault Refusal :=
  let s := s.at_ t
  .next (match s.tables.dma with
    | none => s
    | some d =>
      if !(d.table = table && d.first + d.moved = bucket) then s
      else if finished && s.now ≤ d.lockAt + ns 64 then s.moveBucket d
      else if s.now < d.lockAt + ns 64 then s
      else if d.abandoned = 2 then s.endDma d .timeout 2
      else { s with tables := { s.tables with dma := some { d with abandoned := d.abandoned + 1, lockAt := s.now } } })

/-! ### Routes -/

/-- A route record of a buffer. -/
def routeOf (b : Bytes) (i : Nat) : Route := { pfx := beAt b i 16, len := byteAt b (i + 16), result := leAt b (i + 20) 4 }

/-- The checks of a route record. -/
def routeErrs (t : Table) (b : Bytes) (i : Nat) : List (Option Err) :=
  let r := routeOf b i
  let w := if t.kind = 0 then 32 else 128
  [need (r.pfx % 2 ^ (128 - min r.len w) = 0) (badBuffer i), need (r.len ≤ w) (badBuffer (i + 16)), bufZeros b (i + 17) 3]

/-- The checks of an added route (R180, R32, R202). -/
def addErrs (s : State) (c : Cmd) (k : Nat) (r : Route) : List (Option Err) :=
  let t := s.table k
  let n := routeUnits t.kind r.len
  if t.hasRoute r.pfx r.len then []
  else
    [need (!s.needsLeaf t r && !t.bankLost) { status := .tableFull },
     need (s.sumTables (fun _ _ => true) Table.units + n ≤ 8388608) { status := .tableFull },
     need (s.sumTables (fun i _ => s.tableOwner i = c.domain) Table.units + n ≤ tableAllow s.tables.unitAllow c.domain)
       { status := .quota }]

/-- LPM_ADD and LPM_DELETE over the records of a buffer, in list order: the state, the records done and the error that
stopped it (R79, R183). -/
def lpmRun (add : Bool) (c : Cmd) (b : Bytes) : List Nat → Nat → State → State × Nat × Option Err
  | [], n, s => (s, n, none)
  | i :: l, n, s =>
    let k := c.u16 28
    let t := s.table k
    let r := routeOf b (24 * i)
    let e := firstErr (routeErrs t b (24 * i) ++ (if add then addErrs s c k r
      else [need (t.hasRoute r.pfx r.len) { status := .notFound }]))
    match e with
    | some e => (s, n, some e)
    | none =>
      let routes := if add then addRoute r t.routes else t.routes.filter fun x => !(x.pfx = r.pfx && x.len = r.len)
      lpmRun add c b l (n + 1) (each (fun l s => State.dropLeaf s k l) (r.leaves t.kind) (s.setTable k { t with routes := routes }))

/-- A bulk route command. -/
def lpmCommand (code : Nat) (add : Bool) (c : Cmd) (b : BufRead) (s : State) : State :=
  let r := lpmRun add c (b.bytes c) (List.range (c.u32 32)) 0 s
  let e := r.2.2.getD { status := .ok }
  s.command code c .any
    [c.bufferErr, at_ 24 (c.u32 24 = c.u32 32 * 24), s.tableErr c 28, at_ 28 ((s.table (c.u16 28)).kind < 2), c.zeros 30 2,
     c.zeros 36 28, b.err]
    { s := r.1, status := e.status, detail := e.detail, result := r.2.1 }

/-- LPM_ADD (R180, R183). -/
def execLpmAdd (t : Nat) (c : Cmd) (b : BufRead) (s : State) : Host.Outcome State Fault Refusal :=
  .next (lpmCommand 0x0509 true c b (s.at_ t))

/-- LPM_DELETE (R180, R183). -/
def execLpmDelete (t : Nat) (c : Cmd) (b : BufRead) (s : State) : Host.Outcome State Fault Refusal :=
  .next (lpmCommand 0x050A false c b (s.at_ t))

/-- LEARN_CONFIG (R195). -/
def execLearnConfig (t : Nat) (c : Cmd) (s : State) : Host.Outcome State Fault Refusal :=
  let s := s.at_ t
  let p := c.u8 16
  .next (s.command 0x050B c .any
    [s.ownErr c 1 p, at_ 17 (c.u8 17 ≤ 1), c.zeros 18 2, at_ 20 (c.u32 20 ≤ 4194304), c.zeros 24 40]
    { s := s.setLearnPort p { s.learnPort p with limit := c.u32 20, flood := c.u8 17 = 1 } })

/-- TABLE_AGE (R191): at once on a table that is not aged, else at the next period start. -/
def execTableAge (t : Nat) (c : Cmd) (s : State) : Host.Outcome State Fault Refusal :=
  let s := s.at_ t
  let k := c.u16 16
  let x := (s.table k).settle s.now
  let a : AgeCfg := { mode := c.u8 18, sweepMs := c.u32 20, limitMs := c.u32 24 }
  .next (s.command 0x050C c .any
    ([s.tableErr c 16, at_ 16 (x.kind = 2), at_ 18 (c.u8 18 ≤ 2), c.zeros 19 1] ++ ageErrs c (c.u8 18) 20 24 ++
     [c.zeros 28 36, need (!s.tableBusy k) { status := .busy }])
    { s := s.setTable k (if x.age.mode = 0 then { x with age := a, period := s.now, swept := 0 }
        else { x with nextAge := some a }) })

/-- TABLE_LIMIT (R202). -/
def execTableLimit (t : Nat) (c : Cmd) (s : State) : Host.Outcome State Fault Refusal :=
  let s := s.at_ t
  let d := c.u8 16
  let z := if d = 0 then 2 ^ 40 else 0
  .next (s.command 0x050D c .d0 [at_ 16 (d < 16), c.zeros 17 3, c.zeros 28 36]
    { s := { s with tables := { s.tables with unitAllow := put s.tables.unitAllow d z (c.u32 20),
                                              entryAllow := put s.tables.entryAllow d z (c.u32 24) } } })

/-! ### Conditional deletes (R189, R193) -/

/-- The state after the row, where it is a write of the present CCLK cycle that takes effect before a conditional delete (R189). -/
def State.writeAhead (s : State) (i : Instr) : State :=
  let after (t : Nat) (o : Host.Outcome State Fault Refusal) : State := match o with
    | .next s' => if t / 3 = s.now / 3 then s' else s
    | _ => s
  match i with
  | .hitWrite t => after t (execHitWrite t s)
  | .dmaLockRelease t table bucket finished => after t (execDmaLockRelease t table bucket finished s)
  | .tableInsert t c => after t (execTableInsert t c s)
  | .tableUpdate t c => after t (execTableUpdate t c s)
  | .learn t => after t (execLearn t s)
  | .tableDelete t c => after t (execTableDelete t c s)
  | _ => s

/-- The place of the entry that a conditional delete still removes: its hit bit is clear, or its stamp unchanged (R193). -/
def State.deletePlace (s : State) (d : CondDel) : Option Nat :=
  let x := s.table d.table
  match if x.live && s.tableGen d.table = d.gen then x.find d.key else none with
  | none => none
  | some p =>
    let e := x.entry p
    if (if d.stampMode then e.stamp = d.stamp else !e.hit) && !e.isStatic then some p else none

/-- CONDITIONAL_DELETE (R193): the oldest conditional delete reaches the update port. The other writes of its cycle, be they among the
rows that wait, go first (R189). -/
def execConditionalDelete (t : Nat) (s : State) : Host.Outcome State Fault Refusal :=
  let s := s.at_ t
  .next (match s.tables.deletes with
    | [] => s
    | d :: r =>
      let gone := { s with tables := { s.tables with deletes := r } }
      match s.deletePlace d with
      | none => gone
      | some p =>
        if s.removeWaits d.table p then s
        else if ((s.pending.foldl State.writeAhead s).deletePlace d).isNone then gone
        else
          let s := gone.removeEntry d.table p
          s.setTable d.table { s.table d.table with agedOut := (s.table d.table).agedOut + 1 })

end Sys2Proof.Machine
end

