-- ==== Sys2Proof/Machine/Assoc.lean ====
section
/-! DEFINITION. Associative arrays: shapes, search, row updates, scrubbing, and their commands
(09_associative_arrays.md). -/

namespace Sys2Proof.Machine

/-! ### Access -/

/-- An array. -/
def State.array (s : State) (k : Nat) : AArray := look s.assoc.arrays k {}
/-- Set an array. -/
def State.setArray (s : State) (k : Nat) (x : AArray) : State :=
  { s with assoc := { s.assoc with arrays := put s.assoc.arrays k {} x } }
/-- A row of a block. -/
def State.arow (s : State) (b r : Nat) : ARow := look s.assoc.rows (b * 8192 + r) {}
/-- Set a row of a block. -/
def State.setArow (s : State) (b r : Nat) (x : ARow) : State :=
  { s with assoc := { s.assoc with rows := put s.assoc.rows (b * 8192 + r) {} x } }
/-- A block's error log. -/
def State.ablock (s : State) (b : Nat) : ABlock := look s.assoc.blocks b {}
/-- Set a block's error log. -/
def State.setAblock (s : State) (b : Nat) (x : ABlock) : State :=
  { s with assoc := { s.assoc with blocks := put s.assoc.blocks b {} x } }

/-- The blocks of an array. -/
def AArray.blocks (a : AArray) : List Nat := if a.live then (List.range a.count).map (a.first + ·) else []
/-- The segments of an array. -/
def AArray.segments (a : AArray) : Nat := a.count / a.width
/-- The blocks of a segment (R203). -/
def AArray.segment (a : AArray) (k : Nat) : List Nat := (List.range a.width).map fun j => a.first + k * a.width + j
/-- The array that a block belongs to. -/
def State.arrayOf (s : State) (b : Nat) : Option Nat :=
  (List.range 32).find? fun k => (s.array k).blocks.contains b
/-- The domain owns every block of a live array (R204, R209). -/
def State.ownsArray (s : State) (d k : Nat) : Bool :=
  (s.array k).live && (s.array k).blocks.all fun b => s.owns d 4 b
/-- A block of the array is mapped out (R213). -/
def State.arrayDown (s : State) (k : Nat) : Bool := (s.array k).blocks.any fun b => s.isOut 6 b
/-- The number of the present CCLK cycle (R27). -/
def State.cclk (s : State) : Nat := s.now / 3

/-! ### Matching (R205, R206) -/

/-- The row of a block takes part: its valid bit is set; the scrubber clears that of a bad row (R212). -/
def ARow.on (r : ARow) : Bool := r.valid
/-- 80 bits of a key match a row. -/
def ARow.hit (r : ARow) (key : Nat) : Bool := r.on && key &&& r.mask = r.value &&& r.mask
/-- The row matches in every block of the segment. -/
def State.segmentHit (s : State) (bs : List Nat) (row key : Nat) : Bool :=
  (bs.zip (List.range bs.length)).all fun b => (s.arow b.1 row).hit (key / 2 ^ (80 * b.2) % 2 ^ 80)
/-- The row of a segment is valid in every block. -/
def State.segmentOn (s : State) (bs : List Nat) (row : Nat) : Bool := bs.all fun b => (s.arow b row).on

/-- The 8-bit value of the pre-filter (R206). -/
def AArray.filterOf (a : AArray) (key : Nat) : Nat :=
  ((List.range 8).map fun i => if bit key ((a.pf[i]?).getD 0) then 2 ^ i else 0).sum
/-- The tag of a row group: gval and gmask. -/
def AArray.tag (a : AArray) (pos g : Nat) : Nat × Nat := (look a.tags (pos * 256 + g) 0 / 256, look a.tags (pos * 256 + g) 0 % 256)
/-- A row group is searched (R206). -/
def AArray.powers (a : AArray) (pos g key : Nat) : Bool :=
  let t := a.tag pos g
  !a.prefilter || a.filterOf key &&& t.2 = t.1 &&& t.2

/-- The row groups powered in all segments. -/
def AArray.powered (a : AArray) (key : Nat) : Nat :=
  ((List.range a.segments).map fun p => ((List.range 256).filter fun g => a.powers p g key).length).sum

/-- The rows that a block lists, lowest first. -/
def State.rowsOf (s : State) (b : Nat) : List Nat :=
  (s.assoc.rows.filter fun r => r.1 / 8192 = b).map fun r => r.1 % 8192

/-- The matching rows of a segment, lowest first. -/
def State.searchSegment (s : State) (a : AArray) (pos key : Nat) : List Nat :=
  let bs := a.segment pos
  (s.rowsOf ((bs.head?).getD 0)).filter fun r => a.powers pos (r / 32) key && s.segmentHit bs r key

/-- The matching rows of an array with their results: by the lowest position, then the lowest row (R205). -/
def State.matchesOf (s : State) (a : AArray) (key : Nat) : List (Nat × Nat × Nat) :=
  (List.range a.segments).flatMap fun p =>
    (s.searchSegment a p key).map fun r => (p, r, (s.arow (a.first + p * a.width) r).result)

/-- The response that a search with these matches gives, of which the first wins (R205, R208). -/
def matchResponse (groups : Nat) : List (Nat × Nat × Nat) → AResponse
  | [] => { status := 1, groups := groups }
  | m :: _ => { status := 0, position := m.1, row := m.2.1, groups := groups, result := m.2.2 }

/-- The response of a search of an array that is there (R208, R213). -/
def State.searchNow (s : State) (k key : Nat) : AResponse :=
  if s.arrayDown k then { status := 2 } else matchResponse ((s.array k).powered key) (s.matchesOf (s.array k) key)

/-- The response of a search that met parity errors on rows, by position and row: they do not match (R212). -/
def ASearch.answer (x : ASearch) (bad : List (Nat × Nat)) : AResponse :=
  match x.response with
  | none => { status := 2 }
  | some a => if a.status = 0 then matchResponse a.groups (x.found.filter fun m => !bad.contains (m.1, m.2.1)) else a

/-- A search response in bytes (R208). -/
def AResponse.bytes (r : AResponse) : Bytes :=
  leBytes 1 r.status ++ leBytes 1 r.position ++ leBytes 2 r.row ++ leBytes 2 r.groups ++ leBytes 2 0 ++ leBytes 8 r.result

/-- Searches of an array that have started by a CCLK cycle see the array as it now is (R210); those that meet a block mapped out are counted
(R213). Whatever changes an array settles its searches first. -/
def State.settleSearches (s : State) (k cycle : Nat) : State :=
  let due (x : ASearch) : Bool := x.array = k && x.response = none && x.start ≤ cycle
  let f (x : ASearch) : ASearch :=
    if due x then { x with response := some (s.searchNow k x.key), found := s.matchesOf (s.array k) x.key } else x
  let n := if s.arrayDown k then (s.assoc.searches.filter due).length else 0
  let s := { s with assoc := { s.assoc with searches := s.assoc.searches.map f } }
  if n = 0 then s else s.setArray k { s.array k with refused := (s.array k).refused + n }

/-- The searches of a block's array that have started see the array as it now is. -/
def State.settleBlock (s : State) (b : Nat) : State :=
  match s.arrayOf b with
  | some k => s.settleSearches k s.cclk
  | none => s

/-- The searches of a cluster that wait for their array (R208). -/
def State.searchesQueued (s : State) (cluster : Nat) : Nat :=
  (s.assoc.searches.filter fun x => x.thread.cluster = cluster && s.cclk < x.start).length

/-- Issue a search of an array that the domain may search (R208): it starts in the first free slot; where the cluster's
queue is full it returns status 2. -/
def State.issueSearch (s : State) (th : ThreadId) (tag k key : Nat) : State :=
  let a := s.array k
  let start := max s.cclk a.nextSlot
  let full := s.cclk < start && 64 ≤ s.searchesQueued th.cluster
  let x : ASearch := { thread := th, tag := tag, array := k, key := key, start := start }
  let x := if full then { x with start := s.cclk, response := some { status := 2 } } else x
  let s := if full then s else s.setArray k { a with nextSlot := start + 1 }
  { s with assoc := { s.assoc with searches := s.assoc.searches ++ [x] } }

/-! ### Updating a row (R210, R211) -/

/-- A record of ASSOC_WRITE's buffer. -/
def arecordOf (b : Bytes) (i : Nat) : ARecord :=
  { row := leAt b i 2, position := byteAt b (i + 2), invalidate := byteAt b (i + 3) = 1, result := leAt b (i + 8) 8,
    value := leAt b (i + 16) 80, mask := leAt b (i + 96) 80 }

/-- A record keeps R207 for its group's tag. -/
def AArray.keepsTag (a : AArray) (r : ARecord) : Bool :=
  let t := a.tag r.position (r.row / 32)
  !a.prefilter || (List.range 8).all fun i =>
    !bit t.2 i || (let p := (a.pf[i]?).getD 0; bit r.mask p && bit r.value p = bit t.1 i)

/-- The checks of a record. -/
def AArray.recordOk (a : AArray) (b : Bytes) (i : Nat) : Bool :=
  let r := arecordOf b i
  r.row < 8192 && r.position < a.segments && byteAt b (i + 3) ≤ 1 && leAt b (i + 4) 4 = 0 &&
    r.value < 2 ^ (80 * a.width) && r.mask < 2 ^ (80 * a.width) && (r.invalidate || a.keepsTag r)

/-- Set the valid bit of a row in every block of its segment. -/
def State.setValid (s : State) (a : AArray) (r : ARecord) (v : Bool) : State :=
  each (fun b s => s.setArow b r.row { s.arow b r.row with valid := v, held := false }) (a.segment r.position) s

/-- Write value, mask and result of a row. -/
def State.writeArow (s : State) (a : AArray) (r : ARecord) : State :=
  each (fun j s => s.setArow (a.first + r.position * a.width + j) r.row
    { valid := false, value := r.value / 2 ^ (80 * j) % 2 ^ 80, mask := r.mask / 2 ^ (80 * j) % 2 ^ 80,
      result := if j = 0 then r.result else 0 }) (List.range a.width) s

/-- The update that runs has ended: its reply, and the next one starts. -/
def State.endUpdate (s : State) (k : Nat) (w : AWork) (st : Status) (detail : Nat) : State :=
  let a := s.array k
  (s.setArray k { a with work := a.later.head?, later := a.later.drop 1 }).answer w.cmd st detail w.index []

/-- The record's last step is done. -/
def State.nextRecord (s : State) (k : Nat) (w : AWork) : State :=
  let w := { w with index := w.index + 1, step := 0 }
  if w.index = w.count then s.endUpdate k w .ok 0 else s.setArray k { s.array k with work := some w }

/-- One step of the record: invalidate, write, validate (R210); a row is validated only if it keeps its group's tag as it then is (R207). -/
def State.updateStep (s : State) (k : Nat) (w : AWork) : State :=
  let a := s.array k
  let r := arecordOf w.data (176 * w.index)
  let on := s.segmentOn (a.segment r.position) r.row
  if (w.step = 0 && !a.recordOk w.data (176 * w.index)) || (w.step = 2 && !a.keepsTag r) then
    s.endUpdate k w .invalidParam (badBuffer (176 * w.index)).detail
  else if r.invalidate then (s.setValid a r false).nextRecord k w
  else if w.step = 0 && on then (s.setValid a r false).setArray k { a with work := some { w with step := 1 } }
  else if w.step ≤ 1 then (s.writeArow a r).setArray k { a with work := some { w with step := 2 } }
  else (s.setValid a r true).nextRecord k w

/-- The array grants `n` of its search slots to an update (R211): while searches wait, one in 8 CCLK, else a slot that is free. The searches
that have started see the array as it is before the step. -/
def State.takeSlots (s : State) (k n : Nat) : Option State :=
  let a := s.array k
  let now := s.cclk
  let waiting := s.assoc.searches.any fun x => x.array = k && x.response = none && now < x.start
  if (if waiting then now < a.nextUpdate else now < a.nextSlot) then none
  else
    let s := s.settleSearches k now
    let shift (x : ASearch) : ASearch := if x.array = k && x.response = none then { x with start := x.start + n } else x
    let s := { s with assoc := { s.assoc with searches := s.assoc.searches.map shift } }
    some (s.setArray k { s.array k with nextSlot := if waiting then a.nextSlot + n else now + n, nextUpdate := now + 8 })

/-- ASSOC_UPDATE_STEP (R210, R211). -/
def execAssocUpdateStep (t array : Nat) (s : State) : Host.Outcome State Fault Refusal :=
  let s := s.at_ t
  .next (match (s.array array).work with
    | none => s
    | some w =>
      match s.takeSlots array 1 with
      | none => s
      | some s => s.updateStep array w)

/-! ### Errors (R212) -/

/-- ASSOC_SCRUB (R212): a bad row's valid bit is cleared at once, and the row is logged and posted. -/
def execAssocScrub (t block row : Nat) (bad : Bool) (s : State) : Host.Outcome State Fault Refusal :=
  let s := s.at_ t
  let b := s.ablock block
  .next (if bad && block < 32 && row < 8192 && s.healthy 6 block then
      let x := s.arow block row
      (((s.settleBlock block).setArow block row { x with bad := true, valid := false, held := x.valid || x.held }).setAblock block
        { errValid := true, errRepaired := false, errRow := row, errors := b.errors + 1 }).eventTo (s.owner 4 block) 0x06F0
        (block + 32 * row) (b.errors + 1)
    else s)

/-- The row of Basecamp's copy is written back (R212, R213). -/
def ARow.restored (x : ARow) : ARow := if x.bad then { x with valid := x.held, bad := false, held := false } else x

/-- ASSOC_ROW_REPAIR (R212): the row is rewritten from Basecamp's copy, through steps 2 and 3 of R210 in two update slots of its array. -/
def execAssocRowRepair (t block row : Nat) (s : State) : Host.Outcome State Fault Refusal :=
  let s := s.at_ t
  let b := s.ablock block
  let x := s.arow block row
  let granted := match s.arrayOf block with
    | none => some s
    | some k => s.takeSlots k 2
  .next (match if x.bad then granted else none with
    | some s => ((s.setArow block row x.restored).setAblock block
        { b with errRepaired := if b.errRow = row then true else b.errRepaired }).eventTo (s.owner 4 block) 0x06F0
        (block + 32 * row + 2 ^ 18) b.errors
    | none => s)

/-! ### Commands -/

/-- The check of an array id: in range, and every block of it owned (R204). -/
def State.arrayErr (s : State) (c : Cmd) (off : Nat) : Option Err :=
  firstErr [Sys2Proof.at_ off (c.u8 off < 32), need (s.ownsArray c.domain (c.u8 off)) denied]

/-- HW_FAULT where a block of the list is mapped out (R213). -/
def State.blocksErr (s : State) (bs : List Nat) : Option Err :=
  match bs.find? fun b => s.isOut 6 b with
  | none => none
  | some b => some { status := .hwFault, detail := s.seqOf 6 b }

/-- Invalidate every row of a block (R203). -/
def State.clearBlock (b : Nat) (s : State) : State :=
  { s with assoc := { s.assoc with rows := s.assoc.rows.filter fun r => r.1 / 8192 ≠ b } }

/-- A write of the array's rows is under way. -/
def AArray.busy (a : AArray) : Bool := a.work.isSome

/-- The checks of ASSOC_CREATE (R203, R204, R206). -/
def assocCreateErrs (c : Cmd) (s : State) : List (Option Err) :=
  let k := c.u8 16
  let first := c.u8 17
  let n := c.u8 18
  let w := c.u8 19
  let bs := (List.range n).map (first + ·)
  let wOk := w = 1 || w = 2 || w = 4 || w = 8
  [at_ 16 (k < 32 && (!(s.array k).live || (s.array k).busy)),
   need (first < 32 && first + n ≤ 32 && bs.all fun b => s.owns c.domain 4 b) denied,
   at_ 17 (!wOk || first % w = 0), at_ 17 (bs.all fun b => (s.arrayOf b).isNone || s.arrayOf b = some k),
   at_ 18 (1 ≤ n && (!wOk || n % w = 0)), at_ 19 wOk, at_ 20 (c.u8 20 ≤ 1), c.zeros 21 3] ++
  ((List.range 8).map fun i => at_ (24 + 2 * i) (c.u16 (24 + 2 * i) < 80 * w)) ++
  [c.zeros 40 24, need (!(s.array k).busy) { status := .busy }, s.blocksErr bs]

/-- ASSOC_CREATE (R203). -/
def execAssocCreate (t : Nat) (c : Cmd) (s : State) : Host.Outcome State Fault Refusal :=
  let s := s.at_ t
  let a : AArray := { live := true, first := c.u8 17, count := c.u8 18, width := c.u8 19, prefilter := c.u8 20 = 1,
                      pf := (List.range 8).map fun i => c.u16 (24 + 2 * i) }
  .next (s.command 0x0600 c .any (assocCreateErrs c s)
    { s := (each State.clearBlock a.blocks s).setArray (c.u8 16) a })

/-- Delete an array: searches that started complete, and its blocks become free (R204). -/
def State.deleteArray (s : State) (k : Nat) (clear : Bool) : State :=
  let bs := (s.array k).blocks
  let s := s.settleSearches k (s.cclk + 2 ^ 40)
  let s := s.setArray k {}
  if clear then each State.clearBlock bs s else s

/-- ASSOC_DELETE. -/
def execAssocDelete (t : Nat) (c : Cmd) (s : State) : Host.Outcome State Fault Refusal :=
  let s := s.at_ t
  let k := c.u8 16
  .next (s.command 0x0601 c .any
    [s.arrayErr c 16, c.zeros 17 47, need (!(s.array k).busy) { status := .busy }, s.blocksErr (s.array k).blocks]
    { s := s.deleteArray k true })

/-- ASSOC_WRITE (R210, R211): its records take effect step by step, after those of the writes before it. -/
def execAssocWrite (t : Nat) (c : Cmd) (b : BufRead) (s : State) : Host.Outcome State Fault Refusal :=
  let s := s.at_ t
  let k := c.u8 28
  let a := s.array k
  let w : AWork := { cmd := c, data := b.bytes c, count := c.u32 32 }
  .next (s.command 0x0602 c .any
    [c.bufferErr, at_ 24 (c.u32 24 = c.u32 32 * 176), s.arrayErr c 28, c.zeros 29 3, c.zeros 36 28, s.blocksErr a.blocks, b.err]
    { s := if c.u32 32 = 0 then s
        else s.setArray k (if a.work.isNone then { a with work := some w } else { a with later := a.later ++ [w] }),
      later := c.u32 32 ≠ 0 })

/-- The 176-byte record of a row. -/
def State.arowBytes (s : State) (a : AArray) (pos row : Nat) : Bytes :=
  let bs := a.segment pos
  leBytes 2 row ++ leBytes 1 pos ++ leBytes 1 (b2n (!s.segmentOn bs row)) ++ leBytes 4 0 ++
    leBytes 8 (s.arow (a.first + pos * a.width) row).result ++
    slice (bs.flatMap fun b => leBytes 10 (s.arow b row).value) 0 80 ++
    slice (bs.flatMap fun b => leBytes 10 (s.arow b row).mask) 0 80

/-- ASSOC_READ. -/
def execAssocRead (t : Nat) (c : Cmd) (s : State) : Host.Outcome State Fault Refusal :=
  let s := s.at_ t
  let a := s.array (c.u8 16)
  .next (s.command 0x0603 c .any
    [c.needReply, s.arrayErr c 16, at_ 17 (c.u8 17 < a.segments), at_ 18 (c.u16 18 < 8192), c.zeros 20 44, s.blocksErr a.blocks]
    { s := s, result := 176, long := s.arowBytes a (c.u8 17) (c.u16 18) })

/-- ASSOC_GROUP (R207). -/
def execAssocGroup (t : Nat) (c : Cmd) (s : State) : Host.Outcome State Fault Refusal :=
  let s := s.at_ t
  let a := s.array (c.u8 16)
  let g := c.u16 18
  .next (s.command 0x0604 c .any
    [s.arrayErr c 16, at_ 17 (c.u8 17 < a.segments), at_ 18 (g < 256), c.zeros 22 42, s.blocksErr a.blocks,
     need (!(List.range 32).any fun i => s.segmentOn (a.segment (c.u8 17)) (32 * g + i)) (refusedWith 1)]
    { s := let s := s.settleSearches (c.u8 16) s.cclk
        s.setArray (c.u8 16)
        { s.array (c.u8 16) with tags := put a.tags (c.u8 17 * 256 + g) 0 (c.u8 20 * 256 + c.u8 21) } })

/-- ASSOC_SEARCH: takes one search slot; it counts as a search, with the groups that it powers (R207). -/
def execAssocSearch (t : Nat) (c : Cmd) (b : BufRead) (s : State) : Host.Outcome State Fault Refusal :=
  let s := s.at_ t
  let k := c.u8 28
  let a := s.array k
  let r := s.searchNow k (leAt (b.bytes c) 0 80)
  let counted := (s.countDomain c.domain 5).count (2560 + 16 * c.domain + 6) r.groups
  .next (s.command 0x0605 c .any
    [c.needReply, c.bufferErr, at_ 24 (c.u32 24 = 80), s.arrayErr c 28, c.zeros 29 35, s.blocksErr a.blocks, b.err]
    { s := counted.setArray k { a with nextSlot := max s.cclk a.nextSlot + 1 }, result := 16, long := r.bytes })

end Sys2Proof.Machine
end

