-- ==== Sys2Proof/Machine/Thread.lean ====
section
/-! DEFINITION. Threads: events, channels, speculation, faults, dispatch by Trailhead, order buckets
(07_parse_and_classify.md, 10_packet_engines.md, 11_scout_speculation.md). -/

namespace Sys2Proof.Machine

/-! ### Access -/

/-- A thread's key. -/
def thKey (th : ThreadId) : Nat := th.cluster * 256 + th.engine * 16 + th.thread
/-- The thread of a key. -/
def thOf (k : Nat) : ThreadId := { cluster := k / 256, engine := k / 16 % 16, thread := k % 16 }
/-- A thread. -/
def State.thread (s : State) (th : ThreadId) : Thread := look s.eng.threads (thKey th) {}
/-- Set a thread. -/
def State.setThread (s : State) (th : ThreadId) (x : Thread) : State :=
  { s with eng := { s.eng with threads := put s.eng.threads (thKey th) {} x } }
/-- A cluster. -/
def State.cluster (s : State) (c : Nat) : Cluster := look s.eng.clusters c {}
/-- Set a cluster. -/
def State.setCluster (s : State) (c : Nat) (x : Cluster) : State :=
  { s with eng := { s.eng with clusters := put s.eng.clusters c {} x } }
/-- An engine. -/
def State.engine (s : State) (c e : Nat) : Engine := look s.eng.engines (c * 16 + e) {}
/-- Set an engine. -/
def State.setEngine (s : State) (c e : Nat) (x : Engine) : State :=
  { s with eng := { s.eng with engines := put s.eng.engines (c * 16 + e) {} x } }
/-- A channel of a cluster. -/
def State.channel (s : State) (c ch : Nat) : Channel := look (s.cluster c).channels ch {}
/-- Set a channel of a cluster. -/
def State.setChannel (s : State) (c ch : Nat) (x : Channel) : State :=
  s.setCluster c { s.cluster c with channels := put (s.cluster c).channels ch {} x }

/-- The thread ids of a cluster that the state lists, in ascending engine and thread number. -/
def State.threadsOf (s : State) (c : Nat) : List ThreadId :=
  (s.eng.threads.filter fun r => r.1 / 256 = c).map fun r => thOf r.1

/-- The cluster's supervisor (R226). -/
def State.isSup (s : State) (th : ThreadId) : Bool :=
  (s.cluster th.cluster).supEngine = th.engine && (s.cluster th.cluster).supThread = th.thread
/-- The thread is resident (R214). -/
def State.isResident (s : State) (th : ThreadId) : Bool := (s.thread th).resident || s.isSup th

/-- The thread that entry `i` of an engine's slot table names (R217). -/
def Engine.slot (e : Engine) (i : Nat) : Nat :=
  let v := look e.slots i 0
  if v = 0 then i % 16 else v - 1
/-- A slot table as it was written. -/
def Engine.withSlots (e : Engine) (l : List Nat) : Engine :=
  { e with slots := (List.range 64).foldl (fun m i => put m i 0 ((l[i]?).getD 0 + 1)) [], next := none }
/-- The engine takes a written table when its pointer is at entry 0 (R217). -/
def Engine.switch (e : Engine) : Engine :=
  match e.next with
  | some l => if e.pointer = 0 then e.withSlots l else e
  | none => e

/-- The cluster time counter (R220). -/
def State.clusterTime (s : State) (c : Nat) : Nat := (s.now - (s.cluster c).origin) / 6 % 2 ^ 48

/-! ### Events (R218, R219) -/

/-- Slots of a channel in use. -/
def Channel.used (c : Channel) : Nat := c.visible.length + c.coming.length + c.reserved

/-- The level events of a thread. -/
def State.levelBits (s : State) (th : ThreadId) : Nat :=
  let x := s.thread th
  let bitsOf (i : Nat) : Nat :=
    match look x.watch i 0 with
    | 0 => 0
    | c + 1 =>
      let ch := s.channel th.cluster c
      (if ch.visible = [] then 0 else 2 ^ (12 + i)) + (if ch.used < 8 then 2 ^ (16 + i) else 0)
  ((List.range 4).map bitsOf).sum + (if s.isSup th && (s.cluster th.cluster).faults ≠ [] then 2 ^ 31 else 0)

/-- The pending word: latched and level events. -/
def State.pendingWord (s : State) (th : ThreadId) : Nat := (s.thread th).pending ||| s.levelBits th

/-- The level event bits (R218): 12–19 and 31. -/
def levelMask : Nat := 0x800FF000
/-- The event bits internal for ALLWAIT (R218). -/
def internalMask : Nat := 0xBFCFF000

/-- Bits of `a` that are not in `b`. -/
def clearBits (a b : Nat) : Nat := a - (a &&& b)

/-- WAIT returns what is pending: it clears the latched bits it returns (R219). -/
def State.waitReturn (s : State) (th : ThreadId) : State :=
  let x := s.thread th
  let w := s.pendingWord th &&& x.mask
  let latched := clearBits w levelMask &&& x.pending
  let sp := if x.spec.prov then { x.spec with cleared := x.spec.cleared ||| latched } else x.spec
  s.setThread th { x with state := .run, waiting := .none, pending := clearBits x.pending latched, returned := w, spec := sp }

/-- A thread in WAIT goes on when a selected event is pending. -/
def State.wake (th : ThreadId) (s : State) : State :=
  let x := s.thread th
  if x.state = .wait && x.waiting = .events && s.pendingWord th &&& x.mask ≠ 0 then s.waitReturn th else s

/-- Wake the threads of a cluster. -/
def State.wakeCluster (s : State) (c : Nat) : State := each State.wake (s.threadsOf c) s

/-- Latch an event of a thread, whatever its state. -/
def State.latch (s : State) (th : ThreadId) (b : Nat) : State :=
  let x := s.thread th
  State.wake th (s.setThread th { x with pending := x.pending ||| 2 ^ b })

/-- A thread executes WAIT (R219). -/
def State.doWait (s : State) (th : ThreadId) (mask : Nat) : State :=
  let x := s.thread th
  State.wake th (s.setThread th { x with state := .wait, waiting := .events, mask := mask })

/-! ### ALLWAIT (R230) -/

/-- A thread is in an internal-only wait. -/
def Thread.internalWait (x : Thread) : Bool :=
  x.state = .wait && (match x.waiting with
    | .slot _ _ _ => true
    | .events => clearBits x.mask internalMask = 0
    | _ => false)

/-- A cluster's threads that its detector watches. -/
def State.watchedIds (s : State) (c : Nat) : List ThreadId :=
  (s.threadsOf c).filter fun th => (s.thread th).state ≠ .empty && (s.thread th).state ≠ .stopped
/-- The watched threads of a cluster. -/
def State.watched (s : State) (c : Nat) : List Thread := (s.watchedIds c).map s.thread

/-- The detector's counter of a cluster as the threads now stand. The supervisor's own run after a record 0x07 restarts the counter and does
not take the record back: only another thread that leaves its wait ends the firing (R230, log entry 135). -/
def State.quietAt (s : State) (c : Nat) : State :=
  let l := s.watched c
  let k := s.cluster c
  let others := (s.watchedIds c).filter fun th => !s.isSup th
  let rec_ := if others.all fun th => (s.thread th).internalWait then k.recorded else none
  if l ≠ [] && l.all Thread.internalWait then
    (if k.quiet.isSome && rec_ = k.recorded then s else s.setCluster c { k with quiet := some (k.quiet.getD s.now), recorded := rec_ })
  else if k.quiet.isSome || rec_ ≠ k.recorded then s.setCluster c { k with quiet := none, recorded := rec_ } else s

/-! ### Scout: signature, bundle, cache (R237–R243) -/

/-- One reflected CRC-64 step over a byte (R237). -/
def crc64Byte (crc : Nat) (b : Byte) : Nat :=
  (List.range 8).foldl (fun x _ => if bit x 0 then (x / 2) ^^^ 0xC96C5795D7870F42 else x / 2) (crc ^^^ b.toNat)
/-- CRC-64 (R237). -/
def crc64 (b : Bytes) : Nat := (b.foldl crc64Byte 0xFFFFFFFFFFFFFFFF) ^^^ 0xFFFFFFFFFFFFFFFF

/-- A domain's template. -/
def State.template (s : State) (d i : Nat) : Template := look s.scout.templates (d * 32 + i) {}
/-- A domain's Scout settings. -/
def State.scoutDom (s : State) (d : Nat) : ScoutDom := look s.scout.doms d {}
/-- The owner of a segment. -/
def State.segOwner (s : State) (g : Nat) : Nat := look s.scout.segs g 0
/-- The segments of a domain, in ascending order. -/
def State.segsOf (s : State) (d : Nat) : List Nat := (List.range 64).filter fun g => s.segOwner g = d
/-- A cache entry. -/
def State.sentry (s : State) (k : Nat) : SEntry := look s.scout.cache k {}
/-- Set a cache entry. -/
def State.setSentry (s : State) (k : Nat) (x : SEntry) : State :=
  { s with scout := { s.scout with cache := put s.scout.cache k {} x } }
/-- Count a SCOUT_STATS event of a domain in a cluster. -/
def State.countScout (s : State) (c d i n : Nat) : State :=
  { s with scout := { s.scout with stats := bump s.scout.stats ((c * 16 + d) * 8 + i) n } }

/-- The flow signature (R237). -/
def signature (domain pass profile : Nat) (t : Template) (hv : Bytes) : Nat :=
  crc64 (leBytes 1 domain ++ leBytes 1 pass ++ leBytes 1 profile ++ t.extracts.flatMap fun e => slice hv e.1 e.2)

/-- The base of the set in which a signature lies (R241); none where the domain owns no segment. -/
def State.setBase (s : State) (c d sig : Nat) : Option Nat :=
  let l := s.segsOf d
  match l[sig / 64 % l.length]? with
  | none => none
  | some g => some (((c * 64 + g) * 64 + sig % 64) * 4)

/-- The way that holds a signature (R241). -/
def State.findWay (s : State) (c d sig tpl : Nat) : Option Nat :=
  match s.setBase c d sig with
  | none => none
  | some b => ((List.range 4).map (b + ·)).find? fun k =>
      let e := s.sentry k
      e.valid && e.sig = sig && e.template = tpl && e.domain = d

/-- Mark a way as the most recently used of its set. -/
def State.touch (s : State) (k : Nat) : State :=
  let n := s.scout.uses + 1
  let s := s.setSentry k { s.sentry k with used := n }
  { s with scout := { s.scout with uses := n } }

/-- The width and the place in the bundle of field `f` (R238). -/
def fieldPlace : Nat → Nat × Nat
  | 0 => (24, 0)
  | 1 => (27, 32)
  | 2 => (32, 64)
  | _ => (8, 96)

/-- The tag that field `f` of a template is mapped to. -/
def Template.tag (t : Template) (f : Nat) : Option Nat :=
  match t.fields[f]? with
  | some (k + 1, _) => some k
  | _ => none

/-- The value that field `f` takes from a result. -/
def Template.fieldOf (t : Template) (f result : Nat) : Nat :=
  match t.fields[f]? with
  | some (_, lsb) => result / 2 ^ lsb % 2 ^ (fieldPlace f).1
  | none => 0

/-- One field of the assembled bundle with its field_hit bit (R238). -/
def assembleField (t : Template) (got : Sparse Got) (f : Nat) : Nat :=
  match t.tag f with
  | none => 0
  | some k =>
    let g := look got k {}
    if g.live && g.status = 0 then t.fieldOf f g.result * 2 ^ (fieldPlace f).2 + 2 ^ (24 + f) else 0

/-- The assembled bundle of what has returned (R239). -/
def assemble (t : Template) (got : Sparse Got) : Nat := ((List.range 4).map (assembleField t got)).sum

/-- The mapped tags of a template. -/
def Template.tags (t : Template) : List Nat := (List.range 4).filterMap t.tag

/-- A thread's template. -/
def State.tplOf (s : State) (x : Thread) : Template := s.template x.domain x.spec.template

/-- Put a bundle into registers 62 and 63 (R238). -/
def Thread.putBundle (x : Thread) (b : Nat) : Thread :=
  { x with regs := put (put x.regs 62 0 (b % 2 ^ 64)) 63 0 (b / 2 ^ 64) }

/-! ### The slot ledger (R428–R430) -/

/-- Enter slots of an engine in a column. -/
def State.ledger (s : State) (th : ThreadId) (col n : Nat) : State :=
  s.count (4 * (16 * th.cluster + th.engine) + col) n

/-- The slots of provisional work resolve: kept, or undone and charged to the packet's domain. -/
def State.resolveSlots (s : State) (th : ThreadId) (kept : Bool) : State :=
  let x := s.thread th
  let n := x.spec.slots
  let s := s.setThread th { x with spec := { x.spec with slots := 0 } }
  if kept then s.ledger th 0 n else (s.ledger th 1 n).count (2048 + 32 * x.domain + th.cluster) n

/-! ### Trailhead: choosing a thread (R155–R157, R214) -/

/-- The steering index of a hash (R156). -/
def steerIdx (hash : Nat) : Nat := (hash ^^^ (hash / 1024) ^^^ (hash / 1048576)) % 1024
/-- The cluster that a steering entry names. -/
def State.steer (s : State) (i : Nat) : Nat :=
  match look s.parse.steer i 0 with
  | 0 => i % 32
  | c + 1 => c
/-- The order bucket of a packet (R158). -/
def bucketOf (ingress hash : Nat) : Nat := (ingress * 37 + hash / 2 ^ 20) % 4096

/-- Threads of an engine that hold a pass. -/
def State.occupied (s : State) (c e : Nat) : Nat :=
  countRows s.eng.threads fun k x => k / 16 = c * 16 + e && x.pass.isSome
/-- A thread is free (R156, R214). -/
def State.freeThread (s : State) (th : ThreadId) : Bool :=
  (s.thread th).state = .empty && !s.isResident th && !(s.thread th).stopDue &&
    (List.range 64).any fun i => (s.engine th.cluster th.engine).slot i = th.thread
/-- The lowest free thread of an engine. -/
def State.firstFree (s : State) (c e : Nat) : Option ThreadId :=
  ((List.range 16).map fun t => { cluster := c, engine := e, thread := t }).find? fun th => s.freeThread th
/-- The engine with the fewest occupied threads among those with a free one, lowest number first. -/
def pickEngine (s : State) (c : Nat) : List Nat → Option Nat
  | [] => none
  | e :: t =>
    match pickEngine s c t with
    | none => if (s.firstFree c e).isSome then some e else none
    | some f => if (s.firstFree c e).isSome && s.occupied c e ≤ s.occupied c f then some e else some f
/-- The thread that a pass goes to (R156). -/
def State.pickThread (s : State) (c : Nat) : Option ThreadId :=
  match pickEngine s c (List.range 16) with
  | none => none
  | some e => s.firstFree c e

/-- The domain of a pass (R165): the owner of the ingress port, or of the egress port. -/
def State.passDomain (s : State) (p : Packet) : Nat := s.owner 1 (if p.egress then p.desc.port else p.desc.ingress)

/-- A thread takes a packet's pass (R214, R244): its timer, watch registers and requests are those of a new pass; what has been latched
since its last pass stays pending (R218). -/
def State.startPass (s : State) (th : ThreadId) (k : Nat) : State :=
  let p := s.pkt k
  let x := s.thread th
  let d := s.passDomain p
  let sd := s.scoutDom d
  let n : Thread :=
    { state := .run, resident := x.resident, entry := x.entry, regs := x.regs, mem := x.mem,
      pc := Config.passEntry (s.cluster th.cluster).profile p.egress, pass := some k, domain := d, egress := p.egress,
      pending := x.pending, channel := x.channel, staged := x.staged, stagedMask := x.stagedMask, spec := { enabled := sd.enable, fill := sd.fill } }
  (((s.setThread th n).setPkt k { p with inPass := true }).countDomain d 0).quietAt th.cluster

/-- A queue of a cluster (R157). -/
def State.clusterQueue (s : State) (c : Nat) (egress : Bool) : List Nat :=
  look (if egress then s.parse.egressQ else s.parse.ingressQ) c []
/-- Set a queue of a cluster. -/
def State.setClusterQueue (s : State) (c : Nat) (egress : Bool) (l : List Nat) : State :=
  if egress then { s with parse := { s.parse with egressQ := put s.parse.egressQ c [] l } }
  else { s with parse := { s.parse with ingressQ := put s.parse.ingressQ c [] l } }

/-- The cluster takes passes: it is in service, not stalled (R231), and Trailhead dispatches. -/
def State.clusterTakes (s : State) (c : Nat) : Bool := s.healthy 4 c && !(s.cluster c).stall && s.dispatching

/-- Give the next queued pass of a cluster a free thread. Which queue goes first is open (R157). -/
def State.feed (s : State) (c : Nat) : State :=
  if !s.clusterTakes c then s
  else
    let i := s.clusterQueue c false
    let e := s.clusterQueue c true
    let egressFirst := i = [] || (e ≠ [] && Config.freeValue s.free % 2 = 1)
    let q := if egressFirst then e else i
    let s := if i ≠ [] && e ≠ [] then s.drawn else s
    match q, s.pickThread c with
    | k :: l, some th => (s.setClusterQueue c egressFirst l).startPass th k
    | _, _ => s

/-- Give queued passes of a cluster its free threads, at most `n`. -/
def State.feedMany (c : Nat) : Nat → State → State
  | 0, s => s
  | n + 1, s =>
    if (s.clusterQueue c false = [] && s.clusterQueue c true = []) || !s.clusterTakes c || (s.pickThread c).isNone then s
    else State.feedMany c n (s.feed c)

/-- Threads of a cluster have become free: its queued passes take them (R157). -/
def State.refeed (s : State) (c : Nat) : State := State.feedMany c 256 s
/-- Trailhead dispatches again: queued passes of every cluster take free threads (R157). -/
def State.refeedAll (s : State) : State := each (fun c s => State.refeed s c) (List.range 32) s

/-- An order bucket of a cluster. -/
def State.bucket (s : State) (c b : Nat) : List Nat := look s.parse.buckets (c * 4096 + b) []
/-- Set an order bucket. -/
def State.setBucket (s : State) (c b : Nat) (l : List Nat) : State :=
  { s with parse := { s.parse with buckets := put s.parse.buckets (c * 4096 + b) [] l } }

/-- A cluster has a place for one more egress pass (R157). -/
def State.egressRoom (s : State) (c : Nat) : Bool :=
  (s.clusterQueue c true).length < 512 || (s.clusterQueue c true = [] && (s.pickThread c).isSome)

/-- A packet enters its cluster: its order bucket, then a free thread or the cluster's queue; an ingress pass that finds its queue full is
dropped and counted, an egress pass waits in the buffer reader (R157). -/
def State.enterCluster (s : State) (c k : Nat) : State :=
  let p := s.pkt k
  let b := bucketOf p.desc.ingress p.desc.hash
  let enter (s : State) : State :=
    (s.setPkt k { s.pkt k with cluster := c, bucket := b, inPass := true, committed := false }).setBucket c b (s.bucket c b ++ [k])
  let q := s.clusterQueue c p.egress
  match if q = [] then s.pickThread c else none with
  | some th => (enter s).startPass th k
  | none =>
    if q.length < 512 then (enter s).setClusterQueue c p.egress (q ++ [k])
    else if p.egress then { s with parse := { s.parse with egressWaiting := k :: s.parse.egressWaiting } }
    else ((s.countParse p.desc.ingress 0).count (2816 + c) 1).dropPkt k

/-- A packet's pass is over for its order bucket. -/
def State.leaveBucket (s : State) (k : Nat) : State :=
  let p := s.pkt k
  (s.setBucket p.cluster p.bucket ((s.bucket p.cluster p.bucket).erase k)).setPkt k { p with inPass := false }

/-- A packet in its pass is dropped. -/
def State.dropPass (s : State) (k : Nat) : State := (s.leaveBucket k).dropPkt k

/-! ### Faults (R226, R228) -/

/-- The fault record (R226). -/
def State.faultRecord (s : State) (th : ThreadId) (code detail : Nat) : Bytes :=
  let x := s.thread th
  leBytes 1 code ++ leBytes 1 (th.engine * 16 + th.thread) ++
    leBytes 1 (x.domain + 16 * b2n (s.isResident th) + 32 * b2n x.egress) ++ leBytes 1 0 ++ leBytes 4 x.last ++
    leBytes 4 detail ++ leBytes 4 (s.clusterTime th.cluster)

/-- Free the slot a thread reserved, with its staged words (R223). -/
def State.unstage (s : State) (th : ThreadId) : State :=
  let x := s.thread th
  match x.channel with
  | none => s
  | some ch =>
    let c := s.channel th.cluster ch
    (s.setThread th { x with channel := none, staged := [], stagedMask := 0 }).setChannel th.cluster ch
      { c with reserved := c.reserved - 1 }

/-- Write a staged word of a thread that holds the channel's slot. -/
def Thread.stageWord (x : Thread) (ch word value : Nat) : Thread :=
  { x with channel := some ch, staged := put x.staged word 0 value, stagedMask := x.stagedMask ||| 2 ^ word,
           state := .run, waiting := .none }

/-- Reserve a slot of a channel for a thread and stage its first word; the thread waits where all 8 are in use (R223). -/
def State.stageFirst (s : State) (th : ThreadId) (ch word value : Nat) : State :=
  let x := s.thread th
  let c := s.channel th.cluster ch
  if c.used < 8 then
    (s.setThread th (x.stageWord ch word value)).setChannel th.cluster ch { c with reserved := c.reserved + 1 }
  else s.setThread th { x with state := .wait, waiting := .slot ch word value }

/-- A thread that waits for a slot tries again. -/
def State.retrySlot (th : ThreadId) (s : State) : State :=
  let x := s.thread th
  match x.waiting with
  | .slot ch word value => if x.state = .wait then s.stageFirst th ch word value else s
  | _ => s

/-- A channel has changed: writers that wait for a slot, then readers and writers that wait on its level. -/
def State.channelMoved (s : State) (c : Nat) : State :=
  (each State.retrySlot (s.threadsOf c) s).wakeCluster c

/-- Where a resident thread starts (R214): the entry point that the profile declares; for a supervisor that the profile does not name it is
not stated. -/
def State.entryOf (s : State) (th : ThreadId) : Nat :=
  if (s.thread th).resident then (s.thread th).entry else Config.supervisorEntry (s.cluster th.cluster).profile

/-- A thread's pass is gone: it becomes EMPTY, with the slot that it reserved and has not committed (R223); a resident thread
restarts at its entry point, where a stop that was on its way still meets it (R215). -/
def State.retire (s : State) (th : ThreadId) (restart : Bool) : State :=
  let x := s.thread th
  let n : Thread := { resident := x.resident, entry := x.entry, regs := x.regs, mem := x.mem, channel := x.channel,
                      staged := x.staged, stagedMask := x.stagedMask }
  let s := s.setThread th (if restart && s.isResident th then
      { n with state := .run, pc := s.entryOf th, stopDue := x.stopDue, stepping := x.stepping } else n)
  s.refeed th.cluster

/-- Post a fault record to a cluster's queue: among those of one CCLK in ascending engine and thread number (R229). -/
def Cluster.postFault (k : Cluster) (cclk : Nat) (r : Bytes) : Cluster :=
  let n := if k.faultCycle = cclk then min k.faultsNew k.faults.length else 0
  let old := k.faults.take (k.faults.length - n)
  let new := k.faults.drop (k.faults.length - n)
  { k with faults := old ++ (new.filter fun q => byteAt q 1 ≤ byteAt r 1) ++ [r] ++ new.filter fun q => byteAt r 1 < byteAt q 1,
           faultCycle := cclk, faultsNew := n + 1 }

/-- A fault is taken (R228): the pass ends as a drop, and the record goes to the supervisor or to Basecamp. -/
def State.takeFault (s : State) (th : ThreadId) (code detail : Nat) : State :=
  let x := s.thread th
  let rec_ := s.faultRecord th code detail
  let c := th.cluster
  let sup := s.isSup th
  let full := 64 ≤ (s.cluster c).faults.length
  let s := (s.unstage th).channelMoved c
  let s := match x.pass with
    | some k => s.dropPass k
    | none => s
  let s := s.countDomain x.domain 10
  let s := if code = 6 then s.countDomain x.domain 11 else s
  let s := if code = 0x0A then
      { s with act := { s.act with stats := bump s.act.stats (x.domain * 8 + 7) 1 } } else s
  let s := if sup || full then
      s.eventTo 0 0x0771 (c + 256 * b2n sup + 512 * b2n full + 65536 * code) x.last
    else (s.setCluster c ((s.cluster c).postFault s.cclk rec_)).wakeCluster c
  s.retire th true

/-! ### Confirmation and squash (R221, R246, R247) -/

/-- The verdict of the thread's packet is outstanding (R379). -/
def State.verdictDue (s : State) (th : ThreadId) : Bool :=
  match (s.thread th).pass with
  | some k => (s.pkt k).sa.isSome && (s.pkt k).verdict.isNone
  | none => false
/-- The thread's packet failed its verdict. -/
def State.verdictBad (s : State) (th : ThreadId) : Bool :=
  match (s.thread th).pass with
  | some k => (s.pkt k).verdict = some false && !(s.pkt k).checkPass
  | none => false

/-- The comparison as the responses now stand (R246). -/
def compareNow (t : Template) (pred : Nat) (got : Sparse Got) : Compare :=
  let field (f : Nat) : Nat := bit pred (24 + f) |> b2n |> (2 ^ (24 + f) * ·)
  let want (f : Nat) : Nat :=
    field f + pred / 2 ^ (fieldPlace f).2 % 2 ^ (fieldPlace f).1 * 2 ^ (fieldPlace f).2
  let arrived (f : Nat) : Option Got := match t.tag f with
    | none => none
    | some k => let g := look got k {}; if g.live then some g else none
  if (List.range 4).any fun f => match arrived f with
      | some g => g.status = 3
      | none => false then .unequal true none
  else if (List.range 4).any fun f => (arrived f).isSome && assembleField t got f ≠ want f then .unequal false none
  else if t.tags.all (fun k => (look got k {}).live && (look got k {}).status ≤ 1) then
    (if assemble t got = pred then .equal else .unequal false none)
  else .open_

/-- Count a squash's start: the interval's squashes (R253). -/
def State.noteCompare (s : State) (th : ThreadId) : State :=
  let x := s.thread th
  match x.spec.found with
  | none => s
  | some (pred, _) =>
    if x.spec.prov && x.spec.compare = .open_ then
      s.setThread th { x with spec := { x.spec with compare := compareNow (s.tplOf x) pred x.got } }
    else s

/-- A provisional thread confirms (R221): its slots stand, its hit writes go out, its way is marked as used. -/
def State.confirm (s : State) (th : ThreadId) : State :=
  let s := s.resolveSlots th true
  let x := s.thread th
  let s := each (fun h s => State.sendHit s h.1 h.2.1 h.2.2.1) x.hits s
  let s := match s.findWay th.cluster x.domain x.spec.sig x.spec.template with
    | some k => s.touch k
    | none => s
  s.setThread th { x with hits := [], spec := { x.spec with prov := false, ckpt := none, undo := [], cleared := 0 } }

/-- Restore the words that a provisional run wrote, newest first. -/
def unwind (mem : Sparse Nat) : List (Nat × Nat) → Sparse Nat
  | [] => mem
  | (w, v) :: t => unwind (put mem w 0 v) t

/-- The registers of a checkpoint with the present 62 and 63 (R245). -/
def restoreRegs (old new : Sparse Nat) : Sparse Nat :=
  put (put old 62 0 (look new 62 0)) 63 0 (look new 63 0)

/-- The sum of the bits of keys. -/
def bitsOfKeys (l : List Nat) : Nat := l.foldl (fun m k => m ||| 2 ^ k) 0

/-- The responses that a squash keeps (R247): those of requests issued before the checkpoint, also where the tag has been used again since. -/
def keptGot (l : Sparse Got) : Sparse Got :=
  (keepRows l fun k _ => 64 ≤ k).foldl (fun m r => put m (r.1 - 64) {} r.2) (keepRows l fun k g => !g.after && k < 64)

/-- A squash (R247, R248). Fault 0x09 of a timed-out comparison is taken by the replay; a stopped thread takes it once it
resumes (R233). -/
def State.squash (s : State) (th : ThreadId) : State :=
  let s := s.resolveSlots th false
  let x := s.thread th
  match x.spec.ckpt with
  | none => s
  | some ck =>
    let goneOut := keepRows x.out fun _ r => r.after
    let goneGot := keepRows x.got fun _ g => g.after
    let gone := bitsOfKeys (goneOut.map fun r => r.1) ||| bitsOfKeys (goneGot.map fun r => r.1)
    let got := keptGot x.got
    let out := keepRows x.out fun _ r => !r.after
    let other := match x.spec.compare with
      | .unequal o _ => o
      | _ => false
    let timeout := match x.spec.compare with
      | .unequal _ t => t
      | _ => none
    let lookups := countRows (goneOut.filter fun r => r.1 < 8 && !r.2.tree) (fun _ _ => true) +
      countRows (goneGot.filter fun r => r.1 < 8 && !r.2.tree) (fun _ _ => true)
    let scans := countRows (goneOut.filter fun r => r.2.tree || r.1 = 10) (fun _ _ => true) +
      countRows (goneGot.filter fun r => r.2.tree || r.1 = 10) (fun _ _ => true)
    let stopped := x.state = .stopped
    let y : Thread :=
      { x with pc := ck.pc, regs := restoreRegs ck.regs x.regs, mem := unwind x.mem x.spec.undo, mask := ck.mask,
               watch := ck.watch, timer := ck.timer, issued := ck.issued, out := out, got := got,
               issuedTags := bitsOfKeys (out.map fun r => r.1) ||| bitsOfKeys (got.map fun r => r.1),
               hits := x.hits.filter fun h => !h.2.2.2,
               pending := clearBits (x.pending ||| x.spec.cleared) gone, waiting := .none, yieldUntil := 0,
               state := if stopped then .stopped else .run, before := if stopped then .run else x.before,
               spec := { x.spec with prov := false, ckpt := none, undo := [], cleared := 0, heldFault := none } }
    let s := s.setThread th (y.putBundle (assemble (s.tplOf x) got))
    let s := (s.countScout th.cluster x.domain 2 1).countScout th.cluster x.domain 3 (b2n other)
    let s := { s with scout := { s.scout with squashes := bump s.scout.squashes (th.cluster * 16 + x.domain) 1 } }
    let s := (s.countDomain x.domain 1)
    let s := (s.count (2560 + 16 * x.domain + 3) lookups).count (2560 + 16 * x.domain + 4) scans
    match timeout with
    | some b =>
      if stopped then
        let z := s.thread th
        s.setThread th { z with spec := { z.spec with heldFault := some (9, b) } }
      else s.takeFault th 9 b
    | none => s

/-! ### Operations of a thread (R220–R225, R249) -/

/-- The domain may name a partition's object (R109): it owns the partition. -/
def State.mayUse (s : State) (th : ThreadId) (part : Nat) : Bool := s.owns (s.thread th).domain 3 part

/-- CHAN_STAGE (R223). -/
def State.stage (s : State) (th : ThreadId) (ch word value : Nat) : State :=
  let x := s.thread th
  match x.channel with
  | some k => if k = ch then s.setThread th (x.stageWord ch word value) else s.takeFault th 4 ch
  | none => s.stageFirst th ch word value

/-- Place a commit among those that are not yet visible: after all of earlier CCLKs, and within its own by ascending engine and thread
number (R224). -/
def insertComing (key : Nat × Nat) (due : Nat) (msg : List Nat) : List (Nat × Nat × List Nat) → List (Nat × Nat × List Nat)
  | [] => [(due, key.2, msg)]
  | m :: t => if (m.1 - 12) / 3 = key.1 && key.2 < m.2.1 then (due, key.2, msg) :: m :: t else m :: insertComing key due msg t

/-- CHAN_COMMIT (R224). -/
def State.commit (s : State) (th : ThreadId) : State :=
  let x := s.thread th
  match x.channel with
  | none => s.takeFault th 5 0
  | some ch =>
    let c := s.channel th.cluster ch
    let len := (List.range 8).foldl (fun n w => if bit x.stagedMask w then w + 1 else n) 0
    let msg := (List.range len).map fun w => look x.staged w 0
    (s.setThread th { x with channel := none, staged := [], stagedMask := 0 }).setChannel th.cluster ch
      { c with reserved := c.reserved - 1, coming := insertComing (s.cclk, th.engine * 16 + th.thread) (s.now + 12) msg c.coming,
               commits := (c.commits + 1) % 65536 }

/-- The thread can execute an instruction: it runs, waits for nothing and holds no fault. -/
def State.canRun (s : State) (th : ThreadId) : Bool :=
  let x := s.thread th
  x.state = .run && x.waiting = .none && x.spec.heldFault.isNone && (match x.spec.compare with
    | .unequal _ _ => !x.spec.prov
    | _ => true)

/-- The reads of a channel that wait in the queue for this CCLK and come first by engine and thread number (R225). -/
def State.readsAhead (s : State) (th : ThreadId) (ch : Nat) : Nat :=
  (s.pending.filter fun
    | .chanRead t u k => t / 3 ≤ s.cclk && u.cluster = th.cluster && k % 256 = ch &&
        u.engine * 16 + u.thread < th.engine * 16 + th.thread && s.canRun u && !(s.thread u).spec.prov
    | _ => false).length

/-- A channel read (R225): the oldest message that no read before it in the same CCLK takes. -/
def State.chanRead (s : State) (th : ThreadId) (ch : Nat) : State :=
  let x := s.thread th
  let c := s.channel th.cluster ch
  let n := s.readsAhead th ch
  match c.visible[n]? with
  | none => s.setThread th { x with message := none }
  | some m => ((s.setThread th { x with message := some m }).setChannel th.cluster ch
      { c with visible := c.visible.eraseIdx n }).channelMoved th.cluster

/-- Write a word of local memory; while provisional through the undo log (R245). -/
def State.localWrite (s : State) (th : ThreadId) (w v : Nat) : State :=
  let x := s.thread th
  let old := look x.mem w 0
  let sp := if x.spec.prov && !(x.spec.undo.any fun u => u.1 = w) then { x.spec with undo := (w, old) :: x.spec.undo } else x.spec
  s.setThread th { x with mem := put x.mem w 0 v, spec := sp }

/-- The list of an action pointer; none where it names no list that the domain may use (R255). -/
def State.resolveList (s : State) (d ptr : Nat) : Option Bytes :=
  if ptr = 0 then some []
  else
    match if s.act.missing.contains ptr then [] else look s.act.lists ptr [] with
    | [] => none
    | b => if s.owns d 3 (ptr / 2 ^ 20) then some b else none

/-- The outermost IP layer of a packet's parse (R263): its offset, whether it is IPv6 and whether it is ECN-capable. -/
def Packet.outerIp (p : Packet) : Nat × Bool × Bool :=
  match p.ipLayers.findIdx? id with
  | none => (0xFFFF, false, false)
  | some i =>
    let off := leAt p.hv (25 + 3 * i) 2 % 512
    let v6 := byteAt p.bytes off / 16 = 6
    let ecn := if v6 then beAt p.bytes off 2 / 16 % 4 else byteAt p.bytes (off + 1) % 4
    (off, v6, ecn ≠ 0)

/-- The descriptor that the edit engine fills at hand-off (R263). -/
def fillDesc (x : Thread) (p : Packet) : Desc :=
  let b := look x.regs 62 0 + 2 ^ 64 * look x.regs 63 0
  let ip := p.outerIp
  { p.desc with queue := b / 2 ^ 32 % 2 ^ 20, port := if p.egress then p.desc.port else b / 2 ^ 52 % 2 ^ 7,
                cls := b / 2 ^ 96 % 256, domain := x.domain, egressPass := false,
                color := if p.egress then p.desc.color else 3, ptpOffset := 0xFFFF, ptpKind := 0,
                ipOffset := ip.1, ipv6 := ip.2.1, ecn := ip.2.2 }

/-- The fill of a pass (R250): the conditions that hold at hand-off. -/
def State.fillOf (s : State) (x : Thread) (hv : Bytes) : Option Fill :=
  let t := s.tplOf x
  let b := assemble t x.got
  let all := t.tags.all fun k => (look x.got k {}).live && (look x.got k {}).status = 0
  let same := match x.spec.found with
    | some (pred, _) => pred = b
    | none => false
  if t.enabled && x.spec.fill && !outerOnly hv && all && !same && x.spec.probed then
    some { domain := x.domain, sig := x.spec.sig, template := x.spec.template, bundle := b }
  else none

/-- Queue a fill at its cluster's cache port (R250). -/
def State.queueFill (s : State) (c : Nat) (f : Fill) : State :=
  let l := look s.scout.fills c []
  if l.length < 64 then { s with scout := { s.scout with fills := put s.scout.fills c [] (l ++ [f]) } }
  else s.countScout c f.domain 5 1

/-- A confirmed thread ends its pass (R255): a drop, or the packet with its list and descriptor goes to the edit engine of
its cluster; a resident thread restarts. -/
def State.passEnd (s : State) (th : ThreadId) (e : PassEnd) : State :=
  let x := s.thread th
  match x.pass with
  | none => s.retire th true
  | some k =>
    let p := s.pkt k
    if e.malformed then s.takeFault th 0x0A e.pointer
    else if e.drop then (s.dropPass k).retire th false
    else
      match s.resolveList x.domain e.pointer with
      | none => s.takeFault th 0x0A e.pointer
      | some l =>
        let s := s.setPkt k { p with pointer := e.pointer, list := l, desc := fillDesc x p,
                                     fill := if p.egress then none else s.fillOf x p.hv }
        let q := look s.act.editQ th.cluster []
        let s := { s with act := { s.act with editQ := put s.act.editQ th.cluster [] (q ++ [k]) } }
        s.retire th false

/-- Start a DMA between the packet buffer and local memory (R218). -/
def State.startDma (s : State) (th : ThreadId) (d : PktDma) : State :=
  let x := s.thread th
  if 8192 < d.localOff + d.len then s.takeFault th 2 d.localOff
  else s.setThread th { x with out := put x.out 11 {} { live := true, at_ := s.now, dma := some d } }

/-- Write a metadata word of the packet's descriptor. -/
def Desc.setMeta (d : Desc) (i v : Nat) : Desc :=
  match i with
  | 0 => { d with meta0 := v }
  | 1 => { d with meta1 := v }
  | 2 => { d with meta2 := v }
  | _ => d

/-- Carry out an operation of a thread that may execute it (R249). -/
def State.runOp (s : State) (th : ThreadId) (op : HeldOp) : State :=
  let x := s.thread th
  let c := th.cluster
  match op with
  | .confirm => s
  | .signal e t g => s.setCluster c { s.cluster c with signals := (s.cluster c).signals ++
      [{ due := s.now + 12, engine := e, thread := t, sig := g }] }
  | .stage ch w v => s.stage th ch w v
  | .commit => s.commit th
  | .chanRead ch => s.chanRead th ch
  | .faultRaise code d => if 0x80 ≤ code && code ≤ 0xFF then s.takeFault th code d else s.takeFault th 1 x.last
  | .faultRead =>
    let k := s.cluster c
    (s.setCluster c { k with faults := k.faults.drop 1 }).setThread th
      { x with message := k.faults.head?.map fun r => [leAt r 0 8, leAt r 8 8] }
  | .dma l po lo n => s.startDma th { toLocal := l, packetOff := po, localOff := lo, len := n }
  | .localWrite w v => s.localWrite th w v
  | .sharedWrite w v => s.setCluster c { s.cluster c with shared := put (s.cluster c).shared w 0 v }
  | .learn t key r =>
    let p := match x.pass with
      | some k => (s.pkt k).desc.ingress
      | none => 0
    s.sendLearn { domain := x.domain, table := t, key := leAt key 0 16, result := r, port := p }
  | .metaWord i v => match x.pass with
    | some k => s.setPkt k { s.pkt k with desc := (s.pkt k).desc.setMeta i v }
    | none => s
  | .passEnd e => s.passEnd th e

/-- A thread in CONFIRM goes on when the comparison is equal and the verdict known (R221, R379): a held fault is taken, a
failed frame ends as a drop, else the held operation is carried out. -/
def State.settle (s : State) (th : ThreadId) : State :=
  let x := s.thread th
  let held := x.spec.heldFault
  let op := match x.waiting with
    | .confirm op => some op
    | _ => none
  if (op.isNone && held.isNone) || s.verdictDue th || (x.spec.prov && x.spec.compare ≠ .equal) || x.state = .stopped then s
  else
    let s := if x.spec.prov && !s.verdictBad th then s.confirm th else if x.spec.prov then s.resolveSlots th true else s
    let y := s.thread th
    let s := s.setThread th { y with waiting := .none, spec := { y.spec with heldFault := none, prov := false } }
    if s.verdictBad th then s.passEnd th { drop := true, pointer := 0, malformed := false }
    else
      match held, op with
      | some (code, d), _ => s.takeFault th code d
      | none, some op => s.runOp th op
      | none, none => s

/-- A fault arises: held while the thread is provisional, and then taken when it confirms (R228), or while it is STOPPED, and then taken
when it resumes (R233); else taken at once. -/
def State.fault (s : State) (th : ThreadId) (code detail : Nat) : State :=
  let x := s.thread th
  if x.spec.prov || x.state = .stopped then
    if x.spec.heldFault.isSome then s
    else (s.setThread th { x with spec := { x.spec with heldFault := some (code, detail) } }).settle th
  else s.takeFault th code detail

/-- A tag that the template maps has not been requested (R246: incomplete). -/
def State.incomplete (s : State) (th : ThreadId) : Bool :=
  let x := s.thread th
  (s.tplOf x).tags.any fun k => !bit x.issuedTags k

/-- A thread reaches a held operation (R222): at once where it is confirmed and its verdict known, else behind CONFIRM. -/
def State.doOp (s : State) (th : ThreadId) (op : HeldOp) : State :=
  let x := s.thread th
  if x.spec.prov || s.verdictDue th || s.verdictBad th then
    let cmp := if x.spec.prov && x.spec.compare = .open_ && s.incomplete th then .unequal true none else x.spec.compare
    (s.setThread th { x with waiting := .confirm op, spec := { x.spec with compare := cmp } }).settle th
  else s.runOp th op

/-- The instructions of a thread: nothing comes about where it cannot run. -/
def State.instr (s : State) (th : ThreadId) (f : State → State) : State := if s.canRun th then f s else s

/-! ### Steering (R159) -/

/-- A packet of a steering entry is still uncommitted in a cluster. -/
def State.uncommitted (s : State) (idx c : Nat) : Bool :=
  s.pkts.any fun r => r.2.inPass && !r.2.committed && r.2.steer = idx && r.2.cluster = c
/-- A steering hold. -/
def State.hold (s : State) (i : Nat) : SteerHold := look s.parse.holds i {}
/-- Set a steering hold. -/
def State.setHold (s : State) (i : Nat) (h : SteerHold) : State :=
  { s with parse := { s.parse with holds := put s.parse.holds i {} h } }

/-- The packets of a hold enter the new cluster, oldest first; an egress pass that finds no room goes back to the buffer reader (R157). -/
def enterHeld (c : Nat) : List Nat → State → State
  | [], s => s
  | k :: l, s =>
    if (s.pkt k).egress && !s.egressRoom c then
      let s := enterHeld c l s
      { s with parse := { s.parse with egressWaiting := k :: s.parse.egressWaiting } }
    else enterHeld c l (s.enterCluster c k)

/-- The new cluster releases the packets it holds. -/
def State.releaseHold (s : State) (i : Nat) : State := enterHeld (s.steer i) (s.hold i).held (s.setHold i {})

/-- No entry waits for a cluster that has failed (R159). -/
def State.releaseFrom (s : State) (c : Nat) : State :=
  each (fun (r : Nat × SteerHold) s => if r.2.active && r.2.old = c then State.releaseHold s r.1 else s) s.parse.holds s

/-- A steering entry names another cluster; where it must, the new cluster waits for the old one (R159). -/
def State.moveSteer (s : State) (i c : Nat) (wait : Bool) : State :=
  let old := s.steer i
  if old = c then s
  else
    let s := { s with parse := { s.parse with steer := put s.parse.steer i 0 (if c = i % 32 then 0 else c + 1) } }
    if wait && s.uncommitted i old then
      s.setHold i { s.hold i with active := true, old := old, since := if (s.hold i).active then (s.hold i).since else s.now }
    else if (s.hold i).active && !wait then s.releaseHold i
    else s

/-- Steer an entry away from a cluster that serves no more: the cluster that takes it is free among the healthy ones
(R159). -/
def State.steerAway (c : Nat) (i : Nat) (s : State) : State :=
  if s.steer i ≠ c then s
  else
    let l := (List.range 32).filter fun k => s.healthy 4 k && k ≠ c
    match l[Config.freeValue s.free % l.length]? with
    | none => s
    | some k => s.drawn.moveSteer i k false

/-- The packets held in a cluster are dropped: those of its threads, queues, edit queue and buckets. -/
def State.dropCluster (s : State) (c : Nat) : State × Nat :=
  let ks := (s.pkts.filter fun r => r.2.inPass && r.2.cluster = c).map fun r => r.1
  let s := each (fun k s => State.dropPass s k) ks s
  let s := (s.setClusterQueue c false []).setClusterQueue c true []
  ({ s with act := { s.act with editQ := put s.act.editQ c [] [] } }, ks.length)

/-- A cluster reset (R214, R220): every thread EMPTY with its provisional slots undone, channels, signals, faults and the
ALLWAIT snapshot clear, the time counter at 0; slot tables, supervisor, budget and ALLWAIT limit as after reset (R217, R226, R227, R230). -/
def State.resetCluster (s : State) (c : Nat) : State :=
  let s := each (fun th s => if (s.thread th).spec.prov then s.resolveSlots th false else s) (s.threadsOf c) s
  let keep (x : Thread) : Thread := { resident := x.resident, entry := x.entry }
  let ths := s.eng.threads.filterMap fun r => if r.1 / 256 = c then
      (if keep r.2 = {} then none else some (r.1, keep r.2)) else some r
  let k := s.cluster c
  let s := { s with eng := { s.eng with threads := ths, engines := s.eng.engines.filter fun r => r.1 / 16 ≠ c },
                    assoc := { s.assoc with searches := s.assoc.searches.filter fun x => x.thread.cluster ≠ c } }
  s.setCluster c { origin := s.now, health := s.now, profile := k.profile }

/-- The resident threads of a cluster, its supervisor among them, start at their entry points (R214). -/
def State.startResidents (s : State) (c : Nat) : State :=
  let sup : ThreadId := { cluster := c, engine := (s.cluster c).supEngine, thread := (s.cluster c).supThread }
  if (s.cluster c).profile = 0 then s
  else
    each (fun th s =>
      let x := s.thread th
      if s.isResident th && x.state = .empty then s.setThread th { x with state := .run, pc := s.entryOf th } else s)
      (sup :: s.threadsOf c) s

end Sys2Proof.Machine
end

