-- ==== Sys2Proof/Machine/Engine.lean ====
section
/-! DEFINITION. Trailhead's dispatch, requests of threads and their responses, the engines' issue, thread-control
instructions, ALLWAIT and thread debug (07_parse_and_classify.md, 10_packet_engines.md). -/

namespace Sys2Proof.Machine

/-! ### Dispatch (R155–R159) -/

/-- The frames of a port that wait for Trailhead. -/
def State.waitingOn (s : State) (p : Nat) : List Nat := look s.parse.waiting p []
/-- Set the frames of a port that wait for Trailhead. -/
def State.setWaiting (s : State) (p : Nat) (l : List Nat) : State :=
  { s with parse := { s.parse with waiting := put s.parse.waiting p [] l } }

/-- Dispatch a packet by its steering entry: into its cluster, or behind the hold of a moved entry (R159). -/
def State.dispatch (s : State) (k hash : Nat) : State :=
  let p := s.pkt k
  let i := steerIdx hash
  let c := s.steer i
  let s := s.setPkt k { p with steer := i, desc := { p.desc with hash := hash } }
  if (s.hold i).active then s.setHold i { s.hold i with held := (s.hold i).held ++ [k] }
  else if s.healthy 4 c && !(s.cluster c).stall then s.enterCluster c k
  else s.dropPkt k

/-- INGRESS_DISPATCH (R155–R157): the port's oldest frame. With fewer than 15 Guyline groups what the remaining capacity
carries is free, and a packet that cannot be dispatched is dropped and counted (R24). -/
def execIngressDispatch (t port : Nat) (s : State) : Host.Outcome State Fault Refusal :=
  let s := s.at_ t
  .next (if !s.dispatching then s
    else match s.waitingOn port with
      | [] => s
      | k :: l =>
        let s := s.setWaiting port l
        let few := 1 < s.countOut 3
        let s1 := if few then s.drawn else s
        if few && Config.freeValue s.free % 2 = 1 then (s1.dropPkt k).count 2880 1
        else s1.dispatch k (flowHash (s.parsePort port).hashSelect (s.pkt k).bytes))

/-- EGRESS_DISPATCH (R155, R157, R264): the oldest packet of a port that waits for its egress-feature pass; the T die's
reader holds it while the cluster's egress queue is full. -/
def execEgressDispatch (t port : Nat) (s : State) : Host.Outcome State Fault Refusal :=
  let s := s.at_ t
  .next (if !s.dispatching then s
    else match s.parse.egressWaiting.find? fun k => (s.pkt k).desc.port = port with
      | none => s
      | some k =>
        let h := (s.pkt k).desc.hash
        if (s.hold (steerIdx h)).active || s.egressRoom (s.steer (steerIdx h)) then
          ({ s with parse := { s.parse with egressWaiting := s.parse.egressWaiting.erase k } }).dispatch k h
        else s)

/-- A packet with the header vector of its pass under the graph in use (R160, R164, R166). A PON frame stands in the packet behind the 8
bytes that R359 puts in front. -/
def State.parsePkt (s : State) (p : Packet) : Packet :=
  let port := if p.egress then p.desc.port else p.desc.ingress
  let w := match s.parse.graph with
    | none => ({} : Walk)
    | some g => parseFrom g ((g.start[(s.parsePort port).profile]?).getD 0xFF) p.bytes
  let mac := if !p.egress && (s.port port).personality = .pon then 8 else 0
  { p with hv := headerVector w port (s.passDomain p) (s.port port).personality.code p.egress p.bytes.length p.desc.hash p.desc.stamp
             (bit (byteAt p.bytes mac) 0),
           writers := w.writers, ipLayers := w.ipLayers }

/-- PARSE_COMPLETE (R160, R166, R244): the header vector reaches the thread; Scout answers 6 CCLK later; an outer-only
packet of a port with odd_drop is dropped. The port of an egress pass is the egress port, as in the header vector (log entry 136). -/
def execParseComplete (t : Nat) (th : ThreadId) (s : State) : Host.Outcome State Fault Refusal :=
  let s := s.at_ t
  let x := s.thread th
  .next (match x.pass with
    | none => s
    | some k =>
      if x.parsed then s
      else
        let p := s.pkt k
        let parsed := s.parsePkt p
        let hv := parsed.hv
        let status := byteAt hv 20
        let port := if p.egress then p.desc.port else p.desc.ingress
        let pp := s.parsePort port
        let s := if 1 ≤ status && status ≤ 5 then s.countParse port status else s
        if outerOnly hv && pp.oddDrop then (((s.countParse port 6).dropPass k).retire th false).quietAt th.cluster
        else
          let s := if outerOnly hv then s.countDomain x.domain 12 else s
          let tpl := 16 * b2n p.egress + pp.profile
          let sig := signature x.domain (b2n p.egress) pp.profile (s.template x.domain tpl) hv
          ((s.setPkt k parsed).setThread th
            { x with parsed := true, spec := { x.spec with due := some (s.now + 18), sig := sig, template := tpl } }).quietAt th.cluster)

/-- ORDER_BUCKET_RELEASE (R158, R159): the oldest packet of a bucket passes on once it is committed; one that its entry's
release has passed is counted. Where it goes stands in `onward`. -/
def State.releaseBucket (s : State) (c b : Nat) (onward : Nat → State → State) : State :=
  match s.bucket c b with
  | [] => s
  | k :: _ =>
    let p := s.pkt k
    if !p.committed then s
    else
      let s := s.leaveBucket k
      let s := if p.late then s.countParse p.desc.ingress 7 else s
      onward k s

/-- STEER_HOLD_DRAINED (R159). -/
def execSteerHoldDrained (t idx : Nat) (s : State) : Host.Outcome State Fault Refusal :=
  let s := s.at_ t
  let h := s.hold idx
  .next (if h.active && !s.uncommitted idx h.old then s.releaseHold idx else s)

/-- STEER_HOLD_TIMEOUT (R159): after 20 µs the new cluster releases its packets; those still uncommitted in the old one
are late. -/
def execSteerHoldTimeout (t idx : Nat) (s : State) : Host.Outcome State Fault Refusal :=
  let s := s.at_ t
  let h := s.hold idx
  .next (if h.active && h.since + us 20 ≤ s.now then
      let late (x : Packet) : Packet :=
        if x.inPass && !x.committed && x.steer = idx && x.cluster = h.old then { x with late := true } else x
      ({ s with pkts := s.pkts.map fun (r : Nat × Packet) => (r.1, late r.2) }).releaseHold idx
    else s)

/-- TRAILHEAD_STEER_REBALANCE (R159). -/
def execTrailheadSteerRebalance (t idx cluster : Nat) (s : State) : Host.Outcome State Fault Refusal :=
  let s := s.at_ t
  .next (if idx < 1024 && cluster < 32 && s.healthy 4 cluster then s.moveSteer idx cluster true else s)

/-! ### Requests and responses (R178, R173, R208, R218) -/

/-- Record a request of a thread under its event bit. -/
def State.request (s : State) (th : ThreadId) (b : Nat) (r : Request) : State :=
  let x := s.thread th
  let s := if r.status = 3 then s.countDomain x.domain 2 else s
  s.setThread th { x with out := put x.out b {} { r with live := true, at_ := s.now, after := x.spec.prov },
                          issuedTags := x.issuedTags ||| 2 ^ b }

/-- An event bit is free for a request. -/
def State.tagFree (s : State) (th : ThreadId) (b : Nat) : Bool := !(look (s.thread th).out b {}).live

/-- The lookup response in bytes (R178). -/
def LookupResult.bytes (r : LookupResult) : Bytes :=
  leBytes 1 r.status ++ leBytes 1 r.info ++ leBytes 2 0 ++ leBytes 4 r.handle ++ leBytes 8 r.result

/-- The accesses of a lookup in the DRAM stacks (R181, R196, R411): an exact-match lookup's two candidate buckets, or an LPM lookup's
leaves that are not in the leaf cache. -/
def State.lookupReads (s : State) (table key : Nat) (leaves : List (Nat × Nat × Nat)) : State :=
  let x := s.table table
  if !x.live then s
  else if x.kind < 2 then
    each (fun l s => if s.tables.leafCache.contains l then s else State.dramBest s (l.2.2 % 4) 64 0) leaves s
  else if x.sram then s
  else
    let c := x.cands key
    (s.dramBest (x.stackOf c.1) 64 0).dramBest (x.stackOf c.2) 64 0

/-- LOOKUP_ISSUE (R178, R179). -/
def execLookupIssue (t : Nat) (th : ThreadId) (tag table : Nat) (key : Bytes) (s : State) : Host.Outcome State Fault Refusal :=
  let s := s.at_ t
  .next (s.instr th fun s =>
    if !(tag < 8 && s.tagFree th tag) then s
    else
      let d := (s.thread th).domain
      let r := s.lookupTable d table key
      let x := s.table table
      let hit := if r.status = 0 && 2 ≤ x.kind then some (table, leAt key 0 16 % 2 ^ x.keyBits, r.handle) else none
      let read := if r.status = 3 then ([], false) else s.leafRead table key
      let leaves := read.1.map fun l => (d, table, l)
      let s := if r.status = 3 then s else s.lookupReads table (leAt key 0 16 % 2 ^ x.keyBits) (if read.2 then leaves else [])
      s.request th tag { status := r.status, result := r.result, bytes := r.bytes, hit := hit, leaves := leaves, far := read.2,
                         table := if r.status = 3 then none else some table })

/-- CLASSIFY_ISSUE (R165–R168, R173): its leaf and rules are read in a DRAM stack or in table SRAM; where the stack or the SRAM bank is out,
it reads as a miss (R441). -/
def execClassifyIssue (t : Nat) (th : ThreadId) (tag tree : Nat) (s : State) : Host.Outcome State Fault Refusal :=
  let s := s.at_ t
  .next (s.instr th fun s =>
    if !(tag < 8 && s.tagFree th tag) then s
    else
      let p := s.pkt ((s.thread th).pass.getD s.nextPkt)
      let x := s.tree tree
      let ok := tree < 1024 && x.live && s.mayUse th x.partition
      let key := treeKey x p.hv p.writers (outerCount p.ipLayers)
      let stack := Config.treeStack tree key
      let far := decide (stack < 4)
      let miss := x.bankMiss || (far && s.isOut 9 stack)
      let r : LookupResult := if ok then { status := 0, result := x.classify key miss } else { status := 3 }
      (if ok && far && !miss then s.dramBest stack 64 0 else s).request th tag { status := r.status, result := r.result, bytes := r.bytes, tree := true })

/-- Scans of a cluster's queue (R171); one that was refused or found the queue full is not in it. -/
def State.scansQueued (s : State) (c : Nat) : Nat :=
  countRows s.eng.threads fun k x => k / 256 = c && (look x.out 10 {}).live && (look x.out 10 {}).status < 2

/-- SCAN_ISSUE (R171–R173). -/
def execScanIssue (t : Nat) (th : ThreadId) (set depth : Nat) (s : State) : Host.Outcome State Fault Refusal :=
  let s := s.at_ t
  .next (s.instr th fun s =>
    if !s.tagFree th 10 then s
    else
      let p := s.pkt ((s.thread th).pass.getD s.nextPkt)
      let x := s.aset set
      let off := leAt p.hv 72 2
      let r : ScanResult :=
        if !(set < 256 && x.live && s.mayUse th x.partition) then { status := 3 }
        else if 64 ≤ s.scansQueued th.cluster then { status := 2 }
        else scan x.patterns ((p.bytes.drop off).take (min depth 1024))
      s.request th 10 { status := r.status, bytes := r.bytes })

/-- ASSOC_SEARCH_ISSUE (R208, R209). -/
def execAssocSearchIssue (t : Nat) (th : ThreadId) (tag array : Nat) (key : Bytes) (s : State) :
    Host.Outcome State Fault Refusal :=
  let s := s.at_ t
  .next (s.instr th fun s =>
    if !(tag < 2 && s.tagFree th (8 + tag)) then s
    else
      let d := (s.thread th).domain
      let s := { s with assoc := { s.assoc with searches := s.assoc.searches.filter fun x => !(x.thread = th && x.tag = tag) } }
      if array < 32 && s.ownsArray d array then
        ((s.request th (8 + tag) {}).countDomain d 5).issueSearch th tag array (leAt key 0 80)
      else s.request th (8 + tag) { status := 3, bytes := (AResponse.mk 3 0 0 0 0).bytes })

/-- The responses of a thread as another arrives under `b`: one that came before the checkpoint is kept beside one of a lookup issued after
it, so that a squash finds it again (R247). -/
def Thread.keepGot (x : Thread) (b : Nat) (r : Request) : Sparse Got :=
  let g := look x.got b {}
  if r.after && g.live && !g.after then put x.got (b + 64) {} g else x.got

/-- A response arrives: its event is latched, Scout's comparison sees it, and a thread in CONFIRM may go on. -/
def State.respond (s : State) (th : ThreadId) (b : Nat) (r : Request) : State :=
  let x := s.thread th
  let hits := match r.hit with
    | some (k, key, h) => if r.status = 0 then x.hits ++ [(k, key, h, r.after)] else x.hits
    | none => x.hits
  let y := { x with out := put x.out b {} {}, hits := hits,
                    got := put (x.keepGot b r) b {}
                      { live := true, status := r.status, result := r.result, after := r.after, bytes := r.bytes, tree := r.tree } }
  let t := s.tplOf x
  let y := if !x.spec.prov && t.tags.contains b && x.spec.probed then y.putBundle (assemble t y.got) else y
  ((((s.setThread th y).noteCompare th).latch th b).settle th).quietAt th.cluster

/-- A bad entry that a lookup reads makes it a miss (R196). -/
def Request.meet (r : Request) (t : Table) (e : EntryError) : Request :=
  let place := match r.hit with
    | some (_, _, h) => some (t.placeOf h)
    | none => none
  if (e.firstBad && place = some (4 * e.bucket + e.slot)) || r.leaves.any (fun l => (e.bucket :: e.leaves).contains l.2.2) then
    { r with status := 1, result := 0, hit := none, leaves := [], bytes := (LookupResult.mk 1 0 0 0).bytes }
  else r

/-- LOOKUP_RESPONSE (R178, R182, R196, R239, R246). -/
def execLookupResponse (t : Nat) (th : ThreadId) (tag : Nat) (err : Option EntryError) (s : State) :
    Host.Outcome State Fault Refusal :=
  let s := s.at_ t
  let r := look (s.thread th).out tag {}
  .next (if !(r.live && tag < 8) then s
    else
      let (s, r) := match err, r.table with
        | some e, some k => (s.entryError k e, r.meet (s.table k) e)
        | _, _ => (s, r)
      let s := if r.after || !r.far then s else each (fun (l : Nat × Nat × Nat) s => State.fillLeaf s l.1 l.2.1 l.2.2) r.leaves s
      s.respond th tag r)

/-- SCAN_RESPONSE (R172). -/
def execScanResponse (t : Nat) (th : ThreadId) (s : State) : Host.Outcome State Fault Refusal :=
  let s := s.at_ t
  let r := look (s.thread th).out 10 {}
  .next (if r.live then s.respond th 10 r else s)

/-- ASSOC_RESPONSE (R205, R208, R212, R213): the answer of a search, status 2 where it met a parity error. -/
def execAssocResponse (t : Nat) (th : ThreadId) (ans : SearchEnd) (s : State) : Host.Outcome State Fault Refusal :=
  let s := s.at_ t
  let tag := ans.tag
  let r := look (s.thread th).out (8 + tag) {}
  .next (if !(r.live && tag < 2) then s
    else if r.status = 3 then s.respond th (8 + tag) r
    else match s.assoc.searches.find? fun x => x.thread = th && x.tag = tag with
      | none => s
      | some q =>
        if s.cclk < q.start then s
        else
          let s := s.settleSearches q.array s.cclk
          let mine (x : ASearch) : Bool := x.thread = th && x.tag = tag
          let a := ((s.assoc.searches.find? mine).getD q).answer ans.bad
          let s := { s with assoc := { s.assoc with searches := s.assoc.searches.filter fun x => !mine x } }
          (s.count (2560 + 16 * (s.thread th).domain + 6) a.groups).respond th (8 + tag)
            { r with status := a.status, result := a.result, bytes := a.bytes })

/-! ### Issue (R216, R217, R227, R428, R429) -/

/-- A thread is ready to issue (R216). -/
def State.ready (s : State) (th : ThreadId) (waiting : List Nat) : Bool :=
  let x := s.thread th
  s.canRun th && (x.parsed || x.pass.isNone) && !x.stopDue && x.yieldUntil ≤ s.cclk && !waiting.contains th.thread &&
    (x.pass.isNone || x.issued < (s.cluster th.cluster).budget)

/-- The first entry of `n` from place `p` whose thread is ready and is not `skip` (R216). -/
def State.pickSlot (s : State) (c e : Nat) (waiting : List Nat) (skip : Option Nat) (p : Nat) : Nat → Option (Nat × Nat)
  | 0 => none
  | n + 1 =>
    let t := (s.engine c e).slot (p % 64)
    if s.ready { cluster := c, engine := e, thread := t } waiting && some t ≠ skip then some (t, p % 64)
    else s.pickSlot c e waiting skip (p + 1) n

/-- What an issued bundle does. -/
def State.bundle (s : State) (th : ThreadId) (op : BundleOp) : State :=
  let x := s.thread th
  match op with
  | .plain => s
  | .readBundle => s
  | .setReg r v => s.setThread th { x with regs := put x.regs r 0 v }
  | .localWrite w v =>
    if 1024 ≤ w then s.fault th 2 (8 * w)
    else if x.spec.prov && 64 ≤ x.spec.undo.length && !(x.spec.undo.any fun u => u.1 = w) then
      (s.countDomain x.domain 13).doOp th (.localWrite w v)
    else s.localWrite th w v
  | .sharedWrite w v => if 65536 ≤ w then s.fault th 2 (8 * w) else s.doOp th (.sharedWrite w v)
  | .watch r ch => (s.setThread th { x with watch := put x.watch r 0 (ch + 1) }).wake th
  | .jump a => s.setThread th { x with pc := a }
  | .learn k key r => s.doOp th (.learn k key r)
  | .metaWord i v => s.doOp th (.metaWord i v)
  | .illegal => s.fault th 1 x.last
  | .outOfRange a => s.fault th 2 a
  | .eccError a => s.fault th 8 a

/-- Why the thread charged for an awaiting slot waits (R429). -/
def awaitCause (x : Thread) (operand : Bool) : Nat :=
  match x.waiting with
  | .confirm _ => 1
  | .events => if x.mask % 4096 ≠ 0 then 0 else if bit x.mask 30 then 2 else 3
  | .slot _ _ _ => 3
  | .none => if operand then 0 else if x.spec.heldFault.isSome then 1 else 3

/-- The thread charged for an awaiting slot: that of the entry at the pointer, or the next in table order that holds a
pass (R429). -/
def State.charged (s : State) (c e p : Nat) : Nat → Option Nat
  | 0 => none
  | n + 1 =>
    let t := (s.engine c e).slot (p % 64)
    if (s.thread { cluster := c, engine := e, thread := t }).pass.isSome then some t else s.charged c e (p + 1) n

/-- The thread charged for an awaiting slot: of the table's threads, or, where none of them holds a pass, the lowest of the engine that does
(R216; log entry 137). -/
def State.awaits (s : State) (c e p : Nat) : Option Nat :=
  match s.charged c e p 64 with
  | some t => some t
  | none => (List.range 16).find? fun t => (s.thread { cluster := c, engine := e, thread := t }).pass.isSome

/-- Record `n` slots that issued nothing (R428, R429). -/
def State.idleSlots (s : State) (c e p n : Nat) (waiting : List Nat) : State :=
  match s.awaits c e p with
  | none => s.count (4 * (16 * c + e) + 2) n
  | some t =>
    (s.count (4 * (16 * c + e) + 3) n).count
      (3424 + 4 * c + awaitCause (s.thread { cluster := c, engine := e, thread := t }) (waiting.contains t)) n

/-- A lane issues a bundle of a thread: its slot, its count, its effect; a step ends with it (R232). A bundle that reads register 62 or 63
before Scout's answer waits for it: its slot stays idle (R244). -/
def State.issueLane (s : State) (waiting : List Nat) (th : ThreadId) (op : BundleOp) : State :=
  let x := s.thread th
  if op = .readBundle && x.spec.due.isSome then
    s.idleSlots th.cluster th.engine (s.engine th.cluster th.engine).pointer 1 (th.thread :: waiting)
  else
    let s := if x.spec.prov then s else s.ledger th 0 1
    let s := s.setThread th
      { x with issued := x.issued + 1, last := x.pc, pc := x.pc + 1, stopDue := x.stopDue || x.stepping,
               spec := if x.spec.prov then { x.spec with slots := x.spec.slots + 1 } else x.spec }
    s.bundle th op

/-- The engine takes a written table at entry 0 (R217); a thread that gains its first entry is free for a queued pass (R157, R214). -/
def State.switchSlots (s : State) (c e : Nat) : State :=
  let g := s.engine c e
  if g.next.isSome && g.pointer = 0 then (s.setEngine c e g.switch).refeed c else s

/-- The events whose occasion the spec does not state: the doorbell of the profile's channel and TM ready (R218). -/
def unstatedEvents : Nat := 2 ^ 21 + 2 ^ 30

/-- A thread that waits on an event whose occasion is not stated: it arrives or not, as a free value says (log entry 121). -/
def State.unstated (th : ThreadId) (s : State) : State :=
  let x := s.thread th
  if x.state = .wait && x.waiting = .events && x.mask &&& unstatedEvents ≠ 0 then
    let v := Config.freeValue s.free &&& x.mask &&& unstatedEvents
    State.wake th (s.drawn.setThread th { x with pending := x.pending ||| v })
  else s

/-- ENGINE_ISSUE (R216), once in a CCLK: `waiting` are threads whose next bundle awaits an operand, `ops` what the bundles issued do. -/
def execEngineIssue (t cluster engine : Nat) (waiting : List Nat) (ops : List BundleOp) (s : State) :
    Host.Outcome State Fault Refusal :=
  let s := s.at_ t
  .next (if !(cluster < 32 && engine < 16 && s.healthy 4 cluster) || (s.engine cluster engine).issuedAt = s.cclk + 1 then s
    else
      let s := s.switchSlots cluster engine
      let s := each State.unstated ((s.threadsOf cluster).filter fun th => th.engine = engine) s
      let p := (s.engine cluster engine).pointer
      let first := s.pickSlot cluster engine waiting none p 64
      let second := match first with
        | none => none
        | some (t, at_) => s.pickSlot cluster engine waiting (some t) (at_ + 1) 63
      let lanes := (first.toList ++ second.toList).map fun r => r.1
      let s := if lanes.length < 2 then s.idleSlots cluster engine p (2 - lanes.length) waiting else s
      let s := each (fun r s => State.issueLane s waiting { cluster := cluster, engine := engine, thread := r.1 } r.2)
        (lanes.zip (ops ++ [.plain, .plain])) s
      let g := s.engine cluster engine
      (s.setEngine cluster engine { g with pointer := (p + 1) % 64, issuedAt := s.cclk + 1 }).quietAt cluster)

/-- SLOT_TABLE_SWITCH (R217). -/
def execSlotTableSwitch (t cluster engine : Nat) (s : State) : Host.Outcome State Fault Refusal :=
  let s := s.at_ t
  .next (s.switchSlots cluster engine)

/-! ### Thread-control instructions (R219–R226) -/

/-- WAIT (R219): a mask of 0 raises fault 0x03. -/
def execWait (t : Nat) (th : ThreadId) (mask : Nat) (s : State) : Host.Outcome State Fault Refusal :=
  let s := s.at_ t
  .next ((s.instr th fun s => if mask % 2 ^ 32 = 0 then s.fault th 3 0 else s.doWait th (mask % 2 ^ 32)).quietAt th.cluster)

/-- SIGNAL (R220). -/
def execSignal (t : Nat) (th : ThreadId) (engine thread sig : Nat) (s : State) : Host.Outcome State Fault Refusal :=
  let s := s.at_ t
  .next ((s.instr th fun s => s.doOp th (.signal engine thread sig)).quietAt th.cluster)

/-- SIGNAL_DELIVER (R220): signals whose 4 CCLK have passed set their targets' bits. -/
def execSignalDeliver (t cluster : Nat) (s : State) : Host.Outcome State Fault Refusal :=
  let s := s.at_ t
  let k := s.cluster cluster
  let due := k.signals.filter fun g => g.due ≤ s.now
  let s1 := s.setCluster cluster { k with signals := k.signals.filter fun g => s.now < g.due }
  .next ((each (fun g s => State.latch s { cluster := cluster, engine := g.engine, thread := g.thread } (22 + g.sig % 8))
    due s1).quietAt cluster)

/-- TIMER_SET (R220); bit 20 that a provisional disarm clears comes back on a squash. -/
def execTimerSet (t : Nat) (th : ThreadId) (delta : Option Nat) (s : State) : Host.Outcome State Fault Refusal :=
  let s := s.at_ t
  .next (s.instr th fun s =>
    let x := s.thread th
    match delta with
    | none => s.setThread th
        { x with timer := none, pending := clearBits x.pending (2 ^ 20),
                 spec := if x.spec.prov then { x.spec with cleared := x.spec.cleared ||| (x.pending &&& 2 ^ 20) } else x.spec }
    | some d => s.setThread th { x with timer := some ((s.clusterTime th.cluster + d) % 2 ^ 48), timerSet := s.cclk })

/-- TIMER_FIRE (R220): the counter is at or past the compare value, in a CCLK after the one of its TIMER_SET. -/
def execTimerFire (t : Nat) (th : ThreadId) (s : State) : Host.Outcome State Fault Refusal :=
  let s := s.at_ t
  let x := s.thread th
  .next (match x.timer with
    | none => s
    | some v =>
      if v ≤ s.clusterTime th.cluster && x.timerSet < s.cclk then ((s.setThread th { x with timer := none }).latch th 20).quietAt th.cluster else s)

/-- CHAN_STAGE (R223). -/
def execChanStage (t : Nat) (th : ThreadId) (channel word value : Nat) (s : State) : Host.Outcome State Fault Refusal :=
  let s := s.at_ t
  .next ((s.instr th fun s => s.doOp th (.stage (channel % 256) (word % 8) (value % 2 ^ 64))).quietAt th.cluster)

/-- CHAN_COMMIT (R224). -/
def execChanCommit (t : Nat) (th : ThreadId) (s : State) : Host.Outcome State Fault Refusal :=
  let s := s.at_ t
  .next ((s.instr th fun s => s.doOp th .commit).quietAt th.cluster)

/-- CHAN_VISIBLE (R224): messages whose 4 CCLK have passed, in commit order. -/
def execChanVisible (t cluster channel : Nat) (s : State) : Host.Outcome State Fault Refusal :=
  let s := s.at_ t
  let c := s.channel cluster channel
  let due := c.coming.filter fun m => m.1 ≤ s.now
  .next (if due = [] then s
    else
      let c1 := { c with visible := c.visible ++ due.map (fun m => m.2.2), coming := c.coming.filter fun m => s.now < m.1 }
      ((s.setChannel cluster channel c1).channelMoved cluster).quietAt cluster)

/-- CHAN_READ (R225). -/
def execChanRead (t : Nat) (th : ThreadId) (channel : Nat) (s : State) : Host.Outcome State Fault Refusal :=
  let s := s.at_ t
  .next ((s.instr th fun s => s.doOp th (.chanRead (channel % 256))).quietAt th.cluster)

/-- YIELD (R220 table): not ready for the next n CCLK. -/
def execYield (t : Nat) (th : ThreadId) (n : Nat) (s : State) : Host.Outcome State Fault Refusal :=
  let s := s.at_ t
  .next (s.instr th fun s => s.setThread th { s.thread th with yieldUntil := s.cclk + n + 1 })

/-- YIELD_EXPIRE. -/
def execYieldExpire (t : Nat) (th : ThreadId) (s : State) : Host.Outcome State Fault Refusal :=
  let s := s.at_ t
  let x := s.thread th
  .next (if x.yieldUntil ≠ 0 && x.yieldUntil ≤ s.cclk then s.setThread th { x with yieldUntil := 0 } else s)

/-- FAULT_RAISE (R228). -/
def execFaultRaise (t : Nat) (th : ThreadId) (code detail : Nat) (s : State) : Host.Outcome State Fault Refusal :=
  let s := s.at_ t
  .next ((s.instr th fun s => s.doOp th (.faultRaise code (detail % 2 ^ 32))).quietAt th.cluster)

/-- FAULT_QUEUE_READ (R229): the supervisor takes the oldest record. -/
def execFaultQueueRead (t cluster : Nat) (s : State) : Host.Outcome State Fault Refusal :=
  let s := s.at_ t
  let k := s.cluster cluster
  let th : ThreadId := { cluster := cluster, engine := k.supEngine, thread := k.supThread }
  .next (s.instr th fun s => s.doOp th .faultRead)

/-- CONFIRM (R221, R379): on a thread that is not provisional and awaits no verdict it does nothing. -/
def execConfirm (t : Nat) (th : ThreadId) (s : State) : Host.Outcome State Fault Refusal :=
  let s := s.at_ t
  .next ((s.instr th fun s => s.doOp th .confirm).quietAt th.cluster)

/-- PACKET_DMA (R249). -/
def execPacketDma (t : Nat) (th : ThreadId) (toLocal : Bool) (packetOff localOff len : Nat) (s : State) :
    Host.Outcome State Fault Refusal :=
  let s := s.at_ t
  .next (s.instr th fun s =>
    if s.tagFree th 11 then s.doOp th (.dma toLocal packetOff localOff len) else s)

/-- Byte `i` of local memory. -/
def memByte (m : Sparse Nat) (i : Nat) : Nat := look m (i / 8) 0 / 256 ^ (i % 8) % 256
/-- Local memory with byte `i` set. -/
def memPut (m : Sparse Nat) (i v : Nat) : Sparse Nat :=
  let w := look m (i / 8) 0
  put m (i / 8) 0 (w - memByte m i * 256 ^ (i % 8) + v * 256 ^ (i % 8))

/-- PACKET_DMA_DONE (R218): the bytes have moved, and event bit 11 is set. -/
def execPacketDmaDone (t : Nat) (th : ThreadId) (s : State) : Host.Outcome State Fault Refusal :=
  let s := s.at_ t
  let x := s.thread th
  .next (match (look x.out 11 {}).dma, x.pass with
    | some d, some k =>
      let p := s.pkt k
      let x1 := { x with out := put x.out 11 {} {} }
      let s1 := if d.toLocal then
          let put1 (m : Sparse Nat) (i : Nat) : Sparse Nat := memPut m (d.localOff + i) (byteAt p.bytes (d.packetOff + i))
          s.setThread th { x1 with mem := (List.range d.len).foldl put1 x1.mem }
        else
          let b := (List.range d.len).map fun i => BitVec.ofNat 8 (memByte x.mem (d.localOff + i))
          (s.setThread th x1).setPkt k { p with bytes := (overlay p.bytes d.packetOff b).take p.bytes.length }
      (s1.latch th 11).quietAt th.cluster
    | _, _ => s)

/-- RESPONSE_TIMEOUT (R218, R246): a request unanswered for 10 µs raises fault 0x09, or ends the comparison of a provisional
thread where its tag is mapped. -/
def execResponseTimeout (t : Nat) (th : ThreadId) (b : Nat) (s : State) : Host.Outcome State Fault Refusal :=
  let s := s.at_ t
  let x := s.thread th
  let r := look x.out b {}
  .next (if !(r.live && b < 11 && r.at_ + us 10 ≤ s.now) then s
    else if x.spec.prov && x.spec.compare = .open_ && (s.tplOf x).tags.contains b then
      s.setThread th { x with spec := { x.spec with compare := .unequal true (some b) } }
    else (s.fault th 9 b).quietAt th.cluster)

/-- PASS_BUDGET_EXCEEDED (R227). -/
def execPassBudgetExceeded (t : Nat) (th : ThreadId) (s : State) : Host.Outcome State Fault Refusal :=
  let s := s.at_ t
  let x := s.thread th
  .next (if x.pass.isSome && (x.state = .run || x.state = .wait) && (s.cluster th.cluster).budget ≤ x.issued then
      (s.fault th 6 x.issued).quietAt th.cluster
    else s)

/-- PASS_END (R255). -/
def execPassEnd (t : Nat) (th : ThreadId) (e : PassEnd) (s : State) : Host.Outcome State Fault Refusal :=
  let s := s.at_ t
  .next ((s.instr th fun s => if s.isResident th then s.retire th true else s.doOp th (.passEnd e)).quietAt th.cluster)

/-! ### ALLWAIT (R230, R231) -/

/-- CLUSTER_STALL goes to Basecamp and is posted to D0; Trailhead steers the cluster's entries away at once and dispatches nothing more to
it (R231). -/
def State.stall (s : State) (c : Nat) : State :=
  let k := s.cluster c
  let sup : ThreadId := { cluster := c, engine := k.supEngine, thread := k.supThread }
  let inCycle := (s.thread sup).state ≠ .empty && (s.thread sup).state ≠ .stopped
  let s := (s.setCluster c { k with stall := true, draining := true }).eventTo 0 0x0770 (c + 256 * b2n inCycle) k.snapThreads
  each (State.steerAway c) (List.range 1024) s

/-- The detector's counter has passed its limit since `from_`. -/
def State.quietFor (s : State) (c from_ : Nat) : Bool := decide (from_ + us (s.cluster c).allwaitUs < s.now)

/-- ALLWAIT_DETECT (R230). -/
def execAllwaitDetect (t cluster : Nat) (s : State) : Host.Outcome State Fault Refusal :=
  let s := (s.at_ t).quietAt cluster
  let k := s.cluster cluster
  let sup : ThreadId := { cluster := cluster, engine := k.supEngine, thread := k.supThread }
  let x := s.thread sup
  .next (match k.quiet with
    | none => s
    | some q =>
      if !s.quietFor cluster q || k.recorded.isSome || k.stall then s
      else
        let n := (s.watched cluster).length
        let snap := (s.threadsOf cluster).foldl (fun m th =>
          put m (th.engine * 16 + th.thread) 0 (s.thread th).mask) []
        let s := if k.allwait then s
          else s.setCluster cluster { k with allwait := true, snap := snap, snapThreads := n }
        let k := s.cluster cluster
        if x.state = .wait && x.waiting = .events && bit x.mask 31 && k.faults.length < 64 then
          let rec_ := s.faultRecord sup 7 n
          (s.setCluster cluster { k.postFault s.cclk rec_ with recorded := some s.now }).wakeCluster cluster
        else s.stall cluster)

/-- ALLWAIT_ESCALATE (R230): the condition still holds a limit after the record. -/
def execAllwaitEscalate (t cluster : Nat) (s : State) : Host.Outcome State Fault Refusal :=
  let s := (s.at_ t).quietAt cluster
  let k := s.cluster cluster
  .next (match k.quiet, k.recorded with
    | some _, some r => if s.quietFor cluster r && !k.stall then s.stall cluster else s
    | _, _ => s)

/-- CLUSTER_STALL_RECOVERY (R231): the cluster's entries are steered away, its packets dropped and counted, the cluster
reset (a unit reset, R47, at which a nonce is drawn, R107) and returned with its resident threads restarted; the record has cause 1
(R442). -/
def execClusterStallRecovery (t cluster : Nat) (s : State) : Host.Outcome State Fault Refusal :=
  let s := s.at_ t
  .next (if !(s.cluster cluster).stall then s
    else
      let (s, lost) := s.dropCluster cluster
      let s := (each (State.steerAway cluster) (List.range 1024) s).releaseFrom cluster
      let s := ((s.drawNonce).resetCluster cluster).startResidents cluster
      s.record 4 cluster 1 1 1 0xFFFF lost)

/-- CLUSTER_HEALTH_WORD (R442). -/
def execClusterHealthWord (t cluster : Nat) (s : State) : Host.Outcome State Fault Refusal :=
  let s := s.at_ t
  .next (if cluster < 32 && s.healthy 4 cluster then s.setCluster cluster { s.cluster cluster with health := s.now } else s)

/-- A cluster is mapped out: its packets dropped and counted, its entries steered away without a wait (R159, R438). -/
def State.clusterOut (s : State) (c cause : Nat) (planned : Bool) : State :=
  if s.isOut 4 c then s
  else
    let (s, lost) := s.dropCluster c
    let s := s.resetCluster c
    let s := s.markOut 4 c
    let s := (each (State.steerAway c) (List.range 1024) s).releaseFrom c
    (s.markIn 4 c).mapOut 4 c cause 0xFFFF lost planned

/-- CLUSTER_FAIL (R442): three health words missed, or an uncorrectable error in its stores; while a stall is being recovered the failure is logged (R436). -/
def execClusterFail (t cluster : Nat) (uncorrectable : Bool) (s : State) : Host.Outcome State Fault Refusal :=
  let s := s.at_ t
  .next (if cluster < 32 && (uncorrectable || (s.cluster cluster).health + us 15 ≤ s.now) then
      if (s.cluster cluster).stall && s.healthy 4 cluster then
        s.failAgain 4 cluster (if uncorrectable then 2 else 0) 0xFFFF
      else s.clusterOut cluster (if uncorrectable then 2 else 0) false
    else s)

/-! ### Debug (R232, R233) -/

/-- THREAD_STOPPED (R215, R232): a stop takes effect at the bundle boundary. -/
def execThreadStopped (t : Nat) (th : ThreadId) (s : State) : Host.Outcome State Fault Refusal :=
  let s := s.at_ t
  let x := s.thread th
  .next (if x.stopDue && (x.state = .run || x.state = .wait) then
      ((s.setThread th { x with state := .stopped, before := x.state, stopDue := false, stepping := false }).eventTo 0 0x0772
        (th.cluster + 256 * th.engine + 4096 * th.thread + 65536 * b2n x.stepping) x.pc).quietAt th.cluster
    else s)

/-- Resume a stopped thread: it goes on from the state it held, with what has arrived meanwhile. -/
def State.resume (s : State) (th : ThreadId) (step : Bool) : State :=
  let x := s.thread th
  let s := s.setThread th { x with state := x.before, stepping := step }
  ((State.retrySlot th (State.wake th s)).settle th)

/-- Kill a stopped thread (R233): its packet is dropped and counted. -/
def State.kill (s : State) (th : ThreadId) : State :=
  let s := if (s.thread th).spec.prov then s.resolveSlots th false else s
  let s := (s.unstage th).channelMoved th.cluster
  let s := match (s.thread th).pass with
    | some k =>
      let s := s.dropPass k
      { s with eng := { s.eng with kills := bump s.eng.kills (s.thread th).domain 1 } }
    | none => s
  s.retire th true

/-- ENG_THREAD.state's code. -/
def TState.code : TState → Nat
  | .empty => 0
  | .run => 1
  | .wait => 2
  | .stopped => 3
  | .faulted => 4

/-- The state record of THREAD_DEBUG op 3. -/
def State.threadRecord (s : State) (th : ThreadId) : Bytes :=
  let x := s.thread th
  leBytes 1 x.state.code ++
    leBytes 1 (b2n x.spec.prov + 2 * b2n (s.isResident th) + 4 * b2n (s.isSup th) + 8 * b2n x.channel.isSome) ++
    leBytes 1 x.domain ++ leBytes 1 (x.channel.getD 0) ++ leBytes 4 x.pc ++ leBytes 4 (s.pendingWord th) ++
    leBytes 4 x.mask ++ leBytes 6 (x.timer.getD 0) ++ leBytes 1 x.stagedMask ++ leBytes 1 0 ++ leBytes 4 x.issued ++
    ((List.range 4).flatMap fun i => leBytes 1 (look x.watch i 0 - 1)) ++
    leBytes 8 (match x.spec.ckpt with
      | some ck => ck.pc
      | none => 0) ++ leBytes 48 0 ++ (List.range 64).flatMap fun i => leBytes 8 (look x.regs i 0)

/-- An open session of a source grants a scope bit. -/
def State.granted (s : State) (viaHost : Bool) (b : Nat) : Bool :=
  match s.dom.session with
  | none => false
  | some x => x.viaHost = viaHost && bit x.scope b

/-- HW_FAULT where a cluster is mapped out. -/
def State.clusterErr (s : State) (c : Nat) : Option Err :=
  need (s.healthy 4 c) { status := .hwFault, detail := s.seqOf 4 c }

/-- The checks of a THREAD_DEBUG operation within a session of a source. -/
def threadDebugErrs (viaHost : Bool) (c : Cmd) (th : ThreadId) (s : State) : List (Option Err) :=
  let op := c.u8 19
  let x := s.thread th
  [need (s.granted viaHost 2) denied, at_ 16 (c.u8 16 < 32),
   at_ 17 (c.u8 17 < 16), at_ 18 (c.u8 18 < 16), at_ 19 (op ≤ 5), need (op ≠ 5 || s.granted viaHost 3) denied,
   at_ 20 (if op = 5 then c.u32 20 < 32 else c.u32 20 = 0), c.zeros 24 40, s.clusterErr th.cluster,
   at_ 19 (!(op = 1 || op = 2 || op = 4) || x.state = .stopped),
   need (!(op = 0 && x.state = .stopped)) { status := .busy }]

/-- What a THREAD_DEBUG operation does. -/
def threadDebugDone (op : Nat) (th : ThreadId) (s : State) : State :=
  let x := s.thread th
  match op with
  | 0 => if x.state = .run || x.state = .wait then s.setThread th { x with stopDue := true } else s
  | 1 => (s.resume th false).quietAt th.cluster
  | 2 => (s.kill th).quietAt th.cluster
  | 4 => (s.resume th true).quietAt th.cluster
  | _ => s

/-- The thread that a THREAD_DEBUG names. -/
def debugThread (c : Cmd) : ThreadId := { cluster := c.u8 16, engine := c.u8 17, thread := c.u8 18 }

/-- What a THREAD_DEBUG operation reads: the state record, or 256 bytes of local memory. -/
def threadDebugBytes (c : Cmd) (s : State) : Bytes :=
  let th := debugThread c
  if c.u8 19 = 3 then s.threadRecord th
  else if c.u8 19 = 5 then (List.range 256).map fun i => BitVec.ofNat 8 (memByte (s.thread th).mem (256 * c.u32 20 + i))
  else []

/-- THREAD_DEBUG (R232, R233). -/
def execThreadDebug (t : Nat) (c : Cmd) (s : State) : Host.Outcome State Fault Refusal :=
  let s := s.at_ t
  let op := c.u8 19
  .next (s.command 0x0703 c .d0 ((if op = 3 || op = 5 then c.needReply else none) :: threadDebugErrs true c (debugThread c) s)
    { s := threadDebugDone op (debugThread c) s, result := (threadDebugBytes c s).length, long := threadDebugBytes c s })

/-! ### Commands of 10 -/

/-- ENG_SLOT_SET (R217). -/
def execEngSlotSet (t : Nat) (c : Cmd) (s : State) : Host.Outcome State Fault Refusal :=
  let s := s.at_ t
  let l := (List.range 64).map fun i => c.u8 (20 + i / 2) / 16 ^ (i % 2) % 16
  let es := if c.u8 17 = 0xFF then List.range 16 else [c.u8 17]
  .next (s.command 0x0701 c .d0
    [at_ 16 (c.u8 16 < 32), at_ 17 (c.u8 17 < 16 || c.u8 17 = 0xFF), c.zeros 18 2, c.zeros 52 12, s.clusterErr (c.u8 16)]
    { s := each (fun e s => s.setEngine (c.u8 16) e { s.engine (c.u8 16) e with next := some l }) es s })

/-- ENG_CONFIG (R226, R227, R230): a new supervisor that waits on bit 31 meets the records that are queued. -/
def execEngConfig (t : Nat) (c : Cmd) (s : State) : Host.Outcome State Fault Refusal :=
  let s := s.at_ t
  let k := s.cluster (c.u8 16)
  let th : ThreadId := { cluster := c.u8 16, engine := c.u8 17 / 16, thread := c.u8 17 % 16 }
  let k1 := { k with supEngine := th.engine, supThread := th.thread, allwaitUs := c.u16 18, budget := c.u32 20 }
  .next (s.command 0x0702 c .d0
    [at_ 16 (c.u8 16 < 32), at_ 18 (1 ≤ c.u16 18), at_ 20 (256 ≤ c.u32 20 && c.u32 20 ≤ 65520 && c.u32 20 % 16 = 0),
     at_ 24 (c.u8 24 ≤ 1), c.zeros 25 39, s.clusterErr (c.u8 16),
     need ((s.thread th).state = .empty || s.isResident th) { status := .busy }]
    { s := (((s.setCluster (c.u8 16) (if c.u8 24 = 1 then { k1 with allwait := false, snap := [], snapThreads := 0 } else k1)).wakeCluster
        (c.u8 16)).refeed (c.u8 16)).quietAt (c.u8 16) })

/-- The layout of a profile table of the active profile: entry size and count. -/
def State.layoutOf (s : State) (i : Nat) : Option (Nat × Nat) :=
  match s.eng.active with
  | none => none
  | some p => p.layout[i]?

/-- Set a profile-table entry; one that is all zeros is not listed (R235). -/
def State.setEntry (s : State) (k : Nat) (b : Bytes) : State :=
  { s with eng := { s.eng with tables := put s.eng.tables k [] (if b.all (· = 0) then [] else b) } }

/-- PROFILE_WRITE (R235). -/
def execProfileWrite (t : Nat) (c : Cmd) (b : BufRead) (s : State) : Host.Outcome State Fault Refusal :=
  let s := s.at_ t
  let inline := c.u64 16 = 0
  let lay := s.layoutOf (c.u8 30)
  let size := match lay with
    | some l => l.1
    | none => 0
  let data := if inline then slice c.params 24 size else b.bytes c
  .next (s.command 0x0704 c .any
    [if inline then none else c.bufferErr, at_ 16 (!inline || size ≤ 24), at_ 24 (lay.isNone || c.u32 24 = size),
     s.ownErr c 3 (c.u16 28), at_ 30 lay.isSome, c.zeros 31 1, at_ 32 (match lay with
       | some l => c.u32 32 < l.2
       | none => true), c.zeros 36 4, if inline then none else b.err]
    { s := s.setEntry ((c.u16 28 * 64 + c.u8 30) * 2 ^ 32 + c.u32 32) data })

end Sys2Proof.Machine
end

