-- ==== Sys2Proof/Machine/Actions.lean ====
section
/-! DEFINITION. The action store, the edit engines and their commands (12_actions_and_edits.md). -/

namespace Sys2Proof.Machine

/-! ### Lists (R254–R257) -/

/-- The actions of a list: 8 bytes each. -/
def listActions (l : Bytes) : List Bytes := (List.range (byteAt l 1)).map fun i => slice l (16 + 8 * i) 8
/-- The data area of a list. -/
def listData (l : Bytes) : Bytes := l.drop (16 + 8 * byteAt l 1)

/-- The queue that an action names, where it names one. -/
def actionQueue (a : Bytes) : Option Nat :=
  match byteAt a 0 with
  | 4 => if byteAt a 1 = 1 then some (leAt a 4 4 % 2 ^ 20) else none
  | 5 => some (leAt a 4 4 % 2 ^ 20)
  | 6 => some (leAt a 4 4 % 2 ^ 20)
  | _ => none

/-- The value bits that a SET_META field uses. -/
def metaBits : Nat → Nat
  | 1 => 2 ^ 27 - 1
  | 2 => 3
  | 3 => 255
  | 4 => 0x8007FFFF
  | 5 => 1
  | 0x0A => 0x7FFFF
  | _ => 0xFFFFFFFF

/-- An action's fields lie in their ranges and its data reference within the data area (R257). -/
def actionOk (dlen : Nat) (a : Bytes) : Bool :=
  let b1 := byteAt a 1
  let off := leAt a 2 2
  let n := byteAt a 4
  let v := leAt a 4 4
  match byteAt a 0 with
  | 1 => b1 < 64 && off < 512 && 1 ≤ n && n ≤ 16 && byteAt a 5 ≤ 1 && (byteAt a 5 = 1 || leAt a 6 2 + n ≤ dlen)
  | 2 => b1 < 16 && off < 512 && 1 ≤ n && n ≤ 128 && byteAt a 5 = 0 && leAt a 6 2 + n ≤ dlen
  | 3 => b1 < 16 && off < 512 && 1 ≤ n && n ≤ 128 && byteAt a 5 = 0 && leAt a 6 2 = 0
  | 4 => 1 ≤ b1 && b1 ≤ 0x0A && off = 0 && v &&& metaBits b1 = v
  | 5 => b1 ≤ 1 && (off = 0 || (64 ≤ off && off ≤ 9216)) && v < 2 ^ 20
  | 6 => b1 ≤ 1 && v < 2 ^ 20
  | _ => false

/-- Bytes that an action pushes or pops. -/
def actionMoves (a : Bytes) : Nat := if byteAt a 0 = 2 || byteAt a 0 = 3 then byteAt a 4 else 0
/-- How many actions of a type a list of actions holds. -/
def countType (ty : Nat) (l : List Bytes) : Nat := (l.filter fun a => byteAt a 0 = ty).length

/-- The check of action `i` of a list (R257), with what the actions up to it add up to. -/
def actionErr (l : Bytes) (acts : List Bytes) (i : Nat) : Option Err :=
  let upto := acts.take (i + 1)
  match acts[i]? with
  | none => none
  | some a => img (16 + 8 * i) (actionOk (leAt l 2 2) a && (upto.map actionMoves).sum ≤ 128 && countType 5 upto ≤ 2 &&
      countType 6 upto ≤ 1)

/-- The checks of a list (R257). -/
def listErrs (s : State) (d : Nat) (l : Bytes) : List (Option Err) :=
  let acts := listActions l
  [need (byteAt l 0 = 1) { status := .version, detail := byteAt l 0 }, img 1 (1 ≤ byteAt l 1 && byteAt l 1 ≤ 32),
   img 2 (leAt l 2 2 ≤ 256 && leAt l 2 2 % 8 = 0 && l.length = 16 + 8 * byteAt l 1 + leAt l 2 2), bufZeros l 4 12,
   firstOf (actionErr l acts) (List.range acts.length),
   firstOf (fun i => match acts[i]? with
     | none => none
     | some a => img (16 + 8 * i) (match actionQueue a with
       | some q => s.owns d 2 q
       | none => true)) (List.range acts.length)]

/-- Granules of a list (R254). -/
def granules (l : Bytes) : Nat := (l.length + 31) / 32

/-- Granules that a domain's lists hold (EDIT_DOM). -/
def State.granulesOf (s : State) (d : Nat) : Nat :=
  ((s.act.lists.filter fun r => s.owner 3 (r.1 / 2 ^ 20) = d).map fun r => granules r.2).sum
/-- Granules in use. -/
def State.granulesUsed (s : State) : Nat := (s.act.lists.map fun r => granules r.2).sum

/-- Set a list; the empty list of bytes is none. -/
def State.setList (s : State) (ptr : Nat) (l : Bytes) : State :=
  { s with act := { s.act with lists := put s.act.lists ptr [] l } }

/-- A list is written or deleted: what it was is no longer missing (R441). -/
def State.newList (s : State) (ptr : Nat) (l : Bytes) : State :=
  let s := s.setList ptr l
  { s with act := { s.act with missing := s.act.missing.filter (· ≠ ptr), lost := s.act.lost.filter (· ≠ ptr) } }

/-- ACTION_WRITE (R254–R257). -/
def execActionWrite (t : Nat) (c : Cmd) (b : BufRead) (s : State) : Host.Outcome State Fault Refusal :=
  let s := s.at_ t
  let del := c.u8 36 = 1
  let ptr := c.u16 28 * 2 ^ 20 + c.u32 32
  let old := look s.act.lists ptr []
  let l := b.bytes c
  .next (s.command 0x0408 c .any
    ([if del then none else c.bufferErr, at_ 24 (del || (16 ≤ c.u32 24 && c.u32 24 ≤ 528)), s.ownErr c 3 (c.u16 28),
      c.zeros 30 2, at_ 32 (c.u32 32 < 2 ^ 20), at_ 36 (c.u8 36 ≤ 1), c.zeros 37 27] ++
      (if del then [at_ 36 (old ≠ [])]
       else [b.err] ++ listErrs s c.domain l ++
         [need (!s.act.lost.contains ptr) { status := .tableFull },
          need (s.granulesUsed - granules old + granules l ≤ 262144 && (old ≠ [] || s.act.lists.length < 131072))
            { status := .tableFull },
          need (s.granulesOf c.domain - granules old + granules l ≤ allowance s.act.allow c.domain) { status := .quota }]))
    { s := s.newList ptr (if del then [] else l) })

/-- ACTION_LIMIT (R265). -/
def execActionLimit (t : Nat) (c : Cmd) (s : State) : Host.Outcome State Fault Refusal :=
  let s := s.at_ t
  .next (s.command 0x0409 c .d0 [at_ 16 (c.u8 16 < 16), c.zeros 17 3, c.zeros 24 40]
    { s := { s with act := { s.act with allow := setAllowance s.act.allow (c.u8 16) (c.u32 20) } } })

/-- Count an EDIT_STATS event of a domain. -/
def State.countEdit (s : State) (d i : Nat) : State :=
  { s with act := { s.act with stats := bump s.act.stats (d * 8 + i) 1 } }

/-- EDIT_STATS. -/
def execEditStats (t : Nat) (c : Cmd) (s : State) : Host.Outcome State Fault Refusal :=
  let s := s.at_ t
  let vals := (List.range 8).flatMap fun i => leBytes 8 (look s.act.stats (c.domain * 8 + i) 0)
  .next (s.command 0x040A c .any [c.needReply, c.zeros 16 1, at_ 17 (c.u8 17 ≤ 1), c.zeros 18 46]
    { s := if bit (c.u8 17) 0 then
        { s with act := { s.act with stats := keepRows s.act.stats fun k _ => k / 8 ≠ c.domain } } else s,
      result := 64, long := vals })

/-! ### Applying a list (R258–R260) -/

/-- Where an anchor lies in a packet: its layer's offset; anchor 15 is byte 0 where layer entry 15 is unused. -/
def anchorOff (hv : Bytes) (a : Nat) : Option Nat :=
  if a < byteAt hv 21 then some (leAt hv (25 + 3 * a) 2 % 512) else if a = 15 then some 0 else none

/-- The place of an action's target in the packet it receives; none where the anchor names an unused entry (R259). -/
def actionPos (hv a : Bytes) : Option Nat := (anchorOff hv (byteAt a 1 % 16)).map (· + leAt a 2 2)

/-- An action's target lies within the packet and within byte 511 (R259). -/
def targetOk (hv : Bytes) (len : Nat) (a : Bytes) : Bool :=
  if byteAt a 0 ≤ 3 then
    match actionPos hv a with
    | none => false
    | some p => if byteAt a 0 = 2 then p < len && p < 512 else p + byteAt a 4 ≤ len && p + byteAt a 4 ≤ 512
  else true

/-- Byte `i` is popped by the list. -/
def poppedAt (hv : Bytes) (acts : List Bytes) (i : Nat) : Bool :=
  acts.any fun a => byteAt a 0 = 3 && (match actionPos hv a with
    | some p => p ≤ i && i < p + byteAt a 4
    | none => false)

/-- The bytes that a rewrite writes (R258): from the data area, or the sum with its addend. -/
def rewriteBytes (data orig : Bytes) (pos : Nat) (a : Bytes) : Bytes :=
  let n := byteAt a 4
  if byteAt a 5 = 0 then slice data (leAt a 6 2) n
  else beBytes n (unsigned (8 * n) ((beAt orig pos n : Int) + signed 16 (leAt a 6 2)))

/-- All rewrites of a list laid over the packet; a popped byte is left as it was (R258). -/
def rewritten (hv data orig : Bytes) (acts : List Bytes) : Bytes :=
  let w := acts.foldl (fun b a => if byteAt a 0 = 1 then
      (match actionPos hv a with
       | some p => overlay b p (rewriteBytes data orig p a)
       | none => b) else b) orig
  ((List.range (min 512 orig.length)).map fun i => if poppedAt hv acts i then BitVec.ofNat 8 (byteAt orig i)
    else BitVec.ofNat 8 (byteAt w i)) ++ orig.drop 512

/-- An incremental checksum update: `words` read the words that the checksum covers. -/
def fixChecksum (words : List (Bytes → Nat)) (old new : Bytes) (place : Nat) (udp : Bool) : Bytes :=
  let sum0 := beAt new place 2
  if udp && sum0 = 0 then new
  else
    let x := words.foldl (fun x f => if f old = f new then x else onesReplace x (f old) (f new)) (0xFFFF - sum0)
    let r := 0xFFFF - x
    overlay new place (beBytes 2 (if udp && r = 0 then 0xFFFF else r))

/-- The words of a header from `off`, but for the one at `skip`. -/
def headerWords (off n skip : Nat) : List (Bytes → Nat) :=
  ((List.range n).filter fun i => off + 2 * i ≠ skip).map fun i => fun b => beAt b (off + 2 * i) 2

/-- A layer's node has the IP flag. -/
def Packet.layerIp (p : Packet) (i : Nat) : Bool := (p.ipLayers[i]?).getD false

/-- The offset of a layer. -/
def layerOff (hv : Bytes) (i : Nat) : Nat := leAt hv (25 + 3 * i) 2 % 512

/-- The IPv4 headers whose checksum a list fixes (bit 4), each once. -/
def fixedV4 (p : Packet) (acts : List Bytes) : List Nat :=
  ((acts.filter fun a => byteAt a 0 = 1 && bit (byteAt a 1) 4 && byteAt a 1 % 16 < byteAt p.hv 21 &&
      p.layerIp (byteAt a 1 % 16)).map fun a => layerOff p.hv (byteAt a 1 % 16)).eraseDups.filter
    fun o => byteAt p.bytes o / 16 = 4

/-- The protocol of an IP header. -/
def ipProto (b : Bytes) (off : Nat) : Nat := if byteAt b off / 16 = 6 then byteAt b (off + 6) else byteAt b (off + 9)

/-- The first TCP or UDP header of the layer stack, with the IP header before it. -/
def firstL4 (p : Packet) : Option (Nat × Nat) :=
  ((List.range (byteAt p.hv 21)).find? fun i => 1 ≤ i && p.layerIp (i - 1) &&
      (ipProto p.bytes (layerOff p.hv (i - 1)) = 6 || ipProto p.bytes (layerOff p.hv (i - 1)) = 17)).map
    fun i => (layerOff p.hv i, layerOff p.hv (i - 1))

/-- The words that an L4 checksum covers: the segment and the pseudo header. -/
def l4Words (orig : Bytes) (l4 ip : Nat) (udp : Bool) : List (Bytes → Nat) :=
  let v6 := byteAt orig ip / 16 = 6
  let addrs := if v6 then headerWords (ip + 8) 16 0 else headerWords (ip + 12) 4 0
  headerWords l4 (256 - l4 / 2) (l4 + if udp then 6 else 16) ++ addrs ++
    [fun b => byteAt b (ip + if v6 then 6 else 9)] ++
    [if udp then fun b => beAt b (l4 + 4) 2 else if v6 then fun b => beAt b (ip + 4) 2 else fun b => beAt b (ip + 2) 2]

/-- The packet's bytes with every rewrite and checksum fix of a list, nothing pushed or popped yet. -/
def fixedBytes (p : Packet) (data : Bytes) (acts : List Bytes) : Bytes :=
  let w := rewritten p.hv data p.bytes acts
  let w := (fixedV4 p acts).foldl (fun b o =>
    fixChecksum (headerWords o (2 * (byteAt p.bytes o % 16)) (o + 10)) p.bytes b (o + 10) false) w
  if acts.any fun a => byteAt a 0 = 1 && bit (byteAt a 1) 5 then
    match firstL4 p with
    | some (l4, ip) =>
      let udp := ipProto p.bytes ip = 17
      fixChecksum (l4Words p.bytes l4 ip udp) p.bytes w (l4 + if udp then 6 else 16) udp
    | none => w
  else w

/-- The bytes that the list pushes before byte `i`, in list order. -/
def pushesAt (hv data : Bytes) (acts : List Bytes) (i : Nat) : Bytes :=
  acts.flatMap fun a => if byteAt a 0 = 2 && actionPos hv a = some i then slice data (leAt a 6 2) (byteAt a 4) else []

/-- The result of a list (R258): pushes, pops and the rewritten bytes. -/
def editBytes (p : Packet) (data : Bytes) (acts : List Bytes) : Bytes :=
  let w := fixedBytes p data acts
  ((List.range (min 512 p.bytes.length)).flatMap fun i =>
    pushesAt p.hv data acts i ++ if poppedAt p.hv acts i then [] else [BitVec.ofNat 8 (byteAt w i)]) ++ w.drop 512

/-- One SET_META (12). -/
def setMeta (d : Desc) (a : Bytes) : Desc :=
  let v := leAt a 4 4
  match byteAt a 1 with
  | 1 => { d with queue := v % 2 ^ 20, port := v / 2 ^ 20 % 128 }
  | 2 => { d with color := v % 4 }
  | 3 => { d with cls := v % 256 }
  | 4 => { d with policer := v % 2 ^ 19, policed := bit v 31 }
  | 5 => { d with egressPass := bit v 0 }
  | 6 => { d with egressList := v }
  | 7 => { d with meta0 := v }
  | 8 => { d with meta1 := v }
  | 9 => { d with meta2 := v }
  | 0x0A => { d with ptpOffset := v % 65536, ptpKind := bits v 18 16 }
  | _ => d

/-- The 16-byte punt header (R260). -/
def puntHeader (p : Packet) (a : Bytes) : Bytes :=
  beBytes 2 (leAt a 2 2) ++ beBytes 1 p.desc.ingress ++ beBytes 1 0 ++ beBytes 4 (p.desc.stamp % second / 2 ^ 40) ++
    beBytes 4 p.pointer ++ beBytes 4 0

/-- A copy that MIRROR or PUNT makes: its bytes, its queue and its mark (R260). -/
structure Copy where
  bytes : Bytes
  queue : Nat
  mirror : Bool

/-- The copies of a list, in list order. -/
def copiesOf (p : Packet) (after : Bytes) (acts : List Bytes) : List Copy :=
  acts.filterMap fun a =>
    let q := leAt a 4 4 % 2 ^ 20
    if byteAt a 0 = 5 then
      let b := if byteAt a 1 = 1 then after else p.bytes
      some { bytes := if leAt a 2 2 = 0 then b else b.take (leAt a 2 2), queue := q, mirror := true }
    else if byteAt a 0 = 6 && byteAt a 1 = 1 then some { bytes := puntHeader p a ++ after, queue := q, mirror := false }
    else none

/-- Send a copy into the packet's order bucket, right after what stands at `place` in it; a copy whose queue the pass's
domain does not own, or that is too long, is dropped and counted. -/
def State.sendCopy (s : State) (p : Packet) (d : Desc) (place : Nat) (x : Copy) : State :=
  let dom := d.domain
  if !s.owns dom 2 x.queue then s.countEdit dom (if x.mirror then 4 else 6)
  else if 10368 < x.bytes.length then s.countEdit dom 2
  else
    let n := s.nextId
    let d1 := { d with queue := x.queue, egressPass := false, length := x.bytes.length, mirror := x.mirror, punt := !x.mirror,
                       meta2 := d.meta2 % 2 ^ 31 }
    let s := s.newPkt { bytes := x.bytes, desc := d1, cluster := p.cluster, steer := p.steer, bucket := p.bucket,
                        egress := p.egress, committed := true, inPass := true, stomp := p.stomp, rxCycle := p.rxCycle }
    let l := s.bucket p.cluster p.bucket
    (s.setBucket p.cluster p.bucket (l.take (place + 1) ++ [n] ++ l.drop (place + 1))).countEdit dom (if x.mirror then 3 else 5)

/-- Send the copies of a list after the packet, in list order. -/
def State.sendCopies (s : State) (p : Packet) (d : Desc) (k : Nat) (l : List Copy) : State :=
  each (fun x s => State.sendCopy s p d ((s.bucket p.cluster p.bucket).idxOf k) x) l.reverse s

/-- The tunnel pipeline that serves an SA (R381, R386): its own, or the next healthy one. -/
def State.tunnelPipe (s : State) (sa : Nat) : Nat :=
  (((List.range 8).map fun i => 64 + (sa + i) % 8).find? fun u => s.healthy 0x0C u).getD (64 + sa % 8)
/-- The queue of a tunnel pipeline. -/
def State.tunnelQueue (s : State) (u : Nat) : List Nat := look s.cipher.queues u []
/-- Set the queue of a tunnel pipeline. -/
def State.setTunnelQueue (s : State) (u : Nat) (l : List Nat) : State :=
  { s with cipher := { s.cipher with queues := put s.cipher.queues u [] l } }

/-- What a list makes of a packet: its bytes and descriptor, and a divert to a queue not owned. -/
def State.applyList (s : State) (p : Packet) : Bytes × Desc × Bool :=
  let acts := listActions p.list
  let b := editBytes p (listData p.list) acts
  let d := (acts.filter fun a => byteAt a 0 = 4).foldl setMeta p.desc
  match acts.find? fun a => byteAt a 0 = 6 && byteAt a 1 = 0 with
  | none => (b, { d with length := b.length }, true)
  | some a =>
    let q := leAt a 4 4 % 2 ^ 20
    let b := puntHeader p a ++ b
    (b, { d with queue := q, length := b.length }, s.owns d.domain 2 q)

/-- The edit engine hands a packet on: to the tunnel cipher where metadata word 2 bit 31 is set (R381), else to its order
bucket. -/
def State.afterEdit (s : State) (k : Nat) : State :=
  let p := s.pkt k
  if bit p.desc.meta2 31 then
    let u := s.tunnelPipe (p.desc.meta2 % 2 ^ 15)
    s.setTunnelQueue u (s.tunnelQueue u ++ [k])
  else s.setPkt k { p with committed := true }

/-- The tunnel pipeline that a packet goes to has room (R381). -/
def State.tunnelRoom (s : State) (d : Desc) : Bool :=
  !bit d.meta2 31 || (s.tunnelQueue (s.tunnelPipe (d.meta2 % 2 ^ 15))).length < 64

/-- Edit a packet under its list (R258–R260). -/
def State.edit (s : State) (k : Nat) : State :=
  let p := s.pkt k
  let dom := p.desc.domain
  let acts := listActions p.list
  if !(acts.all (targetOk p.hv p.bytes.length)) then ((s.countEdit dom 1).countDomain dom 9).dropPass k
  else
    let (b, d, owned) := s.applyList p
    if 10368 < b.length then (s.countEdit dom 2).dropPass k
    else
      let copies := copiesOf p (editBytes p (listData p.list) acts) acts
      let s := (s.countEdit dom 0).sendCopies p d k copies
      let s := if acts.any (fun a => byteAt a 0 = 6 && byteAt a 1 = 0) && owned then s.countEdit dom 5 else s
      if !owned then (s.countEdit dom 6).dropPass k else (s.setPkt k { p with bytes := b, desc := d }).afterEdit k

/-- EDIT_APPLY (R258–R263): the edit engine's oldest packet; it stalls while the tunnel pipeline that the packet goes to
has no room. -/
def execEditApply (t cluster : Nat) (s : State) : Host.Outcome State Fault Refusal :=
  let s := s.at_ t
  .next (match look s.act.editQ cluster [] with
    | [] => s
    | k :: l =>
      let p := s.pkt k
      let s1 := { s with act := { s.act with editQ := put s.act.editQ cluster [] l } }
      if p.list = [] then
        (if s.tunnelRoom p.desc then (s1.setPkt k { p with desc := { p.desc with length := p.bytes.length } }).afterEdit k else s)
      else if s.tunnelRoom (s.applyList p).2.1 then s1.edit k
      else s)

end Sys2Proof.Machine
end

