-- ==== Sys2Proof/Machine/Crypt.lean ====
section
/-! DEFINITION. The cryptographic functions of standards that the key store, the cipher engines and the image checks name: AES (FIPS 197),
key wrap (RFC 3394), AES in Galois/Counter mode (SP 800-38D), SHA-384 (FIPS 180-4) and HKDF (RFC 5869). -/

namespace Sys2Proof

/-- Two byte strings combined bit by bit. -/
def xorBytes (a b : Bytes) : Bytes := a.zipWith (· ^^^ ·) b

/-! ### AES (R100, R101, R345, R376) -/

/-- A byte times *x* in the field of AES. -/
def xtime (a : Byte) : Byte := (a <<< 1) ^^^ (if a.msb then 0x1B else 0)

/-- The product of two bytes in the field of AES, by the low `n` bits of the second. -/
def fieldMul : Nat → Byte → Byte → Byte
  | 0, _, _ => 0
  | n + 1, a, b => (if b.getLsbD 0 then a else 0) ^^^ fieldMul n (xtime a) (b >>> 1)

/-- The inverse in the field of AES, the 254th power; 0 for 0. -/
def fieldInv (a : Byte) : Byte := (List.replicate 254 a).foldl (fieldMul 8) 1

/-- The substitution of AES. -/
def subByte (a : Byte) : Byte :=
  let b := fieldInv a
  b ^^^ b.rotateLeft 1 ^^^ b.rotateLeft 2 ^^^ b.rotateLeft 3 ^^^ b.rotateLeft 4 ^^^ 0x63

/-- The inverse substitution. -/
def unsubByte (a : Byte) : Byte := fieldInv (a.rotateLeft 1 ^^^ a.rotateLeft 3 ^^^ a.rotateLeft 6 ^^^ 0x05)

/-- The next word of a key schedule of which `ws` is there, for a key of `nk` words. -/
def nextKeyWord (nk : Nat) (ws : List Bytes) : Bytes :=
  let i := ws.length
  let w := ws.getLastD []
  let v := if i % nk = 0 then xorBytes ((w.rotateLeft 1).map subByte) [(List.replicate (i / nk - 1) ()).foldl (fun a _ => xtime a) 1, 0, 0, 0]
    else if 6 < nk && i % nk = 4 then w.map subByte
    else w
  xorBytes (ws.getD (i - nk) []) v

/-- The key schedule of a key of 16 or 32 bytes. -/
def keySchedule (key : Bytes) : List Bytes :=
  let nk := key.length / 4
  (List.range (3 * nk + 28)).foldl (fun ws _ => ws ++ [nextKeyWord nk ws]) ((List.range nk).map fun i => slice key (4 * i) 4)

/-- The round key of a round. -/
def roundKey (ws : List Bytes) (r : Nat) : Bytes := ((ws.drop (4 * r)).take 4).flatten

/-- A column of the state multiplied by the circulant matrix of a row. -/
def mixColumn (row col : Bytes) : Bytes :=
  (List.range 4).map fun r => ((List.range 4).map fun k => fieldMul 8 (col.getD k 0) (row.getD ((k + 4 - r) % 4) 0)).foldl (· ^^^ ·) 0

/-- Every column of the state multiplied. -/
def mixColumns (row b : Bytes) : Bytes := (List.range 4).flatMap fun c => mixColumn row (slice b (4 * c) 4)

/-- Row *r* of the state rotated left by *k* · *r*. -/
def shiftRows (k : Nat) (b : Bytes) : Bytes := (List.range 16).map fun i => b.getD ((i + 4 * k * (i % 4)) % 16) 0

/-- AES encrypts a block under a key. -/
def aesEncrypt (key b : Bytes) : Bytes :=
  let ws := keySchedule key
  let n := key.length / 4 + 6
  let b := (List.range (n - 1)).foldl
    (fun b r => xorBytes (mixColumns [2, 3, 1, 1] (shiftRows 1 (b.map subByte))) (roundKey ws (r + 1))) (xorBytes b (roundKey ws 0))
  xorBytes (shiftRows 1 (b.map subByte)) (roundKey ws n)

/-- AES decrypts a block under a key. -/
def aesDecrypt (key b : Bytes) : Bytes :=
  let ws := keySchedule key
  let n := key.length / 4 + 6
  let b := (List.range (n - 1)).foldl
    (fun b r => mixColumns [14, 11, 13, 9] (xorBytes ((shiftRows 3 b).map unsubByte) (roundKey ws (n - 1 - r)))) (xorBytes b (roundKey ws n))
  xorBytes ((shiftRows 3 b).map unsubByte) (roundKey ws 0)

/-! ### Key wrap (R101) -/

/-- The value that a wrapped key begins with before it is wrapped. -/
def wrapStart : Bytes := List.replicate 8 0xA6

/-- The blocks of 8 bytes of a byte string. -/
def blocks8 (b : Bytes) : List Bytes := (List.range (b.length / 8)).map fun i => slice b (8 * i) 8

/-- Step `i` of a key wrap over `n` blocks. -/
def wrapStep (kek : Bytes) (n : Nat) (x : Bytes × List Bytes) (i : Nat) : Bytes × List Bytes :=
  let b := aesEncrypt kek (x.1 ++ x.2.getD (i % n) [])
  (xorBytes (b.take 8) (beBytes 8 (i + 1)), x.2.set (i % n) (b.drop 8))

/-- Wrap a key. -/
def keyWrap (kek key : Bytes) : Bytes :=
  let l := blocks8 key
  let r := (List.range (6 * l.length)).foldl (wrapStep kek l.length) (wrapStart, l)
  r.1 ++ r.2.flatten

/-- Step `i` undone. -/
def unwrapStep (kek : Bytes) (n : Nat) (x : Bytes × List Bytes) (i : Nat) : Bytes × List Bytes :=
  let b := aesDecrypt kek (xorBytes x.1 (beBytes 8 (i + 1)) ++ x.2.getD (i % n) [])
  (b.take 8, x.2.set (i % n) (b.drop 8))

/-- Unwrap a wrapped key; none where the check fails. -/
def keyUnwrap (kek b : Bytes) : Option Bytes :=
  let l := (blocks8 b).drop 1
  let r := (List.range (6 * l.length)).reverse.foldl (unwrapStep kek l.length) (b.take 8, l)
  if r.1 = wrapStart then some r.2.flatten else none

/-! ### Galois/Counter mode (R376) -/

/-- Byte `i` of the key stream of a counter block: the blocks after it, each of one more in its low 32 bits. -/
def counterStream (key first : Bytes) (len : Nat) : Bytes :=
  ((List.range ((len + 15) / 16)).flatMap fun i =>
    aesEncrypt key (first.take 12 ++ beBytes 4 ((beAt first 12 4 + i) % 2 ^ 32))).take len

/-- The product of two elements of the field of 2^128, bit 0 being the most significant, by the top `n` bits of the second. -/
def ghashMul : Nat → BitVec 128 → BitVec 128 → BitVec 128
  | 0, _, _ => 0
  | n + 1, v, y => (if y.msb then v else 0) ^^^
      ghashMul n ((v >>> 1) ^^^ (if v.getLsbD 0 then 0xE1000000000000000000000000000000 else 0)) (y <<< 1)

/-- The blocks of 16 bytes of a byte string, filled with zeros. -/
def blocks16 (b : Bytes) : List Bytes := (List.range ((b.length + 15) / 16)).map fun i => slice b (16 * i) 16

/-- The hash of additional data and cipher text under a hash key. -/
def ghash (h : BitVec 128) (aad b : Bytes) : Bytes :=
  let l := blocks16 aad ++ blocks16 b ++ [beBytes 8 (8 * aad.length) ++ beBytes 8 (8 * b.length)]
  beBytes 16 (l.foldl (fun y x => ghashMul 128 h (y ^^^ BitVec.ofNat 128 (beAt x 0 16))) 0).toNat

/-- The first counter block of a nonce of 12 bytes. -/
def gcmFirst (nonce : Bytes) : Bytes := slice nonce 0 12 ++ [0, 0, 0, 1]

/-- Bytes encrypted or decrypted under a key and a nonce. -/
def gcmText (key nonce b : Bytes) : Bytes := xorBytes b (counterStream key (slice nonce 0 12 ++ [0, 0, 0, 2]) b.length)

/-- The tag of additional data and cipher text. -/
def gcmTag (key nonce aad b : Bytes) : Bytes :=
  let h := BitVec.ofNat 128 (beAt (aesEncrypt key (List.replicate 16 0)) 0 16)
  xorBytes (ghash h aad b) (aesEncrypt key (gcmFirst nonce))

/-! ### SHA-384 and HKDF (R100, R101, R448) -/

/-- The primes below 410, of which there are 80. -/
def shaPrimes : List Nat := (List.range 410).filter fun n => 2 ≤ n && (List.range n).all fun d => d < 2 || n % d ≠ 0

/-- The first 64 bits of the fractional part of the root of degree `k` of `n`, `n` below 512. -/
def rootFraction (k n : Nat) : BitVec 64 :=
  BitVec.ofNat 64 ((List.range 69).foldl (fun r i => if (r + 2 ^ (68 - i)) ^ k ≤ n * 2 ^ (64 * k) then r + 2 ^ (68 - i) else r) 0)

/-- The round constants of SHA-384: the fractions of the cube roots of the first 80 primes. -/
def shaRounds : List (BitVec 64) := shaPrimes.map (rootFraction 3)

/-- The hash value that SHA-384 starts with: the fractions of the square roots of the ninth to the sixteenth prime. -/
def shaStart : List (BitVec 64) := ((shaPrimes.drop 8).take 8).map (rootFraction 2)

/-- The next word of a message schedule. -/
def nextShaWord (w : List (BitVec 64)) : BitVec 64 :=
  let at_ (k : Nat) : BitVec 64 := w.getD (w.length - k) 0
  let a := at_ 15
  let b := at_ 2
  (b.rotateRight 19 ^^^ b.rotateRight 61 ^^^ (b >>> 6)) + at_ 7 + (a.rotateRight 1 ^^^ a.rotateRight 8 ^^^ (a >>> 7)) + at_ 16

/-- A round: the working variables with a round constant and a schedule word. -/
def shaRound (v : List (BitVec 64)) (k w : BitVec 64) : List (BitVec 64) :=
  match v with
  | [a, b, c, d, e, f, g, h] =>
    let t := h + (e.rotateRight 14 ^^^ e.rotateRight 18 ^^^ e.rotateRight 41) + ((e &&& f) ^^^ (~~~e &&& g)) + k + w
    let u := (a.rotateRight 28 ^^^ a.rotateRight 34 ^^^ a.rotateRight 39) + ((a &&& b) ^^^ (a &&& c) ^^^ (b &&& c))
    [t + u, a, b, c, d + t, e, f, g]
  | l => l

/-- A block of 128 bytes taken into the hash value. -/
def shaBlock (h : List (BitVec 64)) (b : Bytes) : List (BitVec 64) :=
  let w := (List.range 16).map fun i => BitVec.ofNat 64 (beAt b (8 * i) 8)
  let w := (List.range 64).foldl (fun w _ => w ++ [nextShaWord w]) w
  h.zipWith (· + ·) ((shaRounds.zip w).foldl (fun v r => shaRound v r.1 r.2) h)

/-- SHA-384. -/
def sha384 (b : Bytes) : Bytes :=
  let m := b ++ [0x80] ++ List.replicate ((239 - b.length % 128) % 128) 0 ++ beBytes 16 (8 * b.length)
  let h := (List.range (m.length / 128)).foldl (fun h i => shaBlock h (slice m (128 * i) 128)) shaStart
  (h.take 6).flatMap fun w => beBytes 8 w.toNat

/-- HMAC with SHA-384; the key is at most 128 bytes. -/
def hmac384 (key b : Bytes) : Bytes :=
  let k := slice key 0 128
  sha384 (k.map (· ^^^ 0x5C) ++ sha384 (k.map (· ^^^ 0x36) ++ b))

/-- HKDF with SHA-384, no salt, of a length of 32 bytes. -/
def hkdf384 (ikm info : Bytes) : Bytes := (hmac384 (hmac384 (List.replicate 48 0) ikm) (info ++ [1])).take 32

end Sys2Proof
end

