-- ==== Sys2Proof/Machine/Cipher.lean ====
section
/-! DEFINITION. The port and tunnel ciphers, disagreements, security associations and their commands (19_cipher.md). What
IEEE 802.1AE and RFC 4303 fix and the spec only names is marked PRESUMED (log entry 17). -/

namespace Sys2Proof.Machine

/-! ### Access -/

/-- A MACsec SA. -/
def State.macSa (s : State) (k : Nat) : MacSa := look s.cipher.macSas k {}
/-- Set a MACsec SA. -/
def State.setMacSa (s : State) (k : Nat) (x : MacSa) : State :=
  { s with cipher := { s.cipher with macSas := put s.cipher.macSas k {} x } }
/-- A tunnel SA. -/
def State.tunSa (s : State) (k : Nat) : TunSa := look s.cipher.tunSas k {}
/-- Set a tunnel SA. -/
def State.setTunSa (s : State) (k : Nat) (x : TunSa) : State :=
  { s with cipher := { s.cipher with tunSas := put s.cipher.tunSas k {} x } }
/-- A port's cipher settings. -/
def State.cport (s : State) (p : Nat) : CipherPort := look s.cipher.ports p {}
/-- Set a port's cipher settings. -/
def State.setCport (s : State) (p : Nat) (x : CipherPort) : State :=
  { s with cipher := { s.cipher with ports := put s.cipher.ports p {} x } }
/-- A cipher unit. -/
def State.cunit (s : State) (u : Nat) : CipherUnit := look s.cipher.units u {}
/-- Set a cipher unit. -/
def State.setCunit (s : State) (u : Nat) (x : CipherUnit) : State :=
  { s with cipher := { s.cipher with units := put s.cipher.units u {} x } }
/-- What stood before the set-PN op of an SA. -/
def State.priorMac (s : State) (k : Nat) : PriorMac := look s.cipher.priorMac k {}
/-- The PN of an SA is set in the present CCLK. -/
def State.macWritten (s : State) (k : Nat) : Bool := (s.priorMac k).cycle = s.cclk + 1
/-- The SA that a frame of the present CCLK meets (R388). -/
def State.macNow (s : State) (k : Nat) : MacSa :=
  if s.macWritten k then { (s.priorMac k).old with invalid := (s.macSa k).invalid } else s.macSa k
/-- Keep what stands before a set-PN op, once in a CCLK. -/
def State.setPriorMac (s : State) (k : Nat) (x : PriorMac) : State :=
  { s with cipher := { s.cipher with priorMac := put s.cipher.priorMac k {} x } }
/-- A frame of the present CCLK leaves an SA as `x`: a PN set in it stands. -/
def State.leaveMac (s : State) (k : Nat) (x : MacSa) : State :=
  if s.macWritten k then s.setPriorMac k { s.priorMac k with old := x } else s.setMacSa k x
/-- What stood before the set-sequence op of a tunnel SA. -/
def State.priorTun (s : State) (k : Nat) : PriorTun := look s.cipher.priorTun k {}
/-- The sequence of a tunnel SA is set in the present CCLK. -/
def State.tunWritten (s : State) (k : Nat) : Bool := (s.priorTun k).cycle = s.cclk + 1
/-- The tunnel SA that a packet of the present CCLK meets. -/
def State.tunNow (s : State) (k : Nat) : TunSa := if s.tunWritten k then (s.priorTun k).old else s.tunSa k
/-- Keep what stands before a set-sequence op. -/
def State.setPriorTun (s : State) (k : Nat) (x : PriorTun) : State :=
  { s with cipher := { s.cipher with priorTun := put s.cipher.priorTun k {} x } }
/-- A packet of the present CCLK leaves a tunnel SA as `x`. -/
def State.leaveTun (s : State) (k : Nat) (x : TunSa) : State :=
  if s.tunWritten k then s.setPriorTun k { s.priorTun k with old := x } else s.setTunSa k x
/-- The active transmit AN of a port for a frame that starts in the present CCLK (R388). -/
def State.anNow (s : State) (port : Nat) : Nat :=
  let r := look s.cipher.priorAn port {}
  if r.cycle = s.cclk + 1 then r.an else (s.cport port).txAn
/-- Keep the active AN as it stands before a change, once in a CCLK. -/
def State.noteAn (s : State) (port : Nat) : State :=
  { s with cipher := { s.cipher with priorAn := put s.cipher.priorAn port {} { cycle := s.cclk + 1, an := s.anNow port } } }
/-- Count an event of a MACsec SA. -/
def State.countMac (s : State) (k i n : Nat) : State :=
  let x := s.macSa k
  if x.live then s.setMacSa k { x with stats := bump x.stats i n } else s
/-- Count an event of a tunnel SA. -/
def State.countTun (s : State) (k i n : Nat) : State :=
  let x := s.tunSa k
  if x.live then s.setTunSa k { x with stats := bump x.stats i n } else s
/-- Count a port-scope cipher event. -/
def State.countCport (s : State) (p i : Nat) : State :=
  let x := s.cport p
  s.setCport p { x with stats := bump x.stats i 1 }
/-- A key slot. -/
def State.key (s : State) (k : Nat) : Key := look s.dom.keys k {}

/-- The bytes of a key (R100). -/
def Key.bytes (k : Key) : Bytes := beBytes (if k.kind = 2 then 32 else 16) k.key
/-- Bytes under the key stream of a key and nonce (R376). -/
def gcmCrypt (key : Key) (nonce b : Bytes) : Bytes := gcmText key.bytes nonce b
/-- The 16-byte ICV of a key and nonce over additional data and cipher text (R376). -/
def gcmIcv (key : Key) (nonce aad b : Bytes) : Bytes := gcmTag key.bytes nonce aad b

/-- Count the 16-byte blocks that a unit processes (R431). -/
def State.countBlocks (s : State) (u n : Nat) : State := s.count (3096 + u) ((n + 15) / 16)

/-! ### MACsec: the SecTAG (PRESUMED: IEEE 802.1AE) -/

/-- A SecTAG: its length with the EtherType, its flags, its AN, its short length, the low 32 bits of PN, its SCI. -/
structure SecTag where
  len : Nat
  es : Bool
  scb : Bool
  e : Bool
  c : Bool
  an : Nat
  sl : Nat
  pn : Nat
  sci : Option Nat

/-- Read the SecTAG of a frame; none where it is malformed. -/
def secTag (b : Bytes) (xpnZeroOk : Bool) : Option SecTag :=
  let t := byteAt b 14
  let sc := bit t 5
  let len := if sc then 16 else 8
  let sl := byteAt b 15
  let pn := beAt b 16 4
  let bad := bit t 7 || (sc && (bit t 6 || bit t 4)) || 48 ≤ sl || b.length < 12 + len + 16 ||
    (pn = 0 && !xpnZeroOk) || (bit t 2 ≠ bit t 3 && bit t 3) || b.length < 12 + len + 16 + sl
  if bad then none
  else some { len := len, es := bit t 6, scb := bit t 4, e := bit t 3, c := bit t 2, an := t % 4, sl := sl, pn := pn,
              sci := if sc then some (beAt b 20 8) else none }

/-- The receive SAs of a port. -/
def State.rxSas (s : State) (port : Nat) : List (Nat × MacSa) :=
  s.cipher.macSas.filter fun r => r.2.live && r.2.receive && r.2.port = port && !r.2.invalid
/-- The SCI of a frame: the tag's, or as IEEE 802.1AE derives it. -/
def State.sciOf (s : State) (port : Nat) (b : Bytes) (t : SecTag) : Option Nat :=
  match t.sci with
  | some x => some x
  | none =>
    if t.es then some (beAt b 6 6 * 65536 + if t.scb then 0 else 1)
    else match ((s.rxSas port).map fun r => r.2.sci).eraseDups with
      | [x] => some x
      | _ => none

/-- The suite has extended packet numbers. -/
def MacSa.xpn (x : MacSa) : Bool := 2 ≤ x.suite
/-- Replay protection is set. -/
def MacSa.replay (x : MacSa) : Bool := bit x.flags 4
/-- The lowest acceptable PN (R378). -/
def MacSa.lowest (x : MacSa) : Nat := if x.seen then max x.low (x.pn - x.window) else x.low
/-- The whole PN of a received frame. -/
def MacSa.wholePn (x : MacSa) (pn : Nat) : Nat :=
  if !x.xpn then pn
  else
    let lo := x.lowest
    let hi := lo / 2 ^ 32
    (if 2 ^ 31 ≤ lo % 2 ^ 32 && pn < 2 ^ 31 then hi + 1 else hi) * 2 ^ 32 + pn
/-- The nonce of a frame. -/
def MacSa.nonce (x : MacSa) (sci pn : Nat) : Bytes :=
  if x.xpn then ((beBytes 4 x.ssci ++ beBytes 8 pn).zip x.salt).map fun r => r.1 ^^^ r.2
  else beBytes 8 sci ++ beBytes 4 pn
/-- The confidentiality offset. -/
def MacSa.confOff (x : MacSa) : Nat :=
  match bits x.flags 2 1 with
  | 1 => 30
  | 2 => 50
  | _ => 0

/-- What the decrypt pipeline makes of a frame (R378): dropped, passed as it is, or decrypted under an SA. -/
inductive MacRx where
  | drop
  | plain
  | decrypted (b : Bytes) (sa pn : Nat) (checkPass : Bool)

/-- The frame without SecTAG and ICV. -/
def MacSa.openFrame (x : MacSa) (key : Key) (b : Bytes) (t : SecTag) (sci pn : Nat) : Bytes :=
  let n := if t.sl = 0 then b.length - 12 - t.len - 16 else t.sl
  let user := slice b (12 + t.len) n
  let o := if t.e then x.confOff else n
  b.take 12 ++ user.take o ++ gcmCrypt key (x.nonce sci pn) (user.drop o)

/-- A MACsec frame meets its SA (R378). -/
def State.macsecOpen (s : State) (port : Nat) (b : Bytes) : State × MacRx :=
  let xpn := (s.rxSas port).any fun r => r.2.xpn
  match secTag b xpn with
  | none => (s.countCport port 2, .drop)
  | some t =>
    match (s.rxSas port).find? fun r => some r.2.sci = s.sciOf port b t && r.2.an = t.an with
    | none => (s.countCport port 3, .drop)
    | some (k, _) =>
      let x := s.macNow k
      let pn := x.wholePn t.pn
      if x.replay && pn < x.lowest then (s.countMac k 4 1, .drop)
      else
        let s := s.countBlocks ((s.cport port).rxPipe - 1) b.length
        (s, .decrypted (x.openFrame (s.key x.slot) b t x.sci pn) k pn ((s.cport port).validate = 1 && !t.e))

/-- The decrypt pipeline of a port (R378, R386). PFC frames are consumed before it. -/
def State.macsecRx (s : State) (port : Nat) (b : Bytes) : State × MacRx :=
  let p := s.cport port
  let ty := beAt b 12 2
  if !p.rx then (s, .plain)
  else if look s.cipher.replacing (port * 2 + 1) false then (s.countCport port 5, .drop)
  else if ty = 0x888E then (s.countCport port 4, .plain)
  else if ty = 0x88E5 then s.macsecOpen port b
  else if p.validate = 2 then (s.countCport port 0, .drop)
  else (s.countCport port 1, .plain)

/-- A waiting row of the present CCLK is a disagreement on the frame of a thread (R388). -/
def State.disagreesNow (s : State) (th : ThreadId) : Bool :=
  s.pending.any fun i => match i with
    | .cipherDisagree t _ (.rx j) => decide (t / 3 ≤ s.cclk) && decide (j = th)
    | _ => false

/-- MACSEC_VERDICT (R379): the verdict of a thread's frame; a good one advances the SA's PN. A disagreement of the same cycle decides
the frame in its place (R388). -/
def execMacsecVerdict (t : Nat) (th : ThreadId) (good : Bool) (s : State) : Host.Outcome State Fault Refusal :=
  let s := s.at_ t
  .next (match (s.thread th).pass with
    | none => s
    | some k =>
      let p := s.pkt k
      match p.sa with
      | none => s
      | some a =>
        if p.verdict.isSome || s.disagreesNow th then s
        else
          let x := s.macNow a
          let s := s.setPkt k { p with verdict := some good }
          let s := if good then
              ((if x.live then s.leaveMac a { x with pn := if x.seen then max x.pn p.pn else p.pn, seen := true } else s).countMac
                a 0 1).countMac a 1 p.bytes.length
            else s.countMac a (if p.checkPass then 2 else 3) 1
          (s.settle th).quietAt th.cluster)

/-! ### Sequence limits (R380) -/

/-- Post CIPH_PN_LOW. -/
def State.pnLow (s : State) (owner sa next : Nat) (tunnel exhausted : Bool) : State :=
  s.eventTo owner 0x0DF0 (sa + 65536 * b2n tunnel + 131072 * b2n exhausted) next

/-- The last number of an SA, and the one at which CIPH_PN_LOW is posted. -/
def lastNumber (wide : Bool) : Nat := if wide then 2 ^ 64 - 1 else 2 ^ 32 - 1
/-- The number at which CIPH_PN_LOW is posted. -/
def lowNumber (wide : Bool) : Nat := if wide then 0xC000000000000000 else 0xC0000000

/-! ### MACsec transmit (R380, R385) -/

/-- The transmit SA of a port for a frame that starts now. -/
def State.txSa (s : State) (port : Nat) : Option (Nat × MacSa) :=
  s.cipher.macSas.find? fun r => r.2.live && !r.2.receive && r.2.port = port && r.2.an = s.anNow port

/-- A frame under an SA with its PN: SecTAG, user data and ICV; the ICV inverted where the frame is stomped. -/
def MacSa.protect (x : MacSa) (key : Key) (b : Bytes) (stomp : Bool) : Bytes :=
  let user := b.drop 12
  let enc := bit x.flags 0
  let sc := bit x.flags 3
  let tag := beBytes 2 0x88E5 ++ beBytes 1 (32 * b2n sc + 12 * b2n enc + x.an) ++
    beBytes 1 (if user.length < 48 then user.length else 0) ++ beBytes 4 (x.pn % 2 ^ 32) ++ if sc then beBytes 8 x.sci else []
  let o := if enc then x.confOff else user.length
  let nonce := x.nonce x.sci x.pn
  let ct := gcmCrypt key nonce (user.drop o)
  let icv := gcmIcv key nonce (b.take 12 ++ tag ++ user.take o) ct
  b.take 12 ++ tag ++ user.take o ++ ct ++ icv.map fun v => if stomp then ~~~v else v

/-- The encrypt pipeline of a port (R380): the frame to send, or none where it is dropped. -/
def State.macsecTx (s : State) (port : Nat) (b : Bytes) (stomp : Bool) : State × Option Bytes :=
  if !(s.cport port).tx || beAt b 12 2 = 0x888E then (s, some b)
  else if look s.cipher.replacing (port * 2) false then (s.countCport port 5, none)
  else
    match s.txSa port with
    | none => (s.countCport port 7, none)
    | some (k, _) =>
      let x := s.macNow k
      let own := s.owner 1 port
      if x.invalid then (s.countCport port 7, none)
      else if lastNumber x.xpn < x.pn then
        let s := if x.endPosted then s else (s.leaveMac k { x with endPosted := true }).pnLow own k x.pn false true
        (s.countCport port 7, none)
      else
        let out := x.protect (s.key x.slot) b stomp
        let y := { x with pn := x.pn + 1 }
        let low := lowNumber x.xpn ≤ y.pn && !x.lowPosted
        let s := s.leaveMac k { y with lowPosted := x.lowPosted || low }
        let s := if low then s.pnLow own k y.pn false false else s
        let s := ((s.countMac k 0 1).countMac k 1 b.length).countBlocks ((s.cport port).txPipe - 1) b.length
        (if stomp then s.countMac k 6 1 else s, some out)

/-! ### The tunnel cipher (R381–R383) -/

/-- The ESP offset and the SA that metadata word 2 names (R381); none where bits 21:15 are not 0. -/
def tunnelRef (w : Nat) : Option (Nat × Nat) := if bits w 21 15 = 0 then some (bits w 30 22, w % 2 ^ 15) else none

/-- The header length of the IP header at an offset. -/
def ipHeaderLen (b : Bytes) (o : Nat) : Nat := if byteAt b o / 16 = 6 then 40 else 4 * (byteAt b o % 16)

/-- The IP header at `o` with its length fields and, where given, its protocol set, its IPv4 checksum corrected (R382). -/
def fixIp (b : Bytes) (o : Nat) (growth : Int) (proto : Option Nat) : Bytes :=
  if byteAt b o / 16 = 6 then
    let w := overlay b (o + 4) (beBytes 2 (unsigned 16 ((beAt b (o + 4) 2 : Int) + growth)))
    match proto with
    | some p => overlay w (o + 6) (beBytes 1 p)
    | none => w
  else
    let w := overlay b (o + 2) (beBytes 2 (unsigned 16 ((beAt b (o + 2) 2 : Int) + growth)))
    let w := match proto with
      | some p => overlay w (o + 9) (beBytes 1 p)
      | none => w
    fixChecksum (headerWords o (2 * (byteAt b o % 16)) (o + 10)) b w (o + 10) false

/-- The header before the offset is the IP header of descriptor bytes 40–41 (R382). -/
def espIp (p : Packet) (off : Nat) : Bool :=
  p.desc.ipOffset ≠ 0xFFFF && p.desc.ipOffset + ipHeaderLen p.bytes p.desc.ipOffset = off

/-- The additional data of ESP (PRESUMED: RFC 4106). -/
def espAad (esn : Bool) (spi seq : Nat) : Bytes := if esn then beBytes 4 spi ++ beBytes 8 seq else beBytes 4 spi ++ beBytes 4 seq

/-- The packet under an outbound SA with a sequence number (R382). -/
def TunSa.seal (x : TunSa) (key : Key) (p : Packet) (off nh : Nat) : Bytes :=
  let plain := p.bytes.drop off
  let pad := (4 - (plain.length + 2) % 4) % 4
  let body := plain ++ (List.range pad).map (fun i => BitVec.ofNat 8 (i + 1)) ++ beBytes 1 pad ++ beBytes 1 nh
  let nonce := beBytes 4 x.salt ++ beBytes 8 x.seq
  let ct := gcmCrypt key nonce body
  p.bytes.take off ++ beBytes 4 x.spi ++ beBytes 4 (x.seq % 2 ^ 32) ++ beBytes 8 x.seq ++ ct ++
    gcmIcv key nonce (espAad x.esn x.spi x.seq) ct

/-- Clear metadata word 2 bit 31 and set the length after a change of the bytes (R381). -/
def Packet.afterCipher (p : Packet) (b : Bytes) : Packet :=
  { p with bytes := b, desc := { p.desc with meta2 := p.desc.meta2 % 2 ^ 31, length := b.length } }

/-- An outbound packet (R382). -/
def State.espOut (s : State) (k sa off : Nat) : State :=
  let p := s.pkt k
  let x := s.tunNow sa
  if lastNumber x.esn < x.seq then
    let s := if x.endPosted then s else (s.leaveTun sa { x with endPosted := true }).pnLow x.domain sa x.seq true true
    (s.countTun sa 4 1).dropPass k
  else
    let at_ := p.desc.ipOffset
    let ok := espIp p off
    let nh := if x.tunnel then (if byteAt p.bytes off / 16 = 6 then 41 else 4)
      else if ok then ipProto p.bytes at_ else Config.freeValue s.free % 256
    let s := if x.tunnel || ok then s else s.drawn
    let b := x.seal (s.key x.slot) p off nh
    let b := if ok then fixIp b at_ (b.length - p.bytes.length : Int) (if x.tunnel then none else some 50) else b
    let y := { x with seq := x.seq + 1 }
    let low := lowNumber x.esn ≤ y.seq && !x.lowPosted
    let s := s.leaveTun sa { y with lowPosted := x.lowPosted || low }
    let s := if low then s.pnLow x.domain sa y.seq true false else s
    if 10368 < b.length then (s.countEdit p.desc.domain 2).dropPass k
    else
      let s := (s.countTun sa 0 1).countTun sa 1 p.bytes.length
      s.setPkt k { p.afterCipher b with committed := true }

/-- The whole sequence number of a received packet (PRESUMED: RFC 4303 appendix A2). -/
def TunSa.wholeSeq (x : TunSa) (lo : Nat) : Nat :=
  if !x.esn then lo
  else
    let th := x.seq / 2 ^ 32
    let tl := x.seq % 2 ^ 32
    let bottom := (tl + 2 ^ 32 - (x.window - 1)) % 2 ^ 32
    if x.window - 1 ≤ tl then (if lo < bottom then th + 1 else th) * 2 ^ 32 + lo
    else (if bottom ≤ lo then th - 1 else th) * 2 ^ 32 + lo

/-- A sequence number lies in or right of the window and is not marked (R383). -/
def TunSa.fresh (x : TunSa) (q : Nat) : Bool := x.seq < q + x.window && !x.marks.contains q
/-- The window advances over a number. -/
def TunSa.mark (x : TunSa) (q : Nat) : TunSa :=
  let top := max x.seq q
  { x with seq := top, marks := (q :: x.marks).filter fun m => top < m + x.window }

/-- The padding is 1, 2, 3 and so on. -/
def padOk (b : Bytes) (n : Nat) : Bool := (List.range n).all fun i => byteAt b (b.length - n + i) = i + 1

/-- What an inbound SA reads in a packet (R383): why it is not trusted (replay or other), its number, and the packet's bytes. -/
structure EspIn where
  replay : Bool
  ok : Bool
  seq : Nat
  bytes : Bytes

/-- Read an inbound packet (R383). -/
def TunSa.unseal (x : TunSa) (key : Key) (p : Packet) (off : Nat) : EspIn :=
  let b := p.bytes
  let seq := x.wholeSeq (beAt b (off + 4) 4)
  let body := slice b (off + 16) (b.length - off - 32)
  let nonce := beBytes 4 x.salt ++ slice b (off + 8) 8
  let plain := gcmCrypt key nonce body
  let n := plain.length
  let pad := byteAt plain (n - 2)
  let nh := byteAt plain (n - 1)
  let rest := plain.take (n - 2 - pad)
  let good := off + 34 ≤ b.length && beAt b off 4 = x.spi && gcmIcv key nonce (espAad x.esn x.spi seq) body = b.drop (b.length - 16) &&
    pad + 2 ≤ n && padOk (plain.take (n - 2)) pad
  let out := b.take off ++ rest
  let out := if espIp p off then fixIp out p.desc.ipOffset (out.length - b.length : Int) (if x.tunnel then none else some nh) else out
  { replay := !x.fresh seq, ok := good && x.fresh seq && !x.invalid, seq := seq, bytes := out }

/-- A packet that is not trusted (R383, R384): on an ingress pass it is dropped at enqueue; on an egress pass it is dropped, or
stomped, and counted against its SA (R385), where its first byte has left, which the spec leaves to the moment. -/
def State.untrust (s : State) (k sa : Nat) : State :=
  let p := s.pkt k
  if !p.egress then s.setPkt k { p with untrusted := true, committed := true }
  else if Config.freeValue s.free % 2 = 0 then s.drawn.dropPass k
  else (s.drawn.countTun sa 6 1).setPkt k { p with stomp := true, committed := true }

/-- An inbound packet (R383). -/
def State.espIn (s : State) (k sa off : Nat) : State :=
  let p := s.pkt k
  let x := s.tunNow sa
  let r := x.unseal (s.key x.slot) p off
  let s := s.setPkt k (p.afterCipher r.bytes)
  if r.ok then
    let s := (s.leaveTun sa (x.mark r.seq)).countTun sa 0 1
    (s.countTun sa 1 r.bytes.length).setPkt k { p.afterCipher r.bytes with committed := true }
  else (s.countTun sa (if r.replay then 4 else 3) 1).untrust k sa

/-- TUNNEL_CIPHER (R381–R383): the pipeline's oldest packet. -/
def execTunnelCipher (t pipe : Nat) (s : State) : Host.Outcome State Fault Refusal :=
  let s := s.at_ t
  .next (match s.tunnelQueue pipe with
    | [] => s
    | k :: l =>
      let s := s.setTunnelQueue pipe l
      let p := s.pkt k
      let deny (s : State) : State :=
        ({ s with cipher := { s.cipher with denied := bump s.cipher.denied p.desc.domain 1 } }).dropPass k
      match tunnelRef (p.desc.meta2 % 2 ^ 31) with
      | none => deny s
      | some (off, sa) =>
        let x := s.tunSa sa
        if !x.live || x.domain ≠ p.desc.domain then deny s
        else
          let s := s.countBlocks pipe p.bytes.length
          if x.invalid then (s.setPkt k (p.afterCipher p.bytes)).untrust k sa
          else if x.inbound then s.espIn k sa off
          else s.espOut k sa off)

/-! ### Placement and map-out of units (R377, R386) -/

/-- Port speed in 25 Gb/s units. -/
def Port.units (p : Port) : Nat := (p.speed + 24999) / 25000
/-- The load of a port pipeline (CIPH_PIPE). -/
def State.pipeLoad (s : State) (u : Nat) : Nat :=
  (s.cipher.ports.map fun r =>
    if (u < 32 && r.2.rx && r.2.rxPipe = u + 1) || (32 ≤ u && r.2.tx && r.2.txPipe = u + 1) then (s.port r.1).units else 0).sum
/-- The lowest healthy pipeline of a direction with room for a port (R377). -/
def State.pipeFor (s : State) (port : Nat) (rx : Bool) : Option Nat :=
  ((List.range 32).map fun i => if rx then i else 32 + i).find? fun u =>
    s.healthy 0x0C u && s.pipeLoad u + (s.port port).units ≤ 80
/-- A direction of a port waits for a pipeline. -/
def State.setReplacing (s : State) (port : Nat) (rx on : Bool) : State :=
  { s with cipher := { s.cipher with replacing := put s.cipher.replacing (port * 2 + b2n rx) false on } }

/-- Place one direction of a port, where a pipeline has room. -/
def State.place (s : State) (port : Nat) (rx : Bool) : Option State :=
  (s.pipeFor port rx).map fun u =>
    let x := s.cport port
    s.setCport port (if rx then { x with rxPipe := u + 1 } else { x with txPipe := u + 1 })

/-- Place what waits for a pipeline (R386), in ascending port number: a port that finds no room faults with cause 7, one that
finds it clears that condition. -/
def State.placeWaiting (s : State) : State :=
  each (fun k s =>
    let port := k / 2
    match s.place port (k % 2 = 1) with
    | none => s.raiseCond port 7
    | some s =>
      let s := s.setReplacing port (k % 2 = 1) false
      if s.cipher.replacing.any fun r => r.1 / 2 = port then s else s.clearCond port 7)
    (s.cipher.replacing.map fun r => r.1) s

/-- The domain mask of a cipher unit (R477). -/
def State.cipherMask (s : State) (u : Nat) : Nat :=
  let ports := (s.cipher.ports.filter fun r => r.2.rxPipe = u + 1 || r.2.txPipe = u + 1).map fun r => 2 ^ s.owner 1 r.1
  let sas := (s.cipher.tunSas.filter fun r => r.2.live && s.tunnelPipe r.1 = u).map fun r => 2 ^ r.2.domain
  let trees := if 72 ≤ u then (List.range 8).map fun i => 2 ^ s.owner 7 (8 * ((u - 72) / 10) + i) else []
  orMasks (if u < 64 then ports else if u < 72 then sas else trees)

/-- A cipher unit is mapped out (R386): the ports of a pipeline wait for another, the queue of a tunnel pipeline moves to the
pipelines that now serve its SAs; CIPH_FAULT is posted. -/
def State.cipherOut (s : State) (u : Nat) (planned : Bool) : State :=
  if s.isOut 0x0C u then s
  else
    let s := s.mapOut 0x0C u 0 (s.cipherMask u) 0 planned
    let s := s.eventTo 0 0x0DF1 (u + 256) s.units.lastSeq
    let mine := s.cipher.ports.filter fun r => (r.2.rx && r.2.rxPipe = u + 1) || (r.2.tx && r.2.txPipe = u + 1)
    let s := each (fun r s =>
      let x := s.cport r.1
      let rx := u < 32
      (s.setCport r.1 (if rx then { x with rxPipe := 0 } else { x with txPipe := 0 })).setReplacing r.1 rx true) mine s
    if 64 ≤ u && u < 72 then
      let q := s.tunnelQueue u
      each (fun k s =>
        let v := s.tunnelPipe ((s.pkt k).desc.meta2 % 2 ^ 15)
        s.setTunnelQueue v (s.tunnelQueue v ++ [k])) q (s.setTunnelQueue u [])
    else s

/-- CIPHER_REPLACE (R386): the ports of a failed pipeline are placed again. -/
def execCipherReplace (t unit : Nat) (s : State) : Host.Outcome State Fault Refusal :=
  let s := s.at_ t
  .next (if unit < 64 && s.isOut 0x0C unit then s.placeWaiting else s)

/-! ### Disagreements (R384–R386) -/

/-- Log a disagreement of a unit: its counts, CIPH_FAULT_LOG, the known-answer test that follows, and the map-out where it is
the third within 1 s. -/
def State.disagree (s : State) (u : Nat) : State :=
  let x := s.cunit u
  let l := (s.now :: x.last).filter fun i => s.now < i + ms 1000
  let s := s.setCunit u { testing := true, disagree := min 255 (x.disagree + 1), last := l.take 3 }
  let s := { s with cipher := { s.cipher with
    logValid := true, logUnit := u, logCount := min 65535 (s.cipher.logCount + 1), logMark := s.cipher.logMark.note s.kclk s.cipher.logCount } }
  if 3 ≤ l.length then s.cipherOut u false else s

/-- What a disagreement does to the packet (R384, R385). A downstream XGEM frame is dropped in the egress pipe; an upstream one is not
among the frames of its burst. -/
def State.disagreeAt (s : State) (w : DisagreeAt) : State :=
  match w with
  | .rx th =>
    match (s.thread th).pass with
    | none => s
    | some k =>
      let p := s.pkt k
      match p.sa with
      | none => s
      | some a => (((s.countMac a (if p.checkPass then 2 else 5) 1).setPkt k { p with verdict := some false }).settle th).quietAt th.cluster
  | .tunnel sa egress left =>
    match s.pkts.find? fun r => r.2.inPass && r.2.committed && r.2.egress = egress && !r.2.untrusted &&
        r.2.desc.meta2 % 2 ^ 15 = sa && r.2.desc.domain = (s.tunSa sa).domain with
    | none => s.countTun sa 5 1
    | some (k, p) =>
      if !egress then (s.countTun sa 5 1).setPkt k { p with untrusted := true }
      else if left then (s.countTun sa 6 1).setPkt k { p with stomp := true }
      else (s.countTun sa 5 1).dropPass k
  | .tx port left =>
    let a := s.txSa port
    match s.pkts.find? fun r => r.2.live && r.2.desc.port = port && !r.2.inPass && r.2.egress with
    | none => s
    | some (k, p) =>
      if left then s.setPkt k { p with stomp := true }
      else
        let s := match a with
          | some (n, _) => s.countMac n 5 1
          | none => s
        s.dropPkt k
  | .pon tree down =>
    match s.treePort tree with
    | none => s
    | some port =>
      match look s.ports.pipes port [] with
      | k :: l => if down then ({ s with ports := { s.ports with pipes := put s.ports.pipes port [] l } }).dropPkt k else s
      | [] => s

/-- CIPHER_DISAGREE (R384). -/
def execCipherDisagree (t unit : Nat) (w : DisagreeAt) (s : State) : Host.Outcome State Fault Refusal :=
  let s := s.at_ t
  .next (if 132 ≤ unit || s.isOut 0x0C unit then s else (s.disagreeAt w).disagree unit)

/-- CIPHER_KAT (R386). -/
def execCipherKat (t unit : Nat) (pass : Bool) (s : State) : Host.Outcome State Fault Refusal :=
  let s := s.at_ t
  let x := s.cunit unit
  .next (if !x.testing then s
    else
      let s := s.setCunit unit { x with testing := false }
      if pass then s else s.cipherOut unit false)

/-- CIPH_FAULT_LOG_READ (R384). -/
def execCiphFaultLogRead (t : Nat) (r : RegRead) (s : State) : Host.Outcome State Fault Refusal :=
  let s := s.at_ t
  let n := s.cipher.logMark.seen s.kclk s.cipher.logCount
  let v := 2 ^ 31 * b2n s.cipher.logValid + 65536 * s.cipher.logUnit + n
  .next (if s.answers r.host && readHits r 0x02402000 then
      let s1 := s.emit (.read r.host (readPart r v))
      if readAligned r then
        { s1 with cipher := { s1.cipher with logCount := s.cipher.logCount - n, logMark := s.cipher.logMark.cleared s.kclk } }
      else s1
    else s)

/-! ### Commands (R376, R387–R389) -/

/-- The check that a key slot is owned, loaded and of a suite's width (R387): kind 1 AES-128, 2 AES-256. -/
def State.slotErr (s : State) (c : Cmd) (slot : Nat) (wide : Bool) : Option Err :=
  firstErr [s.ownErr c 8 slot, need ((s.key slot).kind ≠ 0) { status := .notFound },
    Sys2Proof.at_ 24 ((s.key slot).kind = if wide then 2 else 1)]

/-- Lanes of a port are mapped out. -/
def State.portLanesErr (s : State) (p : Nat) : Option Err := s.lanesErr p

/-- The receive SCs of a port. -/
def State.rxScs (s : State) (p : Nat) : List Nat :=
  ((s.cipher.macSas.filter fun r => r.2.live && r.2.receive && r.2.port = p).map fun r => r.2.sci).eraseDups

/-- An SA of the same port, direction, AN and, for receive, SC. -/
def State.anTaken (s : State) (c : Cmd) : Bool :=
  s.cipher.macSas.any fun r => r.2.live && r.2.port = c.u8 20 && r.2.receive = (c.u8 19 = 1) && r.2.an = c.u8 21 &&
    (c.u8 19 = 0 || r.2.sci = c.u64 32)

/-- MACSEC_SA's checks. -/
def macsecSaErrs (c : Cmd) (s : State) : List (Option Err) :=
  let k := c.u16 16
  let op := c.u8 18
  let x := s.macSa k
  let range := [at_ 16 (k < 16384), at_ 18 (op ≤ 3), at_ 19 (c.u8 19 ≤ 1)]
  if op = 0 then
    range ++
    [if x.live then s.ownErr c 1 x.port else none, at_ 16 (!x.live), at_ 20 (c.u8 20 < 128), s.ownErr c 1 (c.u8 20), at_ 20 ((s.port (c.u8 20)).personality = .ethernet), at_ 21 (c.u8 21 ≤ 3),
     at_ 22 (c.u8 22 ≤ 3), at_ 23 (c.u8 23 < 32 && bits (c.u8 23) 2 1 ≤ 2), s.slotErr c (c.u32 24) (c.u8 22 % 2 = 1),
     at_ 28 (c.u32 28 ≤ 2 ^ 30), at_ 21 (!s.anTaken c),
     at_ 32 (c.u8 19 = 0 || (s.rxScs (c.u8 20)).contains (c.u64 32) || (s.rxScs (c.u8 20)).length < 256),
     s.portLanesErr (c.u8 20)]
  else
    range ++ [at_ 23 (c.u8 23 < 32), need x.live { status := .notFound }, s.ownErr c 1 x.port, s.busyErr c, at_ 18 (op ≠ 3 || !x.receive), s.portLanesErr x.port]

/-- What MACSEC_SA does: the frames of its CCLK use the PN and the AN from before it (R388). -/
def macsecSaDone (c : Cmd) (s : State) : State :=
  let k := c.u16 16
  let x := s.macSa k
  match c.u8 18 with
  | 0 => s.setMacSa k { live := true, receive := c.u8 19 = 1, port := c.u8 20, an := c.u8 21, suite := c.u8 22, flags := c.u8 23,
                        slot := c.u32 24, window := c.u32 28, sci := c.u64 32, ssci := c.u32 48, salt := (slice c.params 36 12).reverse,
                        pn := c.u64 40, low := c.u64 40 }
  | 1 => s.setMacSa k {}
  | 2 => (s.setPriorMac k { cycle := s.cclk + 1, old := s.macNow k }).setMacSa k { x with pn := c.u64 40, low := c.u64 40, seen := false, lowPosted := false, endPosted := false }
  | _ => (s.noteAn x.port).setCport x.port { s.cport x.port with txAn := x.an }

/-- MACSEC_SA (R387, R388). -/
def execMacsecSa (t : Nat) (c : Cmd) (s : State) : Host.Outcome State Fault Refusal :=
  let s := s.at_ t
  .next (s.command 0x0D00 c .any (macsecSaErrs c s) { s := macsecSaDone c s })

/-- MACsec of a direction as MACSEC_PORT sets it: none where no pipeline has room (R377). -/
def State.macsecDir (s : State) (p : Nat) (rx on : Bool) : Option State :=
  let x := s.cport p
  if on then
    if rx && x.rx || !rx && x.tx then some s
    else (s.place p rx).map fun s =>
      let x := s.cport p
      s.setCport p (if rx then { x with rx := true } else { x with tx := true })
  else some ((s.setCport p (if rx then { x with rx := false, rxPipe := 0 } else { x with tx := false, txPipe := 0 })).setReplacing
    p rx false)

/-- MACSEC_PORT (R377, R389). -/
def execMacsecPort (t : Nat) (c : Cmd) (s : State) : Host.Outcome State Fault Refusal :=
  let s := s.at_ t
  let p := c.u8 16
  let made := match s.macsecDir p false (bit (c.u8 17) 0) with
    | none => none
    | some s => s.macsecDir p true (bit (c.u8 17) 1)
  let s1 := match made with
    | none => s
    | some s => s.setCport p { s.cport p with validate := c.u8 18 }
  .next (s.command 0x0D01 c .any
    [at_ 16 (p < 128), s.ownErr c 1 p, at_ 16 ((s.port p).personality = .ethernet), at_ 17 (c.u8 17 < 4),
     at_ 18 (c.u8 18 = 1 || c.u8 18 = 2), c.zeros 19 45, s.portLanesErr p, need made.isSome { status := .tableFull }]
    { s := if s1.cipher.replacing.any fun r => r.1 / 2 = p then s1 else s1.clearCond p 7 })

/-- A power of two from 64 to 4,096. -/
def windowOk (w : Nat) : Bool := ([64, 128, 256, 512, 1024, 2048, 4096] : List Nat).contains w

/-- TUNNEL_SA's checks. -/
def tunnelSaErrs (c : Cmd) (s : State) : List (Option Err) :=
  let k := c.u16 16
  let op := c.u8 18
  let x := s.tunSa k
  let range := [at_ 16 (k < 32768), at_ 18 (op ≤ 2), at_ 19 (c.u8 19 ≤ 1)]
  if op = 0 then
    range ++ [need (!x.live || x.domain = c.domain) denied, at_ 16 (!x.live), at_ 20 (c.u8 20 ≤ 1), at_ 21 (c.u8 21 < 4), at_ 22 (windowOk (c.u16 22)), s.slotErr c (c.u32 24) (c.u8 20 = 1),
      c.zeros 36 4, c.zeros 48 16]
  else range ++ [c.zeros 36 4, c.zeros 48 16, need x.live { status := .notFound }, need (x.domain = c.domain) denied, s.busyErr c]

/-- TUNNEL_SA (R387). -/
def execTunnelSa (t : Nat) (c : Cmd) (s : State) : Host.Outcome State Fault Refusal :=
  let s := s.at_ t
  let k := c.u16 16
  let x := s.tunSa k
  let s1 := match c.u8 18 with
    | 0 => s.setTunSa k { live := true, domain := c.domain, inbound := c.u8 19 = 1, aes256 := c.u8 20 = 1, tunnel := bit (c.u8 21) 0,
                          esn := bit (c.u8 21) 1, window := c.u16 22, slot := c.u32 24, spi := c.u32 28, salt := c.u32 32,
                          seq := c.u64 40 }
    | 1 => s.setTunSa k {}
    | _ => (s.setPriorTun k { cycle := s.cclk + 1, old := s.tunNow k }).setTunSa k { x with seq := c.u64 40, marks := [], lowPosted := false, endPosted := false }
  .next (s.command 0x0D02 c .any (tunnelSaErrs c s) { s := s1 })

/-- The eight counters of CIPH_STATS: the last of an SA is its number. -/
def State.ciphCounters (s : State) (scope k : Nat) : Bytes :=
  match scope with
  | 0 => counterBytes (s.macSa k).stats 7 ++ leBytes 8 (s.macSa k).pn
  | 1 => counterBytes (s.tunSa k).stats 7 ++ leBytes 8 (s.tunSa k).seq
  | _ => counterBytes (s.cport k).stats 8

/-- CIPH_STATS. -/
def execCiphStats (t : Nat) (c : Cmd) (s : State) : Host.Outcome State Fault Refusal :=
  let s := s.at_ t
  let k := c.u16 18
  let scope := c.u8 16
  let clear (s : State) : State := match scope with
    | 0 => s.setMacSa k { s.macSa k with stats := [] }
    | 1 => s.setTunSa k { s.tunSa k with stats := [] }
    | _ => s.setCport k { s.cport k with stats := [] }
  let named := match scope with
    | 0 => firstErr [at_ 18 (k < 16384), need (s.macSa k).live { status := .notFound }, s.ownErr c 1 (s.macSa k).port]
    | 1 => firstErr [at_ 18 (k < 32768), need (s.tunSa k).live { status := .notFound }, need ((s.tunSa k).domain = c.domain) denied]
    | _ => firstErr [at_ 18 (k < 128), s.ownErr c 1 k]
  .next (s.command 0x0D03 c .any
    [c.needReply, at_ 16 (scope ≤ 2), c.zeros 17 1, named, at_ 20 (c.u8 20 ≤ 1), c.zeros 21 43]
    { s := if bit (c.u8 20) 0 then clear s else s, result := 64, long := s.ciphCounters scope k })

/-- A key slot is zeroised (R387): every SA that names it becomes invalid. -/
def State.slotGone (s : State) (slot : Nat) : State :=
  let f (x : MacSa) : MacSa := if x.slot = slot then { x with invalid := true } else x
  let g (x : TunSa) : TunSa := if x.slot = slot then { x with invalid := true } else x
  { s with cipher := { s.cipher with macSas := s.cipher.macSas.map fun (r : Nat × MacSa) => (r.1, f r.2),
                                     tunSas := s.cipher.tunSas.map fun (r : Nat × TunSa) => (r.1, g r.2) } }

end Sys2Proof.Machine
end

