-- ==== Sys2Proof/Machine/Line.lean ====
section
/-! DEFINITION. What an ELI line carries (06_elastic_line.md R128–R135): the 66b blocks of a slot, the packets in them, the scrambler, the
test pattern, and the lane groups with their markers and RS(544,514) codewords. The order of a byte's bits on the line and the first
output of each generator are log entry 131; the 66b block types and the Clause 91 field are IEEE 802.3's, log entry 132. -/

namespace Sys2Proof.Machine

/-! ### 66b blocks (R131, R135) -/

/-- The lowest `w` bits of a number in the opposite order. -/
def rev (w n : Nat) : Nat := (List.range w).foldl (fun a i => 2 * a + b2n (bit n i)) 0

/-- A block's 66 bits in transmission order, the first bit highest: the sync header, then the payload, low bit of each octet first. -/
def Blk.bits (b : Blk) : Nat := b.sync % 4 * 2 ^ 64 + rev 64 b.data

/-- The block of 66 bits. -/
def Blk.ofBits (n : Nat) : Blk := { sync := n / 2 ^ 64 % 4, data := rev 64 n }

/-- The blocks that a slot block carries: 121. -/
def slotBlks : Nat := 121

/-- The 1,000 bytes of a slot that carries some blocks, with its 14 stuff bits (R131). -/
def slotBytes (l : List Blk) : Bytes := beBytes 1000 ((l.foldl (fun n b => n * 2 ^ 66 + b.bits) 0) * 2 ^ 14)

/-- The blocks of a slot. -/
def slotBlocks (b : Bytes) : List Blk :=
  let n := beAt b 0 1000
  (List.range slotBlks).map fun i => Blk.ofBits (n / 2 ^ (14 + 66 * (120 - i)) % 2 ^ 66)

/-- A block of some octets, the first one lowest. -/
def blkOf (sync : Nat) (octets : Bytes) : Blk := { sync := sync, data := leAt octets 0 8 }

/-- The idle block. -/
def idleBlk : Blk := { sync := 2, data := 0x1E }
/-- The error block: eight error characters. -/
def errorBlk : Blk := { sync := 2, data := (List.range 8).foldl (fun n i => n + 0x1E * 2 ^ (8 + 7 * i)) 0x1E }
/-- The ordered set of Remote Fault. -/
def remoteFaultBlk : Blk := { sync := 2, data := 0x4B + 2 * 2 ^ 24 }
/-- The block that starts a packet: its preamble and start delimiter. -/
def startBlk : Blk := blkOf 2 [0x78, 0x55, 0x55, 0x55, 0x55, 0x55, 0x55, 0xD5]

/-- The types of the blocks that end a packet after 0 to 7 octets. -/
def endTypes : List Nat := [0x87, 0x99, 0xAA, 0xB4, 0xCC, 0xD2, 0xE1, 0xFF]

/-- How many octets of a packet a block that ends it holds. -/
def Blk.ends (b : Blk) : Option Nat := if b.sync = 2 then endTypes.idxOf? (b.data % 256) else none

/-- The block starts a packet. -/
def Blk.starts (b : Blk) : Bool := b.sync = 2 && b.data % 256 = 0x78

/-- A packet goes on behind the block. -/
def Blk.open_ (b : Blk) : Bool := b.sync = 1 || b.starts

/-- The data blocks of a packet's octets and the block that ends it. -/
def bodyBlks : Nat → Bytes → List Blk
  | 0, b => [blkOf 2 (BitVec.ofNat 8 (endTypes.getD b.length 0) :: b)]
  | n + 1, b => blkOf 1 (b.take 8) :: bodyBlks n (b.drop 8)

/-- The blocks of a packet with its FCS, and the deficit that its inter-packet gap of 12 octets on average leaves (IEEE 802.3). -/
def packetBlks (dic : Nat) (b : Bytes) : List Blk × Nat :=
  let down := (b.length + 20) % 8
  let short := dic + down ≤ 7
  let octets := if short then b.length + 20 - down else b.length + 20 + (8 - down) % 8
  let l := startBlk :: bodyBlks (b.length / 8) b
  (l ++ List.replicate (octets / 8 - l.length) idleBlk, if short then dic + down else dic - (8 - down) % 8)

/-- The MAC reads one block: the packet that comes in, with the mark of an error in it, and the packets that have ended. -/
def macBlk (st : Option (Bytes × Bool) × List (Bytes × Bool)) (b : Blk) : Option (Bytes × Bool) × List (Bytes × Bool) :=
  match st.1 with
  | none => if b.starts then (some ([], false), st.2) else st
  | some (p, bad) =>
    if b.sync = 1 then (some (p ++ leBytes 8 b.data, bad), st.2)
    else match b.ends with
    | some k => (none, st.2 ++ [(p ++ ((leBytes 8 b.data).drop 1).take k, bad)])
    | none =>
      if b.starts then (some ([], false), st.2 ++ [(p, true)])
      else if b = errorBlk then (some (p ++ List.replicate 8 0xFE, true), st.2)
      else (none, st.2 ++ [(p, true)])

/-! ### The elastic store of an express group (R151) -/

/-- Put up to `n` idle blocks in at the first place between packets; `mid` says that a packet goes on. -/
def addIdle (n : Nat) (mid : Bool) : List Blk → List Blk
  | [] => if mid then [] else List.replicate n idleBlk
  | b :: l => if mid then b :: addIdle n b.open_ l else List.replicate n idleBlk ++ b :: l

/-- Take up to `n` idle blocks out. -/
def dropIdle : Nat → List Blk → List Blk
  | n + 1, b :: l => if b = idleBlk then dropIdle n l else b :: dropIdle (n + 1) l
  | _, l => l

/-- The store with more blocks, within its two frames of `n`. -/
def storeBlks (n : Nat) (store more : List Blk) : List Blk :=
  let l := store ++ more
  (dropIdle (l.length - 2 * n) l).take (2 * n)

/-! ### The scrambler and the parity (R132, R133) -/

/-- The next state of the generator x^31 + x^28 + 1. -/
def prbs31Next (g : Nat) : Nat := 2 * g % 2 ^ 31 + b2n (bit g 30 != bit g 27)

/-- Add bytes to the generator's output, bit by bit. -/
def prbs31Add : Nat → Bytes → Bytes
  | _, [] => []
  | g, x :: l => (x ^^^ BitVec.ofNat 8 (g / 2 ^ 23)) :: prbs31Add ((List.range 8).foldl (fun g _ => prbs31Next g) g) l

/-- A frame scrambled, or descrambled (R132): bytes 0–6 stay, and the seed is 0x7FFF_FF00 | MFAS. -/
def scramble (b : Bytes) : Bytes := b.take 7 ++ prbs31Add (0x7FFFFF00 ||| byteAt b 6) (b.drop 7)

/-- The even parity of each bit position over bytes (R133). -/
def bip8 (b : Bytes) : Nat := b.foldl (fun p x => p ^^^ x.toNat) 0

/-! ### The test pattern x^23 + x^18 + 1 (R134) -/

/-- The next bit of the pattern after the last 23 bits. -/
def prbs23Bit (g : Nat) : Bool := bit g 22 != bit g 17

/-- `n` bits of the pattern, the first one highest, and the generator's state behind them. -/
def prbs23 : Nat → Nat → Nat → Nat × Nat
  | 0, g, a => (a, g)
  | n + 1, g, a => prbs23 n (2 * g % 2 ^ 23 + b2n (prbs23Bit g)) (2 * a + b2n (bit g 22))

/-- The checker reads the bits of a slot, `n` of them, the first one highest. Its state is a 1 above the bits received, up to 23; the bits
that differ from the pattern after the 23 bits before them are counted. -/
def prbs23Check (slot : Nat) : Nat → Nat → Nat → Nat × Nat
  | 0, v, errs => (v, errs)
  | n + 1, v, errs =>
    let b := bit slot n
    if v < 2 ^ 23 then prbs23Check slot n (2 * v + b2n b) errs
    else prbs23Check slot n (2 ^ 23 + (2 * v + b2n b) % 2 ^ 23) (errs + b2n (prbs23Bit v != b))

/-! ### The lane layer (R128, R129) -/

/-- The lane marker's pattern. -/
def lmPattern : Nat := 0xC61F935A2D78

/-- The filler pattern 0b1100, `n` times. -/
def fillBits (n : Nat) : Nat := (List.range n).foldl (fun a _ => 16 * a + 12) 0

/-- The 436 bits of a lane marker of a pattern, the first one highest (R129, R330). -/
def markerOf (pattern lane group : Nat) : Nat :=
  (((pattern * 2 ^ 8 + lane) * 2 ^ 8 + (255 - lane)) * 2 ^ 16 + group % 65536) * 2 ^ 356 + fillBits 89

/-- The 436 bits of an ELI lane marker. -/
def markerBits (lane group : Nat) : Nat := markerOf lmPattern lane group

/-- The share of logical lane `k`: byte `b` of the frame stream goes to lane `b mod 8` (R129). -/
def laneShare (k : Nat) (frame : Bytes) : Bytes :=
  (List.range 16008).map fun i => BitVec.ofNat 8 (byteAt frame (8 * i + k))

/-- Doubling in GF(2^10) by x^10 + x^3 + 1. -/
def gfDouble (a : Nat) : Nat := if bit a 9 then (2 * a) ^^^ 0x409 else 2 * a

/-- The product in GF(2^10). -/
def gfMul (a b : Nat) : Nat :=
  ([9, 8, 7, 6, 5, 4, 3, 2, 1, 0] : List Nat).foldl (fun r i => if bit b i then gfDouble r ^^^ a else gfDouble r) 0

/-- The generator polynomial of RS(544,514), the highest coefficient first: the product of x + α^j over j from 0 to 29. -/
def rsGenerator : List Nat :=
  ((List.range 30).foldl (fun (r : List Nat × Nat) _ =>
    (List.zipWith (· ^^^ ·) (r.1 ++ [0]) (0 :: r.1.map (gfMul r.2)), gfDouble r.2)) ([1], 1)).1

/-- The 30 parity symbols of a message of 514 symbols. -/
def rsParity (m : List Nat) : List Nat :=
  m.foldl (fun r d => List.zipWith (· ^^^ ·) (r.drop 1 ++ [0]) ((rsGenerator.drop 1).map (gfMul (r.headD 0 ^^^ d))))
    (List.replicate 30 0)

/-- The symbols of `count` codewords over their information bits, the first one highest, low bit of each symbol first. -/
def codewords (count n : Nat) : List Nat :=
  (List.range count).flatMap fun w =>
    let m := (List.range 514).map fun j => rev 10 (n / 2 ^ (10 * (514 * count - 1 - (514 * w + j))) % 1024)
    m ++ rsParity m

/-- The symbols of a lane group: 25 codewords over its marker and its share (R128). -/
def laneGroup (lane group : Nat) (frame : Bytes) : List Nat :=
  codewords 25 (markerBits lane group * 2 ^ 128064 + beAt (laneShare lane frame) 0 16008)

/-- The lane groups of a transmit frame, by physical lane: logical lane `k` on lane `first + k` (R129). -/
def frameLanes (first group : Nat) (frame : Bytes) : List (Nat × List Nat) :=
  (List.range 8).map fun k => (first + k, laneGroup k group frame)

end Sys2Proof.Machine
end

