-- ==== Sys2Proof/Machine/Eli.lean ====
section
/-! DEFINITION. The Elastic Line Interface (06_elastic_line.md). -/

namespace Sys2Proof.Machine

/-- An ELI port. -/
def State.eliPort (s : State) (p : Nat) : Eli := look s.eli.port p {}
/-- Set an ELI port. -/
def State.setEli (s : State) (p : Nat) (x : Eli) : State := { s with eli := { s.eli with port := put s.eli.port p {} x } }
/-- An express group, by `destination port * 128 + group`. -/
def State.express (s : State) (k : Nat) : Express := look s.eli.express k {}
/-- Set an express group. -/
def State.setExpress (s : State) (k : Nat) (x : Express) : State :=
  { s with eli := { s.eli with express := put s.eli.express k {} x } }

/-- The port is an enabled ELI port. -/
def State.eliOn (s : State) (p : Nat) : Bool := (s.port p).personality = .eli && (s.port p).enable

/-- Slots of a type below a capacity. -/
def slotsBelow (types : Sparse Nat) (type cap : Nat) : List Nat :=
  (List.range cap).filter fun i => look types i 0 = type

/-- dSLM on a LOCAL slot. -/
def EliRx.slmLocal (x : EliRx) (types : Sparse Nat) : Bool := (List.range 128).any fun i => look types i 0 = 1 && look x.slm i false
/-- dSLM on a LOCAL or EXPRESS slot (R139). -/
def EliRx.slmAny (x : EliRx) : Bool := x.slm != []
/-- dAIS on a LOCAL slot. -/
def EliRx.aisAny (x : EliRx) : Bool := x.ais.any fun r => r.2.up

/-- ELI_STATUS bits 29:22. -/
def Eli.defects (x : Eli) : Nat :=
  128 * b2n x.rx.lol + 64 * b2n x.rx.lof + 32 * b2n x.rx.line.up + 16 * b2n x.rx.bdi.up + 8 * b2n x.tx.bdi +
    4 * b2n x.tx.capLow + 2 * b2n x.rx.slmAny + b2n x.rx.aisAny

/-- The port's link conditions follow its defects (R139). -/
def State.eliConds (s : State) (p : Nat) : State :=
  let x := s.eliPort p
  let on (k : Nat) (b : Bool) (s : State) : State :=
    if b = (s.port p).conds.contains k then s else if b then s.raiseCond p k else s.clearCond p k
  let line := x.rx.line.up || x.rx.slmLocal x.rxTypes || x.rx.aisAny || x.tx.capLow
  on 8 x.rx.bdi.up (on 6 line (on 9 (x.rx.lol || x.rx.lof) s))

/-- Set an ELI port and let what follows from its defects come about: ELI_DEFECT on a change, the link conditions, and
the first switch that is due when dLOL and dLOF have cleared (R146). -/
def State.eliSet (s : State) (p : Nat) (x : Eli) : State :=
  let old := s.eliPort p
  let clear := !x.rx.lol && !x.rx.lof
  let x := if clear && (old.rx.lol || old.rx.lof) then { x with tx := { x.tx with firstDue := true } } else x
  let s1 := s.setEli p x
  let s1 := if old.defects = x.defects then s1 else s1.eventTo (s.owner 1 p) 0x03F1 (p + 256 * x.defects) 0
  if s.eliOn p then s1.eliConds p else s1

/-! ### Enabling a port (R118, R125, R146) -/

/-- An ELI receiver begins anew when its port is enabled (R146): its lanes are unlocked and it hunts, which is dLOL and dLOF (R139); the last
good frame's fields stay. -/
def Eli.restart (x : Eli) : Eli :=
  { x with rx := { frameCap := x.rx.frameCap, modemCap := x.rx.modemCap, lol := true, lof := true } }

/-- Enable or disable a port (R118): enabling starts training; a port with a lane mapped out faults at once. -/
def State.setEnable (s : State) (p : Nat) (on : Bool) : State :=
  let x := s.port p
  if on = x.enable then s
  else if on then
    let s := s.setPort p { x with enable := true, trainStart := s.now, clearSince := s.now }
    let s := s.moveLink p .training 0
    let s := if x.personality = .eli then s.eliSet p (s.eliPort p).restart else s
    if s.laneDown p then s.portFault p 3 else s
  else (s.setPort p { x with enable := false, berAlarm := false, conds := x.conds.filter fun k => k < 5 || k = 7 }).moveLink p .disabled 0

/-- PORT_CONFIG (R125). -/
def execPortConfig (t : Nat) (c : Cmd) (s : State) : Host.Outcome State Fault Refusal :=
  let s := s.at_ t
  let p := c.u8 16
  let s1 := s.setPort p { s.port p with cfg := portCfgOf c }
  let s1 := if c.u32 28 = 0 then s1.clearCond p 5 else s1
  .next (s.command 0x0201 c .any (portConfigErrs c s)
    { s := State.updatePort p ((s1.setEnable p (c.u8 17 = 1)).downFlush p) })

/-! ### The lane layer (R129, R130) -/

/-- A marker is good: its pattern, and lane_inv the inverse of lane. -/
def goodMarker (m : LaneMarker) : Bool := m.pattern = lmPattern && m.lane + m.laneInv = 255

/-- A lane's receiver after a marker (R130) at an instant. -/
def EliLane.marker (l : EliLane) (m : LaneMarker) (now : Nat) : EliLane :=
  if goodMarker m && (m.lineBits = 136000 || !l.locked) then
    { l with locked := l.locked || (l.good ≠ 0 && m.lineBits = 136000), good := 1, bad := 0, lane := m.lane,
             groupCount := m.groupCount, skewNs := m.skewNs, markAt := now }
  else
    { l with locked := l.locked && l.bad + 1 < 4, good := 0, bad := l.bad + 1,
             groupCount := (l.groupCount + 1) % 65536, markAt := now }

/-- The eight lanes of a receiver. -/
def EliRx.laneList (x : EliRx) : List EliLane := (List.range 8).map fun i => look x.lanes i {}

/-- The group counts of two lanes disagree: they differ by another number than the lane groups of 640 ns between their last markers. -/
def EliLane.disagrees (a b : EliLane) : Bool :=
  b.markAt ≤ a.markAt && (b.groupCount + (a.markAt - b.markAt + ns 320) / ns 640) % 65536 ≠ a.groupCount % 65536

/-- dLOL (R130). -/
def EliRx.lolNow (x : EliRx) : Bool :=
  let l := x.laneList
  l.any (fun a => !a.locked) || (List.range 8).any (fun k => !(l.any fun a => a.lane = k))
    || l.any (fun a => l.any a.disagrees) || l.any (fun a => 200 < a.skewNs)

/-- ELI_LANE_MARKER (R130). -/
def execEliLaneMarker (t port lane : Nat) (m : LaneMarker) (s : State) : Host.Outcome State Fault Refusal :=
  let s := s.at_ t
  let x := s.eliPort port
  .next (if !s.eliOn port || 8 ≤ lane then s
    else
      let rx := { x.rx with lanes := put x.rx.lanes lane {} ((look x.rx.lanes lane {}).marker m s.now) }
      s.eliSet port { x with rx := { rx with lol := rx.lolNow, lof := !rx.inFrame } })

/-! ### Frame alignment (R138) -/

/-- The receiver enters HUNT. -/
def EliRx.hunt (x : EliRx) : EliRx :=
  { x with inFrame := false, lof := true, cands := [], badCount := 0, annRun := 0, lowMulti := 0, lowAll := false }

/-- One more bad frame position; the fifth in a row is HUNT. -/
def EliRx.badFrame (x : EliRx) : EliRx :=
  let x := { x with badCount := x.badCount + 1, nextMfas := (x.nextMfas + 1) % 256 }
  if x.badCount ≥ 5 then x.hunt else x

/-- The FAW is found at an offset with its MFAS. -/
def EliRx.faw (x : EliRx) (offset mfas : Nat) : EliRx :=
  if x.inFrame then
    if offset ≠ x.offset then x
    else if mfas = x.nextMfas then { x with badCount := 0, nextMfas := (mfas + 1) % 256 }
    else x.badFrame
  else
    match x.cands.find? fun c => c.offset = offset with
    | none =>
      if x.cands.length < 4 then { x with lof := true, cands := x.cands ++ [{ offset := offset, count := 1, mfas := mfas }] }
      else { x with lof := true }
    | some c =>
      let rest := x.cands.filter fun d => d.offset ≠ offset
      if mfas ≠ (c.mfas + 1) % 256 then { x with cands := rest }
      else if c.count + 1 < 3 then
        { x with cands := x.cands.map (fun d => if d.offset = offset then { d with count := d.count + 1, mfas := mfas } else d) }
      else { x with inFrame := true, lof := false, cands := [], badCount := 0, nextMfas := (mfas + 1) % 256, offset := offset }

/-- A change of the receiver, counting an entry into HUNT: one from IN_FRAME. That a port which is enabled starts to hunt counts as none:
DESIGN CHOICE, log entry 130. -/
def State.eliRx (s : State) (p : Nat) (rx : EliRx) : State :=
  let x := s.eliPort p
  let hunts := x.rx.inFrame && !rx.inFrame
  s.eliSet p { x with rx := rx, counters := if hunts then bump x.counters 2 1 else x.counters }

/-- ELI_FAW_MATCH (R138). -/
def execEliFawMatch (t port offset mfas : Nat) (s : State) : Host.Outcome State Fault Refusal :=
  let s := s.at_ t
  .next (if s.eliOn port then s.eliRx port ((s.eliPort port).rx.faw offset mfas) else s)

/-- ELI_FAW_NOT_FOUND (R138): at a candidate's next position, or at the expected one. -/
def execEliFawNotFound (t port offset : Nat) (s : State) : Host.Outcome State Fault Refusal :=
  let s := s.at_ t
  let rx := (s.eliPort port).rx
  .next (if !s.eliOn port then s
    else if rx.inFrame then (if offset = rx.offset then s.eliRx port rx.badFrame else s)
    else s.eliRx port { rx with cands := rx.cands.filter (fun d => d.offset ≠ offset) })

/-! ### Received frames (R133, R139, R142, R145) -/

/-- One bit of the CRC-16 of R133. -/
def crc16Bit (crc : Nat) (b : Bool) : Nat :=
  let x := crc * 2 % 65536
  if bit crc 15 != b then x ^^^ 0x1021 else x

/-- The CRC-16 over bytes, most significant bit first, from 0xFFFF. -/
def crc16 (b : Bytes) : Nat :=
  b.foldl (fun c x => ([7, 6, 5, 4, 3, 2, 1, 0] : List Nat).foldl (fun c i => crc16Bit c (x.getLsbD i)) c) 0xFFFF

/-- A received overhead may be used (R133). -/
def goodOverhead (o : Bytes) : Bool := crc16 (slice o 6 56) = beAt o 62 2 && byteAt o 15 = 1

/-- The number of bits in which two bytes differ. -/
def bitErrors (a b : Nat) : Nat := ((List.range 8).filter fun i => bit a i != bit b i).length

/-- A defect that three frames in a row raise or clear (R139). -/
def Run.frame (r : Run) (b : Bool) : Run :=
  if b = r.up then { r with run := 0 } else if r.run + 1 < 3 then { r with run := r.run + 1 } else { up := b, run := 0 }

/-- dAIS of the LOCAL slots (R139): raised below the received FRAME_CAP, cleared wherever the slot now lies. -/
def EliRx.aisFrame (x : EliRx) (types : Sparse Nat) (ones : List Nat) : Sparse Run :=
  let below (i : Nat) : Bool := i < x.frameCap && look types i 0 = 1
  let m := keepRows x.ais fun i r => look types i 0 = 1 && (r.up || below i)
  (List.range 128).foldl (fun m i =>
    if below i || (look m i {}).up then put m i {} ((look m i {}).frame (ones.contains i)) else m) m

/-- A received label is the one that a slot's type expects (R134). -/
def labelFits (type label : Nat) : Bool := type = 0 || label = type

/-- dSLM of a slot when its second copy of a multiframe arrives (R139): both copies wrong, below the received FRAME_CAP, raise it;
both right clear it, and a slot of another type has none. -/
def EliRx.slmFrame (x : EliRx) (types : Sparse Nat) (mfas label : Nat) : EliRx :=
  let x := { x with labels := put x.labels mfas 0 (label + 1) }
  let i := mfas % 128
  let ty := look types i 0
  let a := look x.labels i 0
  if mfas < 128 || a = 0 then x
  else if (labelFits ty (a - 1) && labelFits ty label) || (ty ≠ 1 && ty ≠ 3) then { x with slm := put x.slm i false false }
  else if i < x.frameCap && !labelFits ty (a - 1) && !labelFits ty label then { x with slm := put x.slm i false true }
  else x

/-- The run of equal announcements in one multiframe (R142). -/
def EliRx.announce (x : EliRx) (next left : Nat) : EliRx :=
  if x.annRun ≠ 0 && x.annNext = next && x.annLeft = left then { x with annRun := x.annRun + 1 }
  else { x with annNext := next, annLeft := left, annRun := 1 }

/-- The acceptance of an announcement (R142, R143). -/
def Eli.accept (x : Eli) (next k : Nat) : Eli :=
  if k = 0 && next = x.rx.modemCap then { x with tx := { x.tx with pending := none } }
  else if k < 2 then { x with counters := bump x.counters 4 1 }
  else
    let repeated := match x.tx.pending with
      | some p => p.raw = next && p.left = k
      | none => false
    if repeated then x
    else
      let high := x.cfg.capMax < next
      { x with tx := { x.tx with pending := some { raw := next, cap := if high then x.cfg.capMax else next, left := k } },
               counters := if high then bump x.counters 5 1 else x.counters }

/-- What starts with a frame of MFAS 0: the receive slot table that waits (R137), the labels of the multiframe, its
announcements and its CAP_NOW record. -/
def Eli.multiframe (x : Eli) : Eli :=
  let x := match x.nextRx with
    | some m => { x with rxTypes := m, nextRx := none }
    | none => x
  { x with rx := { x.rx with labels := [], annRun := 0, lowAll := true, lowFrames := 0 } }

/-- The end of a received multiframe: two in a row with every CAP_NOW below the capacity make a safety switch due
(R145). -/
def Eli.multiframeEnd (x : Eli) : Eli :=
  let n := if x.rx.lowAll && x.rx.lowFrames ≠ 0 then x.rx.lowMulti + 1 else 0
  if 2 ≤ n then { x with rx := { x.rx with lowMulti := 0 }, tx := { x.tx with safetyDue := true } }
  else { x with rx := { x.rx with lowMulti := n } }

/-- A good frame's overhead. -/
def Eli.goodFrame (x : Eli) (o : Bytes) (mfas : Nat) : Eli :=
  let fl := byteAt o 14
  let low := byteAt o 10 < x.tx.cap
  let rx := { x.rx with frameCap := byteAt o 9, modemCap := byteAt o 10, line := x.rx.line.frame (bit fl 7),
                        bdi := x.rx.bdi.frame (bit fl 6), lowAll := x.rx.lowAll && low, lowFrames := x.rx.lowFrames + 1 }
  let rx := (rx.slmFrame x.rxTypes mfas (byteAt o 7)).announce (byteAt o 11) (byteAt o 12)
  let x := { x with rx := rx }
  if rx.annRun = 3 && !rx.lol && !rx.lof then x.accept rx.annNext rx.annLeft else x

/-- The bytes of a received frame, descrambled (R132). -/
def framePlain (f : EliFrame) : Bytes := scramble (f.overhead ++ f.slots.flatten)

/-- The 1,000 bytes of slot `i` of a frame (R131). -/
def slotOf (frame : Bytes) (i : Nat) : Bytes := slice frame (64 + 1000 * i) 1000

/-- The stream of the LOCAL slots below the received FRAME_CAP (R135), rebuilt in ascending slot number. -/
def Eli.stream (x : Eli) (frame : Bytes) : List Blk :=
  (slotsBelow x.rxTypes 1 (min x.rx.frameCap 128)).flatMap fun i => slotBlocks (slotOf frame i)

/-- A block with sync header 0b00 or 0b11 (R135). -/
def Blk.bad (b : Blk) : Bool := b.sync = 0 || b.sync = 3

/-- The TEST slots below the received FRAME_CAP are checked against the pattern (R134). -/
def Eli.checkTests (x : Eli) (frame : Bytes) : Eli :=
  (slotsBelow x.rxTypes 2 (min x.rx.frameCap 128)).foldl (fun x i =>
    let r := prbs23Check (beAt (slotOf frame i) 0 1000 / 2 ^ 14) 7986 (look x.rx.prbs i 1) 0
    { x with rx := { x.rx with prbs := put x.rx.prbs i 1 r.1 }, counters := bump x.counters 7 r.2 }) x

/-- The slots of a received frame: dAIS, the test pattern, and the packets in the LOCAL slots, in which a block with a bad sync header
counts and is an error block (R134, R135, R139). -/
def Eli.slotsIn (x : Eli) (frame : Bytes) : Eli × List (Bytes × Bool) :=
  let ones := (List.range 128).filter fun i => (slotOf frame i).all (· = 0xFF)
  let x := { x with rx := { x.rx with ais := x.rx.aisFrame x.rxTypes ones } }
  let l := x.stream frame
  let m := (l.map fun b => if b.bad then errorBlk else b).foldl macBlk (x.rx.packet, [])
  let x := { x with rx := { x.rx with packet := m.1 }, counters := bump x.counters 7 (l.filter Blk.bad).length }
  (x.checkTests frame, m.2)

/-- A received frame, and the packets that end in it, each with the mark of an error. The multiframe follows the MFAS that the receiver
tracks (R137, R145); the label is that of the MFAS in a good overhead. -/
def Eli.frame (x : Eli) (f : EliFrame) : Eli × List (Bytes × Bool) :=
  let frame := framePlain f
  let o := frame.take 64
  let mfas := (x.rx.nextMfas + 255) % 256
  let x := if mfas = 0 then x.multiframe else x
  let x := if goodOverhead o then
      let x := { x with counters := bump x.counters 0 (match x.rx.bip with
        | some b => bitErrors b (byteAt o 13)
        | none => 0) }
      x.goodFrame o (byteAt o 6)
    else
      { x with counters := bump x.counters 1 1,
               rx := { x.rx with annRun := 0, line := { x.rx.line with run := 0 }, bdi := { x.rx.bdi with run := 0 } } }
  let x := { x with rx := { x.rx with bip := some (bip8 f.slots.flatten) } }
  let r := x.slotsIn frame
  (if mfas = 255 then r.1.multiframeEnd else r.1, r.2)

/-! ### Express groups (R150–R153) -/

/-- The destination slots of a group. -/
def Express.dstSlots (g : Express) : List Nat := (List.range g.count).map fun i => g.dstFirst + i
/-- The source slots of a group. -/
def Express.srcSlots (g : Express) : List Nat := (List.range g.count).map fun i => g.srcFirst + i

/-- A condition of R152 holds for a group. -/
def State.expressBad (s : State) (g : Express) : Bool :=
  let x := (s.eliPort g.src).rx
  x.lol || x.lof || x.line.up || s.laneDown g.src || x.frameCap < g.srcFirst + g.count ||
    g.srcSlots.any fun i => look x.slm i false

/-- Post ELI_EXPRESS_ALARM for a group by its key. -/
def State.expressAlarm (s : State) (k on cause : Nat) : State :=
  s.eventTo (s.owner 1 (k / 128)) 0x03F2 (k / 128 + 256 * (k % 128) + 65536 * on + 131072 * cause) 0

/-- ELI_EXPRESS_REPLACE (R152): the elastic store empties. -/
def execEliExpressReplace (t dst group : Nat) (s : State) : Host.Outcome State Fault Refusal :=
  let s := s.at_ t
  let k := dst * 128 + group
  let g := s.express k
  .next (if g.live && !g.replaced && group < 128 && s.expressBad g then
      (s.setExpress k { g with replaced := true, store := [], running := false, mid := false }).expressAlarm k 1 0
    else s)

/-- ELI_EXPRESS_RESTORE (R152): every condition has cleared and the elastic store holds a frame again. -/
def execEliExpressRestore (t dst group : Nat) (s : State) : Host.Outcome State Fault Refusal :=
  let s := s.at_ t
  let k := dst * 128 + group
  let g := s.express k
  .next (if g.live && g.replaced && group < 128 && !s.expressBad g && (!g.active || g.lost || slotBlks * g.count ≤ g.store.length) then
      (s.setExpress k { g with replaced := false }).expressAlarm k 0 0
    else s)

/-- The blocks of a received frame enter the elastic stores of the groups that the port feeds, in ascending source slot (R151); those of a
group whose source is in a condition of R152 do not. -/
def State.expressIn (s : State) (p : Nat) (frame : Bytes) : State :=
  each (fun k s =>
    let g := s.express k
    if !g.active || g.lost || s.expressBad g then s
    else s.setExpress k { g with store := storeBlks (slotBlks * g.count) g.store (g.srcSlots.flatMap fun i => slotBlocks (slotOf frame i)) })
    ((s.eli.express.filter fun r => r.2.live && r.2.src = p).map fun r => r.1) s

/-- The blocks that a group sends in a transmit frame, and the group behind them (R151): idle blocks until the store holds a frame, then
the frame's blocks in order, with idle blocks put in between packets where the store runs short. What a store that runs out inside a packet
sends is free. -/
def Express.send (g : Express) (free : Nat) : List Blk × Express :=
  let n := slotBlks * g.count
  if !g.running && g.store.length < n then (List.replicate n idleBlk, g)
  else
    let l := addIdle (n - g.store.length) g.mid g.store
    let out := l.take n ++ (List.range (n - l.length)).map fun i => Blk.ofBits (free / 2 ^ (66 * i) % 2 ^ 66)
    (out, { g with store := l.drop n, running := true, mid := (out.getLast?.map Blk.open_).getD false })

/-- The groups of a destination port at a transmit frame: a new group starts at MFAS 0, and a group is lost, or resumes,
by the capacity (R150, R153). -/
def State.expressFrame (s : State) (p cap : Nat) (zero : Bool) : State :=
  each (fun k s =>
    let g := s.express k
    let g := if zero then { g with active := true } else g
    let lost := cap < g.dstFirst + g.count
    let s := s.setExpress k (if lost then { g with lost := true, store := [], running := false, mid := false } else { g with lost := false })
    if lost = g.lost then s else s.expressAlarm k (b2n lost) 1)
    ((s.eli.express.filter fun r => r.2.live && r.1 / 128 = p).map fun r => r.1) s

/-! ### Transmit frames (R142–R148) -/

/-- A change of the transmit capacity (R147, R148). -/
def State.eliSwitch (s : State) (p new : Nat) (safety : Bool) : State :=
  let x := s.eliPort p
  let l := (slotsBelow x.types 1 new).length
  let n := bump x.counters 3 1
  let y := { x with counters := n, tx := { x.tx with cap := new, sinceSwitch := 0,
                                                     capLow := new < x.cfg.capMin || l = 0 } }
  let a := nodeKey 0 p
  let node := (s.node a).refill s.tclk
  let s := (s.setNode a { node with eliRate := l * 12100000 + 1 }).eliSet p y
  s.eventTo (s.owner 1 p) 0x03F0 (p + 256 * new + 65536 * x.tx.cap + 2 ^ 24 * b2n safety) (look n 3 0)

/-- Count a hold-down event; more than 8 in 1 s post ELI_DEFECT with the flap bit (R144). -/
def State.eliHoldDown (s : State) (p : Nat) : State :=
  let x := s.eliPort p
  let l := (x.tx.holdDowns.filter fun i => s.now < i + ms 1000) ++ [s.now]
  let flap := 8 < l.length
  let s := s.setEli p { x with counters := bump x.counters 6 1, tx := { x.tx with holdDowns := if flap then [] else l } }
  if flap then s.eventTo (s.owner 1 p) 0x03F1 (p + 256 * x.defects + 65536) 0 else s

/-- What waits for the transmit frame with MFAS 0: the slot table (R137) and ELI_CONFIG's fields. -/
def State.eliApply (s : State) (p : Nat) : State :=
  let x := s.eliPort p
  let x := match x.nextTypes with
    | some m => { x with types := m, nextTypes := none }
    | none => x
  let x := match x.nextCfg with
    | some c => { x with cfg := c, nextCfg := none }
    | none => x
  let l := (slotsBelow x.types 1 x.tx.cap).length
  let x := { x with tx := { x.tx with capLow := x.tx.cap < x.cfg.capMin || l = 0 } }
  let a := nodeKey 0 p
  (s.setNode a { (s.node a).refill s.tclk with eliRate := l * 12100000 + 1 }).eliSet p x

/-- A cap_max below the capacity lowers it, at a frame with MFAS 0 and also while dLOL or dLOF holds: where R146 keeps the capacity, R143
and ELI_CONFIG come first, DESIGN CHOICE, log entry 129. Within 4 multiframes of the last switch it is a hold-down event (R144). -/
def State.eliLower (s : State) (p : Nat) : State :=
  let x := s.eliPort p
  if x.cfg.capMax < x.tx.cap then (if x.tx.sinceSwitch < 4 then s.eliHoldDown p else s).eliSwitch p x.cfg.capMax false else s

/-- The pending change at a transmit frame with MFAS 0 (R142, R144, R147), never above a CAP_MAX that is now lower (R143). -/
def State.eliPendingFrame (s : State) (p : Nat) : State :=
  let x := s.eliPort p
  match x.tx.pending with
  | none => s
  | some c =>
    let c := { c with left := c.left - 1 }
    let s := s.setEli p { x with tx := { x.tx with pending := some c } }
    if c.left > 0 then s
    else
      let new := min x.cfg.capMax (if x.cfg.follow && x.cfg.fixedCap < c.cap then x.cfg.fixedCap else c.cap)
      let done (s : State) : State :=
        let y := s.eliPort p
        s.setEli p { y with tx := { y.tx with pending := none } }
      if new = x.tx.cap then done s
      else
        let s := if x.tx.sinceSwitch < 4 then s.eliHoldDown p else s
        if x.tx.sinceSwitch < 4 && x.tx.cap < new then s else done (s.eliSwitch p new false)

/-- The capacity's part of a transmit frame start (R136, R145, R146, R147). While dLOL or dLOF holds the capacity is kept; a pending change
stays too and its countdown stands still, DESIGN CHOICE, log entry 128. -/
def State.eliCapacity (s : State) (p mfas : Nat) : State :=
  let x := s.eliPort p
  let held := x.rx.lol || x.rx.lof || !x.rx.inFrame
  let s := if x.tx.safetyDue && !held then
      let s := s.setEli p { x with tx := { x.tx with safetyDue := false } }
      if x.rx.modemCap < x.tx.cap then s.eliSwitch p x.rx.modemCap true else s
    else s
  if mfas ≠ 0 then s
  else
    let y := s.eliPort p
    let s := (s.setEli p { y with tx := { y.tx with sinceSwitch := min (y.tx.sinceSwitch + 1) 255 } }).eliLower p
    if held then s
    else
      let y := s.eliPort p
      let s := if y.tx.firstDue then
          (s.setEli p { y with tx := { y.tx with firstDue := false } }).eliSwitch p (min y.rx.modemCap y.cfg.capMax) false
        else s
      s.eliPendingFrame p

/-- The group whose destination slots hold slot `i` of a port; 0xFF for none (R133). -/
def State.slotGroup (s : State) (p i : Nat) : Nat :=
  match s.eli.express.find? fun r => r.2.live && r.1 / 128 = p && r.2.dstSlots.contains i with
  | some r => r.1 % 128
  | none => 0xFF

/-- FRAME_CAP of a transmit frame (R146, R148). -/
def EliTx.frameCap (x : EliTx) : Nat := if x.firstDue then 0 else x.cap

/-- The overhead of a transmit frame (R133, R148). -/
def State.eliOverhead (s : State) (p mfas : Nat) : Bytes :=
  let x := s.eliPort p
  let i := mfas % 128
  let label := if i < x.tx.frameCap then look x.types i 0 else 0
  let (nx, left) := match x.tx.pending with
    | some c => (c.cap, c.left)
    | none => (x.tx.cap, 0)
  let body := leBytes 1 mfas ++ leBytes 1 label ++ leBytes 1 (s.slotGroup p i) ++ leBytes 1 x.tx.frameCap ++ leBytes 1 x.tx.cap ++
    leBytes 1 nx ++ leBytes 1 left ++ leBytes 1 x.tx.bip ++ leBytes 1 (64 * b2n x.tx.bdi) ++ leBytes 1 1 ++ leBytes 46 0
  beBytes 6 0xE71CD9264BB4 ++ body ++ beBytes 2 (crc16 body)

/-- The blocks of the LOCAL slots, `n` of them, and the transmit buffer behind them (R119, R141, R149): packets while the port is UP, filled up
with idle blocks; Remote Fault in FAULT_LOCAL; idle blocks in the other states. A packet that a port leaves UP in is cut off. -/
def EliTx.local_ (x : EliTx) (sends : LineSignal) (n : Nat) : List Blk × EliTx :=
  match sends with
  | .frames => (x.blocks.take n ++ List.replicate (n - x.blocks.length) idleBlk, { x with blocks := x.blocks.drop n })
  | .remoteFault => (List.replicate n remoteFaultBlk, { x with blocks := x.blocks.dropWhile fun b => b.sync = 1 || b.ends.isSome })
  | _ => (List.replicate n idleBlk, { x with blocks := x.blocks.dropWhile fun b => b.sync = 1 || b.ends.isSome })

/-- The test pattern of slot `i` goes on (R134): the slot's bytes and the generator behind them. -/
def EliTx.test (x : EliTx) (i : Nat) : Bytes × EliTx :=
  let r := prbs23 7986 (look x.prbs i (2 ^ 23 - 1)) 0
  (beBytes 1000 (r.1 * 2 ^ 14), { x with prbs := put x.prbs i (2 ^ 23 - 1) r.2 })

/-- The content of the EXPRESS slots of a port's groups in a transmit frame, by slot, with the groups behind it (R151–R153): a group that is
replaced, lost or not started gives none. -/
def State.expressOut (s : State) (p : Nat) : List (Nat × Bytes) × State :=
  (s.eli.express.filter fun r => r.2.live && r.1 / 128 = p && r.2.active && !r.2.replaced && !r.2.lost).foldl (fun a r =>
    let x := r.2.send (Config.freeValue a.2.free)
    (a.1 ++ (List.range r.2.count).map (fun i => (r.2.dstFirst + i, slotBytes ((x.1.drop (slotBlks * i)).take slotBlks))),
      a.2.drawn.setExpress r.1 x.2)) ([], s)

/-- One slot of a transmit frame (R134), after the slots before it: the bytes so far, the blocks left for the LOCAL slots, the
transmitter. -/
def EliTx.slot (types : Sparse Nat) (cap : Nat) (express : List (Nat × Bytes)) (a : Bytes × List Blk × EliTx) (i : Nat) :
    Bytes × List Blk × EliTx :=
  match if i < cap then look types i 0 else 0 with
  | 0 => (a.1 ++ List.replicate 1000 0, a.2)
  | 1 => (a.1 ++ slotBytes (a.2.1.take slotBlks), a.2.1.drop slotBlks, a.2.2)
  | 2 => let r := a.2.2.test i; (a.1 ++ r.1, a.2.1, r.2)
  | _ =>
    match express.find? fun r => r.1 = i with
    | some r => (a.1 ++ r.2, a.2)
    | none => (a.1 ++ List.replicate 1000 0xFF, a.2)

/-- A transmit frame leaves (R129, R131–R134): its overhead and its 128 slots, scrambled, over the eight lanes. Its parity is for the next
frame. -/
def State.eliSend (s : State) (p mfas : Nat) : State :=
  let ohead := s.eliOverhead p mfas
  let e := s.expressOut p
  let s := e.2
  let x := s.eliPort p
  let l := x.tx.local_ (s.port p).state.sends (slotBlks * (slotsBelow x.types 1 x.tx.frameCap).length)
  let r := (List.range 128).foldl (EliTx.slot x.types x.tx.frameCap e.1) (ohead, l.1, l.2)
  let frame := scramble r.1
  let s := s.eliSet p { x with tx := { r.2.2 with mfas := (mfas + 1) % 256, groupCount := (x.tx.groupCount + 1) % 65536,
                                                  bip := bip8 (frame.drop 64) } }
  s.emit (.eli p (frameLanes (s.port p).firstLane x.tx.groupCount frame))

/-- ELI_TX_FRAME_START (R140, R147, R148). -/
def execEliTxFrameStart (t port : Nat) (s : State) : Host.Outcome State Fault Refusal :=
  let s := s.at_ t
  let mfas := (s.eliPort port).tx.mfas
  .next (if !s.eliOn port then s
    else
      let s := if mfas = 0 then s.eliApply port else s
      let s := s.eliCapacity port mfas
      let s := s.expressFrame port (s.eliPort port).tx.cap (mfas = 0)
      let x := s.eliPort port
      let s := s.eliSet port { x with tx := { x.tx with bdi := x.rx.lol || x.rx.lof || s.laneDown port } }
      s.eliSend port mfas)

/-- A packet with its FCS enters the transmit buffer (R149). -/
def State.eliPacket (s : State) (p : Nat) (b : Bytes) : State :=
  let x := s.eliPort p
  let r := packetBlks x.tx.dic b
  s.setEli p { x with tx := { x.tx with blocks := x.tx.blocks ++ r.1, dic := r.2 } }

/-! ### Commands -/

/-- The checks that name an ELI port at byte `off`. -/
def eliPortErrs (c : Cmd) (s : State) (off : Nat) : List (Option Err) :=
  [s.ownErr c 1 (c.u8 off), at_ off ((s.port (c.u8 off)).personality = .eli)]

/-- HW_FAULT where a lane of a named port is mapped out. -/
def eliLaneErr (s : State) (p : Nat) : Option Err := s.lanesErr p

/-- ELI_CONFIG: it waits for the next transmit frame with MFAS 0. -/
def execEliConfig (t : Nat) (c : Cmd) (s : State) : Host.Outcome State Fault Refusal :=
  let s := s.at_ t
  let p := c.u8 16
  let cfg : EliCfg := { follow := c.u8 17 = 1, capMin := c.u8 18, capMax := c.u8 19, fixedCap := c.u8 20 }
  .next (s.command 0x0300 c .any
    (eliPortErrs c s 16 ++ [at_ 17 (c.u8 17 ≤ 1), at_ 18 (1 ≤ c.u8 18 && c.u8 18 ≤ 128),
      at_ 19 (c.u8 18 ≤ c.u8 19 && c.u8 19 ≤ 128), at_ 20 (1 ≤ c.u8 20 && c.u8 20 ≤ 128), c.zeros 21 43, eliLaneErr s p])
    { s := s.setEli p { s.eliPort p with nextCfg := some cfg } })

/-- The type that ELI_SLOTMAP gives slot `i`. -/
def slotType (c : Cmd) (i : Nat) : Nat := bits (c.u8 (20 + i / 4)) (2 * (i % 4) + 1) (2 * (i % 4))

/-- A slot of a port belongs to an express group, as source or as destination. -/
def State.slotInGroup (s : State) (p i : Nat) : Bool :=
  s.eli.express.any fun r => r.2.live &&
    ((r.1 / 128 = p && r.2.dstSlots.contains i) || (r.2.src = p && r.2.srcSlots.contains i))

/-- The table that ELI_SLOTMAP writes. -/
def slotTable (c : Cmd) : Sparse Nat := (List.range 128).foldl (fun m i => put m i 0 (slotType c i)) []

/-- ELI_SLOTMAP (R137): both directions change at their next frame with MFAS 0. -/
def execEliSlotmap (t : Nat) (c : Cmd) (s : State) : Host.Outcome State Fault Refusal :=
  let s := s.at_ t
  let p := c.u8 16
  .next (s.command 0x0301 c .any
    (eliPortErrs c s 16 ++ [c.zeros 17 3,
      firstOf (fun i => at_ (20 + i / 4) (slotType c i = 3 || !s.slotInGroup p i)) (List.range 128), c.zeros 52 12,
      eliLaneErr s p])
    { s := s.setEli p { s.eliPort p with nextTypes := some (slotTable c), nextRx := some (slotTable c) } })

/-- The slot table that a port has, or is about to have. -/
def Eli.typesSet (x : Eli) : Sparse Nat := x.nextTypes.getD x.types

/-- The slots of a run of a port, up to slot 127, are EXPRESS. -/
def State.runExpress (s : State) (p first n : Nat) : Bool :=
  (List.range (min n (128 - first))).all fun i => look (s.eliPort p).typesSet (first + i) 0 = 3

/-- The checks of ELI_EXPRESS op 0. -/
def expressCreateErrs (c : Cmd) (s : State) : List (Option Err) :=
  let src := c.u8 18
  let dst := c.u8 19
  let n := c.u8 22
  eliPortErrs c s 18 ++ eliPortErrs c s 19 ++ [at_ 19 (src ≠ dst), at_ 17 (!(s.express (dst * 128 + c.u8 17)).live),
    at_ 20 (c.u8 20 < 128), at_ 20 (s.runExpress src (c.u8 20) n &&
      !(s.eli.express.any fun r => r.2.live && r.2.src = src && r.2.srcSlots.any fun i => c.u8 20 ≤ i && i < c.u8 20 + n)),
    at_ 21 (c.u8 21 < 128), at_ 21 (s.runExpress dst (c.u8 21) n &&
      !(s.eli.express.any fun r => r.2.live && r.1 / 128 = dst && r.2.dstSlots.any fun i => c.u8 21 ≤ i && i < c.u8 21 + n)),
    at_ 22 (1 ≤ n && c.u8 20 + n ≤ 128 && c.u8 21 + n ≤ 128), c.zeros 23 41,
    eliLaneErr s src, eliLaneErr s dst,
    need (countRows s.eli.express (fun _ g => g.live) < 256) { status := .tableFull }]

/-- The checks of ELI_EXPRESS. -/
def expressErrs (c : Cmd) (s : State) : List (Option Err) :=
  [at_ 16 (c.u8 16 ≤ 1), at_ 17 (c.u8 17 < 128)] ++
  (if c.u8 16 = 0 then expressCreateErrs c s
   else eliPortErrs c s 19 ++ [at_ 17 (s.express (c.u8 19 * 128 + c.u8 17)).live, c.zeros 23 41, eliLaneErr s (c.u8 19)])

/-- ELI_EXPRESS (R150). -/
def execEliExpress (t : Nat) (c : Cmd) (s : State) : Host.Outcome State Fault Refusal :=
  let s := s.at_ t
  let k := c.u8 19 * 128 + c.u8 17
  let g : Express := { live := true, src := c.u8 18, srcFirst := c.u8 20, dstFirst := c.u8 21, count := c.u8 22 }
  .next (s.command 0x0302 c .any (expressErrs c s) { s := s.setExpress k (if c.u8 16 = 0 then g else {}) })

/-- ELI_COUNTERS (R154). -/
def execEliCounters (t : Nat) (c : Cmd) (s : State) : Host.Outcome State Fault Refusal :=
  let s := s.at_ t
  let p := c.u8 16
  let x := s.eliPort p
  .next (s.command 0x0303 c .any ([c.needReply] ++ eliPortErrs c s 16 ++ [at_ 17 (c.u8 17 ≤ 1), c.zeros 18 46, eliLaneErr s p])
    { s := if bit (c.u8 17) 0 then s.setEli p { x with counters := [] } else s, result := 64,
      long := counterBytes x.counters 8 })

end Sys2Proof.Machine
end

