-- ==== Sys2Proof/Machine/Police.lean ====
section
/-! DEFINITION. Policers, congestion profiles, latency observation, and their commands
(15_policing_and_congestion.md). -/

namespace Sys2Proof.Machine

/-! ### Access -/

/-- A policer. -/
def State.policer (s : State) (k : Nat) : Policer := look s.pol.policers k {}
/-- Set a policer. -/
def State.setPolicer (s : State) (k : Nat) (x : Policer) : State :=
  { s with pol := { s.pol with policers := put s.pol.policers k {} x } }
/-- A congestion profile. -/
def State.cprofile (s : State) (k : Nat) : CongProfile := look s.pol.profiles k {}
/-- Set a congestion profile. -/
def State.setCprofile (s : State) (k : Nat) (x : CongProfile) : State :=
  { s with pol := { s.pol with profiles := put s.pol.profiles k {} x } }
/-- A domain's observer. -/
def State.observer (s : State) (d : Nat) : Observer := look s.pol.obs d {}
/-- Set a domain's observer. -/
def State.setObserver (s : State) (d : Nat) (x : Observer) : State :=
  { s with pol := { s.pol with obs := put s.pol.obs d {} x } }
/-- Count a CONG_STATS event of a queue. -/
def State.countCong (s : State) (q i : Nat) : State :=
  let x := s.queue q
  s.setQueue q { x with cong := bump x.cong i 1 }

/-! ### Policers (R316–R320) -/

/-- The charged length at a policer (R293). -/
def Policer.charge (p : Policer) (len : Nat) : Nat :=
  if p.packet then 1 else (max 1 ((len : Int) + 4 + p.overhead)).toNat

/-- Tokens that a rate adds to a policer between two TCLK cycles (R294). -/
def Policer.earned (p : Policer) (rate a b : Nat) : Nat :=
  if rate = unlimited then 0 else credited (b2n p.packet) rate b - credited (b2n p.packet) rate a

/-- The policer with its buckets filled up to the cycle `b`: the overflow of C fills E where its type says so. -/
def Policer.refill (p : Policer) (b : Nat) : Policer :=
  let c := p.tokC + p.earned p.cir p.filled b
  let above := c - p.cbs * 65536
  let e := p.tok2 + (if p.kind = 0 then 0 else p.earned p.rate2 p.filled b) +
    (if p.kind = 0 || (p.kind = 2 && p.couple) then above else 0)
  { p with tokC := min c (p.cbs * 65536), tok2 := min e (p.size2 * 65536), filled := b }

/-- Take a charge from a bucket of a rate; an unlimited one is never debited (R294). -/
def takeTokens (rate tok need : Nat) : Nat := if rate = unlimited then tok else tok - need
/-- A bucket of a rate holds a charge. -/
def hasTokens (rate tok need : Nat) : Bool := rate = unlimited || need ≤ tok

/-- Meter a packet of a color with charge `b` (R318): the policer left, and the result color. -/
def Policer.meter (p : Policer) (color b : Nat) : Policer × Nat :=
  let pre := if !p.aware || color = 3 then 0 else color
  let need := b * 65536
  let r2 := if p.kind = 0 then p.cir else p.rate2
  let c := hasTokens p.cir p.tokC need
  let e := hasTokens r2 p.tok2 need
  let pc := { p with tokC := takeTokens p.cir p.tokC need }
  let p2 := { p with tok2 := takeTokens r2 p.tok2 need }
  if p.kind = 1 then
    if pre = 2 || !e then (p, 2)
    else if pre = 1 || !c then (p2, 1)
    else ({ p2 with tokC := takeTokens p.cir p.tokC need }, 0)
  else if pre = 0 && c then (pc, 0)
  else if pre ≤ 1 && e then (p2, 1)
  else (p, 2)

/-- Count a metered packet (POLICER_STATS). -/
def Policer.countPacket (p : Policer) (color b : Nat) (dropped : Bool) : Policer :=
  let m := bump (bump p.stats color 1) (3 + color) b
  { p with stats := if dropped then bump (bump m 6 1) 7 b else m }

/-- What stood before the last write of a policer. -/
def State.priorPolicer (s : State) (k : Nat) : PriorPolicer := look s.pol.priorPolicers k {}
/-- Set what stood before the last write of a policer. -/
def State.setPriorPolicer (s : State) (k : Nat) (x : PriorPolicer) : State :=
  { s with pol := { s.pol with priorPolicers := put s.pol.priorPolicers k {} x } }
/-- A policer has been written in the present TCLK cycle: the write takes effect at its end (R320). -/
def State.policerWritten (s : State) (k : Nat) : Bool := (s.priorPolicer k).cycle = s.tclk + 1
/-- The policer that meters in the present TCLK cycle. -/
def State.policerNow (s : State) (k : Nat) : Policer := if s.policerWritten k then (s.priorPolicer k).old else s.policer k

/-- A policer has metered: it is `y` now. Where it is to be replaced at the end of the cycle, the new one counts the packet, and takes the
tokens that its write keeps (R320). -/
def State.setMetered (s : State) (k : Nat) (y : Policer) (count : Policer → Policer) : State :=
  if s.policerWritten k then
    let z := s.policer k
    (s.setPriorPolicer k { s.priorPolicer k with old := y }).setPolicer k
      (count (if (s.priorPolicer k).keeps then { z with tokC := y.tokC, tok2 := y.tok2, filled := y.filled } else z))
  else s.setPolicer k (count y)

/-- The policing step for a packet that a writer of class `cls` stores (R315, R316): the state, with the packet's color, and
whether the packet goes on. -/
def State.police (s : State) (cls k : Nat) : State × Bool :=
  let p := s.pkt k
  let d := p.desc
  if !d.policed || d.mirror || d.punt || cls = 1 then (s, true)
  else if !s.owns d.domain 6 d.policer then
    ({ s with pol := { s.pol with denied := bump s.pol.denied d.domain 1 } }, false)
  else
    let x := s.policerNow d.policer
    if !x.enable then (s, true)
    else
      let x := x.refill s.tclk
      let b := x.charge d.length
      let (x, c) := x.meter d.color b
      let dropped := (c = 1 && x.yellowDrop) || (c = 2 && x.redDrop)
      ((s.setMetered d.policer x fun z => z.countPacket c b dropped).setPkt k { p with desc := { d with color := c } }, !dropped)

/-! ### Congestion (R321–R323) -/

/-- The profile that decides in the present TCLK cycle: a write takes effect at the end of its cycle (R328). -/
def State.profileNow (s : State) (id : Nat) : CongProfile :=
  let x := look s.pol.priorProfiles id {}
  if x.cycle = s.tclk + 1 then x.old else s.cprofile id
/-- Keep a profile as it stands before a write, once in a TCLK cycle (R328). -/
def State.noteProfile (s : State) (id : Nat) : State :=
  if (look s.pol.priorProfiles id {}).cycle = s.tclk + 1 then s
  else { s with pol := { s.pol with priorProfiles := put s.pol.priorProfiles id {} { cycle := s.tclk + 1, old := s.cprofile id } } }

/-- The profile that a queue names for a color. -/
def Queue.slot (q : Queue) (color : Nat) : Option Nat :=
  match look q.slots color 0 with
  | 0 => none
  | n + 1 => some n

/-- The average after an enqueue that meets `d` cells (R321). -/
def Queue.average (q : Queue) (p : CongProfile) (now d : Nat) : Nat :=
  let avg := if q.packets = [] then q.avg / 2 ^ min 31 ((now - q.emptyAt) / 6 / p.decayNs) else q.avg
  ((avg : Int) + ((256 * d : Int) - avg) / 2 ^ p.w).toNat

/-- The probability of the ramp in 1/4,096 (R322). -/
def CongProfile.ramp (p : CongProfile) (a : Nat) : Nat :=
  if p.maxTh ≤ a then 4096 else p.maxP * (a - p.minTh) / (p.maxTh - p.minTh)

/-- A 12-bit draw of a slice's generator (R322); a generator that nothing has loaded is seeded from the random source. -/
def State.drawSlice (s : State) (sl : Nat) : State × Nat :=
  let g0 := look s.pol.gens sl 0
  let s1 := if g0 = 0 then s.drawn else s
  let g := if g0 = 0 then Config.freeValue s.free else g0
  ({ s1 with pol := { s1.pol with gens := put s1.pol.gens sl 0 (Config.lfsrNext g) } }, Config.lfsrDraw g % 4096)

/-- Where the ECN field stands: the byte and the divisor of its two bits; none where it is not in the first cell. -/
def ecnPlace (d : Desc) : Option (Nat × Nat) :=
  if d.ipOffset = 0xFFFF || 254 < d.ipOffset || d.length < d.ipOffset + 2 then none
  else some (d.ipOffset + 1, if d.ipv6 then 16 else 1)

/-- The ECN field of a packet that is capable (R323); none where it is not. -/
def ecnOf (p : Packet) : Option Nat :=
  if !p.desc.ecn then none
  else match ecnPlace p.desc with
    | none => none
    | some (i, m) => let v := byteAt p.bytes i / m % 4; if v = 0 then none else some v

/-- The packet marked CE with its IPv4 header checksum corrected (R323). -/
def markCe (p : Packet) : Packet :=
  match ecnPlace p.desc with
  | none => p
  | some (i, m) =>
    let old := byteAt p.bytes i
    let b := overlay p.bytes i [BitVec.ofNat 8 (old ||| (3 * m))]
    if p.desc.ipv6 then { p with bytes := b }
    else
      let o := p.desc.ipOffset
      let sum := beAt b (o + 10) 2
      let new := if beAt b o 2 = beAt p.bytes o 2 then sum
        else 0xFFFF - onesReplace (0xFFFF - sum) (beAt p.bytes o 2) (beAt b o 2)
      { p with bytes := overlay b (o + 10) (beBytes 2 new) }

/-- The congestion step (R321–R323): whether the packet goes on. A queue without a profile for the color admits it. -/
def State.congest (s : State) (k : Nat) : State × Bool :=
  let p := s.pkt k
  let qn := p.desc.queue
  let q := s.queue qn
  match q.slot p.desc.color with
  | none => (s, true)
  | some id =>
    let f := s.profileNow id
    let d := q.depth
    let avg := q.average f s.now d
    let s := s.setQueue qn { q with avg := avg }
    let a := avg / 256
    if f.mode = 0 then (s, true)
    else if f.hardTh ≤ d then ((s.countCong qn p.desc.color).countCong qn 5, false)
    else if a < f.minTh then (s, true)
    else
      let sl := match s.rootOf (nodeKey 4 qn) with
        | some r => s.sliceOf r
        | none => 0
      let (s, r) := s.drawSlice sl
      if f.ramp a ≤ r then (s, true)
      else if f.mode = 2 && (ecnOf p).isSome then ((s.setPkt k (markCe p)).countCong qn 4, true)
      else (s.countCong qn p.desc.color, false)

/-! ### The high-water mark (R325) -/

/-- A queue whose depth has risen. -/
def Queue.raise (q : Queue) (tclk : Nat) : Queue :=
  { q with high := max q.high q.depth, highOld := if q.highCycle = tclk + 1 then q.highOld else q.high, highCycle := tclk + 1 }
/-- What a read in a TCLK cycle returns. -/
def Queue.markRead (q : Queue) (tclk : Nat) : Nat := if q.highCycle = tclk + 1 then q.highOld else q.high
/-- A clear. -/
def Queue.markClear (q : Queue) (tclk : Nat) : Queue :=
  { q with high := q.depth, highOld := q.depth, highCycle := tclk + 1 }

/-! ### Sampling (R326) -/

/-- The region of a domain's sample ring. -/
def obsRegion (d : Nat) : Nat := 0xA00 + d

/-- Write one sample record into a domain's ring. -/
def State.sample (s : State) (d : Nat) (body : Bytes) : State :=
  let x := s.observer d
  let q := (x.seq + 1) % 2 ^ 32
  let n := x.pages * 2 ^ 25 / 16
  let s := s.writeRegion (obsRegion d) (16 * x.pos) (leBytes 4 q ++ body)
  let s := (s.drawn).dramReq 4 (Config.freeValue s.free % 2 ^ 34) 64 true 8 none 0
  s.setObserver d { x with seq := q, pos := (x.pos + 1) % n }

/-- The sojourn of a queue's head packet in ns; 0 for an empty queue. -/
def State.headSojourn (s : State) (q : Nat) : Nat :=
  match (s.queue q).packets with
  | [] => 0
  | k :: _ => (s.now - (s.pkt k).accepted) / 6

/-- The queues of a domain that are selected, in ascending number. -/
def State.selectedOf (s : State) (d : Nat) : List Nat :=
  (s.tm.queues.filter fun r => r.2.selected && s.owner 2 r.1 = d).map fun r => r.1

/-- OBS_SAMPLE_PASS (R326): the marker, then a record per selected queue, once in a period. How long the pass takes is free but for the
least, 1 µs for 1,024 queues; one longer than the period is late, and the next one starts as it ends. -/
def execObsSamplePass (t domain : Nat) (s : State) : Host.Outcome State Fault Refusal :=
  let s := s.at_ t
  let x := s.observer domain
  .next (if !x.enable || x.pages = 0 || s.now < x.next then s
    else
      let now := s.timeNow
      let s := s.sample domain (leBytes 4 (2 ^ 31) ++ leBytes 4 (now % second / 2 ^ 40) ++ leBytes 4 (now / second))
      let s := each (fun q s => State.sample s domain
        (leBytes 4 q ++ leBytes 4 (s.queue q).depth ++ leBytes 4 (min (s.headSojourn q) 0xFFFFFFFF))) (s.selectedOf domain) s
      let len := max (((s.selectedOf domain).length + 1023) / 1024) (Config.freeValue s.free % 2 ^ 32)
      let late := x.periodUs < len
      let s := s.drawn.setObserver domain { s.observer domain with late := late, next := s.now + us (max x.periodUs len) }
      if late then s.eventTo domain 0x0AF0 domain len else s)

/-! ### Commands -/

/-- A size that its bucket's rate needs (15 status codes). -/
def sizeOk (rate size : Nat) : Bool := size < 2 ^ 28 && (rate = 0 || 1 ≤ size)

/-- POLICER_CONFIG's checks. -/
def policerConfigErrs (c : Cmd) (s : State) : List (Option Err) :=
  let k := c.u8 21
  let r2 := if k = 0 then c.u32 28 else c.u32 32
  [s.ownErr c 6 (c.u32 16), at_ 20 (c.u8 20 ≤ 1), at_ 21 (k ≤ 2), at_ 22 (c.u8 22 < 8 && (!bit (c.u8 22) 1 || k = 2)),
   at_ 23 (-64 ≤ c.i8 23 && c.i8 23 ≤ 63), at_ 24 (c.u8 24 ≤ 1), at_ 25 (c.u8 25 ≤ 1), at_ 26 (c.u8 26 ≤ 1), c.zeros 27 1,
   at_ 28 (k ≠ 1 || c.u32 28 ≤ c.u32 32), at_ 32 (k ≠ 0 || c.u32 32 = 0), at_ 36 (sizeOk (c.u32 28) (c.u32 36)),
   at_ 40 (sizeOk r2 (c.u32 40)), c.zeros 44 20]

/-- A POLICER_CONFIG touches no rate and no size. -/
def Policer.sameRates (p : Policer) (c : Cmd) : Bool :=
  p.cir = c.u32 28 && p.rate2 = c.u32 32 && p.cbs = c.u32 36 && p.size2 = c.u32 40

/-- A policer as POLICER_CONFIG writes it (R320): tokens are set where the write touches a rate or a size. -/
def Policer.write (p : Policer) (c : Cmd) (tclk : Nat) : Policer :=
  let p := p.refill tclk
  let same := p.sameRates c
  let full := c.u8 24 = 0
  { p with enable := c.u8 20 = 1, kind := c.u8 21, aware := bit (c.u8 22) 0, couple := bit (c.u8 22) 1,
           packet := bit (c.u8 22) 2, overhead := c.i8 23, yellowDrop := c.u8 25 = 1, redDrop := c.u8 26 = 1,
           cir := c.u32 28, rate2 := c.u32 32, cbs := c.u32 36, size2 := c.u32 40,
           tokC := if same then p.tokC else if full then c.u32 36 * 65536 else 0,
           tok2 := if same then p.tok2 else if full then c.u32 40 * 65536 else 0 }

/-- Keep a policer as it stands before a write, once in a TCLK cycle (R320). -/
def State.notePolicer (s : State) (k : Nat) (same : Bool) : State :=
  s.setPriorPolicer k (if s.policerWritten k then { s.priorPolicer k with keeps := (s.priorPolicer k).keeps && same }
    else { cycle := s.tclk + 1, keeps := same, old := s.policer k })

/-- POLICER_CONFIG (R318–R320). -/
def execPolicerConfig (t : Nat) (c : Cmd) (s : State) : Host.Outcome State Fault Refusal :=
  let s := s.at_ t
  .next (s.command 0x0A00 c .any (policerConfigErrs c s)
    { s := (s.notePolicer (c.u32 16) ((s.policer (c.u32 16)).sameRates c)).setPolicer (c.u32 16) ((s.policer (c.u32 16)).write c s.tclk) })

/-- POLICER_STATS. -/
def execPolicerStats (t : Nat) (c : Cmd) (s : State) : Host.Outcome State Fault Refusal :=
  let s := s.at_ t
  let x := s.policer (c.u32 16)
  .next (s.command 0x0A01 c .any [c.needReply, s.ownErr c 6 (c.u32 16), at_ 20 (c.u8 20 ≤ 1), c.zeros 21 43]
    { s := if bit (c.u8 20) 0 then s.setPolicer (c.u32 16) { x with stats := [] } else s, result := 64,
      long := counterBytes x.stats 8 })

/-- Profiles that a domain holds. -/
def State.profilesHeld (s : State) (d : Nat) : Nat := countRows s.pol.profiles fun _ p => p.live && p.owner = d
/-- A queue names a profile. -/
def State.profileUsed (s : State) (id : Nat) : Bool :=
  s.tm.queues.any fun r => (List.range 4).any fun i => look r.2.slots i 0 = id + 1

/-- CONG_PROFILE's checks. -/
def congProfileErrs (c : Cmd) (s : State) : List (Option Err) :=
  let op := c.u8 16
  let id := c.u16 18
  let x := s.cprofile id
  let mine := x.live && x.owner = c.domain
  [at_ 16 (op ≤ 2), c.zeros 17 1, at_ 18 (id < 4096), if op = 0 then none else need mine { status := .notFound }] ++
    (if op = 2 then [c.zeros 20 44] else
      [at_ 20 (c.u8 20 ≤ 2), at_ 21 (c.u8 21 ≤ 15), at_ 22 (64 ≤ c.u16 22), at_ 24 (c.u32 24 < 2 ^ 28),
       at_ 28 (c.u32 28 < 2 ^ 28 && c.u32 24 < c.u32 28), at_ 32 (c.u16 32 ≤ 4096), c.zeros 34 2,
       at_ 36 (c.u32 36 < 2 ^ 28 && c.u32 28 < c.u32 36), c.zeros 40 24]) ++
  [at_ 18 (op ≠ 0 || !x.live), need (op ≠ 0 || countRows s.pol.profiles (fun _ p => p.live) < 4096) { status := .tableFull },
   need (op ≠ 0 || s.profilesHeld c.domain < allowance s.pol.profileAllow c.domain) { status := .quota },
   need (op ≠ 2 || !s.profileUsed id) (refusedWith 1)]

/-- CONG_PROFILE (R322, R328). -/
def execCongProfile (t : Nat) (c : Cmd) (s : State) : Host.Outcome State Fault Refusal :=
  let s := s.at_ t
  let p : CongProfile :=
    if c.u8 16 = 2 then {}
    else { live := true, owner := c.domain, mode := c.u8 20, w := c.u8 21, decayNs := c.u16 22, minTh := c.u32 24,
           maxTh := c.u32 28, maxP := c.u16 32, hardTh := c.u32 36 }
  .next (s.command 0x0A02 c .any (congProfileErrs c s) { s := (s.noteProfile (c.u16 18)).setCprofile (c.u16 18) p })

/-- The slot that QUEUE_CONG writes: one more than the profile, 0 for 0xFFFF. -/
def congSlot (c : Cmd) (i : Nat) : Nat := if c.u16 (24 + 2 * i) = 0xFFFF then 0 else c.u16 (24 + 2 * i) + 1

/-- QUEUE_CONG (R327). -/
def execQueueCong (t : Nat) (c : Cmd) (s : State) : Host.Outcome State Fault Refusal :=
  let s := s.at_ t
  let f := c.u32 16
  let n := c.u32 20
  let slots := (List.range 4).foldl (fun m i => put m i 0 (congSlot c i)) []
  let there (i : Nat) : Bool := congSlot c i = 0 || (s.cprofile (congSlot c i - 1)).live
  let mine (i : Nat) : Bool := congSlot c i = 0 || (s.cprofile (congSlot c i - 1)).owner = c.domain
  .next (s.command 0x0A03 c .any
    [s.ownErr c 2 f, at_ 20 (1 ≤ n), need (s.ownsRange c.domain 2 f n) denied,
     at_ 24 ((List.range 4).all there), need ((List.range 4).all mine) denied, c.zeros 34 30]
    { s := each (fun q s => s.setQueue q { s.queue q with slots := slots, sojournUs := c.u16 32 }) (rangeOf f n) s })

/-- Queues selected in all. -/
def State.selectedCount (s : State) : Nat := countRows s.tm.queues fun _ q => q.selected

/-- OBS_SELECT (R326, R327). -/
def execObsSelect (t : Nat) (c : Cmd) (s : State) : Host.Outcome State Fault Refusal :=
  let s := s.at_ t
  let f := c.u32 20
  let n := c.u32 24
  let add := c.u8 16 = 0
  .next (s.command 0x0A04 c .any
    [at_ 16 (c.u8 16 ≤ 1), c.zeros 17 3, s.ownErr c 2 f, at_ 24 (1 ≤ n && n ≤ 65536), need (s.ownsRange c.domain 2 f n) denied,
     c.zeros 28 36, at_ 20 ((rangeOf f n).all fun q => (s.queue q).selected ≠ add),
     need (!add || s.selectedCount + n ≤ 65536) { status := .tableFull },
     need (!add || (s.selectedOf c.domain).length + n ≤ allowance s.pol.slotAllow c.domain) { status := .quota }]
    { s := each (fun q s => s.setQueue q { s.queue q with selected := add }) (rangeOf f n) s })

/-- OBS_CONFIG (R326): a change of pages empties the ring. -/
def execObsConfig (t : Nat) (c : Cmd) (s : State) : Host.Outcome State Fault Refusal :=
  let s := s.at_ t
  let x := s.observer c.domain
  let used := (s.pol.obs.map fun r => r.2.pages).sum
  let x1 := { x with enable := c.u8 16 = 1, pages := c.u8 17, periodUs := c.u32 20, next := 0 }
  let wipe (s : State) : State :=
    { s with host := { s.host with regions := keepRows s.host.regions fun k _ => k / 2 ^ 40 ≠ obsRegion c.domain } }
  .next (s.command 0x0A05 c .any
    [at_ 16 (c.u8 16 ≤ 1), at_ 17 (1 ≤ c.u8 17 && c.u8 17 ≤ 8), c.zeros 18 2, at_ 20 (100 ≤ c.u32 20 && c.u32 20 ≤ 1000000),
     c.zeros 24 40, need (used - x.pages + c.u8 17 ≤ 128) { status := .tableFull }]
    { s := if x.pages = c.u8 17 then s.setObserver c.domain x1 else (wipe s).setObserver c.domain { x1 with pos := 0 } })

/-- OBS_HWM (R325, R327). -/
def execObsHwm (t : Nat) (c : Cmd) (s : State) : Host.Outcome State Fault Refusal :=
  let s := s.at_ t
  let f := c.u32 16
  let n := c.u32 20
  .next (s.command 0x0A06 c .any
    [c.needReply, s.ownErr c 2 f, at_ 20 (1 ≤ n && n ≤ 16384), need (s.ownsRange c.domain 2 f n) denied, at_ 24 (c.u8 24 ≤ 1),
     c.zeros 25 39]
    { s := if bit (c.u8 24) 0 then each (fun q s => s.setQueue q ((s.queue q).markClear s.tclk)) (rangeOf f n) s else s,
      result := 4 * n, long := (rangeOf f n).flatMap fun q => leBytes 4 ((s.queue q).markRead s.tclk) })

/-- CONG_STATS. -/
def execCongStats (t : Nat) (c : Cmd) (s : State) : Host.Outcome State Fault Refusal :=
  let s := s.at_ t
  let q := c.u32 16
  let x := s.queue q
  let d := s.owner 2 q
  let clear (s : State) : State :=
    let s := s.setQueue q { x with cong := [] }
    { s with pol := { s.pol with denied := put s.pol.denied d 0 0 } }
  .next (s.command 0x0A07 c .any [c.needReply, s.ownErr c 2 q, at_ 20 (c.u8 20 ≤ 1), c.zeros 21 43]
    { s := if bit (c.u8 20) 0 then clear s else s, result := 64,
      long := counterBytes x.cong 7 ++ leBytes 8 (look s.pol.denied d 0) })

/-- CONG_LIMIT. -/
def execCongLimit (t : Nat) (c : Cmd) (s : State) : Host.Outcome State Fault Refusal :=
  let s := s.at_ t
  .next (s.command 0x0A08 c .d0 [at_ 16 (c.u8 16 < 16), c.zeros 17 3, c.zeros 28 36]
    { s := { s with pol := { s.pol with profileAllow := setAllowance s.pol.profileAllow (c.u8 16) (c.u32 20),
                                        slotAllow := setAllowance s.pol.slotAllow (c.u8 16) (c.u32 24) } } })

/-- CONG_SEED (R322): D0 on the principal host. -/
def execCongSeed (t : Nat) (c : Cmd) (s : State) : Host.Outcome State Fault Refusal :=
  let s := s.at_ t
  let g (sl : Nat) : Nat := if c.u32 16 ^^^ sl = 0 then 1 else c.u32 16 ^^^ sl
  .next (s.command 0x0A09 c .d0 [need (c.host = s.dom.principal) denied, c.zeros 20 44]
    { s := { s with pol := { s.pol with gens := (List.range 32).foldl (fun m sl => put m sl 0 (g sl)) s.pol.gens } } })

end Sys2Proof.Machine
end

