-- ==== Sys2Proof/Machine/Fabric.lean ====
section
/-! DEFINITION. Fabric links, cells, virtual output queues and credit, and their commands (16_fabric_interface.md). -/

namespace Sys2Proof.Machine

/-! ### The descriptor in bytes (R263) -/

/-- A descriptor's 64 bytes. -/
def descBytes (d : Desc) : Bytes :=
  leBytes 4 (d.queue + 2 ^ 20 * d.port + 2 ^ 27 * d.color + 2 ^ 29 * b2n d.egressPass) ++ leBytes 2 d.length ++
    leBytes 1 (d.domain + 16 * b2n d.mirror + 32 * b2n d.punt) ++ leBytes 1 d.cls ++ leBytes 4 d.hash ++ timeBytes d.stamp ++
    leBytes 4 d.egressList ++ leBytes 1 d.ingress ++ leBytes 3 0 ++ leBytes 4 (d.policer + 2 ^ 31 * b2n d.policed) ++
    leBytes 2 d.ptpOffset ++ leBytes 1 d.ptpKind ++ leBytes 1 (b2n d.ipv6 + 2 * b2n d.ecn) ++ leBytes 2 d.ipOffset ++
    leBytes 2 0 ++ leBytes 4 d.meta0 ++ leBytes 4 d.meta1 ++ leBytes 4 d.meta2 ++ leBytes 8 0

/-- The descriptor that 64 bytes spell. -/
def descOf (b : Bytes) : Desc :=
  let w := leAt b 0 4
  let p := leAt b 32 4
  { queue := w % 2 ^ 20, port := bits w 26 20, color := bits w 28 27, egressPass := bit w 29, length := leAt b 4 2,
    domain := byteAt b 6 % 16, mirror := bit (byteAt b 6) 4, punt := bit (byteAt b 6) 5, cls := byteAt b 7, hash := leAt b 8 4,
    stamp := timeOf b 12, egressList := leAt b 24 4, ingress := byteAt b 28 % 128, policer := p % 2 ^ 19, policed := bit p 31,
    ptpOffset := leAt b 36 2, ptpKind := byteAt b 38 % 8, ipv6 := bit (byteAt b 39) 0, ecn := bit (byteAt b 39) 1,
    ipOffset := leAt b 40 2, meta0 := leAt b 44 4, meta1 := leAt b 48 4, meta2 := leAt b 52 4 }

/-! ### Access -/

/-- A fabric link. -/
def State.flink (s : State) (l : Nat) : FabLink := look s.fab.links l {}
/-- Set a fabric link. -/
def State.setFlink (s : State) (l : Nat) (x : FabLink) : State := { s with fab := { s.fab with links := put s.fab.links l {} x } }
/-- A pair as its destination. -/
def State.rxPair (s : State) (d : Nat) : RxPair := look s.fab.pairs d {}
/-- Set a pair as its destination. -/
def State.setRxPair (s : State) (d : Nat) (x : RxPair) : State := { s with fab := { s.fab with pairs := put s.fab.pairs d {} x } }
/-- The links in the round robin. -/
def State.healthyLinks (s : State) : Nat := countRows s.fab.links fun _ l => l.robin
/-! ### Demand and credit (R336–R338) -/

/-- Credit reaches a VOQ (R336); a selection of the same TCLK cycle does not see it. -/
def State.takeCredit (s : State) (q units : Nat) : State :=
  let v := s.voq q
  let now := s.tclk + 1
  if v.mapped then
    (s.setVoq q { v with balance := v.balance + 4096 * units, recent := (if v.recentAt = now then v.recent else 0) + 4096 * units,
                         recentAt := now }).noteDemand q
  else s

/-- FAB_REQUEST_REFRESH (R337). -/
def execFabRequestRefresh (t voq : Nat) (s : State) : Host.Outcome State Fault Refusal :=
  let s := s.at_ t
  let v := s.voq voq
  .next (if v.mapped && s.fabRuns && 0 < s.voqDemand voq && v.lastRequest + us 20 ≤ s.now then s.sendRequest voq false else s)

/-- FAB_RESYNC (R337). -/
def execFabResync (t voq : Nat) (s : State) : Host.Outcome State Fault Refusal :=
  let s := s.at_ t
  let v := s.voq voq
  .next (match v.starvedAt with
    | some a =>
      if v.mapped && s.fabRuns && a + ms 1 ≤ s.now && 0 < s.voqDemand voq then
        (s.setVoq voq { v with starvedAt := some s.now }).sendRequest voq true
      else s
    | none => s)

/-- The port's credit settings. -/
def State.portCredit (s : State) (p : Nat) : PortCredit := look s.fab.portCredit p {}
/-- Set the port's credit settings. -/
def State.setPortCredit (s : State) (p : Nat) (x : PortCredit) : State :=
  { s with fab := { s.fab with portCredit := put s.fab.portCredit p {} x } }

/-- A threshold with an action bit is set in the pool of a queue's account (R278). -/
def State.poolActs (s : State) (q b : Nat) : Bool :=
  (s.pool (s.account (s.queue q).account).pool).thresholds.any fun r => r.2.isSet && bit r.2.actions b

/-- A requesting VOQ may receive a unit from a port's generator (R338). -/
def State.mayGrant (s : State) (p : Nat) (d : Demand) : Bool :=
  s.rootOf (nodeKey 4 d.queue) = some p && d.granted < d.demand && d.granted < 16 && (s.queue d.queue).state = .opened &&
    (s.queue d.queue).depth < (s.portCredit p).depth && !s.rootHeld p && !s.poolActs d.queue 1

/-- The demands that a port may grant to at the best priority, those after the one served last first. -/
def State.grantOrder (s : State) (p : Nat) : List (Nat × Demand) :=
  let l := s.fab.demands.filter fun r => s.mayGrant p r.2
  let prio (d : Demand) : Nat := (s.node (nodeKey 4 d.queue)).priority
  let best := (l.map fun r => prio r.2).foldl min 7
  let l := l.filter fun r => prio r.2 = best
  (l.filter fun r => (s.portCredit p).last < r.1 + 1) ++ l.filter fun r => r.1 + 1 ≤ (s.portCredit p).last

/-- The generator's rate in kb/s: the port's rate in force × credit_pct / 100 (R338). -/
def State.creditRate (s : State) (p : Nat) : Nat :=
  let r := (s.node (nodeKey 0 p)).peakRate
  let line := (s.port p).speed * 1000
  (if r = unlimited then line else min r line) * (s.portCredit p).pct / 100

/-- Add a unit to the credit that waits for a VOQ. -/
def addCredit (l : List (Nat × Nat × Nat)) (src voq : Nat) : List (Nat × Nat × Nat) :=
  match l with
  | [] => [(src, voq, 1)]
  | (a, b, n) :: t => if a = src && b = voq && 0 < n && n < 16 then (a, b, n + 1) :: t else (a, b, n) :: addCredit t src voq

/-- FAB_CREDIT_GRANT (R338). -/
def execFabCreditGrant (t port : Nat) (s : State) : Host.Outcome State Fault Refusal :=
  let s := s.at_ t
  let x := s.portCredit port
  let rate := s.creditRate port
  .next (if !s.fabRuns || rate = 0 || s.now < x.ready then s
    else match s.grantOrder port with
      | [] => s
      | (k, d) :: _ =>
        let s := s.setPortCredit port { x with last := k + 1, ready := s.now + 32768 * 6000000 / rate }
        let s := { s with fab := { s.fab with demands := put s.fab.demands k {} { d with granted := d.granted + 1 } } }
        if k / 2 ^ 20 = s.fab.device then s.takeCredit (k % 2 ^ 20) 1
        else { s with fab := { s.fab with credits := addCredit s.fab.credits (k / 2 ^ 20) (k % 2 ^ 20) } })

/-! ### Cells (R332–R334) -/

/-- Discards for CRC on a link within the last 1 ms. -/
def FabLink.discards (l : FabLink) (now : Nat) : Nat := (l.crc.filter fun i => now < i + ms 1).length

/-- A cell: 14 header bytes, CRC-16, payload (R332). -/
def cellOf (ty first last dst src queue seq used link : Nat) (rdi : Bool) (payload : Bytes) : Bytes :=
  let h := beBytes 1 (16 * ty + 8 * first + 4 * last) ++ beBytes 2 dst ++ beBytes 2 src ++ beBytes 3 queue ++ beBytes 3 seq ++
    beBytes 1 used ++ beBytes 1 link ++ beBytes 1 (128 * b2n rdi)
  h ++ beBytes 2 (crc16 h) ++ slice payload 0 240

/-- The request entries of a cell's payload (R337), a wire format (R12). -/
def reqBytes (r : ReqEntry) : Bytes := beBytes 3 (r.voq + 2 ^ 23 * b2n r.resync) ++ beBytes 3 r.queue ++ beBytes 1 r.demand ++ beBytes 1 0
/-- The credit entries of a cell's payload. -/
def creditBytes (c : Nat × Nat × Nat) : Bytes := beBytes 3 c.2.1 ++ beBytes 1 c.2.2 ++ beBytes 4 0

/-- The pattern of a fabric lane marker. -/
def fmPattern : Nat := 0x39E06CA5D287

/-- The symbols of a fabric lane group (R330, R331): 50 codewords over the marker, 125 scrambled cells and 564 filler bits. -/
def fabGroup (link group : Nat) (cells : List Bytes) : List Nat :=
  let b := prbs31Add (0x7FFF0000 ||| group % 65536) cells.flatten
  codewords 50 ((markerOf fmPattern link group * 2 ^ 256000 + beAt b 0 32000) * 2 ^ 564 + fillBits 141)

/-- Send a cell on a link; the 125th of a lane group completes it (R330). -/
def State.emitCell (s : State) (link : Nat) (cell : Bytes) : State :=
  let x := s.flink link
  let cells := x.txCells ++ [cell]
  let s := s.emit (.cell link cell)
  if cells.length < 125 then s.setFlink link { x with txCells := cells }
  else (s.setFlink link { x with txCells := [], txGroup := (x.txGroup + 1) % 65536 }).emit (.fabric link (fabGroup link x.txGroup cells))

/-- The acknowledgement to a device is sent with a control cell (R340). -/
def State.ackTo (s : State) (d : Nat) : State := s.setRxPair d { s.rxPair d with ackDue := false }

/-- Send a control cell: waiting requests of one destination, else waiting credits of one source. -/
def State.controlCell (s : State) (link : Nat) (rdi : Bool) : Option State :=
  let own := s.fab.device
  match s.fab.requests, s.fab.credits with
  | r :: _, _ =>
    let l := (s.fab.requests.filter fun x => x.device = r.device).take 30
    let s := s.emitCell link (cellOf 2 0 0 r.device own 0 (s.rxPair r.device).next l.length link rdi (l.flatMap reqBytes))
    some ({ s with fab := { s.fab with requests := l.foldl List.erase s.fab.requests } }.ackTo r.device)
  | [], c :: _ =>
    let l := (s.fab.credits.filter fun x => x.1 = c.1).take 30
    let e := l.filter fun x => 0 < x.2.2
    let s := s.emitCell link (cellOf 3 0 0 c.1 own 0 (s.rxPair c.1).next e.length link rdi (e.flatMap creditBytes))
    some ({ s with fab := { s.fab with credits := l.foldl List.erase s.fab.credits } }.ackTo c.1)
  | [], [] => none

/-- Emit a data cell on a link. -/
def State.emitData (s : State) (link : Nat) (rdi : Bool) (c : OutCell) : State :=
  (s.emitCell link (cellOf 0 (b2n c.first) (b2n c.last) c.device s.fab.device c.queue c.seq c.payload.length link rdi
    c.payload)).count (3232 + link) 1

/-- Send a cell again (R341). -/
def State.resendCell (s : State) (link : Nat) (rdi : Bool) : Option State :=
  match s.fab.resend with
  | [] => none
  | c :: l =>
    let c1 := { c with link := link }
    let s := { s with fab := { s.fab with resend := l, unacked := s.fab.unacked.map fun (x : OutCell) =>
      if x.device = c.device && x.seq = c.seq then c1 else x } }
    some ((s.emitData link rdi c1).countFab 1 1)

/-- Unacknowledged cells of a pair. -/
def State.unackedTo (s : State) (d : Nat) : Nat := (s.fab.unacked.filter fun c => c.device = d).length

/-- Send the next data cell (R333, R336, R339). -/
def State.dataCell (s : State) (link : Nat) (rdi : Bool) : Option State :=
  match s.fab.sending.find? fun p => s.unackedTo p.device < 262144 with
  | none => none
  | some p =>
    let q := look s.fab.nextSeq p.device 0
    let last := p.rest.length ≤ 240
    let c : OutCell := { device := p.device, seq := q, link := link, packet := p.packet, first := p.first, last := last,
                         queue := p.queue, payload := p.rest.take 240 }
    let p1 := { p with first := false, rest := p.rest.drop 240 }
    let l := if last then s.fab.sending.erase p else s.fab.sending.map fun (x : OutPacket) => if x = p then p1 else x
    let s := { s with fab := { s.fab with sending := l, nextSeq := put s.fab.nextSeq p.device 0 ((q + 1) % 2 ^ 24),
                                          unacked := s.fab.unacked ++ [c] } }
    let v := s.voq p.voq
    some ((((s.setVoq p.voq { v with balance := v.balance - 256 }).emitData link rdi c).countFab 0 1).noteDemand p.voq)

/-- A link whose sender runs: it is not powered down by command, and its lane has not failed. -/
def FabLink.sends (x : FabLink) : Bool := !(x.commandOut && x.work.isNone) && !x.laneFailed

/-- FAB_CELL_SEND (R334, R339): a cell time of a link in the round robin: a cell to send again, control, data, or idle. A link out of
the round robin sends idle cells. -/
def execFabCellSend (t link : Nat) (s : State) : Host.Outcome State Fault Refusal :=
  let s := s.at_ t
  let x := s.flink link
  let rdi := !x.locked || 64 < x.discards s.now
  let idle := s.emitCell link (cellOf 1 0 0 0 s.fab.device 0 0 0 link rdi [])
  .next (if !s.fabRuns then s
    else if !x.robin then (if link < 192 && x.sends then idle else s)
    else match s.resendCell link rdi with
      | some s => s
      | none => match s.controlCell link rdi with
        | some s => s
        | none => match s.dataCell link rdi with
          | some s => s
          | none => idle)

/-! ### Receiving (R331, R332, R340) -/

/-- Deliver a reassembled packet to fabric receive (R340). -/
def State.fabDeliver (s : State) (b : Bytes) (queue : Nat) : State :=
  let n := s.nextId
  (s.newPkt { bytes := b.drop 64, desc := { descOf b with queue := queue }, rxCycle := s.now / 6 }).toWriter 1 n

/-- One cell in sequence reaches the packet under reassembly. -/
def State.assembleCell (s : State) (d : Nat) (c : HeldCell) : State :=
  let x := s.rxPair d
  let got := if c.first then some c.payload else x.building.map (· ++ c.payload)
  match got, c.last with
  | some b, true => (s.setRxPair d { x with building := none }).fabDeliver b c.queue
  | b, _ => s.setRxPair d { x with building := b }

/-- Take the cells that stand in sequence. -/
def drainCells (d : Nat) : Nat → State → State
  | 0, s => s
  | n + 1, s =>
    let x := s.rxPair d
    match x.held.find? fun c => c.seq = x.next with
    | none => s
    | some c =>
      let s := s.setRxPair d { x with next := (x.next + 1) % 2 ^ 24, held := x.held.erase c, ackDue := true }
      drainCells d n (s.assembleCell d c)

/-- After a drain: the gap that stands open, since the first cell beyond it arrived. -/
def State.noteGap (s : State) (d : Nat) : State :=
  let x := s.rxPair d
  s.setRxPair d { x with gap := match x.held with
    | [] => none
    | h :: l => some ((l.map fun c => c.since).foldl min h.since) }

/-- A data cell arrives (R340). -/
def State.fabData (s : State) (d : Nat) (c : HeldCell) : State :=
  let x := s.rxPair d
  let dist := (c.seq + 2 ^ 24 - x.next) % 2 ^ 24
  if 2 ^ 23 ≤ dist || x.held.any (fun h => h.seq = c.seq) then s.countFab 5 1
  else
    let s := s.setRxPair d { x with held := x.held ++ [c] }
    (drainCells d (x.held.length + 1) s).noteGap d

/-- Packets whose cells are all acknowledged free their buffer cells (R339). -/
def State.releaseSent (s : State) (ks : List Nat) : State :=
  each (fun k s =>
    if s.fab.unacked.any (fun c => c.packet = k) || s.fab.sending.any (fun p => p.packet = k) then s
    else ({ s with buf := { s.buf with frees := s.buf.frees ++ (s.pkt k).cells } }).dropPkt k) ks s

/-- A cumulative acknowledgement of a pair: the number it names is the next one expected. -/
def State.takeAck (s : State) (d ack : Nat) : State :=
  let done (c : OutCell) : Bool := c.device = d && 0 < (ack + 2 ^ 24 - c.seq) % 2 ^ 24 && (ack + 2 ^ 24 - c.seq) % 2 ^ 24 ≤ 2 ^ 23
  let ks := ((s.fab.unacked.filter done).map fun c => c.packet).eraseDups
  ({ s with fab := { s.fab with unacked := s.fab.unacked.filter fun c => !done c,
                                resend := s.fab.resend.filter fun c => !done c } }).releaseSent ks

/-- The request entries of a cell. -/
def State.fabRequests (s : State) (src : Nat) (b : Bytes) (n : Nat) : State :=
  each (fun i s =>
    let o := 16 + 8 * i
    let w := beAt b o 3
    s.takeRequest src { device := src, voq := w % 2 ^ 20, queue := beAt b (o + 3) 3 % 2 ^ 20, demand := byteAt b (o + 6),
                        resync := bit w 23 }) (List.range n) s

/-- The credit entries of a cell. -/
def State.fabCredits (s : State) (b : Bytes) (n : Nat) : State :=
  each (fun i s => s.takeCredit (beAt b (16 + 8 * i) 3 % 2 ^ 20) (byteAt b (19 + 8 * i))) (List.range n) s

/-- A good cell shows rdi or not (R341, R342). -/
def FabLink.sawRdi (x : FabLink) (rdi : Bool) (now : Nat) : FabLink :=
  if rdi then { x with rdiRx := true, rdiRun := x.rdiRun + 1, cleanSince := some now }
  else { x with rdiRx := false, rdiRun := 0, cleanSince := some (x.cleanSince.getD now) }

/-- FAB_CELL_RECEIVE (R331, R332). -/
def execFabCellReceive (t link : Nat) (cell : Bytes) (fecBad : Bool) (s : State) : Host.Outcome State Fault Refusal :=
  let s := s.at_ t
  let x := s.flink link
  let ty := byteAt cell 0 / 16
  let dst := beAt cell 1 2 % 2048
  let src := beAt cell 3 2 % 2048
  .next (if !s.fabRuns || !x.locked || 192 ≤ link then s
    else if fecBad then s.countFab 3 1
    else if crc16 (slice cell 0 14) ≠ beAt cell 14 2 then
      (s.setFlink link { x with crc := (s.now :: x.crc).take 65 }).countFab 3 1
    else
      let s := s.setFlink link (x.sawRdi (bit (byteAt cell 13) 7) s.now)
      if 4 ≤ ty then s.countFab 3 1
      else if ty = 1 then s
      else if dst ≠ s.fab.device then s.countFab 4 1
      else if ty = 0 then
        (s.countFab 2 1).fabData src
          { seq := beAt cell 8 3, first := bit (byteAt cell 0) 3, last := bit (byteAt cell 0) 2, queue := beAt cell 5 3 % 2 ^ 20,
            payload := slice cell 16 (min 240 (byteAt cell 11)), since := s.now }
      else
        let s := s.takeAck src (beAt cell 8 3)
        let n := min 30 (byteAt cell 11)
        if ty = 2 then s.fabRequests src cell n else s.fabCredits cell n)

/-- FAB_GAP_TIMEOUT (R340): the gap is skipped, and the packet that held the missing cell is dropped. -/
def execFabGapTimeout (t device : Nat) (s : State) : Host.Outcome State Fault Refusal :=
  let s := s.at_ t
  let x := s.rxPair device
  .next (match x.gap with
    | none => s
    | some g =>
      if s.now < g + us 64 then s
      else
        let dist (c : HeldCell) : Nat := (c.seq + 2 ^ 24 - x.next) % 2 ^ 24
        let first := (x.held.map dist).foldl min (2 ^ 24)
        let next := (x.next + first) % 2 ^ 24
        let s := (s.setRxPair device { x with next := next, building := none, ackDue := true }).countFab 6 1
        (drainCells device (x.held.length + 1) s).noteGap device)

/-- FAB_ACK_TIMER (R340): acknowledgements that have moved are sent, in a credit cell with no entries where nothing else goes
to that source. -/
def execFabAckTimer (t : Nat) (s : State) : Host.Outcome State Fault Refusal :=
  let s := s.at_ t
  let due := (s.fab.pairs.filter fun r => r.2.ackDue && !(s.fab.requests.any fun q => q.device = r.1) &&
    !(s.fab.credits.any fun c => c.1 = r.1)).map fun r => (r.1, 0, 0)
  .next (if s.fabRuns then { s with fab := { s.fab with credits := s.fab.credits ++ due } } else s)

/-! ### Links (R330, R331, R341, R342) -/

/-- FAB_LANE_MARKER (R331): two good markers at the right distance lock the lane, four bad ones in a row unlock it. -/
def execFabLaneMarker (t link : Nat) (m : LaneMarker) (s : State) : Host.Outcome State Fault Refusal :=
  let s := s.at_ t
  let x := s.flink link
  let good := m.pattern = fmPattern && m.laneInv = 255 - m.lane % 256
  let n := if !good then 0 else if m.lineBits = 272000 then x.good + 1 else 1
  let b := if good then 0 else x.bad + 1
  let lock := if x.locked then b < 4 else 2 ≤ n
  .next (if !s.fabRuns || 192 ≤ link then s
    else s.setFlink link { x with good := n, bad := b, locked := lock,
                                  cleanSince := if !lock then none else if x.locked then x.cleanSince else some s.now })

/-- Post FAB_LINK_STATE. -/
def State.linkEvent (s : State) (l cause : Nat) (failed : Bool) : State :=
  s.eventTo 0 0x0BF0 (l + 256 * b2n failed + 512 * cause) s.healthyLinks

/-- FAB_LINK_FAIL (R341). -/
def execFabLinkFail (t link : Nat) (laneFailed : Bool) (s : State) : Host.Outcome State Fault Refusal :=
  let s := s.at_ t
  let x := s.flink link
  let cause := if laneFailed then some 3 else if !x.locked then some 0 else if 3 ≤ x.rdiRun then some 1
    else if 64 < x.discards s.now then some 2 else none
  .next (match cause with
    | none => s
    | some c =>
      if !s.fabRuns || 192 ≤ link then s
      else
        let x := { x with laneFailed := x.laneFailed || laneFailed, locked := x.locked && !laneFailed }
        if !x.robin then s.setFlink link x
        else
          let s := s.setFlink link { x with robin := false, resendDue := true, rdiRun := 0,
                                            cleanSince := if x.locked then some s.now else none }
          (s.linkEvent link c true).mapOut 0x0B link c 0xFFFF 0)

/-- FAB_RESEND (R341). -/
def execFabResend (t link : Nat) (s : State) : Host.Outcome State Fault Refusal :=
  let s := s.at_ t
  let x := s.flink link
  .next (if !x.resendDue then s
    else
      let cs := s.fab.unacked.filter fun c => c.link = link && !s.fab.resend.contains c
      let s := s.setFlink link { x with resendDue := false }
      { s with fab := { s.fab with resend := s.fab.resend ++ cs } })

/-- FAB_LINK_RETURN (R342). -/
def execFabLinkReturn (t link : Nat) (s : State) : Host.Outcome State Fault Refusal :=
  let s := s.at_ t
  let x := s.flink link
  .next (match x.cleanSince with
    | none => s
    | some c =>
      if !s.fabRuns || x.robin || x.commandOut || x.laneFailed || !x.locked || s.now < c + ms 10 then s
      else ((s.setFlink link { x with robin := true }).linkEvent link 0 false).bringBack 0x0B link 0xFFFF false)

/-- Cells that a link carried and that are not acknowledged. -/
def State.carried (s : State) (l : Nat) : Nat := (s.fab.unacked.filter fun c => c.link = l).length

/-- A planned map-out of a link begins (R342). -/
def State.linkLeaves (s : State) (l : Nat) (c : Cmd) : State :=
  let x := s.flink l
  (s.setFlink l { x with robin := false, commandOut := true, work := some (c, s.now) }).linkEvent l 4 true

/-- FAB_LINK_MAPOUT_DONE (R342): every cell is acknowledged, or 100 µs have passed and the rest is sent again. -/
def execFabLinkMapoutDone (t link : Nat) (s : State) : Host.Outcome State Fault Refusal :=
  let s := s.at_ t
  let x := s.flink link
  .next (match x.work with
    | none => s
    | some (c, since) =>
      if s.carried link ≠ 0 && s.now < since + us 100 then s
      else
        let s := s.setFlink link { x with work := none, locked := false, good := 0, bad := 0, cleanSince := none,
                                          resendDue := s.carried link ≠ 0 }
        (s.mapOut 0x0B link 4 0xFFFF 0 true).answer c .ok 0 0 [])

/-! ### Commands -/

/-- The fabric's commands run in fabric topology only (R329). -/
def State.fabErr (s : State) : Option Err := need (s.dev.topology = 1) { status := .wrongMode }

/-- FAB_CONFIG: D0 on the principal host, in STANDBY. -/
def execFabConfig (t : Nat) (c : Cmd) (s : State) : Host.Outcome State Fault Refusal :=
  let s := s.at_ t
  .next (s.command 0x0B00 c .d0
    [need (c.host = s.dom.principal) denied, s.fabErr, need (s.dev.mode = .standby) { status := .wrongMode },
     at_ 16 (c.u16 16 < 2048), at_ 18 (c.u8 18 ≤ 1), c.zeros 19 45]
    { s := { s with fab := { s.fab with device := c.u16 16, enabled := c.u8 18 = 1 } } })

/-- The VOQ hangs under a fabric node (R344). -/
def State.isVoq (s : State) (q : Nat) : Bool :=
  match s.rootOf (nodeKey 4 q) with
  | some a => 176 ≤ a && a < 192
  | none => false

/-- FAB_VOQ_MAP (R344). -/
def execFabVoqMap (t : Nat) (c : Cmd) (s : State) : Host.Outcome State Fault Refusal :=
  let s := s.at_ t
  let f := c.u32 16
  let n := c.u32 20
  let r := rangeOf f n
  .next (s.command 0x0B01 c .any
    [s.fabErr, s.ownErr c 2 f, at_ 20 (1 ≤ n && n ≤ 65536), need (s.ownsRange c.domain 2 f n) denied, at_ 16 (r.all s.isVoq),
     at_ 24 (c.u16 24 < 2048), c.zeros 26 2, at_ 28 (c.u32 28 + n ≤ 2 ^ 20), c.zeros 32 32,
     need (r.all fun q => (s.queue q).packets = [] && (s.voq q).balance ≤ 0) { status := .busy }]
    { s := each (fun q s => s.setVoq q { s.voq q with mapped := true, device := c.u16 24, dstQueue := c.u32 28 + (q - f) }) r s })

/-- FAB_PORT_CREDIT (R338). -/
def execFabPortCredit (t : Nat) (c : Cmd) (s : State) : Host.Outcome State Fault Refusal :=
  let s := s.at_ t
  let pct := c.u8 17
  .next (s.command 0x0B02 c .any
    [s.fabErr, s.ownErr c 1 (c.u8 16), at_ 17 (pct = 0 || (100 ≤ pct && pct ≤ 150)), c.zeros 18 2,
     at_ 20 (1 ≤ c.u32 20 && c.u32 20 < 2 ^ 28), c.zeros 24 40]
    { s := s.setPortCredit (c.u8 16) { s.portCredit (c.u8 16) with pct := pct, depth := c.u32 20 } })

/-- FAB_LINK (R342). -/
def execFabLink (t : Nat) (c : Cmd) (s : State) : Host.Outcome State Fault Refusal :=
  let s := s.at_ t
  let l := c.u8 16
  let x := s.flink l
  let out := c.u8 17 = 1
  .next (s.command 0x0B03 c .d0
    [s.fabErr, at_ 16 (l < 192), at_ 17 (c.u8 17 ≤ 1), c.zeros 18 46, need x.work.isNone { status := .busy },
     at_ 17 (out || s.isOut 0x0B l), need (out || !x.laneFailed) { status := .hwFault, detail := s.seqOf 0x0B l }]
    (if out then { s := s.linkLeaves l c, later := true } else { s := s.setFlink l { x with commandOut := false } }))

/-- FAB_STATS. -/
def execFabStats (t : Nat) (c : Cmd) (s : State) : Host.Outcome State Fault Refusal :=
  let s := s.at_ t
  .next (s.command 0x0B04 c .d0 [c.needReply, at_ 16 (c.u8 16 ≤ 1), c.zeros 17 47]
    { s := if bit (c.u8 16) 0 then { s with fab := { s.fab with stats := [] } } else s, result := 64,
      long := counterBytes s.fab.stats 8 })

end Sys2Proof.Machine
end

