-- ==== Sys2Proof/Machine/TimeBase.lean ====
section
/-! DEFINITION. The time base, its steps, rate and slew, pulses, captures and two-step records (20_time.md). -/

namespace Sys2Proof.Machine

/-- The number of the present TSCLK cycle. -/
def State.tsclk (s : State) : Nat := s.now / 6

/-- Set the time base. -/
def State.setTime (s : State) (b : TimeBase) : State := { s with time := b }

/-- A pulse output. -/
def TimeBase.pulse (b : TimeBase) (n : Nat) : Pulse := look b.pulses n {}
/-- Set a pulse output. -/
def State.setPulse (s : State) (n : Nat) (p : Pulse) : State :=
  { s with time := { s.time with pulses := put s.time.pulses n {} p } }
/-- A capture input. -/
def State.input (s : State) (n : Nat) : Capture := look s.time.inputs n {}
/-- Set a capture input. -/
def State.setInput (s : State) (n : Nat) (p : Capture) : State :=
  { s with time := { s.time with inputs := put s.time.inputs n {} p } }
/-- The time settings of a port. -/
def State.portTime (s : State) (n : Nat) : PortTime := look s.time.ports n {}
/-- Set the time settings of a port. -/
def State.setPortTime (s : State) (n : Nat) (p : PortTime) : State :=
  { s with time := { s.time with ports := put s.time.ports n {} p } }

/-- TIME_NS_READ (R392): the nanoseconds; an aligned read latches seconds and fraction into the host's shadow. -/
def execTimeNsRead (t : Nat) (r : RegRead) (s : State) : Host.Outcome State Fault Refusal :=
  let s := s.at_ t
  let p := s.hostPort r.host
  let v := s.timeNow
  .next (if s.answers r.host && readHits r 0x02600000 then
      let s1 := s.emit (.read r.host (readPart r (v % second / 2 ^ 40)))
      if readAligned r then
        s1.setHostPort r.host { p with timeSec := v / second, timeFrac := v % 2 ^ 40 / 2 ^ 24 }
      else s1
    else s)

/-- How many scheduled instants of an output lie in (t0, t1], from its next one on (R405). -/
def Pulse.instantsTo (p : Pulse) (t1 : Nat) : Nat :=
  match p.next with
  | none => 0
  | some n => if t1 < n then 0 else if p.periodNs = 0 then 1 else (t1 - n) / (p.periodNs * 2 ^ 40) + 1

/-- The first scheduled instant after `t`, from the next one on. -/
def Pulse.nextAfter (p : Pulse) (t : Nat) : Option Nat :=
  match p.next with
  | none => none
  | some n =>
    if t < n then some n
    else if p.periodNs = 0 then none
    else some (n + p.periodNs * 2 ^ 40 * ((t - n) / (p.periodNs * 2 ^ 40) + 1))

/-- The level an output drives: active or not, by its polarity. -/
def pulseLevel (polarity : Nat) (active : Bool) : Bool := active != (polarity == 1)

/-- An output fires (R404): its active level for `width` cycles. -/
def State.firePulse (s : State) (n : Nat) (p : Pulse) (next : Option Nat) (missed : Bool) : State :=
  (s.setPulse n { p with next := next, missed := missed,
                         firing := some { ends := s.tsclk + p.widthNs, polarity := p.polarity } }).emit
    (.pulse n (pulseLevel p.polarity true))

/-- The instant of an output that is due fires it by its settings (R404); none is due in the cycle in which they were written (R406). -/
def State.fireDue (n : Nat) (s : State) : State :=
  let p := s.time.pulse n
  match p.next with
  | none => s
  | some i => if p.enabled && p.setCycle ≠ some s.tsclk && i ≤ s.timeNow then s.firePulse n p (p.nextAfter s.timeNow) false else s

/-- What a forward step to `t1` does to one output (R405). -/
def State.stepPulse (t1 : Nat) (n : Nat) (s : State) : State :=
  let p := s.time.pulse n
  let k := p.instantsTo t1
  if !p.enabled || k = 0 then s
  else (s.firePulse n p (p.nextAfter t1) true).eventTo 0 0x0EF1 n k

/-- TIME_STEP's new TIME (R394): an offset in 2^−16 ns, or an absolute TIME. -/
def stepTarget (c : Cmd) (old : Nat) : Nat :=
  if c.u8 16 = 0 then (((old : Int) + c.i64 20 * 2 ^ 24) % (2 ^ 48 * second : Int)).toNat else timeOf c.params 12

/-- The state after a step of the time base to `new` (R394, R396, R405); a pulse that is due in its cycle fires by the time before. -/
def State.stepTime (s : State) (new : Nat) : State :=
  let s := each State.fireDue [0, 1, 2, 3] s
  let b := s.timeBase
  let old := s.timeNow
  let seq := (b.stepSeq + 1) % 256
  let s := s.setTime { b with value := new, slewRate := 0, slewLeft := 0, armed := false, stepSeq := seq,
                              stepAmount := (new : Int) - old, stepOld := old, stepCycle := some s.tsclk }
  let s := if old < new then each (State.stepPulse new) [0, 1, 2, 3] s else s
  s.eventAll 0x0EF0 seq (unsigned 32 (b.slewLeft.tdiv (2 ^ 40 * 1000)))

/-- The checks of TIME_STEP. -/
def timeStepErrs (c : Cmd) (s : State) : List (Option Err) :=
  [at_ 16 (c.u8 16 ≤ 1), c.zeros 17 3, at_ 34 (c.u8 16 = 0 || c.u32 34 ≤ 999999999), c.zeros 40 24,
   need s.time.armed (refusedWith 1)]

/-- TIME_STEP (R394). -/
def execTimeStep (t : Nat) (c : Cmd) (s : State) : Host.Outcome State Fault Refusal :=
  let s := s.at_ t
  .next (s.command 0x0E00 c .d0 (timeStepErrs c s) { s := s.stepTime (stepTarget c s.timeNow) })

/-- One second has passed, in elapsed cycles, since the last step (R393, R394). -/
def State.mayArm (s : State) : Bool :=
  match s.time.stepCycle with
  | none => true
  | some k => k + 1000000000 ≤ s.tsclk

/-- TIME_ARM (R394). -/
def execTimeArm (t : Nat) (c : Cmd) (s : State) : Host.Outcome State Fault Refusal :=
  let s := s.at_ t
  .next (s.command 0x0E01 c .d0 [c.zeros 16 48, need s.mayArm (refusedWith 2)]
    { s := s.setTime { s.time with armed := true } })

/-- TIME_RATE (R395). -/
def execTimeRate (t : Nat) (c : Cmd) (s : State) : Host.Outcome State Fault Refusal :=
  let s := s.at_ t
  .next (s.command 0x0E02 c .d0
    [at_ 16 (-1099511627 ≤ c.i32 16 && c.i32 16 ≤ 1099511627), c.zeros 20 44]
    { s := s.setTime { s.timeBase with rate := c.i32 16 } })

/-- The extra rate of a slew of `ppm`, in 2^−40 ns per cycle (R395: 200 ppm is 219,902,326). -/
def slewUnits (ppm : Nat) : Nat := (ppm * 2 ^ 40 + 500000) / 1000000

/-- TIME_SLEW (R394): it replaces what is left of the previous one. -/
def execTimeSlew (t : Nat) (c : Cmd) (s : State) : Host.Outcome State Fault Refusal :=
  let s := s.at_ t
  let a := c.i64 16
  .next (s.command 0x0E03 c .d0
    [at_ 16 (a.natAbs ≤ 1000000000 * 65536), at_ 24 (1 ≤ c.u8 24 && c.u8 24 ≤ 200), c.zeros 25 39]
    { s := s.setTime { s.timeBase with slewLeft := a * 2 ^ 24,
                                       slewRate := if a = 0 then 0 else slewUnits (c.u8 24) } })

/-- SLEW_COMPLETE (R394): the whole amount has been applied and the extra rate is 0 again. -/
def execSlewComplete (t : Nat) (s : State) : Host.Outcome State Fault Refusal :=
  let s := s.at_ t
  .next (if s.time.slewLeft ≠ 0 && s.timeBase.slewLeft = 0 then s.setTime s.timeBase else s)

/-- The checks of TIME_PULSE. -/
def timePulseErrs (c : Cmd) : List (Option Err) :=
  [at_ 16 (c.u8 16 ≤ 3), at_ 17 (c.u8 17 ≤ 1), at_ 18 (c.u8 18 ≤ 1), c.zeros 19 1, at_ 26 (c.u32 26 ≤ 999999999),
   at_ 32 (c.u32 32 = 0 || (1000 ≤ c.u32 32 && c.u32 32 ≤ 4000000000)),
   at_ 36 (8 ≤ c.u32 36 && (if c.u32 32 = 0 then decide (c.u32 36 ≤ 1000000000) else decide (c.u32 36 < c.u32 32))),
   c.zeros 40 24]

/-- TIME_PULSE (R404, R406): the new settings, from the end of the cycle on; a pulse that is due in it and one in progress keep the old
ones. -/
def execTimePulse (t : Nat) (c : Cmd) (s : State) : Host.Outcome State Fault Refusal :=
  let s := s.at_ t
  let s0 := s.fireDue (c.u8 16)
  let p := s0.time.pulse (c.u8 16)
  let start := timeOf c.params 4
  let q := { p with enabled := c.u8 17 = 1, polarity := c.u8 18, start := start, periodNs := c.u32 32,
                    widthNs := c.u32 36, next := if c.u8 17 = 1 then some start else none, setCycle := some s.tsclk }
  let s1 := s0.setPulse (c.u8 16) q
  .next (s.command 0x0E04 c .d0 (timePulseErrs c)
    { s := if p.firing = none then s1.emit (.pulse (c.u8 16) (pulseLevel q.polarity false)) else s1 })

/-- PULSE_FIRE (R404): TIME has reached the next instant. -/
def execPulseFire (t out : Nat) (s : State) : Host.Outcome State Fault Refusal :=
  .next ((s.at_ t).fireDue out)

/-- PULSE_END (R404): the width has run out, and the output drives its inactive level. -/
def execPulseEnd (t out : Nat) (s : State) : Host.Outcome State Fault Refusal :=
  let s := s.at_ t
  let p := s.time.pulse out
  .next (match p.firing with
    | none => s
    | some f =>
      if f.ends ≤ s.tsclk then
        (s.setPulse out { p with firing := none }).emit (.pulse out (pulseLevel f.polarity false))
      else s)

/-- The TIME of an edge, resolved to 250 ps (R407). -/
def State.edgeTime (s : State) : Nat := s.timeNow / 2 ^ 38 * 2 ^ 38 + s.now % 6 * 4 / 6 * 2 ^ 38

/-- TIME_IN_EDGE (R407). -/
def execTimeInEdge (t input : Nat) (rising : Bool) (heldNs : Nat) (s : State) : Host.Outcome State Fault Refusal :=
  let s := s.at_ t
  let p := s.input input
  let e := if rising then 1 else 2
  let lost := { p with overflow := min (p.overflow + 1) 0xFFFF }
  .next (if 2 ≤ input || heldNs < 10 || !bit p.edge (e - 1) then s
    else
      let near := match p.last with
        | none => false
        | some l => decide (s.now < l + ns 100)
      if near then s.setInput input lost
      else if 16 ≤ p.queue.length then s.setInput input { lost with last := some s.now }
      else
        let s1 := s.setInput input { p with last := some s.now, queue := p.queue ++ [(s.edgeTime, e)] }
        if p.queue = [] then s1.eventTo 0 0x0EF2 input 1 else s1)

/-- The entries that TIME_CAPTURE reads (20 Commands). -/
def captureBytes (q : List (Nat × Nat)) : Bytes :=
  q.flatMap fun e => timeBytes e.1 ++ leBytes 4 e.2

/-- TIME_CAPTURE (R407): configure an input, or read and empty its queue. -/
def execTimeCapture (t : Nat) (c : Cmd) (s : State) : Host.Outcome State Fault Refusal :=
  let s := s.at_ t
  let p := s.input (c.u8 16)
  let read := c.u8 17 = 1
  let b := captureBytes p.queue
  .next (s.command 0x0E05 c .d0
    [if read then c.needReply else none, at_ 16 (c.u8 16 ≤ 1), at_ 17 (c.u8 17 ≤ 1), at_ 18 (c.u8 18 ≤ 3), c.zeros 19 45]
    (if read then { s := s.setInput (c.u8 16) { p with queue := [] }, result := b.length, long := b }
     else { s := s.setInput (c.u8 16) { p with edge := c.u8 18 } }))

/-- A record of R403 in bytes. -/
def TsRecord.bytes (r : TsRecord) : Bytes :=
  timeBytes r.stamp ++ leBytes 1 r.msgType ++ leBytes 1 r.domain ++ leBytes 2 r.seqId

/-- TIME_TS_READ (R403): the oldest records, which leave the queue. -/
def execTimeTsRead (t : Nat) (c : Cmd) (s : State) : Host.Outcome State Fault Refusal :=
  let s := s.at_ t
  let p := s.portTime (c.u8 16)
  let b := (p.queue.take (c.u8 17)).flatMap TsRecord.bytes
  .next (s.command 0x0E06 c .any
    [c.needReply, s.ownErr c 1 (c.u8 16), at_ 17 (1 ≤ c.u8 17 && c.u8 17 ≤ 16), c.zeros 18 46]
    { s := s.setPortTime (c.u8 16) { p with queue := p.queue.drop (c.u8 17) }, result := b.length, long := b })

/-- TIME_PORT_ADJ (R398). -/
def execTimePortAdj (t : Nat) (c : Cmd) (s : State) : Host.Outcome State Fault Refusal :=
  let s := s.at_ t
  let p := s.portTime (c.u8 16)
  .next (s.command 0x0E07 c .any
    [s.ownErr c 1 (c.u8 16), c.zeros 17 3, at_ 20 ((c.i32 20).natAbs ≤ 655360000),
     at_ 24 ((c.i32 24).natAbs ≤ 655360000), c.zeros 28 36]
    { s := s.setPortTime (c.u8 16) { p with rxAdj := c.i32 20, txAdj := c.i32 24 } })

/-- Put a two-step record into a port's queue, or count it dropped (R403). -/
def State.captureTs (s : State) (port : Nat) (r : TsRecord) : State :=
  let p := s.portTime port
  if 64 ≤ p.queue.length then s.setPortTime port { p with dropped := p.dropped + 1 }
  else
    let s1 := s.setPortTime port { p with queue := p.queue ++ [r] }
    if p.queue = [] then s1.eventTo (s.owner 1 port) 0x0EF3 port 1 else s1

end Sys2Proof.Machine
end

