-- ==== Sys2Proof/Machine/Ingress.lean ====
section
/-! DEFINITION. How a received frame enters the device behind its MAC (05 R116, R127; 02 R38; 20 R398). -/

namespace Sys2Proof.Machine

/-- An ingress stamp of a port with its adjustment (R398), in 2^−40 ns; `v` is in 2^−40 ns. -/
def State.rxStamp (s : State) (port : Nat) (v : Nat) : Nat :=
  ((v : Int) + (s.portTime port).rxAdj * 2 ^ 24).toNat

/-- Count a received frame with its `octets` on the line (R127). -/
def State.countRx (s : State) (port octets : Nat) : State :=
  let x := s.port port
  s.setPort port { x with counters := bump (bump x.counters 0 1) 1 octets }

/-- Count a received frame that is dropped. -/
def State.rxDrop (s : State) (port i : Nat) : State :=
  s.setPort port { s.port port with counters := bump (s.port port).counters i 1 }

/-- The counter of a frame of `n` octets that fails a check of R116; none where it passes: runts, oversize frames, FCS errors, among them
frames with an uncorrectable codeword. -/
def Port.rxErr (x : Port) (n : Nat) (fcsOk uncorrectable : Bool) : Option Nat :=
  if uncorrectable then some 2 else if n < 64 then some 3 else if x.cfg.maxFrame < n then some 4 else if !fcsOk then some 2 else none

/-- A PFC frame (IEEE 802.1Qbb). -/
def isPfc (b : Bytes) : Bool := beAt b 12 2 = 0x8808 && beAt b 14 2 = 0x0101

/-- The eight quanta of a PFC frame. -/
def pfcQuanta (b : Bytes) : List Nat := (List.range 8).map fun c => beAt b (18 + 2 * c) 2

/-- A PFC frame's effect (R117). -/
def State.pfcIn (s : State) (port : Nat) (b : Bytes) : State := s.pfcReceive port (beAt b 16 2 % 256) (pfcQuanta b)

/-- A frame goes to Trailhead; where Trailhead does not dispatch it is a mode drop (R38). -/
def State.toTrailhead (s : State) (port : Nat) (p : Packet) : State :=
  if s.dispatching then
    let k := s.nextId
    let s := s.newPkt p
    { s with parse := { s.parse with waiting := put s.parse.waiting port [] (look s.parse.waiting port [] ++ [k]) } }
  else s.rxDrop port 6

/-- A frame that passed its checks comes in (R127). -/
def State.frameIn (s : State) (port octets : Nat) (p : Packet) : State := (s.countRx port octets).toTrailhead port p

/-- A packet as its frame came in on a port: `domain` is the port's owner. -/
def State.rxPacket (s : State) (port : Nat) (bytes : Bytes) (stamp : Nat) : Packet :=
  { live := true, bytes := bytes, rxCycle := s.now / 6,
    desc := { ingress := port, length := bytes.length, domain := s.owner 1 port, stamp := s.rxStamp port stamp } }

end Sys2Proof.Machine
end

