-- ==== Sys2Proof/Machine/Egress.lean ====
section
/-! DEFINITION. How a frame leaves through the MAC of a port (05 R127; 12 R262; 19 R380, R385). -/

namespace Sys2Proof.Machine

/-- A frame of at least 60 bytes, padded with zeros (IEEE 802.3). -/
def pad60 (b : Bytes) : Bytes := b ++ List.replicate (60 - b.length) 0

/-- The FCS of a frame, inverted where it is stomped (R385). -/
def fcsOf (b : Bytes) (stomp : Bool) : Bytes := leBytes 4 (if stomp then 0xFFFFFFFF - crc32 b else crc32 b)

/-- Send a frame through the port cipher and the MAC, into the transmit buffer of an ELI port (R149); a port that is not UP sends no data
frame (R119). -/
def State.transmit (s : State) (port : Nat) (b : Bytes) (stomp : Bool) : State :=
  if (s.port port).state ≠ .up then s
  else match s.macsecTx port (pad60 b) stomp with
  | (s, none) => s
  | (s, some b) =>
    let x := s.port port
    let s := s.setPort port { x with counters := bump (bump x.counters 7 1) 8 (b.length + 4) }
    let s := if stomp then s.countCport port 6 else s
    if x.personality = .eli then s.eliPacket port (b ++ fcsOf b stomp) else s.emit (.frame port (b ++ fcsOf b stomp))

end Sys2Proof.Machine
end

