-- ==== Sys2Proof/Machine/Scout.lean ====
section
/-! DEFINITION. Scout: delivery, squash, fill, the alarm, and its commands (11_scout_speculation.md). -/

namespace Sys2Proof.Machine

/-! ### Running ahead (R241, R244–R250) -/

/-- Scout's answer at its instant (R241, R244): a hit writes the predicted bundle, takes the checkpoint and makes the
thread provisional; else the fields are written as they return (R239). -/
def State.scoutAnswer (s : State) (th : ThreadId) (hv : Bytes) : State :=
  let x := s.thread th
  let d := x.domain
  let c := th.cluster
  let t := s.tplOf x
  let x := { x with spec := { x.spec with due := none, probed := true } }
  let asm := assemble t x.got
  let miss (s : State) : State := s.setThread th (x.putBundle asm)
  if !x.spec.enabled || s.segsOf d = [] || !t.enabled || outerOnly hv then miss s
  else
    let s := s.countScout c d 0 1
    match s.findWay c d x.spec.sig x.spec.template with
    | none => miss s
    | some k =>
      let b := (s.sentry k).bundle
      let s := s.countScout c d 1 1
      let s := { s with scout := { s.scout with hits := bump s.scout.hits (c * 16 + d) 1 } }
      let ck : Checkpoint :=
        { pc := x.pc, regs := x.regs, mask := x.mask, watch := x.watch, timer := x.timer, issued := x.issued }
      let sp := { x.spec with found := some (b, k), prov := true, ckpt := some ck, compare := .open_ }
      (s.setThread th ({ x with spec := sp }.putBundle b)).noteCompare th

/-- SCOUT_DELIVER (R244). -/
def execScoutDeliver (t : Nat) (th : ThreadId) (s : State) : Host.Outcome State Fault Refusal :=
  let s := s.at_ t
  let x := s.thread th
  .next (match x.spec.due, x.pass with
    | some d, some k => if d ≤ s.now then ((s.scoutAnswer th (s.pkt k).hv).settle th).quietAt th.cluster else s
    | _, _ => s)

/-- SQUASH (R247). -/
def execSquash (t : Nat) (th : ThreadId) (s : State) : Host.Outcome State Fault Refusal :=
  let s := s.at_ t
  let x := s.thread th
  .next (match x.spec.compare with
    | .unequal _ _ => if x.spec.prov then (s.squash th).quietAt th.cluster else s
    | _ => s)

/-- The way of a set that is used least recently, an invalid one first (R241, R250). -/
def State.victim (s : State) (b : Nat) : Nat :=
  let age (k : Nat) : Nat := let e := s.sentry k; if e.valid then e.used + 1 else 0
  [b + 1, b + 2, b + 3].foldl (fun v k => if age k < age v then k else v) b

/-- A fill at the cache port (R250). -/
def State.applyFill (s : State) (c : Nat) (f : Fill) : State :=
  let e : SEntry := { valid := true, sig := f.sig, template := f.template, domain := f.domain, bundle := f.bundle }
  match s.setBase c f.domain f.sig with
  | none => s
  | some b =>
    let k := (s.findWay c f.domain f.sig f.template).getD (s.victim b)
    let evict := (s.findWay c f.domain f.sig f.template).isNone && (s.sentry k).valid
    let s := (s.countScout c f.domain 4 1).countScout c f.domain 6 (b2n evict)
    ((s.setSentry k e).touch k).countDomain f.domain 14

/-- SCOUT_FILL (R250). -/
def execScoutFill (t cluster : Nat) (s : State) : Host.Outcome State Fault Refusal :=
  let s := s.at_ t
  .next (match look s.scout.fills cluster [] with
    | [] => s
    | f :: l => ({ s with scout := { s.scout with fills := put s.scout.fills cluster [] l } }).applyFill cluster f)

/-- The alarm of one domain and cluster at the end of an interval (R253). -/
def State.alarm (k : Nat) (s : State) : State :=
  let c := k / 16
  let d := k % 16
  let a := (s.scoutDom d).alarm
  let h := look s.scout.hits k 0
  let q := look s.scout.squashes k 0
  if a ≠ 0 && 1000 ≤ h && h * a < q * 1000 then s.eventTo d 0x07F0 (d + 16 * c) (q * 1000 / h) else s

/-- SCOUT_ALARM_INTERVAL (R253): each 1 ms. -/
def execScoutAlarmInterval (t : Nat) (s : State) : Host.Outcome State Fault Refusal :=
  let s := s.at_ t
  .next (if s.now / ms 1 ≤ s.scout.interval then s
    else
      let s := each State.alarm (List.range 512) s
      { s with scout := { s.scout with hits := [], squashes := [], interval := s.now / ms 1 } })

/-! ### Commands -/

/-- Invalidate the entries of every cluster that `p` picks; where `counted` they count as removed (R251). -/
def State.scoutDrop (s : State) (counted : Bool) (p : Nat → SEntry → Bool) : State :=
  let gone := keepRows s.scout.cache p
  let s := { s with scout := { s.scout with cache := keepRows s.scout.cache fun k e => !p k e } }
  if counted then each (fun r s => State.countScout s (r.1 / 16384) r.2.domain 7 1) gone s else s

/-- The segment of a cache row. -/
def segOf (k : Nat) : Nat := k / 256 % 64

/-- Give a segment to a domain; a segment that moves loses its entries (R242). -/
def State.moveSegment (d : Nat) (g : Nat) (s : State) : State :=
  if s.segOwner g = d then s
  else ({ s with scout := { s.scout with segs := put s.scout.segs g 0 d } }).scoutDrop false fun k _ => segOf k = g

/-- SCOUT_PARTITION (R242). -/
def execScoutPartition (t : Nat) (c : Cmd) (s : State) : Host.Outcome State Fault Refusal :=
  let s := s.at_ t
  .next (s.command 0x0780 c .d0
    [at_ 16 (c.u8 16 < 16 && (s.domain (c.u8 16)).live), at_ 17 (c.u8 17 < 64),
     at_ 18 (1 ≤ c.u8 18 && c.u8 18 ≤ 64 && c.u8 17 + c.u8 18 ≤ 64), c.zeros 19 45]
    { s := each (State.moveSegment (c.u8 16)) ((List.range (c.u8 18)).map (c.u8 17 + ·)) s })

/-- SCOUT_CONFIG (R253). -/
def execScoutConfig (t : Nat) (c : Cmd) (s : State) : Host.Outcome State Fault Refusal :=
  let s := s.at_ t
  .next (s.command 0x0781 c .any
    [at_ 16 (c.u8 16 ≤ 1), at_ 17 (c.u8 17 ≤ 1), at_ 18 (c.u16 18 ≤ 1000), c.zeros 20 44]
    { s := { s with scout := { s.scout with doms := put s.scout.doms c.domain {}
                                              { enable := c.u8 16 = 1, fill := c.u8 17 = 1, alarm := c.u16 18 } } } })

/-- The sum of the first `n` extract lengths of a command. -/
def extractSum (c : Cmd) (n : Nat) : Nat := ((List.range n).map fun i => c.u8 (21 + 2 * i)).sum

/-- The checks of SCOUT_TEMPLATE (R236, R252). -/
def scoutTemplateErrs (c : Cmd) : List (Option Err) :=
  [at_ 16 (c.u8 16 < 32), at_ 17 (c.u8 17 ≤ 1), at_ 18 (c.u8 18 ≤ 8), c.zeros 19 1,
   firstOf (fun i => firstErr [at_ (20 + 2 * i) (c.u8 (20 + 2 * i) + c.u8 (21 + 2 * i) ≤ 256),
     at_ (21 + 2 * i) (1 ≤ c.u8 (21 + 2 * i) && c.u8 (21 + 2 * i) ≤ 16 && extractSum c (i + 1) ≤ 64)])
     (List.range (c.u8 18)),
   firstOf (fun f => firstErr [at_ (36 + 2 * f) (c.u8 (36 + 2 * f) < 8 || c.u8 (36 + 2 * f) = 0xFF),
     at_ (37 + 2 * f) (c.u8 (36 + 2 * f) = 0xFF || c.u8 (37 + 2 * f) + (fieldPlace f).1 ≤ 64)]) (List.range 4),
   c.zeros 44 20]

/-- The template of a command. -/
def cmdTemplate (c : Cmd) : Template :=
  { enabled := c.u8 17 = 1, extracts := (List.range (c.u8 18)).map fun i => (c.u8 (20 + 2 * i), c.u8 (21 + 2 * i)),
    fields := (List.range 4).map fun f =>
      (if c.u8 (36 + 2 * f) = 0xFF then 0 else c.u8 (36 + 2 * f) + 1, c.u8 (37 + 2 * f)) }

/-- SCOUT_TEMPLATE (R251, R252): an enabled template loses its entries first. -/
def execScoutTemplate (t : Nat) (c : Cmd) (s : State) : Host.Outcome State Fault Refusal :=
  let s := s.at_ t
  let k := c.u8 16
  let s1 := if (s.template c.domain k).enabled then
      s.scoutDrop true fun _ e => e.domain = c.domain && e.template = k
    else s
  .next (s.command 0x0782 c .any (s.busyErr c :: scoutTemplateErrs c)
    { s := { s1 with scout := { s1.scout with templates := put s1.scout.templates (c.domain * 32 + k) {} (cmdTemplate c) } } })

/-- An entry lies in the scope of a SCOUT_INVALIDATE (R251). -/
def inScope (c : Cmd) (e : SEntry) : Bool :=
  e.domain = c.domain && (match c.u8 16 with
    | 0 => true
    | 1 => e.template = c.u8 17
    | 2 => e.sig = c.u64 24
    | _ => e.bundle / 2 ^ 52 % 128 = c.u8 17)

/-- SCOUT_INVALIDATE (R251). -/
def execScoutInvalidate (t : Nat) (c : Cmd) (s : State) : Host.Outcome State Fault Refusal :=
  let s := s.at_ t
  .next (s.command 0x0783 c .any
    [s.busyErr c, at_ 16 (c.u8 16 ≤ 3), if c.u8 16 = 1 then at_ 17 (c.u8 17 < 32) else if c.u8 16 = 3 then s.ownErr c 1 (c.u8 17) else none,
     c.zeros 18 6, c.zeros 32 32]
    { s := s.scoutDrop true fun _ e => inScope c e })

/-- The SCOUT_STATS counters of a domain in a cluster, or over all. -/
def State.scoutStats (s : State) (cl d : Nat) : Bytes :=
  (List.range 8).flatMap fun i => leBytes 8 (if cl = 0xFF then
      ((List.range 32).map fun c => look s.scout.stats ((c * 16 + d) * 8 + i) 0).sum
    else look s.scout.stats ((cl * 16 + d) * 8 + i) 0)

/-- SCOUT_STATS (R252). -/
def execScoutStats (t : Nat) (c : Cmd) (s : State) : Host.Outcome State Fault Refusal :=
  let s := s.at_ t
  let cl := c.u8 16
  let mine (k : Nat) : Bool := k / 8 % 16 = c.domain && (cl = 0xFF || k / 128 = cl)
  .next (s.command 0x0784 c .any
    [c.needReply, at_ 16 (cl < 32 || cl = 0xFF), at_ 17 (c.u8 17 ≤ 1), c.zeros 18 46,
     need (cl = 0xFF || s.healthy 4 cl) { status := .hwFault, detail := s.seqOf 4 cl }]
    { s := if c.u8 17 = 1 then
          { s with scout := { s.scout with stats := keepRows s.scout.stats fun k _ => !mine k } }
        else s,
      result := 64, long := s.scoutStats cl c.domain })

end Sys2Proof.Machine
end

