-- ==== Sys2Proof/Machine/Firmware.lean ====
section
/-! DEFINITION. Images, delivery, handover, trials, stored configuration (24_firmware_update.md), and the loading of a
forwarding profile (10 R234, R235). -/

namespace Sys2Proof.Machine

/-! ### Images and slots (R448–R451) -/

/-- A slot: image type 1 firmware or 2 profile, slot 0 or 1. -/
def State.slot (s : State) (ty n : Nat) : Slot := look s.fw.slots (2 * (ty - 1) + n) {}
/-- Set a slot. -/
def State.setSlot (s : State) (ty n : Nat) (x : Slot) : State :=
  { s with fw := { s.fw with slots := put s.fw.slots (2 * (ty - 1) + n) {} x } }
/-- The primary slot of a type. -/
def State.primary (s : State) (ty : Nat) : Nat := look s.fw.primary ty 0
/-- The running slot of a type. -/
def State.running (s : State) (ty : Nat) : Nat := look s.fw.running ty 0
/-- The rollback floor of a type (R449). -/
def State.floor (s : State) (ty : Nat) : Nat := max (look s.fw.floors ty 0) (Config.fusedFloor ty).toNat

/-- The header of an image as its bytes spell it, with what its signatures say (24, Usfold header). -/
def imageOf (b : Bytes) : Image :=
  { magicOk := slice b 0 4 = [0x55, 0x53, 0x46, 0x44], format := byteAt b 4, imageType := byteAt b 5, part := leAt b 8 2,
    stepping := byteAt b 10, binding := byteAt b 11, unitId := leAt b 16 8, version := leAt b 24 4, security := byteAt b 28,
    signer := byteAt b 29, configFormat := leAt b 30 2, minConfigFormat := leAt b 32 2, ucodeInterface := leAt b 34 2,
    payloadLength := leAt b 36 4, signaturesOk := Config.imageSigned (slice b 0 8192), hashOk := true }

/-- The payload hashes to header bytes 40–87 (R448). -/
def payloadOk (b : Bytes) : Bool := sha384 (b.drop 8192) = slice b 40 48

/-- The payload of a profile image keeps the limits of R234: its bundles, its tables and their entry sizes, and threads that exist. -/
def profileFits (payload : Bytes) : Bool :=
  decide (Config.profileBundles payload ≤ 65536) && decide ((Config.profileLayout payload).length ≤ 64) &&
    ((Config.profileLayout payload).all fun l => decide (8 ≤ l.1) && decide (l.1 ≤ 64) && decide (l.1 % 8 = 0)) &&
    ((Config.profileResidents payload).all fun r => decide (r.1 < 16) && decide (r.2.1 < 16) && decide (r.2.2 < 65536))

/-- The longest payload of a type. -/
def maxPayload (ty : Nat) : Nat := if ty = 1 then 67100672 else 8380416

/-- The checks of an image's header (R448): what a delivery of a type answers. -/
def State.imageErr (s : State) (ty : Nat) (i : Image) : Option Err :=
  firstErr [
    need (i.format = 1) { status := .version },
    need (i.magicOk && i.signaturesOk && 1 ≤ i.payloadLength && i.payloadLength ≤ maxPayload ty) (refusedWith 1),
    need (i.part = 0x5140 && i.stepping = 0xB0 && i.imageType = ty && (i.binding = 0 || i.unitId = Config.unitId.toNat)) (refusedWith 2),
    need (s.floor ty ≤ i.security) (refusedWith 3),
    need (ty = 1 || Config.ucodeSupported i.ucodeInterface) { status := .version }]

/-- The boot error code of an image; 0 for one that is accepted (R46, R448). -/
def State.bootCode (s : State) (i : Option Image) : Nat :=
  match i with
  | none => 2
  | some i =>
    if !i.magicOk || i.format ≠ 1 then 2
    else if !i.signaturesOk || !i.hashOk then 3
    else if i.part ≠ 0x5140 || i.stepping ≠ 0xB0 || i.imageType ≠ 1 then 4
    else if i.binding ≠ 0 && i.unitId ≠ Config.unitId.toNat then 5
    else if i.security < s.floor 1 then 6
    else 0

/-- Set DEV_STATUS.boot_error. -/
def State.bootError (s : State) (e : Nat) : State := { s with dev := { s.dev with bootError := e } }

/-- A host image has failed (R34, R46): in SAFE its code replaces boot_error. A header that no code of R46 fits, its lengths being wrong, is
taken for no image header. DESIGN CHOICE, log entry 124. -/
def State.hostImageFails (s : State) (e : Nat) : State :=
  if s.dev.mode = .safe && s.dev.straps.bootMode % 4 ≠ 3 then s.bootError (if e = 0 then 2 else e) else s

/-- The slot that a delivery of a type writes (R452): neither running nor primary; none while a trial runs. -/
def State.target (s : State) (ty : Nat) : Option Nat :=
  if (look s.fw.trials ty { slot := 0, deadline := none }) ≠ { slot := 0, deadline := none } || s.running ty ≠ s.primary ty then none
  else some (1 - s.running ty)

/-- Post FW_DELIVERY. -/
def State.deliveryEvent (s : State) (ty : Nat) (ok : Bool) (session : Nat) : State := s.eventTo 0 0x12F0 (ty + 16 * b2n ok) session

/-! ### Start of an image (R44, R45) -/

/-- Boot the image of a firmware slot: firmware starts and the mode becomes CALIBRATE; the records of the flash decide topology
and principal (R43), and a heartbeat timeout of theirs runs from now (R96). boot_error reads 0 again, also where it held the failure of
the flash: the spec does not say what becomes of it. DESIGN CHOICE, log entry 124. -/
def State.startImage (s : State) (n : Nat) (i : Image) : State :=
  let d := { s.dev with bootError := 0, bootDone := true, topology := (s.fw.topoRecord).getD s.dev.topology,
                        topoSource := s.fw.topoRecord.isSome, principalSource := s.fw.prov.isSome }
  let f := { s.fw with running := put s.fw.running 1 0 n, version := i.version, config := i.configFormat,
                       minConfig := i.minConfigFormat }
  let m := match s.fw.prov with
    | some p => { s.dom with principal := p.principal % 4, timeoutMs := p.timeoutMs, successors := p.successors, provisioned := p.key, beat := s.now,
                             domains := put s.dom.domains 0 {} { s.domain 0 with live := true, host := some (p.principal % 4) } }
    | none => s.dom
  ({ s with dev := d, fw := f, dom := m }).setMode .calibrate

/-! ### Delivery (R452–R455) -/

/-- The number of a session and how much of it is committed; 0 for any other session. -/
def State.committedOf (s : State) (session : Nat) : Nat :=
  match s.fw.delivery with
  | some d => if d.session = session then d.committed else 0
  | none => 0

/-- The checks of a chunk of a session (R452, R453): `src` is the in-band port it comes by, none for the host; `off` its offset,
`at_` and `lenAt` where INVALID_PARAM points. -/
def State.chunkErrs (s : State) (ty session off len : Nat) (src : Option Nat) (offAt lenAt : Nat) : List (Option Err) :=
  let busy : Err := { status := .busy }
  match s.fw.delivery with
  | none =>
    [Sys2Proof.at_ offAt (off = 0), need (s.fw.handover = none) busy, need ((s.target ty).isSome) busy,
     Sys2Proof.at_ lenAt (8192 ≤ len)]
  | some d =>
    [need (d.session = session && d.port = src && d.imageType = ty) busy, Sys2Proof.at_ offAt (off = d.committed && (off ≠ 0 || d.chunk = none)),
     need (d.chunk = none && !d.verifying) busy,
     Sys2Proof.at_ lenAt (1 ≤ len && (off ≠ 0 || 8192 ≤ len) && (d.total = 0 || d.committed + len ≤ d.total))]

/-- A chunk that passed its checks: the first opens the session and is verified before it is written. -/
def State.takeChunk (s : State) (ty session : Nat) (src : Option Nat) (b : Bytes) (c : Option Cmd) (macs : Bytes) : State :=
  match s.fw.delivery with
  | none =>
    match s.target ty with
    | none => s
    | some n =>
      let d : Delivery := { session := session, imageType := ty, port := src, data := [], committed := 0, total := 0,
                            verifying := true, chunk := some b, cmd := c, macs := macs }
      (s.setSlot ty n { state := .receiving }) |> fun s => { s with fw := { s.fw with delivery := some d } }
  | some d =>
    { s with fw := { s.fw with delivery := some { d with chunk := some b, cmd := c, macs := macs, verifying := d.committed = 0 } } }

/-- The in-band reply (R455): the MAC addresses swapped. -/
def inbandReply (macs : Bytes) (op status session committed : Nat) : Bytes :=
  slice macs 6 6 ++ slice macs 0 6 ++ beBytes 2 0x88B5 ++ [0x55, 0x46] ++ beBytes 1 (op ||| 0x80) ++ beBytes 1 status ++
    beBytes 4 session ++ beBytes 4 committed ++ beBytes 4 0

/-- Answer a chunk by the way it came. -/
def State.answerChunk (s : State) (d : Delivery) (st : Status) (detail : Nat) : State :=
  let n := s.committedOf d.session
  let s := match d.cmd with
    | some c => s.answer c st detail n []
    | none => s
  match d.port with
  | some p => if d.macs = [] then s else s.transmit p (inbandReply d.macs 1 st.code d.session n) false
  | none => s

/-- Close the session, its slot in a state. -/
def State.closeDelivery (s : State) (d : Delivery) (x : Slot) : State :=
  let n := match (List.range 2).find? fun n => (s.slot d.imageType n).state = .receiving with
    | some n => n
    | none => 1 - s.running d.imageType
  { s.setSlot d.imageType n x with fw := { (s.setSlot d.imageType n x).fw with delivery := none } }

/-- FW_HEADER_VERIFIED (R453): the header and signatures of the opening chunk; a header that fails closes the session. -/
def execFwHeaderVerified (t : Nat) (s : State) : Host.Outcome State Fault Refusal :=
  let s := s.at_ t
  .next (match s.fw.delivery with
    | none => s
    | some d =>
      match d.chunk with
      | none => s
      | some b =>
        if !d.verifying then s
        else
          let i := imageOf b
          match s.imageErr d.imageType i with
          | some e => ((s.answerChunk d e.status e.detail).closeDelivery d {}).hostImageFails (s.bootCode (some i))
          | none =>
            let total := 8192 + i.payloadLength
            if total < b.length then ((s.answerChunk d .invalidParam (0x01000000 + 24)).closeDelivery d {}).hostImageFails 2
            else { s with fw := { s.fw with delivery := some { d with verifying := false, total := total } } })

/-- FW_CHUNK_WRITTEN (R453, R454): the journal records the committed count; the last chunk completes the session, and in SAFE
starts the image. -/
def execFwChunkWritten (t : Nat) (s : State) : Host.Outcome State Fault Refusal :=
  let s := s.at_ t
  .next (match s.fw.delivery with
    | none => s
    | some d =>
      match d.chunk with
      | none => s
      | some b =>
        if d.verifying then s
        else
          let d1 := { d with data := d.data ++ b, committed := d.committed + b.length, chunk := none }
          let s := { s with fw := { s.fw with delivery := some d1 } }
          if d1.committed < d1.total then (s.answerChunk d1 .ok 0)
          else
            let ok := payloadOk d1.data && (d.imageType ≠ 2 || profileFits (d1.data.drop 8192))
            let i := imageOf d1.data
            let n := match (List.range 2).find? fun n => (s.slot d.imageType n).state = .receiving with
              | some n => n
              | none => 1 - s.running d.imageType
            let s := s.answerChunk d1 (if ok then .ok else .refused) (if ok then 0 else 1)
            let s := s.closeDelivery d1 (if ok then { state := .verified, image := some i, payload := d1.data } else {})
            let s := s.deliveryEvent d.imageType ok d.session
            if !ok then s.hostImageFails 3
            else if s.dev.mode = .safe && s.dev.straps.bootMode % 4 ≠ 3 then
              ({ s with dev := { s.dev with startOrigin := s.now } }).startImage n i
            else s)

/-- FW_DELIVER (R453): op 0 is a chunk, result the committed count; op 1 aborts the open session, whoever opened it. -/
def execFwDeliver (t : Nat) (c : Cmd) (b : BufRead) (s : State) : Host.Outcome State Fault Refusal :=
  let s := s.at_ t
  let ty := c.u8 28
  let n := c.u32 36
  let own := need (c.host = s.dom.principal) denied
  .next (if c.u8 29 = 1 then
      s.command 0x1200 c .d0
        [own, at_ 28 (ty = 1 || ty = 2), c.zeros 30 2, c.zeros 40 24,
         at_ 36 (match s.fw.delivery with
          | some d => d.session = n && d.imageType = ty
          | none => false), need (match s.fw.delivery with
          | some d => d.chunk = none
          | none => true) { status := .busy }]
        { s := match s.fw.delivery with
            | some d => s.closeDelivery d {}
            | none => s }
    else
      s.command 0x1200 c .d0
        ([own, c.bufferErr, at_ 28 (ty = 1 || ty = 2), at_ 29 (c.u8 29 = 0), c.zeros 30 2, c.zeros 40 24] ++
          s.chunkErrs ty n (c.u32 32) (c.u32 24) none 32 24 ++ [b.err])
        { s := s.takeChunk ty n none (b.bytes c) (some c) [], later := true } (s.committedOf n))

/-- An in-band frame that Basecamp takes (R455). -/
def State.inbandTake (s : State) (port : Nat) (b : Bytes) : State :=
  let macs := b.take 12
  let op := byteAt b 16
  let ty := byteAt b 17
  let n := beAt b 18 4
  let off := beAt b 22 4
  let len := beAt b 26 2
  let reply (st : Status) (s : State) : State := s.transmit port (inbandReply macs op st.code n (s.committedOf n)) false
  if op = 2 then reply .ok s
  else if op ≠ 1 then s
  else
    let last := match s.fw.delivery with
      | some d => d.total ≠ 0 && d.committed + len = d.total
      | none => false
    let errs := [need ((ty = 1 || ty = 2) && 1 ≤ len && len ≤ 8192 && len + 34 ≤ (s.port port).cfg.maxFrame && 30 + len ≤ b.length &&
      (len % 64 = 0 || last)) (badField 12)] ++ s.chunkErrs ty n off len (some port) 8 12
    match firstErr errs with
    | some e => reply e.status s
    | none => s.takeChunk ty n (some port) (slice b 30 len) none macs

/-- A frame is an in-band delivery frame of a port that FW_INBAND names (R455). -/
def State.isInband (s : State) (port : Nat) (b : Bytes) : Bool :=
  bit s.fw.inband port && beAt b 12 2 = 0x88B5 && beAt b 14 2 = 0x5546

/-- A port passes at most 10,000 in-band frames a second (R455). -/
def State.inband (s : State) (port : Nat) (b : Bytes) : State :=
  let now := s.now / ms 1000
  let r := look s.fw.inbandRate port (0, 0)
  let n := if r.1 = now then r.2 else 0
  if 10000 ≤ n then { s with fw := { s.fw with inbandDrops := bump s.fw.inbandDrops port 1 } }
  else ({ s with fw := { s.fw with inbandRate := put s.fw.inbandRate port (0, 0) (now, n + 1) } }).inbandTake port b

/-- INBAND_FW_FRAME (R455). -/
def execInbandFwFrame (t port : Nat) (frame : Bytes) (s : State) : Host.Outcome State Fault Refusal :=
  let s := s.at_ t
  .next (if (s.port port).state = .up && s.isInband port frame && s.dev.mode ≠ .safe && s.dev.mode ≠ .calibrate then
      s.inband port frame
    else s)

/-! ### Forwarding profiles (R234, R235, R458) -/

/-- What an image declares (R234). -/
def imageProfile (s : State) (b : Bytes) : Profile :=
  let i := imageOf b
  { seq := (match s.eng.active with
      | some p => p.seq
      | none => 0) + 1, version := i.version, security := i.security, image := b, residents := Config.profileResidents (b.drop 8192),
    doorbell := Config.profileDoorbell (b.drop 8192), layout := Config.profileLayout (b.drop 8192) }

/-- A cluster takes a profile (R214, R242): it resets, its resident threads start, its Scout cache is invalid. -/
def State.loadCluster (p : Profile) (c : Nat) (s : State) : State :=
  let s := s.resetCluster c
  let s := each (fun th s => State.setThread s th {}) (s.threadsOf c) s
  let s := each (fun (r : Nat × Nat × Nat) s =>
    State.setThread s { cluster := c, engine := r.1, thread := r.2.1 } { resident := true, entry := r.2.2 }) p.residents s
  let s := (s.setCluster c { s.cluster c with profile := p.seq }).startResidents c
  s.scoutDrop false fun k _ => k / 16384 = c

/-- The profile tables after a profile is taken (R235): kept where the layout stays, else all 0. -/
def State.takeTables (s : State) (p : Profile) (fresh : Bool) : State :=
  let same := match s.eng.active with
    | some q => q.layout = p.layout
    | none => false
  { s with eng := { s.eng with active := some p, tables := if same && !fresh then s.eng.tables else [] } }

/-- A profile is activated in STANDBY on every healthy cluster (R234, R235). -/
def State.activateProfile (s : State) (p : Profile) : State :=
  each (State.loadCluster p) ((List.range 32).filter fun c => s.healthy 4 c) (s.takeTables p true)

/-- The checks of ENG_PROFILE_LOAD (R175, R234). -/
def profileErrs (c : Cmd) (b : BufRead) (s : State) : List (Option Err) :=
  let last := bit (c.u8 36) 0
  let off := c.u32 32
  let whole := (if off = 0 then [] else s.eng.staged) ++ b.bytes c
  let i := imageOf whole
  [need (c.host = s.dom.principal) denied, s.busyErr c, c.bufferErr, c.zeros 28 4, at_ 32 (off = 0 || off = s.eng.staged.length),
   at_ 36 (c.u8 36 ≤ 1), c.zeros 37 27,
   need (match s.fw.delivery with
    | some d => d.imageType ≠ 2
    | none => true) { status := .busy },
   need (s.fw.handover = none || (!last && (s.target 2).isSome)) (if last then { status := .wrongMode } else { status := .busy }),
   need (s.target 2).isSome { status := .busy }, b.err] ++
  (if last then
    [need (i.format = 1) { status := .version },
     need (i.magicOk && i.signaturesOk && i.part = 0x5140 && i.stepping = 0xB0 && i.imageType = 2 &&
       (i.binding = 0 || i.unitId = Config.unitId.toNat) && s.floor 2 ≤ i.security && i.payloadLength ≤ maxPayload 2 &&
       whole.length = 8192 + i.payloadLength && payloadOk whole) (refusedWith 1),
     need (Config.ucodeSupported i.ucodeInterface) { status := .version },
     need (profileFits (whole.drop 8192)) (badBuffer 8192)]
  else [])

/-- ENG_PROFILE_LOAD (R234): the last chunk verifies the image; in STANDBY it activates it. -/
def execEngProfileLoad (t : Nat) (c : Cmd) (b : BufRead) (s : State) : Host.Outcome State Fault Refusal :=
  let s := s.at_ t
  let whole := (if c.u32 32 = 0 then [] else s.eng.staged) ++ b.bytes c
  let put_ (l : Bytes) (s : State) : State := { s with eng := { s.eng with staged := l } }
  let n := (s.target 2).getD 0
  let p := imageProfile s whole
  let done :=
    if bit (c.u8 36) 0 then
      let s := (put_ [] s).setSlot 2 n { state := .verified, image := some (imageOf whole), payload := whole }
      if s.dev.mode = .standby then
        let s := s.activateProfile p
        let s := s.setSlot 2 n { s.slot 2 n with state := .trial }
        { s with fw := { s.fw with running := put s.fw.running 2 0 n,
                                   trials := put s.fw.trials 2 { slot := 0, deadline := none } { slot := n, deadline := none } } }
      else { s with eng := { s.eng with ready := some p } }
    else (put_ whole s).setSlot 2 n { state := .receiving }
  .next (s.command 0x0700 c .d0 (profileErrs c b s) { s := done, result := if bit (c.u8 36) 0 then 0 else whole.length })

/-! ### Handover (R456–R459) -/

/-- The layout of the profile in a slot differs from the running one (R458). -/
def State.layoutDiffers (s : State) (n : Nat) : Bool :=
  match s.eng.active with
  | some p => p.layout ≠ Config.profileLayout ((s.slot 2 n).payload.drop 8192)
  | none => true

/-- Steer an entry of a healthy cluster to another, which the spec leaves free, with the hold of R159. -/
def State.steerPlanned (c i : Nat) (s : State) : State :=
  let l := (List.range 32).filter fun k => s.healthy 4 k && k ≠ c
  if s.steer i ≠ c then s
  else
    match l[Config.freeValue s.free % l.length]? with
    | none => s
    | some k => s.drawn.moveSteer i k true

/-- Steer a cluster's entries away before its swap (R458, R159), noting them. -/
def State.beginSwap (s : State) (h : Handover) (c : Nat) : State :=
  let es := (List.range 1024).filter fun i => s.steer i = c
  let s := each (State.steerPlanned c) es s
  { s with fw := { s.fw with handover := some { h with phase := 4, cluster := c, entries := es } } }

/-- The healthy cluster of the lowest number from `c` on. -/
def State.clusterFrom (s : State) (c : Nat) : Option Nat := (List.range 32).find? fun k => c ≤ k && s.healthy 4 k

/-- A firmware image's configuration format meets the stored copies (R461): the copy taken, or none. -/
def State.bestCopy (s : State) : Option (Nat × ConfCopy) :=
  (s.fw.copies.filter fun r => r.2.crcOk && s.fw.minConfig ≤ r.2.format && r.2.format ≤ s.fw.config).foldl (fun best r =>
    match best with
    | some q => if q.2.seq < r.2.seq then some r else some q
    | none => some r) none

/-- The format that FW_CONFIG reports where no copy qualifies: that of the newest copy whose CRC is good; 0 with none. -/
def State.formatFound (s : State) : Nat :=
  (((s.fw.copies.filter fun r => r.2.crcOk).map fun r => (r.2.seq, r.2.format)).foldl
    (fun best x => if best.1 ≤ x.1 then x else best) (0, 0)).2

/-- Firmware starts (R461): the copy with the highest sequence that qualifies is migrated where its format is older. -/
def State.configStart (s : State) : State :=
  match s.bestCopy with
  | none => ({ s with dev := { s.dev with flashConfig := false } }).eventTo 0 0x12F2 0 s.formatFound
  | some (k, x) =>
    if x.format < s.fw.config then
      let y := { x with format := s.fw.config, seq := x.seq + 1 }
      ({ s with fw := { s.fw with copies := insertRow (drop s.fw.copies (1 - k)) (1 - k) y } }).eventTo 0 0x12F2 1 x.format
    else s

/-- The mode that a handover leaves for (R34). -/
def State.leaveHandover (s : State) (h : Handover) : State :=
  s.setMode (if h.fromStandby then .standby else if s.anyOut then .degraded else .service)

/-- A handover completes: its slot runs, on trial or, on a rollback, as the committed image (R456, R460). -/
def State.completeHandover (s : State) (h : Handover) : State :=
  let ty := h.imageType
  let old := s.running ty
  let x := s.slot ty h.slot
  let v := match x.image with
    | some i => i.version
    | none => 0
  let s := if h.rollback then
      let s := if (s.slot ty old).state = .trial then s.setSlot ty old { s.slot ty old with state := .verified } else s
      { s with fw := { s.fw with trials := drop s.fw.trials ty, primary := put s.fw.primary ty 0 h.slot } }
    else
      let tr : Trial := { slot := h.slot, deadline := if h.commitS = 0 then none else some (s.now + ms (1000 * h.commitS)) }
      let s := s.setSlot ty h.slot { x with state := .trial }
      { s with fw := { s.fw with trials := insertRow (drop s.fw.trials ty) ty tr } }
  let s := { s with fw := { s.fw with handover := none, running := put s.fw.running ty 0 h.slot } }.releasePloam
  let s := match ty, x.image with
    | 1, some i => ({ s with fw := { s.fw with version := i.version, config := i.configFormat, minConfig := i.minConfigFormat } }).configStart
    | _, _ => s
  let s := s.eventTo 0 0x12F1 (ty + 16 * (if h.expired then 3 else if h.rollback then 2 else 1)) v
  let s := s.leaveHandover h
  match h.cmd with
  | some c => s.answer c .ok 0 0 []
  | none => s

/-- Begin a handover (R456): the mode becomes HANDOVER; a profile's clusters are swapped from the lowest on (R458). -/
def State.beginHandover (s : State) (h : Handover) : State :=
  let s := ({ s with fw := { s.fw with handover := some h } }).setMode .handover
  if h.imageType = 1 then s
  else
    let p := imageProfile s (s.slot 2 h.slot).payload
    let s := { s with eng := { s.eng with ready := some p } }
    match s.clusterFrom 0 with
    | some c => s.beginSwap h c
    | none => (s.takeTables p false).completeHandover h

/-- HANDOVER_QUIESCED (R456): started firmware-path commands are complete, the record is written, the switch window opens. -/
def execHandoverQuiesced (t : Nat) (s : State) : Host.Outcome State Fault Refusal :=
  let s := s.at_ t
  .next (match s.fw.handover with
    | some h => if h.imageType = 1 && h.phase < 3 then { s with fw := { s.fw with handover := some { h with phase := 3 } } } else s
    | none => s)

/-- FW_HANDOVER (R456): the new firmware reports healthy and the window closes. -/
def execFwHandover (t : Nat) (s : State) : Host.Outcome State Fault Refusal :=
  let s := s.at_ t
  .next (match s.fw.handover with
    | some h => if h.imageType = 1 && h.phase = 3 then s.completeHandover h else s
    | none => s)

/-- HANDOVER_HEALTH_TIMEOUT (R457): the old firmware resumes and the slot is BAD. -/
def execHandoverHealthTimeout (t : Nat) (s : State) : Host.Outcome State Fault Refusal :=
  let s := s.at_ t
  .next (match s.fw.handover with
    | some h => if h.imageType = 1 && h.phase = 3 then (s.abandonHandover .bad).leaveHandover h else s
    | none => s)

/-- A cluster holds no pass. -/
def State.clusterIdle (s : State) (c : Nat) : Bool :=
  !(s.eng.threads.any fun r => r.1 / 256 = c && r.2.pass.isSome) && s.clusterQueue c false = [] && s.clusterQueue c true = [] &&
    !(s.pkts.any fun r => r.2.inPass && r.2.cluster = c && !r.2.committed)

/-- PROFILE_CLUSTER_SWAP (R458): the cluster has finished its passes; it loads the profile, resets, and its entries return; the
next healthy cluster follows, and after the last the handover completes. -/
def execProfileClusterSwap (t cluster : Nat) (s : State) : Host.Outcome State Fault Refusal :=
  let s := s.at_ t
  .next (match s.fw.handover, s.eng.ready with
    | some h, some p =>
      if h.imageType ≠ 2 || h.phase ≠ 4 || h.cluster ≠ cluster then s
      else if s.healthy 4 cluster && !s.clusterIdle cluster then s
      else
        let s := if s.healthy 4 cluster then
            each (fun i s => State.moveSteer s i cluster true) h.entries (State.loadCluster p cluster s) else s
        match s.clusterFrom (cluster + 1) with
        | some c => s.beginSwap { h with entries := [] } c
        | none => ({ s.takeTables p false with eng := { (s.takeTables p false).eng with ready := none } }).completeHandover h
    | _, _ => s)

/-- The checks that FW_ACTIVATE and FW_ROLLBACK share. -/
def handoverErrs (s : State) (c : Cmd) (n : Option Nat) : List (Option Err) :=
  let ty := c.u8 16
  let x := s.slot ty (n.getD 0)
  let sec := match x.image with
    | some i => i.security
    | none => 0
  [need (s.fw.handover = none && !s.dev.hold.any fun h => h.mode.isSome) { status := .busy }, at_ 16 n.isSome,
   need (s.floor ty ≤ sec) (refusedWith 3),
   need (ty = 1 || s.dev.mode = .standby || !s.layoutDiffers (n.getD 0)) (refusedWith 4)]

/-- A handover that a command starts. -/
def handoverOf (s : State) (c : Cmd) (n commit : Nat) (back : Bool) : Handover :=
  { cmd := some c, imageType := c.u8 16, slot := n, phase := 1, cluster := 0, since := s.now, fromStandby := s.dev.mode = .standby,
    commitS := commit, rollback := back, expired := false }

/-- FW_ACTIVATE (R456): the reply is a later row's, or the handover's own where no cluster has to be swapped. -/
def execFwActivate (t : Nat) (c : Cmd) (s : State) : Host.Outcome State Fault Refusal :=
  let s := s.at_ t
  let ty := c.u8 16
  let n := (List.range 2).find? fun n => (s.slot ty n).state = .verified
  let h := handoverOf s c (n.getD 0) (c.u32 20) false
  .next (s.command 0x1202 c .d0
    ([need (c.host = s.dom.principal) denied, at_ 16 (ty = 1 || ty = 2), c.zeros 17 3, at_ 20 (c.u32 20 ≤ 86400), c.zeros 24 40] ++
      handoverErrs s c n)
    { s := (s.keepWorking c).beginHandover h, later := true })

/-- FW_ROLLBACK (R460): a handover to the other GOOD slot. -/
def execFwRollback (t : Nat) (c : Cmd) (s : State) : Host.Outcome State Fault Refusal :=
  let s := s.at_ t
  let ty := c.u8 16
  let n := if (s.slot ty (1 - s.running ty)).state = .good then some (1 - s.running ty) else none
  let h := handoverOf s c (n.getD 0) 0 true
  .next (s.command 0x1204 c .d0
    ([need (c.host = s.dom.principal) denied, at_ 16 (ty = 1 || ty = 2), c.zeros 17 47] ++ handoverErrs s c n)
    { s := (s.keepWorking c).beginHandover h, later := true })

/-- TRIAL_EXPIRE (R36, R460): a trial that is not committed in time rolls back by itself, once no other change of mode is in progress. -/
def execTrialExpire (t imageType : Nat) (s : State) : Host.Outcome State Fault Refusal :=
  let s := s.at_ t
  let n := 1 - s.running imageType
  .next (match s.fw.trials.find? fun r => r.1 = imageType with
    | some (_, { slot := _, deadline := some d }) =>
      let m := s.dev.mode
      if s.now < d || s.fw.handover ≠ none || s.dev.hold.any (fun h => h.mode.isSome) || (s.slot imageType n).state ≠ .good ||
        !(m = .standby || m = .service || m = .degraded) then s
      else s.beginHandover { cmd := none, imageType := imageType, slot := n, phase := 1, cluster := 0, since := s.now,
                             fromStandby := m = .standby, commitS := 0, rollback := true, expired := true }
    | _ => s)

/-- FW_COMMIT (R460). -/
def execFwCommit (t : Nat) (c : Cmd) (s : State) : Host.Outcome State Fault Refusal :=
  let s := s.at_ t
  let ty := c.u8 16
  let n := (List.range 2).find? fun n => (s.slot ty n).state = .trial
  let k := n.getD 0
  let s1 := s.setSlot ty k { s.slot ty k with state := .good }
  .next (s.command 0x1203 c .d0
    [need (c.host = s.dom.principal) denied, at_ 16 (ty = 1 || ty = 2), c.zeros 17 47, need (s.fw.handover = none) { status := .busy },
     at_ 16 n.isSome]
    { s := { s1 with fw := { s1.fw with primary := put s1.fw.primary ty 0 k, trials := drop s1.fw.trials ty } } })

/-- FW_FLOOR (R449): the floor rises to at most the security_version of the running committed image. -/
def execFwFloor (t : Nat) (c : Cmd) (s : State) : Host.Outcome State Fault Refusal :=
  let s := s.at_ t
  let ty := c.u8 16
  let x := s.slot ty (s.running ty)
  let top := match x.image with
    | some i => if x.state = .good then i.security + 1 else 0
    | none => 0
  .next (s.command 0x1205 c .d0
    [need (c.host = s.dom.principal) denied, at_ 16 (ty = 1 || ty = 2), at_ 17 (s.floor ty ≤ c.u8 17), c.zeros 18 46,
     need (c.u8 17 < top) (refusedWith 5)]
    { s := { s with fw := { s.fw with floors := put s.fw.floors ty 0 (c.u8 17) } } })

/-- FW_INBAND (R455). -/
def execFwInband (t : Nat) (c : Cmd) (s : State) : Host.Outcome State Fault Refusal :=
  let s := s.at_ t
  .next (s.command 0x1206 c .d0 [need (c.host = s.dom.principal) denied, c.zeros 32 32]
    { s := { s with fw := { s.fw with inband := c.field 16 16 } } })

/-- The configuration in force, as a stored copy holds it (R461). -/
def State.confNow (s : State) : Conf :=
  { ports := s.ports.port, lanes := s.ports.lane, parsePorts := s.parse.ports, graph := s.parse.graph,
    pools := s.buf.pools, accounts := s.buf.accounts, masks := (s.dram.map fun r => (r.1, r.2.masks)).filter fun r => r.2 ≠ [] }

/-- One more than the sequence number of stored copy k, 0 where the copy does not hold. -/
def State.copySeq (s : State) (k : Nat) : Nat :=
  match s.fw.copies.find? fun r => r.1 == k && r.2.crcOk with
  | some r => r.2.seq + 1
  | none => 0

/-- FW_CONFIG_SAVE (R461): over the older copy. -/
def execFwConfigSave (t : Nat) (c : Cmd) (s : State) : Host.Outcome State Fault Refusal :=
  let s := s.at_ t
  let k : Nat := if s.copySeq 0 ≤ s.copySeq 1 then 0 else 1
  let x : ConfCopy := { format := s.fw.config, seq := max (s.copySeq 0) (s.copySeq 1), crcOk := true, conf := s.confNow }
  .next (s.command 0x1207 c .d0 [need (c.host = s.dom.principal) denied, c.zeros 16 48]
    { s := { s with fw := { s.fw with copies := insertRow (drop s.fw.copies k) k x } } })

/-! ### Status (24 FW_STATUS, FW_SLOTS) -/

/-- SlotState's code (R451). -/
def SlotState.code : SlotState → Nat
  | .empty => 0
  | .receiving => 1
  | .verified => 2
  | .trial => 3
  | .good => 4
  | .bad => 5

/-- The four slots, firmware first. -/
def State.slots (s : State) : List Slot := [s.slot 1 0, s.slot 1 1, s.slot 2 0, s.slot 2 1]

/-- Seconds left of a trial. -/
def State.trialLeft (s : State) : Nat :=
  match s.fw.trials.filterMap fun r => r.2.deadline with
  | [] => 0
  | d :: _ => (d - s.now + ms 1000 - 1) / ms 1000

/-- FW_STATUS. -/
def execFwStatus (t : Nat) (c : Cmd) (s : State) : Host.Outcome State Fault Refusal :=
  let s := s.at_ t
  let f (g : Image → Nat) (x : Slot) : Nat := match x.image with
    | some i => g i
    | none => 0
  let d := match s.fw.delivery with
    | some d => leBytes 1 (if d.port.isSome then 2 else 1) ++ leBytes 1 (d.port.getD 0) ++ leBytes 4 d.session ++ leBytes 4 d.committed ++
        leBytes 4 d.total
    | none => leBytes 14 0
  .next (s.command 0x1201 c .d0 [need (c.host = s.dom.principal) denied, c.needReply, c.zeros 16 48]
    { s := s, result := 64,
      long := (s.slots.flatMap fun x => leBytes 1 x.state.code) ++ (s.slots.flatMap fun x => leBytes 4 (f (fun i => i.version) x)) ++
        (s.slots.flatMap fun x => leBytes 1 (f (fun i => i.security) x)) ++ leBytes 1 (s.floor 1) ++ leBytes 1 (s.floor 2) ++ d ++
        leBytes 4 s.trialLeft ++ leBytes 20 0 })

end Sys2Proof.Machine
end

