-- ==== Sys2Proof/Machine/Dram.lean ====
section
/-! DEFINITION. DRAM controllers: arbitration, refresh, row disturbance, errors, operating points, failure, and their commands
(21_dram.md). -/

namespace Sys2Proof.Machine

/-- A stack. -/
def State.stack (s : State) (n : Nat) : Stack := look s.dram n {}
/-- Set a stack. -/
def State.setStack (s : State) (n : Nat) (x : Stack) : State := { s with dram := put s.dram n {} x }
/-- A pseudo-channel of a stack (R408): channel times 2 and the pseudo-channel. -/
def Stack.pc (x : Stack) (k : Nat) : Pseudo := look x.pcs k {}
/-- Set a pseudo-channel. -/
def Stack.setPc (x : Stack) (k : Nat) (q : Pseudo) : Stack := { x with pcs := put x.pcs k {} q }
/-- act_limit in force (R422). -/
def Stack.actLimit (x : Stack) : Nat := if x.actLess = 0 then 16384 else x.actLess - 1
/-- throttle_us in force (R422). -/
def Stack.throttleUs (x : Stack) : Nat := if x.throttleLess = 0 then 1000 else x.throttleLess - 1
/-- DRAM_STATUS.state's code. -/
def State.stackCode (s : State) (n : Nat) : Nat :=
  if s.isOut 9 n then 4
  else match (s.stack n).state with
    | .training => 0
    | .active => 1
    | .selfRefresh => 2
    | .changing => 3

/-- Ask for the accesses that move a far cell (R269, R411): 64 bytes each. -/
def State.cellAccess (s : State) (a packet : Nat) : State :=
  if !isFar a then s
  else
    let p := s.farPage (pageOf a)
    each (fun i s => State.dramReq s p.stack (p.slot * 2 ^ 26 + a % 2 ^ 18 * 256 + 64 * i) 64 true 8 (some a) packet)
      (List.range 4) s

/-! ### Errors (R423) -/

/-- An ECC error: counted and logged, and DRAM_ECC for the first of its kind in a second of device time. -/
def State.eccError (s : State) (n : Nat) (e : EccError) : State :=
  let x := s.stack n
  let recent (t : Nat) : Bool := s.now < t + ms 1000
  let un := x.uncorrAt.filter recent
  let co := x.corrAt.filter fun r => recent r.2
  let before := if e.uncorrectable then un.length else co.length
  let sec := s.now / ms 1000 + 1
  let posted := if e.uncorrectable then x.uncorrPosted else x.corrPosted
  let y := { x with logValid := true, logUncorr := e.uncorrectable, logAt := (e.channel, e.pc, e.bank, e.row) }
  let y := if e.uncorrectable then
      { y with
        uncorrected := min (y.uncorrected + 1) 0xFFFFFFFF, rcUncorr := min (y.rcUncorr + 1) 0xFFFF,
        uncorrMark := y.uncorrMark.note s.kclk y.rcUncorr, uncorrAt := un ++ [s.now], uncorrPosted := sec }
    else
      { y with
        corrected := min (y.corrected + 1) 0xFFFFFFFF, rcCorr := min (y.rcCorr + 1) 0xFFFF,
        corrMark := y.corrMark.note s.kclk y.rcCorr, corrAt := co ++ [(e.channel, s.now)], corrPosted := sec }
  let s := (s.setStack n y).count (3016 + 8 * n + (if e.uncorrectable then 5 else 4)) 1
  if posted ≠ sec then s.eventTo 0 0x0FF1 (n + 256 * b2n e.uncorrectable) (before + 1) else s

/-- An uncorrectable error of a far-cell read (R423): the packet is dropped, the cell freed, and BUF_ERROR kind 4 posted. -/
def State.cellError (s : State) (a packet : Nat) : State :=
  let s := s.bufError 4 a
  match packet with
  | 0 => s
  | k + 1 => if (s.pkt k).live then s.dropPkt k else s

/-! ### Row disturbance (R422) -/

/-- Put a row counter into a bank's list. -/
def putRow (r : RowCount) : List RowCount → List RowCount
  | [] => [r]
  | x :: l => if x.row = r.row then r :: l else x :: putRow r l

/-- The requester that activated a row most often. -/
def RowCount.top (r : RowCount) : Nat :=
  (r.by_.foldl (fun best x => if best.2 < x.2 then x else best) (0, 0)).1

/-- The activations of a row. -/
def RowCount.total (r : RowCount) : Nat := (r.by_.map fun x => x.2).sum

/-- The place of a best-effort requester's hold in a bank of a pseudo-channel (R422). -/
def holdKey (pc bank who : Nat) : Nat := (pc * 32 + bank) * 4 + who % 4

/-- A row reaches act_limit: its count resets, a best-effort top requester is held, and DRAM_ROW_DISTURB is posted. -/
def State.disturb (s : State) (n pc bank : Nat) (r : RowCount) : State :=
  let x := s.stack n
  let key := pc * 32 + bank
  let rt := r.top = 8
  let y := { x with rows := put x.rows key [] ((look x.rows key []).filter fun q => q.row ≠ r.row), disturbs := x.disturbs + 1,
                    throttled := if rt then x.throttled
                      else put x.throttled (holdKey pc bank r.top) (0, 0) (s.now + us x.throttleUs, s.now) }
  ((s.setStack n y).count (3016 + 8 * n + 3) 1).eventTo 0 0x0FF2
    (n + 16 * (pc / 2) + 512 * (pc % 2) + 1024 * bank + 32768 * b2n rt) r.row

/-- An access activates its row (R412, R422). With 16 other rows counted in the bank, which of them gives way is free. -/
def State.activate (s : State) (n pc : Nat) (q : DramReq) : State :=
  let x := s.stack n
  let key := pc * 32 + q.bank
  let l := look x.rows key []
  let who := if q.rt then 8 else q.requester
  let full := 16 ≤ l.length && !l.any fun r => r.row = q.row
  let f := Config.freeValue s.free % 17
  let s := if full then s.drawn else s
  if full && f = 16 then s
  else
    let l := if full then l.eraseIdx f else l
    let r := match l.find? fun r => r.row = q.row with
      | some r => r
      | none => { row := q.row, by_ := [] }
    let r := { r with by_ := put r.by_ who 0 (look r.by_ who 0 + 1) }
    let s := s.setStack n { x with rows := put x.rows key [] (putRow r l) }
    if x.actLimit ≤ r.total then s.disturb n pc q.bank r else s

/-! ### Arbitration (R411–R414) -/

/-- A best-effort requester is held in a bank (R422): one activation per 400 ns. -/
def State.heldBack (s : State) (n pc : Nat) (q : DramReq) : Bool :=
  let h := look (s.stack n).throttled (holdKey pc q.bank q.requester) (0, 0)
  s.now < h.1 && s.now < h.2 + ns 400

/-- The requester whose turn it is among those that wait (R411): lookups take two turns a round. -/
def Pseudo.nextBe (p : Pseudo) (waits : Nat → Bool) : Option Nat :=
  if p.lastBe = 0 && p.turns = 1 && waits 0 then some 0
  else ([1, 2, 3, 0].map fun i => (p.lastBe + i) % 4).find? waits

/-- What an access does when it is served. -/
def State.serveReq (s : State) (n pc : Nat) (q : DramReq) (err : Option EccError) : State :=
  let x := s.stack n
  let s := s.setStack n { x with spill := if q.rt then x.spill + q.bytes else x.spill }
  let s := (s.count (3016 + 8 * n + (if q.rt then 0 else 1)) 1).activate n pc q
  match err with
  | none => s
  | some e =>
    let s := s.eccError n e
    match q.cell with
    | some a => if e.uncorrectable && q.packet ≠ 0 then s.cellError a q.packet else s
    | none => s

/-- Serve one best-effort access; none where none may be served. -/
def State.serveBe (s : State) (n pc : Nat) (err : Option EccError) : Option State :=
  let x := s.stack n
  let p := x.pc pc
  let can (q : DramReq) : Bool := !q.rt && !s.heldBack n pc q
  match p.nextBe fun r => p.waiting.any fun q => can q && q.requester = r with
  | none => none
  | some r =>
    match p.waiting.find? fun q => can q && q.requester = r with
    | none => none
    | some q =>
      let p := { p with waiting := p.waiting.erase q, lastBe := r, turns := if p.lastBe = r then p.turns + 1 else 1,
                        beDone := (p.beDone.filter fun d => s.now < d.1 + us 1) ++ [(s.now, q.bytes)] }
      let y := x.setPc pc p
      let key := holdKey pc q.bank r
      let ends := (look y.throttled key (0, 0)).1
      let y := { y with throttled := if ends = 0 then y.throttled else put y.throttled key (0, 0) (ends, s.now) }
      some ((s.setStack n y).serveReq n pc q err)

/-- Serve up to `k` best-effort accesses; the error belongs to the first. -/
def serveBes (n pc : Nat) : Nat → Option EccError → State → State
  | 0, _, s => s
  | k + 1, err, s =>
    match s.serveBe n pc err with
    | none => s
    | some s => serveBes n pc k none s

/-- The best-effort share of a pseudo-channel in the last 1 µs lies below an eighth of its bandwidth (R411, R408). -/
def State.beLow (s : State) (n pc : Nat) : Bool :=
  let x := s.stack n
  8 * (((x.pc pc).beDone.filter fun d => s.now < d.1 + us 1).map fun d => d.2).sum < if x.economy then 16000 else 32000

/-- A bank whose postponed refresh is owed. -/
def Pseudo.owed (p : Pseudo) : Option (Nat × Nat) := p.postponed.head?

/-- A pseudo-channel with no real-time work repays one postponed refresh (R413). -/
def State.repay (s : State) (n pc : Nat) : State :=
  let p := (s.stack n).pc pc
  match p.owed with
  | some (b, c) =>
    if p.waiting.any fun q => q.rt then s
    else s.setStack n ((s.stack n).setPc pc { p with postponed := put p.postponed b 0 (c - 1) })
  | none => s

/-- What a pseudo-channel picks next (R411): a forced refresh; best-effort accesses below their share; the oldest real-time
burst; a best-effort access. -/
def State.arbitrate (s : State) (n pc : Nat) (err : Option EccError) : State :=
  let x := s.stack n
  let p := x.pc pc
  match p.forced with
  | _ :: l =>
    (s.setStack n { x.setPc pc { p with forced := l } with forcedCount := x.forcedCount + 1 }).count (3016 + 8 * n + 2) 1
  | [] =>
    let be := p.waiting.any fun q => !q.rt && !s.heldBack n pc q
    if be && s.beLow n pc then serveBes n pc 4 err s
    else
      match p.waiting.find? fun q => q.rt with
      | some q => (s.setStack n (x.setPc pc { p with waiting := p.waiting.erase q })).serveReq n pc q err
      | none => if be then serveBes n pc 1 err s else s

/-- DRAM_ARBITRATE (R411): `err` is the ECC error of the first access served. -/
def execDramArbitrate (t stack pc : Nat) (err : Option EccError) (s : State) : Host.Outcome State Fault Refusal :=
  let s := s.at_ t
  .next (if 10 ≤ stack || 64 ≤ pc || s.stackCode stack ≠ 1 then s else (s.repay stack pc).arbitrate stack pc err)

/-- DRAM_REFRESH_DUE (R413, R414). -/
def execDramRefreshDue (t stack pc bank : Nat) (s : State) : Host.Outcome State Fault Refusal :=
  let s := s.at_ t
  let x := s.stack stack
  let p := x.pc pc
  let c := look p.postponed bank 0
  .next (if 10 ≤ stack || 64 ≤ pc || 32 ≤ bank || s.stackCode stack ≠ 1 || !(p.waiting.any fun q => q.rt && q.bank = bank) then s
    else if c < 8 then
      s.setStack stack { x.setPc pc { p with postponed := put p.postponed bank 0 (c + 1) } with maxPost := max x.maxPost (c + 1) }
    else if p.forced.contains bank then s
    else s.setStack stack (x.setPc pc { p with forced := p.forced ++ [bank] }))

/-- DRAM_DISTURB_WINDOW (R422): the activation counters clear. -/
def execDramDisturbWindow (t stack : Nat) (s : State) : Host.Outcome State Fault Refusal :=
  let s := s.at_ t
  .next (if 10 ≤ stack then s else s.setStack stack { s.stack stack with rows := [] })

/-- DRAM_THROTTLE_EXPIRE (R422): the holds of the bank whose periods are over end. -/
def execDramThrottleExpire (t stack pc bank : Nat) (s : State) : Host.Outcome State Fault Refusal :=
  let s := s.at_ t
  let x := s.stack stack
  .next (s.setStack stack { x with throttled := x.throttled.filter fun r => !(r.1 / 4 = pc * 32 + bank && r.2.1 ≤ s.now) })

/-! ### Self-refresh and the operating point (R417–R420) -/

/-- Every postponed refresh is repaid. -/
def Stack.repaid (x : Stack) : Stack :=
  { x with pcs := (x.pcs.map fun r => (r.1, { r.2 with postponed := [], forced := [] })).filter fun r => r.2 ≠ {} }

/-- A stack has a request waiting. -/
def Stack.wanted (x : Stack) : Bool := x.pcs.any fun r => r.2.waiting != []

/-- DRAM_SELF_REFRESH_ENTER (R417). -/
def execDramSelfRefreshEnter (t stack : Nat) (s : State) : Host.Outcome State Fault Refusal :=
  let s := s.at_ t
  let x := s.stack stack
  .next (if 10 ≤ stack || s.stackCode stack ≠ 1 || x.idleUs = 0 || x.wanted || s.now < x.lastRequest + us x.idleUs then s
    else (s.setStack stack { x.repaid with state := .selfRefresh }).count (3016 + 8 * stack + 6) 1)

/-- DRAM_SELF_REFRESH_EXIT (R417): a request meets the stack. -/
def execDramSelfRefreshExit (t stack : Nat) (s : State) : Host.Outcome State Fault Refusal :=
  let s := s.at_ t
  let x := s.stack stack
  .next (if s.stackCode stack = 2 && x.wanted then s.setStack stack { x with state := .active } else s)

/-- DRAM_SPILL_INTERVAL (R420): a 1 ms interval of a T stack ends; only a stack in automatic mode counts toward economy. A
decision against the point that a running change goes to waits for its end (R419). -/
def execDramSpillInterval (t stack : Nat) (s : State) : Host.Outcome State Fault Refusal :=
  let s := s.at_ t
  let x := s.stack stack
  let n := if x.mode = 0 && x.spill < 102400000 then x.low + 1 else 0
  let economy := if x.state = .changing then x.goal else x.economy
  let due := if x.mode ≠ 0 then x.due
    else if economy then (if 409600000 ≤ x.spill then some false else x.due)
    else if 1000 ≤ n then some true else x.due
  .next (if stack < 4 || 10 ≤ stack || s.isOut 9 stack then s
    else s.setStack stack { x with lastSpill := x.spill, spill := 0, low := n, due := due })

/-- DRAM_OPPOINT_CHANGE (R28, R418, R419): a change that is due starts; the stack's far pointers are not granted meanwhile. -/
def execDramOppointChange (t stack : Nat) (s : State) : Host.Outcome State Fault Refusal :=
  let s := s.at_ t
  let x := s.stack stack
  .next (if stack < 4 || 10 ≤ stack || !(s.stackCode stack = 1 || s.stackCode stack = 2) then s
    else
      match x.due with
      | none => s
      | some p =>
        if p = x.economy then s.setStack stack { x with due := none }
        else s.setStack stack { x.repaid with state := .changing, due := none, goal := p, changeStart := s.now })

/-- DRAM_OPPOINT (R418, R420): the change completes, and the pointers set aside return. -/
def execDramOppoint (t stack : Nat) (s : State) : Host.Outcome State Fault Refusal :=
  let s := s.at_ t
  let x := s.stack stack
  .next (if 10 ≤ stack || s.stackCode stack ≠ 3 then s
    else
      let s := s.setStack stack { x with state := .active, economy := x.goal, low := 0 }
      let s := (s.count (3016 + 8 * stack + 6) 1).count (3016 + 8 * stack + 7) 1
      s.returnAside.eventTo 0 0x0FF3 (stack + 256 * b2n x.goal) ((s.now - x.changeStart) / ns 1))

/-! ### Errors found by the scrubber, failure (R423, R424) -/

/-- DRAM_PATROL_SCRUB (R423). -/
def execDramPatrolScrub (t stack : Nat) (err : Option EccError) (s : State) : Host.Outcome State Fault Refusal :=
  let s := s.at_ t
  .next (match err with
    | none => s
    | some e => if 10 ≤ stack || s.isOut 9 stack then s else s.eccError stack e)

/-- The owners of what a stack holds (R477): of the tables, trees and automaton sets for S0–S3, every domain for S4–S9. -/
def State.stackMask (s : State) (n : Nat) : Nat :=
  if 4 ≤ n then 0xFFFF
  else
    orMasks ((s.tables.tables.filter fun r => r.2.live && !r.2.sram).map fun r => 2 ^ s.tableOwner r.1)
      ||| orMasks ((s.parse.trees.filter fun r => r.2.live).map fun r => 2 ^ s.owner 3 r.2.partition)
      ||| orMasks ((s.parse.sets.filter fun r => r.2.live).map fun r => 2 ^ s.owner 3 r.2.partition)

/-- A cell lies in a far page of a stack. -/
def State.inStack (s : State) (n a : Nat) : Bool := isFar a && (s.farPage (pageOf a)).stack = n && !(s.farPage (pageOf a)).lost

/-- What the cells hold that `p` picks is lost (R269, R284). -/
def State.loseCells (s : State) (p : Nat → Bool) : State :=
  each (fun a s => State.setCell s a { s.cell a with lost := true }) ((s.buf.cells.filter fun r => r.2.used && p r.1).map fun r => r.1) s

/-- The packets with a cell that `p` picks. -/
def State.packetsIn (s : State) (p : Nat → Bool) : Nat := countRows s.pkts fun _ x => x.cells.any p

/-- A command that worked on a stack is answered. -/
def State.endStackWork (s : State) (n : Nat) (st : Status) (detail : Nat) : State :=
  match (s.stack n).work with
  | none => s
  | some (c, _) => (s.setStack n { s.stack n with work := none }).answer c st detail 0 []

/-- A stack is mapped out (R424, R425): the record, DRAM_FAULT, what its cells held, its copy of the far ring. -/
def State.stackOut (s : State) (n cause : Nat) (planned : Bool) : State :=
  if s.isOut 9 n then s
  else
    let lost := if planned then 0 else s.packetsIn (s.inStack n)
    let s := if planned then s else s.loseCells (s.inStack n)
    let s := s.setStack n { s.stack n with state := .active, pcs := [], rows := [], throttled := [], due := none }
    let s := s.mapOut 9 n cause (s.stackMask n) lost planned
    let s := s.eventTo 0 0x0FF0 (n + 256 + 4096 * cause) s.units.lastSeq
    let s := { s with buf := { s.buf with farCopies := s.buf.farCopies.erase n } }
    match (s.stack n).work with
    | some (_, true) => s.endStackWork n .ok 0
    | _ => s

/-- DRAM_STACK_FAIL (R424): more than 64 uncorrectable errors, or more than 1,024 correctable ones on a channel, within 1 s; a
PHY or temperature failure. A stack that is out and whose pages still move fails again (R436). -/
def execDramStackFail (t stack cause : Nat) (s : State) : Host.Outcome State Fault Refusal :=
  let s := s.at_ t
  let x := s.stack stack
  let recent (u : Nat) : Bool := s.now < u + ms 1000
  let holds := match cause with
    | 0 => decide (64 < (x.uncorrAt.filter recent).length)
    | 1 => (List.range 32).any fun c => decide (1024 < (x.corrAt.filter fun r => r.1 = c && recent r.2).length)
    | 2 => true
    | 3 => true
    | _ => false
  let moving := (List.range 1024).any fun p => (s.farPage p).stack = stack && !(s.farPage p).lost
  .next (if 10 ≤ stack || !holds then s
    else if s.isOut 9 stack then if moving then s.failAgain 9 stack cause (s.stackMask stack) else s
    else s.stackOut stack cause false)

/-- A stack returns to service after training and zeroing (R424): entries of unmirrored tables that were lost do not return;
where there is no copy of the far ring or only one, a copy is rebuilt by its own row. A stack that is held at 4.0 Gb/s is due
to change to it (R420). -/
def State.stackBack (s : State) (n : Nat) : State :=
  let clean (r : Nat × Table) (s : State) : State :=
    let x := r.2
    if !x.live || x.sram || x.mirror || x.kind < 2 then s
    else each (fun (e : Nat × TEntry) s => if e.2.valid && x.stackOf (e.1 / 4) = n then State.removeEntry s r.1 e.1 else s) x.entries s
  let s := if n < 4 then each clean s.tables.tables s else s
  let s := s.setStack n { s.stack n with state := .active, trained := true, zeroed := true, economy := false, low := 0, spill := 0,
                                         due := if (s.stack n).mode = 2 then some true else none, lastRequest := s.now }
  let s := s.bringBack 9 n (s.stackMask n) true
  (s.eventTo 0 0x0FF0 (n + 4096 * 5) s.units.lastSeq).returnAside

/-- FAR_PAGE_MOVE (R269, R425): a page of a stack that is mapped out, or whose planned map-out runs, goes to a spare slot of a
healthy stack, or is lost; when the last page has moved a planned map-out completes. -/
def execFarPageMove (t page : Nat) (s : State) : Host.Outcome State Fault Refusal :=
  let s := s.at_ t
  let x := s.farPage page
  let planned := match (s.stack x.stack).work with
    | some (_, true) => true
    | _ => false
  .next (if 1024 ≤ page || x.lost || !(s.isOut 9 x.stack || planned) then s
    else
      let s1 := match s.spareSlot x.stack with
        | some (k, i) => s.setPage page { stack := k, slot := i }
        | none => (s.loseCells fun a => isFar a && pageOf a = page).setPage page { x with lost := true }
      let s1 := s1.returnAside
      let left := (List.range 1024).any fun p => (s1.farPage p).stack = x.stack && !(s1.farPage p).lost
      if planned && !left then s1.stackOut x.stack 5 true else s1)

/-! ### Registers and commands -/

/-- DRAM_ERR_COUNT_READ (R423): the counts since the last read, cleared. -/
def execDramErrCountRead (t : Nat) (r : RegRead) (s : State) : Host.Outcome State Fault Refusal :=
  let s := s.at_ t
  let n := (r.addr - 0x02800000) / 0x40000
  let x := s.stack n
  let u := x.uncorrMark.seen s.kclk x.rcUncorr
  let k := x.corrMark.seen s.kclk x.rcCorr
  let v := 65536 * u + k
  .next (if r.addr < 0x02800000 || 10 ≤ n || !readHits r (0x02800008 + n * 0x40000) || !s.answers r.host then s
    else if s.holds r.host 0 then
      let s1 := s.emit (.read r.host (readPart r v))
      if readAligned r then s1.setStack n { x with
        rcUncorr := x.rcUncorr - u, rcCorr := x.rcCorr - k, uncorrMark := x.uncorrMark.cleared s.kclk, corrMark := x.corrMark.cleared s.kclk }
      else s1
    else s.emit (.read r.host 0))

/-- The DRAM_QUERY record; the temperature is what the stack reports, a free value. -/
def stackRecord (s : State) (n temp : Nat) : Bytes :=
  let x := s.stack n
  leBytes 1 (s.stackCode n) ++ leBytes 1 (b2n x.economy + 2 * x.mode) ++ leBytes 1 temp ++ leBytes 1 x.maxPost ++
    leBytes 4 (x.lastSpill / 1024) ++ leBytes 4 x.corrected ++ leBytes 4 x.uncorrected ++ leBytes 4 x.disturbs ++
    leBytes 4 x.forcedCount ++ leBytes 4 x.repaired ++ leBytes 4 x.idleUs ++ List.replicate 32 0

/-- DRAM_QUERY (R425). -/
def execDramQuery (t : Nat) (c : Cmd) (s : State) : Host.Outcome State Fault Refusal :=
  let s := s.at_ t
  let n := c.u8 16
  let s1 := (s.setStack n { s.stack n with maxPost := 0 }).drawn
  .next (s.command 0x0F00 c .d0 [c.needReply, at_ 16 (n < 10), c.zeros 17 47]
    { s := s1, result := 64, long := stackRecord s n (Config.freeValue s.free) })

/-- The stacks that a command names. -/
def stacksOf (n first : Nat) : List Nat := if n = 0xFF then (List.range (10 - first)).map fun i => first + i else [n]

/-- The checks of DRAM_MAP's masks. -/
def maskErrs (c : Cmd) : List (Option Err) := (List.range 11).map fun j => at_ (20 + 3 * j) (c.field (20 + 3 * j) 3 < 2 ^ 17)

/-- DRAM_MAP (R410): the masks wait for a data-plane reset. -/
def execDramMap (t : Nat) (c : Cmd) (s : State) : Host.Outcome State Fault Refusal :=
  let s := s.at_ t
  let m : Sparse Nat := (List.range 11).map fun j => (j, c.field (20 + 3 * j) 3 + 1)
  .next (s.command 0x0F01 c .d0
    ([at_ 16 (c.u8 16 < 10 || c.u8 16 = 0xFF), c.zeros 17 3] ++ maskErrs c ++ [c.zeros 53 11])
    { s := each (fun n s => State.setStack s n { s.stack n with pending := some m }) (stacksOf (c.u8 16) 0) s })

/-- DRAM_POWER (R417, R420). -/
def execDramPower (t : Nat) (c : Cmd) (s : State) : Host.Outcome State Fault Refusal :=
  let s := s.at_ t
  let m := c.u8 17
  let idle := c.u32 20
  let f (n : Nat) (s : State) : State :=
    let x := s.stack n
    s.setStack n { x with mode := m, idleUs := idle, due := if m = 1 then some false else if m = 2 then some true else x.due }
  .next (s.command 0x0F02 c .d0
    [at_ 16 (c.u8 16 < 10 || c.u8 16 = 0xFF), at_ 17 (m ≤ 2 && (m = 0 || 4 ≤ c.u8 16)), c.zeros 18 2,
     at_ 20 (idle = 0 || (2 ≤ idle && idle ≤ 1000000)), c.zeros 24 40]
    { s := each f (stacksOf (c.u8 16) (if m = 0 then 0 else 4)) s })

/-- The error counts of a pattern test, for the channels of the mask. -/
def patternCounts (mask : Nat) (counts : List Nat) : Bytes :=
  (List.range 32).flatMap fun i => leBytes 4 (if bit mask i then (counts[i]?).getD 0 else 0)

/-- A map-out of the stack would leave no healthy T stack while a pool has a far allotment (R425); a stack whose planned
map-out runs is as good as out. -/
def State.lastFarStack (s : State) (n : Nat) : Bool :=
  4 ≤ n && ((List.range 6).all fun i => 4 + i = n || s.isOut 9 (4 + i) || (s.stack (4 + i)).work.isSome) && s.buf.pools.any fun r => r.2.enabled && r.2.far ≠ 0

/-- A planned map-out of a stack begins (R425): a stack that holds far pages is out when they have moved. -/
def State.planStackOut (s : State) (n : Nat) (c : Cmd) : State × Bool :=
  if (List.range 1024).any fun p => (s.farPage p).stack = n && !(s.farPage p).lost then
    (s.setStack n { s.stack n with work := some (c, true) }, true)
  else (s.stackOut n 5 true, false)

/-- DRAM_TRAIN (R425): `counts` are the pattern test's error counts. -/
def execDramTrain (t : Nat) (c : Cmd) (counts : List Nat) (s : State) : Host.Outcome State Fault Refusal :=
  let s := s.at_ t
  let n := c.u8 16
  let op := c.u8 17
  let x := s.stack n
  let plan := s.planStackOut n c
  .next (s.command 0x0F03 c .d0
    [if op = 2 then c.needReply else none, at_ 16 (n < 10), at_ 17 (op ≤ 2), at_ 18 (op ≠ 2 || c.u8 18 ≤ 5), c.zeros 19 1, c.zeros 24 40,
     need x.work.isNone { status := .busy }, at_ 17 (if op = 1 then s.healthy 9 n else s.isOut 9 n),
     need (op ≠ 1 || !s.lastFarStack n) (refusedWith 1)]
    (match op with
      | 0 => { s := s.setStack n { x with work := some (c, false), state := .training, trained := false, zeroed := false }, later := true }
      | 1 => { s := plan.1, later := plan.2 }
      | _ => { s := s, result := 128, long := patternCounts (c.u32 20) counts }))

/-- DRAM_DISTURB (R422). -/
def execDramDisturb (t : Nat) (c : Cmd) (s : State) : Host.Outcome State Fault Refusal :=
  let s := s.at_ t
  let a := c.u16 20
  let h := c.u32 24
  let f (n : Nat) (s : State) : State :=
    s.setStack n { s.stack n with actLess := if a = 16384 then 0 else a + 1, throttleLess := if h = 1000 then 0 else h + 1 }
  .next (s.command 0x0F04 c .d0
    [at_ 16 (c.u8 16 < 10 || c.u8 16 = 0xFF), c.zeros 17 3, at_ 20 (1024 ≤ a), c.zeros 22 2, at_ 24 (10 ≤ h && h ≤ 100000), c.zeros 28 36]
    { s := each f (stacksOf (c.u8 16) 0) s })

end Sys2Proof.Machine
end

