-- ==== Sys2Proof/Machine/Pon.lean ====
section
/-! DEFINITION. PON trees: framing, bursts, ranging, rogue terminals, OMCI, and their commands (17_pon_trees.md). -/

namespace Sys2Proof.Machine

/-! ### Access -/

/-- A tree. -/
def State.ponTree (s : State) (t : Nat) : PonTree := look s.pon.trees t {}
/-- Set a tree. -/
def State.setPonTree (s : State) (t : Nat) (x : PonTree) : State :=
  { s with pon := { s.pon with trees := put s.pon.trees t {} x } }
/-- An ONU of a tree. -/
def State.onu (s : State) (t i : Nat) : Onu := look s.pon.onus (t * 256 + i) {}
/-- Set an ONU of a tree. -/
def State.setOnu (s : State) (t i : Nat) (x : Onu) : State :=
  { s with pon := { s.pon with onus := put s.pon.onus (t * 256 + i) {} x } }
/-- An XGEM entry. -/
def State.xgem (s : State) (e : Nat) : XgemEntry := look s.pon.xgems e {}
/-- Set an XGEM entry. -/
def State.setXgem (s : State) (e : Nat) (x : XgemEntry) : State :=
  { s with pon := { s.pon with xgems := put s.pon.xgems e {} x } }
/-- A grant entry. -/
def State.grantEntry (s : State) (e : Nat) : GrantEntry := look s.pon.entries e {}
/-- Set a grant entry. -/
def State.setGrantEntry (s : State) (e : Nat) (x : GrantEntry) : State :=
  { s with pon := { s.pon with entries := put s.pon.entries e {} x } }
/-- Count a PON_STATS event of a tree (the counters in R363's order, from 0). -/
def State.countPon (s : State) (t i n : Nat) : State := s.setPonTree t { s.ponTree t with stats := bump (s.ponTree t).stats i n }
/-- Count a GRANT_STATS event of a tree. -/
def State.countGrant (s : State) (t i n : Nat) : State :=
  s.setPonTree t { s.ponTree t with grantStats := bump (s.ponTree t).grantStats i n }

/-- The type of a tree (R113): that of its port. -/
def State.ponType (s : State) (t : Nat) : Nat :=
  match s.treePort t with
  | some p => (s.port p).ponType
  | none => 0

/-- The upstream rate of a type in kb/s (R345). -/
def upRate : Nat → Nat
  | 0 => 24883200
  | 1 => 12441600
  | 2 => 49766400
  | _ => 9953280

/-- `n` upstream bit-times in 2^−16 ns, to the nearest step (R354). -/
def bitTimes (type n : Nat) : Nat := (2 * n * 65536000000 + upRate type) / (2 * upRate type)

/-- A time in 2^−16 ns in whole upstream bit-times, to the nearest (R356). -/
def inBits (type : Nat) (v : Int) : Int := (2 * v * upRate type + 65536000000) / (2 * 65536000000)

/-- TIME in 2^−16 ns. -/
def State.time16 (s : State) : Nat := s.timeNow / 2 ^ 24

/-- The ONUs of a tree that are not EMPTY, by ascending index. -/
def State.onusOf (s : State) (t : Nat) : List (Nat × Onu) :=
  (s.pon.onus.filter fun r => r.1 / 256 = t && r.2.state ≠ .empty).map fun r => (r.1 % 256, r.2)

/-- PON_ONU_STATUS.state's code. -/
def OnuState.code : OnuState → Nat
  | .empty => 0
  | .provisioned => 1
  | .ranging => 2
  | .operational => 3
  | .lost => 4
  | .isolated => 5

/-- An ONU takes a state; PON_ONU_STATE is posted. -/
def State.moveOnu (s : State) (t i : Nat) (st : OnuState) : State :=
  let o := s.onu t i
  if o.state = st then s
  else (s.setOnu t i { o with state := st }).eventTo (s.owner 7 t) 0x0CF0 (t + 256 * i + 65536 * st.code) o.onuId

/-- rogue_limit of a tree (R364). -/
def PonTree.rogueLimit (x : PonTree) : Nat := if x.limitSet = 0 then 4 else x.limitSet - 1

/-- Post PON_ROGUE. -/
def State.rogueEvent (s : State) (t onu flags n : Nat) : State :=
  s.eventTo (s.owner 7 t) 0x0CF2 (t + 256 * onu + 65536 * flags) n

/-- The instants of a list within the last second. -/
def State.lastSecond (s : State) (l : List Nat) : List Nat := l.filter fun x => s.now < x + ms 1000

/-- PON_TREE_STATUS.los changes (R349). -/
def State.setLos (s : State) (t : Nat) (los : Bool) : State :=
  let x := s.ponTree t
  if x.los = los then s
  else (s.setPonTree t { x with los := los }).rogueEvent t 0xFF 8 (s.lastSecond x.energyTimes).length

/-- An ONU is isolated (R359). -/
def State.isolate (s : State) (t i flags n : Nat) : State :=
  let s := (s.moveOnu t i .isolated).countPon t 7 1
  (s.setOnu t i { s.onu t i with isolatedIn := (s.ponTree t).sfc }).rogueEvent t i flags n

/-- A rogue candidate charged to an ONU (R358–R360). -/
def State.attribute (s : State) (t i : Nat) : State :=
  let o := s.onu t i
  let l := s.lastSecond o.candidates ++ [s.now]
  let s := (s.setOnu t i { o with candidates := l }).countPon t 2 1
  let live := o.state = .ranging || o.state = .operational || o.state = .lost
  if l.length < (s.ponTree t).rogueLimit || !live then s
  else if (s.ponTree t).rogueManual then s.rogueEvent t i 1 l.length
  else (s.ploam t i 6 0).isolate t i 3 l.length

/-! ### Downstream frames (R350, R351) -/

/-- The channel of a tree can frame: enabled, its port up or in training, channel and lanes in service (R349). -/
def State.canFrame (s : State) (t : Nat) : Bool :=
  (s.ponTree t).enabled && s.healthy 0x0D t &&
    match s.treePort t with
    | some p => ((s.port p).state = .up || (s.port p).state = .training) && !s.laneDown p
    | none => false

/-- A tree frames (PON_TREE_STATUS.ds_framing). -/
def State.frames (s : State) (t : Nat) : Bool := (s.ponTree t).framing && s.canFrame t

/-- The burst profile of an ONU. -/
def State.profileOf (s : State) (t i : Nat) : BurstProfile := look (s.ponTree t).profiles (s.onu t i).profile {}
/-- guard_bits of a tree (R375). -/
def PonTree.guardBits (x : PonTree) : Nat := if x.guardLess = 0 then 64 else x.guardLess - 1
/-- grant_unit of a tree (R375). -/
def PonTree.grantUnit (x : PonTree) : Nat := if x.unitLess = 0 then 2048 else x.unitLess - 1

/-- The overhead bytes of a burst (R368). -/
def State.burstOverhead (s : State) (t i : Nat) : Nat :=
  let b := s.profileOf t i
  ((s.ponTree t).guardBits + b.preamble + b.delimiter + 7) / 8 + 16

/-- What a payload byte costs on the line (R368): numerator and denominator. -/
def State.lineRatio (s : State) (t i : Nat) : Nat × Nat :=
  if (s.profileOf t i).fec then (if s.ponType t = 3 then (248, 216) else (17280, 14592)) else (1, 1)
/-- The line bytes of a payload. -/
def State.lineBytes (s : State) (t i n : Nat) : Nat :=
  let r := s.lineRatio t i
  (n * r.1 + r.2 - 1) / r.2
/-- The largest payload whose line bytes fit. -/
def State.payloadFor (s : State) (t i n : Nat) : Nat := let r := s.lineRatio t i; n * r.2 / r.1

/-- The line bytes of a burst: a burst of PLOAM alone costs 64 (R366). -/
def State.burstLine (s : State) (t : Nat) (b : MapBurst) : Nat :=
  let n := (b.allocs.map fun a => s.lineBytes t b.onu a.2.2).sum
  if b.allocs.any fun a => a.1 = none then 64 + n else s.burstOverhead t b.onu + n

/-- Lay a map's bursts out from a line byte on (R369). -/
def State.placeBursts (s : State) (t : Nat) : List MapBurst → Nat → List MapBurst
  | [], _ => []
  | b :: l, at_ =>
    { b with start := at_, lead := (s.ponTree t).guardBits + (s.profileOf t b.onu).preamble } :: s.placeBursts t l (at_ + s.burstLine t b)

/-- The windows of R354 and the bandwidth map that a map's bursts give. -/
def layBursts (type frame base : Nat) : List MapBurst → Nat → List GrantWindow × List (Nat × Nat × Nat)
  | [], _ => ([], [])
  | b :: l, num =>
    let w : GrantWindow := { number := num, frame := frame, burst := b, expected := base + bitTimes type (8 * b.start + b.lead) }
    let r := layBursts type frame base l (num + 1)
    (w :: r.1, b.allocs.map (fun a => (a.2.1, b.start, a.2.2)) ++ r.2)

/-- Open the quiet window that a map reserves at its start (R355). The reference time of a window lies 2 × min_reach and the
34 µs of an ONU's least response before its opening. -/
def State.openQuiet (s : State) (t base : Nat) (m : GrantMap) : State :=
  let x := s.ponTree t
  if m.quiet = 0 then s
  else
    let open_ := (base, base + bitTimes (s.ponType t) (8 * m.quiet), m.quietFor)
    let x := { x with quiet := x.quiet ++ [open_] }
    let x := if m.quietNew then
        { x with quietRef := base - (2 * x.minKm * 4900 + 34000) * 65536,
                 lastDiscovery := if m.quietFor = none then s.now else x.lastDiscovery } else x
    let s := s.setPonTree t x
    match m.quietFor with
    | some i => if m.quietNew then s.setOnu t i { s.onu t i with attempts := (s.onu t i).attempts + 1 } else s
    | none => s

/-- A frame carries its map (R350): windows open, and the bandwidth map goes out. -/
def State.useMap (s : State) (t : Nat) (m : GrantMap) : State :=
  let x := s.ponTree t
  let base := x.frameTime / 2 ^ 24 + x.teqd * 65536
  let r := layBursts (s.ponType t) x.sfc base m.bursts x.nextWindow
  let s := s.setPonTree t { x with windows := x.windows ++ r.1, nextWindow := x.nextWindow + m.bursts.length }
  (s.openQuiet t base m).emit (.map t r.2)

/-- An ONU's change of the downstream key index takes effect at a due frame with SFC ≡ 0 mod 8 (R363). -/
def State.switchOnu (t i : Nat) (s : State) : State :=
  let o := s.onu t i
  match o.switch with
  | some (c, k, some due) =>
    if due ≤ (s.ponTree t).sfc then (s.setOnu t i { o with active := k - 1, switch := none }).answer c .ok 0 0 [] else s
  | _ => s

/-- The broadcast key's change likewise. -/
def State.switchBcast (t : Nat) (s : State) : State :=
  let x := s.ponTree t
  match x.bcastSwitch with
  | some (c, k, some due) =>
    if due ≤ x.sfc then (s.setPonTree t { x with bcastActive := k - 1, bcastSwitch := none }).answer c .ok 0 0 [] else s
  | _ => s

/-- An ONU can answer a Key_Control exchange: it is granted bursts. -/
def OnuState.answers (st : OnuState) : Bool := st = .ranging || st = .operational

/-- Key_Control exchanges whose ONU has answered, or can no longer answer, are complete (R363). -/
def State.settleKeys (s : State) (t : Nat) : State :=
  let f (i : Nat) (s : State) : State :=
    let o := s.onu t i
    match o.switch with
    | some (c, k, none) =>
      if o.state.answers && (s.ponTree t).ploam.contains i then s
      else s.setOnu t i { o with switch := some (c, k, some ((s.ponTree t).sfc + 8)) }
    | _ => s
  let s := each f ((s.onusOf t).map fun r => r.1) s
  let x := s.ponTree t
  match x.bcastSwitch with
  | some (c, k, none) =>
    if x.bcastWait.any fun i => (s.onu t i).state.answers && x.ploam.contains i then s
    else s.setPonTree t { x with bcastSwitch := some (c, k, some (x.sfc + 8)), bcastWait := [] }
  | _ => s

/-- The lowest OPERATIONAL or LOST ONU from an index on (R359). -/
def State.nextSuspect (s : State) (t from_ : Nat) : Option Nat :=
  ((s.onusOf t).find? fun r => from_ ≤ r.1 && (r.2.state = .operational || r.2.state = .lost)).map fun r => r.1

/-- Test the next ONU of a search, or end the search with nothing found (R359). -/
def State.searchFrom (s : State) (t from_ : Nat) : State :=
  let x := s.ponTree t
  match s.nextSuspect t from_ with
  | some i => (s.setPonTree t { x with search := some (i, x.sfc + 2, false) }).ploam t i 6 0
  | none => (s.setPonTree t { x with search := none, energyRun := 0 }).rogueEvent t 0xFF 4 (s.lastSecond x.energyTimes).length

/-- The frame that ends held unattributed candidates or not (R358, R359). -/
def State.endEnergy (s : State) (t : Nat) : State :=
  let x := s.ponTree t
  let run := if x.energyNow then x.energyRun + 1 else 0
  let s := s.setPonTree t { x with energy := x.energyNow, energyNow := false, energyRun := run }
  if run = 0 || run % 8 ≠ 0 then s
  else if x.rogueManual then s.rogueEvent t 0xFF 0 (s.lastSecond x.energyTimes).length
  else if x.search = none then s.searchFrom t 0
  else s

/-- PON_DS_FRAME (R350, R351, R363): the next downstream frame of a tree, with the map ready for it; where none is ready the
map is empty and GRANT_LATE counts (R367). -/
def execPonDsFrame (t tree : Nat) (s : State) : Host.Outcome State Fault Refusal :=
  let s := s.at_ t
  .next (if 48 ≤ tree || !s.canFrame tree then s
    else
      let x := s.ponTree tree
      let n := x.sfc + 1
      let mine := x.maps.filter fun m => m.frame ≤ n
      let late := mine.filter fun m => m.frame = n && !m.ready
      let back := late.filterMap fun m => if m.quiet ≠ 0 && m.quietNew then m.quietFor else none
      let s := s.setPonTree tree { x with
        framing := true, sfc := n, frameTime := s.timeNow, maps := x.maps.filter (fun m => n < m.frame),
        rangeDue := back ++ x.rangeDue, quiet := x.quiet.filter (fun q => s.time16 < q.2.1) }
      let s := s.endEnergy tree
      let s := match mine.find? fun m => m.frame = n && m.ready with
        | some m => if s.sending then s.useMap tree m else s.emit (.map tree [])
        | none => (s.countGrant tree 3 1).emit (.map tree [])
      let s := s.settleKeys tree
      let s := if n % 8 = 0 then
          (each (State.switchOnu tree) ((s.onusOf tree).map fun r => r.1) s).switchBcast tree else s
      let out := (s.ponTree tree).omciOut
      each (fun m s => State.emit s (.omci tree m.1 m.2)) out (s.setPonTree tree { s.ponTree tree with omciOut := [] }))

/-! ### Bursts (R353, R354) -/

/-- A delimiter falls in a grant's window (R354). -/
def GrantWindow.holds (w : GrantWindow) (type arrival : Nat) : Bool :=
  w.expected ≤ arrival + bitTimes type 8 && arrival < w.expected + bitTimes type 32

/-- The number of a window before another of the same expected arrival does not matter: the earlier expected arrival takes
the burst. -/
def earliest : List GrantWindow → Option GrantWindow
  | [] => none
  | w :: l =>
    match earliest l with
    | none => some w
    | some v => if v.expected < w.expected then some v else some w

/-- The last window of a frame has gone: the frame saw an accepted burst or it did not (R349). -/
def State.frameDone (s : State) (t f : Nat) : State :=
  let x := s.ponTree t
  if x.windows.any fun w => w.frame = f then s
  else if x.heard = some f then s.setPonTree t { x with silent := 0 }
  else
    let n := if x.silentFrame + 1 = f then x.silent + 1 else 1
    let s := s.setPonTree t { x with silent := n, silentFrame := f }
    if 3 ≤ n then s.setLos t true else s

/-- A grant entry is still the one that a computed map granted (R374). -/
def GrantEntry.bound (x : GrantEntry) (t allocId : Nat) : Bool := x.live && decide (x.tree = t) && decide (x.allocId = allocId)

/-- A window closes without its burst: the grant counts a missed burst (R354), and 8 in a row make the ONU LOST (R357). -/
def State.missWindow (t : Nat) (w : GrantWindow) (s : State) : State :=
  let x := s.ponTree t
  let s := (s.setPonTree t { x with windows := x.windows.filter fun v => v.number ≠ w.number }).countPon t 1 1
  let s := each (fun (a : Option Nat × Nat × Nat) (s : State) => match a.1 with
    | some e => if (s.grantEntry e).bound t a.2.1 then
        s.setGrantEntry e { s.grantEntry e with missed := (s.grantEntry e).missed + 1 } else s
    | none => s) w.burst.allocs s
  let o := s.onu t w.burst.onu
  let s := s.setOnu t w.burst.onu { o with missed := o.missed + 1 }
  let s := if 8 ≤ o.missed + 1 && o.state = .operational then s.moveOnu t w.burst.onu .lost else s
  s.frameDone t w.frame

/-- The ONU of a tree with an ONU-ID. -/
def State.onuById (s : State) (t id : Nat) : Option Nat := ((s.onusOf t).find? fun r => r.2.onuId = id).map fun r => r.1

/-- A burst that is not accepted (R354): discarded, and a candidate where its header names an ONU of the tree (R358). -/
def State.rejectBurst (s : State) (t : Nat) (b : Burst) : State :=
  match b.onuId with
  | none => s
  | some id =>
    match s.onuById t id with
    | some i => s.attribute t i
    | none => s

/-- Send Ranging_Time with an equalisation delay (R356, R357), in upstream bit-times, and record it. -/
def State.sendEqd (s : State) (t i : Nat) (v : Int) : State :=
  let n := (inBits (s.ponType t) v).toNat
  let o := s.onu t i
  let s := s.setOnu t i { o with eqd := bitTimes (s.ponType t) n, rangeSent := true, offsets := [] }
  let x := s.ponTree t
  (s.setPonTree t { x with ploam := if x.ploam.contains i then x.ploam else x.ploam ++ [i] }).ploam t i 4 n

/-- An ONU answers in its ranging window (R356). -/
def State.measure (s : State) (t i arrival : Nat) : State :=
  let x := s.ponTree t
  s.sendEqd t i ((x.teqd * 65536 : Int) - ((arrival : Int) - x.quietRef))

/-- The mean delimiter offset in 2^−16 ns over the last 8 accepted bursts (R357); none before there are 8. -/
def Onu.mean (o : Onu) : Option Int := if o.offsets.length < 8 then none else some (o.offsets.sum / 8)

/-- The drift of an ONU is followed (R357). -/
def State.drift (s : State) (t i : Nat) (off : Int) : State :=
  let o := s.onu t i
  let o := { o with offsets := (off :: o.offsets).take 8 }
  let s := s.setOnu t i o
  match o.mean with
  | some m => if 8 * bitTimes (s.ponType t) 4 < o.offsets.sum.natAbs then s.sendEqd t i ((o.eqd : Int) - m) else s
  | none => s

/-- The upstream tag (17, PON tag). -/
def ponTag (decrypted : Bool) (portId onuId alloc : Nat) : Bytes :=
  beBytes 1 0x5C ++ beBytes 1 (0x40 + b2n decrypted) ++ beBytes 2 portId ++ beBytes 2 (onuId % 1024) ++ beBytes 2 (alloc % 16384)

/-- The key that an index of an ONU's XGEM header names (R363). -/
def State.onuKey (s : State) (t i index : Nat) : Option Nat :=
  let o := s.onu t i
  match if index = 1 then o.key1 else if index = 2 then o.key2 else 0 with
  | 0 => none
  | n + 1 => if (look s.dom.keys n {}).kind ≠ 0 then some (look s.dom.keys n {}).key else none

/-- A core of the group of a tree is in service (R363, R386). -/
def State.ponCores (s : State) (t : Nat) : Bool := (List.range 10).any fun i => s.healthy 0x0C (72 + 10 * (t / 8) + i)

/-- The XGEM entry of a port ID on a tree. -/
def State.xgemOf (s : State) (t portId : Nat) : Option XgemEntry :=
  (s.pon.xgems.find? fun r => r.2.live && r.2.tree = t && r.2.portId = portId).map fun r => r.2

/-- One XGEM frame of an accepted burst (R352, R353, R363); one that no core can decrypt is dropped (R386). The frame's offset in its
burst is free. -/
def State.xgemIn (t i alloc arrival : Nat) (g : Xgem) (s : State) : State :=
  let o := s.onu t i
  let key := s.onuKey t i g.keyIndex
  let omcc := match s.xgemOf t g.portId with
    | some e => bit e.flags 2
    | none => false
  if !g.codewordOk || omcc then s
  else if g.keyIndex ≠ 0 && (key.isNone || !s.ponCores t) then s.countPon t 5 1
  else
    let body := match key with
      | some k => if g.keyIndex = 0 then g.frame else (g.frame.zip (List.range g.frame.length)).map fun r =>
          r.1 ^^^ Config.ponStream k (s.ponTree t).sfc g.portId r.2
      | none => g.frame
    match s.treePort t with
    | none => s
    | some port =>
      let stamp := (arrival + Config.freeValue s.free) * 2 ^ 24
      let s := s.drawn
      match (s.port port).rxErr (body.length + 4) g.fcsOk false with
      | some n => s.rxDrop port n
      | none =>
        if isPfc body then s.pfcIn port body
        else s.frameIn port (body.length + 4)
          { s.rxPacket port (ponTag (g.keyIndex ≠ 0) g.portId o.onuId alloc ++ body) stamp with burst := arrival + 1 }

/-- The frames of a burst, until a header check fails (R353). -/
def State.xgemsIn (t i alloc arrival : Nat) : List Xgem → State → State × Bool
  | [], s => (s, true)
  | g :: l, s => if !g.headerOk then (s.countPon t 4 1, false) else State.xgemsIn t i alloc arrival l (State.xgemIn t i alloc arrival g s)

/-- An allocation of an accepted burst (R370): the report and the use of its entry. -/
def State.allocIn (t frame : Nat) (w : GrantWindow) (a : BurstAlloc) (s : State) : State :=
  match w.burst.allocs.find? fun x => x.2.1 = a.allocId with
  | some (some e, _, n) =>
    let x := s.grantEntry e
    let y := { x with acceptedFrame := some frame, used := a.used, usedOf := n }
    if !x.bound t a.allocId then s
    else
      match a.report with
      | some r =>
        let before := if x.reportAt = some s.tclk then x.before else (x.reported, x.grantedBy)
        (s.setGrantEntry e (if x.report then
          { y with reported := 4 * r, reportAt := some s.tclk, before := before, grantedBy := x.grantedBy.filter fun g => frame < g.1 } else y)).countGrant t 7 1
      | none => s.setGrantEntry e y
  | _ => s

/-- The allocations of an accepted burst in order; a failed header check ends delineation for the rest of the burst. -/
def State.allocsIn (t i arrival : Nat) (w : GrantWindow) : List BurstAlloc → State → State
  | [], s => s
  | a :: l, s =>
    let r := State.xgemsIn t i a.allocId arrival a.frames (State.allocIn t w.frame w a s)
    if r.2 then State.allocsIn t i arrival w l r.1 else r.1

/-- A burst in its grant (R354, R356, R349). -/
def State.acceptBurst (s : State) (t : Nat) (w : GrantWindow) (b : Burst) : State :=
  let i := w.burst.onu
  let x := s.ponTree t
  let s := s.setPonTree t { x with windows := x.windows.filter (fun v => v.number ≠ w.number), heard := some w.frame,
                                   ploam := x.ploam.erase i, silent := 0 }
  let s := (s.setLos t false).countPon t 0 1
  let o := s.onu t i
  let s := s.setOnu t i { o with missed := 0 }
  let s := if o.state = .ranging && o.rangeSent then s.moveOnu t i .operational else s
  let s := s.drift t i ((b.arrival : Int) - w.expected)
  ((s.allocsIn t i b.arrival w b.allocs).settleKeys t).frameDone t w.frame

/-- The burst's codewords count against the port (R353). -/
def State.badWords (s : State) (t n : Nat) : State :=
  match s.treePort t with
  | some p => s.setPort p { s.port p with counters := bump (s.port p).counters 11 n }
  | none => s

/-- PON_BURST_RECEIVE (R353, R354, R356): a delimiter with at most 3 bit errors is a burst. -/
def execPonBurstReceive (t tree : Nat) (b : Burst) (s : State) : Host.Outcome State Fault Refusal :=
  let s := s.at_ t
  .next (if 3 < b.bitErrors || !s.frames tree then s
    else
      let x := s.ponTree tree
      let s := s.badWords tree b.badCodewords
      let hit := x.windows.filter fun w => w.holds (s.ponType tree) b.arrival
      match earliest hit with
      | some w =>
        let s := each (State.missWindow tree) (hit.filter fun v => v.number ≠ w.number) s
        if b.onuId = some (s.onu tree w.burst.onu).onuId && (s.onu tree w.burst.onu).state ≠ .empty then
          s.acceptBurst tree w b
        else
          let s := s.setPonTree tree { s.ponTree tree with windows := (s.ponTree tree).windows.filter fun v => v.number ≠ w.number }
          (s.rejectBurst tree b).frameDone tree w.frame
      | none =>
        let range := x.quiet.find? fun q => q.1 ≤ b.arrival && b.arrival < q.2.1 && match q.2.2 with
          | some i => b.onuId = some (s.onu tree i).onuId && (s.onu tree i).state = .ranging && !(s.onu tree i).rangeSent
          | none => false
        match range with
        | some (_, _, some i) => s.measure tree i b.arrival
        | _ => s.rejectBurst tree b)

/-- PON_WINDOW_CLOSE (R354): TIME has passed a window that no delimiter came in. -/
def execPonWindowClose (t tree window : Nat) (s : State) : Host.Outcome State Fault Refusal :=
  let s := s.at_ t
  .next (match (s.ponTree tree).windows.find? fun w => w.number = window with
    | none => s
    | some w => if s.time16 < w.expected + bitTimes (s.ponType tree) 32 then s else s.missWindow tree w)

/-- PON_ENERGY_DETECT (R358): energy of 64 ns or more outside every window. -/
def execPonEnergyDetect (t tree ns : Nat) (s : State) : Host.Outcome State Fault Refusal :=
  let s := s.at_ t
  let x := s.ponTree tree
  let a := s.time16
  .next (if ns < 64 || !s.frames tree || x.windows.any (fun w => w.holds (s.ponType tree) a)
      || x.quiet.any (fun q => q.1 ≤ a && a < q.2.1) then s
    else (s.setPonTree tree { x with
        energyNow := true, energyTimes := s.lastSecond x.energyTimes ++ [s.now],
        search := x.search.map (fun r => (r.1, r.2.1, r.2.2 || x.sfc < r.2.1)) }).countPon tree 3 1)

/-! ### Ranging (R355–R357) -/

/-- PON_SERIAL_NUMBER (R355, R357): a serial number in a discovery window. -/
def execPonSerialNumber (t tree serial : Nat) (s : State) : Host.Outcome State Fault Refusal :=
  let s := s.at_ t
  let x := s.ponTree tree
  let a := s.time16
  .next (if !s.frames tree || !(x.quiet.any fun q => q.1 ≤ a && a < q.2.1 && q.2.2 = none) then s
    else
      match (s.onusOf tree).find? fun r => r.2.serial = serial with
      | some (i, o) =>
        if o.state = .provisioned || o.state = .lost then
          let s := s.setOnu tree i { o with rangeSent := false, attempts := 0, missed := 0, offsets := [] }
          let s := s.setPonTree tree { x with rangeDue := x.rangeDue.erase i ++ [i] }
          (s.moveOnu tree i .ranging).ploam tree i 3 o.onuId
        else s
      | none =>
        let l := x.discovered.erase serial ++ [serial]
        let l := l.drop (l.length - 16)
        (s.setPonTree tree { x with discovered := l }).eventTo (s.owner 7 tree) 0x0CF1 (tree + 256 * l.length) 0)

/-- PON_RANGING_TIMEOUT (R356): an ONU's ranging window has ended with no response. -/
def execPonRangingTimeout (t tree onu : Nat) (s : State) : Host.Outcome State Fault Refusal :=
  let s := s.at_ t
  let x := s.ponTree tree
  let o := s.onu tree onu
  .next (if o.state ≠ .ranging || o.rangeSent || o.attempts = 0 || x.rangeDue.contains onu ||
      (x.quietLeft ≠ 0 && x.quietFor = some onu) ||
      x.quiet.any (fun q => q.2.2 = some onu && s.time16 < q.2.1) || x.maps.any (fun m => m.quiet ≠ 0 && m.quietFor = some onu) then s
    else if 3 ≤ o.attempts then s.moveOnu tree onu .provisioned
    else s.setPonTree tree { x with rangeDue := x.rangeDue ++ [onu] })

/-- PON_ROGUE_SEARCH_STEP (R359): a test of 2 frames ends; a search that rogue_auto = 0 has overtaken isolates nothing and ends. -/
def execPonRogueSearchStep (t tree : Nat) (s : State) : Host.Outcome State Fault Refusal :=
  let s := s.at_ t
  let x := s.ponTree tree
  .next (match x.search with
    | none => s
    | some (i, ends, heard) =>
      let live := (s.onu tree i).state = .operational || (s.onu tree i).state = .lost
      if x.sfc < ends then s
      else if x.rogueManual then
        let s := s.setPonTree tree { x with search := none, energyRun := 0 }
        if live then s.ploam tree i 6 1 else s
      else if live && !heard then
        (s.setPonTree tree { x with search := none, energyRun := 0 }).isolate tree i 2 (s.lastSecond x.energyTimes).length
      else (if live then s.ploam tree i 6 1 else s).searchFrom tree (i + 1))

/-! ### OMCI (R362) and the channel -/

/-- The region of a tree's OMCI ring. -/
def omciRegion (t : Nat) : Nat := 0xC00 + t

/-- PON_OMCI_RECEIVE (R362). -/
def execPonOmciReceive (t tree onu : Nat) (msg : Bytes) (s : State) : Host.Outcome State Fault Refusal :=
  let s := s.at_ t
  let x := s.ponTree tree
  .next (if !s.frames tree || (s.onu tree onu).state = .empty || msg.length < 8 || 1980 < msg.length then s
    else
      let q := (x.omciSeq + 1) % 2 ^ 32
      let place := x.omciSeq % 16384
      let v := s.timeNow
      let r := leBytes 4 q ++ leBytes 1 onu ++ leBytes 1 0 ++ leBytes 2 msg.length ++ leBytes 6 (v / second) ++
        leBytes 2 (v % second / 2 ^ 40) ++ msg ++ List.replicate (2032 - msg.length) 0
      let s := if look x.omciUnread place false then s.countPon tree 6 1 else s
      let x := s.ponTree tree
      let s := s.setPonTree tree { x with omciSeq := q, omciUnread := put x.omciUnread place false true }
      (s.writeRegion (omciRegion tree) (2048 * place) r).eventTo (s.owner 7 tree) 0x0CF3 tree q)

/-- PON_CHANNEL_FAIL (R438): the channel is mapped out and the tree stops framing, as a quad loss does. -/
def execPonChannelFail (t tree : Nat) (s : State) : Host.Outcome State Fault Refusal :=
  let s := s.at_ t
  .next (if 48 ≤ tree || s.isOut 0x0D tree then s
    else
      let s := s.mapOut 0x0D tree 0 (2 ^ s.owner 7 tree) 0
      let s := s.setPonTree tree { s.ponTree tree with framing := false, windows := [], quiet := [], maps := [] }
      match s.treePort tree with
      | some p => s.portFault p 3
      | none => s)

/-! ### Commands -/

/-- The check of the tree's owner. -/
def State.treeErr (s : State) (c : Cmd) (t : Nat) : Option Err := s.ownErr c 7 t

/-- HW_FAULT: a lane of the tree is mapped out. -/
def State.treeLaneErr (s : State) (t : Nat) : Option Err :=
  match s.treePort t with
  | none => none
  | some p => s.lanesErr p

/-- NOT_FOUND. -/
def missing : Err := { status := .notFound }

/-- The checks of PON_TREE_CONFIG (R355, R364). -/
def ponTreeErrs (c : Cmd) (s : State) : List (Option Err) :=
  let t := c.u8 16
  let x := s.ponTree t
  let busy := (s.onusOf t).any fun r => r.2.state = .ranging || r.2.state = .operational
  [s.treeErr c t, at_ 17 (c.u8 17 ≤ 1), at_ 18 (c.u8 18 ≤ 1), at_ 19 (1 ≤ c.u8 19),
   at_ 20 (50000 ≤ c.u32 20 && c.u32 20 ≤ 700000), at_ 24 (c.u8 24 ≤ 60),
   at_ 25 (c.u8 24 ≤ c.u8 25 && c.u8 25 ≤ 60 && c.u8 25 ≤ c.u8 24 + 40),
   at_ 20 (2 * c.u8 25 * 4900 + 36000 ≤ c.u32 20), c.zeros 26 2,
   at_ 28 (c.u32 28 = 0 || (100 ≤ c.u32 28 && c.u32 28 ≤ 60000)), c.zeros 32 32, s.treeLaneErr t,
   need (!busy || (x.teqd = c.u32 20 && x.minKm = c.u8 24 && x.maxKm = c.u8 25)) (refusedWith 1)]

/-- PON_TREE_CONFIG (R364). A port that is UP returns to TRAINING as its tree stops framing (R349). -/
def execPonTreeConfig (t : Nat) (c : Cmd) (s : State) : Host.Outcome State Fault Refusal :=
  let s := s.at_ t
  let k := c.u8 16
  let x := s.ponTree k
  let on := c.u8 17 = 1
  let lim := c.u8 19
  let x := { x with enabled := on, rogueManual := c.u8 18 = 0, limitSet := if lim = 4 then 0 else lim + 1,
                    teqd := c.u32 20, minKm := c.u8 24, maxKm := c.u8 25, discoveryMs := c.u32 28 }
  let x := if on then x else { x with framing := false, windows := [], quiet := [], quietLeft := 0, maps := [], search := none }
  let up := match s.treePort k with
    | some p => if !on && (s.port p).state = .up then some p else none
    | none => none
  .next (s.command 0x0C00 c .any (ponTreeErrs c s) { s := match up with
      | some p => (s.setPonTree k x).moveLink p .training 0
      | none => s.setPonTree k x })

/-- PON_BURST_PROFILE (R353). -/
def execPonBurstProfile (t : Nat) (c : Cmd) (s : State) : Host.Outcome State Fault Refusal :=
  let s := s.at_ t
  let k := c.u8 16
  let x := s.ponTree k
  let b : BurstProfile := { fec := c.u8 18 = 1, delimiter := c.u8 19, preamble := c.u32 20, pattern := c.u64 24 }
  .next (s.command 0x0C01 c .any
    [s.treeErr c k, at_ 17 (c.u8 17 ≤ 3), at_ 18 (c.u8 18 ≤ 1), at_ 19 (c.u8 19 = 32 || c.u8 19 = 64),
     at_ 20 (64 * upRate (s.ponType k) ≤ c.u32 20 * 1000000), c.zeros 32 32, s.treeLaneErr k]
    { s := (s.setPonTree k { x with profiles := put x.profiles (c.u8 17) {} b }).ploam k 0xFF 1 (c.u8 17) })

/-- The checks of PON_ONU, with the limits of R347. Op 2 takes effect before a candidate of its frame: an ONU that one has isolated in
this frame is none to release (R357). -/
def ponOnuErrs (c : Cmd) (s : State) : List (Option Err) :=
  let t := c.u8 16
  let i := c.u8 17
  let op := c.u8 18
  let others := (s.onusOf t).filter fun r => r.1 ≠ i
  [if op = 3 then c.needReply else none, s.treeErr c t, at_ 18 (op ≤ 3), c.zeros 19 1] ++
  (if op = 0 then
    [at_ 17 ((s.onu t i).state = .empty), at_ 20 (others.all fun r => r.2.serial ≠ c.u64 20),
     at_ 28 (c.u16 28 ≤ 1020 && others.all fun r => r.2.onuId ≠ c.u16 28), at_ 30 (c.u8 30 ≤ 3), c.zeros 31 33,
     need (decide (countRows s.pon.onus (fun _ o => o.state ≠ .empty) < 8192)) { status := .tableFull }]
  else [c.zeros 31 33, (if op = 1 then need ((s.onu t i).state ≠ .empty) missing else none),
    at_ 18 (op ≠ 2 || ((s.onu t i).state = .isolated && !(s.frames t && (s.onu t i).isolatedIn = (s.ponTree t).sfc)))]) ++ [s.treeLaneErr t]

/-- PON_ONU op 1 (R357): the ONU becomes EMPTY; a change of its key index under way ends with NOT_FOUND. -/
def State.removeOnu (s : State) (t i : Nat) : State :=
  let o := s.onu t i
  let x := s.ponTree t
  let s := s.setPonTree t { x with ploam := x.ploam.erase i, rangeDue := x.rangeDue.erase i,
                                   omciOut := x.omciOut.filter fun m => m.1 ≠ i }
  let s := match o.switch with
    | some (c, _, _) => s.answer c .notFound 0 0 []
    | none => s
  let s := (s.moveOnu t i .empty).ploam t i 5 o.onuId
  s.setOnu t i {}

/-- What PON_ONU does. -/
def ponOnuDone (c : Cmd) (s : State) : State :=
  let t := c.u8 16
  let i := c.u8 17
  match c.u8 18 with
  | 0 => (s.setOnu t i { serial := c.u64 20, onuId := c.u16 28, profile := c.u8 30 }).moveOnu t i .provisioned
  | 1 => s.removeOnu t i
  | 2 => (s.moveOnu t i .provisioned).ploam t i 6 1
  | _ => s.setPonTree t { s.ponTree t with discovered := [] }

/-- PON_ONU (R357). -/
def execPonOnu (t : Nat) (c : Cmd) (s : State) : Host.Outcome State Fault Refusal :=
  let s := s.at_ t
  let l := (s.ponTree (c.u8 16)).discovered
  let rd := c.u8 18 = 3
  .next (s.command 0x0C02 c .any (ponOnuErrs c s)
    { s := ponOnuDone c s, result := if rd then 8 * l.length else 0, long := if rd then l.flatMap (leBytes 8) else [] })

/-- PON_XGEM (R347, R352). -/
def execPonXgem (t : Nat) (c : Cmd) (s : State) : Host.Outcome State Fault Refusal :=
  let s := s.at_ t
  let e := c.u16 16
  let x := s.xgem e
  let k := c.u8 19
  let set := c.u8 18 = 0
  let y : XgemEntry := { live := true, tree := k, portId := c.u16 20, onu := c.u8 22, flags := c.u8 23 }
  .next (s.command 0x0C03 c .any
    [at_ 18 (c.u8 18 ≤ 1), s.treeErr c k,
     at_ 20 (!set || (c.u16 20 ≤ 65534 && s.pon.xgems.all fun r => r.1 = e || !r.2.live || r.2.tree ≠ k || r.2.portId ≠ c.u16 20)),
     at_ 23 (c.u8 23 < 8), c.zeros 24 40, s.treeLaneErr k,
     need (set || (x.live && x.tree = k)) missing, need (!set || !x.live || x.tree = k) { status := .tableFull }]
    { s := s.setXgem e (if set then y else {}) })

/-- Bind a key index of an ONU, or of the tree's broadcast key. -/
def State.bindKey (s : State) (t i index slot : Nat) : State :=
  let x := s.ponTree t
  let o := s.onu t i
  if i = 0xFF then s.setPonTree t (if index = 1 then { x with bcast1 := slot + 1 } else { x with bcast2 := slot + 1 })
  else s.setOnu t i (if index = 1 then { o with key1 := slot + 1 } else { o with key2 := slot + 1 })

/-- Begin the Key_Control exchange of an activation (R363). -/
def State.keyControl (s : State) (c : Cmd) (t i index : Nat) : State :=
  let x := s.ponTree t
  let dest := if i = 0xFF then ((s.onusOf t).filter fun r => r.2.state.answers).map fun r => r.1
    else if (s.onu t i).state.answers then [i] else []
  let x := { x with ploam := x.ploam ++ dest.filter fun j => !x.ploam.contains j }
  let s := if i = 0xFF then s.setPonTree t { x with bcastSwitch := some (c, index, none), bcastWait := dest }
    else (s.setPonTree t x).setOnu t i { s.onu t i with switch := some (c, index, none) }
  (s.ploam t i 13 index).settleKeys t

/-- PON_ONU_KEY (R363). -/
def execPonOnuKey (t : Nat) (c : Cmd) (s : State) : Host.Outcome State Fault Refusal :=
  let s := s.at_ t
  let k := c.u8 16
  let i := c.u8 17
  let go := c.u8 19 = 1
  let s1 := s.bindKey k i (c.u8 18) (c.u32 20)
  .next (s.command 0x0C04 c .any
    [s.treeErr c k, at_ 18 (c.u8 18 = 1 || c.u8 18 = 2), at_ 19 (c.u8 19 ≤ 1), s.ownErr c 8 (c.u32 20), c.zeros 24 40,
     need (i = 0xFF || (s.onu k i).state ≠ .empty) missing,
     need (!go || (if i = 0xFF then (s.ponTree k).bcastSwitch = none else (s.onu k i).switch = none)) { status := .busy },
     s.treeLaneErr k]
    { s := if go then s1.keyControl c k i (c.u8 18) else s1, later := go })

/-- PON_OMCI_SEND (R362). -/
def execPonOmciSend (t : Nat) (c : Cmd) (b : BufRead) (s : State) : Host.Outcome State Fault Refusal :=
  let s := s.at_ t
  let k := c.u8 28
  let x := s.ponTree k
  .next (s.command 0x0C05 c .any
    [c.bufferErr, at_ 24 (8 ≤ c.u32 24 && c.u32 24 ≤ 1980), s.treeErr c k, c.zeros 30 34,
     need ((s.onu k (c.u8 29)).state ≠ .empty) missing, need (decide (x.omciOut.length < 64)) { status := .busy },
     s.treeLaneErr k, b.err]
    { s := s.setPonTree k { x with omciOut := x.omciOut ++ [(c.u8 29, b.bytes c)] } })

/-- PON_TOD (R351). -/
def execPonTod (t : Nat) (c : Cmd) (s : State) : Host.Outcome State Fault Refusal :=
  let s := s.at_ t
  let x := s.ponTree (c.u8 16)
  .next (s.command 0x0C06 c .any [c.needReply, s.treeErr c (c.u8 16), c.zeros 17 47, s.treeLaneErr (c.u8 16)]
    { s := s, result := 20, long := leBytes 8 x.sfc ++ timeBytes x.frameTime })

/-- PON_STATS (R363). -/
def execPonStats (t : Nat) (c : Cmd) (s : State) : Host.Outcome State Fault Refusal :=
  let s := s.at_ t
  let k := c.u8 16
  let x := s.ponTree k
  .next (s.command 0x0C07 c .any [c.needReply, s.treeErr c k, at_ 17 (c.u8 17 ≤ 1), c.zeros 18 46, s.treeLaneErr k]
    { s := if c.u8 17 = 1 then s.setPonTree k { x with stats := [] } else s, result := 64, long := counterBytes x.stats 8 })

end Sys2Proof.Machine
end

