-- ==== Sys2Proof/Machine/Grant.lean ====
section
/-! DEFINITION. PON upstream grants: demand, trimming, maps, learning, and their commands (18_pon_grants.md). -/

namespace Sys2Proof.Machine

/-! ### Groups and trimming (R371, R373) -/

/-- A group of a tree. -/
def PonTree.group (x : PonTree) (g : Nat) : GrantGroup := look x.groups g {}

/-- The sojourn gauge of a level-A node in root cycles (R373): 0 while the node has no backlog. -/
def State.gauge (s : State) (a : Nat) : Nat := if s.backlogged (nodeKey 0 a) then look s.pon.gauges a 0 else 0

/-- The members of a group. -/
def GrantGroup.nodes (g : GrantGroup) : List Nat := (List.range 192).filter fun a => bit g.members a

/-- The sojourn of a group in µs: the largest gauge of its members. -/
def State.groupSojourn (s : State) (g : GrantGroup) : Nat := ((g.nodes.map s.gauge).foldl max 0) / us 1

/-- A group's factor after a snapshot (R373): 256 less the factor. -/
def GrantGroup.newCut (g : GrantGroup) (sojourn : Nat) : Nat :=
  if g.onUs ≤ sojourn then min (256 - g.fMin) (g.cut + g.step)
  else if sojourn < g.offUs then g.cut - g.step
  else g.cut

/-- The snapshot of one group: its gauge, and its factor where it trims; GRANT_TRIM where trimming starts or ends. -/
def State.snapGroup (t : Nat) (g : Nat) (s : State) : State :=
  let x := s.ponTree t
  let y := x.group g
  if !y.live then s
  else
    let so := s.groupSojourn y
    let cut := if y.trim then y.newCut so else y.cut
    let s1 := s.setPonTree t { x with groups := put x.groups g {} { y with sojournUs := so, cut := cut } }
    if y.trim && (y.cut = 0) ≠ (cut = 0) then
      s1.eventTo (s.owner 7 t) 0x0CF4 (t + 256 * g + 65536 * b2n (y.cut = 0)) so
    else s1

/-! ### Demand and caps (R365, R370) -/

/-- The entries of a tree, by ascending number. -/
def State.entriesOf (s : State) (t : Nat) : List (Nat × GrantEntry) := s.pon.entries.filter fun r => r.2.live && r.2.tree = t

/-- A rate in kb/s as bytes per frame. -/
def perFrame (kbps : Nat) : Nat := kbps / 64

/-- peak_bytes of an entry (R370); none where unlimited. -/
def State.peakBytes (s : State) (e : GrantEntry) : Option Nat :=
  let p := (s.node (nodeKey 4 e.queue)).pir
  if p = unlimited then none else some (perFrame p)
/-- assured_bytes of an entry (R370). -/
def State.assuredBytes (s : State) (e : GrantEntry) : Nat := perFrame (s.node (nodeKey 4 e.queue)).cir

/-- The demand of an entry at frame `n` (R370); a report of this TCLK acts from the next snapshot (R374). -/
def State.demand (s : State) (t n : Nat) (e : GrantEntry) : Nat :=
  if e.report then
    let r := if e.reportAt = some s.tclk then e.before else (e.reported, e.grantedBy)
    r.1 - (r.2.map fun g => g.2).sum
  else
    let recent := match e.acceptedFrame with
      | some f => decide (n ≤ f + 8)
      | none => false
    if !recent then (s.ponTree t).grantUnit
    else if 16 * (e.usedOf - e.used) < e.usedOf then
      match s.peakBytes e with
      | some p => min (2 * e.used) p
      | none => 2 * e.used
    else e.used

/-- A buffer threshold with action bit 2 is set in the pool that charges the entry's queue (R278, R370). -/
def State.bufferCaps (s : State) (e : GrantEntry) : Bool :=
  let p := s.pool (s.account (s.queue e.queue).account).pool
  p.thresholds.any fun h => h.2.isSet && bit h.2.actions 2

/-- The least scaled peak over the trimming groups that the entry's shares reach (R373); none where none applies. -/
def State.trimmed (s : State) (t peak : Nat) (e : GrantEntry) : Option Nat :=
  let f (g : Nat) : Option Nat :=
    let y := (s.ponTree t).group g
    let share := (e.shares[g]?).getD 0
    if y.live && y.trim && y.cut ≠ 0 && y.shareMin ≤ share then some (peak * (65536 - share * y.cut) / 65536) else none
  match (List.range 8).filterMap f with
  | [] => none
  | a :: l => some (l.foldl min a)

/-- map_cap of an entry (R370, R373), whether trimming and whether a buffer threshold capped it; no bound is 2^40. -/
def State.mapCap (s : State) (t : Nat) (e : GrantEntry) : Nat × Bool × Bool :=
  let low := s.assuredBytes e
  if s.bufferCaps e then (low, false, true)
  else
    match s.peakBytes e with
    | none => (2 ^ 40, false, false)
    | some p =>
      match s.trimmed t p e with
      | some v => (max low (min p v), decide (max low (min p v) < p), false)
      | none => (max low p, false, false)

/-- The ONU of an entry may be granted (R366); one under test in a rogue search is disabled (R359). -/
def State.onuEligible (s : State) (t i : Nat) : Bool :=
  let o := s.onu t i
  (o.state = .operational || (o.state = .ranging && o.rangeSent)) &&
    match (s.ponTree t).search with
    | some (j, _, _) => decide (j ≠ i)
    | none => true

/-! ### Building a map (R367–R369) -/

/-- The line bytes of a frame (R368). -/
def lineCapacity : Nat → Nat
  | 0 => 388800
  | 1 => 194400
  | 2 => 777600
  | _ => 155520

/-- A map in the making: the working copy of the state, what is left of the line, the payload granted to each entry, the ONUs
with a burst, the entries that may not be granted more, the entries refused a burst. -/
structure Work where
  s : State
  left : Nat
  granted : Sparse Nat
  onus : List Nat
  shut : List Nat
  refused : Nat

/-- Give an entry up to `want` bytes: the bytes granted (R369), none where a 513th burst would be needed or too little fits. -/
def Work.fit (w : Work) (t onu want : Nat) : Option Nat :=
  let extra := if w.onus.contains onu then 0 else w.s.burstOverhead t onu
  if extra + w.s.lineBytes t onu want ≤ w.left then some want
  else
    let g := w.s.payloadFor t onu (w.left - extra)
    if w.left < extra || g < 64 then none else some g

/-- Take a grant off the line. -/
def Work.take (w : Work) (t e onu g : Nat) : Work :=
  let extra := if w.onus.contains onu then 0 else w.s.burstOverhead t onu
  { w with left := w.left - (extra + w.s.lineBytes t onu g), granted := put w.granted e 0 (look w.granted e 0 + g),
           onus := if w.onus.contains onu then w.onus else w.onus ++ [onu] }

/-- The charge of a grant at a node (R369): its payload and the node's overhead. -/
def grantCharge (g : Nat) (n : Node) : Nat := if n.mode = 1 then 1 else (max 1 ((g : Int) + n.overhead)).toNat

/-- Debit a grant from the buckets of a path without a selection: the fixed share (R365, R369). -/
def State.debitFixed (g : Nat) (k : Nat) (s : State) : State := s.setNode k ((s.node k).debit s.tclk (grantCharge g (s.node k)))

/-- The fixed share of an entry (R365, R368). -/
def Work.fixed (t : Nat) (r : Nat × GrantEntry) (w : Work) : Work :=
  let want := perFrame r.2.fixedKbps
  if want = 0 then w
  else if !w.onus.contains r.2.onu && 512 ≤ w.onus.length then { w with refused := w.refused + 1, shut := r.1 :: w.shut }
  else
    match w.fit t r.2.onu want with
    | none => w
    | some g =>
      let w := w.take t r.1 r.2.onu g
      { w with s := each (State.debitFixed g) (w.s.path (nodeKey 4 r.2.queue)) w.s }

/-- The selections of R369, at most `n` of them. -/
def Work.run (t : Nat) (es : List (Nat × GrantEntry)) (caps demands : Sparse Nat) : Nat → Work → Work
  | 0, w => w
  | n + 1, w =>
    let open_ (r : Nat × GrantEntry) : Bool :=
      !w.shut.contains r.1 && look w.granted r.1 0 < look demands r.1 0 && look w.granted r.1 0 < look caps r.1 0
    let leaf (_ : State) (q : Nat) : Bool := es.any fun r => r.2.queue = q && open_ r
    let root := nodeKey 0 (128 + t)
    if w.s.rootHeld (128 + t) || !schedulable leaf w.s 5 root then w
    else
      match descend leaf 5 root w.s with
      | none => w
      | some (path, s1) =>
        match path.getLast? with
        | none => w
        | some (qk, _) =>
          match es.find? fun r => r.2.queue = idOf qk && open_ r with
          | none => w
          | some (e, x) =>
            let got := look w.granted e 0
            let want := min (w.s.ponTree t).grantUnit (min (look demands e 0 - got) (look caps e 0 - got))
            if !w.onus.contains x.onu && 512 ≤ w.onus.length then
              Work.run t es caps demands n { w with s := s1, shut := e :: w.shut, refused := w.refused + 1 }
            else
              match w.fit t x.onu want with
              | none => w
              | some g =>
                let w := { w with s := debitWith (grantCharge g) path root s1 }
                Work.run t es caps demands n (w.take t e x.onu g)

/-- What a computation did to a node: none where nothing. -/
def nodeChange (s0 s1 : State) (k : Nat) : Option NodeChange :=
  let a := (s0.node k).refill s0.tclk
  let b := (s1.node k).refill s0.tclk
  if a = b then none
  else some { key := k, rings := b.rings, defC := b.defC - a.defC, defE := b.defE - a.defE, tokC := b.tokC - a.tokC,
              tokP := b.tokP - a.tokP }

/-- Insert into a list that a key orders. -/
def insertBy {α : Type} (f : α → Nat) (a : α) : List α → List α
  | [] => [a]
  | b :: l => if f a ≤ f b then a :: b :: l else b :: insertBy f a l

/-- The bursts of a map (R369): one per ONU by ascending index, its allocations by ascending Alloc-ID. -/
def State.layout (s : State) (t : Nat) (ploam : List Nat) (granted : Sparse Nat) : List MapBurst :=
  let of (i : Nat) : MapBurst :=
    let a := (granted.filter fun r => (s.grantEntry r.1).onu = i).map fun r => (some r.1, (s.grantEntry r.1).allocId, r.2)
    let a := if ploam.contains i then ((none, (s.onu t i).onuId, 0) : Option Nat × Nat × Nat) :: a else a
    { onu := i, allocs := a.foldl (fun l x => insertBy (fun y : Option Nat × Nat × Nat => y.2.1) x l) [] }
  ((List.range 256).map of).filter fun b => b.allocs ≠ []

/-- The quiet line bytes of the next map and for whom (R355): what remains of a window, else an ONU's ranging window, else a
discovery window that is due. -/
def State.quietNext (s : State) (t : Nat) : Nat × Option Nat × Bool :=
  let x := s.ponTree t
  let ns := 2 * (x.maxKm - x.minKm) * 4900 + 2000
  let len := (ns * upRate (s.ponType t) + 7999999) / 8000000
  if x.quietLeft ≠ 0 then (x.quietLeft, x.quietFor, false)
  else
    match x.rangeDue with
    | i :: _ => (len, some i, true)
    | [] => if x.discoveryMs ≠ 0 && x.lastDiscovery + ms x.discoveryMs ≤ s.now then (len, none, true) else (0, none, false)

/-- The map computed from the present state for frame `n` (R367–R369). -/
def State.buildMap (s : State) (t n quiet : Nat) (who : Option Nat) (new : Bool) : GrantMap :=
  let es := (s.entriesOf t).filter fun r => s.onuEligible t r.2.onu
  let es := if s.sending then es else []
  let ploam := if s.sending then (s.ponTree t).ploam.filter fun i => s.onuEligible t i else []
  let capOf := es.map fun r => (r.1, s.mapCap t r.2)
  let caps := capOf.map fun r => (r.1, r.2.1)
  let demands := es.map fun r => (r.1, s.demand t (s.ponTree t).sfc r.2)
  let line := lineCapacity (s.ponType t)
  let w : Work := { s := s, left := line - quiet - 64 * ploam.length, granted := [], onus := ploam, shut := [], refused := 0 }
  let w := each (Work.fixed t) es w
  let w := Work.run t es caps demands (line / 64 + 2 * es.length + 2) w
  { frame := n, ready := false, bursts := s.placeBursts t (s.layout t ploam w.granted) quiet, quiet := quiet, quietFor := who, quietNew := new,
    free := w.left, caps := caps, refused := w.refused, trimCapped := capOf.any fun r => r.2.2.1,
    bufCapped := capOf.any fun r => r.2.2.2, changes := (s.tm.nodes.map fun r => r.1).filterMap (nodeChange s w.s) }

/-- GRANT_SNAPSHOT (R367, R373): at the start of a tree's downstream frame, its trim factors, and the map for the frame after
the next; a frame has one snapshot. -/
def execGrantSnapshot (t tree : Nat) (s : State) : Host.Outcome State Fault Refusal :=
  let s := s.at_ t
  .next (if 48 ≤ tree || !(s.ponTree tree).enabled then s
    else
      let n := (s.ponTree tree).sfc + 2
      if (s.ponTree tree).maps.any fun m => m.frame = n then s
      else
        let s := each (State.snapGroup tree) (List.range 8) s
        let x := s.ponTree tree
        let q := s.quietNext tree
        let quiet := min q.1 (lineCapacity (s.ponType tree))
        let m := s.buildMap tree n quiet q.2.1 q.2.2
        let s := each (fun r s => State.setGrantEntry s r.1 { s.grantEntry r.1 with lastDemand := s.demand tree x.sfc r.2 })
          (s.entriesOf tree) s
        let due := if q.2.2 then (match q.2.1 with
          | some i => x.rangeDue.erase i
          | none => x.rangeDue) else x.rangeDue
        s.setPonTree tree { s.ponTree tree with maps := x.maps ++ [m], quietLeft := q.1 - quiet, quietFor := q.2.1, rangeDue := due,
                                                lastDiscovery := if q.2.2 && q.2.1 = none then s.now else x.lastDiscovery })

/-- A computed map debits the nodes of its tree (R369). -/
def State.applyChange (c : NodeChange) (s : State) : State :=
  let n := (s.node c.key).refill s.tclk
  let low : Int := -(2 ^ 31 * 65536)
  if s.nodeExists c.key then
    s.setNode c.key { n with rings := c.rings, defC := n.defC + c.defC, defE := n.defE + c.defE,
                             tokC := max low (n.tokC + c.tokC), tokP := max low (n.tokP + c.tokP) }
  else s

/-- The bytes that a map grants an entry. -/
def GrantMap.bytesFor (m : GrantMap) (e : Nat) : Nat :=
  ((m.bursts.flatMap fun b => b.allocs).map fun a => if a.1 = some e then a.2.2 else 0).sum

/-- An entry after a map (R370, GRANT_QUERY). -/
def State.entryMapped (m : GrantMap) (e : Nat) (s : State) : State :=
  let x := s.grantEntry e
  let n := m.bytesFor e
  s.setGrantEntry e { x with lastGrant := n, lastCap := look m.caps e 0,
                             grantedBy := if n = 0 then x.grantedBy else x.grantedBy ++ [(m.frame, n)] }

/-- GRANT_MAP_READY (R367–R369): the oldest computation of a tree that is under way ends, before its frame. -/
def execGrantMapReady (t tree : Nat) (s : State) : Host.Outcome State Fault Refusal :=
  let s := s.at_ t
  let x := s.ponTree tree
  .next (match x.maps.find? fun m => !m.ready && x.sfc < m.frame with
    | none => s
    | some m =>
      let s := each State.applyChange m.changes s
      let s := each (State.entryMapped m) ((s.entriesOf tree).map fun r => r.1) s
      let as := (m.bursts.flatMap fun b => b.allocs).filter fun a => a.1 ≠ none
      let add (i n : Nat) (s : State) : State := s.countGrant tree i n
      let s := add 6 (b2n m.bufCapped) (add 5 (b2n m.trimCapped) (add 4 m.refused (add 2 (as.map fun a => a.2.2).sum
        (add 1 as.length (add 0 1 s)))))
      let x := s.ponTree tree
      s.setPonTree tree { x with lastBursts := m.bursts.length, lastFree := m.free,
                                 maps := x.maps.map (fun y => if y.frame = m.frame then { y with ready := true, changes := [] } else y) })

/-! ### Learning (R372) -/

/-- Learn a packet of the PON that reaches check 1 of R291. -/
def State.learnGrant (s : State) (k : Nat) : State :=
  let d := (s.pkt k).desc
  let p := s.port d.ingress
  if p.personality ≠ .pon then s
  else
    let x := s.ponTree p.tree
    let w := if x.learnWord = 0 then d.meta0 else if x.learnWord = 1 then d.meta1 else d.meta2
    if !bit w 15 then s
    else
      match (s.entriesOf p.tree).find? fun r => r.2.allocId = w % 16384 with
      | none => s
      | some (e, y) =>
        let n := d.length + 4
        let root := s.rootOf (nodeKey 4 d.queue)
        let add := n :: (List.range 8).map fun g => match root with
          | some a => if (x.group g).live && bit (x.group g).members a then n else 0
          | none => 0
        let (b, l) := match y.buckets with
          | [] => (List.replicate 9 0, [])
          | b :: l => (b, l)
        let sum (b : List Nat) : List Nat := (b.zip add).map fun r => r.1 + r.2
        s.setGrantEntry e { y with
          buckets := sum b :: l, learnedAt := s.tclk, learned := if y.learnedAt = s.tclk && y.learned ≠ [] then sum y.learned else add }

/-- The shares of an entry at a 1 ms boundary (R372): the open bucket closes, the oldest of more than ten is dropped. What was
learned in the boundary's TCLK counts in the bucket that opens (R374). -/
def GrantEntry.share (tclk : Nat) (x : GrantEntry) : GrantEntry :=
  let fresh : List Nat := if x.learnedAt = tclk then x.learned else []
  let shut : List (List Nat) := match x.buckets with
    | [] => [List.replicate 9 0]
    | b :: l => (if fresh = [] then b else (b.zip fresh).map fun r => r.1 - r.2) :: l
  let l := shut.take 10
  let sum (i : Nat) : Nat := (l.map fun b => (b[i]?).getD 0).sum
  { x with buckets := (if fresh = [] then List.replicate 9 0 else fresh) :: l,
           shares := (List.range 8).map fun g => if sum 0 = 0 then 0 else 256 * sum (g + 1) / sum 0 }

/-- GRANT_SHARE_INTERVAL (R372). -/
def execGrantShareInterval (t : Nat) (s : State) : Host.Outcome State Fault Refusal :=
  let s := s.at_ t
  .next (each (fun r s => State.setGrantEntry s r.1 (r.2.share s.tclk)) (s.pon.entries.filter fun r => r.2.live) s)

/-! ### Commands -/

/-- GRANT_TREE_CONFIG (R375). -/
def execGrantTreeConfig (t : Nat) (c : Cmd) (s : State) : Host.Outcome State Fault Refusal :=
  let s := s.at_ t
  let k := c.u8 16
  let u := c.u16 18
  let g := c.u16 20
  let x := { s.ponTree k with learnWord := c.u8 17, unitLess := if u = 2048 then 0 else u + 1,
                              guardLess := if g = 64 then 0 else g + 1 }
  .next (s.command 0x0C08 c .any
    [s.treeErr c k, at_ 17 (c.u8 17 ≤ 2), at_ 18 (64 ≤ u && u ≤ 16384), at_ 20 (16 ≤ g && g ≤ 1023), c.zeros 22 42, s.treeLaneErr k]
    { s := s.setPonTree k x })

/-- The checks of GRANT_ALLOC that only a set makes (R365). -/
def grantSetErrs (c : Cmd) (s : State) : List (Option Err) :=
  let e := c.u16 16
  let k := c.u8 19
  let q := c.u32 24
  let n := s.node (nodeKey 4 q)
  [at_ 21 (c.u8 21 ≤ 1), at_ 22 (c.u16 22 ≤ 16383 && (s.entriesOf k).all fun r => r.1 = e || r.2.allocId ≠ c.u16 22),
   s.ownErr c 2 q, at_ 24 (s.rootOf (nodeKey 4 q) = some (128 + k)), at_ 24 (n.mode = 0),
   at_ 28 (n.cir = unlimited || c.u32 28 ≤ n.cir), c.zeros 32 32,
   need ((s.onu k (c.u8 20)).state ≠ .empty) missing,
   need (!(s.grantEntry e).live || (s.grantEntry e).tree = k) { status := .tableFull }]

/-- GRANT_ALLOC (R365): a set of an entry in use of the tree rebinds it. -/
def execGrantAlloc (t : Nat) (c : Cmd) (s : State) : Host.Outcome State Fault Refusal :=
  let s := s.at_ t
  let e := c.u16 16
  let k := c.u8 19
  let x := s.grantEntry e
  let y : GrantEntry := { live := true, tree := k, onu := c.u8 20, allocId := c.u16 22, queue := c.u32 24, fixedKbps := c.u32 28,
                          report := c.u8 21 = 1 }
  .next (s.command 0x0C09 c .any
    ([at_ 16 (e < 32768), at_ 18 (c.u8 18 ≤ 1), s.treeErr c k] ++
      (if c.u8 18 = 0 then grantSetErrs c s else [need (x.live && x.tree = k) missing]) ++ [s.treeLaneErr k])
    { s := s.setGrantEntry e (if c.u8 18 = 0 then y else {}) })

/-- A level-A node may be a member of a group (R371). -/
def State.memberOk (s : State) (a : Nat) : Bool := decide (a < 128) || (decide (176 ≤ a ∧ a < 192) && decide (s.dev.topology = 1))

/-- The checks of GRANT_GROUP that only a set makes (R371). -/
def groupSetErrs (c : Cmd) (s : State) : List (Option Err) :=
  let d := c.domain
  let m := c.field 32 32
  let bad := (List.range 256).find? fun a => bit m a && !s.memberOk a
  [at_ 19 (c.u8 19 ≤ 1), at_ 20 (1 ≤ c.u16 20), at_ 22 (c.u16 22 < c.u16 20), at_ 24 (1 ≤ c.u8 24), at_ 26 (1 ≤ c.u8 26), c.zeros 27 5,
   bad.map fun a => badField (32 + a / 8),
   need ((List.range 192).all fun a => !bit m a || s.rootOwner a = d || bit (s.node (nodeKey 0 a)).attachMask d) denied]

/-- GRANT_GROUP (R371): a group that is set starts with a factor of 256; one that was trimming ends it (R373). -/
def execGrantGroup (t : Nat) (c : Cmd) (s : State) : Host.Outcome State Fault Refusal :=
  let s := s.at_ t
  let k := c.u8 16
  let g := c.u8 17
  let x := s.ponTree k
  let y : GrantGroup := { live := true, trim := c.u8 19 = 1, onUs := c.u16 20, offUs := c.u16 22, shareMin := c.u8 24,
                          fMin := c.u8 25, step := c.u8 26, members := c.field 32 32 }
  .next (s.command 0x0C0A c .any
    ([s.treeErr c k, at_ 17 (g ≤ 7), at_ 18 (c.u8 18 ≤ 1)] ++
      (if c.u8 18 = 0 then groupSetErrs c s else [need (x.group g).live missing]) ++ [s.treeLaneErr k])
    { s :=
      let s1 := s.setPonTree k { x with groups := put x.groups g {} (if c.u8 18 = 0 then y else {}) }
      if (x.group g).cut = 0 then s1
      else s1.eventTo (s.owner 7 k) 0x0CF4 (k + 256 * g) (x.group g).sojournUs })

/-- The GRANT_QUERY record. -/
def grantRecord (x : GrantEntry) : Bytes :=
  leBytes 4 x.lastDemand ++ leBytes 4 x.lastGrant ++ leBytes 4 (min x.lastCap 0xFFFFFFFF) ++
    (List.range 8).flatMap (fun g => leBytes 2 ((x.shares[g]?).getD 0)) ++ leBytes 4 x.used ++ leBytes 4 x.missed ++ leBytes 4 0

/-- GRANT_QUERY (R370). -/
def execGrantQuery (t : Nat) (c : Cmd) (s : State) : Host.Outcome State Fault Refusal :=
  let s := s.at_ t
  let x := s.grantEntry (c.u16 16)
  .next (s.command 0x0C0B c .any
    [c.needReply, at_ 16 (c.u16 16 < 32768), c.zeros 18 46, need x.live missing, s.treeErr c x.tree, s.treeLaneErr x.tree]
    { s := s, result := 40, long := grantRecord x })

/-- GRANT_STATS (R367). -/
def execGrantStats (t : Nat) (c : Cmd) (s : State) : Host.Outcome State Fault Refusal :=
  let s := s.at_ t
  let k := c.u8 16
  let x := s.ponTree k
  .next (s.command 0x0C0C c .any [c.needReply, s.treeErr c k, at_ 17 (c.u8 17 ≤ 1), c.zeros 18 46, s.treeLaneErr k]
    { s := if c.u8 17 = 1 then s.setPonTree k { x with grantStats := [] } else s, result := 64, long := counterBytes x.grantStats 8 })

end Sys2Proof.Machine
end

