-- ==== Sys2Proof/Machine/Guyline.lean ====
section
/-! DEFINITION. Guyline: steering, transfers, replay, failure, planned map-out and return of groups (01 R17–R24). -/

namespace Sys2Proof.Machine

/-! ### Steering (R19, R22) -/

/-- The number of a direction: 0 from the F die to the T die, 1 back. -/
def dirOf (toT : Bool) : Nat := if toT then 0 else 1

/-- The steering entry of a transfer to the T die, by egress queue. -/
def queueEntry (q : Nat) : Nat := (q ^^^ (q / 2 ^ 6) ^^^ (q / 2 ^ 12) ^^^ (q / 2 ^ 18)) % 64
/-- The steering entry of a transfer to the F die, by egress port. -/
def portEntry (p : Nat) : Nat := (p ^^^ (p / 2 ^ 6)) % 64

/-- The group that a steering entry names. -/
def State.steerGroup (s : State) (toT : Bool) (i : Nat) : Nat :=
  match look s.units.steer (dirOf toT * 64 + i) 0 with
  | 0 => i % 16
  | g + 1 => g

/-- Rewrite a steering entry, counting the rewrite (R431). -/
def State.setSteer (s : State) (toT : Bool) (i g : Nat) : State :=
  let v := if g = i % 16 then 0 else g + 1
  ({ s with units := { s.units with steer := put s.units.steer (dirOf toT * 64 + i) 0 v } }).count 2881 1

/-- Issuing has stopped on an entry (R23). -/
def State.stopped (s : State) (toT : Bool) (i : Nat) : Bool := look s.units.steerStop (dirOf toT * 64 + i) false
/-- Stop or resume issuing on an entry. -/
def State.setStop (s : State) (toT : Bool) (i : Nat) (v : Bool) : State :=
  { s with units := { s.units with steerStop := put s.units.steerStop (dirOf toT * 64 + i) false v } }

/-- Entries of a direction that name a group. -/
def State.entriesNaming (s : State) (toT : Bool) (g : Nat) : List Nat := (List.range 64).filter fun i => s.steerGroup toT i = g

/-- The healthy group that holds the fewest entries of a direction, the lowest of equals. -/
def State.leastGroup (s : State) (toT : Bool) (but : Nat) : Option Nat :=
  ((List.range 16).filter fun g => s.healthy 3 g && g ≠ but).foldl (fun b g => match b with
    | none => some g
    | some h => if (s.entriesNaming toT g).length < (s.entriesNaming toT h).length then some g else some h) none

/-- The home group of an entry is healthy, and is not the group that its entries leave. -/
def State.homeGood (s : State) (g i : Nat) : Bool := i % 16 ≠ g && s.healthy 3 (i % 16)

/-- Rewrite every entry of a direction that names a group (R22): one whose home group is healthy names its home, the others are spread
evenly over the healthy groups. -/
def State.respread (s : State) (toT : Bool) (g : Nat) : State :=
  let es := s.entriesNaming toT g
  let s := each (fun i s => s.setSteer toT i (i % 16)) (es.filter (s.homeGood g)) s
  each (fun i s => match s.leastGroup toT g with
    | none => s
    | some h => s.setSteer toT i h) (es.filter fun i => !s.homeGood g i) s

/-- The map-out or return in progress of a unit. -/
def State.workOf (s : State) (kind n : Nat) : Option UnitWork :=
  (s.units.work.find? fun r => r.1 == kind * 65536 + n).map fun r => r.2

/-- Issuing is stopped on an entry (R23): the group that it names is being mapped out by command, or its home group, back in service,
waits for it. -/
def State.mustStop (s : State) (toT : Bool) (i : Nat) : Bool :=
  let g := s.steerGroup toT i
  ((s.workOf 3 g).any fun w => !w.ret) || (g ≠ i % 16 && s.healthy 3 (i % 16) && (s.workOf 3 (i % 16)).any fun w => w.ret)

/-- Stop and resume issuing on every entry as R23 has it. -/
def State.restop (s : State) : State :=
  each (fun toT s => each (fun i s => State.setStop s toT i (s.mustStop toT i)) (List.range 64) s) [true, false] s

/-! ### Issuing (R17, R18, R20) -/

/-- A Guyline group. -/
def State.group (s : State) (g : Nat) : Group := look s.units.groups g {}
/-- Set a Guyline group. -/
def State.setGroup (s : State) (g : Nat) (x : Group) : State :=
  { s with units := { s.units with groups := put s.units.groups g {} x } }

/-- An entry can issue: it is not stopped, and its group is in service. -/
def State.canIssue (s : State) (toT : Bool) (i : Nat) : Bool := !s.stopped toT i && s.healthy 3 (s.steerGroup toT i)

/-- Issue a packet on an entry. -/
def State.issue (s : State) (toT : Bool) (i k : Nat) : State :=
  let g := s.steerGroup toT i
  let x := s.group g
  s.setGroup g { x with flight := x.flight ++ [{ toT := toT, entry := i, packet := k, issued := s.now }] }

/-! ### Arrival (R17, R20, R21) -/

/-- The writer class of a packet that reaches the T die (R276): PON capture for a packet of a PON port, recirculation for a copy
that an action list made, else an ingress writer. -/
def State.classOf (s : State) (p : Packet) : Nat :=
  if p.desc.mirror || p.desc.punt then 3 else if (s.port p.desc.ingress).personality = .pon then 2 else 0

/-- Packets in the egress pipe of a port. -/
def State.pipe (s : State) (port : Nat) : List Nat := look s.ports.pipes port []
/-- Set the packets in the egress pipe of a port. -/
def State.setPipe (s : State) (port : Nat) (l : List Nat) : State :=
  { s with ports := { s.ports with pipes := put s.ports.pipes port [] l } }

/-- A packet reaches the F die again: it waits for its egress-feature pass, or goes to its port's egress pipe (R262, R264). -/
def State.toFdie (s : State) (k : Nat) : State :=
  let p := s.pkt k
  if p.desc.egressPass then
    ({ s with parse := { s.parse with egressWaiting := s.parse.egressWaiting ++ [k] } }).setPkt k { p with egress := true }
  else s.setPipe p.desc.port (s.pipe p.desc.port ++ [k])

/-- A transfer reaches the other die. -/
def State.deliver (s : State) (toT : Bool) (k : Nat) : State :=
  if !(s.pkt k).live then s else if toT then s.toWriter (s.classOf (s.pkt k)) k else s.toFdie k

/-- Take the oldest transfer of a direction out of a list. The spec orders the transfers of one entry and leaves those of different
entries without an order (R20); this model delivers all of one group and direction in the order they were issued. DESIGN CHOICE, log entry 122. -/
def takeTransfer (toT : Bool) : List Transfer → Option (Transfer × List Transfer)
  | [] => none
  | x :: t =>
    if x.toT = toT then some (x, t)
    else
      match takeTransfer toT t with
      | some (y, l) => some (y, x :: l)
      | none => none

/-- Replays of a group within the last 1 ms, with one at this instant. -/
def Group.replayed (x : Group) (now : Nat) : List Nat := (now :: x.replays).filter fun r => now < r + ms 1

/-- A transfer whose CRC failed goes back to the head of its entry's transfers. -/
def replaceTransfer (x y : Transfer) : List Transfer → List Transfer
  | [] => []
  | z :: t => if z = x then y :: t else z :: replaceTransfer x y t

/-- GUYLINE_DELIVER (R17, R20, R21): the oldest transfer of a direction arrives 8 ns after it was sent. A good CRC delivers it; a
bad one replays it from the retry buffer. The failure of a third replay, or a 17th replay within 1 ms, fails the group, which delivers
nothing any more. -/
def execGuylineDeliver (t : Nat) (toT : Bool) (group : Nat) (crcOk : Bool) (s : State) : Host.Outcome State Fault Refusal :=
  let s := s.at_ t
  let x := s.group group
  .next (if s.isOut 3 group then s
    else match takeTransfer toT x.flight with
      | none => s
      | some (y, l) =>
        if s.now < y.issued + ns 8 || x.failed then s
        else if crcOk then (s.setGroup group { x with flight := l }).deliver toT y.packet
        else
          let again := y.tries < 3
          let z : Transfer := { y with tries := min (y.tries + 1) 4, issued := s.now }
          let l := if again then x.replayed s.now else x.replays
          let s := s.setGroup group { flight := replaceTransfer y z x.flight, replays := l, failed := !again || 16 < l.length }
          if again then s.count (2848 + 2 * group) 1 else s)

/-! ### Failure, map-out, return (R21–R23) -/

/-- End the map-out or return in progress of a unit with an answer. -/
def State.endWork (s : State) (kind n : Nat) (st : Status) (detail : Nat) : State :=
  let w := s.units.work.find? fun r => r.1 == kind * 65536 + n
  match w with
  | none => s
  | some (_, w) =>
    ({ s with units := { s.units with work := drop s.units.work (kind * 65536 + n) } }).answer w.cmd st detail 0 []

/-- Entries of a direction whose home a group is and that name another. -/
def State.awayEntries (s : State) (toT : Bool) (g : Nat) : List Nat :=
  (List.range 64).filter fun i => i % 16 = g && s.steerGroup toT i ≠ g

/-- The return of a group in service is complete when it holds every entry whose home it is (R23). -/
def State.settleReturn (g : Nat) (s : State) : State :=
  if ((s.workOf 3 g).any fun w => w.ret) && s.healthy 3 g && s.awayEntries true g = [] && s.awayEntries false g = [] then
    s.endWork 3 g .ok 0
  else s

/-- A group leaves service, its entries rewritten (R22, R23); `lost` packets were in flight on it. Issuing resumes on the entries that no
other map-out or return stops, and returns that have got their last entry by it are complete. -/
def State.groupOut (s : State) (g lost : Nat) (planned : Bool) : State :=
  let s := (((s.respread true g).respread false g).mapOut 3 g 0 0xFFFF lost planned).restop
  each State.settleReturn (List.range 16) s

/-- GUYLINE_GROUP_FAILED (R22): the transfers in flight are lost and counted. -/
def execGuylineGroupFailed (t group : Nat) (s : State) : Host.Outcome State Fault Refusal :=
  let s := s.at_ t
  let x := s.group group
  .next (if s.isOut 3 group || 16 ≤ group || !x.failed then s
    else
      let s := s.count (2849 + 2 * group) x.flight.length
      let s := each (fun (y : Transfer) s => State.dropPkt s y.packet) x.flight (s.setGroup group {})
      let s := s.groupOut group x.flight.length false
      (s.endWork 3 group .hwFault (s.seqOf 3 group)).restop)

/-- GUYLINE_MAPOUT_DRAINED (R23): the group of a planned map-out has delivered every transfer. -/
def execGuylineMapoutDrained (t group : Nat) (s : State) : Host.Outcome State Fault Refusal :=
  let s := s.at_ t
  .next (match s.workOf 3 group with
    | none => s
    | some w =>
      if w.ret || (s.group group).flight ≠ [] then s
      else (s.groupOut group 0 true).endWork 3 group .ok 0)

/-- GUYLINE_ENTRY_RETURN (R23): every transfer issued on the entry has been delivered, and it names its home group again; the
return of the group is complete with its last entry. -/
def execGuylineEntryReturn (t : Nat) (toT : Bool) (idx : Nat) (s : State) : Host.Outcome State Fault Refusal :=
  let s := s.at_ t
  let home := idx % 16
  let ret := (s.workOf 3 home).any fun w => w.ret
  let flight := (s.group (s.steerGroup toT idx)).flight
  .next (if 64 ≤ idx || !ret || s.isOut 3 home || s.steerGroup toT idx = home || !s.stopped toT idx ||
      flight.any (fun x => x.toT = toT && x.entry = idx) then s
    else
      State.settleReturn home (s.setSteer toT idx home).restop)

end Sys2Proof.Machine
end

