-- ==== Sys2Proof/Machine/Path.lean ====
section
/-! DEFINITION. The stages that join the blocks on a packet's way (01 R25, R26): receipt at the MAC, the order buckets, cell
allocation with the checks of R291, enqueue, the end of a selection, and transmission. -/

namespace Sys2Proof.Machine

/-! ### Receipt at the MAC (05 R116, R117, R127; 19 R378) -/

/-- Basecamp takes in-band frames of the port (R455). -/
def State.takesInband (s : State) (port : Nat) : Bool := bit s.fw.inband port && s.dev.mode ≠ .safe && s.dev.mode ≠ .calibrate

/-- A frame behind the decrypt pipeline: Basecamp's, or Trailhead's. -/
def State.rxDecrypted (s : State) (port : Nat) (p : Packet) : State :=
  if s.isInband port p.bytes && s.takesInband port then s.inband port p.bytes else s.toTrailhead port p

/-- A frame that passed the checks of R116. While Trailhead does not dispatch, it is dropped at the MAC (R38), but for a port whose in-band
frames Basecamp takes, which have to be told apart behind the decrypt pipeline. -/
def State.rxGood (s : State) (port : Nat) (b : Bytes) : State :=
  let s := s.countRx port (b.length + 4)
  let p := s.rxPacket port b s.timeNow
  if !s.dispatching && !s.takesInband port then s.rxDrop port 6
  else match s.macsecRx port b with
  | (s, .drop) => s
  | (s, .plain) => s.rxDecrypted port p
  | (s, .decrypted d sa pn pass) =>
    s.rxDecrypted port { p with bytes := d, desc := { p.desc with length := d.length }, sa := some sa, pn := pn, checkPass := pass }

/-- The MAC of a port that is UP receives a frame (R116, R117). A frame with an uncorrectable codeword counts as one with a bad FCS. -/
def State.macReceive (s : State) (port : Nat) (f : RxFrame) : State :=
  let x := s.port port
  if x.state ≠ .up then s
  else match x.rxErr (f.bytes.length + 4) f.fcsOk f.uncorrectable with
  | some i => s.rxDrop port i
  | none => if isPfc f.bytes then s.pfcIn port f.bytes else s.rxGood port f.bytes

/-- ETH_FRAME_RECEIVE (R116, R117). -/
def execEthFrameReceive (t port : Nat) (f : RxFrame) (s : State) : Host.Outcome State Fault Refusal :=
  let s := s.at_ t
  .next (if (s.port port).personality = .ethernet then s.macReceive port f else s)

/-- A packet of a 66b stream, with its FCS and the mark of an error in it, as a frame at the MAC. -/
def macFrame (r : Bytes × Bool) : RxFrame :=
  let b := r.1.take (r.1.length - 4)
  { bytes := b, fcsOk := !r.2 && leAt r.1 b.length 4 = crc32 b, uncorrectable := false }

/-- ELI_FRAME_RECEIVE (R133, R135, R151): the packets in the LOCAL slots come to the port's MAC, the overhead and the slots act on the
port, and the EXPRESS slots feed their groups. -/
def execEliFrameReceive (t port : Nat) (f : EliFrame) (s : State) : Host.Outcome State Fault Refusal :=
  let s := s.at_ t
  let x := s.eliPort port
  .next (if s.eliOn port && x.rx.inFrame then
      let r := x.frame f
      let s := each (fun p s => State.macReceive s port (macFrame p)) r.2 s
      (s.eliSet port r.1).expressIn port (framePlain f)
    else s)

/-! ### The order buckets (R158) -/

/-- A packet leaves its order bucket: to Guyline, with the fill of its pass (R250), or to the egress pipe after its
egress-feature pass. -/
def State.onward (k : Nat) (s : State) : State :=
  let p := s.pkt k
  if p.egress then s.setPipe p.desc.port (s.pipe p.desc.port ++ [k])
  else
    let s := match p.fill with
      | some f => (s.setPkt k { p with fill := none }).queueFill p.cluster f
      | none => s
    s.issue true (queueEntry p.desc.queue) k

/-- ORDER_BUCKET_RELEASE (R158): a packet waits while issuing on its steering entry is stopped (R23). -/
def execOrderBucketRelease (t cluster bucket : Nat) (s : State) : Host.Outcome State Fault Refusal :=
  let s := s.at_ t
  .next (match s.bucket cluster bucket with
    | [] => s
    | k :: _ =>
      let p := s.pkt k
      if !p.egress && !s.canIssue true (queueEntry p.desc.queue) then s else s.releaseBucket cluster bucket State.onward)

/-! ### Cells and the checks of R291 -/

/-- A waiting row of the present TCLK cycle sets a queue's state: it comes before an enqueue of that cycle (R309). -/
def State.queueAhead (s : State) : Instr → State
  | .queueState t c => if t / 4 ≤ s.tclk then (match execQueueState t c s with
      | .next y => y
      | _ => s) else s
  | _ => s

/-- Checks 1 and 2 of R291 and the special queues of R304 and R335: the QUEUE_STATS counter of a packet that fails. -/
def State.admitErr (s : State) (p : Packet) : Option Nat :=
  let qn := p.desc.queue
  let q := (s.pending.foldl State.queueAhead s).queue qn
  let shut := match s.rootOf (nodeKey 4 qn) with
    | none => true
    | some a => (128 ≤ a && a < 176) || (176 ≤ a && !(s.voq qn).mapped)
  if q.state ≠ .opened || shut then some 4
  else if q.maxCells ≠ 0 && q.maxCells < q.depth + (p.desc.length + 255) / 256 then some 5
  else none

/-- Checks 1 to 3 of R291 for the packet of a writer, and what the grant engine learns of it (R372). -/
def State.takeCells (s : State) (r k : Nat) : State × Bool :=
  let cls := writerClass r
  let s := if cls = 2 then s.learnGrant k else s
  match s.admitErr (s.pkt k) with
  | some i => (s.countQueue (s.pkt k).desc.queue i 1, false)
  | none =>
    match s.police cls k with
    | (s, false) => (s, false)
    | (s, true) => s.congest k

/-- The memory that a packet's first cell asks for (R280): the queue's decision is kept, and the writer with it. -/
def State.decideSpill (s : State) (r k : Nat) : State :=
  let qn := (s.pkt k).desc.queue
  let q := s.spill (s.queue qn)
  (s.setQueue qn q).setWriter r { s.writer r with far := q.spilling, decided := true }

/-- What is wrong with a pointer taken from a ring or cache (R282): it is corrupt, or its cell is allocated. It is discarded, and
its requester asks again in the next TCLK. -/
def State.badPointer (s : State) (a : Nat) : Option Nat := if !validCell a then some 3 else if (s.cell a).used then some 2 else none

/-- The cell request of a writer's packet (R275–R277). -/
def State.askCell (s : State) (pool r k : Nat) : State :=
  let p := s.pkt k
  let acct := (s.queue p.desc.queue).account
  if !s.quota acct then s.refuse r k false
  else
    match s.grant pool (s.writer r).far with
    | some (a, s) =>
      match s.badPointer a with
      | some kind => s.bufError kind a
      | none => ((s.charge a acct p.desc.ingress (cellBytes p.desc.length p.cells.length)).link k a).cellAccess a 0
    | none => s.refuse r k true

/-- A writer in a pool's TCLK: the checks of R291 come with the first request, and a packet that they drop takes no cell. -/
def State.serveWriter (s : State) (pool r : Nat) : State :=
  let w := s.writer r
  let k := w.packet
  let p := s.pkt k
  if !w.busy || (s.account (s.queue p.desc.queue).account).pool ≠ pool || p.desc.length ≤ 256 * p.cells.length then s
  else if w.decided then s.askCell pool r k
  else
    match s.takeCells r k with
    | (s, false) => (s.dropPkt k).setWriter r {}
    | (s, true) => (s.decideSpill r k).askCell pool r k

/-- Host injection in a pool's TCLK: a request that finds no cell, or fails the quota, waits. -/
def State.serveHost (s : State) (pool : Nat) (x : CellReq) : State :=
  let acct := (s.queue x.queue).account
  let wait (s : State) : State := s.setPool pool { s.pool pool with counters := bump (s.pool pool).counters 5 1 }
  if (s.account acct).pool ≠ pool then s
  else if s.quota acct then
    match s.grant pool x.far with
    | some (a, s) =>
      match s.badPointer a with
      | some kind => s.bufError kind a
      | none => s.charge a acct 255 256
    | none => wait s
  else wait s

/-- One requester of a pool's TCLK. -/
def State.serve (pool : Nat) (reqs : List CellReq) (r : Nat) (s : State) : State :=
  match reqs.find? fun x => x.requester = r with
  | none => s
  | some x => if r = 46 then s.serveHost pool x else s.serveWriter pool r

/-- A pool's allocator has served the present TCLK cycle (R276). -/
def State.servedNow (s : State) (pool : Nat) : Bool := look s.buf.served pool 0 = s.tclk + 1

/-- A pool's allocator has served the present TCLK cycle. -/
def State.noteServed (s : State) (pool : Nat) : State :=
  { s with buf := { s.buf with served := put s.buf.served pool 0 (s.tclk + 1) } }

/-- CELL_ALLOCATE (R276): one TCLK of a pool's allocator, once in a cycle; the cells that its drops give back are freed at its end
(R273). -/
def execCellAllocate (t pool : Nat) (reqs : List CellReq) (s : State) : Host.Outcome State Fault Refusal :=
  let s := s.at_ t
  let old := s.buf.frees
  .next (if s.servedNow pool then s.endCycle
    else
      let s := { s with buf := { s.buf with frees := [] } }
      let s := each (State.serve pool reqs) (allocOrder s.tclk) s
      let s := (each State.freeCell s.buf.frees { s with buf := { s.buf with frees := old } }).endCycle
      (each (fun c s => State.feedWriters s c) [0, 1, 2, 3] s).noteServed pool)

/-- The port of a queue is not UP and drops what it is given (R121). -/
def State.flushes (s : State) (qn : Nat) : Option Nat :=
  match s.rootOf (nodeKey 4 qn) with
  | some a => if a < 128 && (s.port a).state ≠ .up && (s.port a).cfg.downFlush then some a else none
  | none => none

/-- A packet enters its queue (R313, R324, R325, R337). -/
def State.putQueue (s : State) (k : Nat) : State :=
  let p := s.pkt k
  let qn := p.desc.queue
  let q := (s.queue qn).roll s.epoch
  let q := { q with packets := q.packets ++ [k], depth := q.depth + (p.desc.length + 255) / 256,
                    counters := bump (bump q.counters 0 1) 1 (p.desc.length + 4) }
  let s := (s.setQueue qn (q.raise s.tclk)).setPkt k { p with accepted := s.now }
  let far := p.cells.head?.any isFar
  let a := s.account q.account
  (s.setAccount q.account { a with counters := bump a.counters (if far then 6 else 5) 1 }).noteDemand qn

/-- ENQUEUE (R291, R383, R309): the last cell of a writer's packet is written. An untrusted packet is dropped, as is one whose
queue was closed meanwhile. -/
def execEnqueue (t requester : Nat) (s : State) : Host.Outcome State Fault Refusal :=
  let s := s.at_ t
  let w := s.writer requester
  let k := w.packet
  let p := s.pkt k
  let qn := p.desc.queue
  let shut := s.admitErr { p with desc := { p.desc with length := 0 } } = some 4
  .next (if !w.busy || !w.decided || !p.live || 256 * p.cells.length < p.desc.length then s
    else
      let s := s.setWriter requester {}
      let s := if p.untrusted then s.discard k
        else if shut then (s.countQueue qn 4 1).discard k
        else match s.flushes qn with
          | some a => (s.rxDrop a 13).discard k
          | none => s.putQueue k
      s.feedWriters (writerClass requester))

/-- TOKEN_REFILL (R294): the buckets of every node and policer stand filled at the present cycle. -/
def execTokenRefill (t : Nat) (s : State) : Host.Outcome State Fault Refusal :=
  let s := (s.at_ t).refillNodes
  .next (each (fun k s => State.setPolicer s k ((s.policer k).refill s.tclk)) (s.pol.policers.map fun r => r.1) s)

/-! ### The end of a selection (R299, R324) -/

/-- A packet whose chain holds a lost cell is dropped when it is read (R269, R284). -/
def State.dropLost (s : State) (q k : Nat) : State :=
  let cs := (s.pkt k).cells.filter fun a => (s.cell a).lost
  let s := match cs.find? isFar with
    | some a =>
      let i := (s.cell a).account
      let x := s.account i
      s.setAccount i { x with counters := bump x.counters 7 1 }
    | none => s
  (s.discard k).noteDemand q

/-- A packet of a virtual output queue goes to the fabric (R333, R335): to the device's own fabric receive, with the debit of its
cells and their freeing, or to the links. -/
def State.toFabric (s : State) (k qn : Nat) : State :=
  let p := s.pkt k
  let v := s.voq qn
  let b := descBytes p.desc ++ p.bytes
  if v.device = s.fab.device then
    let s := (s.setVoq qn { v with balance := v.balance - 256 * dataCells p.desc.length }).noteDemand qn
    let n := s.nextId
    let s := ({ s with buf := { s.buf with frees := s.buf.frees ++ p.cells } }).fabDeliver b v.dstQueue
    (s.setPkt n { s.pkt n with rxCycle := p.rxCycle }).dropPkt k
  else
    let o : OutPacket := { packet := k, voq := qn, device := v.device, queue := v.dstQueue, first := true, rest := b }
    State.noteDemand { s with fab := { s.fab with sending := s.fab.sending ++ [o] } } qn

/-- A packet is read and sent toward the F die (R25): it leaves at the port of the level-A node, and its cells go back. -/
def State.toEgress (s : State) (k a : Nat) : State :=
  let p := s.pkt k
  let s := s.setPkt k { p with cells := [], desc := { p.desc with port := a } }
  ({ s with buf := { s.buf with frees := s.buf.frees ++ p.cells } }).issue false (portEntry a) k

/-- The head packet of a selected queue leaves (R299, R313, R373). -/
def State.sendHead (s : State) (x : Selection) (k : Nat) : State :=
  let p := s.pkt k
  let q := s.queue x.queue
  let n := p.desc.length
  let s := s.setQueue x.queue { q with counters := bump (bump q.counters 2 1) 3 (n + 4) }
  let s := (debitPath n x.path (nodeKey 0 x.node) s).leaveQueue x.queue k
  let s := { s with pon := { s.pon with gauges := put s.pon.gauges x.node 0 (s.now - p.accepted) } }
  if p.cells.any fun a => (s.cell a).lost then s.dropLost x.queue k
  else
    let s := each (fun a s => State.cellAccess s a (k + 1)) p.cells s
    if 176 ≤ x.node then s.toFabric k x.queue else s.toEgress k x.node

/-- A head packet whose sojourn has reached the queue's limit (R324). -/
def State.overSojourn (s : State) (q k : Nat) : Bool :=
  (s.queue q).sojournUs ≠ 0 && decide (us (s.queue q).sojournUs ≤ s.now - (s.pkt k).accepted)

/-- SELECTION_COMPLETE (R299, R300, R324): the oldest selection of a slice. It waits while issuing on the packet's steering entry
is stopped (R23). -/
def execSelectionComplete (t slice : Nat) (s : State) : Host.Outcome State Fault Refusal :=
  let s := s.at_ t
  .next (match s.tm.selections.find? fun x => x.slice = slice with
    | none => s
    | some x =>
      let s1 := { s with tm := { s.tm with selections := s.tm.selections.erase x } }
      match (s.queue x.queue).packets with
      | [] => s1
      | k :: _ =>
        if s.overSojourn x.queue k then
          ((s1.countCong x.queue 6).dropQueued x.queue k).count (2889 + 2 * slice) 1
        else if x.node < 128 && !s.canIssue false (portEntry x.node) then s
        else s1.sendHead x k)

/-! ### Transmission (R262, R385, R397–R403) -/

/-- The egress stamp of a frame on a port in 2^−40 ns (R397, R398). The offset of a frame in a downstream PON frame is free. -/
def State.txStamp (s : State) (port : Nat) : State × Nat :=
  let x := s.port port
  let v := if x.personality = .pon then (s.ponTree x.tree).frameTime + Config.freeValue s.free * 2 ^ 24 else s.timeNow
  (if x.personality = .pon then s.drawn else s, ((v : Int) + (s.portTime port).txAdj * 2 ^ 24).toNat)

/-- The residence of a packet in 2^−16 ns (R400, R401): a step between its stamps, which the stamps of its own
cycle precede (R396), is taken out. -/
def State.residence (s : State) (p : Packet) (egress : Nat) : Int :=
  let r : Int := (egress / 2 ^ 24 : Nat) - (p.desc.stamp / 2 ^ 24 : Nat)
  match s.time.stepCycle with
  | some c => if p.rxCycle ≤ c && c < s.tsclk then r - s.time.stepAmount / 2 ^ 24 else r
  | none => r

/-- The largest correction, which stands for a residence that cannot be added (R401). -/
def correctionMax : Nat := 0x7FFFFFFFFFFFFFFF

/-- The new correctionField, and whether it saturated (R400, R401). -/
def correctField (old : Nat) (r : Int) : Nat × Bool :=
  let v := signed 64 old + r
  if r < 0 || 1000000000 * 2 ^ 16 ≤ r || (2 ^ 63 : Int) ≤ v then (correctionMax, true) else (unsigned 64 v, false)

/-- The words of the correctionField at an offset. -/
def fieldWords (o : Nat) : List (Bytes → Nat) := (List.range 4).map fun i => fun b => beAt b (o + 2 * i) 2

/-- A word with its bytes swapped where `odd` says so. -/
def swapIf (odd : Bool) (v : Nat) : Nat := if odd then v % 256 * 256 + v / 256 else v

/-- The two-byte trailer of kind 3: it takes up what the correction changed. -/
def trailerFix (o : Nat) (old new : Bytes) : Bytes :=
  let n := new.length - 2
  let odd := (n - o) % 2 = 1
  let v := (fieldWords o).foldl (fun x f => if f old = f new then x else onesReplace x (f new) (f old)) (swapIf odd (beAt new n 2))
  overlay new n (beBytes 2 (swapIf odd v))

/-- The checksum of a corrected frame by its kind (R400). -/
def fixKind (kind o : Nat) (old new : Bytes) : Bytes :=
  match kind with
  | 1 => fixChecksum (fieldWords o) old new (o - 10) true
  | 2 =>
    let b := fixChecksum (fieldWords o) old new (o - 10) false
    if beAt b (o - 10) 2 = 0 then overlay b (o - 10) [0xFF, 0xFF] else b
  | 3 => trailerFix o old new
  | _ => new

/-- The bytes that a correction of a kind names lie in the frame. -/
def ptpFits (kind o len : Nat) : Bool := (if kind = 1 || kind = 2 then 10 else 8) ≤ o && o + 8 ≤ len

/-- Take a two-step record (R403). -/
def State.capturePtp (s : State) (port o stamp : Nat) (b : Bytes) : State :=
  s.captureTs port { stamp := stamp, msgType := byteAt b (o - 8) % 16, domain := byteAt b (o - 4), seqId := beAt b (o + 22) 2 }

/-- The correction and the two-step capture of a frame (R400–R403): the state and the frame to send. -/
def State.correct (s : State) (port : Nat) (p : Packet) : State × Bytes :=
  let o := p.desc.ptpOffset
  let k := p.desc.ptpKind
  let b := p.bytes
  if o = 0xFFFF then (s, b)
  else if 6 ≤ k || !ptpFits k o b.length then ({ s with time := { s.time with unchanged := s.time.unchanged + 1 } }, b)
  else
    let (s, stamp) := s.txStamp port
    let s := if 4 ≤ k then s.capturePtp port o stamp b else s
    if k = 4 then (s, b)
    else
      let (v, sat) := correctField (beAt b o 8) (s.residence p stamp)
      let s := if sat then { s with time := { s.time with saturated := s.time.saturated + 1 } } else s
      (s, fixKind k o b (overlay b o (beBytes 8 v)))

/-- The key index of a downstream XGEM frame, and the key (R363): 0 where the entry does not encrypt; none where its index names
no slot. -/
def State.downKey (s : State) (t : Nat) (e : XgemEntry) : Option (Nat × Option Nat) :=
  let x := s.ponTree t
  let o := s.onu t e.onu
  let i := (if e.onu = 0xFF then x.bcastActive else o.active) + 1
  if !bit e.flags 0 then some (0, none)
  else
    let k := if e.onu = 0xFF then
        (match if i = 1 then x.bcast1 else x.bcast2 with
          | 0 => none
          | n + 1 => if (look s.dom.keys n {}).kind ≠ 0 then some (look s.dom.keys n {}).key else none)
      else s.onuKey t e.onu i
    k.map fun v => (i, some v)

/-- The downstream frame in front of a port's pipe waits for a core of its tree's group (R386). -/
def State.waitsCore (s : State) (port : Nat) (b : Bytes) : Bool :=
  let t := (s.port port).tree
  (s.port port).personality = .pon && !s.ponCores t &&
    match s.xgemOf t (beAt b 2 2) with
    | some e => bit e.flags 0
    | none => false

/-- A downstream PON frame (R352, R363): its tag is stripped, and the frame leaves on the XGEM port that the tag names. -/
def State.transmitPon (s : State) (port : Nat) (b : Bytes) (stomp : Bool) : State :=
  let t := (s.port port).tree
  let id := beAt b 2 2
  let out := match s.xgemOf t id with
    | some e => if byteAt b 0 = 0x5C && byteAt b 1 / 64 = 1 then s.downKey t e else none
    | none => none
  match out with
  | none => s.countPon t 5 1
  | some (i, key) =>
    let f := pad60 (b.drop 8)
    let f := f ++ fcsOf f stomp
    let x := s.port port
    let s := s.setPort port { x with counters := bump (bump x.counters 7 1) 8 f.length }
    let data := match key with
      | some k => (f.zip (List.range f.length)).map fun r => r.1 ^^^ Config.ponStream k (s.ponTree t).sfc id r.2
      | none => f
    (if stomp then s.countCport port 6 else s).emit (.xgem t id i data)

/-- The egress pipe sends a frame by its port's personality. -/
def State.send (s : State) (port : Nat) (b : Bytes) (stomp : Bool) : State :=
  if (s.port port).personality = .pon then s.transmitPon port b stomp else s.transmit port b stomp

/-- FRAME_TRANSMIT (R119, R262): the oldest packet in a port's egress pipe; a port that is not UP sends no data frame, and its pipe waits; a PON
port sends while its tree frames. -/
def execFrameTransmit (t port : Nat) (s : State) : Host.Outcome State Fault Refusal :=
  let s := s.at_ t
  let x := s.port port
  .next (match s.pipe port with
    | [] => s
    | k :: l =>
      let p := s.pkt k
      let s1 := (s.setPipe port l).dropPkt k
      if !p.live || x.personality = .none then s1
      else if x.state ≠ .up || (x.personality = .pon && !s.frames x.tree) || s.waitsCore port p.bytes then s
      else
        let r := s1.correct port p
        r.1.send port r.2 p.stomp)

end Sys2Proof.Machine
end

