-- ==== Sys2Proof/Machine/Lantern.lean ====
section
/-! DEFINITION. Reading, clearing and setting the mode of Lantern counters (22_lantern_counters.md). -/

namespace Sys2Proof.Machine

/-- The group of a counter (R431). -/
def lantGroup (i : Nat) : Nat :=
  if i < 2048 then i / 16
  else if i < 2560 then 128 + (i - 2048) / 32
  else if i < 2816 then 144 + (i - 2560) / 16
  else 160 + (i - 2816) / 8

/-- The counters of a group, in index order (R431). -/
def lantMembers (g : Nat) : List Nat :=
  if g < 128 then (List.range 16).map fun i => 16 * g + i
  else if g < 144 then (List.range 32).map fun i => 2048 + 32 * (g - 128) + i
  else if g < 160 then (List.range 16).map fun i => 2560 + 16 * (g - 144) + i
  else (List.range 8).map fun i => 2816 + 8 * (g - 160) + i

/-- An index of the mode range that is reserved (R431). -/
def lantReserved (i : Nat) : Bool :=
  (2560 ≤ i && i < 2816 && i % 16 = 15) || (2882 ≤ i && i < 2888) || (3228 ≤ i && i < 3232)

/-- A host reads a counter: it holds the group's owner, or a debug session with scope bit 5 is open for it (R433, R106). -/
def State.lantReads (s : State) (h i : Nat) : Bool :=
  s.holds h (s.owner 5 (lantGroup i)) ||
    match s.dom.session with
    | some x => x.viaHost && bit x.scope 5 && h = s.dom.principal
    | none => false

/-- LANT_CNT_LO_READ (R433): bits 31:0; an aligned read latches bits 55:32 for the host. -/
def execLantCntLoRead (t : Nat) (r : RegRead) (s : State) : Host.Outcome State Fault Refusal :=
  let s := s.at_ t
  let i := (r.addr - 0x02C00000) / 8
  let v := (s.counter i).value
  .next (if r.addr < 0x02C00000 || 3584 ≤ i || !readHits r (0x02C00000 + 8 * i) || !s.answers r.host then s
    else if s.lantReads r.host i then
      let s1 := s.emit (.read r.host (readPart r (v % 2 ^ 32)))
      if readAligned r then s1.setHostPort r.host { s1.hostPort r.host with lantHi := v / 2 ^ 32 } else s1
    else s.emit (.read r.host 0))

/-- Set a counter to 0, keeping its mode. -/
def State.clearCounter (i : Nat) (s : State) : State := { s with lant := put s.lant i {} { s.counter i with value := 0 } }

/-- LANT_READ (R434). -/
def execLantRead (t : Nat) (c : Cmd) (s : State) : Host.Outcome State Fault Refusal :=
  let s := s.at_ t
  let l := lantMembers (c.u8 16)
  .next (s.command 0x1000 c .any [c.needReply, s.ownErr c 5 (c.u8 16), at_ 17 (c.u8 17 ≤ 1), c.zeros 18 46]
    { s := if c.u8 17 = 1 then each State.clearCounter l s else s, result := 8 * l.length,
      long := l.flatMap fun i => leBytes 8 (s.counter i).value })

/-- LANT_MODE (R427). -/
def execLantMode (t : Nat) (c : Cmd) (s : State) : Host.Outcome State Fault Refusal :=
  let s := s.at_ t
  let i := c.u16 16
  .next (s.command 0x1001 c .any
    [at_ 16 (i ≤ 3583), s.ownErr c 5 (lantGroup i), at_ 16 (2560 ≤ i && i ≤ 3423 && !lantReserved i), at_ 18 (c.u8 18 ≤ 1), c.zeros 19 45]
    { s := { s with lant := put s.lant i {} { level := c.u8 18 = 1 } } })

end Sys2Proof.Machine
end

