-- ==== Sys2Proof/Machine/Domains.lean ====
section
/-! DEFINITION. Domains, ownership, principal succession, the key store and debug sessions (04_domains_and_secrecy.md). -/

namespace Sys2Proof.Machine

/-! ### Resources at their reset values (R11, R93) -/

/-- Unmap the window pages that `p` selects by host and page (R62). -/
def State.unmap (s : State) (p : Nat → WinPage → Bool) : State :=
  { s with host := { s.host with windows := keepRows s.host.windows fun k w => !p (k / 4096) w } }

/-- A level-A node at its reset values; its children stay attached (R93, R287). -/
def State.resetRoot (s : State) (a : Nat) : State :=
  let n := s.node (nodeKey 0 a)
  s.setNode (nodeKey 0 a) { live := n.live, rings := n.rings, filled := n.filled }

/-- A lane's settings at their reset values; what its receiver sees stays. -/
def State.resetLane (l : Nat) (s : State) : State := s.setLane l { s.lane l with invert := 0, taps := [] }

/-- A port at its reset values: down, unmapped, with its ELI personality, its settings in every block and its packets gone. -/
def State.resetPort (p : Nat) (s : State) : State :=
  let gone := look s.ports.pipes p [] ++ look s.parse.waiting p []
  let s := each (fun k s => State.dropPkt s k) gone s
  let s := each State.resetLane (s.port p).lanes (s.setEnable p false)
  let x := s.learnPort p
  let s := (s.setPort p {}).setLearnPort p { charge := x.charge }
  let s := (s.setCport p {}).resetRoot p
  { s with ports := { s.ports with pipes := put s.ports.pipes p [] [] },
           eli := { port := put s.eli.port p {} {}, express := keepRows s.eli.express fun k g => k / 128 ≠ p && g.src ≠ p },
           parse := { s.parse with waiting := put s.parse.waiting p [] [], ports := put s.parse.ports p {} {},
                                   counters := keepRows s.parse.counters fun k _ => k / 8 ≠ p },
           cipher := { s.cipher with macSas := keepRows s.cipher.macSas fun _ a => a.port ≠ p,
                                     replacing := keepRows s.cipher.replacing fun k _ => k / 2 ≠ p },
           fab := { s.fab with portCredit := put s.fab.portCredit p {} {} },
           time := { s.time with ports := put s.time.ports p {} {} },
           fw := { s.fw with inband := s.fw.inband - (if bit s.fw.inband p then 2 ^ p else 0) } }

/-- A queue loses its backlog, closes and leaves its parent (R290). -/
def State.killQueue (q : Nat) (s : State) : State :=
  let s := s.drainQueueWith id q
  let s := { s with tm := { s.tm with selections := s.tm.selections.filter fun x => x.queue ≠ q } }
  let s := if (s.node (nodeKey 4 q)).live then s.detach (nodeKey 4 q) else s
  (s.setQueue q { s.queue q with state := .closed }).setNode (nodeKey 4 q) {}

/-- A queue at its reset values (R290, R285, R327, R344). -/
def State.resetQueue (q : Nat) (s : State) : State := ((s.killQueue q).setQueue q {}).setVoq q {}

/-- A TABLE_DMA that started before its table goes runs to its end (R93). -/
def finishDma : Nat → State → State
  | 0, s => s
  | n + 1, s =>
    match s.tables.dma with
    | none => s
    | some d => finishDma n (s.moveBucket d)

/-- The table is deleted, after a DMA that runs on it. -/
def State.resetTable (k : Nat) (s : State) : State :=
  let s := match s.tables.dma with
    | some d => if d.table = k then finishDma (d.count - d.moved) s else s
    | none => s
  State.destroyTable k s

/-- A partition at its reset values: its tables, decision trees, automata sets and profile-table entries are gone (R93, R174). -/
def State.resetPartition (k : Nat) (s : State) : State :=
  let ts := (s.tables.tables.filter fun r => r.2.live && r.2.partition = k).map fun r => r.1
  let s := each State.resetTable ts s
  { s with parse := { s.parse with trees := keepRows s.parse.trees fun _ x => x.partition ≠ k,
                                   sets := keepRows s.parse.sets fun _ x => x.partition ≠ k },
           tables := { s.tables with leafCache := s.tables.leafCache.filter fun l => !ts.contains l.2.1 },
           eng := { s.eng with tables := keepRows s.eng.tables fun i _ => i / 2 ^ 32 / 64 ≠ k },
           act := { s.act with lists := keepRows s.act.lists fun p _ => p / 2 ^ 20 ≠ k,
                               missing := s.act.missing.filter fun p => p / 2 ^ 20 ≠ k,
                               lost := s.act.lost.filter fun p => p / 2 ^ 20 ≠ k } }

/-- Updates of an array that have started run to their end; searches that have started see each step as R210 says. -/
def finishUpdates (k : Nat) : Nat → State → State
  | 0, s => s
  | n + 1, s =>
    match (s.array k).work with
    | none => s
    | some w => finishUpdates k n ((s.settleSearches k s.cclk).updateStep k w)

/-- The steps that are left of an array's updates. -/
def AArray.stepsLeft (a : AArray) : Nat := 3 * (((a.work.toList ++ a.later).map fun w => w.count - w.index).sum)

/-- A block moves: its array is deleted (R204); with `clear` every row of it is invalidated. -/
def State.freeBlock (b : Nat) (clear : Bool) (s : State) : State :=
  match s.arrayOf b with
  | none => s
  | some k => (finishUpdates k (s.array k).stepsLeft s).deleteArray k clear

/-- A tree of the PON at its reset values (R364, R375). -/
def State.resetTree (t : Nat) (s : State) : State :=
  let s := match (s.ponTree t).bcastSwitch with
    | some (c, _, _) => s.answer c .notFound 0 0 []
    | none => s
  let s := each (fun i s => State.removeOnu s t i) ((s.onusOf t).map fun r => r.1) s
  let s := (s.setPonTree t {}).resetRoot (128 + t)
  { s with pon := { s.pon with xgems := keepRows s.pon.xgems fun _ x => x.tree ≠ t,
                               entries := keepRows s.pon.entries fun _ x => x.tree ≠ t },
           host := { s.host with regions := keepRows s.host.regions fun k _ => k / 2 ^ 40 ≠ 0xC00 + t } }

/-- Zeroise a key slot: every SA that names it becomes invalid (R387). -/
def State.zeroise (k : Nat) (s : State) : State :=
  ({ s with dom := { s.dom with keys := put s.dom.keys k {} {} } }).slotGone k

/-- A resource returns to its reset values (R93). -/
def State.resetResource (type id : Nat) (s : State) : State :=
  match type with
  | 1 => s.resetPort id
  | 2 => s.resetQueue id
  | 3 => s.resetPartition id
  | 4 => (State.clearBlock id (s.freeBlock id true)).setAblock id {}
  | 5 => { s with lant := keepRows s.lant fun i _ => lantGroup i ≠ id }
  | 6 => s.setPolicer id {}
  | 7 => s.resetTree id
  | 8 => s.zeroise id
  | _ => s

/-- A resource passes to a domain (R93): a block's array is deleted whatever `clear` holds (R204), a key slot is zeroised when it
changes owner, and pages of a tree's region are unmapped. -/
def State.assign (type dest : Nat) (clear : Bool) (id : Nat) (s : State) : State :=
  let moves := s.owner type id ≠ dest
  let s := if clear then s.resetResource type id
    else if type = 4 && moves then s.freeBlock id false
    else if type = 8 && moves then s.zeroise id
    else s
  let s := if type = 7 && moves then s.unmap fun _ w => w.region = 0xC00 + id else s
  { s with dom := { s.dom with owner := put s.dom.owner (type * 2 ^ 24 + id) 0 dest } }

/-- The domain may hold a counter group (R432). -/
def groupMay (g d : Nat) : Bool := d = 0 || (128 ≤ g && g < 160 && (g - 128) % 16 = d)

/-- The checks of RESOURCE_ASSIGN (R91, R93, R432). -/
def resourceAssignErrs (c : Cmd) (s : State) : List (Option Err) :=
  let ty := c.u8 16
  let f := c.u32 20
  let n := c.u32 24
  [need (c.host = s.dom.principal) denied, at_ 16 (1 ≤ ty && ty ≤ 8), at_ 17 (c.u8 17 < 16 && (s.domain (c.u8 17)).live),
   at_ 18 (c.u8 18 ≤ 1), c.zeros 19 1, need (f < resourceRange ty) denied, at_ 24 (1 ≤ n),
   need (f + n ≤ resourceRange ty) denied, c.zeros 28 36,
   need (ty ≠ 5 || (rangeOf f n).all fun g => groupMay g (c.u8 17)) (refusedWith 1)]

/-- RESOURCE_ASSIGN (R91, R93). -/
def execResourceAssign (t : Nat) (c : Cmd) (s : State) : Host.Outcome State Fault Refusal :=
  let s := s.at_ t
  let ty := c.u8 16
  let f := c.u32 20
  let n := c.u32 24
  .next (s.command 0x0101 c .d0 (resourceAssignErrs c s)
    { s := each (State.assign ty (c.u8 17) (c.u8 18 = 1)) (rangeOf f n) s })

/-! ### Domains (R88–R94) -/

/-- Release the key lock where `p` holds of its host and domain (R104). -/
def State.releaseLock (s : State) (p : Nat → Nat → Bool) : State :=
  match s.dom.lock with
  | some l => if p l.host l.domain then { s with dom := { s.dom with lock := none } } else s
  | none => s

/-- The resources of a domain, as type and identifier. -/
def State.resourcesOf (s : State) (d : Nat) : List (Nat × Nat) :=
  (s.dom.owner.filter fun r => r.2 = d).map fun r => (r.1 / 2 ^ 24, r.1 % 2 ^ 24)

/-- A node of a destroyed domain is deleted; a queue left under it is closed and detached (R289). -/
def State.purgeNode (k : Nat) (s : State) : State :=
  let leave (n : Nat) (s : State) : State := if levelOf n = 4 then State.killQueue (idOf n) s else (s.detach n)
  (each leave (s.children k) s).deleteNode k

/-- The B, C and D nodes of a domain, lowest level first. -/
def State.nodesOf (s : State) (d : Nat) : List Nat :=
  ((s.tm.nodes.filter fun r => r.2.live && r.2.owner = d && 1 ≤ levelOf r.1 && levelOf r.1 ≤ 3).map fun r => r.1).reverse

/-- A domain's own things are gone: nodes, attach masks (R289), Scout segments (R242), profiles, selections and the observer's ring
(R327). -/
def State.purgeDomain (s : State) (d : Nat) : State :=
  let s := each State.purgeNode (s.nodesOf d) s
  let cut (n : Node) : Node := if bit n.attachMask d then { n with attachMask := n.attachMask - 2 ^ d } else n
  let s := { s with tm := { s.tm with nodes := s.tm.nodes.map fun (r : Nat × Node) => (r.1, if levelOf r.1 = 0 then cut r.2 else r.2) } }
  let s := each (fun g s => if s.segOwner g = d then State.moveSegment 0 g s else s) (List.range 64) s
  let s := each (fun q s => State.setQueue s q { s.queue q with selected := false }) (s.selectedOf d) s
  { s with pol := { s.pol with profiles := keepRows s.pol.profiles fun _ p => p.owner ≠ d, obs := put s.pol.obs d {} {} },
           host := { s.host with regions := keepRows s.host.regions fun k _ => k / 2 ^ 40 ≠ obsRegion d } }

/-- Destroy a domain (R94): its resources return to D0 at their reset values, its window pages are unmapped, its lock is released,
its epoch increments (R90). -/
def State.destroyDomain (s : State) (d : Nat) : State :=
  let s := s.purgeDomain d
  let s := each (fun (r : Nat × Nat) s => State.assign r.1 0 true r.2 s) (s.resourcesOf d) s
  let s := (s.unmap fun _ w => w.domain = d || w.region = obsRegion d).releaseLock fun _ x => x = d
  let s := { s with fw := { s.fw with epochs := put s.fw.epochs d 0 ((look s.fw.epochs d 0 + 1) % 2 ^ 32) },
                    dom := { s.dom with orphans := s.dom.orphans.filter (· ≠ d) } }
  s.setDomain d {}

/-- A domain passes to another host (R94). -/
def State.moveDomain (s : State) (d h : Nat) : State :=
  let x := s.domain d
  if x.host = some h then s
  else
    let s := ((s.unmap fun _ w => w.domain = d).releaseLock fun _ k => k = d).setDomain d { x with host := some h }
    { s with dom := { s.dom with orphans := s.dom.orphans.filter (· ≠ d) } }

/-- DOMAIN_SET (R88–R94). -/
def execDomainSet (t : Nat) (c : Cmd) (s : State) : Host.Outcome State Fault Refusal :=
  let s := s.at_ t
  let op := c.u8 16
  let d := c.u8 17
  let h := c.u8 18
  .next (s.command 0x0100 c .d0
    [need (c.host = s.dom.principal) denied, at_ 16 (op ≤ 2), at_ 17 (1 ≤ d && d < 16 && (s.domain d).live = decide (op ≠ 0)),
     at_ 18 (if op = 1 then h = 0 else h < 4), c.zeros 19 45]
    { s := match op with
        | 0 => s.setDomain d { live := true, host := some h }
        | 1 => s.destroyDomain d
        | _ => s.moveDomain d h })

/-! ### Principal succession (R96–R99) -/

/-- SEC_PRINCIPAL changes (R97): change_seq increments and PRINCIPAL_CHANGE goes to every host. The timeout runs anew for whoever holds D0
now: of a succession the spec does not say so. DESIGN CHOICE, log entry 39. -/
def State.principalChange (s : State) (h : Nat) (valid : Bool) (reason : Nat) : State :=
  let q := (s.dom.changeSeq + 1) % 256
  let s := { s with dom := { s.dom with principal := h, valid := valid, changeSeq := q, beat := s.now } }
  s.eventAll 0x01F0 (h + 16 * b2n (!valid) + 256 * reason) q

/-- The first successor whose host port has a trained link and that did not lose D0 (R97). -/
def State.successor (s : State) : Option Nat :=
  s.dom.successors.find? fun h => h < 4 && h ≠ s.dom.principal && (s.hostPort h).link

/-- The domains that no host holds since the loss of a principal pass to a host (R97, R98). -/
def State.giveOrphans (s : State) (h : Nat) : State :=
  let s := each (fun d s => State.setDomain s d { s.domain d with host := some h }) s.dom.orphans s
  { s with dom := { s.dom with orphans := [] } }

/-- The held domains pass to a successor (R97). -/
def State.passOn (s : State) (h : Nat) : State := (s.giveOrphans h).principalChange h true 1

/-- The domains of the old principal leave it: no host holds them, their window pages are unmapped, the lock it holds is released
(R97, R98). -/
def State.losePrincipal (s : State) : State :=
  let old := s.dom.principal
  let ds := (List.range 16).filter fun d => s.holds old d
  let s := (s.releaseLock fun h _ => h = old).unmap fun h w => h = old && ds.contains w.domain
  let s := each (fun d s => State.setDomain s d { s.domain d with host := none }) ds s
  { s with dom := { s.dom with orphans := ds } }

/-- SEC_HEARTBEAT (R96): a write of the principal restarts the timeout. -/
def execSecHeartbeat (t host _value : Nat) (s : State) : Host.Outcome State Fault Refusal :=
  let s := s.at_ t
  .next (if s.answers host && s.dom.valid && host = s.dom.principal then { s with dom := { s.dom with beat := s.now } } else s)

/-- D0 alone moves to another host and the heartbeat timer restarts (R99); after a loss the domains that passed with it go along
(R98). -/
def State.handOff (s : State) (h : Nat) : State :=
  if s.dom.valid then (s.moveDomain 0 h).principalChange h true 0
  else (s.giveOrphans h).principalChange h true 0

/-- The successors that PRINCIPAL_SET op 1 names. -/
def successorsOf (c : Cmd) : List Nat := [c.u8 18, c.u8 19, c.u8 20].filter fun h => h ≠ 0xFF

/-- The checks of a successor list: host numbers, then 0xFF to its end. -/
def successorErrs (c : Cmd) : List (Option Err) :=
  let ok (off : Nat) : Bool := c.u8 off < 4 || c.u8 off = 0xFF
  [at_ 18 (ok 18), at_ 19 (ok 19 && (c.u8 18 ≠ 0xFF || c.u8 19 = 0xFF)), at_ 20 (ok 20 && (c.u8 19 ≠ 0xFF || c.u8 20 = 0xFF))]

/-- PRINCIPAL_SET (R96, R99). -/
def execPrincipalSet (t : Nat) (c : Cmd) (s : State) : Host.Outcome State Fault Refusal :=
  let s := s.at_ t
  let op := c.u8 16
  let h := c.u8 17
  let ms_ := c.u32 24
  .next (s.command 0x0102 c .d0
    ([need (c.host = s.dom.principal) denied, at_ 16 (op ≤ 2), at_ 17 (if op = 0 then h < 4 && h ≠ c.host else h = 0)]
      ++ (if op = 1 then successorErrs c else [c.zeros 18 3])
      ++ [c.zeros 21 3, if op = 2 then at_ 24 (ms_ = 0 || (10 ≤ ms_ && ms_ ≤ 10000)) else c.zeros 24 4, c.zeros 28 36,
          need (op ≠ 0 || (s.hostPort h).link) (refusedWith 1)])
    { s := match op with
        | 0 => s.handOff h
        | 1 => { s with dom := { s.dom with successors := successorsOf c } }
        | _ => { s with dom := { s.dom with timeoutMs := ms_, beat := s.now } } })

/-- A row restarts the heartbeat timeout, or ends it: a heartbeat or a PRINCIPAL_SET that takes effect. -/
def State.restartsBeat (s : State) (i : Instr) : Bool :=
  let beats (o : Host.Outcome State Fault Refusal) : Bool := match o with
    | .next s' => s'.dom.beat ≠ s.dom.beat || s'.dom.principal ≠ s.dom.principal
    | _ => false
  match i with
  | .secHeartbeat t host v => t / 12 = s.now / 12 && beats (execSecHeartbeat t host v s)
  | .principalSet t c => t / 12 = s.now / 12 && beats (execPrincipalSet t c s)
  | _ => false

/-- HEARTBEAT_TIMEOUT (R97–R99): D0 passes to an eligible successor, or the principal is lost. A heartbeat or a hand-off of the same KCLK
cycle, be it among the rows that wait, wins. -/
def execHeartbeatTimeout (t : Nat) (s : State) : Host.Outcome State Fault Refusal :=
  let s := s.at_ t
  .next (if !s.dom.valid || s.dom.timeoutMs = 0 || s.now < s.dom.beat + ms s.dom.timeoutMs || s.pending.any s.restartsBeat then s
    else
      let s := s.losePrincipal
      match s.successor with
      | some h => s.passOn h
      | none => s.principalChange s.dom.principal false 1)

/-- PRINCIPAL_RECHECK (R98): at each later interval of timeout_ms the list is checked again. -/
def execPrincipalRecheck (t : Nat) (s : State) : Host.Outcome State Fault Refusal :=
  let s := s.at_ t
  .next (if s.dom.valid || s.dom.timeoutMs = 0 || s.dom.successors = [] || s.now < s.dom.beat + ms s.dom.timeoutMs then s
    else
      match s.successor with
      | some h => s.passOn h
      | none => { s with dom := { s.dom with beat := s.now } })

/-! ### The key lock (R103, R104) -/

/-- Set a host's SEC_KEY_LOCK.last_result. -/
def State.keyResult (s : State) (h v : Nat) : State := s.setHostPort h { s.hostPort h with keyResult := v }

/-- A claim (R103). -/
def State.claimLock (s : State) (h d : Nat) : State :=
  let take (s : State) : State := { s with dom := { s.dom with lock := some { host := h, domain := d, deadline := s.now + ms 10 } } }
  if !s.holds h d then s.keyResult h 0x02
  else
    match s.lockNow with
    | none => (take s).keyResult h 0
    | some l => if l.host = h && l.domain = d then (take s).keyResult h 0 else s.keyResult h 0x0A

/-- The lock's time is over: KEY_LOCK_EXPIRED goes to the holder (R104). -/
def State.expireLock (s : State) : State :=
  match s.dom.lock with
  | some l =>
    if s.now < l.deadline then s
    else ({ s with dom := { s.dom with lock := none } }).event 0x01F2 l.domain 0 0 fun h => h = l.host
  | none => s

/-- A release (R104): one by a host that does not hold the lock changes nothing. -/
def State.freeLock (s : State) (h : Nat) : State :=
  match s.dom.lock with
  | some l => if l.host = h then ({ s with dom := { s.dom with lock := none } }).keyResult h 0 else s.keyResult h 0x0A
  | none => s.keyResult h 0x0A

/-- A write of SEC_KEY_LOCK_CTL (R103, R104): op 0b01 claims or renews, op 0b10 releases. -/
def State.lockWrite (s : State) (h v : Nat) : State :=
  if !s.answers h then s
  else if bits v 31 30 = 1 then s.claimLock h (v % 16)
  else if bits v 31 30 = 2 then s.freeLock h
  else s

/-- The writes of one cycle, in ascending host number (R59, R104). -/
def claimsOf (ws : List RegWrite) : List RegWrite := [0, 1, 2, 3].flatMap fun h => ws.filter fun w => w.host = h

/-- KEY_LOCK_CLAIM (R59, R103): the writes of SEC_KEY_LOCK_CTL in one KCLK cycle, releases among them. -/
def execKeyLockClaim (t : Nat) (writes : List RegWrite) (s : State) : Host.Outcome State Fault Refusal :=
  let s := (s.at_ t).expireLock
  let one (w : RegWrite) (s : State) : State := if w.addr = 0x00200010 && w.size = 4 then s.lockWrite w.host w.value else s
  .next (each one (claimsOf writes) s)

/-- KEY_LOCK_RELEASE (R104): a write of SEC_KEY_LOCK_CTL with op 0b10. -/
def execKeyLockRelease (t host value : Nat) (s : State) : Host.Outcome State Fault Refusal :=
  let s := (s.at_ t).expireLock
  .next (if bits value 31 30 = 2 then s.lockWrite host value else s)

/-- KEY_LOCK_EXPIRED (R104). -/
def execKeyLockExpired (t : Nat) (s : State) : Host.Outcome State Fault Refusal := .next (s.at_ t).expireLock

/-! ### Keys (R100–R103) -/

/-- The checks that come first for the key opcodes: every slot is owned, then the lock is held under the domain (R103), or was when the
command started (R104). -/
def State.keyErrs (s : State) (c : Cmd) (first count : Nat) : List (Option Err) :=
  [need (s.ownsRange c.domain 8 first (max 1 count)) denied,
   need (s.locks c || (s.startedAs c).any fun x => x.locked) { status := .locked }]

/-- KEY_INFO (R100): TK's public half and unit_id. -/
def execKeyInfo (t : Nat) (c : Cmd) (s : State) : Host.Outcome State Fault Refusal :=
  let s := s.at_ t
  .next (s.command 0x0110 c .any [c.needReply, c.zeros 16 48]
    { s := s, result := 112,
      long := (List.range 97).map Config.tkPublic ++ List.replicate 7 0 ++ leBytes 8 Config.unitId.toNat })

/-- The first 16 bytes of a storage blob (R101). -/
def blobHeader (kind d epoch : Nat) : Bytes :=
  leBytes 1 1 ++ leBytes 1 2 ++ leBytes 1 kind ++ leBytes 1 d ++ leBytes 4 epoch ++ List.replicate 8 0

/-- The bytes of a name of the key ladder. -/
def nameBytes (s : String) : Bytes := s.toList.map fun x => BitVec.ofNat 8 x.toNat

/-- KEK of a transport blob (R101), by the shared x-coordinate, domain, slot and kind. -/
def transportKek (x : Bytes) (d slot kind : Nat) : Bytes :=
  hkdf384 x (nameBytes "KX5140 KEY" ++ leBytes 8 Config.unitId.toNat ++ leBytes 1 d ++ leBytes 4 slot ++ leBytes 1 kind)

/-- SK of a domain and epoch (R100). -/
def storageKey (d epoch : Nat) : Bytes :=
  hkdf384 ((List.range 32).map Config.deviceKey) (nameBytes "KX5140 STORE" ++ leBytes 1 d ++ leBytes 4 epoch)

/-- The key that wraps a storage blob, by its first 16 bytes (R101). -/
def storageKek (h : Bytes) : Bytes := hkdf384 (storageKey (byteAt h 3) (leAt h 4 4)) h

/-- The length of a wrapped key of a kind (R101). -/
def wrappedLen (kind : Nat) : Nat := if kind = 2 then 40 else 24

/-- The key that a blob wraps (R101); none where it fails to unwrap, as every blob does while the ladder is disabled (R108). -/
def State.unwrap (s : State) (c : Cmd) (b : Bytes) : Option Nat :=
  let n := wrappedLen (byteAt b 2)
  let key := if s.dom.ladderOff then none
    else if byteAt b 1 = 1 then
      (Config.ecdhTk (slice b 4 97)).bind fun x => keyUnwrap (transportKek x c.domain (c.u32 28) (byteAt b 2)) (slice b 104 n)
    else keyUnwrap (storageKek (slice b 0 16)) (slice b 16 n)
  key.map fun k => beAt k 0 k.length

/-- The checks of a blob (R101). -/
def State.blobErrs (s : State) (c : Cmd) (b : Bytes) : List (Option Err) :=
  let store := c.u8 32 = 2
  let at0 := if store then 16 else 104
  [need (byteAt b 0 = 1) { status := .version, detail := byteAt b 0 }, img 1 (byteAt b 1 = c.u8 32),
   img 2 (byteAt b 2 = 1 || byteAt b 2 = 2)]
  ++ (if store then
      [img 3 (byteAt b 3 = c.domain), need (leAt b 4 4 = look s.fw.epochs c.domain 0) { status := .stale }, bufZeros b 8 8]
    else [bufZeros b 3 1, bufZeros b 101 3])
  ++ [if byteAt b 2 = 1 then bufZeros b (at0 + 24) 16 else none, img at0 (s.unwrap c b).isSome]

/-- KEY_IMPORT (R101–R103). -/
def execKeyImport (t : Nat) (c : Cmd) (b : BufRead) (s : State) : Host.Outcome State Fault Refusal :=
  let s := s.at_ t
  let slot := c.u32 28
  let d := b.bytes c
  let key : Key := { kind := byteAt d 2, key := (s.unwrap c d).getD 0 }
  .next (s.command 0x0111 c .any
    (s.keyErrs c slot 1 ++
      [c.bufferErr, at_ 24 (c.u32 24 = 144 || c.u32 24 = 56), at_ 32 (if c.u32 24 = 144 then c.u8 32 = 1 else c.u8 32 = 2), c.zeros 33 31,
       b.err] ++ s.blobErrs c d)
    { s := { s with dom := { s.dom with keys := put s.dom.keys slot {} key } } })

/-- KEY_EXPORT (R101, R103): a storage blob of the slot's key. -/
def execKeyExport (t : Nat) (c : Cmd) (s : State) : Host.Outcome State Fault Refusal :=
  let s := s.at_ t
  let slot := c.u32 16
  let k := s.key slot
  let h := blobHeader k.kind c.domain (look s.fw.epochs c.domain 0)
  .next (s.command 0x0112 c .any
    (c.needReply :: s.keyErrs c slot 1 ++ [c.zeros 20 44, need (k.kind ≠ 0) { status := .notFound }])
    { s := s, result := 56, long := h ++ keyWrap (storageKek h) k.bytes ++ List.replicate (40 - wrappedLen k.kind) 0 })

/-- KEY_DESTROY (R103). -/
def execKeyDestroy (t : Nat) (c : Cmd) (s : State) : Host.Outcome State Fault Refusal :=
  let s := s.at_ t
  let f := c.u32 16
  let n := c.u32 20
  .next (s.command 0x0113 c .any (s.keyErrs c f n ++ [at_ 20 (1 ≤ n && n ≤ 65536), c.zeros 24 40])
    { s := each State.zeroise (rangeOf f n) s, result := n })

/-! ### Debug sessions (R105–R108) -/

/-- DEBUG_SESSION (R108): to the principal, and to each host that holds a domain of the mask. -/
def State.sessionEvent (s : State) (x : Session) (on : Bool) : State :=
  s.eventMask (x.mask ||| 1) 0x01F1 (b2n on + 65536 * x.scope) 0

/-- The session ends. -/
def State.endSession (s : State) : State :=
  match s.dom.session with
  | none => s
  | some x => ({ s with dom := { s.dom with session := none } }).sessionEvent x false

/-- The checks of a token (R106, R107). -/
def State.tokenErrs (s : State) (b : Bytes) : List (Option Err) :=
  let signer := byteAt b 1
  let scope := leAt b 2 2
  [need (byteAt b 0 = 1) { status := .version, detail := byteAt b 0 }, img 1 (signer ≤ 1), img 2 (scope < 64),
   img 6 (1 ≤ leAt b 6 2 && leAt b 6 2 ≤ 28800), bufZeros b 24 8,
   need (signer = 0 || s.dom.provisioned) (refusedWith 5), need (Config.tokenSigned b) (refusedWith 1),
   need (leAt b 8 8 = Config.unitId.toNat) (refusedWith 2), need (leAt b 16 8 = s.dom.nonce) (refusedWith 3),
   need (!bit scope 4 || signer = 0) (refusedWith 4), need (!bit scope 2 || leAt b 4 2 = 0xFFFF) (refusedWith 6)]

/-- Trailhead stops and the hold of the data plane begins (R38), for what is added to what already waits for one. -/
def State.beginHold (s : State) (f : Hold → Hold) : State :=
  { s with dev := { s.dev with dispatchOff := true, hold := some (f (s.dev.hold.getD { deadline := s.now + us 100 })) } }

/-- The data plane is not stopped. -/
def State.dataPlaneOn (s : State) : Bool := !(s.dev.dispatchOff && s.dev.schedOff)

/-- A session opens (R106, R108); before an internal-scan session every key slot is zeroised and the ladder is disabled until the next
power-on reset. -/
def State.openSession (s : State) (x : Session) (seconds : Nat) : State :=
  let s := if bit x.scope 4 then
      each State.zeroise (s.dom.keys.map fun r => r.1) { s with dom := { s.dom with ladderOff := true } } else s
  let x := { x with deadline := s.now + ms (1000 * seconds) }
  ({ s with dom := { s.dom with session := some x } }).sessionEvent x true

/-- The data plane has stopped: the internal-scan session opens, and its token is answered where it came from (R108). -/
def State.openScan (s : State) (x : ScanDue) : State :=
  let s := s.openSession x.session x.seconds
  match x.cmd with
  | some c => s.answer c .ok 0 0 []
  | none => s.emit (.jtag 0)

/-- A session is open, or is to open when the data plane has stopped. -/
def State.sessionBusy (s : State) : Bool := s.dom.session.isSome || s.dev.hold.any fun h => h.scan.isSome

/-- What becomes of a token. -/
structure TokenCheck where
  s : State
  err : Option Err := none
  later : Bool := false

/-- A token is checked (R106–R108): a session opens, or the error says why not; a new nonce is drawn either way. While the data plane runs,
an internal-scan session opens later, when it has stopped. -/
def State.checkToken (s : State) (b : Bytes) (cmd : Option Cmd) : TokenCheck :=
  match firstErr (s.tokenErrs b) with
  | some e => { s := s.drawNonce, err := some e }
  | none =>
    let x : Session := { viaHost := cmd.isSome, signer := byteAt b 1, scope := leAt b 2 2, mask := leAt b 4 2, deadline := 0 }
    let s := s.drawNonce
    if bit x.scope 4 && s.dataPlaneOn then
      { s := s.beginHold fun h => { h with scan := some { cmd := cmd, session := x, seconds := leAt b 6 2 } }, later := true }
    else { s := s.openSession x (leAt b 6 2) }

/-- DEBUG_AUTH (R106–R108): D0 on the principal host. -/
def execDebugAuth (t : Nat) (c : Cmd) (b : BufRead) (s : State) : Host.Outcome State Fault Refusal :=
  let s := s.at_ t
  let op := c.u8 28
  let open_ := op = 0
  let r := s.checkToken (b.bytes c) (some c)
  .next (s.command 0x0120 c .d0
    [need (c.host = s.dom.principal) denied, if open_ then c.bufferErr else none, at_ 24 (!open_ || c.u32 24 = 128), at_ 28 (op ≤ 1),
     c.zeros 29 35, need (!open_ || !s.sessionBusy) { status := .busy }, if open_ then b.err else none]
    (if open_ then
      match r.err with
      | some e => { s := r.s, status := e.status, detail := e.detail }
      | none => { s := r.s, later := r.later }
    else { s := s.endSession }))

/-- JTAG_TOKEN (R106, R107): the port shifts out the status code of the token, BUSY with a session open. -/
def execJtagToken (t : Nat) (token : Bytes) (s : State) : Host.Outcome State Fault Refusal :=
  let s := s.at_ t
  let r := s.checkToken token none
  .next (if s.sessionBusy then s.emit (.jtag Status.busy.code)
    else
      match r.err with
      | some e => r.s.emit (.jtag e.status.code)
      | none => if r.later then r.s else r.s.emit (.jtag 0))

/-- DEBUG_SESSION_EXPIRE (R108). -/
def execDebugSessionExpire (t : Nat) (s : State) : Host.Outcome State Fault Refusal :=
  let s := s.at_ t
  .next (if s.dom.session.any fun x => x.deadline ≤ s.now then s.endSession else s)

end Sys2Proof.Machine
end

