-- ==== Sys2Proof/Machine/Startup.lean ====
section
/-! DEFINITION. Resets, start-up, changes of mode, pins and temperature (02_modes_and_startup.md, 25_package_and_electrical.md). -/

namespace Sys2Proof.Machine

/-! ### Resets (R47–R50) -/

/-- What the flash and its journal keep through every reset (R449–R451, R454): a chunk in work is lost, a trial is over, the primary
slots run. -/
def Fw.restart (f : Fw) : Fw :=
  let back (x : Slot) : Slot := if x.state = .trial then { x with state := .verified } else x
  { slots := f.slots.map fun (r : Nat × Slot) => (r.1, back r.2), primary := f.primary, running := f.primary, floors := f.floors,
    delivery := f.delivery.map fun d => { d with data := d.data.take d.committed, verifying := false, chunk := none, cmd := none },
    copies := f.copies, topoRecord := f.topoRecord, prov := f.prov, epochs := f.epochs }

/-- A host port after a power-on, pin or full reset: its link stays trained in a full reset only (R50). -/
def HostPort.restart (p : HostPort) (keepLink : Bool) : HostPort := if keepLink then { link := p.link, cxl := p.cxl } else {}

/-- The straps decide topology and principal (R42, R43, R89): D0 alone exists and the principal holds it. -/
def State.strapped (s : State) (x : Straps) : State :=
  { s with dev := { s.dev with straps := x, topology := x.topoSel % 2 },
           dom := { s.dom with principal := x.principalSel % 4, valid := true, orphans := [],
                               domains := [(0, { live := true, host := some (x.principalSel % 4) })] } }

/-- A power-on, pin or full reset (R47): what it keeps is the flash, what went outside and the commands that wait outside the
device; `log` keeps the fault log, `links` the host links, `ladder` whether the ladder is disabled (R108). A session ends and a
nonce is drawn (R107, R108). -/
def State.restart (s : State) (log links ladder : Bool) : State :=
  let s := s.endSession
  let hosts := if links then s.host.ports.map (fun (r : Nat × HostPort) => (r.1, r.2.restart true)) else []
  let s1 : State := { now := s.now, free := s.free, pending := s.pending, nextPkt := s.nextPkt,
                      dev := { startOrigin := s.now },
                      units := if log then { log := s.units.log, lastSeq := s.units.lastSeq } else {},
                      host := { ports := hosts.filter fun r => r.2 ≠ {}, out := s.host.out },
                      dom := { ladderOff := ladder && s.dom.ladderOff }, fw := s.fw.restart,
                      time := { cycle := s.now / 6 } }
  (s1.strapped s.dev.straps).drawNonce

/-- POWER_ON_RESET (R47, R48): the fault log and every hold of FAULT_N are cleared; RESET_N is low. -/
def execPowerOnReset (t : Nat) (straps : Straps) (s : State) : Host.Outcome State Fault Refusal :=
  let s := ((s.at_ t).restart false false false).strapped straps
  .next { s with dev := { s.dev with inReset := true } }

/-- PIN_RESET (R47, R475): a low of 10 µs or more; it does not end a thermal trip (R470). -/
def execPinReset (t lowNs : Nat) (straps : Straps) (s : State) : Host.Outcome State Fault Refusal :=
  let s := s.at_ t
  .next (if lowNs < 10000 || s.dev.thermTrip then s
    else
      let s := (s.restart true false true).strapped straps
      { s with dev := { s.dev with inReset := true } })

/-- RESET_N_RISING_EDGE (R42, R44): the straps latch and start-up begins to count; a hold for a supply fault ends (R446). -/
def execResetNRisingEdge (t : Nat) (straps : Straps) (s : State) : Host.Outcome State Fault Refusal :=
  let s := s.at_ t
  .next (if !s.dev.inReset then s
    else
      let s := s.strapped straps
      { s with dev := { s.dev with inReset := false, startOrigin := s.now },
               units := { s.units with hold := { s.units.hold with supply := false } } })

/-- A write of DEV_RESET that the device acts on (R52); none ends a thermal trip (R470). -/
def State.resetWrite (s : State) (host value kind : Nat) : Bool :=
  s.answers host && !s.dev.thermTrip && s.dom.valid && host = s.dom.principal && value / 65536 = 0x0A5A && value % 4 = kind

/-- DEV_RESET_FULL (R47, R50, R52). -/
def execDevResetFull (t host value : Nat) (s : State) : Host.Outcome State Fault Refusal :=
  let s := s.at_ t
  .next (if s.resetWrite host value 1 then s.restart true true true else s)

/-- The detail-1 answer of a command that a data-plane reset aborts: with the count of the items a bulk opcode has done (R49), or the mode
of a MODE_SET (R41). -/
def State.abortStarted (x : Started) (s : State) : State :=
  let n := match s.tables.dma with
    | some d => if d.cmd = x.cmd then d.moved else 0
    | none => 0
  let m := ((s.assoc.arrays.filterMap fun r => r.2.work).find? fun w => w.cmd = x.cmd).map fun w => w.index
  s.answer x.cmd .wrongMode 1 (if x.cmd.opcode = 0x0001 then s.dev.mode.code else n + m.getD 0) []

/-- The blocks that a data-plane reset clears (R11, R47): tables, queues, buffers and counters, the work in progress, and the ports with them; allowances, Scout's
settings, security associations, PON trees and TIME stay, since only a reset that clears domains reaches them (R240, R364, R375,
R389, R391, R398). -/
def State.clearDataPlane (s : State) : State :=
  let lane (x : Lane) : Lane := { x with invert := 0, taps := [] }
  let cl (k : Cluster) : Cluster := { profile := k.profile, origin := s.now, health := s.now }
  let stack (x : Stack) : Stack :=
    { state := x.state, trained := x.trained, economy := x.economy, mode := x.mode, idleUs := x.idleUs,
      masks := x.pending.getD x.masks, actLess := x.actLess, throttleLess := x.throttleLess, repaired := x.repaired }
  let link (x : FabLink) : FabLink := { x with work := none, commandOut := x.commandOut && x.work.isNone }
  let tree (x : PonTree) : PonTree :=
    { x with stats := [], grantStats := [], windows := [], maps := [], quiet := [], omciOut := [], bcastSwitch := none }
  { s with ports := { lane := (s.ports.lane.map fun (r : Nat × Lane) => (r.1, lane r.2)).filter fun r => r.2 ≠ {} },
           eli := {}, pkts := [], lant := [],
           parse := { ruleAllow := s.parse.ruleAllow, patternAllow := s.parse.patternAllow },
           tables := { gens := s.tables.gens, unitAllow := s.tables.unitAllow, entryAllow := s.tables.entryAllow },
           assoc := {},
           eng := { active := s.eng.active, ready := s.eng.ready, staged := s.eng.staged,
                    clusters := (s.eng.clusters.map fun (r : Nat × Cluster) => (r.1, cl r.2)).filter fun r => r.2 ≠ {} },
           scout := { segs := s.scout.segs, doms := s.scout.doms, templates := s.scout.templates },
           act := { allow := s.act.allow }, buf := {}, tm := { allow := s.tm.allow },
           pol := { profileAllow := s.pol.profileAllow, slotAllow := s.pol.slotAllow },
           fab := { links := (s.fab.links.map fun (r : Nat × FabLink) => (r.1, link r.2)).filter fun r => r.2 ≠ {} },
           cipher := { macSas := s.cipher.macSas.map fun (r : Nat × MacSa) => (r.1, { r.2 with stats := [] }),
                       tunSas := s.cipher.tunSas.map fun (r : Nat × TunSa) => (r.1, { r.2 with stats := [] }),
                       ports := (s.cipher.ports.map fun (r : Nat × CipherPort) => (r.1, { r.2 with stats := [] })).filter fun r => r.2 ≠ {},
                       replacing := s.cipher.replacing },
           pon := { s.pon with trees := (s.pon.trees.map fun (r : Nat × PonTree) => (r.1, tree r.2)).filter fun r => r.2 ≠ {}, gauges := [],
                               onus := (s.pon.onus.map fun (r : Nat × Onu) => (r.1, { r.2 with switch := none })).filter fun r => r.2 ≠ {} },
           dram := (s.dram.map fun (r : Nat × Stack) => (r.1, stack r.2)).filter fun r => r.2 ≠ {},
           units := { s.units with work := [], steer := [], steerStop := [], groups := [] },
           host := { s.host with regions := [] } }

/-- Steer an entry away from a cluster that is out, no packet being held: the healthy cluster that takes it is free (R159). -/
def State.resteer (c : Nat) (i : Nat) (s : State) : State :=
  if s.steer i ≠ c then s
  else
    let l := (List.range 32).filter fun k => s.healthy 4 k
    match l[Config.freeValue s.free % l.length]? with
    | none => s
    | some k => { s.drawn with parse := { s.parse with steer := put s.parse.steer i 0 (if k = i % 32 then 0 else k + 1) } }

/-- No entry steers to a cluster. -/
def State.resteerFrom (c : Nat) (s : State) : State := each (State.resteer c) (List.range 1024) s

/-- No entry steers to a cluster that is out. -/
def State.resteerAll (s : State) : State := each State.resteerFrom ((List.range 32).filter fun c => s.isOut 4 c) s

/-- No steering entry of Guyline names a group that is out (R22). -/
def State.respreadAll (s : State) : State :=
  each (fun g s => (s.respread true g).respread false g) ((List.range 16).filter fun g => s.isOut 3 g) s

/-- dram_done follows when every stack is zeroed or mapped out (R44). -/
def State.settleDram (s : State) : State :=
  let all := (List.range 10).all fun n => s.isOut 9 n || (s.stack n).zeroed
  if s.dev.mode = .calibrate && all then { s with dev := { s.dev with dramDone := true } } else s

/-- DEV_RESET_DATA_PLANE (R34, R47, R49, R410): commands that had not yet taken effect complete with WRONG_MODE, detail 1; the zeroing
phase of CALIBRATE begins. -/
def execDevResetDataPlane (t host value : Nat) (s : State) : Host.Outcome State Fault Refusal :=
  let s := s.at_ t
  let m := s.dev.mode
  .next (if !s.resetWrite host value 2 || m = .safe || m = .calibrate then s
    else
      let s := { s with dev := { s.dev with hold := none, dispatchOff := true, schedOff := true, zeroing := some s.now,
                                            configDone := false, dramDone := false, flashConfig := false } }
      let f := { s.fw with delivery := s.fw.delivery.map fun d => { d with chunk := none, cmd := none, verifying := false } }
      let s := { s with fw := f }.setMode .calibrate
      let s := (each State.abortStarted s.host.started s).abandonHandover .verified
      s.clearDataPlane.respreadAll.rehome.resteerAll.drawNonce.settleDram)

/-! ### Host ports (R50, R72, R439, R463) -/

/-- A host-port reset (R72): rings and event settings are cleared, unstarted commands are discarded, replies of started ones will be
dropped, the key lock is released; window pages stay mapped. A nonce is drawn, as at every reset (R107). -/
def State.resetHostPort (s : State) (h : Nat) : State :=
  let s := each (fun r s => State.setRing s h r { error := 6 }) (List.range 16) s
  let drop_ (x : Started) : Started := if x.cmd.host = h then { x with dropped := true } else x
  let s := { s with host := { s.host with started := s.host.started.map drop_ } }
  let p := s.hostPort h
  ((s.setHostPort h { keyResult := p.keyResult, lantHi := p.lantHi, timeHi := p.timeHi, timeSec := p.timeSec,
                      timeFrac := p.timeFrac }).releaseLock fun x _ => x = h).drawNonce

/-- HOST_LINK_LOSS (R72, R438, R463): the port is reset and mapped out. -/
def execHostLinkLoss (t host : Nat) (_perst : Bool) (s : State) : Host.Outcome State Fault Refusal :=
  let s := s.at_ t
  .next (if 4 ≤ host || !(s.hostPort host).link then s
    else (s.resetHostPort host).mapOut 2 host 0 (s.heldMask host) 0)

/-- HOST_LINK_TRAINED (R53, R54, R439): the width and rate at which the link trains are free values of those that R53 allows. -/
def execHostLinkTrained (t host : Nat) (cxl : Bool) (s : State) : Host.Outcome State Fault Refusal :=
  let s := s.at_ t
  .next (if 4 ≤ host || (s.hostPort host).link || s.dev.inReset || s.dev.dead then s
    else
      let f := Config.freeValue s.free
      let p := { s.hostPort host with link := true, cxl := cxl, width := 8 / 2 ^ (f % 4), rate := 64 / 2 ^ (f / 4 % 4) }
      (s.drawn.setHostPort host p).bringBack 2 host (s.heldMask host) false)

/-! ### The always-on monitor (R446, R467, R470) -/

/-- ROOT_PLL_LOSS (R446): FAULT_N is held until a pin or power-on reset; the registers do not answer and no record is written. -/
def execRootPllLoss (t : Nat) (s : State) : Host.Outcome State Fault Refusal :=
  let s := s.at_ t
  .next { s with dev := { s.dev with dead := true, dispatchOff := true, schedOff := true },
                 units := { s.units with hold := { s.units.hold with pll := true } } }

/-- SUPPLY_FAULT (R467): `rail` counts the rows of the supply table from 0; AVDD_TL, 9, is watched in fabric topology only. A power-on
reset starts, and FAULT_N is held until it completes. -/
def execSupplyFault (t rail outNs : Nat) (outOfOrder : Bool) (s : State) : Host.Outcome State Fault Refusal :=
  let s := s.at_ t
  .next (if 11 ≤ rail || (rail = 9 && s.dev.topology ≠ 1) || !(outOfOrder || 2000 < outNs) then s
    else
      let s := s.restart false false false
      { s with dev := { s.dev with inReset := true }, units := { s.units with hold := { supply := true } } })

/-- THERMAL_TRIP (R470): at 115 °C or more; every clock outside the always-on domains stops until a power-on reset. -/
def execThermalTrip (t : Nat) (tjF tjT : Int) (s : State) : Host.Outcome State Fault Refusal :=
  let s := s.at_ t
  .next (if tjF < 115 && tjT < 115 then s
    else { s with dev := { s.dev with thermTrip := true, tjF := tjF, tjT := tjT, overMax := true },
                  units := { s.units with hold := { s.units.hold with thermal := true } } })

/-- The junction maximum of the ordering code (R476). -/
def tjMax : Int := if Config.orderingCode = 1 then 105 else 95

/-- JUNCTION_OVER_MAX (R470): DEV_THERM shows the readings, and over_max whether a junction is above the code's maximum. -/
def execJunctionOverMax (t : Nat) (tjF tjT : Int) (stackMax : Nat) (s : State) : Host.Outcome State Fault Refusal :=
  let s := s.at_ t
  .next { s with dev := { s.dev with tjF := tjF, tjT := tjT, stackMax := stackMax,
                                     overMax := decide (tjMax < tjF) || decide (tjMax < tjT) } }

/-! ### Start-up (R43–R46) -/

/-- What the boot ROM finds in a firmware slot: nothing where the directory has it neither GOOD nor VERIFIED (R451); a slot that the
directory of the model has EMPTY and that holds an image was written outside the device, and counts as GOOD. -/
def State.slotRead (s : State) (n : Nat) (i : Option Image) : Option Image :=
  match (s.slot 1 n).state with
  | .good | .verified | .empty => i
  | _ => none

/-- Start from a slot: its image is noted in the directory. -/
def State.bootSlot (s : State) (n : Nat) (i : Image) : State :=
  let x := s.slot 1 n
  (s.setSlot 1 n { x with image := some i, state := if x.state = .empty then .good else x.state }).startImage n i

/-- Cores that fail self-test are mapped out when a core runs (R44, R438). -/
def State.coresOut (s : State) (ok : List Nat) : State :=
  each (fun k s => if ok.contains k then s else s.mapOut 1 k 0 0xFFFF 0) [0, 1, 2, 3] s

/-- Boot from flash: the primary slot, then the other (R42, R451). -/
def State.bootFlash (s : State) (b : BootRead) : State :=
  let n := s.primary 1
  let at_ (k : Nat) : Option Image := s.slotRead k (if k = 0 then b.slot0 else b.slot1)
  match at_ n, at_ (1 - n), s.bootCode (at_ n), s.bootCode (at_ (1 - n)) with
  | some i, _, 0, _ => s.bootSlot n i
  | _, some j, _, 0 => s.bootSlot (1 - n) j
  | _, _, _, e => s.bootError e

/-- BOOT_IMAGE_CHECK (R42–R46): the boot ROM has read the flash; it starts the firmware, or stays in SAFE with boot_error. In a host boot
it waits for an image (R45). -/
def execBootImageCheck (t : Nat) (boot : BootRead) (s : State) : Host.Outcome State Fault Refusal :=
  let s := s.at_ t
  .next (if s.dev.inReset || s.dev.dead || s.dev.mode ≠ .safe || s.dev.bootDone || s.dev.bootError ≠ 0 then s
    else if boot.coresOk.all fun k => 4 ≤ k then s.bootError 7
    else
      let s := s.coresOut boot.coresOk
      let s := if boot.flashOk then { s with fw := { s.fw with topoRecord := boot.topology, prov := boot.provisioning } } else s
      match s.dev.straps.bootMode % 4 with
      | 3 => s.bootError 8
      | 1 => s
      | _ => if boot.flashOk then s.bootFlash boot else s.bootError 1)

/-- Start-up steps 5 to 8 run: firmware has started and STANDBY has not been entered since (R44). -/
def State.starting (s : State) : Bool := s.dev.mode = .calibrate && s.dev.zeroing = none

/-- GUYLINE_TRAINING_DONE (R44, R46): the groups that failed are mapped out. -/
def execGuylineTrainingDone (t : Nat) (failed : List Nat) (s : State) : Host.Outcome State Fault Refusal :=
  let s := s.at_ t
  .next (if !s.starting || s.dev.guylineDone then s
    else
      let s := each (fun g s => State.groupOut s g 0 false) (failed.filter fun g => g < 16 && s.healthy 3 g) s
      { s with dev := { s.dev with guylineDone := true } })

/-- A network or fabric lane fails its calibration: mapped out and logged (R46). -/
def State.laneFails (fabric : Bool) (l : Nat) (s : State) : State :=
  if fabric then
    if s.isOut 0x0B l then s
    else ((s.setFlink l { s.flink l with laneFailed := true }).mapOut 0x0B l 3 0xFFFF 0).linkEvent l 3 true
  else if s.isOut 0x0A l then s
  else (s.mapOut 0x0A l 0 (s.laneMask l) 0).laneFault l (s.laneMask l)

/-- A quad's calibration has ended; serdes_done follows when every quad that the topology uses has. -/
def State.quadDone (s : State) (fabric : Bool) (q : Nat) : State :=
  let m := put s.dev.serdesQuads (q + if fabric then 64 else 0) false true
  let all := (List.range 64).all (fun k => look m k false) &&
    (s.dev.topology ≠ 1 || (List.range 48).all fun k => look m (64 + k) false)
  { s with dev := { s.dev with serdesQuads := m, serdesDone := all } }

/-- SERDES_CALIBRATION_DONE (R44, R46, R466): the lanes that failed are mapped out. -/
def execSerdesCalibrationDone (t : Nat) (fabric : Bool) (quad : Nat) (failed : List Nat) (s : State) :
    Host.Outcome State Fault Refusal :=
  let s := s.at_ t
  .next (if !s.starting || (if fabric then s.dev.topology ≠ 1 || 48 ≤ quad else 64 ≤ quad) then s
    else (each (State.laneFails fabric) (failed.filter fun l => l / 4 = quad) s).quadDone fabric quad)

/-- The training of a stack has failed (R421): it is mapped out, or, where DRAM_TRAIN retrained it, stays so with a new record. -/
def State.trainFails (s : State) (n : Nat) : State :=
  match (s.stack n).work with
  | some (_, false) =>
    let s := s.setStack n { s.stack n with state := .active }
    let s := s.record 9 n 2 2 4 (s.stackMask n) 0
    (s.eventTo 0 0x0FF0 (n + 256 + 4096 * 4) s.units.lastSeq).endStackWork n .hwFault s.units.lastSeq
  | _ => (s.stackOut n 4 false).settleDram

/-- A stack waits for its training at start-up, or is in it. -/
def State.untrained (s : State) (n : Nat) : Bool := s.healthy 9 n && (s.stack n).state = .training && !(s.stack n).trained

/-- A Basecamp core trains the stack at start-up (R44): after Guyline, each core takes the next untrained stack in the order S0 to S9, so
fewer stacks than cores are untrained below it. -/
def State.coreTrains (s : State) (n : Nat) : Bool :=
  s.starting && s.dev.guylineDone && s.untrained n && ((List.range n).filter s.untrained).length < 4 - s.countOut 1

/-- A stack is under training: at start-up, or for DRAM_TRAIN op 0. -/
def State.inTraining (s : State) (n : Nat) : Bool :=
  let x := s.stack n
  decide (n < 10) && x.state = .training && !x.trained &&
    (s.coreTrains n || (match x.work with
      | some (_, false) => true
      | _ => false))

/-- DRAM_TRAINING_DONE (R421): a stack passes, with `repaired` lanes remapped, or is mapped out as a whole. -/
def execDramTrainingDone (t stack : Nat) (failedAt : Option (Nat × Nat)) (repaired : Nat) (s : State) :
    Host.Outcome State Fault Refusal :=
  let s := s.at_ t
  .next (if !s.inTraining stack then s
    else
      match failedAt with
      | some _ => s.trainFails stack
      | none => s.setStack stack { s.stack stack with trained := true, zeroed := false, repaired := repaired })

/-- STACK_ZEROING_DONE (R44, R424): the stack serves, or returns to service. -/
def execStackZeroingDone (t stack : Nat) (s : State) : Host.Outcome State Fault Refusal :=
  let s := s.at_ t
  let x := s.stack stack
  .next (if 10 ≤ stack || !x.trained || x.zeroed then s
    else
      match x.work with
      | some (_, false) => (s.stackBack stack).endStackWork stack .ok 0
      | _ =>
        if s.dev.mode = .calibrate && s.healthy 9 stack then
          (s.setStack stack { x with state := .active, zeroed := true, lastRequest := s.now }).settleDram
        else s)

/-- TRAINING_TIMEOUT (R46): a unit whose calibration or training reaches its limit is mapped out and logged. -/
def execTrainingTimeout (t kind number : Nat) (s : State) : Host.Outcome State Fault Refusal :=
  let s := s.at_ t
  .next (match kind with
    | 3 => if s.starting && !s.dev.guylineDone && number < 16 && s.healthy 3 number then s.groupOut number 0 false else s
    | 9 => if s.inTraining number then s.trainFails number else s
    | 0x0A => if s.starting && number < 256 then (s.laneFails false number).quadDone false (number / 4) else s
    | 0x0B => if s.starting && s.dev.topology = 1 && number < 192 then (s.laneFails true number).quadDone true (number / 4) else s
    | _ => s)

/-- A port as a stored configuration gives it: bound and set, with nothing that happened on it. -/
def Port.fresh (x : Port) : Port :=
  { personality := x.personality, firstLane := x.firstLane, laneCount := x.laneCount, laneRate := x.laneRate, fec := x.fec,
    tree := x.tree, ponType := x.ponType, cfg := x.cfg }

/-- A pool's settings alone. -/
def Pool.fresh (x : Pool) : Pool :=
  { enabled := x.enabled, near := x.near, far := x.far,
    thresholds := x.thresholds.map fun (r : Nat × Threshold) => (r.1, { r.2 with isSet := false }) }

/-- An account's settings alone. -/
def Account.fresh (x : Account) : Account := { valid := x.valid, pool := x.pool, domain := x.domain, min := x.min, max := x.max }

/-- Apply a stored configuration (R461): what the model's copies hold. An account of a domain that does not exist is left out. -/
def State.applyConf (s : State) (x : Conf) (masks : Bool) : State :=
  let lane (r : Nat × Lane) (s : State) : State := s.setLane r.1 { s.lane r.1 with invert := r.2.invert, taps := r.2.taps }
  let port (r : Nat × Port) (s : State) : State := (s.setPort r.1 r.2.fresh).setEnable r.1 r.2.enable
  let stack (r : Nat × Sparse Nat) (s : State) : State := s.setStack r.1 { s.stack r.1 with masks := r.2 }
  let s := if masks then each stack x.masks s else s
  let s := each port x.ports (each lane x.lanes s)
  let pools := x.pools.map fun (r : Nat × Pool) => (r.1, r.2.fresh)
  let accounts := (x.accounts.filter fun r => (s.domain r.2.domain).live).map fun (r : Nat × Account) => (r.1, r.2.fresh)
  { s with parse := { s.parse with ports := x.parsePorts, graph := x.graph },
           buf := { s.buf with pools := pools, accounts := accounts } }

/-- The profile that start-up loads: the running slot's image, where the directory has it GOOD or VERIFIED (R451). -/
def State.bootProfile (s : State) : State :=
  let x := s.slot 2 (s.running 2)
  if (x.state = .good || x.state = .verified) && x.payload ≠ [] then s.activateProfile (imageProfile s x.payload) else s

/-- The clusters run their profile again after a data-plane reset. -/
def State.reloadClusters (s : State) : State :=
  match s.eng.active with
  | some p => each (State.loadCluster p) ((List.range 32).filter fun c => s.healthy 4 c) s
  | none => s

/-- CONFIG_APPLY (R44 step 10, R461): the free-cell rings are built, the firmware takes its stored configuration, and the clusters run
the running profile. -/
def execConfigApply (t : Nat) (s : State) : Host.Outcome State Fault Refusal :=
  let s := s.at_ t
  let again := s.dev.zeroing.isSome
  .next (if s.dev.mode ≠ .calibrate || !s.dev.dramDone || !s.dev.guylineDone || !s.dev.serdesDone || s.dev.configDone then s
    else
      let copies := [4, 7].filter fun n => s.healthy 9 n
      let s := { s with buf := { s.buf with nearRing := { built := true }, farRing := { built := copies ≠ [] }, farCopies := copies } }
      let s := s.configStart
      let s := match s.bestCopy with
        | some (_, x) => { s.applyConf x.conf (!again) with dev := { s.dev with flashConfig := true } }
        | none => s
      let s := if again then s.reloadClusters else s.bootProfile
      { s with dev := { s.dev with configDone := true } })

/-- STANDBY_ENTRY (R44, R46, R51): READY is asserted and DEV_START records the time, but for a data-plane reset. -/
def execStandbyEntry (t : Nat) (s : State) : Host.Outcome State Fault Refusal :=
  let s := s.at_ t
  .next (if s.dev.mode ≠ .calibrate || !s.dev.configDone then s
    else
      let n := if s.dev.zeroing.isSome then s.dev.startMs else min ((s.now - s.dev.startOrigin) / ms 1) 0xFFFF
      let s := { s with dev := { s.dev with startMs := n, ready := true, zeroing := none, dispatchOff := true, schedOff := true } }
      s.setMode .standby)

/-! ### MODE_SET (R34–R41) -/

/-- The data plane resumes (R39): the scheduler, then Trailhead. -/
def State.release (s : State) : State :=
  (({ s with dev := { s.dev with dispatchOff := false, schedOff := false } }).setMode (if s.anyOut then .degraded else .service)).refeedAll

/-- MODE_SET is a no-op: the mode is the target already, or DEGRADED in place of SERVICE (R41). -/
def Mode.already (m : Mode) (target : Nat) : Bool := target = m.code || (m = .degraded && target = 3)

/-- MODE_SET (R34, R40, R41). -/
def execModeSet (t : Nat) (c : Cmd) (s : State) : Host.Outcome State Fault Refusal :=
  let s := s.at_ t
  let m := s.dev.mode
  let up := m = .standby
  .next (s.command 0x0001 c .d0
    [need (c.host = s.dom.principal) denied, at_ 16 (c.u8 16 = 2 || c.u8 16 = 3), c.zeros 17 47,
     need (!s.dev.hold.any fun h => h.mode.isSome) { status := .busy },
     need (m.already (c.u8 16) || !up || s.serviceable) { status := .refused }]
    (if m.already (c.u8 16) then { s := s, result := m.code }
    else if up then { s := s.release, result := s.release.dev.mode.code }
    else { s := s.beginHold fun h => { h with mode := some c, deadline := s.now + us 100 }, later := true }) (res := m.code))

/-- Threads hold no pass and no selection is in flight (R38). -/
def State.quiet (s : State) : Bool := s.eng.threads.all (fun r => r.2.pass = none) && s.tm.selections = []

/-- DATA_PLANE_HOLD_DONE (R38, R108): within 100 µs the data plane has stopped. The internal-scan session that waits for it opens; the
mode is STANDBY and the reply is posted where a MODE_SET waits. -/
def execDataPlaneHoldDone (t : Nat) (s : State) : Host.Outcome State Fault Refusal :=
  let s := s.at_ t
  .next (match s.dev.hold with
    | none => s
    | some h =>
      if !s.quiet && s.now < h.deadline then s
      else
        let s := { s with dev := { s.dev with schedOff := true, hold := none } }
        let s := match h.scan with
          | some x => s.openScan x
          | none => s
        match h.mode with
        | some c => (s.setMode .standby).answer c .ok 0 (s.setMode .standby).dev.mode.code []
        | none => s)

end Sys2Proof.Machine
end

