-- ==== Sys2Proof/Machine/Units.lean ====
section
/-! DEFINITION. Failures and planned map-outs of units, their return, and the fault log's commands (23_faults_and_degraded_service.md). -/

namespace Sys2Proof.Machine

/-! ### Scheduler slices (R307, R308) -/

/-- The nodes of the tree under a level-A node, and the node itself. -/
def State.nodesUnder (s : State) (a : Nat) : List Nat :=
  (s.tm.nodes.filter fun r => r.1 = nodeKey 0 a || (r.2.live && s.rootOf r.1 = some a)).map fun r => r.1

/-- A node rebuilt with every bucket full (R308). -/
def State.refillNode (k : Nat) (s : State) : State :=
  let n := s.node k
  s.setNode k { n with tokC := n.cbs * 65536, tokP := n.pbs * 65536, filled := s.tclk, defC := 0, defE := 0 }

/-- Owners of the level-A nodes that `p` picks, and of the B, C and D nodes and the queues under them (R477). -/
def State.nodesMask (s : State) (p : Nat → Bool) : Nat :=
  orMasks (((List.range 192).filter fun a => s.rootExists a && p a).flatMap fun a =>
    2 ^ s.rootOwner a :: (s.nodesUnder a).map fun n => 2 ^ s.nodeOwner n)

/-- The mask of a slice: of what it serves, or served before its nodes moved under a planned map-out (R477). -/
def State.sliceMask (s : State) (k : Nat) : Nat := s.nodesMask fun a => s.sliceOf a = k || s.homeSlice a = k

/-- SLICE_FAIL (R308): selections in flight and queued packets of the slice are dropped, and its level-A nodes move. -/
def execSliceFail (t slice : Nat) (s : State) : Host.Outcome State Fault Refusal :=
  let s := s.at_ t
  .next (if 32 ≤ slice || s.isOut 8 slice then s
    else
      let as := s.sliceNodes slice
      let qs := as.flatMap s.queuesUnder
      let lost := (qs.map fun q => (s.queue q).packets.length).sum
      let m := s.nodesMask fun a => s.sliceOf a = slice
      let rank := s.nextClaim
      let s := { s with tm := { s.tm with selections := s.tm.selections.filter fun x => x.slice ≠ slice } }
      let s := each (fun q s => State.drainQueueWith id q s) qs s
      let move (a : Nat) (s : State) : State :=
        match s.leastSlice slice with
        | some k => each State.refillNode (s.nodesUnder a) (s.moveNode a k rank)
        | none => s
      let s := (each move as (s.markOut 8 slice)).markIn 8 slice
      (s.mapOut 8 slice 0 m lost).endWork 8 slice .hwFault (s.units.lastSeq + 1))

/-- The planned map-out of a slice is complete when no level-A node is left in it. -/
def State.sliceEmpty (s : State) (k : Nat) : State :=
  if s.sliceNodes k = [] then (s.mapOut 8 k 0 (s.sliceMask k) 0 true).endWork 8 k .ok 0 else s

/-- SLICE_NODE_MOVE (R307, R447): under a planned map-out, a level-A node with no backlog moves. -/
def execSliceNodeMove (t node : Nat) (s : State) : Host.Outcome State Fault Refusal :=
  let s := s.at_ t
  let k := s.sliceOf node
  .next (if 192 ≤ node || !s.rootExists node || !((s.workOf 8 k).any fun w => !w.ret) || s.backlogged (nodeKey 0 node) then s
    else
      match s.leastSlice k with
      | some j => (s.moveNode node j s.nextClaim).sliceEmpty k
      | none => s)

/-! ### Basecamp, table SRAM, associative blocks, near banks (R440, R441, R213, R284) -/

/-- BASECAMP_CORE_FAIL (R440): the commands of the core that had started and not yet taken effect, by their tags, complete with
HW_FAULT. With the last core the data plane continues unchanged. -/
def execBasecampCoreFail (t core : Nat) (tags : List Nat) (s : State) : Host.Outcome State Fault Refusal :=
  let s := s.at_ t
  .next (if 4 ≤ core || s.isOut 1 core then s
    else if s.countOut 1 = 3 then (s.markOut 1 core).record 1 core 3 4 0 0xFFFF 0
    else
      let s := s.mapOut 1 core 0 0xFFFF 0
      let q := s.units.lastSeq
      let one (x : Started) (s : State) : State := if !x.working && tags.contains x.cmd.tag then s.answer x.cmd .hwFault q 0 [] else s
      each one s.host.started s)

/-- Owners of tables. -/
def State.tablesMask (s : State) (ks : List Nat) : Nat := orMasks (ks.map fun k => 2 ^ s.tableOwner k)

/-- The live tables that `p` holds of. -/
def State.tablesWith (s : State) (p : Table → Bool) : List Nat := (s.tables.tables.filter fun r => r.2.live && p r.2).map fun r => r.1

/-- The structures of table SRAM by one number (R441): tables below 1,024, then decision trees, then action lists by their pointers. -/
inductive SramPart where
  | table (k : Nat)
  | tree (k : Nat)
  | list (ptr : Nat)
  deriving DecidableEq, Repr

/-- The structure that a row's number names. -/
def sramPart (i : Nat) : SramPart := if i < 1024 then .table i else if i < 2048 then .tree (i - 1024) else .list (i - 2048)

/-- The structure is there. -/
def State.hasPart (s : State) : SramPart → Bool
  | .table k => (s.table k).live
  | .tree k => (s.tree k).live
  | .list p => decide (look s.act.lists p [] ≠ [])

/-- The domain that a structure belongs to. -/
def State.partOwner (s : State) : SramPart → Nat
  | .table k => s.owner 3 (s.table k).partition
  | .tree k => s.owner 3 (s.tree k).partition
  | .list p => s.owner 3 (p / 2 ^ 20)

/-- Mark a structure: it needs a bank that is out (`miss`), and found no room in the healthy banks (`lost`). -/
def State.markPart (miss lost : Bool) (p : SramPart) (s : State) : State :=
  match p with
  | .table k => s.setTable k { s.table k with bankMiss := miss, bankLost := lost }
  | .tree k => s.setTree k { s.tree k with bankMiss := miss, bankLost := lost }
  | .list q =>
    let put1 (on : Bool) (l : List Nat) : List Nat := (if on then [q] else []) ++ l.filter (· ≠ q)
    { s with act := { s.act with missing := put1 miss s.act.missing, lost := put1 lost s.act.lost } }

/-- The structures that need a bank that is out; those that found no room are left aside where `fresh`. -/
def State.missingParts (s : State) (fresh : Bool) : List SramPart :=
  ((s.tablesWith fun x => x.bankMiss && !(fresh && x.bankLost)).map .table) ++
    ((s.parse.trees.filter fun r => r.2.bankMiss && !(fresh && r.2.bankLost)).map fun r => .tree r.1) ++
    ((s.act.missing.filter fun q => !(fresh && s.act.lost.contains q)).map .list)

/-- TABLE_BANK_FAIL (R441; R436 while the rebuild runs): lookups of the tables and trees that need the bank read as misses, and so do its action lists; `tables` numbers
them as `sramPart` does. -/
def execTableBankFail (t bank : Nat) (tables : List Nat) (s : State) : Host.Outcome State Fault Refusal :=
  let s := s.at_ t
  let ps := (tables.map sramPart).filter s.hasPart
  .next (if 16 ≤ bank then s
    else if s.isOut 5 bank then
      if s.missingParts true = [] then s else s.failAgain 5 bank 0 (orMasks ((s.missingParts true).map fun p => 2 ^ s.partOwner p))
    else (each (State.markPart true false) ps s).mapOut 5 bank 0 (orMasks (ps.map fun p => 2 ^ s.partOwner p)) 0)

/-- TABLE_BANK_REBUILT (R441): what fits in healthy banks is rebuilt; what `missing` numbers stays missing, and adds find no room. -/
def execTableBankRebuilt (t bank : Nat) (missing : List Nat) (s : State) : Host.Outcome State Fault Refusal :=
  let s := s.at_ t
  let gone := missing.map sramPart
  let one (p : SramPart) (s : State) : State := s.markPart (gone.contains p) (gone.contains p) p
  .next (if s.isOut 5 bank then each one (s.missingParts true) s else s)

/-- Updates of an array end with HW_FAULT (R213). -/
def failUpdates (k detail : Nat) : Nat → State → State
  | 0, s => s
  | n + 1, s =>
    match (s.array k).work with
    | none => s
    | some w => failUpdates k detail n (s.endUpdate k w .hwFault detail)

/-- A block is mapped out (R213): the searches of its array that have not returned give status 2. -/
def State.blockOut (s : State) (b : Nat) (planned : Bool) : State :=
  let s := (s.mapOut 6 b 0 (2 ^ s.owner 4 b) 0 planned).settleBlock b
  match s.arrayOf b with
  | none => s
  | some k => failUpdates k s.units.lastSeq ((s.array k).later.length + 1) s

/-- ASSOC_BLOCK_FAIL (R213, R438). -/
def execAssocBlockFail (t block : Nat) (s : State) : Host.Outcome State Fault Refusal :=
  let s := s.at_ t
  .next (if 32 ≤ block || s.isOut 6 block then s else s.blockOut block false)

/-- A near cell of a bank. -/
def inBank (b a : Nat) : Bool := !isFar a && a % 8 = b

/-- NEAR_BANK_FAIL (R284): what the bank's cells held is lost. -/
def execNearBankFail (t bank : Nat) (s : State) : Host.Outcome State Fault Refusal :=
  let s := s.at_ t
  .next (if 8 ≤ bank || s.isOut 7 bank then s
    else
      let lost := s.packetsIn (inBank bank)
      let s := (s.loseCells (inBank bank)).mapOut 7 bank 0 0xFFFF lost
      s.endWork 7 bank .hwFault s.units.lastSeq)

/-! ### Planned map-out (R447) -/

/-- How many units a kind has (R438). -/
def unitCount : Nat → Nat
  | 0x01 => 4
  | 0x02 => 4
  | 0x03 => 16
  | 0x04 => 32
  | 0x05 => 16
  | 0x06 => 32
  | 0x07 => 8
  | 0x08 => 32
  | 0x09 => 10
  | 0x0A => 256
  | 0x0B => 192
  | 0x0C => 132
  | 0x0D => 48
  | 0x0E => 1
  | _ => 0

/-- A map-out or return of the unit is in progress. -/
def State.unitBusy (s : State) (kind n : Nat) : Bool :=
  s.inWork kind n || (kind = 9 && (s.stack n).work.isSome) || (kind = 0x0B && (s.flink n).work.isSome)

/-- The work of a UNIT_MAP that replies later. -/
def State.beginWork (s : State) (kind n : Nat) (c : Cmd) (ret : Bool) : State :=
  let w : UnitWork := { cmd := c, ret := ret, since := s.now }
  { s with units := { s.units with work := insertRow (drop s.units.work (kind * 65536 + n)) (kind * 65536 + n) w } }

/-- A lane is mapped out by command (R122). -/
def State.planLaneOut (s : State) (l : Nat) : State :=
  let m := s.laneMask l
  let s := (s.mapOut 0x0A l 0 m 0 true).laneFault l m
  match s.portOfLane l with
  | some p => s.portFault p 3
  | none => s

/-- A PON channel is mapped out: its tree stops framing. -/
def State.channelOut (s : State) (t : Nat) : State :=
  let s := s.mapOut 0x0D t 0 (2 ^ s.owner 7 t) 0 true
  let s := s.setPonTree t { s.ponTree t with framing := false, windows := [], quiet := [], maps := [] }
  match s.treePort t with
  | some p => s.portFault p 3
  | none => s

/-- The bank's structures move before it is removed (R447); which tables they are of is free. -/
def State.bankOut (s : State) (b : Nat) : State := s.drawn.mapOut 5 b 0 (Config.freeValue s.free % 65536) 0 true

/-- No cell of a near bank is held. -/
def State.bankFree (s : State) (b : Nat) : Bool := !(s.buf.cells.any fun r => r.2.used && inBank b r.1)

/-- The near bank that a planned map-out drains leaves when it holds no cell. -/
def State.nearEmpty (s : State) (b : Nat) : State :=
  if s.bankFree b then (s.mapOut 7 b 0 0xFFFF 0 true).endWork 7 b .ok 0 else s

/-- UNIT_MAP op 0 (R447): the state, and whether the reply comes later. -/
def State.planOut (s : State) (c : Cmd) (kind n : Nat) : State × Bool :=
  match kind with
  | 0x01 => (s.mapOut 1 n 0 0xFFFF 0 true, false)
  | 0x03 => ((s.beginWork 3 n c false).restop, true)
  | 0x04 =>
    let s := s.beginWork 4 n c false
    let s := s.setCluster n { s.cluster n with draining := true }
    (each (State.steerPlanned n) (List.range 1024) s, true)
  | 0x05 => (s.bankOut n, false)
  | 0x06 => (s.blockOut n true, false)
  | 0x07 => if s.bankFree n then (s.mapOut 7 n 0 0xFFFF 0 true, false) else (s.beginWork 7 n c false, true)
  | 0x08 => if s.sliceNodes n = [] then (s.mapOut 8 n 0 (s.sliceMask n) 0 true, false) else (s.beginWork 8 n c false, true)
  | 0x09 => s.planStackOut n c
  | 0x0A => (s.planLaneOut n, false)
  | 0x0B => (s.linkLeaves n c, true)
  | 0x0C => (s.cipherOut n true, false)
  | 0x0D => (s.channelOut n, false)
  | _ => (s, false)

/-- CLUSTER_DRAINED (R447): the cluster has finished its passes; one that failed meanwhile answers HW_FAULT. -/
def execClusterDrained (t cluster : Nat) (s : State) : Host.Outcome State Fault Refusal :=
  let s := s.at_ t
  .next (if !((s.workOf 4 cluster).any fun w => !w.ret) then s
    else if s.isOut 4 cluster then s.endWork 4 cluster .hwFault (s.seqOf 4 cluster)
    else if s.clusterIdle cluster then (s.clusterOut cluster 0 true).endWork 4 cluster .ok 0
    else s)

/-- NEAR_BANK_DRAINED (R447). -/
def execNearBankDrained (t bank : Nat) (s : State) : Host.Outcome State Fault Refusal :=
  let s := s.at_ t
  .next (if s.inWork 7 bank then s.nearEmpty bank else s)

/-- UNIT_MAP_TIMEOUT (R447): a planned map-out of a cluster, a near bank or a slice has not completed within 100 ms. -/
def execUnitMapTimeout (t kind number : Nat) (s : State) : Host.Outcome State Fault Refusal :=
  let s := s.at_ t
  .next (match s.workOf kind number with
    | none => s
    | some w =>
      if !(kind = 4 || kind = 7 || kind = 8) || w.ret || s.now < w.since + ms 100 then s
      else
        let s := s.endWork kind number .timeout 2
        if kind = 4 then s.setCluster number { s.cluster number with draining := false }
        else if kind = 7 then s.returnAside
        else s)

/-! ### Return (R439, R447) -/

/-- The domains whose resources a unit serves (R477). -/
def State.unitMask (s : State) (kind n : Nat) : Nat :=
  match kind with
  | 0x05 => orMasks ((s.missingParts false).map fun p => 2 ^ s.partOwner p)
  | 0x06 => 2 ^ s.owner 4 n
  | 0x08 => s.sliceMask n
  | 0x09 => s.stackMask n
  | 0x0A => s.laneMask n
  | 0x0C => s.cipherMask n
  | 0x0D => 2 ^ s.owner 7 n
  | _ => 0xFFFF

/-- A port whose lane or channel returns: in FAULT_LOCAL it goes to TRAINING, and its up-hold time counts from now (R118). -/
def State.portBack (s : State) (p : Nat) : State :=
  let x := s.port p
  let s := s.setPort p { x with clearSince := s.now, trainStart := if x.state = .faultLocal then s.now else x.trainStart }
  if x.state = .faultLocal then s.moveLink p .training 0 else s

/-- A lane returns to its port. -/
def State.laneBack (l : Nat) (s : State) : State :=
  match s.portOfLane l with
  | some p => s.portBack p
  | none => s

/-- A quad that was mapped out as a whole returns as a whole (R123): the lanes that pass return, the others stay out on their own. -/
def State.quadBack (s : State) (q : Nat) (fails : List Nat) : State :=
  let m := orMasks ((quadLanes q).map s.laneMask)
  let good := (quadLanes q).filter fun l => !fails.contains (l % 4)
  let s := each (fun l s => State.setLane s l { s.lane l with quadOut := false }) (quadLanes q) s
  let s := each (fun l s => State.laneBack l (s.markIn 0x0A l)) good s
  if good = [] then s else (s.record 0x0A (4 * q) 0 3 0 m 0 true).afterReturn

/-- The lanes of a quad that return, by their bits (R123). -/
def quadResult (fails : List Nat) : Nat := ((List.range 4).map fun i => if fails.contains i then 0 else 2 ^ i).sum

/-- A cluster rejoins with its profile loaded, and takes back the entries whose home it is, with the hold of R159. -/
def State.clusterBack (s : State) (c : Nat) : State :=
  let s := s.bringBack 4 c 0xFFFF true
  let s := match s.eng.active with
    | some p => s.loadCluster p c
    | none => s.resetCluster c
  let s := s.refeed c
  each (fun i s => State.moveSteer s i c true) ((List.range 1024).filter fun i => i % 32 = c) s

/-- What a table SRAM bank held is in place again: tables that missed it are whole. -/
def State.bankBack (s : State) (b : Nat) : State :=
  let s := s.bringBack 5 b (s.unitMask 5 b) true
  each (State.markPart false false) (s.missingParts false) s

/-- A block returns with Basecamp's copy written back (R213); the searches that started before give status 2. -/
def State.blockBack (s : State) (b : Nat) : State :=
  let s := (s.settleBlock b).bringBack 6 b (2 ^ s.owner 4 b) true
  each (fun r s => State.setArow s b r (s.arow b r).restored) (s.rowsOf b) s

/-- A slice takes back the level-A nodes whose home it is and that hold no backlog, as R307 moves them. -/
def State.sliceBack (s : State) (k : Nat) : State :=
  let s := s.bringBack 8 k (s.sliceMask k) true
  each (fun a s => State.moveNode s a k 0)
    ((List.range 192).filter fun a => s.homeSlice a = k && s.sliceOf a ≠ k && !s.backlogged (nodeKey 0 a)) s

/-- A group returns (R23): the reply comes when the last entry whose home it is has been given back. -/
def State.groupBack (s : State) (n : Nat) (c : Cmd) : State × Bool :=
  let s := s.bringBack 3 n 0xFFFF true
  if s.awayEntries true n = [] && s.awayEntries false n = [] then (s, false)
  else ((s.beginWork 3 n c true).restop, true)

/-- UNIT_MAP op 1 of a unit that passes its self-test: the state, and whether the reply comes later. -/
def State.planBack (s : State) (c : Cmd) (kind n : Nat) : State × Bool :=
  match kind with
  | 0x03 => s.groupBack n c
  | 0x04 => (s.clusterBack n, false)
  | 0x05 => (s.bankBack n, false)
  | 0x06 => (s.blockBack n, false)
  | 0x07 => ((s.bringBack 7 n 0xFFFF true).returnAside, false)
  | 0x08 => (s.sliceBack n, false)
  | 0x09 => (s.setStack n { s.stack n with work := some (c, false), state := .training, trained := false, zeroed := false }, true)
  | 0x0A => (State.laneBack n (s.bringBack 0x0A n (s.laneMask n) true), false)
  | 0x0B => (s.setFlink n { s.flink n with commandOut := false, laneFailed := false }, false)
  | 0x0C => (((s.setCunit n { s.cunit n with testing := false, last := [] }).bringBack 0x0C n (s.cipherMask n) true).placeWaiting, false)
  | 0x0D =>
    let s := s.bringBack 0x0D n (2 ^ s.owner 7 n) true
    (match s.treePort n with
      | some p => s.portBack p
      | none => s, false)
  | _ => (s.bringBack kind n 0xFFFF true, false)

/-- The self-test of a unit fails: `fails` names a quad's lanes by 0–3 and its shared circuits by 4; of any other unit it names
anything. -/
def testFails (quad : Bool) (fails : List Nat) : Bool := if quad then fails.contains 4 else fails != []

/-- UNIT_MAP (R439, R447): D0 on the principal host. -/
def execUnitMap (t : Nat) (c : Cmd) (selfTest : List Nat) (s : State) : Host.Outcome State Fault Refusal :=
  let s := s.at_ t
  let kind := c.u8 16
  let n := c.u16 18
  let out := c.u8 17 = 0
  let quad := decide (kind = 0x0A) && (s.lane n).quadOut
  let errs := [need (c.host = s.dom.principal) denied, at_ 16 (kind = 1 || (3 ≤ kind && kind ≤ 0x0D)), at_ 17 (c.u8 17 ≤ 1),
    at_ 18 (n < unitCount kind), c.zeros 20 44, if kind = 0x0B then s.fabErr else none,
    need (!s.unitBusy kind n) { status := .busy }, at_ 18 (if out then s.healthy kind n else s.isOut kind n),
    need (!out || (s.markOut kind n).serviceable) (refusedWith 1), need (!(out && kind = 9 && s.lastFarStack n)) (refusedWith 1)]
  let plan := s.planOut c kind n
  let back := s.planBack c kind n
  let bad := s.record kind n 2 2 0 (s.unitMask kind n) 0
  .next (s.command 0x1101 c .d0 errs
    (if out then { s := plan.1, later := plan.2 }
    else if testFails quad selfTest then { s := bad, status := .hwFault, detail := bad.units.lastSeq }
    else if quad then { s := s.quadBack (n / 4) selfTest, result := quadResult selfTest }
    else { s := back.1, later := back.2 }))

/-! ### The fault log (R444, R445) -/

/-- A record's 32 bytes (R444). -/
def Rec.bytes (r : Rec) : Bytes :=
  leBytes 4 r.seq ++ timeBytes r.time ++ leBytes 1 r.kind ++ leBytes 1 r.severity ++ leBytes 2 r.unit ++ leBytes 1 r.cause ++
    leBytes 1 r.action ++ leBytes 2 r.mask ++ leBytes 4 r.lost ++ leBytes 2 (min r.recoveryUs 65535) ++
    leBytes 1 (b2n r.planned + 2 * b2n r.acked + 4 * b2n r.late) ++ [0]

/-- The records that a domain reads from a sequence number on (R445). -/
def State.readable (s : State) (d first : Nat) : List Rec := s.units.log.filter fun r => first ≤ r.seq && (d = 0 || bit r.mask d)

/-- Records from a sequence number on that were overwritten. -/
def State.overwritten (s : State) (first : Nat) : Nat := s.units.lastSeq + 1 - s.units.log.length - max first 1

/-- FAULT_LOG_READ (R444, R445). -/
def execFaultLogRead (t : Nat) (c : Cmd) (s : State) : Host.Outcome State Fault Refusal :=
  let s := s.at_ t
  let l := (s.readable c.domain (c.u32 16)).take (c.u8 20)
  .next (s.command 0x1100 c .any [c.needReply, at_ 20 (1 ≤ c.u8 20 && c.u8 20 ≤ 32), c.zeros 21 43]
    { s := s, detail := s.overwritten (c.u32 16), result := 32 * l.length, long := l.flatMap Rec.bytes })

/-- FAULT_ACK: every record up to and including the sequence number is acknowledged. -/
def execFaultAck (t : Nat) (c : Cmd) (s : State) : Host.Outcome State Fault Refusal :=
  let s := s.at_ t
  let ack (r : Rec) : Rec := if r.seq ≤ c.u32 16 then { r with acked := true } else r
  .next (s.command 0x1102 c .d0
    [need (c.host = s.dom.principal) denied, at_ 16 (c.u32 16 ≤ s.units.lastSeq), c.zeros 20 44]
    { s := { s with units := { s.units with log := s.units.log.map ack } } })

/-- FAULT_CONFIG (R446). -/
def execFaultConfig (t : Nat) (c : Cmd) (s : State) : Host.Outcome State Fault Refusal :=
  let s := s.at_ t
  .next (s.command 0x1103 c .d0 [need (c.host = s.dom.principal) denied, at_ 16 (c.u8 16 ≤ 3), c.zeros 17 47]
    { s := { s with units := { s.units with level := c.u8 16 } } })

end Sys2Proof.Machine
end

