-- ==== Sys2Proof/Machine/Regs.lean ====
section
/-! DEFINITION. Writes of registers with no row of their own, the mapping of window pages, and DEV_QUERY
(03_host_ports_and_commands.md). -/

namespace Sys2Proof.Machine

/-! ### REGISTER_WRITE (R8–R10, R57, R59) -/

/-- The low half of a 64-bit address replaced by the bits of a write that `mask` keeps. -/
def withLow (a v mask : Nat) : Nat := a / 2 ^ 32 * 2 ^ 32 + (v &&& mask)
/-- The high half of a 64-bit address replaced. -/
def withHigh (a v : Nat) : Nat := v % 2 ^ 32 * 2 ^ 32 + a % 2 ^ 32

/-- A write of a ring's base or shadow register, by its offset: it acts only while the ring is DISABLED (R66), and reserved bits are
ignored (R10). -/
def Ring.baseWrite (g : Ring) (off v : Nat) : Ring :=
  if g.state ≠ .disabled then g
  else
    match off with
    | 0x00 => { g with sqBase := withLow g.sqBase v 0xFFFFF000 }
    | 0x04 => { g with sqBase := withHigh g.sqBase v }
    | 0x08 => { g with cqBase := withLow g.cqBase v 0xFFFFF000 }
    | 0x0C => { g with cqBase := withHigh g.cqBase v }
    | 0x10 => { g with shadow := withLow g.shadow v 0xFFFFFFC0 }
    | 0x14 => { g with shadow := withHigh g.shadow v }
    | _ => g

/-- A write of the MSI-X table's word (R53): words 0 to 2 hold address and data; bit 0 of word 3 masks the vector. A vector that is
pending sends its message when it is unmasked. -/
def State.msixWrite (s : State) (h i v : Nat) : State :=
  let p := s.hostPort h
  let n := i / 4
  if i % 4 ≠ 3 then s.setHostPort h { p with msixTable := put p.msixTable i 0 v }
  else
    let p := { p with msixUnmasked := put p.msixUnmasked n false (v % 2 = 0) }
    if v % 2 = 0 && look p.msixPending n false && !p.msixOff then
      (s.setHostPort h { p with msixPending := put p.msixPending n false false }).emit (.msix h n)
    else s.setHostPort h p

/-- One write of a register (R8, R57): naturally aligned and of 32 bits; only host-own registers are written here. -/
def State.regWrite (w : RegWrite) (s : State) : State :=
  let v := w.value % 2 ^ 32
  if w.size ≠ 4 || w.addr % 4 ≠ 0 || 4 ≤ w.host || !s.answers w.host then s
  else if 0x00101000 ≤ w.addr && w.addr < 0x00101400 then
    let r := (w.addr - 0x00101000) / 0x40
    s.setRing w.host r ((s.ring w.host r).baseWrite ((w.addr - 0x00101000) % 0x40) v)
  else if 0x00110000 ≤ w.addr && w.addr < 0x00111000 then s.msixWrite w.host ((w.addr - 0x00110000) / 4) v
  else s

/-- REGISTER_WRITE (R57, R59): the writes of one KCLK cycle, in ascending host number. -/
def execRegisterWrite (t : Nat) (writes : List RegWrite) (s : State) : Host.Outcome State Fault Refusal :=
  .next (each State.regWrite (claimsOf writes) (s.at_ t))

/-! ### MEM_WINDOW (R60–R62, R87) -/

/-- An exported region: its owner and its size in pages; each is read-only (R326, R362). -/
def State.exported (s : State) (region : Nat) : Option (Nat × Nat) :=
  if 0xA00 ≤ region && region < 0xA10 then some (region - 0xA00, (s.observer (region - 0xA00)).pages)
  else if 0xC00 ≤ region && region < 0xC30 then some (s.owner 7 (region - 0xC00), 1)
  else none

/-- The domain holds the region. -/
def State.holdsRegion (s : State) (d region : Nat) : Bool :=
  match s.exported region with
  | some (o, _) => o = d
  | none => false

/-- The pages of a region. -/
def State.regionPages (s : State) (region : Nat) : Nat :=
  match s.exported region with
  | some (_, n) => n
  | none => 0

/-- MEM_WINDOW (R87). The spec gives its checks no order beside the byte order: this model answers kind 0x06 before every other check, also for
an unmap, and refuses an unmap whose bytes 17 and 20–27, the fields of a map, are not 0. DESIGN CHOICE, log entry 125. -/
def execMemWindow (t : Nat) (c : Cmd) (s : State) : Host.Outcome State Fault Refusal :=
  let s := s.at_ t
  let map := c.u8 16 = 0
  let page := c.u16 18
  let w := s.window c.host page
  let region := c.u32 20
  .next (s.command 0x0004 c .any
    ([need (s.hostPort c.host).cxl { status := .invalidParam, detail := 0x06000000 }, at_ 16 (c.u8 16 ≤ 1),
      at_ 17 (if map then c.u8 17 ≤ 1 else c.u8 17 = 0), at_ 18 (page < 4096)] ++
     (if map then
       [need (s.holdsRegion c.domain region) denied, at_ 24 (c.u32 24 < s.regionPages region), at_ 17 (c.u8 17 = 0), c.zeros 28 36,
        at_ 18 (!w.mapped)]
     else
       [c.zeros 20 44, need w.mapped { status := .notFound }, need (w.domain = c.domain) denied]))
    { s := s.setWindow c.host page
        (if map then { region := region, page := c.u32 24, write := false, domain := c.domain, mapped := true } else {}) })

/-! ### DEV_QUERY (R85) -/

/-- DEV_QUERY: identity and health. -/
def execDevQuery (t : Nat) (c : Cmd) (s : State) : Host.Outcome State Fault Refusal :=
  let s := s.at_ t
  .next (s.command 0x0002 c .any [c.needReply, c.zeros 16 48]
    { s := s, result := 64, long := devQueryBytes c.host s.fw.version s })

end Sys2Proof.Machine
end

