-- ==== Sys2Proof/Machine/Flags.lean ====
section
/-! DEFINITION. What every register of the window reads to a host (the "Registers" sections of the chapters), under the
filter of R57 and R58: a field that a host may not see reads as zero. Reads with an effect are rows of their own. -/

namespace Sys2Proof.Machine

/-- A register word from its fields, each with the bit it begins at. -/
def fieldsOf (l : List (Nat × Nat)) : Nat := (l.map fun f => f.1 * 2 ^ f.2).sum

/-- The number of the JTAG port among the readers of the registers, after the hosts. -/
def jtagReader : Nat := 4

/-- A reader sees the fields of a domain: a host that holds it (R57), or the JTAG port where its session may read the registers and its mask
has the domain (R95, R106). -/
def State.sees (s : State) (h d : Nat) : Bool :=
  if h = jtagReader then s.dom.session.any fun x => !x.viaHost && bit x.scope 0 && bit x.mask d else s.holds h d

/-- A value that a reader sees where it sees the domain, and zero otherwise (R57). -/
def State.seen (s : State) (h d v : Nat) : Nat := if s.sees h d then v else 0

/-! ### DEV and FAULT (02, 23) -/

/-- DEV_MODE. -/
def Dev.modeWord (d : Dev) : Nat := fieldsOf [(d.modeSeq, 8), (d.prevMode.code, 4), (d.mode.code, 0)]

/-- DEV_STATUS (R35, R43). -/
def State.statusWord (s : State) : Nat :=
  fieldsOf [(s.dev.bootError, 16), (s.dom.principal, 10), (b2n s.dev.flashConfig, 9), (s.dev.topology, 8),
            (b2n s.unserviceable, 2), (b2n s.anyOut, 1), (b2n s.dev.ready, 0)]

/-- DEV_STRAP (R42, R43). -/
def Dev.strapWord (d : Dev) : Nat :=
  fieldsOf [(b2n d.principalSource, 9), (b2n d.topoSource, 8), (d.straps.principalSel, 4), (d.straps.topoSel, 2), (d.straps.bootMode, 0)]

/-- DEV_START: pll_done is step 2, which ends within 100 µs (R44). -/
def State.startWord (s : State) : Nat :=
  let d := s.dev
  let pll := d.bootDone || (!d.inReset && d.startOrigin + us 100 ≤ s.now)
  fieldsOf [(d.startMs, 16), (b2n d.configDone, 5), (b2n d.dramDone, 4), (b2n d.guylineDone, 3), (b2n d.serdesDone, 2), (b2n pll, 1),
            (b2n d.bootDone, 0)]

/-- DEV_THERM (R470). -/
def Dev.thermWord (d : Dev) : Nat :=
  fieldsOf [(unsigned 8 d.tjF, 24), (unsigned 8 d.tjT, 16), (d.stackMax % 256, 8), (b2n d.overMax, 0)]

/-- The always-on monitor holds FAULT_N (R446). -/
def State.alwaysOn (s : State) : Bool := s.units.hold.pll || s.units.hold.supply || s.units.hold.thermal

/-- The records that no host has acknowledged (R445). -/
def State.unacked (s : State) : List Rec := s.units.log.filter fun r => !r.acked

/-- FAULT_N is asserted (R446): by a hold, with the device unserviceable, with no Basecamp core left (R440), or by a record that is not
acknowledged, where the level is not off. -/
def State.faultN (s : State) : Bool :=
  s.alwaysOn || s.unserviceable || decide (4 ≤ s.countOut 1) || s.unacked.any fun r => s.units.level ≠ 0 && s.units.level ≤ r.severity

/-- FAULT_STATUS. -/
def State.faultWord (s : State) : Nat :=
  fieldsOf [(b2n s.faultN, 31), (b2n s.alwaysOn, 30), (s.units.level, 28), ((s.unacked.map fun r => r.severity).foldl max 0, 26),
            (s.unacked.length, 0)]

/-! ### HCMD (03) -/

/-- RING_STATUS.state's code (R66). -/
def RingState.code : RingState → Nat
  | .disabled => 0
  | .active => 1
  | .draining => 2
  | .error => 3

/-- The registers of a ring, by offset. -/
def Ring.word (g : Ring) : Nat → Nat
  | 0x00 => g.sqBase % 2 ^ 32
  | 0x04 => g.sqBase / 2 ^ 32
  | 0x08 => g.cqBase % 2 ^ 32
  | 0x0C => g.cqBase / 2 ^ 32
  | 0x10 => g.shadow % 2 ^ 32
  | 0x14 => g.shadow / 2 ^ 32
  | 0x18 => fieldsOf [(b2n g.enable, 31), (g.sizeLog2, 24), (g.vector, 16), (g.coalCount, 8), (g.coalTime, 0)]
  | 0x1C => fieldsOf [(g.state.code, 30), (g.error, 16), (g.sqHead, 0)]
  | _ => 0

/-- A word of the MSI-X table: word 3 holds the mask bit, which is set at reset. -/
def HostPort.msixWord (p : HostPort) (i : Nat) : Nat :=
  if i % 4 = 3 then b2n (!look p.msixUnmasked (i / 4) false) else look p.msixTable i 0

/-- A word of the pending-bit array. -/
def HostPort.pbaWord (p : HostPort) (i : Nat) : Nat :=
  ((List.range 32).map fun k => b2n (look p.msixPending (32 * i + k) false) * 2 ^ k).sum

/-- The registers of HCMD: each host reads its own. -/
def State.hcmdWord (s : State) (h a : Nat) : Nat :=
  let p := s.hostPort h
  if a = 0x0 then fieldsOf [(s.heldMask h, 16), (h, 0)]
  else if a = 0x4 then p.evtLost
  else if 0x1000 ≤ a && a < 0x1400 then (s.ring h ((a - 0x1000) / 0x40)).word (a % 0x40)
  else if 0x2000 ≤ a && a < 0x2100 then
    let g := s.ring h ((a - 0x2000) / 0x10)
    if a % 0x10 = 0 then g.sqTail else if a % 0x10 = 4 then g.cqHead else 0
  else if 0x10000 ≤ a && a < 0x11000 then p.msixWord ((a - 0x10000) / 4)
  else if 0x11000 ≤ a && a < 0x11020 then p.pbaWord ((a - 0x11000) / 4)
  else 0

/-! ### SEC (04) -/

/-- SEC_KEY_LOCK as a host reads it (R103). -/
def State.lockWord (s : State) (h : Nat) : Nat :=
  let r := (s.hostPort h).keyResult
  match s.lockNow with
  | none => fieldsOf [(r, 16)]
  | some l =>
    let mine := l.host = h
    fieldsOf [(1, 31), (b2n mine, 30), (l.host, 28), (if mine then l.domain else 0, 24), (r, 16), ((l.deadline - s.now) / us 1, 0)]

/-- The registers of SEC. -/
def State.secWord (s : State) (h : Nat) : Nat → Nat
  | 0x00 => fieldsOf [(b2n s.dom.valid, 31), (s.dom.principal, 24), (s.dom.changeSeq, 16), (s.dom.timeoutMs, 0)]
  | 0x08 => s.seen h 0 ((List.range 16).map fun d => ((s.domain d).host.getD 0) * 4 ^ d).sum
  | 0x0C => s.seen h 0 ((List.range 16).map fun d => b2n (s.domain d).live * 2 ^ d).sum
  | 0x14 => s.lockWord h
  | 0x18 =>
    match s.dom.session with
    | some x => fieldsOf [(1, 31), (b2n x.viaHost, 30), (x.signer, 29), (x.scope, 0)]
    | none => 0
  | 0x1C => s.dom.nonce % 2 ^ 32
  | 0x20 => s.dom.nonce / 2 ^ 32 % 2 ^ 32
  | _ => 0

/-! ### PORT, LANE, ELI (05, 06) -/

/-- PORT_STATUS (R118). -/
def State.portWord (s : State) (p : Nat) : Nat :=
  let x := s.port p
  let paused := ((List.range 8).map fun c => b2n (s.now < look x.paused c 0) * 2 ^ c).sum
  fieldsOf [(x.state.code, 29), (x.cause, 26), (b2n x.berAlarm, 25), (paused, 16), (x.firstLane, 8), (x.laneCount, 4),
            (x.personality.code, 2)]

/-- LANE_STATUS (R122): what the running lane's PLL and receiver report beside the signal is a free value. -/
def State.laneWord (s : State) (l : Nat) : Nat :=
  let x := s.lane l
  let out := s.isOut 0x0A l
  let f := Config.freeValue s.free
  match s.portOfLane l with
  | none => fieldsOf [(b2n out, 31)]
  | some p =>
    let runs := !out && (s.port p).enable
    fieldsOf [(b2n out, 31), (if runs then f % 2 else 0, 30), (b2n (runs && !x.signalLost), 29), (if runs then f / 2 % 2 else 0, 28),
              (1, 27), (p, 20), (if runs then f / 4 % 65536 else 0, 0)]

/-- ELI_STATUS and ELI_CAP (R138–R145). -/
def State.eliWord (s : State) (p : Nat) : Nat → Nat
  | 0 =>
    let x := s.eliPort p
    fieldsOf [(b2n x.rx.inFrame, 30), (b2n x.rx.lol, 29), (b2n x.rx.lof, 28), (b2n x.rx.line.up, 27), (b2n x.rx.bdi.up, 26),
              (b2n x.tx.bdi, 25), (b2n x.tx.capLow, 24), (b2n x.rx.slmAny, 23), (b2n x.rx.aisAny, 22), (x.rx.frameCap, 8)]
  | 4 =>
    let x := s.eliPort p
    match x.tx.pending with
    | some q => fieldsOf [(x.tx.cap, 24), (x.rx.modemCap, 16), (q.cap, 8), (q.left, 0)]
    | none => fieldsOf [(x.tx.cap, 24), (x.rx.modemCap, 16), (0xFF, 8)]
  | _ => 0

/-! ### Trailhead, tables, arrays (07, 08, 09) -/

/-- The registers of PARSE. -/
def State.parseWord (s : State) (h a : Nat) : Nat :=
  if a < 0x1000 then fieldsOf [(b2n (s.hold (a / 4)).active, 31), (s.steer (a / 4), 0)]
  else if a = 0x1000 then
    match s.parse.graph with
    | some g => fieldsOf [(1, 31), (g.trans.length, 16), (g.nodes.length, 8), (s.parse.loadSeq % 256, 0)]
    | none => s.parse.loadSeq % 256
  else if 0x2000 ≤ a && a < 0x2300 then
    let p := (a - 0x2000) / 4
    let x := s.parsePort p
    s.seen h (s.owner 1 p) (fieldsOf [(x.hashSelect % 256, 16), (b2n x.oddDrop, 8), (x.profile, 0)])
  else if 0x3000 ≤ a && a < 0x3080 then
    let d := (a - 0x3000) / 8
    s.seen h d (if a % 8 = 0 then s.rulesUsed d else s.patternsUsed d)
  else if 0x4000 ≤ a && a < 0x4040 then s.seen h ((a - 0x4000) / 4) (s.granulesOf ((a - 0x4000) / 4))
  else 0

/-- TABLE_INFO, TABLE_USED and TABLE_ERR_LOG of a table, by offset. -/
def State.tableWord (s : State) (k : Nat) : Nat → Nat
  | 0x0 =>
    let t := s.table k
    fieldsOf [(1, 31), (t.kind, 29), (b2n t.mirror, 28), (b2n t.learn, 27), (b2n t.sram, 26), (t.age.mode, 24), (t.partition, 0)]
  | 0x4 =>
    let t := s.table k
    fieldsOf [(countRows t.entries fun p e => e.valid && t.size ≤ p, 25),
              (if t.kind < 2 then t.units else countRows t.entries fun _ e => e.valid, 0)]
  | 0x8 =>
    let t := s.table k
    fieldsOf [(b2n t.errValid, 31), (b2n t.errRepaired, 30), (t.errStack, 28), (t.errSlot, 26), (t.errBucket, 0)]
  | _ => 0

/-- The registers of TABLE. -/
def State.tablesWord (s : State) (h a : Nat) : Nat :=
  if a < 0x4000 then
    let k := a / 0x10
    if (s.table k).live then s.seen h (s.tableOwner k) (s.tableWord k (a % 0x10)) else 0
  else if 0x10000 ≤ a && a < 0x10300 then
    let p := (a - 0x10000) / 4
    let x := s.learnPort p
    s.seen h (s.owner 1 p) (fieldsOf [(b2n x.atLimit, 31), (b2n x.flood, 30), (x.charge, 0)])
  else 0

/-- The registers of ASSOC. -/
def State.assocWord (s : State) (h a : Nat) : Nat :=
  if a < 0x200 then
    let b := a / 0x10
    let x := s.ablock b
    let rows := countRows s.assoc.rows fun k r => k / 8192 = b && r.valid
    s.seen h (s.owner 4 b)
      (if a % 0x10 = 0 then
        match s.arrayOf b with
        | some k => fieldsOf [(1, 31), (b2n (s.isOut 6 b), 30), (k, 25), ((b - (s.array k).first) / (s.array k).width, 20), (rows, 0)]
        | none => fieldsOf [(b2n (s.isOut 6 b), 30), (rows, 0)]
      else if a % 0x10 = 4 then fieldsOf [(b2n x.errValid, 31), (b2n x.errRepaired, 30), (x.errRow, 0)] else 0)
  else if 0x1000 ≤ a && a < 0x1200 && a % 0x10 = 0 then
    let x := s.array ((a - 0x1000) / 0x10)
    if x.live then
      s.seen h (s.owner 4 x.first)
        (fieldsOf [(1, 31), (b2n x.prefilter, 30), (Nat.log2 x.width, 28), (x.first, 16), (x.count, 0)])
    else 0
  else 0

/-! ### Engines and Scout (10, 11) -/

/-- ENG_CL_STATUS. -/
def State.clusterWord (s : State) (c : Nat) : Nat :=
  let x := s.cluster c
  let of (p : Thread → Bool) : Nat := ((s.threadsOf c).filter fun th => p (s.thread th)).length
  fieldsOf [(b2n (s.isOut 4 c), 31), (b2n x.allwait, 30), (b2n x.draining, 29), (of fun t => t.pass.isSome, 19),
            (of fun t => t.state == .stopped, 10), (x.supEngine, 4), (x.supThread, 0)]

/-- ENG_THREAD. -/
def State.threadWord (s : State) (th : ThreadId) : Nat :=
  let x := s.thread th
  fieldsOf [(x.state.code, 29), (b2n x.spec.prov, 28), (b2n (s.isResident th), 27), (b2n (s.isSup th), 26), (b2n x.channel.isSome, 25),
            (x.channel.getD 0, 16), (x.stagedMask, 8), (x.domain, 4)]

/-- The registers of a cluster, by offset. -/
def State.engWord (s : State) (c a : Nat) : Nat :=
  let x := s.cluster c
  let th (i : Nat) : ThreadId := { cluster := c, engine := i / 16, thread := i % 16 }
  if a = 0 then s.clusterWord c
  else if a = 4 then fieldsOf [(x.allwaitUs, 16), (x.budget / 16, 0)]
  else if 0x100 ≤ a && a < 0x500 then s.threadWord (th ((a - 0x100) / 4))
  else if 0x500 ≤ a && a < 0x900 then (s.thread (th ((a - 0x500) / 4))).mask
  else if 0x900 ≤ a && a < 0xD00 then s.pendingWord (th ((a - 0x900) / 4))
  else if 0xD00 ≤ a && a < 0x1100 then look x.snap ((a - 0xD00) / 4) 0
  else if 0x1100 ≤ a && a < 0x1300 then
    let e := s.engine c ((a - 0x1100) / 0x20)
    let w := a % 0x20 / 4
    ((List.range 8).map fun k => e.slot (8 * w + k) * 16 ^ k).sum
  else if 0x1400 ≤ a && a < 0x1800 then
    let y := s.channel c ((a - 0x1400) / 4)
    fieldsOf [(y.visible.length, 28), (y.reserved, 24), (y.commits, 0)]
  else 0

/-- The registers of SCOUT. -/
def State.scoutWord (s : State) (h a : Nat) : Nat :=
  if a < 0x100 then s.seen h 0 (s.segOwner (a / 4))
  else if 0x1000 ≤ a && a < 0x1100 then
    let d := (a - 0x1000) / 0x10
    let x := s.scoutDom d
    s.seen h d
      (if a % 0x10 = 0 then fieldsOf [(b2n x.enable, 31), (b2n x.fill, 30), ((s.segsOf d).length, 23), (x.alarm, 0)]
       else if a % 0x10 = 4 then ((List.range 32).map fun i => b2n (s.template d i).enabled * 2 ^ i).sum else 0)
  else if 0x2000 ≤ a && a < 0x2080 then
    let c := (a - 0x2000) / 4
    s.seen h 0 (fieldsOf [((look s.scout.fills c []).length, 25), (countRows s.scout.cache fun k e => k / 16384 = c && e.valid, 0)])
  else 0

/-! ### Buffer, scheduler, observation (13, 14, 15) -/

/-- Pointers that a ring still holds as start-up built it; those of a near bank that is out are gone from it (R284). -/
def State.builtLeft (s : State) (far : Bool) (taken : Nat) : Nat :=
  if far then ringSize far - taken
  else ((List.range 8).map fun b => if s.healthy 7 b then (nearCells + 7 - b) / 8 - (taken + 7 - b) / 8 else 0).sum

/-- The free pointers of one memory: in its ring, as built or given back, withheld ones among them, and in the caches of the pools. -/
def State.freePointers (s : State) (far : Bool) : Nat :=
  let g := s.freeRing far
  let held := g.back ++ s.buf.aside.filter (fun a => isFar a == far) ++
    s.buf.pools.flatMap fun r => if far then r.2.cacheFar else r.2.cacheNear
  (if g.built then s.builtLeft far g.taken else 0) + (held.filter fun a => far || s.healthy 7 (a % 8)).length

/-- The registers of BUF. -/
def State.bufWord (s : State) (h a : Nat) : Nat :=
  if a < 0x400 then
    let x := s.pool (a / 0x10)
    match a % 0x10 with
    | 0x0 => fieldsOf [(b2n x.enabled, 31), (x.near, 0)]
    | 0x4 => x.far
    | 0x8 => fieldsOf [(((List.range 4).map fun i => b2n (look x.thresholds i {}).isSet * 2 ^ i).sum, 28), (x.nearUsed, 0)]
    | 0xC => x.farUsed
    | _ => 0
  else if 0x1000 ≤ a && a < 0x3000 then
    let x := s.account ((a - 0x1000) / 8)
    s.seen h x.domain
      (if a % 8 = 0 then fieldsOf [(b2n x.valid, 31), (x.pool, 20), (x.domain, 16)] else if a % 8 = 4 then x.used else 0)
  else if a = 0x3000 then s.freePointers false
  else if a = 0x3004 then fieldsOf [((s.buf.farCopies.filter fun n => s.healthy 9 n).length, 30), (s.freePointers true, 0)]
  else if a = 0x3010 then fieldsOf [(b2n s.buf.errValid, 31), (s.buf.errKind, 28), (s.buf.errCount, 0)]
  else if a = 0x3014 then s.buf.errAddr
  else if 0x4000 ≤ a && a < 0x5000 then
    let p := s.farPage ((a - 0x4000) / 4)
    fieldsOf [(b2n p.lost, 31), (p.stack, 8), (p.slot, 0)]
  else 0

/-- TM_A_STATUS, TM_A_RATE and TM_A_TOKENS of a level-A node, by offset. -/
def State.rootWord (s : State) (a : Nat) : Nat → Nat
  | 0x0 =>
    let n := s.node (nodeKey 0 a)
    let paused := match s.rootPort a with
      | some p => ((List.range 8).map fun i => b2n ((s.port p).pausedPriority s.now i) * 2 ^ i).sum
      | none => 0
    fieldsOf [(b2n (s.rootHeld a), 31), (b2n (n.eliRate ≠ 0), 30), (b2n (s.backlogged (nodeKey 0 a)), 29), (s.sliceOf a, 24), (paused, 16),
              (n.attachMask, 0)]
  | 0x4 => (s.node (nodeKey 0 a)).peakRate
  | 0x8 =>
    let n := (s.node (nodeKey 0 a)).refill s.tclk
    shownTokens n.peakRate n.tokP
  | _ => 0

/-- The registers of TM. -/
def State.tmWord (s : State) (h a : Nat) : Nat :=
  if a < 0xC00 then s.seen h (s.rootOwner (a / 0x10)) (s.rootWord (a / 0x10) (a % 0x10))
  else if 0x4000 ≤ a && a < 0x4080 then
    let k := (a - 0x4000) / 4
    fieldsOf [(b2n (s.isOut 8 k), 31), (b2n ((s.sliceNodes k).any fun x => s.homeSlice x ≠ k), 30), (min 31 (s.sliceLanes k / 8), 9),
              ((s.sliceNodes k).length, 0)]
  else if 0x5000 ≤ a && a < 0x5100 then
    let d := (a - 0x5000) / 0x10
    s.seen h d (if a % 0x10 < 0xC then s.nodesHeld d (a % 0x10 / 4 + 1) else 0)
  else 0

/-- The registers of CONG. -/
def State.congWord (s : State) (h a : Nat) : Nat :=
  if a < 0x100 then
    let d := a / 0x10
    let x := s.observer d
    s.seen h d
      (match a % 0x10 with
       | 0x0 => fieldsOf [(s.profilesHeld d, 17), ((s.selectedOf d).length, 0)]
       | 0x4 => fieldsOf [(b2n x.enable, 31), (b2n x.late, 30), (x.pages, 20), (x.periodUs, 0)]
       | 0x8 => x.seq
       | _ => 0)
  else 0

/-! ### Fabric, PON, cipher (16–19) -/

/-- The registers of FAB. -/
def State.fabWord (s : State) (h a : Nat) : Nat :=
  if a = 0 then fieldsOf [(b2n s.fab.enabled, 31), (s.healthyLinks, 11), (s.fab.device, 0)]
  else if 0x1000 ≤ a && a < 0x1300 then
    let l := (a - 0x1000) / 4
    let x := s.flink l
    s.seen h 0 (fieldsOf [(b2n x.robin, 31), (b2n x.locked, 30), (b2n x.rdiRx, 29), (b2n (!x.locked || 64 < x.discards s.now), 28), (b2n x.commandOut, 27),
                          (s.carried l, 0)])
  else 0

/-- The registers of an ONU. -/
def State.onuWord (s : State) (t i : Nat) : Nat → Nat
  | 0 =>
    let o := s.onu t i
    fieldsOf [(o.state.code, 29), (b2n (o.key1 ≠ 0), 28), (b2n (o.key2 ≠ 0), 27), (o.active, 26), (o.profile, 24),
              (min 255 (s.lastSecond o.candidates).length, 16), (o.onuId, 0)]
  | 4 =>
    let o := s.onu t i
    let drift := match o.mean with
      | some v => unsigned 8 (inBits (s.ponType t) v)
      | none => 0
    fieldsOf [(drift, 20), ((o.eqd + 32768) / 65536, 0)]
  | _ => 0

/-- The registers of a tree, by offset. -/
def State.treeWord (s : State) (t a : Nat) : Nat :=
  let x := s.ponTree t
  if a = 0 then
    fieldsOf [(b2n x.enabled, 31), (b2n (s.frames t), 30), (b2n x.los, 29), (b2n x.search.isSome, 28), (b2n x.energy, 27),
              (s.ponType t, 25), (((s.onusOf t).filter fun r => r.2.state ≠ .empty).length, 16), (x.sfc % 65536, 0)]
  else if 0x1000 ≤ a && a < 0x1800 then s.onuWord t ((a - 0x1000) / 8) (a % 8)
  else if a = 0x2000 then fieldsOf [(x.learnWord, 30), (x.grantUnit, 10), (x.guardBits, 0)]
  else if a = 0x2004 then fieldsOf [(x.lastBursts, 22), (x.lastFree, 0)]
  else if 0x2100 ≤ a && a < 0x2140 then
    let g := x.group ((a - 0x2100) / 8)
    if a % 8 = 0 then
      fieldsOf [(b2n g.live, 31), (b2n g.trim, 30), (b2n (g.cut ≠ 0), 29), (256 - g.cut, 16), (min 65535 g.sojournUs, 0)]
    else fieldsOf [(g.shareMin, 24), (g.fMin, 16), (g.step, 8)]
  else 0

/-- The registers of CIPH. -/
def State.ciphWord (s : State) (h a : Nat) : Nat :=
  if a < 0x210 then
    let u := a / 4
    let x := s.cunit u
    fieldsOf [(b2n (s.isOut 0x0C u), 31), (b2n x.testing, 30), (min 255 x.disagree, 16), (s.pipeLoad u, 0)]
  else if 0x1000 ≤ a && a < 0x1300 then
    let p := (a - 0x1000) / 4
    let x := s.cport p
    s.seen h (s.owner 1 p)
      (fieldsOf [(b2n x.tx, 31), (b2n x.rx, 30), (x.validate, 28), (x.txAn, 26), (x.rxPipe - 1, 8), (x.txPipe - 33, 0)])
  else if a = 0x2000 then fieldsOf [(b2n s.cipher.logValid, 31), (s.cipher.logUnit, 16), (s.cipher.logCount, 0)]
  else 0

/-! ### TIME, DRAM, Lantern, firmware (20, 21, 22, 24) -/

/-- The registers of TIME; the seconds and the fraction are the host's shadow (R392), and as they stand for the JTAG port. -/
def State.timeWord (s : State) (h a : Nat) : Nat :=
  let b := s.timeBase
  let p := if h = jtagReader then { timeSec := s.timeNow / second, timeFrac := s.timeNow % 2 ^ 40 / 2 ^ 24 } else s.hostPort h
  if a = 0x00 then s.timeNow % second / 2 ^ 40
  else if a = 0x04 then p.timeSec % 2 ^ 32
  else if a = 0x08 then fieldsOf [(p.timeFrac, 16), (p.timeSec / 2 ^ 32, 0)]
  else if a = 0x0C then fieldsOf [(b2n b.armed, 31), (b2n (b.slewLeft ≠ 0), 30), (b.stepSeq % 256, 16)]
  else if a = 0x10 then unsigned 32 b.rate
  else if 0x20 ≤ a && a < 0x30 then
    let x := b.pulse ((a - 0x20) / 4)
    fieldsOf [(b2n x.enabled, 31), (b2n x.missed, 30), (b2n (x.periodNs ≠ 0), 29)]
  else if 0x30 ≤ a && a < 0x38 then
    let x := s.input ((a - 0x30) / 4)
    fieldsOf [(x.edge, 30), (x.queue.length, 16), (min 65535 x.overflow, 0)]
  else 0

/-- The registers of a stack, by offset (R416: the timing set in force is that of the operating point); the temperature is what the stack reports, a free value. -/
def State.dramWord (s : State) (n a : Nat) : Nat :=
  let x := s.stack n
  let (ch, pc, bank, row) := x.logAt
  if a = 0 then
    fieldsOf [(s.stackCode n, 29), (b2n x.economy, 28), (b2n x.economy, 27), (x.mode, 25), (b2n (Config.rfm n), 24), (b2n x.pending.isSome, 23),
              (Config.freeValue s.free % 256, 8)]
  else if a = 4 then fieldsOf [(b2n x.logValid, 31), (b2n x.logUncorr, 30), (ch, 25), (pc, 24), (bank, 19), (row, 0)]
  else if a = 8 then fieldsOf [(min 65535 x.rcUncorr, 16), (min 65535 x.rcCorr, 0)]
  else if 0x100 ≤ a && a < 0x12C then x.mask ((a - 0x100) / 4)
  else if a = 0x200 then fieldsOf [(x.actLimit, 16), ((x.throttleUs + 999) / 1000, 0)]
  else 0

/-- The JTAG port reads a counter: its session reads every counter, or the registers of the group's owner (R95, R106). -/
def State.jtagCounts (s : State) (i : Nat) : Bool :=
  s.sees jtagReader (s.owner 5 (lantGroup i)) || s.dom.session.any fun x => !x.viaHost && bit x.scope 5

/-- LANT_CNT_LO and LANT_CNT_HI (R433). -/
def State.lantWord (s : State) (h a : Nat) : Nat :=
  let i := a / 8
  let v := (s.counter i).value
  let high := if h = jtagReader then v / 2 ^ 32 else (s.hostPort h).lantHi
  if 3584 ≤ i || !(if h = jtagReader then s.jtagCounts i else s.lantReads h i) then 0
  else if a % 8 = 0 then v % 2 ^ 32
  else fieldsOf [(b2n (s.counter i).level, 31), (high, 0)]

/-- FW_SLOTS (R451, R456). -/
def State.fwWord (s : State) : Nat :=
  let (ph, cl) := match s.fw.handover with
    | some x => (x.phase, x.cluster)
    | none => (0, 0)
  fieldsOf [((s.slot 1 0).state.code, 29), ((s.slot 1 1).state.code, 26), ((s.slot 2 0).state.code, 23), ((s.slot 2 1).state.code, 20),
            (s.running 1, 19), (s.running 2, 18), (ph, 15), (cl, 10)]

/-! ### The window (R7, R8, R57) -/

/-- The registers of DEV. -/
def State.devWord (s : State) (a : Nat) : Nat :=
  if a = 0x00 then devId
  else if a = 0x04 then Config.unitId.toNat % 2 ^ 32
  else if a = 0x08 then Config.unitId.toNat / 2 ^ 32
  else if a = 0x10 then s.dev.modeWord
  else if a = 0x14 then s.statusWord
  else if a = 0x18 then s.dev.strapWord
  else if a = 0x1C then s.startWord
  else if a = 0x24 then s.dev.thermWord
  else if a = 0x100 then s.faultWord
  else if a = 0x104 then s.units.lastSeq % 2 ^ 32
  else if 0x114 ≤ a && a < 0x14C then s.countOut ((a - 0x110) / 4)
  else 0

/-- What the word at an address of the register window reads to a reader; a reserved address, and a field that the reader may not
see, read as zero (R9, R56–R58). The JTAG port has no copy of the host-own registers. -/
def State.regWord (s : State) (h a : Nat) : Nat :=
  if a < 0x00100000 then s.devWord a
  else if a < 0x00200000 then (if h = jtagReader then 0 else s.hcmdWord h (a - 0x00100000))
  else if a < 0x00400000 then s.secWord h (a - 0x00200000)
  else if a < 0x00600000 then
    let p := (a - 0x00400000) / 0x100
    if p < 128 && a % 0x100 = 0 then s.seen h (s.owner 1 p) (s.portWord p) else 0
  else if a < 0x00800000 then
    let l := (a - 0x00600000) / 0x10
    if l < 256 && a % 0x10 = 0 then
      s.seen h (match s.portOfLane l with
        | some p => s.owner 1 p
        | none => 0) (s.laneWord l)
    else 0
  else if a < 0x00A00000 then
    let p := (a - 0x00800000) / 0x100
    if p < 128 then s.seen h (s.owner 1 p) (s.eliWord p (a % 0x100)) else 0
  else if a < 0x00C00000 then s.parseWord h (a - 0x00A00000)
  else if a < 0x00E00000 then s.tablesWord h (a - 0x00C00000)
  else if a < 0x01000000 then s.assocWord h (a - 0x00E00000)
  else if a < 0x01400000 then s.seen h 0 (s.engWord ((a - 0x01000000) / 0x20000) (a % 0x20000))
  else if a < 0x01600000 then s.scoutWord h (a - 0x01400000)
  else if a < 0x01800000 then s.bufWord h (a - 0x01600000)
  else if a < 0x01C00000 then s.tmWord h (a - 0x01800000)
  else if a < 0x01E00000 then s.congWord h (a - 0x01C00000)
  else if a < 0x02000000 then s.fabWord h (a - 0x01E00000)
  else if a < 0x02400000 then
    let t := (a - 0x02000000) / 0x10000
    if t < 48 then s.seen h (s.owner 7 t) (s.treeWord t (a % 0x10000)) else 0
  else if a < 0x02600000 then s.ciphWord h (a - 0x02400000)
  else if a < 0x02800000 then s.timeWord h (a - 0x02600000)
  else if a < 0x02C00000 then
    let n := (a - 0x02800000) / 0x40000
    if n < 10 then s.seen h 0 (s.dramWord n (a % 0x40000)) else 0
  else if a < 0x03000000 then s.lantWord h (a - 0x02C00000)
  else if a = 0x03000000 then (if h = s.dom.principal && s.dom.valid then s.fwWord else 0)
  else 0

/-- What a host reads of the aligned word at an address. -/
def State.readReg (s : State) (h a : Nat) : Nat := if s.answers h && a % 4 = 0 then s.regWord h a else 0

/-- What a read of a register returns that has no effect: the addressed bytes of the word, or 0 where the read is not aligned for its own
width (R8). -/
def State.readPlain (s : State) (r : RegRead) : Nat := readPart r (s.readReg r.host (r.addr / 4 * 4))

end Sys2Proof.Machine
end

