-- ==== Sys2Proof/Machine/Debug.lean ====
section
/-! DEFINITION. The JTAG port (R95, R105, R106, R232). -/

namespace Sys2Proof.Machine

/-- A JTAG session is open. -/
def State.jtagOpen (s : State) : Bool := s.dom.session.any fun x => !x.viaHost

/-- A THREAD_DEBUG operation that comes by the JTAG port (R232): it is answered at the port, with what it reads or its status code. -/
def State.jtagThread (s : State) (params : Bytes) : State :=
  let c : Cmd := { host := jtagReader, ring := 0, opcode := 0x0703, flags := 0, domByte := 0, tag := 0, reply := 0, params := params }
  match firstErr (threadDebugErrs false c (debugThread c) s) with
  | some e => s.emit (.jtag e.status.code)
  | none =>
    let b := threadDebugBytes c s
    (threadDebugDone (c.u8 19) (debugThread c) s).emit (.jtag (leAt b 0 b.length))

/-- What a JTAG instruction does: the open ones shift data out at any time, every other needs an open session of the port and the scope for
what it does (R105, R106). No register can be changed through the port, since the only ones that take a value are a host's own or the
principal's (R52, R57, R95). Data that the spec does not give is a free value. -/
def State.jtagDo (s : State) (i : JtagInstr) : State :=
  match i with
  | .bypass => s.emit (.jtag 0)
  | .idcode | .samplePreload => (s.drawn).emit (.jtag (Config.freeValue s.free))
  | .regRead a => if s.granted false 0 || s.granted false 5 then s.emit (.jtag (if a % 4 = 0 then s.regWord jtagReader a else 0)) else s
  | .regWrite _ _ => s
  | .thread p => if s.jtagOpen then s.jtagThread p else s
  | .other _ => if s.jtagOpen then (s.drawn).emit (.jtag (Config.freeValue s.free)) else s

/-- JTAG_INSTRUCTION (R105): BYPASS, IDCODE and SAMPLE/PRELOAD at any time; every other needs an open session of the port. -/
def execJtagInstruction (t : Nat) (i : JtagInstr) (s : State) : Host.Outcome State Fault Refusal := .next ((s.at_ t).jtagDo i)

end Sys2Proof.Machine
end

