-- ==== Sys2Proof/Machine/Dispatch.lean ====
section
/-! DEFINITION. The dispatch of the rows of spec/opcode_table.json to their meanings. -/

namespace Sys2Proof.Machine

/-- The effect of a command or event on everything but the queue. -/
def exec (i : Instr) (s : State) : Host.Outcome State Fault Refusal :=
  match i with
  | .powerOnReset t straps => Sys2Proof.Machine.execPowerOnReset t straps s
  | .pinReset t lowNs straps => Sys2Proof.Machine.execPinReset t lowNs straps s
  | .devResetFull t host value => Sys2Proof.Machine.execDevResetFull t host value s
  | .devResetDataPlane t host value => Sys2Proof.Machine.execDevResetDataPlane t host value s
  | .hostLinkLoss t host perst => Sys2Proof.Machine.execHostLinkLoss t host perst s
  | .hostLinkTrained t host cxl => Sys2Proof.Machine.execHostLinkTrained t host cxl s
  | .rootPllLoss t => Sys2Proof.Machine.execRootPllLoss t s
  | .supplyFault t rail outNs outOfOrder => Sys2Proof.Machine.execSupplyFault t rail outNs outOfOrder s
  | .thermalTrip t tjF tjT => Sys2Proof.Machine.execThermalTrip t tjF tjT s
  | .junctionOverMax t tjF tjT stackMax => Sys2Proof.Machine.execJunctionOverMax t tjF tjT stackMax s
  | .bootImageCheck t boot => Sys2Proof.Machine.execBootImageCheck t boot s
  | .guylineTrainingDone t failed => Sys2Proof.Machine.execGuylineTrainingDone t failed s
  | .serdesCalibrationDone t fabric quad failed => Sys2Proof.Machine.execSerdesCalibrationDone t fabric quad failed s
  | .dramTrainingDone t stack failedAt repaired => Sys2Proof.Machine.execDramTrainingDone t stack failedAt repaired s
  | .trainingTimeout t kind number => Sys2Proof.Machine.execTrainingTimeout t kind number s
  | .stackZeroingDone t stack => Sys2Proof.Machine.execStackZeroingDone t stack s
  | .configApply t => Sys2Proof.Machine.execConfigApply t s
  | .standbyEntry t => Sys2Proof.Machine.execStandbyEntry t s
  | .modeSet t c => Sys2Proof.Machine.execModeSet t c s
  | .dataPlaneHoldDone t => Sys2Proof.Machine.execDataPlaneHoldDone t s
  | .unknownOpcode t c => Sys2Proof.Machine.execUnknownOpcode t c s
  | .nop t c => Sys2Proof.Machine.execNop t c s
  | .devQuery t c => Sys2Proof.Machine.execDevQuery t c s
  | .eventConfig t c => Sys2Proof.Machine.execEventConfig t c s
  | .memWindow t c => Sys2Proof.Machine.execMemWindow t c s
  | .registerWrite t writes => Sys2Proof.Machine.execRegisterWrite t writes s
  | .ringCfgEnable t host ring value => Sys2Proof.Machine.execRingCfgEnable t host ring value s
  | .ringCfgDisable t host ring value => Sys2Proof.Machine.execRingCfgDisable t host ring value s
  | .sqTail t host ring value => Sys2Proof.Machine.execSqTail t host ring value s
  | .cqHead t host ring value => Sys2Proof.Machine.execCqHead t host ring value s
  | .ringEntryFetch t host ring entry => Sys2Proof.Machine.execRingEntryFetch t host ring entry s
  | .hostBufferTimeout t c => Sys2Proof.Machine.execHostBufferTimeout t c s
  | .hostWriteFailed t host ring => Sys2Proof.Machine.execHostWriteFailed t host ring s
  | .ringDrained t host ring => Sys2Proof.Machine.execRingDrained t host ring s
  | .eventQueueDrain t host => Sys2Proof.Machine.execEventQueueDrain t host s
  | .interruptCoalTimeout t host ring => Sys2Proof.Machine.execInterruptCoalTimeout t host ring s
  | .hcmdEvtLostRead t r => Sys2Proof.Machine.execHcmdEvtLostRead t r s
  | .cxlmemRead t host addr => Sys2Proof.Machine.execCxlmemRead t host addr s
  | .cxlmemWrite t host addr data => Sys2Proof.Machine.execCxlmemWrite t host addr data s
  | .domainSet t c => Sys2Proof.Machine.execDomainSet t c s
  | .resourceAssign t c => Sys2Proof.Machine.execResourceAssign t c s
  | .principalSet t c => Sys2Proof.Machine.execPrincipalSet t c s
  | .secHeartbeat t host value => Sys2Proof.Machine.execSecHeartbeat t host value s
  | .heartbeatTimeout t => Sys2Proof.Machine.execHeartbeatTimeout t s
  | .principalRecheck t => Sys2Proof.Machine.execPrincipalRecheck t s
  | .keyLockClaim t writes => Sys2Proof.Machine.execKeyLockClaim t writes s
  | .keyLockRelease t host value => Sys2Proof.Machine.execKeyLockRelease t host value s
  | .keyLockExpired t => Sys2Proof.Machine.execKeyLockExpired t s
  | .keyInfo t c => Sys2Proof.Machine.execKeyInfo t c s
  | .keyImport t c b => Sys2Proof.Machine.execKeyImport t c b s
  | .keyExport t c => Sys2Proof.Machine.execKeyExport t c s
  | .keyDestroy t c => Sys2Proof.Machine.execKeyDestroy t c s
  | .debugAuth t c b => Sys2Proof.Machine.execDebugAuth t c b s
  | .jtagToken t token => Sys2Proof.Machine.execJtagToken t token s
  | .jtagInstruction t j => Sys2Proof.Machine.execJtagInstruction t j s
  | .debugSessionExpire t => Sys2Proof.Machine.execDebugSessionExpire t s
  | .portMap t c => Sys2Proof.Machine.execPortMap t c s
  | .portConfig t c => Sys2Proof.Machine.execPortConfig t c s
  | .laneConfig t c => Sys2Proof.Machine.execLaneConfig t c s
  | .portStats t c => Sys2Proof.Machine.execPortStats t c s
  | .portUp t port => Sys2Proof.Machine.execPortUp t port s
  | .linkTrainingRestart t port => Sys2Proof.Machine.execLinkTrainingRestart t port s
  | .laneSignalLoss t lane alignment => Sys2Proof.Machine.execLaneSignalLoss t lane alignment s
  | .remoteFaultReceived t port => Sys2Proof.Machine.execRemoteFaultReceived t port s
  | .fecDegradeInterval t port corrected uncorrected => Sys2Proof.Machine.execFecDegradeInterval t port corrected uncorrected s
  | .laneFail t lane => Sys2Proof.Machine.execLaneFail t lane s
  | .quadFail t quad => Sys2Proof.Machine.execQuadFail t quad s
  | .ethFrameReceive t port f => Sys2Proof.Machine.execEthFrameReceive t port f s
  | .pfcFrameReceive t port enable quanta => Sys2Proof.Machine.execPfcFrameReceive t port enable quanta s
  | .pfcPauseExpire t port cls => Sys2Proof.Machine.execPfcPauseExpire t port cls s
  | .frameTransmit t port => Sys2Proof.Machine.execFrameTransmit t port s
  | .eliLaneMarker t port lane m => Sys2Proof.Machine.execEliLaneMarker t port lane m s
  | .eliFawMatch t port offset mfas => Sys2Proof.Machine.execEliFawMatch t port offset mfas s
  | .eliFrameReceive t port f => Sys2Proof.Machine.execEliFrameReceive t port f s
  | .eliTxFrameStart t port => Sys2Proof.Machine.execEliTxFrameStart t port s
  | .eliExpressReplace t dst group => Sys2Proof.Machine.execEliExpressReplace t dst group s
  | .eliExpressRestore t dst group => Sys2Proof.Machine.execEliExpressRestore t dst group s
  | .eliConfig t c => Sys2Proof.Machine.execEliConfig t c s
  | .eliSlotmap t c => Sys2Proof.Machine.execEliSlotmap t c s
  | .eliExpress t c => Sys2Proof.Machine.execEliExpress t c s
  | .eliCounters t c => Sys2Proof.Machine.execEliCounters t c s
  | .ingressDispatch t port => Sys2Proof.Machine.execIngressDispatch t port s
  | .egressDispatch t port => Sys2Proof.Machine.execEgressDispatch t port s
  | .parseComplete t th => Sys2Proof.Machine.execParseComplete t th s
  | .orderBucketRelease t cluster bucket => Sys2Proof.Machine.execOrderBucketRelease t cluster bucket s
  | .steerHoldDrained t idx => Sys2Proof.Machine.execSteerHoldDrained t idx s
  | .steerHoldTimeout t idx => Sys2Proof.Machine.execSteerHoldTimeout t idx s
  | .lookupIssue t th tag table key => Sys2Proof.Machine.execLookupIssue t th tag table key s
  | .classifyIssue t th tag tree => Sys2Proof.Machine.execClassifyIssue t th tag tree s
  | .scanIssue t th set depth => Sys2Proof.Machine.execScanIssue t th set depth s
  | .assocSearchIssue t th tag array key => Sys2Proof.Machine.execAssocSearchIssue t th tag array key s
  | .lookupResponse t th tag err => Sys2Proof.Machine.execLookupResponse t th tag err s
  | .scanResponse t th => Sys2Proof.Machine.execScanResponse t th s
  | .assocResponse t th ans => Sys2Proof.Machine.execAssocResponse t th ans s
  | .parseGraphLoad t c b => Sys2Proof.Machine.execParseGraphLoad t c b s
  | .parsePortConfig t c => Sys2Proof.Machine.execParsePortConfig t c s
  | .classTreeLoad t c b => Sys2Proof.Machine.execClassTreeLoad t c b s
  | .classTreeDelete t c => Sys2Proof.Machine.execClassTreeDelete t c s
  | .autoSetLoad t c b => Sys2Proof.Machine.execAutoSetLoad t c b s
  | .autoSetDelete t c => Sys2Proof.Machine.execAutoSetDelete t c s
  | .classLimit t c => Sys2Proof.Machine.execClassLimit t c s
  | .parseCounters t c => Sys2Proof.Machine.execParseCounters t c s
  | .tableCreate t c => Sys2Proof.Machine.execTableCreate t c s
  | .tableDestroy t c => Sys2Proof.Machine.execTableDestroy t c s
  | .tableInsert t c => Sys2Proof.Machine.execTableInsert t c s
  | .tableUpdate t c => Sys2Proof.Machine.execTableUpdate t c s
  | .tableDelete t c => Sys2Proof.Machine.execTableDelete t c s
  | .tableSearch t c => Sys2Proof.Machine.execTableSearch t c s
  | .tableNext t c => Sys2Proof.Machine.execTableNext t c s
  | .tableFlushPort t c => Sys2Proof.Machine.execTableFlushPort t c s
  | .tableDma t c b => Sys2Proof.Machine.execTableDma t c b s
  | .dmaLockRelease t table bucket finished => Sys2Proof.Machine.execDmaLockRelease t table bucket finished s
  | .lpmAdd t c b => Sys2Proof.Machine.execLpmAdd t c b s
  | .lpmDelete t c b => Sys2Proof.Machine.execLpmDelete t c b s
  | .learnConfig t c => Sys2Proof.Machine.execLearnConfig t c s
  | .tableAge t c => Sys2Proof.Machine.execTableAge t c s
  | .tableLimit t c => Sys2Proof.Machine.execTableLimit t c s
  | .hitWrite t => Sys2Proof.Machine.execHitWrite t s
  | .learn t => Sys2Proof.Machine.execLearn t s
  | .ageSweepVisit t table bucket => Sys2Proof.Machine.execAgeSweepVisit t table bucket s
  | .conditionalDelete t => Sys2Proof.Machine.execConditionalDelete t s
  | .mirrorRepair t table bucket slot => Sys2Proof.Machine.execMirrorRepair t table bucket slot s
  | .lpmRebuild t table => Sys2Proof.Machine.execLpmRebuild t table s
  | .assocCreate t c => Sys2Proof.Machine.execAssocCreate t c s
  | .assocDelete t c => Sys2Proof.Machine.execAssocDelete t c s
  | .assocWrite t c b => Sys2Proof.Machine.execAssocWrite t c b s
  | .assocUpdateStep t array => Sys2Proof.Machine.execAssocUpdateStep t array s
  | .assocRead t c => Sys2Proof.Machine.execAssocRead t c s
  | .assocGroup t c => Sys2Proof.Machine.execAssocGroup t c s
  | .assocSearch t c b => Sys2Proof.Machine.execAssocSearch t c b s
  | .assocScrub t block row bad => Sys2Proof.Machine.execAssocScrub t block row bad s
  | .assocRowRepair t block row => Sys2Proof.Machine.execAssocRowRepair t block row s
  | .engineIssue t cluster engine waiting ops => Sys2Proof.Machine.execEngineIssue t cluster engine waiting ops s
  | .slotTableSwitch t cluster engine => Sys2Proof.Machine.execSlotTableSwitch t cluster engine s
  | .wait t th mask => Sys2Proof.Machine.execWait t th mask s
  | .signal t th engine thread sig => Sys2Proof.Machine.execSignal t th engine thread sig s
  | .signalDeliver t cluster => Sys2Proof.Machine.execSignalDeliver t cluster s
  | .timerSet t th delta => Sys2Proof.Machine.execTimerSet t th delta s
  | .timerFire t th => Sys2Proof.Machine.execTimerFire t th s
  | .chanStage t th channel word value => Sys2Proof.Machine.execChanStage t th channel word value s
  | .chanCommit t th => Sys2Proof.Machine.execChanCommit t th s
  | .chanVisible t cluster channel => Sys2Proof.Machine.execChanVisible t cluster channel s
  | .chanRead t th channel => Sys2Proof.Machine.execChanRead t th channel s
  | .yield t th n => Sys2Proof.Machine.execYield t th n s
  | .yieldExpire t th => Sys2Proof.Machine.execYieldExpire t th s
  | .faultRaise t th code detail => Sys2Proof.Machine.execFaultRaise t th code detail s
  | .faultQueueRead t cluster => Sys2Proof.Machine.execFaultQueueRead t cluster s
  | .confirm t th => Sys2Proof.Machine.execConfirm t th s
  | .packetDma t th toLocal packetOff localOff len => Sys2Proof.Machine.execPacketDma t th toLocal packetOff localOff len s
  | .packetDmaDone t th => Sys2Proof.Machine.execPacketDmaDone t th s
  | .responseTimeout t th bit => Sys2Proof.Machine.execResponseTimeout t th bit s
  | .passBudgetExceeded t th => Sys2Proof.Machine.execPassBudgetExceeded t th s
  | .passEnd t th e => Sys2Proof.Machine.execPassEnd t th e s
  | .allwaitDetect t cluster => Sys2Proof.Machine.execAllwaitDetect t cluster s
  | .allwaitEscalate t cluster => Sys2Proof.Machine.execAllwaitEscalate t cluster s
  | .clusterStallRecovery t cluster => Sys2Proof.Machine.execClusterStallRecovery t cluster s
  | .clusterHealthWord t cluster => Sys2Proof.Machine.execClusterHealthWord t cluster s
  | .clusterFail t cluster uncorrectable => Sys2Proof.Machine.execClusterFail t cluster uncorrectable s
  | .threadStopped t th => Sys2Proof.Machine.execThreadStopped t th s
  | .engProfileLoad t c b => Sys2Proof.Machine.execEngProfileLoad t c b s
  | .engSlotSet t c => Sys2Proof.Machine.execEngSlotSet t c s
  | .engConfig t c => Sys2Proof.Machine.execEngConfig t c s
  | .threadDebug t c => Sys2Proof.Machine.execThreadDebug t c s
  | .profileWrite t c b => Sys2Proof.Machine.execProfileWrite t c b s
  | .scoutDeliver t th => Sys2Proof.Machine.execScoutDeliver t th s
  | .squash t th => Sys2Proof.Machine.execSquash t th s
  | .scoutFill t cluster => Sys2Proof.Machine.execScoutFill t cluster s
  | .scoutAlarmInterval t => Sys2Proof.Machine.execScoutAlarmInterval t s
  | .scoutPartition t c => Sys2Proof.Machine.execScoutPartition t c s
  | .scoutConfig t c => Sys2Proof.Machine.execScoutConfig t c s
  | .scoutTemplate t c => Sys2Proof.Machine.execScoutTemplate t c s
  | .scoutInvalidate t c => Sys2Proof.Machine.execScoutInvalidate t c s
  | .scoutStats t c => Sys2Proof.Machine.execScoutStats t c s
  | .editApply t cluster => Sys2Proof.Machine.execEditApply t cluster s
  | .actionWrite t c b => Sys2Proof.Machine.execActionWrite t c b s
  | .actionLimit t c => Sys2Proof.Machine.execActionLimit t c s
  | .editStats t c => Sys2Proof.Machine.execEditStats t c s
  | .tunnelCipher t pipe => Sys2Proof.Machine.execTunnelCipher t pipe s
  | .guylineDeliver t toT group crcOk => Sys2Proof.Machine.execGuylineDeliver t toT group crcOk s
  | .guylineGroupFailed t group => Sys2Proof.Machine.execGuylineGroupFailed t group s
  | .guylineMapoutDrained t group => Sys2Proof.Machine.execGuylineMapoutDrained t group s
  | .guylineEntryReturn t toT idx => Sys2Proof.Machine.execGuylineEntryReturn t toT idx s
  | .cellAllocate t pool reqs => Sys2Proof.Machine.execCellAllocate t pool reqs s
  | .cellFree t cell => Sys2Proof.Machine.execCellFree t cell s
  | .poolCacheRefill t pool far => Sys2Proof.Machine.execPoolCacheRefill t pool far s
  | .pfcXoffRefresh t port cls => Sys2Proof.Machine.execPfcXoffRefresh t port cls s
  | .farPageMove t page => Sys2Proof.Machine.execFarPageMove t page s
  | .farRingCopyRebuilt t => Sys2Proof.Machine.execFarRingCopyRebuilt t s
  | .farRingRebuilt t => Sys2Proof.Machine.execFarRingRebuilt t s
  | .bufReconcile t => Sys2Proof.Machine.execBufReconcile t s
  | .bufErrLogRead t r => Sys2Proof.Machine.execBufErrLogRead t r s
  | .poolConfig t c => Sys2Proof.Machine.execPoolConfig t c s
  | .accountConfig t c => Sys2Proof.Machine.execAccountConfig t c s
  | .poolThresh t c => Sys2Proof.Machine.execPoolThresh t c s
  | .queueBuf t c => Sys2Proof.Machine.execQueueBuf t c s
  | .bufStats t c => Sys2Proof.Machine.execBufStats t c s
  | .enqueue t requester => Sys2Proof.Machine.execEnqueue t requester s
  | .depthSnapshot t => Sys2Proof.Machine.execDepthSnapshot t s
  | .tokenRefill t => Sys2Proof.Machine.execTokenRefill t s
  | .schedSelect t node => Sys2Proof.Machine.execSchedSelect t node s
  | .selectionComplete t slice => Sys2Proof.Machine.execSelectionComplete t slice s
  | .flushComplete t c => Sys2Proof.Machine.execFlushComplete t c s
  | .nodeConfig t c => Sys2Proof.Machine.execNodeConfig t c s
  | .queueState t c => Sys2Proof.Machine.execQueueState t c s
  | .nodeQuery t c => Sys2Proof.Machine.execNodeQuery t c s
  | .queueStats t c => Sys2Proof.Machine.execQueueStats t c s
  | .schedLimit t c => Sys2Proof.Machine.execSchedLimit t c s
  | .sliceFail t slice => Sys2Proof.Machine.execSliceFail t slice s
  | .obsSamplePass t domain => Sys2Proof.Machine.execObsSamplePass t domain s
  | .policerConfig t c => Sys2Proof.Machine.execPolicerConfig t c s
  | .policerStats t c => Sys2Proof.Machine.execPolicerStats t c s
  | .congProfile t c => Sys2Proof.Machine.execCongProfile t c s
  | .queueCong t c => Sys2Proof.Machine.execQueueCong t c s
  | .obsSelect t c => Sys2Proof.Machine.execObsSelect t c s
  | .obsConfig t c => Sys2Proof.Machine.execObsConfig t c s
  | .obsHwm t c => Sys2Proof.Machine.execObsHwm t c s
  | .congStats t c => Sys2Proof.Machine.execCongStats t c s
  | .congLimit t c => Sys2Proof.Machine.execCongLimit t c s
  | .congSeed t c => Sys2Proof.Machine.execCongSeed t c s
  | .fabLaneMarker t link m => Sys2Proof.Machine.execFabLaneMarker t link m s
  | .fabCellReceive t link cell fecBad => Sys2Proof.Machine.execFabCellReceive t link cell fecBad s
  | .fabCellSend t link => Sys2Proof.Machine.execFabCellSend t link s
  | .fabGapTimeout t device => Sys2Proof.Machine.execFabGapTimeout t device s
  | .fabRequestRefresh t voq => Sys2Proof.Machine.execFabRequestRefresh t voq s
  | .fabResync t voq => Sys2Proof.Machine.execFabResync t voq s
  | .fabCreditGrant t port => Sys2Proof.Machine.execFabCreditGrant t port s
  | .fabAckTimer t => Sys2Proof.Machine.execFabAckTimer t s
  | .fabLinkFail t link laneFailed => Sys2Proof.Machine.execFabLinkFail t link laneFailed s
  | .fabResend t link => Sys2Proof.Machine.execFabResend t link s
  | .fabLinkReturn t link => Sys2Proof.Machine.execFabLinkReturn t link s
  | .fabLinkMapoutDone t link => Sys2Proof.Machine.execFabLinkMapoutDone t link s
  | .fabConfig t c => Sys2Proof.Machine.execFabConfig t c s
  | .fabVoqMap t c => Sys2Proof.Machine.execFabVoqMap t c s
  | .fabPortCredit t c => Sys2Proof.Machine.execFabPortCredit t c s
  | .fabLink t c => Sys2Proof.Machine.execFabLink t c s
  | .fabStats t c => Sys2Proof.Machine.execFabStats t c s
  | .ponDsFrame t tree => Sys2Proof.Machine.execPonDsFrame t tree s
  | .ponBurstReceive t tree b => Sys2Proof.Machine.execPonBurstReceive t tree b s
  | .ponWindowClose t tree window => Sys2Proof.Machine.execPonWindowClose t tree window s
  | .ponEnergyDetect t tree ns => Sys2Proof.Machine.execPonEnergyDetect t tree ns s
  | .ponSerialNumber t tree serial => Sys2Proof.Machine.execPonSerialNumber t tree serial s
  | .ponRangingTimeout t tree onu => Sys2Proof.Machine.execPonRangingTimeout t tree onu s
  | .ponRogueSearchStep t tree => Sys2Proof.Machine.execPonRogueSearchStep t tree s
  | .ponOmciReceive t tree onu msg => Sys2Proof.Machine.execPonOmciReceive t tree onu msg s
  | .ponChannelFail t tree => Sys2Proof.Machine.execPonChannelFail t tree s
  | .ponTreeConfig t c => Sys2Proof.Machine.execPonTreeConfig t c s
  | .ponBurstProfile t c => Sys2Proof.Machine.execPonBurstProfile t c s
  | .ponOnu t c => Sys2Proof.Machine.execPonOnu t c s
  | .ponXgem t c => Sys2Proof.Machine.execPonXgem t c s
  | .ponOnuKey t c => Sys2Proof.Machine.execPonOnuKey t c s
  | .ponOmciSend t c b => Sys2Proof.Machine.execPonOmciSend t c b s
  | .ponTod t c => Sys2Proof.Machine.execPonTod t c s
  | .ponStats t c => Sys2Proof.Machine.execPonStats t c s
  | .grantSnapshot t tree => Sys2Proof.Machine.execGrantSnapshot t tree s
  | .grantMapReady t tree => Sys2Proof.Machine.execGrantMapReady t tree s
  | .grantShareInterval t => Sys2Proof.Machine.execGrantShareInterval t s
  | .grantTreeConfig t c => Sys2Proof.Machine.execGrantTreeConfig t c s
  | .grantAlloc t c => Sys2Proof.Machine.execGrantAlloc t c s
  | .grantGroup t c => Sys2Proof.Machine.execGrantGroup t c s
  | .grantQuery t c => Sys2Proof.Machine.execGrantQuery t c s
  | .grantStats t c => Sys2Proof.Machine.execGrantStats t c s
  | .macsecVerdict t th good => Sys2Proof.Machine.execMacsecVerdict t th good s
  | .cipherDisagree t unit w => Sys2Proof.Machine.execCipherDisagree t unit w s
  | .cipherKat t unit pass => Sys2Proof.Machine.execCipherKat t unit pass s
  | .cipherReplace t unit => Sys2Proof.Machine.execCipherReplace t unit s
  | .macsecSa t c => Sys2Proof.Machine.execMacsecSa t c s
  | .macsecPort t c => Sys2Proof.Machine.execMacsecPort t c s
  | .tunnelSa t c => Sys2Proof.Machine.execTunnelSa t c s
  | .ciphStats t c => Sys2Proof.Machine.execCiphStats t c s
  | .ciphFaultLogRead t r => Sys2Proof.Machine.execCiphFaultLogRead t r s
  | .timeNsRead t r => Sys2Proof.Machine.execTimeNsRead t r s
  | .timeStep t c => Sys2Proof.Machine.execTimeStep t c s
  | .timeArm t c => Sys2Proof.Machine.execTimeArm t c s
  | .timeRate t c => Sys2Proof.Machine.execTimeRate t c s
  | .timeSlew t c => Sys2Proof.Machine.execTimeSlew t c s
  | .slewComplete t => Sys2Proof.Machine.execSlewComplete t s
  | .timePulse t c => Sys2Proof.Machine.execTimePulse t c s
  | .pulseFire t out => Sys2Proof.Machine.execPulseFire t out s
  | .pulseEnd t out => Sys2Proof.Machine.execPulseEnd t out s
  | .timeInEdge t input rising heldNs => Sys2Proof.Machine.execTimeInEdge t input rising heldNs s
  | .timeCapture t c => Sys2Proof.Machine.execTimeCapture t c s
  | .timeTsRead t c => Sys2Proof.Machine.execTimeTsRead t c s
  | .timePortAdj t c => Sys2Proof.Machine.execTimePortAdj t c s
  | .dramArbitrate t stack pc err => Sys2Proof.Machine.execDramArbitrate t stack pc err s
  | .dramRefreshDue t stack pc bank => Sys2Proof.Machine.execDramRefreshDue t stack pc bank s
  | .dramDisturbWindow t stack => Sys2Proof.Machine.execDramDisturbWindow t stack s
  | .dramThrottleExpire t stack pc bank => Sys2Proof.Machine.execDramThrottleExpire t stack pc bank s
  | .dramSelfRefreshEnter t stack => Sys2Proof.Machine.execDramSelfRefreshEnter t stack s
  | .dramSpillInterval t stack => Sys2Proof.Machine.execDramSpillInterval t stack s
  | .dramOppointChange t stack => Sys2Proof.Machine.execDramOppointChange t stack s
  | .dramOppoint t stack => Sys2Proof.Machine.execDramOppoint t stack s
  | .dramPatrolScrub t stack err => Sys2Proof.Machine.execDramPatrolScrub t stack err s
  | .dramStackFail t stack cause => Sys2Proof.Machine.execDramStackFail t stack cause s
  | .dramErrCountRead t r => Sys2Proof.Machine.execDramErrCountRead t r s
  | .dramQuery t c => Sys2Proof.Machine.execDramQuery t c s
  | .dramMap t c => Sys2Proof.Machine.execDramMap t c s
  | .dramPower t c => Sys2Proof.Machine.execDramPower t c s
  | .dramTrain t c counts => Sys2Proof.Machine.execDramTrain t c counts s
  | .dramDisturb t c => Sys2Proof.Machine.execDramDisturb t c s
  | .lantCntLoRead t r => Sys2Proof.Machine.execLantCntLoRead t r s
  | .lantRead t c => Sys2Proof.Machine.execLantRead t c s
  | .lantMode t c => Sys2Proof.Machine.execLantMode t c s
  | .basecampCoreFail t core tags => Sys2Proof.Machine.execBasecampCoreFail t core tags s
  | .tableBankFail t bank tables => Sys2Proof.Machine.execTableBankFail t bank tables s
  | .tableBankRebuilt t bank missing => Sys2Proof.Machine.execTableBankRebuilt t bank missing s
  | .assocBlockFail t block => Sys2Proof.Machine.execAssocBlockFail t block s
  | .nearBankFail t bank => Sys2Proof.Machine.execNearBankFail t bank s
  | .unitMap t c selfTest => Sys2Proof.Machine.execUnitMap t c selfTest s
  | .clusterDrained t cluster => Sys2Proof.Machine.execClusterDrained t cluster s
  | .nearBankDrained t bank => Sys2Proof.Machine.execNearBankDrained t bank s
  | .sliceNodeMove t node => Sys2Proof.Machine.execSliceNodeMove t node s
  | .unitMapTimeout t kind number => Sys2Proof.Machine.execUnitMapTimeout t kind number s
  | .faultLogRead t c => Sys2Proof.Machine.execFaultLogRead t c s
  | .faultAck t c => Sys2Proof.Machine.execFaultAck t c s
  | .faultConfig t c => Sys2Proof.Machine.execFaultConfig t c s
  | .fwDeliver t c b => Sys2Proof.Machine.execFwDeliver t c b s
  | .fwHeaderVerified t => Sys2Proof.Machine.execFwHeaderVerified t s
  | .fwChunkWritten t => Sys2Proof.Machine.execFwChunkWritten t s
  | .inbandFwFrame t port frame => Sys2Proof.Machine.execInbandFwFrame t port frame s
  | .fwStatus t c => Sys2Proof.Machine.execFwStatus t c s
  | .fwActivate t c => Sys2Proof.Machine.execFwActivate t c s
  | .handoverQuiesced t => Sys2Proof.Machine.execHandoverQuiesced t s
  | .fwHandover t => Sys2Proof.Machine.execFwHandover t s
  | .handoverHealthTimeout t => Sys2Proof.Machine.execHandoverHealthTimeout t s
  | .profileClusterSwap t cluster => Sys2Proof.Machine.execProfileClusterSwap t cluster s
  | .trialExpire t imageType => Sys2Proof.Machine.execTrialExpire t imageType s
  | .fwCommit t c => Sys2Proof.Machine.execFwCommit t c s
  | .fwRollback t c => Sys2Proof.Machine.execFwRollback t c s
  | .fwFloor t c => Sys2Proof.Machine.execFwFloor t c s
  | .fwInband t c => Sys2Proof.Machine.execFwInband t c s
  | .fwConfigSave t c => Sys2Proof.Machine.execFwConfigSave t c s
  | .resetNRisingEdge t straps => Sys2Proof.Machine.execResetNRisingEdge t straps s
  | .eliFawNotFound t port offset => Sys2Proof.Machine.execEliFawNotFound t port offset s
  | .portConditionCleared t port cond => Sys2Proof.Machine.execPortConditionCleared t port cond s
  | .dramSelfRefreshExit t stack => Sys2Proof.Machine.execDramSelfRefreshExit t stack s
  | .trailheadSteerRebalance t idx cluster => Sys2Proof.Machine.execTrailheadSteerRebalance t idx cluster s

end Sys2Proof.Machine
end

