-- ==== Sys2Proof/WellFormed.lean ====
section
/-! DEFINITION. Which commands and events can occur: every operand lies in the range that the spec gives its field (R3, R8, R73,
R91), and which rows are commands of one opcode (R73). -/

namespace Sys2Proof

/-- A number fits a field of `w` bits. -/
def fits (w v : Nat) : Bool := decide (v < 2 ^ w)

/-- A submission entry (R73): the host and ring it came by, and the widths of its fields. -/
def Cmd.wf (c : Cmd) : Bool :=
  decide (c.host < 4) && decide (c.ring < 16) && fits 16 c.opcode && fits 8 c.flags && fits 8 c.domByte && fits 32 c.tag &&
    fits 64 c.reply && decide (c.params.length = 48)

/-- A command of a row: well-formed, with the row's opcode. -/
def Cmd.wfFor (c : Cmd) (code : Nat) : Bool := c.wf && decide (c.opcode = code)

/-- An indirect buffer holds at most 1 MiB (R76). -/
def BufRead.wf : BufRead → Bool
  | .data b => decide (b.length ≤ 1048576)
  | .failed => true
  | .slow => true

/-- A submission entry as it is read: 64 bytes (R63, R73). -/
def BufRead.entryWf : BufRead → Bool
  | .data b => decide (b.length = 64)
  | .failed => true
  | .slow => true

/-- The levels of the strap pins (R42). -/
def Straps.wf (x : Straps) : Bool := decide (x.bootMode < 4) && decide (x.topoSel < 2) && decide (x.principalSel < 4)

/-- An access to the register window of 64 MiB, of 1, 2, 4 or 8 bytes (R8). -/
def accessWf (host addr size : Nat) : Bool :=
  decide (host < 4) && decide (addr < 2 ^ 26) && (size == 1 || size == 2 || size == 4 || size == 8)

/-- A write of a register. -/
def RegWrite.wf (x : RegWrite) : Bool := accessWf x.host x.addr x.size && decide (x.value < 256 ^ x.size)

/-- A read of a register. -/
def RegRead.wf (x : RegRead) : Bool := accessWf x.host x.addr x.size

/-- A thread: 32 clusters of 16 engines of 16 threads (R214). -/
def ThreadId.wf (x : ThreadId) : Bool := decide (x.cluster < 32) && decide (x.engine < 16) && decide (x.thread < 16)

/-- A MAC frame carries at least its addresses and type. -/
def RxFrame.wf (x : RxFrame) : Bool := decide (14 ≤ x.bytes.length)

/-- A lane marker (R129, R330). -/
def LaneMarker.wf (x : LaneMarker) : Bool := fits 48 x.pattern && fits 8 x.lane && fits 8 x.laneInv

/-- An ELI frame has 64 overhead bytes (R131) and 128 slots. -/
def EliFrame.wf (x : EliFrame) : Bool := decide (x.overhead.length = 64) && decide (x.slots.length = 128) && x.slots.all fun b => decide (b.length = 1000)

/-- The fields of an image header (R448). -/
def Image.wf (x : Image) : Bool :=
  fits 8 x.format && fits 8 x.imageType && fits 16 x.part && fits 8 x.stepping && fits 64 x.unitId && fits 32 x.version &&
    fits 8 x.security && fits 32 x.payloadLength

/-- What the boot ROM finds (R44): the cores that pass are among the four. -/
def BootRead.wf (x : BootRead) : Bool := (x.coresOk.all fun i => decide (i < 4)) && x.slot0.all Image.wf && x.slot1.all Image.wf

/-- An allocation of a burst: Alloc-IDs have 14 bits, XGEM port numbers 16. -/
def BurstAlloc.wf (x : BurstAlloc) : Bool := fits 14 x.allocId && x.frames.all fun f => fits 16 f.portId && decide (f.keyIndex < 4)

/-- An upstream burst: ONU-IDs have 10 bits. -/
def Burst.wf (x : Burst) : Bool := x.onuId.all (fits 10) && x.allocs.all BurstAlloc.wf

/-- The place of an entry error: 4 slots a bucket (R186). -/
def EntryError.wf (x : EntryError) : Bool := decide (x.slot < 4) && (x.firstBad || x.secondBad)

/-- A search that answers: two tags (R208), 32 positions of 8,192 rows (R203). -/
def SearchEnd.wf (x : SearchEnd) : Bool := decide (x.tag < 2) && x.bad.all fun r => decide (r.1 < 32) && decide (r.2 < 8192)

/-- What a bundle does: 4,096 words of local memory and as many shared words, 4 watch registers of 256 channels. -/
def BundleOp.wf : BundleOp → Bool
  | .plain => true
  | .setReg _ v => fits 64 v
  | .localWrite _ v => fits 64 v
  | .sharedWrite _ v => fits 64 v
  | .watch reg channel => decide (reg < 4) && decide (channel < 256)
  | .jump _ => true
  | .readBundle => true
  | .learn table _ result => fits 16 table && fits 32 result
  | .metaWord i v => decide (i < 3) && fits 32 v
  | .illegal => true
  | .outOfRange _ => true
  | .eccError _ => true

/-- A cell request: one of 47 requesters (R276), for a queue. -/
def CellReq.wf (x : CellReq) : Bool := decide (x.requester < 47) && decide (x.queue < 2 ^ 20)

/-- The end of a pass: an action-list pointer has 32 bits. -/
def PassEnd.wf (x : PassEnd) : Bool := fits 32 x.pointer

/-- Where a disagreement falls (R384). -/
def DisagreeAt.wf : DisagreeAt → Bool
  | .rx th => th.wf
  | .tunnel _ _ _ => true
  | .tx port _ => decide (port < 128)
  | .pon tree _ => decide (tree < 48)

/-- An ECC error: 32 channels of 2 pseudo-channels of 32 banks of 8,192 rows (R408). -/
def EccError.wf (x : EccError) : Bool :=
  decide (x.channel < 32) && decide (x.pc < 2) && decide (x.bank < 32) && decide (x.row < 8192)

/-- A JTAG instruction register of 8 bits. -/
def JtagInstr.wf : JtagInstr → Bool
  | .bypass => true
  | .idcode => true
  | .samplePreload => true
  | .regRead addr => decide (addr < 2 ^ 26)
  | .regWrite addr value => decide (addr < 2 ^ 26) && fits 32 value
  | .thread params => decide (params.length = 48)
  | .other code => fits 8 code

/-- The operands of a command or event are in range. -/
def Instr.wf (i : Instr) : Bool :=
  match i with
  | .powerOnReset _ straps => straps.wf
  | .pinReset _ _ straps => straps.wf
  | .devResetFull _ host value => decide (host < 4) && decide (value < 2 ^ 32)
  | .devResetDataPlane _ host value => decide (host < 4) && decide (value < 2 ^ 32)
  | .hostLinkLoss _ host _ => decide (host < 4)
  | .hostLinkTrained _ host _ => decide (host < 4)
  | .rootPllLoss _ => true
  | .supplyFault _ rail _ _ => decide (rail < 16)
  | .thermalTrip _ _ _ => true
  | .junctionOverMax _ _ _ _ => true
  | .bootImageCheck _ boot => boot.wf
  | .guylineTrainingDone _ _ => true
  | .serdesCalibrationDone _ _ quad _ => decide (quad < 64)
  | .dramTrainingDone _ stack _ _ => decide (stack < 10)
  | .trainingTimeout _ _ _ => true
  | .stackZeroingDone _ stack => decide (stack < 10)
  | .configApply _ => true
  | .standbyEntry _ => true
  | .modeSet _ c => c.wfFor 0x0001
  | .dataPlaneHoldDone _ => true
  | .unknownOpcode _ c => c.wf
  | .nop _ c => c.wfFor 0x0000
  | .devQuery _ c => c.wfFor 0x0002
  | .eventConfig _ c => c.wfFor 0x0003
  | .memWindow _ c => c.wfFor 0x0004
  | .registerWrite _ writes => (writes.all RegWrite.wf)
  | .ringCfgEnable _ host ring value => decide (host < 4) && decide (ring < 16) && decide (value < 2 ^ 32)
  | .ringCfgDisable _ host ring value => decide (host < 4) && decide (ring < 16) && decide (value < 2 ^ 32)
  | .sqTail _ host ring value => decide (host < 4) && decide (ring < 16) && decide (value < 2 ^ 32)
  | .cqHead _ host ring value => decide (host < 4) && decide (ring < 16) && decide (value < 2 ^ 32)
  | .ringEntryFetch _ host ring entry => decide (host < 4) && decide (ring < 16) && entry.entryWf
  | .hostBufferTimeout _ c => c.wf
  | .hostWriteFailed _ host ring => decide (host < 4) && decide (ring < 16)
  | .ringDrained _ host ring => decide (host < 4) && decide (ring < 16)
  | .eventQueueDrain _ host => decide (host < 4)
  | .interruptCoalTimeout _ host ring => decide (host < 4) && decide (ring < 16)
  | .hcmdEvtLostRead _ r => r.wf
  | .cxlmemRead _ host addr => decide (host < 4) && decide (addr < 2 ^ 52)
  | .cxlmemWrite _ host addr _ => decide (host < 4) && decide (addr < 2 ^ 52)
  | .domainSet _ c => c.wfFor 0x0100
  | .resourceAssign _ c => c.wfFor 0x0101
  | .principalSet _ c => c.wfFor 0x0102
  | .secHeartbeat _ host value => decide (host < 4) && decide (value < 2 ^ 32)
  | .heartbeatTimeout _ => true
  | .principalRecheck _ => true
  | .keyLockClaim _ writes => (writes.all RegWrite.wf)
  | .keyLockRelease _ host value => decide (host < 4) && decide (value < 2 ^ 32)
  | .keyLockExpired _ => true
  | .keyInfo _ c => c.wfFor 0x0110
  | .keyImport _ c b => c.wfFor 0x0111 && b.wf
  | .keyExport _ c => c.wfFor 0x0112
  | .keyDestroy _ c => c.wfFor 0x0113
  | .debugAuth _ c b => c.wfFor 0x0120 && b.wf
  | .jtagToken _ _ => true
  | .jtagInstruction _ j => j.wf
  | .debugSessionExpire _ => true
  | .portMap _ c => c.wfFor 0x0200
  | .portConfig _ c => c.wfFor 0x0201
  | .laneConfig _ c => c.wfFor 0x0202
  | .portStats _ c => c.wfFor 0x0203
  | .portUp _ port => decide (port < 128)
  | .linkTrainingRestart _ port => decide (port < 128)
  | .laneSignalLoss _ lane _ => decide (lane < 256)
  | .remoteFaultReceived _ port => decide (port < 128)
  | .fecDegradeInterval _ port _ _ => decide (port < 128)
  | .laneFail _ lane => decide (lane < 256)
  | .quadFail _ quad => decide (quad < 64)
  | .ethFrameReceive _ port f => decide (port < 128) && f.wf
  | .pfcFrameReceive _ port _ _ => decide (port < 128)
  | .pfcPauseExpire _ port cls => decide (port < 128) && decide (cls < 8)
  | .frameTransmit _ port => decide (port < 128)
  | .eliLaneMarker _ port lane m => decide (port < 128) && decide (lane < 8) && m.wf
  | .eliFawMatch _ port _ _ => decide (port < 128)
  | .eliFrameReceive _ port f => decide (port < 128) && f.wf
  | .eliTxFrameStart _ port => decide (port < 128)
  | .eliExpressReplace _ dst group => decide (dst < 128) && decide (group < 128)
  | .eliExpressRestore _ dst group => decide (dst < 128) && decide (group < 128)
  | .eliConfig _ c => c.wfFor 0x0300
  | .eliSlotmap _ c => c.wfFor 0x0301
  | .eliExpress _ c => c.wfFor 0x0302
  | .eliCounters _ c => c.wfFor 0x0303
  | .ingressDispatch _ port => decide (port < 128)
  | .egressDispatch _ port => decide (port < 192)
  | .parseComplete _ th => th.wf
  | .orderBucketRelease _ cluster bucket => decide (cluster < 32) && decide (bucket < 4096)
  | .steerHoldDrained _ idx => decide (idx < 1024)
  | .steerHoldTimeout _ idx => decide (idx < 1024)
  | .lookupIssue _ th tag table _ => th.wf && decide (tag < 8) && decide (table < 2 ^ 16)
  | .classifyIssue _ th tag tree => th.wf && decide (tag < 8) && decide (tree < 2 ^ 16)
  | .scanIssue _ th set _ => th.wf && decide (set < 2 ^ 16)
  | .assocSearchIssue _ th tag array _ => th.wf && decide (tag < 2) && decide (array < 2 ^ 16)
  | .lookupResponse _ th tag err => th.wf && decide (tag < 8) && (err.all EntryError.wf)
  | .scanResponse _ th => th.wf
  | .assocResponse _ th ans => th.wf && ans.wf
  | .parseGraphLoad _ c b => c.wfFor 0x0400 && b.wf
  | .parsePortConfig _ c => c.wfFor 0x0401
  | .classTreeLoad _ c b => c.wfFor 0x0402 && b.wf
  | .classTreeDelete _ c => c.wfFor 0x0403
  | .autoSetLoad _ c b => c.wfFor 0x0404 && b.wf
  | .autoSetDelete _ c => c.wfFor 0x0405
  | .classLimit _ c => c.wfFor 0x0406
  | .parseCounters _ c => c.wfFor 0x0407
  | .tableCreate _ c => c.wfFor 0x0500
  | .tableDestroy _ c => c.wfFor 0x0501
  | .tableInsert _ c => c.wfFor 0x0502
  | .tableUpdate _ c => c.wfFor 0x0503
  | .tableDelete _ c => c.wfFor 0x0504
  | .tableSearch _ c => c.wfFor 0x0505
  | .tableNext _ c => c.wfFor 0x0506
  | .tableFlushPort _ c => c.wfFor 0x0507
  | .tableDma _ c b => c.wfFor 0x0508 && b.wf
  | .dmaLockRelease _ table bucket _ => decide (table < 2 ^ 16) && decide (bucket < 2 ^ 24)
  | .lpmAdd _ c b => c.wfFor 0x0509 && b.wf
  | .lpmDelete _ c b => c.wfFor 0x050A && b.wf
  | .learnConfig _ c => c.wfFor 0x050B
  | .tableAge _ c => c.wfFor 0x050C
  | .tableLimit _ c => c.wfFor 0x050D
  | .hitWrite _ => true
  | .learn _ => true
  | .ageSweepVisit _ table bucket => decide (table < 2 ^ 16) && decide (bucket < 2 ^ 24)
  | .conditionalDelete _ => true
  | .mirrorRepair _ table bucket slot => decide (table < 2 ^ 16) && decide (bucket < 2 ^ 24) && decide (slot < 4)
  | .lpmRebuild _ table => decide (table < 2 ^ 16)
  | .assocCreate _ c => c.wfFor 0x0600
  | .assocDelete _ c => c.wfFor 0x0601
  | .assocWrite _ c b => c.wfFor 0x0602 && b.wf
  | .assocUpdateStep _ array => decide (array < 32)
  | .assocRead _ c => c.wfFor 0x0603
  | .assocGroup _ c => c.wfFor 0x0604
  | .assocSearch _ c b => c.wfFor 0x0605 && b.wf
  | .assocScrub _ block row _ => decide (block < 32) && decide (row < 8192)
  | .assocRowRepair _ block row => decide (block < 32) && decide (row < 8192)
  | .engineIssue _ cluster engine _ ops => decide (cluster < 32) && decide (engine < 16) && (ops.all BundleOp.wf)
  | .slotTableSwitch _ cluster engine => decide (cluster < 32) && decide (engine < 16)
  | .wait _ th mask => th.wf && decide (mask < 2 ^ 32)
  | .signal _ th engine thread sig => th.wf && decide (engine < 16) && decide (thread < 16) && decide (sig < 8)
  | .signalDeliver _ cluster => decide (cluster < 32)
  | .timerSet _ th _ => th.wf
  | .timerFire _ th => th.wf
  | .chanStage _ th channel word value => th.wf && decide (channel < 256) && decide (word < 8) && decide (value < 2 ^ 64)
  | .chanCommit _ th => th.wf
  | .chanVisible _ cluster channel => decide (cluster < 32) && decide (channel < 256)
  | .chanRead _ th channel => th.wf && decide (channel < 256)
  | .yield _ th n => th.wf && decide (n < 65)
  | .yieldExpire _ th => th.wf
  | .faultRaise _ th code detail => th.wf && decide (code < 256) && decide (detail < 2 ^ 32)
  | .faultQueueRead _ cluster => decide (cluster < 32)
  | .confirm _ th => th.wf
  | .packetDma _ th _ _ _ _ => th.wf
  | .packetDmaDone _ th => th.wf
  | .responseTimeout _ th bit => th.wf && decide (bit < 32)
  | .passBudgetExceeded _ th => th.wf
  | .passEnd _ th e => th.wf && e.wf
  | .allwaitDetect _ cluster => decide (cluster < 32)
  | .allwaitEscalate _ cluster => decide (cluster < 32)
  | .clusterStallRecovery _ cluster => decide (cluster < 32)
  | .clusterHealthWord _ cluster => decide (cluster < 32)
  | .clusterFail _ cluster _ => decide (cluster < 32)
  | .threadStopped _ th => th.wf
  | .engProfileLoad _ c b => c.wfFor 0x0700 && b.wf
  | .engSlotSet _ c => c.wfFor 0x0701
  | .engConfig _ c => c.wfFor 0x0702
  | .threadDebug _ c => c.wfFor 0x0703
  | .profileWrite _ c b => c.wfFor 0x0704 && b.wf
  | .scoutDeliver _ th => th.wf
  | .squash _ th => th.wf
  | .scoutFill _ cluster => decide (cluster < 32)
  | .scoutAlarmInterval _ => true
  | .scoutPartition _ c => c.wfFor 0x0780
  | .scoutConfig _ c => c.wfFor 0x0781
  | .scoutTemplate _ c => c.wfFor 0x0782
  | .scoutInvalidate _ c => c.wfFor 0x0783
  | .scoutStats _ c => c.wfFor 0x0784
  | .editApply _ cluster => decide (cluster < 32)
  | .actionWrite _ c b => c.wfFor 0x0408 && b.wf
  | .actionLimit _ c => c.wfFor 0x0409
  | .editStats _ c => c.wfFor 0x040A
  | .tunnelCipher _ pipe => decide (pipe < 4)
  | .guylineDeliver _ _ group _ => decide (group < 16)
  | .guylineGroupFailed _ group => decide (group < 16)
  | .guylineMapoutDrained _ group => decide (group < 16)
  | .guylineEntryReturn _ _ idx => decide (idx < 64)
  | .cellAllocate _ pool reqs => decide (pool < 64) && (reqs.all CellReq.wf)
  | .cellFree _ cell => decide (cell < 2 ^ 30)
  | .poolCacheRefill _ pool _ => decide (pool < 64)
  | .pfcXoffRefresh _ port cls => decide (port < 128) && decide (cls < 8)
  | .farPageMove _ page => decide (page < 1024)
  | .farRingCopyRebuilt _ => true
  | .farRingRebuilt _ => true
  | .bufReconcile _ => true
  | .bufErrLogRead _ r => r.wf
  | .poolConfig _ c => c.wfFor 0x0800
  | .accountConfig _ c => c.wfFor 0x0801
  | .poolThresh _ c => c.wfFor 0x0802
  | .queueBuf _ c => c.wfFor 0x0803
  | .bufStats _ c => c.wfFor 0x0804
  | .enqueue _ requester => decide (requester < 47)
  | .depthSnapshot _ => true
  | .tokenRefill _ => true
  | .schedSelect _ node => decide (node < 192)
  | .selectionComplete _ slice => decide (slice < 32)
  | .flushComplete _ c => c.wf
  | .nodeConfig _ c => c.wfFor 0x0900
  | .queueState _ c => c.wfFor 0x0901
  | .nodeQuery _ c => c.wfFor 0x0902
  | .queueStats _ c => c.wfFor 0x0903
  | .schedLimit _ c => c.wfFor 0x0904
  | .sliceFail _ slice => decide (slice < 32)
  | .obsSamplePass _ domain => decide (domain < 16)
  | .policerConfig _ c => c.wfFor 0x0A00
  | .policerStats _ c => c.wfFor 0x0A01
  | .congProfile _ c => c.wfFor 0x0A02
  | .queueCong _ c => c.wfFor 0x0A03
  | .obsSelect _ c => c.wfFor 0x0A04
  | .obsConfig _ c => c.wfFor 0x0A05
  | .obsHwm _ c => c.wfFor 0x0A06
  | .congStats _ c => c.wfFor 0x0A07
  | .congLimit _ c => c.wfFor 0x0A08
  | .congSeed _ c => c.wfFor 0x0A09
  | .fabLaneMarker _ link m => decide (link < 192) && m.wf
  | .fabCellReceive _ link _ _ => decide (link < 192)
  | .fabCellSend _ link => decide (link < 192)
  | .fabGapTimeout _ device => decide (device < 2048)
  | .fabRequestRefresh _ voq => decide (voq < 2 ^ 20)
  | .fabResync _ voq => decide (voq < 2 ^ 20)
  | .fabCreditGrant _ port => decide (port < 128)
  | .fabAckTimer _ => true
  | .fabLinkFail _ link _ => decide (link < 192)
  | .fabResend _ link => decide (link < 192)
  | .fabLinkReturn _ link => decide (link < 192)
  | .fabLinkMapoutDone _ link => decide (link < 192)
  | .fabConfig _ c => c.wfFor 0x0B00
  | .fabVoqMap _ c => c.wfFor 0x0B01
  | .fabPortCredit _ c => c.wfFor 0x0B02
  | .fabLink _ c => c.wfFor 0x0B03
  | .fabStats _ c => c.wfFor 0x0B04
  | .ponDsFrame _ tree => decide (tree < 48)
  | .ponBurstReceive _ tree b => decide (tree < 48) && b.wf
  | .ponWindowClose _ tree _ => decide (tree < 48)
  | .ponEnergyDetect _ tree _ => decide (tree < 48)
  | .ponSerialNumber _ tree serial => decide (tree < 48) && decide (serial < 2 ^ 64)
  | .ponRangingTimeout _ tree onu => decide (tree < 48) && decide (onu < 256)
  | .ponRogueSearchStep _ tree => decide (tree < 48)
  | .ponOmciReceive _ tree onu _ => decide (tree < 48) && decide (onu < 256)
  | .ponChannelFail _ tree => decide (tree < 48)
  | .ponTreeConfig _ c => c.wfFor 0x0C00
  | .ponBurstProfile _ c => c.wfFor 0x0C01
  | .ponOnu _ c => c.wfFor 0x0C02
  | .ponXgem _ c => c.wfFor 0x0C03
  | .ponOnuKey _ c => c.wfFor 0x0C04
  | .ponOmciSend _ c b => c.wfFor 0x0C05 && b.wf
  | .ponTod _ c => c.wfFor 0x0C06
  | .ponStats _ c => c.wfFor 0x0C07
  | .grantSnapshot _ tree => decide (tree < 48)
  | .grantMapReady _ tree => decide (tree < 48)
  | .grantShareInterval _ => true
  | .grantTreeConfig _ c => c.wfFor 0x0C08
  | .grantAlloc _ c => c.wfFor 0x0C09
  | .grantGroup _ c => c.wfFor 0x0C0A
  | .grantQuery _ c => c.wfFor 0x0C0B
  | .grantStats _ c => c.wfFor 0x0C0C
  | .macsecVerdict _ th _ => th.wf
  | .cipherDisagree _ unit w => decide (unit < 132) && w.wf
  | .cipherKat _ unit _ => decide (unit < 132)
  | .cipherReplace _ unit => decide (unit < 132)
  | .macsecSa _ c => c.wfFor 0x0D00
  | .macsecPort _ c => c.wfFor 0x0D01
  | .tunnelSa _ c => c.wfFor 0x0D02
  | .ciphStats _ c => c.wfFor 0x0D03
  | .ciphFaultLogRead _ r => r.wf
  | .timeNsRead _ r => r.wf
  | .timeStep _ c => c.wfFor 0x0E00
  | .timeArm _ c => c.wfFor 0x0E01
  | .timeRate _ c => c.wfFor 0x0E02
  | .timeSlew _ c => c.wfFor 0x0E03
  | .slewComplete _ => true
  | .timePulse _ c => c.wfFor 0x0E04
  | .pulseFire _ out => decide (out < 4)
  | .pulseEnd _ out => decide (out < 4)
  | .timeInEdge _ input _ _ => decide (input < 2)
  | .timeCapture _ c => c.wfFor 0x0E05
  | .timeTsRead _ c => c.wfFor 0x0E06
  | .timePortAdj _ c => c.wfFor 0x0E07
  | .dramArbitrate _ stack pc err => decide (stack < 10) && decide (pc < 64) && (err.all EccError.wf)
  | .dramRefreshDue _ stack pc bank => decide (stack < 10) && decide (pc < 64) && decide (bank < 32)
  | .dramDisturbWindow _ stack => decide (stack < 10)
  | .dramThrottleExpire _ stack pc bank => decide (stack < 10) && decide (pc < 64) && decide (bank < 32)
  | .dramSelfRefreshEnter _ stack => decide (stack < 10)
  | .dramSpillInterval _ stack => decide (stack < 10)
  | .dramOppointChange _ stack => decide (stack < 10)
  | .dramOppoint _ stack => decide (stack < 10)
  | .dramPatrolScrub _ stack err => decide (stack < 10) && (err.all EccError.wf)
  | .dramStackFail _ stack cause => decide (stack < 10) && decide (cause < 256)
  | .dramErrCountRead _ r => r.wf
  | .dramQuery _ c => c.wfFor 0x0F00
  | .dramMap _ c => c.wfFor 0x0F01
  | .dramPower _ c => c.wfFor 0x0F02
  | .dramTrain _ c _ => c.wfFor 0x0F03
  | .dramDisturb _ c => c.wfFor 0x0F04
  | .lantCntLoRead _ r => r.wf
  | .lantRead _ c => c.wfFor 0x1000
  | .lantMode _ c => c.wfFor 0x1001
  | .basecampCoreFail _ core _ => decide (core < 4)
  | .tableBankFail _ bank _ => decide (bank < 16)
  | .tableBankRebuilt _ bank _ => decide (bank < 16)
  | .assocBlockFail _ block => decide (block < 32)
  | .nearBankFail _ bank => decide (bank < 8)
  | .unitMap _ c _ => c.wfFor 0x1101
  | .clusterDrained _ cluster => decide (cluster < 32)
  | .nearBankDrained _ bank => decide (bank < 8)
  | .sliceNodeMove _ node => decide (node < 192)
  | .unitMapTimeout _ _ _ => true
  | .faultLogRead _ c => c.wfFor 0x1100
  | .faultAck _ c => c.wfFor 0x1102
  | .faultConfig _ c => c.wfFor 0x1103
  | .fwDeliver _ c b => c.wfFor 0x1200 && b.wf
  | .fwHeaderVerified _ => true
  | .fwChunkWritten _ => true
  | .inbandFwFrame _ port _ => decide (port < 128)
  | .fwStatus _ c => c.wfFor 0x1201
  | .fwActivate _ c => c.wfFor 0x1202
  | .handoverQuiesced _ => true
  | .fwHandover _ => true
  | .handoverHealthTimeout _ => true
  | .profileClusterSwap _ cluster => decide (cluster < 32)
  | .trialExpire _ imageType => decide (imageType < 3)
  | .fwCommit _ c => c.wfFor 0x1203
  | .fwRollback _ c => c.wfFor 0x1204
  | .fwFloor _ c => c.wfFor 0x1205
  | .fwInband _ c => c.wfFor 0x1206
  | .fwConfigSave _ c => c.wfFor 0x1207
  | .resetNRisingEdge _ straps => straps.wf
  | .eliFawNotFound _ port _ => decide (port < 128)
  | .portConditionCleared _ port _ => decide (port < 128)
  | .dramSelfRefreshExit _ stack => decide (stack < 10)
  | .trailheadSteerRebalance _ idx cluster => decide (idx < 1024) && decide (cluster < 32)

/-- The rows that are commands of one opcode: their instant, opcode and entry. -/
def Instr.command (i : Instr) : Option (Nat × Nat × Cmd) :=
  match i with
  | .powerOnReset _ _ => none
  | .pinReset _ _ _ => none
  | .devResetFull _ _ _ => none
  | .devResetDataPlane _ _ _ => none
  | .hostLinkLoss _ _ _ => none
  | .hostLinkTrained _ _ _ => none
  | .rootPllLoss _ => none
  | .supplyFault _ _ _ _ => none
  | .thermalTrip _ _ _ => none
  | .junctionOverMax _ _ _ _ => none
  | .bootImageCheck _ _ => none
  | .guylineTrainingDone _ _ => none
  | .serdesCalibrationDone _ _ _ _ => none
  | .dramTrainingDone _ _ _ _ => none
  | .trainingTimeout _ _ _ => none
  | .stackZeroingDone _ _ => none
  | .configApply _ => none
  | .standbyEntry _ => none
  | .modeSet t c => some (t, 0x0001, c)
  | .dataPlaneHoldDone _ => none
  | .unknownOpcode _ _ => none
  | .nop t c => some (t, 0x0000, c)
  | .devQuery t c => some (t, 0x0002, c)
  | .eventConfig t c => some (t, 0x0003, c)
  | .memWindow t c => some (t, 0x0004, c)
  | .registerWrite _ _ => none
  | .ringCfgEnable _ _ _ _ => none
  | .ringCfgDisable _ _ _ _ => none
  | .sqTail _ _ _ _ => none
  | .cqHead _ _ _ _ => none
  | .ringEntryFetch _ _ _ _ => none
  | .hostBufferTimeout _ _ => none
  | .hostWriteFailed _ _ _ => none
  | .ringDrained _ _ _ => none
  | .eventQueueDrain _ _ => none
  | .interruptCoalTimeout _ _ _ => none
  | .hcmdEvtLostRead _ _ => none
  | .cxlmemRead _ _ _ => none
  | .cxlmemWrite _ _ _ _ => none
  | .domainSet t c => some (t, 0x0100, c)
  | .resourceAssign t c => some (t, 0x0101, c)
  | .principalSet t c => some (t, 0x0102, c)
  | .secHeartbeat _ _ _ => none
  | .heartbeatTimeout _ => none
  | .principalRecheck _ => none
  | .keyLockClaim _ _ => none
  | .keyLockRelease _ _ _ => none
  | .keyLockExpired _ => none
  | .keyInfo t c => some (t, 0x0110, c)
  | .keyImport t c _ => some (t, 0x0111, c)
  | .keyExport t c => some (t, 0x0112, c)
  | .keyDestroy t c => some (t, 0x0113, c)
  | .debugAuth t c _ => some (t, 0x0120, c)
  | .jtagToken _ _ => none
  | .jtagInstruction _ _ => none
  | .debugSessionExpire _ => none
  | .portMap t c => some (t, 0x0200, c)
  | .portConfig t c => some (t, 0x0201, c)
  | .laneConfig t c => some (t, 0x0202, c)
  | .portStats t c => some (t, 0x0203, c)
  | .portUp _ _ => none
  | .linkTrainingRestart _ _ => none
  | .laneSignalLoss _ _ _ => none
  | .remoteFaultReceived _ _ => none
  | .fecDegradeInterval _ _ _ _ => none
  | .laneFail _ _ => none
  | .quadFail _ _ => none
  | .ethFrameReceive _ _ _ => none
  | .pfcFrameReceive _ _ _ _ => none
  | .pfcPauseExpire _ _ _ => none
  | .frameTransmit _ _ => none
  | .eliLaneMarker _ _ _ _ => none
  | .eliFawMatch _ _ _ _ => none
  | .eliFrameReceive _ _ _ => none
  | .eliTxFrameStart _ _ => none
  | .eliExpressReplace _ _ _ => none
  | .eliExpressRestore _ _ _ => none
  | .eliConfig t c => some (t, 0x0300, c)
  | .eliSlotmap t c => some (t, 0x0301, c)
  | .eliExpress t c => some (t, 0x0302, c)
  | .eliCounters t c => some (t, 0x0303, c)
  | .ingressDispatch _ _ => none
  | .egressDispatch _ _ => none
  | .parseComplete _ _ => none
  | .orderBucketRelease _ _ _ => none
  | .steerHoldDrained _ _ => none
  | .steerHoldTimeout _ _ => none
  | .lookupIssue _ _ _ _ _ => none
  | .classifyIssue _ _ _ _ => none
  | .scanIssue _ _ _ _ => none
  | .assocSearchIssue _ _ _ _ _ => none
  | .lookupResponse _ _ _ _ => none
  | .scanResponse _ _ => none
  | .assocResponse _ _ _ => none
  | .parseGraphLoad t c _ => some (t, 0x0400, c)
  | .parsePortConfig t c => some (t, 0x0401, c)
  | .classTreeLoad t c _ => some (t, 0x0402, c)
  | .classTreeDelete t c => some (t, 0x0403, c)
  | .autoSetLoad t c _ => some (t, 0x0404, c)
  | .autoSetDelete t c => some (t, 0x0405, c)
  | .classLimit t c => some (t, 0x0406, c)
  | .parseCounters t c => some (t, 0x0407, c)
  | .tableCreate t c => some (t, 0x0500, c)
  | .tableDestroy t c => some (t, 0x0501, c)
  | .tableInsert t c => some (t, 0x0502, c)
  | .tableUpdate t c => some (t, 0x0503, c)
  | .tableDelete t c => some (t, 0x0504, c)
  | .tableSearch t c => some (t, 0x0505, c)
  | .tableNext t c => some (t, 0x0506, c)
  | .tableFlushPort t c => some (t, 0x0507, c)
  | .tableDma t c _ => some (t, 0x0508, c)
  | .dmaLockRelease _ _ _ _ => none
  | .lpmAdd t c _ => some (t, 0x0509, c)
  | .lpmDelete t c _ => some (t, 0x050A, c)
  | .learnConfig t c => some (t, 0x050B, c)
  | .tableAge t c => some (t, 0x050C, c)
  | .tableLimit t c => some (t, 0x050D, c)
  | .hitWrite _ => none
  | .learn _ => none
  | .ageSweepVisit _ _ _ => none
  | .conditionalDelete _ => none
  | .mirrorRepair _ _ _ _ => none
  | .lpmRebuild _ _ => none
  | .assocCreate t c => some (t, 0x0600, c)
  | .assocDelete t c => some (t, 0x0601, c)
  | .assocWrite t c _ => some (t, 0x0602, c)
  | .assocUpdateStep _ _ => none
  | .assocRead t c => some (t, 0x0603, c)
  | .assocGroup t c => some (t, 0x0604, c)
  | .assocSearch t c _ => some (t, 0x0605, c)
  | .assocScrub _ _ _ _ => none
  | .assocRowRepair _ _ _ => none
  | .engineIssue _ _ _ _ _ => none
  | .slotTableSwitch _ _ _ => none
  | .wait _ _ _ => none
  | .signal _ _ _ _ _ => none
  | .signalDeliver _ _ => none
  | .timerSet _ _ _ => none
  | .timerFire _ _ => none
  | .chanStage _ _ _ _ _ => none
  | .chanCommit _ _ => none
  | .chanVisible _ _ _ => none
  | .chanRead _ _ _ => none
  | .yield _ _ _ => none
  | .yieldExpire _ _ => none
  | .faultRaise _ _ _ _ => none
  | .faultQueueRead _ _ => none
  | .confirm _ _ => none
  | .packetDma _ _ _ _ _ _ => none
  | .packetDmaDone _ _ => none
  | .responseTimeout _ _ _ => none
  | .passBudgetExceeded _ _ => none
  | .passEnd _ _ _ => none
  | .allwaitDetect _ _ => none
  | .allwaitEscalate _ _ => none
  | .clusterStallRecovery _ _ => none
  | .clusterHealthWord _ _ => none
  | .clusterFail _ _ _ => none
  | .threadStopped _ _ => none
  | .engProfileLoad t c _ => some (t, 0x0700, c)
  | .engSlotSet t c => some (t, 0x0701, c)
  | .engConfig t c => some (t, 0x0702, c)
  | .threadDebug t c => some (t, 0x0703, c)
  | .profileWrite t c _ => some (t, 0x0704, c)
  | .scoutDeliver _ _ => none
  | .squash _ _ => none
  | .scoutFill _ _ => none
  | .scoutAlarmInterval _ => none
  | .scoutPartition t c => some (t, 0x0780, c)
  | .scoutConfig t c => some (t, 0x0781, c)
  | .scoutTemplate t c => some (t, 0x0782, c)
  | .scoutInvalidate t c => some (t, 0x0783, c)
  | .scoutStats t c => some (t, 0x0784, c)
  | .editApply _ _ => none
  | .actionWrite t c _ => some (t, 0x0408, c)
  | .actionLimit t c => some (t, 0x0409, c)
  | .editStats t c => some (t, 0x040A, c)
  | .tunnelCipher _ _ => none
  | .guylineDeliver _ _ _ _ => none
  | .guylineGroupFailed _ _ => none
  | .guylineMapoutDrained _ _ => none
  | .guylineEntryReturn _ _ _ => none
  | .cellAllocate _ _ _ => none
  | .cellFree _ _ => none
  | .poolCacheRefill _ _ _ => none
  | .pfcXoffRefresh _ _ _ => none
  | .farPageMove _ _ => none
  | .farRingCopyRebuilt _ => none
  | .farRingRebuilt _ => none
  | .bufReconcile _ => none
  | .bufErrLogRead _ _ => none
  | .poolConfig t c => some (t, 0x0800, c)
  | .accountConfig t c => some (t, 0x0801, c)
  | .poolThresh t c => some (t, 0x0802, c)
  | .queueBuf t c => some (t, 0x0803, c)
  | .bufStats t c => some (t, 0x0804, c)
  | .enqueue _ _ => none
  | .depthSnapshot _ => none
  | .tokenRefill _ => none
  | .schedSelect _ _ => none
  | .selectionComplete _ _ => none
  | .flushComplete _ _ => none
  | .nodeConfig t c => some (t, 0x0900, c)
  | .queueState t c => some (t, 0x0901, c)
  | .nodeQuery t c => some (t, 0x0902, c)
  | .queueStats t c => some (t, 0x0903, c)
  | .schedLimit t c => some (t, 0x0904, c)
  | .sliceFail _ _ => none
  | .obsSamplePass _ _ => none
  | .policerConfig t c => some (t, 0x0A00, c)
  | .policerStats t c => some (t, 0x0A01, c)
  | .congProfile t c => some (t, 0x0A02, c)
  | .queueCong t c => some (t, 0x0A03, c)
  | .obsSelect t c => some (t, 0x0A04, c)
  | .obsConfig t c => some (t, 0x0A05, c)
  | .obsHwm t c => some (t, 0x0A06, c)
  | .congStats t c => some (t, 0x0A07, c)
  | .congLimit t c => some (t, 0x0A08, c)
  | .congSeed t c => some (t, 0x0A09, c)
  | .fabLaneMarker _ _ _ => none
  | .fabCellReceive _ _ _ _ => none
  | .fabCellSend _ _ => none
  | .fabGapTimeout _ _ => none
  | .fabRequestRefresh _ _ => none
  | .fabResync _ _ => none
  | .fabCreditGrant _ _ => none
  | .fabAckTimer _ => none
  | .fabLinkFail _ _ _ => none
  | .fabResend _ _ => none
  | .fabLinkReturn _ _ => none
  | .fabLinkMapoutDone _ _ => none
  | .fabConfig t c => some (t, 0x0B00, c)
  | .fabVoqMap t c => some (t, 0x0B01, c)
  | .fabPortCredit t c => some (t, 0x0B02, c)
  | .fabLink t c => some (t, 0x0B03, c)
  | .fabStats t c => some (t, 0x0B04, c)
  | .ponDsFrame _ _ => none
  | .ponBurstReceive _ _ _ => none
  | .ponWindowClose _ _ _ => none
  | .ponEnergyDetect _ _ _ => none
  | .ponSerialNumber _ _ _ => none
  | .ponRangingTimeout _ _ _ => none
  | .ponRogueSearchStep _ _ => none
  | .ponOmciReceive _ _ _ _ => none
  | .ponChannelFail _ _ => none
  | .ponTreeConfig t c => some (t, 0x0C00, c)
  | .ponBurstProfile t c => some (t, 0x0C01, c)
  | .ponOnu t c => some (t, 0x0C02, c)
  | .ponXgem t c => some (t, 0x0C03, c)
  | .ponOnuKey t c => some (t, 0x0C04, c)
  | .ponOmciSend t c _ => some (t, 0x0C05, c)
  | .ponTod t c => some (t, 0x0C06, c)
  | .ponStats t c => some (t, 0x0C07, c)
  | .grantSnapshot _ _ => none
  | .grantMapReady _ _ => none
  | .grantShareInterval _ => none
  | .grantTreeConfig t c => some (t, 0x0C08, c)
  | .grantAlloc t c => some (t, 0x0C09, c)
  | .grantGroup t c => some (t, 0x0C0A, c)
  | .grantQuery t c => some (t, 0x0C0B, c)
  | .grantStats t c => some (t, 0x0C0C, c)
  | .macsecVerdict _ _ _ => none
  | .cipherDisagree _ _ _ => none
  | .cipherKat _ _ _ => none
  | .cipherReplace _ _ => none
  | .macsecSa t c => some (t, 0x0D00, c)
  | .macsecPort t c => some (t, 0x0D01, c)
  | .tunnelSa t c => some (t, 0x0D02, c)
  | .ciphStats t c => some (t, 0x0D03, c)
  | .ciphFaultLogRead _ _ => none
  | .timeNsRead _ _ => none
  | .timeStep t c => some (t, 0x0E00, c)
  | .timeArm t c => some (t, 0x0E01, c)
  | .timeRate t c => some (t, 0x0E02, c)
  | .timeSlew t c => some (t, 0x0E03, c)
  | .slewComplete _ => none
  | .timePulse t c => some (t, 0x0E04, c)
  | .pulseFire _ _ => none
  | .pulseEnd _ _ => none
  | .timeInEdge _ _ _ _ => none
  | .timeCapture t c => some (t, 0x0E05, c)
  | .timeTsRead t c => some (t, 0x0E06, c)
  | .timePortAdj t c => some (t, 0x0E07, c)
  | .dramArbitrate _ _ _ _ => none
  | .dramRefreshDue _ _ _ _ => none
  | .dramDisturbWindow _ _ => none
  | .dramThrottleExpire _ _ _ _ => none
  | .dramSelfRefreshEnter _ _ => none
  | .dramSpillInterval _ _ => none
  | .dramOppointChange _ _ => none
  | .dramOppoint _ _ => none
  | .dramPatrolScrub _ _ _ => none
  | .dramStackFail _ _ _ => none
  | .dramErrCountRead _ _ => none
  | .dramQuery t c => some (t, 0x0F00, c)
  | .dramMap t c => some (t, 0x0F01, c)
  | .dramPower t c => some (t, 0x0F02, c)
  | .dramTrain t c _ => some (t, 0x0F03, c)
  | .dramDisturb t c => some (t, 0x0F04, c)
  | .lantCntLoRead _ _ => none
  | .lantRead t c => some (t, 0x1000, c)
  | .lantMode t c => some (t, 0x1001, c)
  | .basecampCoreFail _ _ _ => none
  | .tableBankFail _ _ _ => none
  | .tableBankRebuilt _ _ _ => none
  | .assocBlockFail _ _ => none
  | .nearBankFail _ _ => none
  | .unitMap t c _ => some (t, 0x1101, c)
  | .clusterDrained _ _ => none
  | .nearBankDrained _ _ => none
  | .sliceNodeMove _ _ => none
  | .unitMapTimeout _ _ _ => none
  | .faultLogRead t c => some (t, 0x1100, c)
  | .faultAck t c => some (t, 0x1102, c)
  | .faultConfig t c => some (t, 0x1103, c)
  | .fwDeliver t c _ => some (t, 0x1200, c)
  | .fwHeaderVerified _ => none
  | .fwChunkWritten _ => none
  | .inbandFwFrame _ _ _ => none
  | .fwStatus t c => some (t, 0x1201, c)
  | .fwActivate t c => some (t, 0x1202, c)
  | .handoverQuiesced _ => none
  | .fwHandover _ => none
  | .handoverHealthTimeout _ => none
  | .profileClusterSwap _ _ => none
  | .trialExpire _ _ => none
  | .fwCommit t c => some (t, 0x1203, c)
  | .fwRollback t c => some (t, 0x1204, c)
  | .fwFloor t c => some (t, 0x1205, c)
  | .fwInband t c => some (t, 0x1206, c)
  | .fwConfigSave t c => some (t, 0x1207, c)
  | .resetNRisingEdge _ _ => none
  | .eliFawNotFound _ _ _ => none
  | .portConditionCleared _ _ _ => none
  | .dramSelfRefreshExit _ _ => none
  | .trailheadSteerRebalance _ _ _ => none

end Sys2Proof
end

