-- ==== Sys2Proof/Safety.lean ====
section
/-! DEFINITION. The terms of the claims: when a command is ready to act, what it is for a row to complete, and what every
state that a run reaches has. -/

namespace Sys2Proof.Machine

/-- Steps 1 to 4 of R74 pass for a command that has started and whose opcode is the row's: its flags and domain byte are in
range, its domain was held when its entry was read, the mode then in force accepts it; a Basecamp core runs (R440), and no
command that R69, R93 or R94 puts first is still to take effect. -/
def ready (s : State) (c : Cmd) (code : Nat) (who : Who) : Bool :=
  match s.startedAs c with
  | none => false
  | some x => decide (c.opcode = code) && !x.working && s.basecampUp && !(s.waits c && !x.busy) && (frameErr x c who).isNone

/-- The row completes: for every state that meets `P` at the row's instant, `exec` answers a next state, and `Q` holds of the
state at that instant and the next one. -/
def Completes (i : Nat → Instr) (P : State → Prop) (Q : State → State → Prop) : Prop :=
  ∀ (t : Nat) (s : State), P (s.at_ t) → ∃ s', exec (i t) s = .next s' ∧ Q (s.at_ t) s'

/-- What every run keeps of the domains (R88, R89, R93, R97, R98): D0 exists; a number that has no domain is held by no host; a domain
is held by one of the four hosts or, while R98 applies, by none; while the principal is valid it is the host that holds D0; the domains
that a lost principal leaves exist, and D0 is one of them while no host is principal. -/
def DomainsOk (s : State) : Prop :=
  (s.domain 0).live = true ∧
    (∀ d h, (s.domain d).host = some h → (s.domain d).live = true ∧ h < 4) ∧
    s.dom.principal < 4 ∧ (s.dom.valid = true → (s.domain 0).host = some s.dom.principal) ∧
    (∀ d ∈ s.dom.orphans, (s.domain d).live = true) ∧ (s.dom.valid = false → 0 ∈ s.dom.orphans)

/-- What every run keeps of the fault log and the counters (R444, R426): the log holds at most 1,024 records, whose sequence numbers
follow one another up to the newest; a counter is a number of 56 bits. -/
def LogOk (s : State) : Prop :=
  s.units.log.length ≤ 1024 ∧ s.units.log.length ≤ s.units.lastSeq ∧
    (s.units.log.map fun r => r.seq) = (List.range s.units.log.length).map (fun i => s.units.lastSeq - s.units.log.length + 1 + i) ∧
    ∀ i, (s.counter i).value < 2 ^ 56

/-- Only D0 exists, and it owns every resource (R89). -/
def OnlyD0 (s : State) : Prop :=
  (s.domain 0).live = true ∧ (∀ d, d ≠ 0 → (s.domain d).live = false) ∧ ∀ type id, s.owner type id = 0

/-- The parts of the state beside the instant and the commands that wait. -/
inductive Part where
  | free
  | dev
  | units
  | host
  | dom
  | lant
  | ports
  | eli
  | pkts
  | nextPkt
  | parse
  | tables
  | assoc
  | eng
  | scout
  | act
  | buf
  | tm
  | pol
  | fab
  | cipher
  | pon
  | dram
  | fw
  | time
  deriving DecidableEq, Repr

/-- A part is the same in two states. -/
def Part.same (p : Part) (s s' : State) : Prop :=
  match p with
  | .free => s'.free = s.free
  | .dev => s'.dev = s.dev
  | .units => s'.units = s.units
  | .host => s'.host = s.host
  | .dom => s'.dom = s.dom
  | .lant => s'.lant = s.lant
  | .ports => s'.ports = s.ports
  | .eli => s'.eli = s.eli
  | .pkts => s'.pkts = s.pkts
  | .nextPkt => s'.nextPkt = s.nextPkt
  | .parse => s'.parse = s.parse
  | .tables => s'.tables = s.tables
  | .assoc => s'.assoc = s.assoc
  | .eng => s'.eng = s.eng
  | .scout => s'.scout = s.scout
  | .act => s'.act = s.act
  | .buf => s'.buf = s.buf
  | .tm => s'.tm = s.tm
  | .pol => s'.pol = s.pol
  | .fab => s'.fab = s.fab
  | .cipher => s'.cipher = s.cipher
  | .pon => s'.pon = s.pon
  | .dram => s'.dram = s.dram
  | .fw => s'.fw = s.fw
  | .time => s'.time = s.time

/-- The one part, beside the host side, that a row acts on: the host side itself where there is none, and none where the rules let the
row act on several. -/
def partOf (i : Instr) : Option Part :=
  match i with
  | .unknownOpcode .. | .nop .. | .devQuery .. | .eventConfig .. | .memWindow .. | .registerWrite .. | .ringCfgEnable ..
  | .ringCfgDisable .. | .sqTail .. | .cqHead .. | .ringEntryFetch .. | .hostBufferTimeout .. | .hostWriteFailed ..
  | .ringDrained .. | .eventQueueDrain .. | .interruptCoalTimeout .. | .hcmdEvtLostRead .. | .keyInfo .. | .keyExport ..
  | .tableSearch .. | .tableNext .. | .assocRead .. | .nodeQuery .. | .ponTod .. | .grantQuery .. | .timeNsRead ..
  | .lantCntLoRead .. | .faultLogRead .. | .fwStatus .. =>
    some .host
  | .junctionOverMax .. | .standbyEntry .. =>
    some .dev
  | .faultAck .. | .faultConfig .. =>
    some .units
  | .principalSet .. | .secHeartbeat .. | .heartbeatTimeout .. | .principalRecheck .. | .keyLockClaim .. | .keyLockRelease ..
  | .keyLockExpired .. | .keyImport .. | .debugSessionExpire .. =>
    some .dom
  | .lantRead .. | .lantMode .. =>
    some .lant
  | .laneConfig .. | .portStats .. | .linkTrainingRestart .. | .pfcFrameReceive .. | .pfcPauseExpire ..
  | .portConditionCleared .. =>
    some .ports
  | .eliExpressReplace .. | .eliExpressRestore .. | .eliConfig .. | .eliSlotmap .. | .eliExpress .. | .eliCounters .. =>
    some .eli
  | .parseGraphLoad .. | .parsePortConfig .. | .classTreeLoad .. | .classTreeDelete .. | .autoSetLoad .. | .autoSetDelete ..
  | .classLimit .. | .parseCounters .. =>
    some .parse
  | .tableCreate .. | .tableDestroy .. | .tableInsert .. | .tableUpdate .. | .tableDelete .. | .tableFlushPort .. | .tableDma ..
  | .dmaLockRelease .. | .lpmAdd .. | .lpmDelete .. | .learnConfig .. | .tableAge .. | .tableLimit .. | .hitWrite .. | .learn ..
  | .ageSweepVisit .. | .conditionalDelete .. | .mirrorRepair .. | .lpmRebuild .. =>
    some .tables
  | .assocCreate .. | .assocDelete .. | .assocWrite .. | .assocUpdateStep .. | .assocGroup .. | .assocScrub ..
  | .assocRowRepair .. =>
    some .assoc
  | .signalDeliver .. | .timerSet .. | .timerFire .. | .chanVisible .. | .yield .. | .yieldExpire .. | .clusterHealthWord ..
  | .threadStopped .. | .engSlotSet .. | .profileWrite .. =>
    some .eng
  | .scoutAlarmInterval .. | .scoutPartition .. | .scoutConfig .. | .scoutTemplate .. | .scoutInvalidate .. | .scoutStats .. =>
    some .scout
  | .actionWrite .. | .actionLimit .. | .editStats .. =>
    some .act
  | .poolCacheRefill .. | .farRingCopyRebuilt .. | .farRingRebuilt .. | .bufErrLogRead .. | .poolConfig .. | .accountConfig ..
  | .bufStats .. =>
    some .buf
  | .queueBuf .. | .depthSnapshot .. | .nodeConfig .. | .queueState .. | .queueStats .. | .schedLimit .. | .queueCong ..
  | .obsSelect .. | .obsHwm .. =>
    some .tm
  | .policerConfig .. | .policerStats .. | .congProfile .. | .obsConfig .. | .congLimit .. | .congSeed .. =>
    some .pol
  | .fabLaneMarker .. | .fabRequestRefresh .. | .fabResync .. | .fabCreditGrant .. | .fabAckTimer .. | .fabResend ..
  | .fabConfig .. | .fabVoqMap .. | .fabPortCredit .. | .fabLink .. | .fabStats .. =>
    some .fab
  | .macsecSa .. | .tunnelSa .. | .ciphStats .. | .ciphFaultLogRead .. =>
    some .cipher
  | .ponWindowClose .. | .ponEnergyDetect .. | .ponRangingTimeout .. | .ponOmciReceive .. | .ponXgem .. | .ponOmciSend ..
  | .ponStats .. | .grantShareInterval .. | .grantTreeConfig .. | .grantAlloc .. | .grantGroup .. | .grantStats .. =>
    some .pon
  | .dramRefreshDue .. | .dramDisturbWindow .. | .dramThrottleExpire .. | .dramSpillInterval .. | .dramOppointChange ..
  | .dramErrCountRead .. | .dramMap .. | .dramPower .. | .dramDisturb .. | .dramSelfRefreshExit .. =>
    some .dram
  | .fwDeliver .. | .handoverQuiesced .. | .fwCommit .. | .fwFloor .. | .fwInband .. | .fwConfigSave .. =>
    some .fw
  | .timeStep .. | .timeArm .. | .timeRate .. | .timeSlew .. | .slewComplete .. | .timePulse .. | .pulseFire .. | .pulseEnd ..
  | .timeInEdge .. | .timeCapture .. | .timeTsRead .. | .timePortAdj .. =>
    some .time
  | .powerOnReset .. | .pinReset .. | .devResetFull .. | .devResetDataPlane .. | .hostLinkLoss .. | .hostLinkTrained ..
  | .rootPllLoss .. | .supplyFault .. | .thermalTrip .. | .bootImageCheck .. | .guylineTrainingDone ..
  | .serdesCalibrationDone .. | .dramTrainingDone .. | .trainingTimeout .. | .stackZeroingDone .. | .configApply .. | .modeSet ..
  | .dataPlaneHoldDone .. | .cxlmemRead .. | .cxlmemWrite .. | .domainSet .. | .resourceAssign .. | .keyDestroy ..
  | .debugAuth .. | .jtagToken .. | .jtagInstruction .. | .portMap .. | .portConfig .. | .portUp .. | .laneSignalLoss ..
  | .remoteFaultReceived .. | .fecDegradeInterval .. | .laneFail .. | .quadFail .. | .ethFrameReceive .. | .frameTransmit ..
  | .eliLaneMarker .. | .eliFawMatch .. | .eliFrameReceive .. | .eliTxFrameStart .. | .ingressDispatch .. | .egressDispatch ..
  | .parseComplete .. | .orderBucketRelease .. | .steerHoldDrained .. | .steerHoldTimeout .. | .lookupIssue ..
  | .classifyIssue .. | .scanIssue .. | .assocSearchIssue .. | .lookupResponse .. | .scanResponse .. | .assocResponse ..
  | .assocSearch .. | .engineIssue .. | .slotTableSwitch .. | .wait .. | .signal .. | .chanStage .. | .chanCommit ..
  | .chanRead .. | .faultRaise .. | .faultQueueRead .. | .confirm .. | .packetDma .. | .packetDmaDone .. | .responseTimeout ..
  | .passBudgetExceeded .. | .passEnd .. | .allwaitDetect .. | .allwaitEscalate .. | .clusterStallRecovery .. | .clusterFail ..
  | .engProfileLoad .. | .engConfig .. | .threadDebug .. | .scoutDeliver .. | .squash .. | .scoutFill .. | .editApply ..
  | .tunnelCipher .. | .guylineDeliver .. | .guylineGroupFailed .. | .guylineMapoutDrained .. | .guylineEntryReturn ..
  | .cellAllocate .. | .cellFree .. | .pfcXoffRefresh .. | .farPageMove .. | .bufReconcile .. | .poolThresh .. | .enqueue ..
  | .tokenRefill .. | .schedSelect .. | .selectionComplete .. | .flushComplete .. | .sliceFail .. | .obsSamplePass ..
  | .congStats .. | .fabCellReceive .. | .fabCellSend .. | .fabGapTimeout .. | .fabLinkFail .. | .fabLinkReturn ..
  | .fabLinkMapoutDone .. | .ponDsFrame .. | .ponBurstReceive .. | .ponSerialNumber .. | .ponRogueSearchStep ..
  | .ponChannelFail .. | .ponTreeConfig .. | .ponBurstProfile .. | .ponOnu .. | .ponOnuKey .. | .grantSnapshot ..
  | .grantMapReady .. | .macsecVerdict .. | .cipherDisagree .. | .cipherKat .. | .cipherReplace .. | .macsecPort ..
  | .dramArbitrate .. | .dramSelfRefreshEnter .. | .dramOppoint .. | .dramPatrolScrub .. | .dramStackFail .. | .dramQuery ..
  | .dramTrain .. | .basecampCoreFail .. | .tableBankFail .. | .tableBankRebuilt .. | .assocBlockFail .. | .nearBankFail ..
  | .unitMap .. | .clusterDrained .. | .nearBankDrained .. | .sliceNodeMove .. | .unitMapTimeout .. | .fwHeaderVerified ..
  | .fwChunkWritten .. | .inbandFwFrame .. | .fwActivate .. | .fwHandover .. | .handoverHealthTimeout .. | .profileClusterSwap ..
  | .trialExpire .. | .fwRollback .. | .resetNRisingEdge .. | .eliFawNotFound .. | .trailheadSteerRebalance .. =>
    none

end Sys2Proof.Machine
end

