-- ==== Sys2Proof/Certificates/Slice0/Obligations.lean ====
section
/-! DEFINITION. The statements for the provers, one `def Obligations.<Name> : Prop` each. -/

open Sys2Proof Sys2Proof.Machine

/-- Resets and what holds FAULT_N (R42, R47, R49, R52, R446, R467, R470). -/
def Obligations.ResetsComplete : Prop :=
  (∀ (straps : Straps), Completes (.powerOnReset · straps) (fun _ => True) (fun s s' => s'.dev.mode = .safe ∧ s'.dev.ready = false ∧ s'.dom.domains = [(0, { live := true, host := some (straps.principalSel % 4) })] ∧
      s'.dom.principal = straps.principalSel % 4 ∧ s'.dom.keys = [] ∧ s'.host.started = [] ∧ s'.dev.inReset = true ∧ s'.pending = s.pending ∧ s'.units = {})) ∧
  (∀ (lowNs : Nat) (straps : Straps), Completes (.pinReset · lowNs straps) (fun s => 10000 ≤ lowNs ∧ s.dev.thermTrip = false) (fun s s' => s'.dev.mode = .safe ∧ s'.dev.ready = false ∧ s'.dom.domains = [(0, { live := true, host := some (straps.principalSel % 4) })] ∧
      s'.dom.principal = straps.principalSel % 4 ∧ s'.dom.keys = [] ∧ s'.host.started = [] ∧ s'.dev.inReset = true ∧ s'.pending = s.pending ∧ s'.units.log = s.units.log)) ∧
  (∀ (straps : Straps), Completes (.resetNRisingEdge · straps) (fun s => s.dev.inReset = true) (fun s s' => s'.dev.inReset = false ∧ s'.dev.straps = straps ∧ s'.dev.topology = straps.topoSel % 2 ∧ s'.dom.principal = straps.principalSel % 4 ∧
      s'.dev.startOrigin = s.now ∧ s'.units.hold.supply = false)) ∧
  (∀ (host : Nat) (value : Nat), Completes (.devResetFull · host value) (fun s => s.answers host = true ∧ s.dom.valid = true ∧ host = s.dom.principal ∧ value / 65536 = 0x0A5A ∧ value % 4 = 1 ∧ s.dev.thermTrip = false) (fun s s' => s'.dev.mode = .safe ∧ s'.units.log = s.units.log ∧ s'.units.out = [] ∧ s'.dom.domains = [(0, { live := true, host := some (s.dev.straps.principalSel % 4) })] ∧
      s'.host.started = [] ∧ s'.pending = s.pending)) ∧
  (∀ (host : Nat) (value : Nat), Completes (.devResetDataPlane · host value) (fun s => s.answers host = true ∧ s.dom.valid = true ∧ host = s.dom.principal ∧ value / 65536 = 0x0A5A ∧ value % 4 = 2 ∧
      s.dev.mode ≠ .safe ∧ s.dev.mode ≠ .calibrate ∧ s.dev.thermTrip = false) (fun s s' => s'.dev.mode = .calibrate ∧ s'.dev.zeroing = some s.now ∧ s'.dom.domains = s.dom.domains ∧ s'.dom.keys = s.dom.keys ∧ s'.units.log = s.units.log ∧
      s'.pkts = [] ∧ s'.tables.tables = [] ∧ s'.buf = {} ∧ s'.lant = [] ∧ s'.pending = s.pending)) ∧
  (∀ (host : Nat) (perst : Bool), Completes (.hostLinkLoss · host perst) (fun s => host < 4 ∧ (s.hostPort host).link = true) (fun _ s' => (s'.hostPort host).link = false ∧ s'.isOut 2 host = true)) ∧
  (∀ (host : Nat) (cxl : Bool), Completes (.hostLinkTrained · host cxl) (fun s => host < 4 ∧ (s.hostPort host).link = false ∧ s.dev.inReset = false ∧ s.dev.dead = false) (fun _ s' => (s'.hostPort host).link = true ∧ (s'.hostPort host).cxl = cxl ∧ s'.isOut 2 host = false)) ∧
  (Completes (.rootPllLoss ·) (fun _ => True) (fun s s' => s'.dev.dead = true ∧ s'.units.hold.pll = true ∧ s'.units.log = s.units.log ∧ s'.faultN = true)) ∧
  (∀ (rail : Nat) (outNs : Nat) (outOfOrder : Bool), Completes (.supplyFault · rail outNs outOfOrder) (fun _ => rail < 11 ∧ rail ≠ 9 ∧ 2000 < outNs) (fun _ s' => s'.dev.mode = .safe ∧ s'.dev.inReset = true ∧ s'.units = { hold := { supply := true } } ∧ s'.faultN = true)) ∧
  (∀ (tjF : Int) (tjT : Int), Completes (.thermalTrip · tjF tjT) (fun _ => 115 ≤ tjF ∨ 115 ≤ tjT) (fun s s' => s' = { s with dev := { s.dev with thermTrip := true, tjF := tjF, tjT := tjT, overMax := true }, units := { s.units with hold := { s.units.hold with thermal := true } } })) ∧
  (∀ (tjF : Int) (tjT : Int) (stackMax : Nat), Completes (.junctionOverMax · tjF tjT stackMax) (fun _ => True) (fun s s' => s' = { s with dev := { s.dev with tjF := tjF, tjT := tjT, stackMax := stackMax, overMax := decide (tjMax < tjF) || decide (tjMax < tjT) } }))

/-- Start-up from the boot ROM to STANDBY (R42–R46, R421). -/
def Obligations.StartupCompletes : Prop :=
  (∀ (boot : BootRead) (i : Image), Completes (.bootImageCheck · boot) (fun s => s.dev.inReset = false ∧ s.dev.dead = false ∧ s.dev.mode = .safe ∧ s.dev.bootDone = false ∧ s.dev.bootError = 0 ∧
      s.dev.straps.bootMode = 0 ∧ boot.flashOk = true ∧ boot.coresOk = [0, 1, 2, 3] ∧ s.primary 1 = 0 ∧ (s.slot 1 0).state = .good ∧
      boot.slot0 = some i ∧ i.magicOk = true ∧ i.format = 1 ∧ i.signaturesOk = true ∧ i.hashOk = true ∧
      i.part = 0x5140 ∧ i.stepping = 0xB0 ∧ i.imageType = 1 ∧ i.binding = 0 ∧
      s.floor 1 ≤ i.security) (fun _ s' => s'.dev.mode = .calibrate ∧ s'.dev.bootDone = true ∧ s'.fw.version = i.version)) ∧
  (∀ (failed : List Nat), Completes (.guylineTrainingDone · failed) (fun s => s.dev.mode = .calibrate ∧ s.dev.zeroing = none ∧ s.dev.guylineDone = false ∧ failed = []) (fun s s' => s' = { s with dev := { s.dev with guylineDone := true } })) ∧
  (∀ (fabric : Bool) (quad : Nat) (failed : List Nat), Completes (.serdesCalibrationDone · fabric quad failed) (fun s => s.dev.mode = .calibrate ∧ s.dev.zeroing = none ∧ fabric = false ∧ quad < 64 ∧ failed = []) (fun s s' => s'.dev.serdesQuads = put s.dev.serdesQuads quad false true ∧ s'.units = s.units ∧
      (s.dev.topology = 0 → (∀ k, k < 64 → k ≠ quad → look s.dev.serdesQuads k false = true) → s'.dev.serdesDone = true))) ∧
  (∀ (stack : Nat) (failedAt : Option (Nat × Nat)) (repaired : Nat), Completes (.dramTrainingDone · stack failedAt repaired) (fun s => s.inTraining stack = true ∧ failedAt = none) (fun s s' => s' = s.setStack stack { s.stack stack with trained := true, zeroed := false, repaired := repaired })) ∧
  (∀ (stack : Nat), Completes (.stackZeroingDone · stack) (fun s => stack < 10 ∧ (s.stack stack).trained = true ∧ (s.stack stack).zeroed = false ∧ (s.stack stack).work = none ∧ s.dev.mode = .calibrate ∧ s.healthy 9 stack = true) (fun _ s' => (s'.stack stack).state = .active ∧ (s'.stack stack).zeroed = true)) ∧
  (∀ (kind : Nat) (number : Nat), Completes (.trainingTimeout · kind number) (fun s => kind = 3 ∧ s.dev.mode = .calibrate ∧ s.dev.zeroing = none ∧ s.dev.guylineDone = false ∧ number < 16 ∧ s.healthy 3 number = true) (fun s s' => s' = s.groupOut number 0 false)) ∧
  (Completes (.configApply ·) (fun s => s.dev.mode = .calibrate ∧ s.dev.dramDone = true ∧ s.dev.guylineDone = true ∧ s.dev.serdesDone = true ∧ s.dev.configDone = false ∧
      s.dev.zeroing = none ∧ s.fw.copies = [] ∧ (s.slot 2 (s.running 2)).state = .empty) (fun s s' => s'.dev.configDone = true ∧ s'.buf.nearRing = { built := true } ∧ s'.buf.farCopies = [4, 7].filter (fun n => s.healthy 9 n))) ∧
  (Completes (.standbyEntry ·) (fun s => s.dev.mode = .calibrate ∧ s.dev.configDone = true ∧ s.dev.zeroing = none) (fun s s' => s'.dev.mode = .standby ∧ s'.dev.ready = true ∧ s'.dev.startMs = min ((s.now - s.dev.startOrigin) / ms 1) 0xFFFF ∧ s'.dev.prevMode = .calibrate ∧
      s'.dev.modeSeq = (s.dev.modeSeq + 1) % 256 ∧ s'.dev.dispatchOff = true))

/-- MODE_SET and the hold of the data plane (R34, R38–R41). -/
def Obligations.ModeSetCompletes : Prop :=
  (∀ (c : Cmd), Completes (.modeSet · c) (fun s => ready s c 0x0001 .d0 = true ∧ c.host = s.dom.principal ∧ c.zeros 17 47 = none ∧ (s.dev.hold.any fun h => h.mode.isSome) = false ∧ c.u8 16 = 3 ∧ s.dev.mode = .standby ∧ s.serviceable = true) (fun s s' => s' = s.release.answer c .ok 0 s.release.dev.mode.code [])) ∧
  (∀ (c : Cmd), Completes (.modeSet · c) (fun s => ready s c 0x0001 .d0 = true ∧ c.host = s.dom.principal ∧ c.zeros 17 47 = none ∧ (s.dev.hold.any fun h => h.mode.isSome) = false ∧ c.u8 16 = 2 ∧ (s.dev.mode = .service ∨ s.dev.mode = .degraded)) (fun s s' => s' = (s.beginHold fun h => { h with mode := some c, deadline := s.now + us 100 }).keepWorking c)) ∧
  (∀ (c : Cmd), Completes (.modeSet · c) (fun s => ready s c 0x0001 .d0 = true ∧ c.host = s.dom.principal ∧ c.zeros 17 47 = none ∧ (s.dev.hold.any fun h => h.mode.isSome) = false ∧ ((c.u8 16 = 2 ∧ s.dev.mode = .standby) ∨ (c.u8 16 = 3 ∧ (s.dev.mode = .service ∨ s.dev.mode = .degraded)))) (fun s s' => s' = s.answer c .ok 0 s.dev.mode.code [])) ∧
  (∀ (hd : Hold) (c : Cmd), Completes (.dataPlaneHoldDone ·) (fun s => s.dev.hold = some hd ∧ (s.quiet = true ∨ hd.deadline ≤ s.now) ∧ s.dev.mode ≠ .standby ∧ hd.mode = some c ∧ hd.scan = none) (fun s s' => ∃ x : State, x.dev.mode = .standby ∧ x.dev.schedOff = true ∧ x.dev.hold = none ∧ x.dev.prevMode = s.dev.mode ∧ s' = x.answer c .ok 0 2 [])) ∧
  (∀ (hd : Hold) (x : ScanDue), Completes (.dataPlaneHoldDone ·) (fun s => s.dev.hold = some hd ∧ (s.quiet = true ∨ hd.deadline ≤ s.now) ∧ hd.mode = none ∧ hd.scan = some x) (fun s s' => s' = State.openScan { s with dev := { s.dev with schedOff := true, hold := none } } x)) ∧
  (Completes (.dataPlaneHoldDone ·) (fun s => s.dev.hold = none ∨ (∃ hd, s.dev.hold = some hd ∧ s.quiet = false ∧ s.now < hd.deadline)) (fun s s' => s' = s))

/-- The device-level commands (R84–R87), an unknown opcode (R74), a buffer timeout (R78), and what happens on the host side without a command (R61, R82, R83). -/
def Obligations.DeviceCommandsComplete : Prop :=
  (∀ (c : Cmd), Completes (.unknownOpcode · c) (fun s => (s.startedAs c).isSome = true ∧ knownOpcode c.opcode = false) (fun s s' => s' = s.answer c .invalidParam 0x03000000 0 [])) ∧
  (∀ (c : Cmd), Completes (.nop · c) (fun s => ready s c 0x0000 .any = true ∧ firstErr [c.zeros 16 48] = none) (fun s s' => s' = s.answer c .ok 0 0 [])) ∧
  (∀ (c : Cmd), Completes (.devQuery · c) (fun s => ready s c 0x0002 .any = true ∧ firstErr [c.needReply, c.zeros 16 48] = none) (fun s s' => s' = s.answer c .ok 0 64 (devQueryBytes c.host s.fw.version s))) ∧
  (∀ (c : Cmd), Completes (.eventConfig · c) (fun s => ready s c 0x0003 .any = true ∧
      firstErr [at_ 16 (c.u8 16 < 16), c.zeros 17 3, at_ 20 (c.u32 20 < 2 ^ 20), c.zeros 24 40] = none) (fun s s' => s' = (s.setHostPort c.host { s.hostPort c.host with eventRing := some (c.u8 16), eventMask := c.u32 20 }).answer c .ok 0 0 [])) ∧
  (∀ (c : Cmd), Completes (.memWindow · c) (fun s => ready s c 0x0004 .any = true ∧ (s.hostPort c.host).cxl = true ∧ c.u8 16 = 0 ∧ c.u8 17 = 0 ∧ c.u16 18 < 4096 ∧
      s.holdsRegion c.domain (c.u32 20) = true ∧ c.u32 24 < s.regionPages (c.u32 20) ∧ c.zeros 28 36 = none ∧
      (s.window c.host (c.u16 18)).mapped = false) (fun s s' => s' = (s.setWindow c.host (c.u16 18)
      { region := c.u32 20, page := c.u32 24, write := false, domain := c.domain, mapped := true }).answer c .ok 0 0 [])) ∧
  (∀ (c : Cmd), Completes (.memWindow · c) (fun s => ready s c 0x0004 .any = true ∧ (s.hostPort c.host).cxl = true ∧ c.u8 16 = 1 ∧ c.u8 17 = 0 ∧ c.u16 18 < 4096 ∧
      c.zeros 20 44 = none ∧ (s.window c.host (c.u16 18)).mapped = true ∧ (s.window c.host (c.u16 18)).domain = c.domain) (fun s s' => s' = (s.setWindow c.host (c.u16 18) {}).answer c .ok 0 0 [])) ∧
  (∀ (c : Cmd), Completes (.hostBufferTimeout · c) (fun s => ∃ x, s.startedAs c = some x ∧ x.working = false ∧ readsBuffer c = true) (fun s s' => s' = s.answer c .timeout 1 0 [])) ∧
  (∀ (host : Nat) (r : Nat) (e : Event), Completes (.eventQueueDrain · host) (fun s => s.fwWindow = false ∧ (s.hostPort host).eventRing = some r ∧ (s.hostPort host).events = [e] ∧ (s.hostPort host).lostSince = 0 ∧
      (s.ring host r).state = .active ∧ (s.ring host r).room = true ∧ s.mayHear host e.mask = true) (fun s s' => (s'.hostPort host).events = [] ∧
      .entry host ((s.ring host r).cqBase + 16 * (s.ring host r).cqTail) { tag := 0xFFFFFFFF, code := e.code, status := 0, detail := e.detail, result := e.result } ∈ s'.host.out)) ∧
  (∀ (host : Nat) (ring : Nat), Completes (.interruptCoalTimeout · host ring) (fun s => (s.ring host ring).unsignalled ≠ 0 ∧ (s.ring host ring).coalTime ≠ 0 ∧ (s.ring host ring).oldest + us (s.ring host ring).coalTime ≤ s.now) (fun s s' => s' = s.signal host ring)) ∧
  (∀ (r : RegRead) (v : Nat), Completes (.hcmdEvtLostRead · r) (fun s => r.addr = 0x00100004 ∧ r.size = 4 ∧ s.answers r.host = true ∧ v = (s.hostPort r.host).evtMark.seen s.kclk (s.hostPort r.host).evtLost) (fun s s' => s' = (s.emit (.read r.host (v % 2 ^ 32))).setHostPort r.host { s.hostPort r.host with evtLost := (s.hostPort r.host).evtLost - v, evtMark := (s.hostPort r.host).evtMark.cleared s.kclk })) ∧
  (∀ (r : RegRead) (v : Nat), Completes (.hcmdEvtLostRead · r) (fun s => r.addr / 4 = 0x00040001 ∧ s.answers r.host = true ∧ v = (s.hostPort r.host).evtMark.seen s.kclk (s.hostPort r.host).evtLost) (fun s s' => s' = (if readAligned r = true then (s.emit (.read r.host (readPart r v))).setHostPort r.host { s.hostPort r.host with evtLost := (s.hostPort r.host).evtLost - v, evtMark := (s.hostPort r.host).evtMark.cleared s.kclk } else s.emit (.read r.host (readPart r v))))) ∧
  (∀ (host : Nat) (addr : Nat), Completes (.cxlmemRead · host addr) (fun s => s.answers host = true ∧ (s.hostPort host).cxl = true ∧ addr < 2 ^ 37 ∧ (s.window host (addr / 2 ^ 25)).mapped = false) (fun s s' => s' = s.emit (.mem host (leBytes 8 0)))) ∧
  (∀ (host : Nat) (addr : Nat), Completes (.cxlmemRead · host addr) (fun s => s.answers host = true ∧ (s.hostPort host).cxl = true ∧ addr < 2 ^ 37 ∧ (s.window host (addr / 2 ^ 25)).mapped = true) (fun s s' => s'.host.out = s.host.out ++ [.mem host (leBytes 8 (s.regionWord (s.window host (addr / 2 ^ 25)).region
        ((s.window host (addr / 2 ^ 25)).page * 2 ^ 25 + addr % 2 ^ 25)))] ∧ s'.host.regions = s.host.regions)) ∧
  (∀ (host : Nat) (addr : Nat) (data : Bytes), Completes (.cxlmemWrite · host addr data) (fun s => s.answers host = true ∧ (s.hostPort host).cxl = true ∧ addr < 2 ^ 37 ∧ (s.window host (addr / 2 ^ 25)).mapped = true ∧
      (s.window host (addr / 2 ^ 25)).write = true) (fun s s' => let w := s.window host (addr / 2 ^ 25)
      s'.regionWord w.region (w.offset addr) = leAt data 0 8 ∧
      ∀ region off, region * 2 ^ 40 + off / 8 ≠ w.region * 2 ^ 40 + w.offset addr / 8 → s'.regionWord region off = s.regionWord region off))

/-- RING_CFG, the doorbells, the base registers, and what ends a ring's life (R64–R66). -/
def Obligations.RingRegistersComplete : Prop :=
  (∀ (host : Nat) (ring : Nat) (value : Nat), Completes (.ringCfgEnable · host ring value) (fun s => s.answers host = true ∧ ring < 16 ∧ bit value 31 = true ∧ (s.ring host ring).state = .disabled ∧
      4 ≤ bits value 27 24 ∧ bits value 27 24 ≤ 12 ∧ (s.ring host ring).sqBase ≠ 0 ∧ (s.ring host ring).cqBase ≠ 0 ∧ (s.ring host ring).shadow ≠ 0) (fun s s' => s' = s.setRing host ring { s.ring host ring with
        enable := true, sizeLog2 := bits value 27 24, vector := bits value 23 16, coalCount := bits value 15 8, coalTime := bits value 7 0,
        state := .active, error := 0, sqHead := 0, sqTail := 0, cqTail := 0, cqHead := 0, unsignalled := 0 })) ∧
  (∀ (host : Nat) (ring : Nat) (value : Nat), Completes (.ringCfgEnable · host ring value) (fun s => s.answers host = true ∧ ring < 16 ∧ bit value 31 = true ∧ (s.ring host ring).state = .disabled ∧
      (bits value 27 24 < 4 ∨ 12 < bits value 27 24 ∨ (s.ring host ring).sqBase = 0 ∨ (s.ring host ring).cqBase = 0 ∨ (s.ring host ring).shadow = 0)) (fun _ s' => (s'.ring host ring).state = .disabled ∧ (s'.ring host ring).error = 1)) ∧
  (∀ (host : Nat) (ring : Nat) (value : Nat), Completes (.ringCfgDisable · host ring value) (fun s => s.answers host = true ∧ ring < 16 ∧ bit value 31 = false ∧ ((s.ring host ring).state = .active ∨ (s.ring host ring).state = .error)) (fun s s' => s' = s.setRing host ring { s.ring host ring with state := .draining, enable := false, fenced := none, reserved := if (s.ring host ring).fenced.isSome then (s.ring host ring).reserved - 1 else (s.ring host ring).reserved })) ∧
  (∀ (host : Nat) (ring : Nat) (value : Nat), Completes (.ringCfgDisable · host ring value) (fun s => s.answers host = true ∧ ring < 16 ∧ bit value 31 = false ∧ (s.ring host ring).state = .disabled) (fun s s' => s' = s.setRing host ring { s.ring host ring with
        enable := false, sizeLog2 := bits value 27 24, vector := bits value 23 16, coalCount := bits value 15 8, coalTime := bits value 7 0 })) ∧
  (∀ (host : Nat) (ring : Nat) (value : Nat), Completes (.sqTail · host ring value) (fun s => s.answers host = true ∧ ring < 16 ∧ (s.ring host ring).state ≠ .disabled ∧ value % 4096 < (s.ring host ring).size ∧
      ((s.ring host ring).sqTail + (s.ring host ring).size - (s.ring host ring).sqHead) % (s.ring host ring).size ≤
        (value % 4096 + (s.ring host ring).size - (s.ring host ring).sqHead) % (s.ring host ring).size) (fun s s' => s' = s.setRing host ring { s.ring host ring with sqTail := value % 4096 })) ∧
  (∀ (host : Nat) (ring : Nat) (value : Nat), Completes (.sqTail · host ring value) (fun s => s.answers host = true ∧ ring < 16 ∧ (s.ring host ring).state = .active ∧ (s.ring host ring).size ≤ value % 4096) (fun s s' => s' = s.setRing host ring { s.ring host ring with state := .error, error := 2, fenced := none, reserved := if (s.ring host ring).fenced.isSome then (s.ring host ring).reserved - 1 else (s.ring host ring).reserved })) ∧
  (∀ (host : Nat) (ring : Nat) (value : Nat), Completes (.cqHead · host ring value) (fun s => s.answers host = true ∧ ring < 16 ∧ (s.ring host ring).state ≠ .disabled ∧ value % 4096 < (s.ring host ring).size ∧
      ((s.ring host ring).cqTail + (s.ring host ring).size - value % 4096) % (s.ring host ring).size ≤
        ((s.ring host ring).cqTail + (s.ring host ring).size - (s.ring host ring).cqHead) % (s.ring host ring).size) (fun s s' => s' = s.setRing host ring { s.ring host ring with cqHead := value % 4096 })) ∧
  (∀ (host : Nat) (ring : Nat) (value : Nat), Completes (.cqHead · host ring value) (fun s => s.answers host = true ∧ ring < 16 ∧ (s.ring host ring).state = .active ∧ value % 4096 < (s.ring host ring).size ∧
      ((s.ring host ring).cqTail + (s.ring host ring).size - (s.ring host ring).cqHead) % (s.ring host ring).size <
        ((s.ring host ring).cqTail + (s.ring host ring).size - value % 4096) % (s.ring host ring).size) (fun s s' => s' = s.setRing host ring { s.ring host ring with state := .error, error := 3, fenced := none, reserved := if (s.ring host ring).fenced.isSome then (s.ring host ring).reserved - 1 else (s.ring host ring).reserved })) ∧
  (∀ (writes : List RegWrite) (h r v : Nat), Completes (.registerWrite · writes) (fun s => writes = [{ host := h, addr := 0x00101000 + 0x40 * r, size := 4, value := v }] ∧ h < 4 ∧ r < 16 ∧ v < 2 ^ 32 ∧ s.answers h = true ∧
      (s.ring h r).state = .disabled) (fun s s' => s' = s.setRing h r { s.ring h r with sqBase := (s.ring h r).sqBase / 2 ^ 32 * 2 ^ 32 + (v &&& 0xFFFFF000) })) ∧
  (∀ (host : Nat) (ring : Nat) (entry : BufRead) (b : Bytes), Completes (.ringEntryFetch · host ring entry) (fun s => s.turnOf host ring = true ∧ entry = .data b ∧ (cmdOf host ring b).fence = false) (fun s s' => s' = (((((s.tookTurn host ring).emit (.sqRead host ((s.ring host ring).sqBase + 64 * (s.ring host ring).sqHead))).setRing host ring
        { s.ring host ring with sqHead := ((s.ring host ring).sqHead + 1) % (s.ring host ring).size }).writeShadow host ring).reserve host ring).startAs
        (cmdOf host ring b) s.dev.mode)) ∧
  (∀ (host : Nat) (ring : Nat) (entry : BufRead), Completes (.ringEntryFetch · host ring entry) (fun s => s.turnOf host ring = true ∧ entry = .failed) (fun s s' => s' = ((s.tookTurn host ring).emit (.sqRead host ((s.ring host ring).sqBase + 64 * (s.ring host ring).sqHead))).setRing host ring { s.ring host ring with state := .error, error := 4, fenced := none, reserved := if (s.ring host ring).fenced.isSome then (s.ring host ring).reserved - 1 else (s.ring host ring).reserved })) ∧
  (∀ (host : Nat) (ring : Nat) (entry : BufRead) (b : Bytes), Completes (.ringEntryFetch · host ring entry) (fun s => s.turnOf host ring = true ∧ entry = .data b ∧ (cmdOf host ring b).fence = true ∧ s.startedOn host ring ≠ 0) (fun s s' => (s'.ring host ring).fenced = some { cmd := cmdOf host ring b, mode := s.dev.mode } ∧ (s'.ring host ring).reserved = (s.ring host ring).reserved + 1 ∧
      (s'.ring host ring).sqHead = ((s.ring host ring).sqHead + 1) % (s.ring host ring).size ∧ s'.host.started = s.host.started)) ∧
  (∀ (host : Nat) (ring : Nat) (entry : BufRead), Completes (.ringEntryFetch · host ring entry) (fun s => s.turnOf host ring = true ∧ entry = .slow) (fun s s' => s' = (s.tookTurn host ring).emit (.sqRead host ((s.ring host ring).sqBase + 64 * (s.ring host ring).sqHead)))) ∧
  (∀ (host : Nat) (ring : Nat), Completes (.hostWriteFailed · host ring) (fun s => (s.ring host ring).state = .active) (fun s s' => s' = s.setRing host ring { s.ring host ring with state := .error, error := 5, fenced := none, reserved := if (s.ring host ring).fenced.isSome then (s.ring host ring).reserved - 1 else (s.ring host ring).reserved })) ∧
  (∀ (host : Nat) (ring : Nat), Completes (.ringDrained · host ring) (fun s => ((s.ring host ring).state = .draining ∨ (s.ring host ring).state = .error) ∧ s.startedOn host ring = 0 ∧ (s.ring host ring).enable = false) (fun s s' => s' = s.setRing host ring { s.ring host ring with state := .disabled }))

/-- DOMAIN_SET and RESOURCE_ASSIGN (R88–R94). -/
def Obligations.DomainCommandsComplete : Prop :=
  (∀ (c : Cmd), Completes (.domainSet · c) (fun s => ready s c 0x0100 .d0 = true ∧ c.host = s.dom.principal ∧ 1 ≤ c.u8 17 ∧ c.u8 17 < 16 ∧ c.zeros 19 45 = none ∧ c.u8 16 = 0 ∧ (s.domain (c.u8 17)).live = false ∧ c.u8 18 < 4) (fun s s' => s' = (s.setDomain (c.u8 17) { live := true, host := some (c.u8 18) }).answer c .ok 0 0 [])) ∧
  (∀ (c : Cmd), Completes (.domainSet · c) (fun s => ready s c 0x0100 .d0 = true ∧ c.host = s.dom.principal ∧ 1 ≤ c.u8 17 ∧ c.u8 17 < 16 ∧ c.zeros 19 45 = none ∧ c.u8 16 = 1 ∧ (s.domain (c.u8 17)).live = true ∧ c.u8 18 = 0) (fun s s' => let x := s.destroyDomain (c.u8 17)
      s' = x.answer c .ok 0 0 [] ∧ (x.domain (c.u8 17)).live = false ∧ (x.domain (c.u8 17)).host = none ∧
      look x.fw.epochs (c.u8 17) 0 = (look s.fw.epochs (c.u8 17) 0 + 1) % 2 ^ 32 ∧
      (∀ h p, (x.window h p).mapped = true → (x.window h p).domain ≠ c.u8 17) ∧
      (∀ l, x.dom.lock = some l → l.domain ≠ c.u8 17) ∧ ∀ ty id, x.owner ty id ≠ c.u8 17)) ∧
  (∀ (c : Cmd), Completes (.domainSet · c) (fun s => ready s c 0x0100 .d0 = true ∧ c.host = s.dom.principal ∧ 1 ≤ c.u8 17 ∧ c.u8 17 < 16 ∧ c.zeros 19 45 = none ∧ c.u8 16 = 2 ∧ (s.domain (c.u8 17)).live = true ∧ c.u8 18 < 4 ∧ (s.domain (c.u8 17)).host ≠ some (c.u8 18)) (fun s s' => let x := s.moveDomain (c.u8 17) (c.u8 18)
      s' = x.answer c .ok 0 0 [] ∧ x.domain (c.u8 17) = { s.domain (c.u8 17) with host := some (c.u8 18) } ∧
      (∀ d, d ≠ c.u8 17 → x.domain d = s.domain d) ∧ x.dom.owner = s.dom.owner ∧
      ∀ l, x.dom.lock = some l → l.domain ≠ c.u8 17)) ∧
  (∀ (c : Cmd), Completes (.domainSet · c) (fun s => ready s c 0x0100 .d0 = true ∧ c.host = s.dom.principal ∧ 1 ≤ c.u8 17 ∧ c.u8 17 < 16 ∧ c.zeros 19 45 = none ∧ c.u8 16 = 2 ∧ (s.domain (c.u8 17)).live = true ∧ c.u8 18 < 4 ∧ (s.domain (c.u8 17)).host = some (c.u8 18)) (fun s s' => s' = s.answer c .ok 0 0 [])) ∧
  (∀ (c : Cmd), Completes (.resourceAssign · c) (fun s => ready s c 0x0101 .d0 = true ∧ firstErr (resourceAssignErrs c s) = none) (fun s s' => let x := each (State.assign (c.u8 16) (c.u8 17) (c.u8 18 = 1)) (rangeOf (c.u32 20) (c.u32 24)) s
      s' = x.answer c .ok 0 0 [] ∧ ∀ id, c.u32 20 ≤ id → id < c.u32 20 + c.u32 24 → x.owner (c.u8 16) id = c.u8 17)) ∧
  (∀ (c : Cmd), Completes (.resourceAssign · c) (fun s => ready s c 0x0101 .d0 = true ∧ c.host = s.dom.principal ∧ c.u8 17 < 16 ∧ (s.domain (c.u8 17)).live = true ∧ c.u8 18 = 0 ∧ c.zeros 19 1 = none ∧
      1 ≤ c.u32 24 ∧ c.u32 20 + c.u32 24 ≤ resourceRange (c.u8 16) ∧ c.zeros 28 36 = none ∧ (c.u8 16 = 1 ∨ c.u8 16 = 2 ∨ c.u8 16 = 3 ∨ c.u8 16 = 6)) (fun s s' => ∃ x : State, (∀ ty id, id < 2 ^ 24 → x.owner ty id =
        if ty = c.u8 16 ∧ c.u32 20 ≤ id ∧ id < c.u32 20 + c.u32 24 then c.u8 17 else s.owner ty id) ∧
      x = { s with dom := { s.dom with owner := x.dom.owner } } ∧ s' = x.answer c .ok 0 0 [])) ∧
  (∀ (c : Cmd), Completes (.resourceAssign · c) (fun s => ready s c 0x0101 .d0 = true ∧ c.host = s.dom.principal ∧ c.u8 17 < 16 ∧ (s.domain (c.u8 17)).live = true ∧ c.u8 18 = 0 ∧ c.zeros 19 1 = none ∧
      1 ≤ c.u32 24 ∧ c.u32 20 + c.u32 24 ≤ resourceRange (c.u8 16) ∧ c.zeros 28 36 = none ∧ c.u8 16 = 8 ∧ c.u32 24 = 1 ∧ s.owner 8 (c.u32 20) ≠ c.u8 17) (fun s s' => ∃ x : State, x.owner 8 (c.u32 20) = c.u8 17 ∧ (x.key (c.u32 20)).kind = 0 ∧ (∀ a, a ≠ c.u32 20 → x.key a = s.key a) ∧ s' = x.answer c .ok 0 0 []))

/-- Principal succession (R96–R99). -/
def Obligations.SuccessionCompletes : Prop :=
  (∀ (c : Cmd), Completes (.principalSet · c) (fun s => ready s c 0x0102 .d0 = true ∧ c.host = s.dom.principal ∧ c.zeros 21 3 = none ∧ c.zeros 28 36 = none ∧ c.u8 16 = 0 ∧ c.u8 17 < 4 ∧ c.u8 17 ≠ c.host ∧ c.zeros 18 3 = none ∧ c.zeros 24 4 = none ∧ (s.hostPort (c.u8 17)).link = true ∧
      (s.domain 0).host ≠ some (c.u8 17) ∧ s.dom.valid = true) (fun s s' => ∃ x : State, x.dom.principal = c.u8 17 ∧ x.dom.valid = true ∧ (x.domain 0).host = some (c.u8 17) ∧ x.dom.changeSeq = (s.dom.changeSeq + 1) % 256 ∧
      x.dom.beat = s.now ∧ (∀ d, d ≠ 0 → x.domain d = s.domain d) ∧ s' = x.answer c .ok 0 0 [])) ∧
  (∀ (c : Cmd), Completes (.principalSet · c) (fun s => ready s c 0x0102 .d0 = true ∧ c.host = s.dom.principal ∧ c.zeros 21 3 = none ∧ c.zeros 28 36 = none ∧ c.u8 16 = 0 ∧ c.u8 17 < 4 ∧ c.u8 17 ≠ c.host ∧ c.zeros 18 3 = none ∧ c.zeros 24 4 = none ∧ (s.hostPort (c.u8 17)).link = true ∧ s.dom.valid = false) (fun s s' => s'.dom.principal = c.u8 17 ∧ s'.dom.valid = true ∧ s'.dom.orphans = [] ∧ (∀ d ∈ s.dom.orphans, s'.domain d = { s.domain d with host := some (c.u8 17) }) ∧ (∀ d, d ∉ s.dom.orphans → s'.domain d = s.domain d))) ∧
  (∀ (c : Cmd), Completes (.principalSet · c) (fun s => ready s c 0x0102 .d0 = true ∧ c.host = s.dom.principal ∧ c.zeros 21 3 = none ∧ c.zeros 28 36 = none ∧ c.u8 16 = 1 ∧ c.u8 17 = 0 ∧ firstErr (successorErrs c) = none ∧ c.zeros 24 4 = none) (fun s s' => s' = { s with dom := { s.dom with successors := [c.u8 18, c.u8 19, c.u8 20].filter fun h => h ≠ 0xFF } }.answer c .ok 0 0 [])) ∧
  (∀ (c : Cmd), Completes (.principalSet · c) (fun s => ready s c 0x0102 .d0 = true ∧ c.host = s.dom.principal ∧ c.zeros 21 3 = none ∧ c.zeros 28 36 = none ∧ c.u8 16 = 2 ∧ c.u8 17 = 0 ∧ c.zeros 18 3 = none ∧ (c.u32 24 = 0 ∨ (10 ≤ c.u32 24 ∧ c.u32 24 ≤ 10000))) (fun s s' => s' = { s with dom := { s.dom with timeoutMs := c.u32 24, beat := s.now } }.answer c .ok 0 0 [])) ∧
  (∀ (host : Nat) (value : Nat), Completes (.secHeartbeat · host value) (fun s => s.answers host = true ∧ s.dom.valid = true ∧ host = s.dom.principal) (fun s s' => s' = { s with dom := { s.dom with beat := s.now } })) ∧
  (∀ (h : Nat), Completes (.heartbeatTimeout ·) (fun s => s.pending.any s.restartsBeat = false ∧ s.dom.valid = true ∧ s.dom.timeoutMs ≠ 0 ∧ s.dom.beat + ms s.dom.timeoutMs ≤ s.now ∧ (h < 4 ∧ h ≠ s.dom.principal ∧ (s.hostPort h).link = true ∧ ∃ a b, s.dom.successors = a ++ h :: b ∧
      ∀ k, k ∈ a → k = s.dom.principal ∨ (s.hostPort k).link = false)) (fun s s' => s'.dom.principal = h ∧ s'.dom.valid = true ∧ s'.dom.changeSeq = (s.dom.changeSeq + 1) % 256 ∧ s'.dom.orphans = [] ∧
      (∀ d, d < 16 → s.holds s.dom.principal d = true → s'.holds h d = true) ∧ (∀ d, d < 16 → s'.holds s.dom.principal d = false) ∧
      (∀ l, s'.dom.lock = some l → l.host ≠ s.dom.principal))) ∧
  (Completes (.heartbeatTimeout ·) (fun s => s.pending.any s.restartsBeat = true) (fun s s' => s' = s)) ∧
  (Completes (.heartbeatTimeout ·) (fun s => s.pending.any s.restartsBeat = false ∧ s.dom.valid = true ∧ s.dom.timeoutMs ≠ 0 ∧ s.dom.beat + ms s.dom.timeoutMs ≤ s.now ∧ s.dom.successors.all (fun h => h = s.dom.principal || !(s.hostPort h).link) = true) (fun s s' => s'.dom.principal = s.dom.principal ∧ s'.dom.valid = false ∧ s'.dom.changeSeq = (s.dom.changeSeq + 1) % 256 ∧
      (∀ h d, d < 16 → s'.holds h d = (s.holds h d && !s.holds s.dom.principal d)) ∧
      s'.dom.orphans = (List.range 16).filter (fun d => s.holds s.dom.principal d))) ∧
  (∀ (h : Nat), Completes (.principalRecheck ·) (fun s => s.dom.valid = false ∧ s.dom.successors ≠ [] ∧ s.dom.timeoutMs ≠ 0 ∧ s.dom.beat + ms s.dom.timeoutMs ≤ s.now ∧ (h < 4 ∧ h ≠ s.dom.principal ∧ (s.hostPort h).link = true ∧ ∃ a b, s.dom.successors = a ++ h :: b ∧
      ∀ k, k ∈ a → k = s.dom.principal ∨ (s.hostPort k).link = false)) (fun s s' => s'.dom.principal = h ∧ s'.dom.valid = true ∧ s'.dom.changeSeq = (s.dom.changeSeq + 1) % 256 ∧ s'.dom.orphans = [] ∧
      (∀ d, d ∈ s.dom.orphans → (s'.domain d).host = some h) ∧ (∀ d, d ∉ s.dom.orphans → s'.domain d = s.domain d))) ∧
  (Completes (.principalRecheck ·) (fun s => s.dom.valid = false ∧ s.dom.successors ≠ [] ∧ s.dom.timeoutMs ≠ 0 ∧ s.dom.beat + ms s.dom.timeoutMs ≤ s.now ∧ s.dom.successors.all (fun h => h = s.dom.principal || !(s.hostPort h).link) = true) (fun s s' => s' = { s with dom := { s.dom with beat := s.now } }))

/-- The key lock (R103, R104). -/
def Obligations.KeyLockCompletes : Prop :=
  (∀ (writes : List RegWrite) (h d : Nat), Completes (.keyLockClaim · writes) (fun s => s.answers h = true ∧ h < 4 ∧ d < 16 ∧ writes = [{ host := h, addr := 0x00200010, size := 4, value := 0x40000000 + d }] ∧ (∀ l, s.dom.lock = some l → s.now < l.deadline) ∧ s.holds h d = false) (fun s s' => s' = s.keyResult h 0x02)) ∧
  (∀ (writes : List RegWrite) (h d : Nat), Completes (.keyLockClaim · writes) (fun s => s.answers h = true ∧ h < 4 ∧ d < 16 ∧ writes = [{ host := h, addr := 0x00200010, size := 4, value := 0x40000000 + d }] ∧ s.dom.lock = none ∧ s.holds h d = true) (fun s s' => s' = { s with dom := { s.dom with lock := some { host := h, domain := d, deadline := s.now + ms 10 } } }.keyResult h 0)) ∧
  (∀ (writes : List RegWrite) (h d : Nat) (l : KeyLock), Completes (.keyLockClaim · writes) (fun s => s.answers h = true ∧ h < 4 ∧ d < 16 ∧ writes = [{ host := h, addr := 0x00200010, size := 4, value := 0x40000000 + d }] ∧ s.dom.lock = some l ∧ s.now < l.deadline ∧ l.host = h ∧ l.domain = d ∧ s.holds h d = true) (fun s s' => s' = { s with dom := { s.dom with lock := some { host := h, domain := d, deadline := s.now + ms 10 } } }.keyResult h 0)) ∧
  (∀ (writes : List RegWrite) (h d : Nat) (l : KeyLock), Completes (.keyLockClaim · writes) (fun s => s.answers h = true ∧ h < 4 ∧ d < 16 ∧ writes = [{ host := h, addr := 0x00200010, size := 4, value := 0x40000000 + d }] ∧ s.dom.lock = some l ∧ s.now < l.deadline ∧ (l.host ≠ h ∨ l.domain ≠ d) ∧ s.holds h d = true) (fun s s' => s' = s.keyResult h 0x0A)) ∧
  (∀ (writes : List RegWrite) (h d k f : Nat), Completes (.keyLockClaim · writes) (fun s => writes = [{ host := h, addr := 0x00200010, size := 4, value := 0x40000000 + d },
        { host := k, addr := 0x00200010, size := 4, value := 0x40000000 + f }] ∧ k < h ∧ h < 4 ∧ d < 16 ∧ f < 16 ∧
      s.answers h = true ∧ s.answers k = true ∧ s.dom.lock = none ∧ s.holds h d = true ∧ s.holds k f = true) (fun s s' => s'.dom.lock = some { host := k, domain := f, deadline := s.now + ms 10 } ∧ (s'.hostPort h).keyResult = 0x0A ∧ (s'.hostPort k).keyResult = 0)) ∧
  (∀ (host : Nat) (value : Nat) (l : KeyLock), Completes (.keyLockRelease · host value) (fun s => s.answers host = true ∧ bits value 31 30 = 2 ∧ s.dom.lock = some l ∧ s.now < l.deadline ∧ l.host = host) (fun s s' => s' = { s with dom := { s.dom with lock := none } }.keyResult host 0)) ∧
  (∀ (host : Nat) (value : Nat) (l : KeyLock), Completes (.keyLockRelease · host value) (fun s => s.answers host = true ∧ bits value 31 30 = 2 ∧ s.dom.lock = some l ∧ s.now < l.deadline ∧ l.host ≠ host) (fun s s' => s' = s.keyResult host 0x0A)) ∧
  (∀ (l : KeyLock), Completes (.keyLockExpired ·) (fun s => s.dom.lock = some l ∧ l.deadline ≤ s.now) (fun s s' => s' = { s with dom := { s.dom with lock := none } }.event 0x01F2 l.domain 0 0 (fun h => h = l.host)))

/-- KEY_INFO, KEY_IMPORT, KEY_EXPORT and KEY_DESTROY (R100–R103). -/
def Obligations.KeyCommandsComplete : Prop :=
  (∀ (c : Cmd), Completes (.keyInfo · c) (fun s => ready s c 0x0110 .any = true ∧ firstErr [c.needReply, c.zeros 16 48] = none) (fun s s' => s' = s.answer c .ok 0 112 ((List.range 97).map Config.tkPublic ++ List.replicate 7 0 ++ leBytes 8 Config.unitId.toNat))) ∧
  (∀ (c : Cmd) (b : BufRead), Completes (.keyImport · c b) (fun s => ready s c 0x0111 .any = true ∧ s.ownsRange c.domain 8 (c.u32 28) 1 = true ∧ (∃ l, s.lockNow = some l ∧ l.host = c.host ∧ l.domain = c.domain) ∧ c.bufferErr = none ∧ (c.u32 24 = 144 ∧ c.u8 32 = 1 ∨ c.u32 24 = 56 ∧ c.u8 32 = 2) ∧
      c.zeros 33 31 = none ∧ b.err = none ∧ firstErr (s.blobErrs c (b.bytes c)).dropLast = none) (fun s s' => (∀ k, s.unwrap c (b.bytes c) = some k → ∃ x : State, (∀ a, x.key a = if a = c.u32 28 then { kind := byteAt (b.bytes c) 2, key := k } else s.key a) ∧
        x = { s with dom := { s.dom with keys := x.dom.keys } } ∧ s' = x.answer c .ok 0 0 []) ∧
      (s.unwrap c (b.bytes c) = none → s' = s.answer c .invalidParam (0x02000000 + if c.u8 32 = 2 then 16 else 104) 0 []))) ∧
  (∀ (c : Cmd) (h : Bytes), Completes (.keyExport · c) (fun s => ready s c 0x0112 .any = true ∧ c.needReply = none ∧ s.ownsRange c.domain 8 (c.u32 16) 1 = true ∧ (∃ l, s.lockNow = some l ∧ l.host = c.host ∧ l.domain = c.domain) ∧ c.zeros 20 44 = none ∧ h = blobHeader (s.key (c.u32 16)).kind c.domain (look s.fw.epochs c.domain 0) ∧ (s.key (c.u32 16)).kind ≠ 0) (fun s s' => s' = s.answer c .ok 0 56 (h ++ keyWrap (storageKek h) (s.key (c.u32 16)).bytes ++ List.replicate (40 - wrappedLen (s.key (c.u32 16)).kind) 0))) ∧
  (∀ (c : Cmd), Completes (.keyDestroy · c) (fun s => ready s c 0x0113 .any = true ∧ 1 ≤ c.u32 20 ∧ s.ownsRange c.domain 8 (c.u32 16) (c.u32 20) = true ∧ (∃ l, s.lockNow = some l ∧ l.host = c.host ∧ l.domain = c.domain) ∧ c.u32 20 ≤ 65536 ∧ c.zeros 24 40 = none) (fun s s' => ∃ x : State, (∀ a, x.key a = if c.u32 16 ≤ a ∧ a < c.u32 16 + c.u32 20 then {} else s.key a) ∧ s' = x.answer c .ok 0 (c.u32 20) [])) ∧
  (∀ (c : Cmd) (b : BufRead), Completes (.keyImport · c b) (fun s => ready s c 0x0111 .any = true ∧ s.ownsRange c.domain 8 (c.u32 28) 1 = false) (fun s s' => s' = s.answer c .denied 0 0 [])) ∧
  (∀ (c : Cmd) (b : BufRead), Completes (.keyImport · c b) (fun s => ready s c 0x0111 .any = true ∧ s.ownsRange c.domain 8 (c.u32 28) 1 = true ∧ s.locks c = false ∧ (s.startedAs c).any (fun x => x.locked) = false) (fun s s' => s' = s.answer c .locked 0 0 [])) ∧
  (∀ (c : Cmd), Completes (.keyExport · c) (fun s => ready s c 0x0112 .any = true ∧ c.needReply = none ∧ s.ownsRange c.domain 8 (c.u32 16) 1 = false) (fun s s' => s' = s.answer c .denied 0 0 [])) ∧
  (∀ (c : Cmd), Completes (.keyExport · c) (fun s => ready s c 0x0112 .any = true ∧ c.needReply = none ∧ s.ownsRange c.domain 8 (c.u32 16) 1 = true ∧ s.locks c = false ∧ (s.startedAs c).any (fun x => x.locked) = false) (fun s s' => s' = s.answer c .locked 0 0 [])) ∧
  (∀ (c : Cmd), Completes (.keyDestroy · c) (fun s => ready s c 0x0113 .any = true ∧ s.ownsRange c.domain 8 (c.u32 16) (max 1 (c.u32 20)) = false) (fun s s' => s' = s.answer c .denied 0 0 [])) ∧
  (∀ (c : Cmd), Completes (.keyDestroy · c) (fun s => ready s c 0x0113 .any = true ∧ s.ownsRange c.domain 8 (c.u32 16) (max 1 (c.u32 20)) = true ∧ s.locks c = false ∧ (s.startedAs c).any (fun x => x.locked) = false) (fun s s' => s' = s.answer c .locked 0 0 []))

/-- DEBUG_AUTH and the JTAG port (R105–R108). -/
def Obligations.DebugCompletes : Prop :=
  (∀ (c : Cmd) (b : BufRead), Completes (.debugAuth · c b) (fun s => ready s c 0x0120 .d0 = true ∧ c.host = s.dom.principal ∧ c.zeros 29 35 = none ∧ c.u8 28 = 0 ∧ c.bufferErr = none ∧ c.u32 24 = 128 ∧ s.sessionBusy = false ∧ b.err = none) (fun s s' => let x (b : Bytes) : Session := { viaHost := true, signer := byteAt b 1, scope := leAt b 2 2, mask := leAt b 4 2, deadline := 0 }
      (firstErr (s.tokenErrs (b.bytes c)) = none → bit (leAt (b.bytes c) 2 2) 4 = false → ∃ x : State,
        x.dom.session = some { viaHost := true, signer := byteAt (b.bytes c) 1, scope := leAt (b.bytes c) 2 2, mask := leAt (b.bytes c) 4 2, deadline := s.now + ms (1000 * leAt (b.bytes c) 6 2) } ∧
        x.dom.nonce = Config.freeValue s.free % 2 ^ 64 ∧ x.dom.keys = s.dom.keys ∧ s' = x.answer c .ok 0 0 []) ∧
      (firstErr (s.tokenErrs (b.bytes c)) = none → bit (leAt (b.bytes c) 2 2) 4 = true →
        (s.dataPlaneOn = false → s' = (s.drawNonce.openSession (x (b.bytes c)) (leAt (b.bytes c) 6 2)).answer c .ok 0 0 []) ∧
        (s.dataPlaneOn = true → s' = (s.drawNonce.beginHold fun h => { h with scan := some { cmd := some c, session := x (b.bytes c), seconds := leAt (b.bytes c) 6 2 } }).keepWorking c)) ∧
      (∀ e, firstErr (s.tokenErrs (b.bytes c)) = some e → s' = s.drawNonce.answer c e.status e.detail 0 []))) ∧
  (∀ (c : Cmd) (b : BufRead) (x : Session), Completes (.debugAuth · c b) (fun s => ready s c 0x0120 .d0 = true ∧ c.host = s.dom.principal ∧ c.zeros 29 35 = none ∧ c.u8 28 = 1 ∧ s.dom.session = some x) (fun s s' => ∃ y : State, y.dom.session = none ∧ y = ({ s with dom := { s.dom with session := none } }).sessionEvent x false ∧ s' = y.answer c .ok 0 0 [])) ∧
  (∀ (token : Bytes), Completes (.jtagToken · token) (fun s => s.sessionBusy = true) (fun s s' => s' = s.emit (.jtag Status.busy.code))) ∧
  (∀ (token : Bytes), Completes (.jtagToken · token) (fun s => s.sessionBusy = false) (fun s s' => (firstErr (s.tokenErrs token) = none → bit (leAt token 2 2) 4 = false →
        s'.dom.session = some { viaHost := false, signer := byteAt token 1, scope := leAt token 2 2, mask := leAt token 4 2, deadline := s.now + ms (1000 * leAt token 6 2) } ∧
        s'.dom.keys = s.dom.keys) ∧
      (firstErr (s.tokenErrs token) = none → bit (leAt token 2 2) 4 = true → s.dataPlaneOn = true → s' = s.drawNonce.beginHold fun h => { h with scan := some {
        cmd := none, session := { viaHost := false, signer := byteAt token 1, scope := leAt token 2 2, mask := leAt token 4 2, deadline := 0 }, seconds := leAt token 6 2 } }) ∧
      (∀ e, firstErr (s.tokenErrs token) = some e → s' = s.drawNonce.emit (.jtag e.status.code)))) ∧
  (∀ (j : JtagInstr), Completes (.jtagInstruction · j) (fun _ => j = .bypass) (fun s s' => s' = s.emit (.jtag 0))) ∧
  (∀ (j : JtagInstr) (n : Nat) (p : Bytes), Completes (.jtagInstruction · j) (fun s => (j = .other n ∨ j = .thread p) ∧ s.jtagOpen = false) (fun s s' => s' = s)) ∧
  (∀ (j : JtagInstr) (a : Nat), Completes (.jtagInstruction · j) (fun s => j = .regRead a ∧ (s.granted false 0 || s.granted false 5) = true) (fun s s' => s' = s.emit (.jtag (if a % 4 = 0 then s.regWord jtagReader a else 0)))) ∧
  (∀ (j : JtagInstr) (p : Bytes), Completes (.jtagInstruction · j) (fun s => j = .thread p ∧ s.jtagOpen = true) (fun s s' => s' = s.jtagThread p)) ∧
  (∀ (j : JtagInstr), Completes (.jtagInstruction · j) (fun _ => (j = .idcode ∨ j = .samplePreload)) (fun s s' => s' = s.drawn.emit (.jtag (Config.freeValue s.free)))) ∧
  (∀ (j : JtagInstr) (a v : Nat), Completes (.jtagInstruction · j) (fun _ => j = .regWrite a v) (fun s s' => s' = s)) ∧
  (∀ (x : Session), Completes (.debugSessionExpire ·) (fun s => s.dom.session = some x ∧ x.deadline ≤ s.now) (fun s s' => s'.dom.session = none ∧ s' = ({ s with dom := { s.dom with session := none } }).sessionEvent x false))

/-- The port commands (R124–R127, R116, R118). -/
def Obligations.PortCommandsComplete : Prop :=
  (∀ (c : Cmd), Completes (.portMap · c) (fun s => ready s c 0x0200 .d0 = true ∧ firstErr (portMapErrs c s) = none ∧ c.u8 17 ≠ 0) (fun s s' => (s'.port (c.u8 16)).personality = personalityOf (c.u8 17) ∧ (s'.port (c.u8 16)).firstLane = c.u8 18 ∧ (s'.port (c.u8 16)).laneCount = c.u8 19 ∧
      (s'.port (c.u8 16)).laneRate = c.u8 20 ∧ (s'.port (c.u8 16)).fec = c.u8 21 ∧ (s'.port (c.u8 16)).tree = c.u8 22 ∧ (s'.port (c.u8 16)).ponType = c.u8 23 ∧
      (s'.port (c.u8 16)).cfg = (s.port (c.u8 16)).cfg ∧ (∀ p, p ≠ c.u8 16 → s'.port p = s.port p))) ∧
  (∀ (c : Cmd), Completes (.portMap · c) (fun s => ready s c 0x0200 .d0 = true ∧ firstErr (portMapErrs c s) = none ∧ c.u8 17 = 0) (fun s s' => (s'.port (c.u8 16)).personality = .none ∧ (s'.port (c.u8 16)).lanes = [] ∧ (∀ p, p ≠ c.u8 16 → s'.port p = s.port p))) ∧
  (∀ (c : Cmd), Completes (.portConfig · c) (fun s => ready s c 0x0201 .any = true ∧ firstErr (portConfigErrs c s) = none ∧ c.u8 19 = 0 ∧ c.u8 17 = 1 ∧ (s.port (c.u8 16)).enable = false ∧ (s.port (c.u8 16)).state = .disabled ∧ s.laneDown (c.u8 16) = false) (fun s s' => (s'.port (c.u8 16)).state = .training ∧ (s'.port (c.u8 16)).enable = true ∧ (s'.port (c.u8 16)).trainStart = s.now ∧
      (s'.port (c.u8 16)).cfg.maxFrame = c.u16 20 ∧ (s'.port (c.u8 16)).cfg = portCfgOf c)) ∧
  (∀ (c : Cmd), Completes (.portConfig · c) (fun s => ready s c 0x0201 .any = true ∧ firstErr (portConfigErrs c s) = none ∧ c.u8 19 = 0 ∧ c.u8 17 = 0 ∧ (s.port (c.u8 16)).enable = true ∧ (s.port (c.u8 16)).state = .up) (fun s s' => (s'.port (c.u8 16)).state = .disabled ∧ (s'.port (c.u8 16)).enable = false ∧
      look (s'.port (c.u8 16)).counters 12 0 = (look (s.port (c.u8 16)).counters 12 0 + 1) % 2 ^ 64)) ∧
  (∀ (c : Cmd), Completes (.laneConfig · c) (fun s => ready s c 0x0202 .d0 = true ∧ c.u8 17 ≤ 3 ∧ ((laneTaps c).map Int.natAbs).sum ≤ 64 ∧ c.zeros 23 41 = none ∧ s.healthy 0x0A (c.u8 16) = true) (fun s s' => s' = (s.setLane (c.u8 16) { s.lane (c.u8 16) with invert := c.u8 17, taps := (laneTaps c).map (unsigned 8) }).answer c .ok 0 0 [])) ∧
  (∀ (c : Cmd), Completes (.portStats · c) (fun s => ready s c 0x0203 .any = true ∧ c.needReply = none ∧ s.owns c.domain 1 (c.u8 16) = true ∧ c.u8 17 ≤ 1 ∧ c.zeros 18 46 = none) (fun s s' => s' = (if c.u8 17 = 1 then s.setPort (c.u8 16) { s.port (c.u8 16) with counters := [] } else s).answer c .ok 0 128
        ((List.range 16).flatMap fun i => leBytes 8 (look (s.port (c.u8 16)).counters i 0))))

/-- Link states and PFC receipt (R117–R123). -/
def Obligations.PortLinkCompletes : Prop :=
  (∀ (port : Nat), Completes (.portUp · port) (fun s => ((s.port port).state = .training ∨ (s.port port).state = .faultLocal ∨ (s.port port).state = .faultRemote) ∧ s.portClear port = true ∧ (s.port port).farFault = false) (fun _ s' => (s'.port port).state = .up ∧ (s'.port port).cause = 0)) ∧
  (∀ (port : Nat), Completes (.portUp · port) (fun s => (s.port port).state = .faultLocal ∧ s.portClear port = true ∧ (s.port port).farFault = true) (fun _ s' => (s'.port port).state = .faultRemote ∧ (s'.port port).cause = 4)) ∧
  (∀ (port : Nat), Completes (.linkTrainingRestart · port) (fun s => (s.port port).state = .training ∧ (s.port port).cfg.linkTraining = true ∧ (s.port port).trainStart + ms 1000 ≤ s.now) (fun s s' => s' = s.setPort port { s.port port with trainStart := s.now, counters := bump (s.port port).counters 14 1 })) ∧
  (∀ (lane : Nat) (alignment : Bool) (p : Nat), Completes (.laneSignalLoss · lane alignment) (fun s => lane < 256 ∧ alignment = false ∧ s.portOfLane lane = some p ∧ (s.port p).personality ≠ .pon ∧ (s.port p).state = .up ∧ (s.port p).cfg.downFlush = false ∧ (s.port p).conds = []) (fun s s' => (s'.lane lane).signalLost = true ∧ (s'.port p).state = .faultLocal ∧ (s'.port p).cause = 1 ∧ (s'.port p).conds = [1] ∧
      look (s'.port p).counters 12 0 = (look (s.port p).counters 12 0 + 1) % 2 ^ 64)) ∧
  (∀ (lane : Nat) (alignment : Bool) (p : Nat), Completes (.laneSignalLoss · lane alignment) (fun s => lane < 256 ∧ s.portOfLane lane = some p ∧ (s.port p).personality = .pon) (fun s s' => s' = s.setLane lane (if alignment = true then { s.lane lane with alignLost := true } else { s.lane lane with signalLost := true }) ∧ s'.port p = s.port p)) ∧
  (∀ (port : Nat), Completes (.remoteFaultReceived · port) (fun s => (s.port port).personality = .ethernet ∧ (s.port port).state = .up ∧ (s.port port).cfg.downFlush = false) (fun _ s' => (s'.port port).state = .faultRemote ∧ (s'.port port).cause = 4)) ∧
  (∀ (port : Nat) (corrected : Nat) (uncorrected : Nat), Completes (.fecDegradeInterval · port corrected uncorrected) (fun s => (s.port port).personality = .ethernet ∧ (s.port port).state = .up ∧ (s.port port).cfg.fecDegradeCw ≠ 0 ∧ (s.port port).cfg.fecDegradeCw < uncorrected ∧
      (s.port port).cfg.downFlush = false) (fun s s' => (s'.port port).state = .faultLocal ∧ (s'.port port).cause = 5 ∧ (s'.port port).berAlarm = true ∧
      look (s'.port port).counters 11 0 = (look (s.port port).counters 11 0 + uncorrected) % 2 ^ 64)) ∧
  (∀ (port : Nat) (corrected : Nat) (uncorrected : Nat), Completes (.fecDegradeInterval · port corrected uncorrected) (fun s => (s.port port).personality = .ethernet ∧ uncorrected ≤ (s.port port).cfg.fecDegradeCw ∧ (s.port port).conds = [5]) (fun s s' => (s'.port port).state = (s.port port).state ∧ (s'.port port).berAlarm = false ∧ (s'.port port).conds = [] ∧ (s'.port port).clearSince = s.now)) ∧
  (∀ (port : Nat) (cond : PortCond), Completes (.portConditionCleared · port cond) (fun s => cond = .remoteFault ∧ (s.port port).conds = [4] ∧ (s.port port).state ≠ .faultLocal) (fun s s' => (s'.port port).conds = [] ∧ (s'.port port).clearSince = s.now ∧ (s'.port port).state = (s.port port).state)) ∧
  (∀ (lane : Nat) (p : Nat), Completes (.laneFail · lane) (fun s => lane < 256 ∧ s.isOut 0x0A lane = false ∧ s.portOfLane lane = some p ∧ ((s.port p).state = .up ∨ (s.port p).state = .training ∨ (s.port p).state = .faultLocal) ∧
      (s.port p).cfg.downFlush = false) (fun _ s' => s'.isOut 0x0A lane = true ∧ (s'.port p).state = .faultLocal ∧ (s'.port p).cause = 3)) ∧
  (∀ (quad : Nat), Completes (.quadFail · quad) (fun s => quad < 64 ∧ (s.lane (4 * quad)).quadOut = false) (fun _ s' => ∀ l, 4 * quad ≤ l → l < 4 * quad + 4 → s'.isOut 0x0A l = true ∧ (s'.lane l).quadOut = true)) ∧
  (∀ (port : Nat) (enable : Nat) (quanta : List Nat), Completes (.pfcFrameReceive · port enable quanta) (fun s => (s.port port).state = .up ∧ (s.port port).personality = .ethernet) (fun s s' => look (s'.port port).counters 5 0 = (look (s.port port).counters 5 0 + 1) % 2 ^ 64 ∧ ∀ k, k < 8 → look (s'.port port).paused k 0 =
        if bit enable k && bit (s.port port).cfg.pfcRx k then
          (if (quanta[k]?).getD 0 = 0 then 0 else s.now + (s.port port).pauseTime ((quanta[k]?).getD 0))
        else look (s.port port).paused k 0)) ∧
  (∀ (port : Nat) (enable : Nat) (quanta : List Nat), Completes (.pfcFrameReceive · port enable quanta) (fun s => (s.port port).state ≠ .up) (fun s s' => s' = s)) ∧
  (∀ (port : Nat) (cls : Nat), Completes (.pfcPauseExpire · port cls) (fun s => look (s.port port).paused cls 0 ≤ s.now) (fun s s' => look (s'.port port).paused cls 0 = 0 ∧ (s'.port port).state = (s.port port).state))

/-- The ELI commands (R134, R137, R150, R154). -/
def Obligations.EliCommandsComplete : Prop :=
  (∀ (c : Cmd), Completes (.eliConfig · c) (fun s => ready s c 0x0300 .any = true ∧ firstErr (eliPortErrs c s 16) = none ∧ c.u8 17 ≤ 1 ∧ 1 ≤ c.u8 18 ∧ c.u8 18 ≤ c.u8 19 ∧ c.u8 19 ≤ 128 ∧
      1 ≤ c.u8 20 ∧ c.u8 20 ≤ 128 ∧ c.zeros 21 43 = none ∧ eliLaneErr s (c.u8 16) = none) (fun s s' => s' = (s.setEli (c.u8 16) { s.eliPort (c.u8 16) with nextCfg := some { follow := c.u8 17 = 1, capMin := c.u8 18, capMax := c.u8 19, fixedCap := c.u8 20 } }).answer c .ok 0 0 [])) ∧
  (∀ (c : Cmd), Completes (.eliSlotmap · c) (fun s => ready s c 0x0301 .any = true ∧ firstErr (eliPortErrs c s 16) = none ∧ c.zeros 17 3 = none ∧
      firstOf (fun i => at_ (20 + i / 4) (slotType c i = 3 || !s.slotInGroup (c.u8 16) i)) (List.range 128) = none ∧ c.zeros 52 12 = none ∧
      eliLaneErr s (c.u8 16) = none) (fun s s' => ∃ m : Sparse Nat, (∀ i, i < 128 → look m i 0 = bits (c.u8 (20 + i / 4)) (2 * (i % 4) + 1) (2 * (i % 4))) ∧
      s' = (s.setEli (c.u8 16) { s.eliPort (c.u8 16) with nextTypes := some m, nextRx := some m }).answer c .ok 0 0 [])) ∧
  (∀ (c : Cmd), Completes (.eliExpress · c) (fun s => ready s c 0x0302 .any = true ∧ firstErr (expressErrs c s) = none ∧ c.u8 16 = 0) (fun s s' => s' = (s.setExpress (c.u8 19 * 128 + c.u8 17)
        { live := true, src := c.u8 18, srcFirst := c.u8 20, dstFirst := c.u8 21, count := c.u8 22 }).answer c .ok 0 0 [])) ∧
  (∀ (c : Cmd), Completes (.eliExpress · c) (fun s => ready s c 0x0302 .any = true ∧ firstErr (expressErrs c s) = none ∧ c.u8 16 = 1) (fun s s' => s' = (s.setExpress (c.u8 19 * 128 + c.u8 17) {}).answer c .ok 0 0 [])) ∧
  (∀ (c : Cmd), Completes (.eliCounters · c) (fun s => ready s c 0x0303 .any = true ∧ c.needReply = none ∧ firstErr (eliPortErrs c s 16) = none ∧ c.u8 17 ≤ 1 ∧ c.zeros 18 46 = none ∧ eliLaneErr s (c.u8 16) = none) (fun s s' => s' = (if c.u8 17 = 1 then s.setEli (c.u8 16) { s.eliPort (c.u8 16) with counters := [] } else s).answer c .ok 0 64
        ((List.range 8).flatMap fun i => leBytes 8 (look (s.eliPort (c.u8 16)).counters i 0))))

/-- The receive direction of an ELI port (R130, R133, R138, R152) and capacity following (R142–R148). -/
def Obligations.EliReceiveCompletes : Prop :=
  (∀ (port : Nat) (lane : Nat) (m : LaneMarker), Completes (.eliLaneMarker · port lane m) (fun s => (s.port port).personality = .eli ∧ (s.port port).enable = true ∧ lane < 8 ∧ m.pattern = 0xC61F935A2D78 ∧ m.lane + m.laneInv = 255 ∧ m.lineBits = 136000 ∧
      (look (s.eliPort port).rx.lanes lane {}).good ≠ 0) (fun _ s' => (look (s'.eliPort port).rx.lanes lane {}).locked = true ∧ (look (s'.eliPort port).rx.lanes lane {}).lane = m.lane ∧
      (look (s'.eliPort port).rx.lanes lane {}).groupCount = m.groupCount)) ∧
  (∀ (port : Nat) (offset : Nat) (mfas : Nat) (k : Nat) (a b : List EliCand), Completes (.eliFawMatch · port offset mfas) (fun s => (s.port port).personality = .eli ∧ (s.port port).enable = true ∧ (s.eliPort port).rx.inFrame = false ∧ (s.eliPort port).rx.cands = a ++ { offset := offset, count := 2, mfas := k } :: b ∧
      (∀ x, x ∈ a → x.offset ≠ offset) ∧ mfas = (k + 1) % 256) (fun _ s' => (s'.eliPort port).rx.inFrame = true ∧ (s'.eliPort port).rx.offset = offset ∧ (s'.eliPort port).rx.cands = [] ∧ (s'.eliPort port).rx.lof = false ∧
      (s'.eliPort port).rx.nextMfas = (mfas + 1) % 256)) ∧
  (∀ (port : Nat) (offset : Nat), Completes (.eliFawNotFound · port offset) (fun s => (s.port port).personality = .eli ∧ (s.port port).enable = true ∧ (s.eliPort port).rx.inFrame = true ∧ offset = (s.eliPort port).rx.offset ∧ (s.eliPort port).rx.badCount = 4) (fun s s' => (s'.eliPort port).rx.inFrame = false ∧ (s'.eliPort port).rx.lof = true ∧ (s'.eliPort port).rx.cands = [] ∧
      look (s'.eliPort port).counters 2 0 = (look (s.eliPort port).counters 2 0 + 1) % 2 ^ 64)) ∧
  (∀ (port : Nat) (offset : Nat), Completes (.eliFawNotFound · port offset) (fun s => (s.port port).personality = .eli ∧ (s.port port).enable = true ∧ (s.eliPort port).rx.inFrame = true ∧ offset = (s.eliPort port).rx.offset ∧ (s.eliPort port).rx.badCount < 4) (fun s s' => (s'.eliPort port).rx.inFrame = true ∧ (s'.eliPort port).rx.badCount = (s.eliPort port).rx.badCount + 1)) ∧
  (∀ (port : Nat) (f : EliFrame) (o : Bytes), Completes (.eliFrameReceive · port f) (fun s => (s.port port).personality = .eli ∧ (s.port port).enable = true ∧ (s.eliPort port).rx.inFrame = true ∧ o = (framePlain f).take 64 ∧ crc16 (slice o 6 56) = beAt o 62 2 ∧ byteAt o 15 = 1) (fun _ s' => (s'.eliPort port).rx.frameCap = byteAt o 9 ∧ (s'.eliPort port).rx.modemCap = byteAt o 10 ∧ (s'.eliPort port).rx.inFrame = true)) ∧
  (∀ (port : Nat) (f : EliFrame) (o : Bytes), Completes (.eliFrameReceive · port f) (fun s => (s.port port).personality = .eli ∧ (s.port port).enable = true ∧ (s.eliPort port).rx.inFrame = true ∧ o = (framePlain f).take 64 ∧ (crc16 (slice o 6 56) ≠ beAt o 62 2 ∨ byteAt o 15 ≠ 1)) (fun s s' => (s'.eliPort port).rx.frameCap = (s.eliPort port).rx.frameCap ∧ (s'.eliPort port).rx.modemCap = (s.eliPort port).rx.modemCap ∧
      (s'.eliPort port).tx.pending = (s.eliPort port).tx.pending ∧ look (s'.eliPort port).counters 1 0 = (look (s.eliPort port).counters 1 0 + 1) % 2 ^ 64)) ∧
  (∀ (dst : Nat) (group : Nat), Completes (.eliExpressReplace · dst group) (fun s => group < 128 ∧ (s.express (dst * 128 + group)).live = true ∧ (s.express (dst * 128 + group)).replaced = false ∧ s.expressBad (s.express (dst * 128 + group)) = true) (fun s s' => s' = (s.setExpress (dst * 128 + group) { s.express (dst * 128 + group) with replaced := true, store := [], running := false, mid := false }).expressAlarm (dst * 128 + group) 1 0)) ∧
  (∀ (dst : Nat) (group : Nat), Completes (.eliExpressRestore · dst group) (fun s => group < 128 ∧ (s.express (dst * 128 + group)).live = true ∧ (s.express (dst * 128 + group)).replaced = true ∧ s.expressBad (s.express (dst * 128 + group)) = false ∧
      ((s.express (dst * 128 + group)).active = false ∨ (s.express (dst * 128 + group)).lost = true ∨ slotBlks * (s.express (dst * 128 + group)).count ≤ (s.express (dst * 128 + group)).store.length)) (fun s s' => s' = (s.setExpress (dst * 128 + group) { s.express (dst * 128 + group) with replaced := false }).expressAlarm (dst * 128 + group) 0 0)) ∧
  (∀ (port : Nat) (r new : Nat), Completes (.eliTxFrameStart · port) (fun s => (s.port port).personality = .eli ∧ (s.port port).enable = true ∧ (s.eliPort port).nextTypes = none ∧ (s.eliPort port).nextCfg = none ∧ (s.eliPort port).tx.cap ≤ (s.eliPort port).cfg.capMax ∧ (s.eliPort port).rx.inFrame = true ∧ (s.eliPort port).rx.lol = false ∧ (s.eliPort port).rx.lof = false ∧ (s.eliPort port).tx.safetyDue = false ∧ (s.eliPort port).tx.mfas = 0 ∧ (s.eliPort port).tx.firstDue = false ∧ (s.eliPort port).cfg.follow = false ∧ (s.eliPort port).tx.pending = some { raw := r, cap := new, left := 1 } ∧ new ≤ (s.eliPort port).cfg.capMax ∧ new ≠ (s.eliPort port).tx.cap ∧ 3 ≤ (s.eliPort port).tx.sinceSwitch) (fun s s' => (s'.eliPort port).tx.cap = new ∧ (s'.eliPort port).tx.pending = none ∧ (s'.eliPort port).tx.sinceSwitch = 0 ∧ (s'.eliPort port).tx.mfas = 1 ∧
      look (s'.eliPort port).counters 3 0 = (look (s.eliPort port).counters 3 0 + 1) % 2 ^ 64)) ∧
  (∀ (port : Nat) (r new : Nat), Completes (.eliTxFrameStart · port) (fun s => (s.port port).personality = .eli ∧ (s.port port).enable = true ∧ (s.eliPort port).nextTypes = none ∧ (s.eliPort port).nextCfg = none ∧ (s.eliPort port).tx.cap ≤ (s.eliPort port).cfg.capMax ∧ (s.eliPort port).rx.inFrame = true ∧ (s.eliPort port).rx.lol = false ∧ (s.eliPort port).rx.lof = false ∧ (s.eliPort port).tx.safetyDue = false ∧ (s.eliPort port).tx.mfas = 0 ∧ (s.eliPort port).tx.firstDue = false ∧ (s.eliPort port).cfg.follow = false ∧ (s.eliPort port).tx.pending = some { raw := r, cap := new, left := 1 } ∧ new ≤ (s.eliPort port).cfg.capMax ∧ (s.eliPort port).tx.cap < new ∧ (s.eliPort port).tx.sinceSwitch < 3) (fun s s' => (s'.eliPort port).tx.cap = (s.eliPort port).tx.cap ∧ (s'.eliPort port).tx.pending = some { raw := r, cap := new, left := 0 } ∧
      look (s'.eliPort port).counters 6 0 = (look (s.eliPort port).counters 6 0 + 1) % 2 ^ 64)) ∧
  (∀ (port : Nat), Completes (.eliTxFrameStart · port) (fun s => (s.port port).personality = .eli ∧ (s.port port).enable = true ∧ (s.eliPort port).tx.mfas ≠ 0 ∧ (s.eliPort port).tx.safetyDue = false) (fun s s' => (s'.eliPort port).tx.cap = (s.eliPort port).tx.cap ∧ (s'.eliPort port).tx.mfas = ((s.eliPort port).tx.mfas + 1) % 256 ∧
      (s'.eliPort port).tx.pending = (s.eliPort port).tx.pending ∧
      ∃ frame : Bytes, frame.length = 128064 ∧ frame.take 6 = beBytes 6 0xE71CD9264BB4 ∧ .eli port (frameLanes (s.port port).firstLane (s.eliPort port).tx.groupCount frame) ∈ s'.host.out)) ∧
  (∀ (port : Nat), Completes (.eliTxFrameStart · port) (fun s => (s.port port).personality = .eli ∧ (s.port port).enable = true ∧ (s.eliPort port).nextTypes = none ∧ (s.eliPort port).nextCfg = none ∧ (s.eliPort port).tx.cap ≤ (s.eliPort port).cfg.capMax ∧ ((s.eliPort port).rx.lol = true ∨ (s.eliPort port).rx.lof = true)) (fun s s' => (s'.eliPort port).tx.cap = (s.eliPort port).tx.cap ∧ (s'.eliPort port).tx.bdi = true))

/-- Trailhead (R155–R160, R166). -/
def Obligations.TrailheadCompletes : Prop :=
  (∀ (port : Nat) (k : Nat) (l : List Nat) (h : Nat) (th : ThreadId), Completes (.ingressDispatch · port) (fun s => s.dispatching = true ∧ s.countOut 3 ≤ 1 ∧ s.waitingOn port = k :: l ∧ (s.pkt k).egress = false ∧ h = flowHash (s.parsePort port).hashSelect (s.pkt k).bytes ∧
      (s.hold (steerIdx h)).active = false ∧ s.healthy 4 (s.steer (steerIdx h)) = true ∧
      (s.cluster (s.steer (steerIdx h))).stall = false ∧ s.clusterQueue (s.steer (steerIdx h)) false = [] ∧ s.pickThread (s.steer (steerIdx h)) = some th) (fun s s' => s'.waitingOn port = l ∧ (s'.pkt k).desc.hash = h ∧ (s'.pkt k).bucket = bucketOf (s.pkt k).desc.ingress h ∧ (s'.thread th).pass = some k ∧ (s'.thread th).state = .run ∧ (s'.thread th).domain = s.owner 1 (s.pkt k).desc.ingress ∧ (s'.pkt k).inPass = true)) ∧
  (∀ (port : Nat) (k : Nat) (l : List Nat) (h : Nat), Completes (.ingressDispatch · port) (fun s => s.dispatching = true ∧ s.countOut 3 ≤ 1 ∧ s.waitingOn port = k :: l ∧ (s.pkt k).egress = false ∧ h = flowHash (s.parsePort port).hashSelect (s.pkt k).bytes ∧
      (s.hold (steerIdx h)).active = false ∧ s.healthy 4 (s.steer (steerIdx h)) = true ∧
      (s.cluster (s.steer (steerIdx h))).stall = false ∧ 512 ≤ (s.clusterQueue (s.steer (steerIdx h)) false).length) (fun s s' => s'.waitingOn port = l ∧ (s'.pkt k).live = false ∧ look s'.parse.counters ((s.pkt k).desc.ingress * 8) 0 = (look s.parse.counters ((s.pkt k).desc.ingress * 8) 0 + 1) % 2 ^ 64)) ∧
  (∀ (port : Nat) (k : Nat) (a b : List Nat) (i : Nat) (th : ThreadId), Completes (.egressDispatch · port) (fun s => s.dispatching = true ∧ s.parse.egressWaiting = a ++ k :: b ∧ (∀ x, x ∈ a → (s.pkt x).desc.port ≠ port) ∧ (s.pkt k).desc.port = port ∧ (s.pkt k).egress = true ∧
      i = steerIdx (s.pkt k).desc.hash ∧ (s.hold i).active = false ∧ s.healthy 4 (s.steer i) = true ∧ (s.cluster (s.steer i)).stall = false ∧ s.clusterQueue (s.steer i) true = [] ∧ s.pickThread (s.steer i) = some th) (fun s s' => s'.parse.egressWaiting = s.parse.egressWaiting.erase k ∧ (s'.thread th).pass = some k ∧ (s'.thread th).egress = true ∧ (s'.thread th).domain = s.owner 1 port ∧ (s'.thread th).state = .run)) ∧
  (∀ (th : ThreadId) (k : Nat), Completes (.parseComplete · th) (fun s => (s.thread th).pass = some k ∧ (s.thread th).parsed = false ∧ outerOnly (s.parsePkt (s.pkt k)).hv = false) (fun s s' => (s'.thread th).parsed = true ∧ (s'.pkt k).hv = (s.parsePkt (s.pkt k)).hv ∧ (s'.thread th).spec.due = some (s.now + 18) ∧ (s'.pkt k).bytes = (s.pkt k).bytes)) ∧
  (∀ (th : ThreadId) (k port : Nat), Completes (.parseComplete · th) (fun s => (s.thread th).pass = some k ∧ (s.thread th).parsed = false ∧ outerOnly (s.parsePkt (s.pkt k)).hv = true ∧
      port = (if (s.pkt k).egress then (s.pkt k).desc.port else (s.pkt k).desc.ingress) ∧ (s.parsePort port).oddDrop = true) (fun s s' => (s'.pkt k).live = false ∧ look s'.parse.counters (port * 8 + 6) 0 = (look s.parse.counters (port * 8 + 6) 0 + 1) % 2 ^ 64)) ∧
  (∀ (cluster : Nat) (bucket : Nat) (k : Nat) (l : List Nat), Completes (.orderBucketRelease · cluster bucket) (fun s => s.bucket cluster bucket = k :: l ∧ (s.pkt k).cluster = cluster ∧ (s.pkt k).bucket = bucket ∧ (s.pkt k).committed = true ∧ (s.pkt k).egress = true) (fun s s' => s'.bucket cluster bucket = l ∧ s'.pipe (s.pkt k).desc.port = s.pipe (s.pkt k).desc.port ++ [k] ∧ (s'.pkt k).inPass = false)) ∧
  (∀ (cluster : Nat) (bucket : Nat) (k : Nat) (l : List Nat), Completes (.orderBucketRelease · cluster bucket) (fun s => s.bucket cluster bucket = k :: l ∧ (s.pkt k).committed = false) (fun s s' => s' = s)) ∧
  (∀ (idx : Nat), Completes (.steerHoldDrained · idx) (fun s => (s.hold idx).active = true ∧ s.uncommitted idx (s.hold idx).old = false) (fun s s' => s' = s.releaseHold idx)) ∧
  (∀ (idx : Nat), Completes (.steerHoldDrained · idx) (fun s => (s.hold idx).active = true ∧ s.uncommitted idx (s.hold idx).old = true) (fun s s' => s' = s)) ∧
  (∀ (idx : Nat), Completes (.steerHoldTimeout · idx) (fun s => (s.hold idx).active = true ∧ (s.hold idx).since + 120000 ≤ s.now) (fun s s' => ∃ x : State, (∀ k, (x.pkt k).late = ((s.pkt k).late || ((s.pkt k).inPass && !(s.pkt k).committed && decide ((s.pkt k).steer = idx) && decide ((s.pkt k).cluster = (s.hold idx).old)))) ∧
      s' = x.releaseHold idx)) ∧
  (∀ (idx : Nat), Completes (.steerHoldTimeout · idx) (fun s => (s.hold idx).active = true ∧ s.now < (s.hold idx).since + 120000) (fun s s' => s' = s)) ∧
  (∀ (idx : Nat) (cluster : Nat), Completes (.trailheadSteerRebalance · idx cluster) (fun s => idx < 1024 ∧ cluster < 32 ∧ s.healthy 4 cluster = true ∧ s.steer idx ≠ cluster ∧ s.uncommitted idx (s.steer idx) = true) (fun s s' => s'.steer idx = cluster ∧ (s'.hold idx).active = true ∧ (s'.hold idx).old = s.steer idx ∧ (s'.hold idx).held = (s.hold idx).held ∧ s'.pkts = s.pkts)) ∧
  (∀ (idx : Nat) (cluster : Nat), Completes (.trailheadSteerRebalance · idx cluster) (fun s => idx < 1024 ∧ cluster < 32 ∧ s.healthy 4 cluster = true ∧ s.steer idx ≠ cluster ∧ s.uncommitted idx (s.steer idx) = false ∧ (s.hold idx).active = false) (fun s s' => s'.steer idx = cluster ∧ s'.hold idx = s.hold idx ∧ s'.pkts = s.pkts))

/-- Requests and responses (R167, R173, R178, R208, R218). -/
def Obligations.RequestsComplete : Prop :=
  (∀ (th : ThreadId) (tag : Nat) (table : Nat) (key : Bytes), Completes (.lookupIssue · th tag table key) (fun s => s.canRun th = true ∧ tag < 8 ∧ s.tagFree th tag = true) (fun s s' => (look (s'.thread th).out (tag) {}).live = true ∧ (look (s'.thread th).out (tag) {}).at_ = s.now ∧ (look (s'.thread th).out tag {}).status = (s.lookupTable (s.thread th).domain table key).status ∧ (look (s'.thread th).out tag {}).result = (s.lookupTable (s.thread th).domain table key).result ∧ (s'.thread th).state = .run)) ∧
  (∀ (th : ThreadId) (tag : Nat) (tree : Nat) (k key : Nat), Completes (.classifyIssue · th tag tree) (fun s => s.canRun th = true ∧ tag < 8 ∧ s.tagFree th tag = true ∧ (s.thread th).pass = some k ∧ tree < 1024 ∧ (s.tree tree).live = true ∧ s.mayUse th (s.tree tree).partition = true ∧
      key = treeKey (s.tree tree) (s.pkt k).hv (s.pkt k).writers (outerCount (s.pkt k).ipLayers)) (fun s s' => (look (s'.thread th).out (tag) {}).live = true ∧ (look (s'.thread th).out (tag) {}).at_ = s.now ∧ (look (s'.thread th).out tag {}).status = 0 ∧ (look (s'.thread th).out tag {}).result = (s.tree tree).classify key ((s.tree tree).bankMiss || decide (Config.treeStack tree key < 4) && s.isOut 9 (Config.treeStack tree key)))) ∧
  (∀ (th : ThreadId) (tag : Nat) (tree : Nat), Completes (.classifyIssue · th tag tree) (fun s => s.canRun th = true ∧ tag < 8 ∧ s.tagFree th tag = true ∧ (1024 ≤ tree ∨ (s.tree tree).live = false ∨ s.mayUse th (s.tree tree).partition = false)) (fun s s' => (look (s'.thread th).out (tag) {}).live = true ∧ (look (s'.thread th).out (tag) {}).at_ = s.now ∧ (look (s'.thread th).out tag {}).status = 3)) ∧
  (∀ (th : ThreadId) (set : Nat) (depth : Nat) (k : Nat), Completes (.scanIssue · th set depth) (fun s => s.canRun th = true ∧ s.tagFree th 10 = true ∧ (s.thread th).pass = some k ∧ set < 256 ∧ (s.aset set).live = true ∧ s.mayUse th (s.aset set).partition = true ∧ s.scansQueued th.cluster < 64) (fun s s' => (look (s'.thread th).out (10) {}).live = true ∧ (look (s'.thread th).out (10) {}).at_ = s.now ∧ (look (s'.thread th).out 10 {}).bytes = (scan (s.aset set).patterns (((s.pkt k).bytes.drop (leAt (s.pkt k).hv 72 2)).take (min depth 1024))).bytes)) ∧
  (∀ (th : ThreadId) (set : Nat) (depth : Nat), Completes (.scanIssue · th set depth) (fun s => s.canRun th = true ∧ s.tagFree th 10 = true ∧ set < 256 ∧ (s.aset set).live = true ∧ s.mayUse th (s.aset set).partition = true ∧ 64 ≤ s.scansQueued th.cluster) (fun s s' => (look (s'.thread th).out (10) {}).live = true ∧ (look (s'.thread th).out (10) {}).at_ = s.now ∧ (look (s'.thread th).out 10 {}).status = 2)) ∧
  (∀ (th : ThreadId) (tag : Nat) (array : Nat) (key : Bytes), Completes (.assocSearchIssue · th tag array key) (fun s => s.canRun th = true ∧ tag < 2 ∧ s.tagFree th (8 + tag) = true ∧ (32 ≤ array ∨ s.ownsArray (s.thread th).domain array = false)) (fun s s' => (look (s'.thread th).out (8 + tag) {}).live = true ∧ (look (s'.thread th).out (8 + tag) {}).at_ = s.now ∧ (look (s'.thread th).out (8 + tag) {}).status = 3)) ∧
  (∀ (th : ThreadId) (tag : Nat) (array : Nat) (key : Bytes), Completes (.assocSearchIssue · th tag array key) (fun s => s.canRun th = true ∧ tag < 2 ∧ s.tagFree th (8 + tag) = true ∧ array < 32 ∧ s.ownsArray (s.thread th).domain array = true) (fun s s' => (look (s'.thread th).out (8 + tag) {}).live = true ∧ (look (s'.thread th).out (8 + tag) {}).at_ = s.now ∧ ∃ q, q ∈ s'.assoc.searches ∧ q.thread = th ∧ q.tag = tag ∧ q.array = array)) ∧
  (∀ (th : ThreadId) (tag : Nat) (err : Option EntryError), Completes (.lookupResponse · th tag err) (fun s => (s.thread th).state = .run ∧ (s.thread th).waiting = .none ∧ (s.thread th).spec.heldFault = none ∧ (s.thread th).spec.prov = false ∧ tag < 8 ∧ (look (s.thread th).out tag {}).live = true ∧ err = none) (fun s s' => (look (s'.thread th).out tag {}).live = false ∧ (look (s'.thread th).got tag {}).live = true ∧ (look (s'.thread th).got tag {}).bytes = (look (s.thread th).out tag {}).bytes ∧ bit (s'.thread th).pending (tag) = true)) ∧
  (∀ (th : ThreadId), Completes (.scanResponse · th) (fun s => (s.thread th).state = .run ∧ (s.thread th).waiting = .none ∧ (s.thread th).spec.heldFault = none ∧ (s.thread th).spec.prov = false ∧ (look (s.thread th).out 10 {}).live = true) (fun s s' => (look (s'.thread th).out 10 {}).live = false ∧ (look (s'.thread th).got 10 {}).live = true ∧ (look (s'.thread th).got 10 {}).bytes = (look (s.thread th).out 10 {}).bytes ∧ bit (s'.thread th).pending (10) = true)) ∧
  (∀ (th : ThreadId) (ans : SearchEnd), Completes (.assocResponse · th ans) (fun s => (s.thread th).state = .run ∧ (s.thread th).waiting = .none ∧ (s.thread th).spec.heldFault = none ∧ (s.thread th).spec.prov = false ∧ ans.tag < 2 ∧ (look (s.thread th).out (8 + ans.tag) {}).live = true ∧ (look (s.thread th).out (8 + ans.tag) {}).status = 3) (fun s s' => (look (s'.thread th).out (8 + ans.tag) {}).live = false ∧ (look (s'.thread th).got (8 + ans.tag) {}).live = true ∧ (look (s'.thread th).got (8 + ans.tag) {}).bytes = (look (s.thread th).out (8 + ans.tag) {}).bytes ∧ bit (s'.thread th).pending (8 + ans.tag) = true)) ∧
  (∀ (th : ThreadId) (tag : Nat) (err : Option EntryError) (r : Request) (k : Nat) (e : EntryError), Completes (.lookupResponse · th tag err) (fun s => tag < 8 ∧ (look (s.thread th).out tag {}).live = true ∧ r = look (s.thread th).out tag {} ∧ r.table = some k ∧ err = some e) (fun s s' => s' = (if (r.meet ((s.entryError k e).table k) e).after || !(r.meet ((s.entryError k e).table k) e).far then s.entryError k e
        else each (fun (l : Nat × Nat × Nat) s => State.fillLeaf s l.1 l.2.1 l.2.2) (r.meet ((s.entryError k e).table k) e).leaves (s.entryError k e)).respond th tag (r.meet ((s.entryError k e).table k) e))) ∧
  (∀ (th : ThreadId) (ans : SearchEnd) (q : ASearch) (x : State) (a : AResponse), Completes (.assocResponse · th ans) (fun s => ans.tag < 2 ∧ (look (s.thread th).out (8 + ans.tag) {}).live = true ∧ (look (s.thread th).out (8 + ans.tag) {}).status ≠ 3 ∧
      (s.assoc.searches.find? fun x => x.thread = th && x.tag = ans.tag) = some q ∧ q.start ≤ s.cclk ∧ x = s.settleSearches q.array s.cclk ∧
      a = ((x.assoc.searches.find? fun y => y.thread = th && y.tag = ans.tag).getD q).answer ans.bad) (fun s s' => ∃ y : State, y.assoc.searches = x.assoc.searches.filter (fun z => !(z.thread = th && z.tag = ans.tag)) ∧ y.eng = s.eng ∧
      s' = y.respond th (8 + ans.tag) { look (s.thread th).out (8 + ans.tag) {} with status := a.status, result := a.result, bytes := a.bytes })) ∧
  (∀ (th : ThreadId) (tag : Nat) (err : Option EntryError), Completes (.lookupResponse · th tag err) (fun s => (s.thread th).state = .wait ∧ (s.thread th).waiting = .events ∧ (s.thread th).spec.heldFault = none ∧ (s.thread th).spec.prov = false ∧ bit (s.thread th).mask tag = true ∧
      tag < 8 ∧ (look (s.thread th).out tag {}).live = true) (fun _ s' => (s'.thread th).state = .run ∧ bit (s'.thread th).returned tag = true ∧ bit (s'.thread th).pending tag = false ∧ (look (s'.thread th).out tag {}).live = false))

/-- The commands of 07 (R163, R169, R175, R176). -/
def Obligations.ParseCommandsComplete : Prop :=
  (∀ (c : Cmd) (b : BufRead), Completes (.parseGraphLoad · c b) (fun s => ready s c 0x0400 .d0 = true ∧ firstErr ([c.bufferErr, c.zeros 28 36, b.err] ++ graphErrs (b.bytes c)) = none) (fun s s' => s' = ({ s with parse := { s.parse with graph := some (graphOf (b.bytes c)), loadSeq := (s.parse.loadSeq + 1) % 256 } }).answer c .ok 0 0 [])) ∧
  (∀ (c : Cmd), Completes (.parsePortConfig · c) (fun s => ready s c 0x0401 .any = true ∧ s.ownErr c 1 (c.u8 16) = none ∧ c.u8 17 < 16 ∧ c.u8 18 ≤ 1 ∧ c.zeros 19 1 = none ∧ c.u16 20 < 256 ∧ c.zeros 22 42 = none) (fun s s' => s' = ({ s with parse := { s.parse with ports := put s.parse.ports (c.u8 16) {} { profile := c.u8 17, oddDrop := c.u8 18 = 1, hashSelect := c.u16 20 } } }).answer c .ok 0 0 [])) ∧
  (∀ (c : Cmd), Completes (.classTreeDelete · c) (fun s => ready s c 0x0403 .any = true ∧ c.u16 16 < 1024 ∧ (s.tree (c.u16 16)).live = true ∧ s.busyErr c = none ∧ s.ownErr c 3 (s.tree (c.u16 16)).partition = none ∧ c.zeros 18 46 = none) (fun s s' => s' = (s.setTree (c.u16 16) {}).answer c .ok 0 0 [])) ∧
  (∀ (c : Cmd), Completes (.autoSetDelete · c) (fun s => ready s c 0x0405 .any = true ∧ (s.aset (c.u8 16)).live = true ∧ s.busyErr c = none ∧ s.ownErr c 3 (s.aset (c.u8 16)).partition = none ∧ c.zeros 17 47 = none) (fun s s' => s' = (s.setAset (c.u8 16) {}).answer c .ok 0 0 [])) ∧
  (∀ (c : Cmd), Completes (.classLimit · c) (fun s => ready s c 0x0406 .d0 = true ∧ c.u8 16 < 16 ∧ c.zeros 17 3 = none ∧ c.zeros 28 36 = none) (fun s s' => ∃ x : State, allowance x.parse.ruleAllow (c.u8 16) = c.u32 20 ∧ allowance x.parse.patternAllow (c.u8 16) = c.u32 24 ∧ x = { s with parse := { s.parse with ruleAllow := x.parse.ruleAllow, patternAllow := x.parse.patternAllow } } ∧
      s' = x.answer c .ok 0 0 [])) ∧
  (∀ (c : Cmd), Completes (.parseCounters · c) (fun s => ready s c 0x0407 .any = true ∧ c.needReply = none ∧ s.ownErr c 1 (c.u8 16) = none ∧ c.u8 17 ≤ 1 ∧ c.zeros 18 46 = none) (fun s s' => s' = (if c.u8 17 = 1 then { s with parse := { s.parse with counters := keepRows s.parse.counters fun k _ => k / 8 ≠ c.u8 16 } } else s).answer c .ok 0 64
        ((List.range 8).flatMap fun i => leBytes 8 (look s.parse.counters (c.u8 16 * 8 + i) 0)))) ∧
  (∀ (c : Cmd) (b : BufRead) (x : Tree), Completes (.classTreeLoad · c b) (fun s => ready s c 0x0402 .any = true ∧ c.bufferErr = none ∧ s.busyErr c = none ∧ c.u8 36 = 0 ∧ c.zeros 37 27 = none ∧ b.err = none ∧ c.u16 28 < 1024 ∧ x = s.tree (c.u16 28) ∧ (x.live = true → s.owner 3 x.partition = c.domain) ∧ s.ownErr c 3 (c.u16 30) = none ∧
      c.u32 32 = 0 ∧ x.staged = [] ∧ x.stagedRules = 0 ∧ s.rulesTotal + leAt (b.bytes c) 4 4 ≤ 2097152 ∧ 0 < allowance s.parse.ruleAllow c.domain ∧
      s.rulesUsed c.domain + leAt (b.bytes c) 4 4 ≤ allowance s.parse.ruleAllow c.domain) (fun s s' => s' = (s.setTree (c.u16 28) { x with staged := b.bytes c, stagedPart := c.u16 30, stagedRules := leAt (b.bytes c) 4 4 }).answer c .ok 0 (b.bytes c).length [])) ∧
  (∀ (c : Cmd) (b : BufRead) (x : AutoSet), Completes (.autoSetLoad · c b) (fun s => ready s c 0x0404 .any = true ∧ c.bufferErr = none ∧ s.busyErr c = none ∧ c.u8 36 = 0 ∧ c.zeros 37 27 = none ∧ b.err = none ∧ c.zeros 29 1 = none ∧ x = s.aset (c.u8 28) ∧ (x.live = true → s.owner 3 x.partition = c.domain) ∧ s.ownErr c 3 (c.u16 30) = none ∧
      c.u32 32 = 0 ∧ x.staged = [] ∧ x.stagedCount = 0 ∧ s.patternsTotal + (patternsOf (b.bytes c) (b.bytes c).length 0).1.length ≤ 65536 ∧
      0 < allowance s.parse.patternAllow c.domain ∧ s.patternsUsed c.domain + (patternsOf (b.bytes c) (b.bytes c).length 0).1.length ≤ allowance s.parse.patternAllow c.domain) (fun s s' => s' = (s.setAset (c.u8 28) { x with staged := b.bytes c, stagedPart := c.u16 30, stagedCount := (patternsOf (b.bytes c) (b.bytes c).length 0).1.length }).answer c .ok 0 (b.bytes c).length [])) ∧
  (∀ (c : Cmd) (b : BufRead) (x : AutoSet) (ps : List Pattern), Completes (.autoSetLoad · c b) (fun s => ready s c 0x0404 .any = true ∧ c.bufferErr = none ∧ s.busyErr c = none ∧ c.u8 36 = 1 ∧ c.zeros 37 27 = none ∧ b.err = none ∧ c.zeros 29 1 = none ∧ x = s.aset (c.u8 28) ∧ (x.live = true → s.owner 3 x.partition = c.domain) ∧ s.ownErr c 3 (c.u16 30) = none ∧
      c.u32 32 = 0 ∧ x.stagedCount = 0 ∧ patternsOf (b.bytes c) (b.bytes c).length 0 = (ps, none) ∧ uniqueIds ps = true ∧ ps.length ≤ 16384 ∧ s.patternsTotal + ps.length ≤ 65536 ∧
      0 < allowance s.parse.patternAllow c.domain ∧ s.patternsUsed c.domain + ps.length ≤ allowance s.parse.patternAllow c.domain) (fun s s' => s' = (s.setAset (c.u8 28) { live := true, partition := c.u16 30, patterns := ps.foldr insertPattern [] }).answer c .ok 0 0 [])) ∧
  (∀ (c : Cmd) (b : BufRead) (x : Tree), Completes (.classTreeLoad · c b) (fun s => ready s c 0x0402 .any = true ∧ c.bufferErr = none ∧ s.busyErr c = none ∧ c.u8 36 = 1 ∧ c.zeros 37 27 = none ∧ b.err = none ∧ c.u16 28 < 1024 ∧ x = s.tree (c.u16 28) ∧ (x.live = true → s.owner 3 x.partition = c.domain) ∧ s.ownErr c 3 (c.u16 30) = none ∧
      c.u32 32 = 0 ∧ x.bankLost = false ∧ x.stagedRules = 0 ∧ s.rulesTotal + leAt (b.bytes c) 4 4 ≤ 2097152 ∧ 0 < allowance s.parse.ruleAllow c.domain ∧
      s.rulesUsed c.domain + leAt (b.bytes c) 4 4 ≤ allowance s.parse.ruleAllow c.domain) (fun s s' => (firstErr (treeErrs (b.bytes c)) = none → s' = (s.setTree (c.u16 28) (treeOf (b.bytes c) (c.u16 30))).answer c .ok 0 0 []) ∧
      (∀ e, firstErr (treeErrs (b.bytes c)) = some e → s' = s.answer c e.status e.detail 0 [])))

/-- Thread control (R219–R221). -/
def Obligations.ThreadControlCompletes : Prop :=
  (∀ (th : ThreadId) (mask : Nat), Completes (.wait · th mask) (fun s => s.canRun th = true ∧ 0 < mask ∧ mask < 2 ^ 32 ∧ s.pendingWord th &&& mask ≠ 0) (fun s s' => (s'.thread th).state = .run ∧ (s'.thread th).returned = s.pendingWord th &&& mask ∧ (s'.thread th).pending &&& (s.pendingWord th &&& mask &&& 0x7FF00FFF) = 0 ∧ (s'.thread th).regs = (s.thread th).regs ∧ (s'.thread th).pc = (s.thread th).pc)) ∧
  (∀ (th : ThreadId) (mask : Nat), Completes (.wait · th mask) (fun s => s.canRun th = true ∧ 0 < mask ∧ mask < 2 ^ 32 ∧ s.pendingWord th &&& mask = 0) (fun s s' => (s'.thread th).state = .wait ∧ (s'.thread th).waiting = .events ∧ (s'.thread th).mask = mask ∧ (s'.thread th).pending = (s.thread th).pending)) ∧
  (∀ (th : ThreadId) (mask : Nat) (k : Nat), Completes (.wait · th mask) (fun s => s.canRun th = true ∧ mask = 0 ∧ (s.thread th).spec.prov = false ∧ s.isSup th = false ∧ (s.cluster th.cluster).faults.length < 64 ∧ (s.thread th).pass = some k) (fun s s' => (s'.cluster th.cluster).faults = ((s.cluster th.cluster).postFault s.cclk (s.faultRecord th 3 0)).faults ∧ (s'.pkt k).live = false)) ∧
  (∀ (th : ThreadId) (engine : Nat) (thread : Nat) (sig : Nat), Completes (.signal · th engine thread sig) (fun s => s.canRun th = true ∧ (s.thread th).spec.prov = false ∧ s.verdictDue th = false ∧ s.verdictBad th = false) (fun s s' => (s'.cluster th.cluster).signals = (s.cluster th.cluster).signals ++ [{ due := s.now + 12, engine := engine, thread := thread, sig := sig }] ∧ s'.thread th = s.thread th)) ∧
  (∀ (cluster : Nat) (g : SignalDue) (th : ThreadId), Completes (.signalDeliver · cluster) (fun s => (s.cluster cluster).signals = [g] ∧ g.due ≤ s.now ∧ th = { cluster := cluster, engine := g.engine, thread := g.thread } ∧ (s.thread th).state = .run) (fun s s' => (s'.cluster cluster).signals = [] ∧ (s'.thread th).pending = (s.thread th).pending ||| 2 ^ (22 + g.sig % 8))) ∧
  (∀ (cluster : Nat) (g : SignalDue), Completes (.signalDeliver · cluster) (fun s => (s.cluster cluster).signals = [g] ∧ s.now < g.due) (fun s s' => (s'.cluster cluster).signals = [g] ∧ s'.eng.threads = s.eng.threads)) ∧
  (∀ (th : ThreadId) (delta : Option Nat) (d : Nat), Completes (.timerSet · th delta) (fun s => s.canRun th = true ∧ delta = some d) (fun s s' => s' = s.setThread th { s.thread th with timer := some ((s.clusterTime th.cluster + d) % 2 ^ 48), timerSet := s.cclk })) ∧
  (∀ (th : ThreadId) (delta : Option Nat), Completes (.timerSet · th delta) (fun s => s.canRun th = true ∧ delta = none) (fun s s' => (s'.thread th).timer = none ∧ (s'.thread th).pending &&& 2 ^ 20 = 0 ∧ s' = s.setThread th (s'.thread th))) ∧
  (∀ (th : ThreadId) (v : Nat), Completes (.timerFire · th) (fun s => (s.thread th).timer = some v ∧ v ≤ s.clusterTime th.cluster ∧ (s.thread th).timerSet < s.cclk ∧ (s.thread th).state = .run) (fun s s' => (s'.thread th).timer = none ∧ (s'.thread th).pending = (s.thread th).pending ||| 2 ^ 20 ∧ (s'.thread th).state = .run)) ∧
  (∀ (th : ThreadId) (v : Nat), Completes (.timerFire · th) (fun s => (s.thread th).timer = some v ∧ s.clusterTime th.cluster < v) (fun s s' => s' = s)) ∧
  (∀ (th : ThreadId) (n : Nat), Completes (.yield · th n) (fun s => s.canRun th = true) (fun s s' => s' = s.setThread th { s.thread th with yieldUntil := s.cclk + n + 1 })) ∧
  (∀ (th : ThreadId), Completes (.yieldExpire · th) (fun s => (s.thread th).yieldUntil ≠ 0 ∧ (s.thread th).yieldUntil ≤ s.cclk) (fun s s' => s' = s.setThread th { s.thread th with yieldUntil := 0 })) ∧
  (∀ (th : ThreadId), Completes (.confirm · th) (fun s => s.canRun th = true ∧ (s.thread th).spec.prov = false ∧ s.verdictDue th = false ∧ s.verdictBad th = false) (fun s s' => s'.thread th = s.thread th ∧ s'.pkts = s.pkts)) ∧
  (∀ (th : ThreadId), Completes (.confirm · th) (fun s => s.canRun th = true ∧ (s.thread th).spec.prov = true ∧ (s.thread th).spec.compare = .open_ ∧ s.incomplete th = false) (fun s s' => (s'.thread th).waiting = .confirm .confirm ∧ (s'.thread th).spec.prov = true ∧ (s'.thread th).regs = (s.thread th).regs)) ∧
  (∀ (th : ThreadId), Completes (.confirm · th) (fun s => s.canRun th = true ∧ (s.thread th).spec.prov = true ∧ (s.thread th).spec.compare = .equal ∧ s.verdictDue th = false ∧ s.verdictBad th = false) (fun s s' => (s'.thread th).waiting = .none ∧ (s'.thread th).spec.prov = false ∧ (s'.thread th).regs = (s.thread th).regs ∧ (s'.thread th).pass = (s.thread th).pass)) ∧
  (∀ (th : ThreadId), Completes (.confirm · th) (fun s => s.canRun th = true ∧ (s.thread th).spec.prov = false ∧ s.verdictDue th = true) (fun s s' => s'.thread th = { s.thread th with waiting := .confirm .confirm } ∧ s'.pkts = s.pkts))

/-- Channels (R223–R225). -/
def Obligations.ChannelsComplete : Prop :=
  (∀ (th : ThreadId) (channel : Nat) (word : Nat) (value : Nat), Completes (.chanStage · th channel word value) (fun s => s.canRun th = true ∧ (s.thread th).spec.prov = false ∧ s.verdictDue th = false ∧ s.verdictBad th = false ∧ (s.thread th).channel = none ∧ (s.channel th.cluster channel).used < 8 ∧ channel < 256 ∧ word < 8 ∧ value < 2 ^ 64) (fun s s' => (s'.thread th).channel = some channel ∧ look (s'.thread th).staged word 0 = value ∧ (s'.thread th).state = .run ∧ (s'.channel th.cluster channel).reserved = (s.channel th.cluster channel).reserved + 1 ∧ (s'.channel th.cluster channel).visible = (s.channel th.cluster channel).visible)) ∧
  (∀ (th : ThreadId) (channel : Nat) (word : Nat) (value : Nat), Completes (.chanStage · th channel word value) (fun s => s.canRun th = true ∧ (s.thread th).spec.prov = false ∧ s.verdictDue th = false ∧ s.verdictBad th = false ∧ (s.thread th).channel = some channel ∧ channel < 256 ∧ word < 8 ∧ value < 2 ^ 64) (fun s s' => (s'.thread th).channel = some channel ∧ look (s'.thread th).staged word 0 = value ∧ (∀ w, w ≠ word → look (s'.thread th).staged w 0 = look (s.thread th).staged w 0) ∧ (s'.thread th).state = .run ∧ s'.channel th.cluster channel = s.channel th.cluster channel)) ∧
  (∀ (th : ThreadId) (channel : Nat) (word : Nat) (value : Nat), Completes (.chanStage · th channel word value) (fun s => s.canRun th = true ∧ (s.thread th).spec.prov = false ∧ s.verdictDue th = false ∧ s.verdictBad th = false ∧ (s.thread th).channel = none ∧ 8 ≤ (s.channel th.cluster channel).used ∧ channel < 256 ∧ word < 8 ∧ value < 2 ^ 64) (fun s s' => (s'.thread th).state = .wait ∧ (s'.thread th).waiting = .slot channel word value ∧ (s'.thread th).channel = none ∧ s'.channel th.cluster channel = s.channel th.cluster channel)) ∧
  (∀ (th : ThreadId) (channel : Nat) (word : Nat) (value : Nat) (k held : Nat), Completes (.chanStage · th channel word value) (fun s => s.canRun th = true ∧ (s.thread th).spec.prov = false ∧ s.verdictDue th = false ∧ s.verdictBad th = false ∧ (s.thread th).channel = some held ∧ channel ≠ held ∧ channel < 256 ∧ word < 8 ∧ value < 2 ^ 64 ∧ s.isSup th = false ∧ (s.cluster th.cluster).faults.length < 64 ∧ (s.thread th).pass = some k) (fun s s' => (s'.cluster th.cluster).faults = ((s.cluster th.cluster).postFault s.cclk (s.faultRecord th 4 channel)).faults ∧ (s'.pkt k).live = false)) ∧
  (∀ (th : ThreadId) (ch : Nat) (msg : List Nat), Completes (.chanCommit · th) (fun s => s.canRun th = true ∧ (s.thread th).spec.prov = false ∧ s.verdictDue th = false ∧ s.verdictBad th = false ∧ (s.thread th).channel = some ch ∧
      msg = (List.range ((List.range 8).filter fun w => bit (s.thread th).stagedMask w).length).map fun w => look (s.thread th).staged w 0) (fun s s' => (s'.channel th.cluster ch).coming = insertComing (s.cclk, th.engine * 16 + th.thread) (s.now + 12) msg (s.channel th.cluster ch).coming ∧ (s'.channel th.cluster ch).reserved = (s.channel th.cluster ch).reserved - 1 ∧ (s'.channel th.cluster ch).commits = ((s.channel th.cluster ch).commits + 1) % 65536 ∧ (s'.thread th).channel = none ∧ (s'.thread th).stagedMask = 0)) ∧
  (∀ (th : ThreadId) (k : Nat), Completes (.chanCommit · th) (fun s => s.canRun th = true ∧ (s.thread th).spec.prov = false ∧ s.verdictDue th = false ∧ s.verdictBad th = false ∧ (s.thread th).channel = none ∧ s.isSup th = false ∧ (s.cluster th.cluster).faults.length < 64 ∧ (s.thread th).pass = some k) (fun s s' => (s'.cluster th.cluster).faults = ((s.cluster th.cluster).postFault s.cclk (s.faultRecord th 5 0)).faults ∧ (s'.pkt k).live = false)) ∧
  (∀ (cluster : Nat) (channel : Nat) (due : List (Nat × Nat × List Nat)), Completes (.chanVisible · cluster channel) (fun s => due = (s.channel cluster channel).coming.filter (fun m => m.1 ≤ s.now) ∧ due ≠ []) (fun s s' => (s'.channel cluster channel).visible = (s.channel cluster channel).visible ++ due.map (fun m => m.2.2) ∧ (s'.channel cluster channel).coming = (s.channel cluster channel).coming.filter fun m => s.now < m.1)) ∧
  (∀ (cluster : Nat) (channel : Nat), Completes (.chanVisible · cluster channel) (fun s => ∀ m, m ∈ (s.channel cluster channel).coming → s.now < m.1) (fun s s' => s' = s)) ∧
  (∀ (th : ThreadId) (channel : Nat) (m : List Nat), Completes (.chanRead · th channel) (fun s => s.canRun th = true ∧ (s.thread th).spec.prov = false ∧ s.verdictDue th = false ∧ s.verdictBad th = false ∧ channel < 256 ∧ (s.channel th.cluster channel).visible[s.readsAhead th channel]? = some m) (fun s s' => (s'.thread th).message = some m ∧ (s'.channel th.cluster channel).visible = (s.channel th.cluster channel).visible.eraseIdx (s.readsAhead th channel) ∧ (s'.thread th).state = .run)) ∧
  (∀ (th : ThreadId) (channel : Nat), Completes (.chanRead · th channel) (fun s => s.canRun th = true ∧ (s.thread th).spec.prov = false ∧ s.verdictDue th = false ∧ s.verdictBad th = false ∧ channel < 256 ∧ (s.channel th.cluster channel).visible.length ≤ s.readsAhead th channel) (fun s s' => (s'.thread th).message = none ∧ (s'.thread th).state = .run ∧ s'.channel th.cluster channel = s.channel th.cluster channel))

/-- Faults, DMA and pass end (R218, R226–R229, R249, R255, R263). -/
def Obligations.PassesComplete : Prop :=
  (∀ (th : ThreadId) (code : Nat) (detail : Nat) (k : Nat), Completes (.faultRaise · th code detail) (fun s => s.canRun th = true ∧ (s.thread th).spec.prov = false ∧ s.verdictDue th = false ∧ s.verdictBad th = false ∧ 0x80 ≤ code ∧ code ≤ 0xFF ∧ detail < 2 ^ 32 ∧ s.isSup th = false ∧ (s.cluster th.cluster).faults.length < 64 ∧ (s.thread th).pass = some k) (fun s s' => (s'.cluster th.cluster).faults = ((s.cluster th.cluster).postFault s.cclk (s.faultRecord th code detail)).faults ∧ (s'.pkt k).live = false)) ∧
  (∀ (th : ThreadId) (code : Nat) (detail : Nat) (k : Nat), Completes (.faultRaise · th code detail) (fun s => s.canRun th = true ∧ (s.thread th).spec.prov = false ∧ s.verdictDue th = false ∧ s.verdictBad th = false ∧ (code < 0x80 ∨ 0xFF < code) ∧ s.isSup th = false ∧ (s.cluster th.cluster).faults.length < 64 ∧ (s.thread th).pass = some k) (fun s s' => (s'.cluster th.cluster).faults = ((s.cluster th.cluster).postFault s.cclk (s.faultRecord th 1 (s.thread th).last)).faults ∧ (s'.pkt k).live = false)) ∧
  (∀ (cluster : Nat) (th : ThreadId), Completes (.faultQueueRead · cluster) (fun s => th = { cluster := cluster, engine := (s.cluster cluster).supEngine, thread := (s.cluster cluster).supThread } ∧ s.canRun th = true ∧ (s.thread th).spec.prov = false ∧ s.verdictDue th = false ∧ s.verdictBad th = false ∧ (s.cluster cluster).faults = []) (fun _ s' => (s'.cluster cluster).faults = [] ∧ (s'.thread th).message = none)) ∧
  (∀ (cluster : Nat) (th : ThreadId) (r : Bytes) (l : List Bytes), Completes (.faultQueueRead · cluster) (fun s => th = { cluster := cluster, engine := (s.cluster cluster).supEngine, thread := (s.cluster cluster).supThread } ∧ s.canRun th = true ∧ (s.thread th).spec.prov = false ∧ s.verdictDue th = false ∧ s.verdictBad th = false ∧ (s.cluster cluster).faults = r :: l) (fun _ s' => (s'.cluster cluster).faults = l ∧ (s'.thread th).message = some [leAt r 0 8, leAt r 8 8])) ∧
  (∀ (th : ThreadId) (toLocal : Bool) (packetOff : Nat) (localOff : Nat) (len : Nat), Completes (.packetDma · th toLocal packetOff localOff len) (fun s => s.canRun th = true ∧ (s.thread th).spec.prov = false ∧ s.verdictDue th = false ∧ s.verdictBad th = false ∧ s.tagFree th 11 = true ∧ localOff + len ≤ 8192) (fun s s' => (look (s'.thread th).out 11 {}).dma = some { toLocal := toLocal, packetOff := packetOff, localOff := localOff, len := len } ∧ (look (s'.thread th).out 11 {}).at_ = s.now ∧ (s'.thread th).mem = (s.thread th).mem ∧ s'.pkts = s.pkts)) ∧
  (∀ (th : ThreadId) (toLocal : Bool) (packetOff : Nat) (localOff : Nat) (len : Nat) (k : Nat), Completes (.packetDma · th toLocal packetOff localOff len) (fun s => s.canRun th = true ∧ (s.thread th).spec.prov = false ∧ s.verdictDue th = false ∧ s.verdictBad th = false ∧ s.tagFree th 11 = true ∧ 8192 < localOff + len ∧ s.isSup th = false ∧ (s.cluster th.cluster).faults.length < 64 ∧ (s.thread th).pass = some k) (fun s s' => (s'.cluster th.cluster).faults = ((s.cluster th.cluster).postFault s.cclk (s.faultRecord th 2 localOff)).faults ∧ (s'.pkt k).live = false)) ∧
  (∀ (th : ThreadId) (k : Nat) (d : PktDma), Completes (.packetDmaDone · th) (fun s => (s.thread th).pass = some k ∧ (s.thread th).state = .run ∧ (look (s.thread th).out 11 {}).dma = some d ∧ d.toLocal = true) (fun s s' => (∀ i, i < d.len → memByte (s'.thread th).mem (d.localOff + i) = byteAt (s.pkt k).bytes (d.packetOff + i)) ∧
      (∀ j, (j < d.localOff ∨ d.localOff + d.len ≤ j) → memByte (s'.thread th).mem j = memByte (s.thread th).mem j) ∧
      bit (s'.thread th).pending 11 = true ∧ (look (s'.thread th).out 11 {}).live = false ∧ s'.pkts = s.pkts)) ∧
  (∀ (th : ThreadId) (k : Nat) (d : PktDma), Completes (.packetDmaDone · th) (fun s => (s.thread th).pass = some k ∧ (s.thread th).state = .run ∧ (look (s.thread th).out 11 {}).dma = some d ∧ d.toLocal = false ∧ d.packetOff + d.len ≤ (s.pkt k).bytes.length) (fun s s' => (s'.pkt k).bytes.length = (s.pkt k).bytes.length ∧ (∀ i, i < d.len → byteAt (s'.pkt k).bytes (d.packetOff + i) = memByte (s.thread th).mem (d.localOff + i)) ∧
      (∀ j, (j < d.packetOff ∨ d.packetOff + d.len ≤ j) → byteAt (s'.pkt k).bytes j = byteAt (s.pkt k).bytes j) ∧
      bit (s'.thread th).pending 11 = true ∧ (s'.thread th).mem = (s.thread th).mem)) ∧
  (∀ (th : ThreadId) (bit : Nat) (k : Nat), Completes (.responseTimeout · th bit) (fun s => bit < 11 ∧ (look (s.thread th).out bit {}).live = true ∧ (look (s.thread th).out bit {}).at_ + 60000 ≤ s.now ∧ (s.thread th).spec.prov = false ∧ (s.thread th).state ≠ .stopped ∧ s.isSup th = false ∧ (s.cluster th.cluster).faults.length < 64 ∧ (s.thread th).pass = some k) (fun s s' => (s'.cluster th.cluster).faults = ((s.cluster th.cluster).postFault s.cclk (s.faultRecord th 9 bit)).faults ∧ (s'.pkt k).live = false)) ∧
  (∀ (th : ThreadId) (bit : Nat), Completes (.responseTimeout · th bit) (fun s => bit < 11 ∧ (look (s.thread th).out bit {}).live = true ∧ (look (s.thread th).out bit {}).at_ + 60000 ≤ s.now ∧ (s.thread th).spec.prov = true ∧ (s.thread th).spec.compare = .open_ ∧ bit ∈ (s.tplOf (s.thread th)).tags) (fun s s' => s' = s.setThread th { s.thread th with spec := { (s.thread th).spec with compare := .unequal true (some bit) } })) ∧
  (∀ (th : ThreadId) (bit : Nat), Completes (.responseTimeout · th bit) (fun s => bit < 11 ∧ (look (s.thread th).out bit {}).live = true ∧ (look (s.thread th).out bit {}).at_ + 60000 ≤ s.now ∧ (s.thread th).spec.prov = false ∧ (s.thread th).state = .stopped ∧ (s.thread th).spec.heldFault = none) (fun s s' => s'.thread th = { s.thread th with spec := { (s.thread th).spec with heldFault := some (9, bit) } } ∧ s'.pkts = s.pkts)) ∧
  (∀ (th : ThreadId) (bit : Nat), Completes (.responseTimeout · th bit) (fun s => s.now < (look (s.thread th).out bit {}).at_ + 60000) (fun s s' => s' = s)) ∧
  (∀ (th : ThreadId) (k : Nat), Completes (.passBudgetExceeded · th) (fun s => ((s.thread th).state = .run ∨ (s.thread th).state = .wait) ∧ (s.cluster th.cluster).budget ≤ (s.thread th).issued ∧ (s.thread th).spec.prov = false ∧ s.isSup th = false ∧ (s.cluster th.cluster).faults.length < 64 ∧ (s.thread th).pass = some k) (fun s s' => (s'.cluster th.cluster).faults = ((s.cluster th.cluster).postFault s.cclk (s.faultRecord th 6 (s.thread th).issued)).faults ∧ (s'.pkt k).live = false)) ∧
  (∀ (th : ThreadId), Completes (.passBudgetExceeded · th) (fun s => (s.thread th).pass.isSome = true ∧ ((s.thread th).state = .run ∨ (s.thread th).state = .wait) ∧ (s.cluster th.cluster).budget ≤ (s.thread th).issued ∧ (s.thread th).spec.prov = true ∧
      (s.thread th).spec.compare = .open_ ∧ (s.thread th).spec.heldFault = none) (fun s s' => s'.thread th = { s.thread th with spec := { (s.thread th).spec with heldFault := some (6, (s.thread th).issued) } } ∧ s'.pkts = s.pkts)) ∧
  (∀ (th : ThreadId) (e : PassEnd) (k : Nat), Completes (.passEnd · th e) (fun s => s.canRun th = true ∧ (s.thread th).spec.prov = false ∧ s.verdictDue th = false ∧ s.verdictBad th = false ∧ s.isResident th = false ∧ e.malformed = true ∧ s.isSup th = false ∧ (s.cluster th.cluster).faults.length < 64 ∧ (s.thread th).pass = some k) (fun s s' => (s'.cluster th.cluster).faults = ((s.cluster th.cluster).postFault s.cclk (s.faultRecord th 0x0A e.pointer)).faults ∧ (s'.pkt k).live = false)) ∧
  (∀ (th : ThreadId) (e : PassEnd), Completes (.passEnd · th e) (fun s => s.canRun th = true ∧ s.isResident th = true) (fun s s' => (s'.thread th).state = .run ∧ (s'.thread th).pc = s.entryOf th ∧ (s'.thread th).pass = none ∧ (s'.thread th).regs = (s.thread th).regs ∧ (s'.thread th).mem = (s.thread th).mem)) ∧
  (∀ (th : ThreadId) (e : PassEnd) (k : Nat), Completes (.passEnd · th e) (fun s => s.canRun th = true ∧ (s.thread th).spec.prov = false ∧ s.verdictDue th = false ∧ s.verdictBad th = false ∧ s.isResident th = false ∧ (s.thread th).pass = some k ∧ e.malformed = false ∧ e.drop = true) (fun s s' => (s'.pkt k).live = false ∧ s'.act.editQ = s.act.editQ)) ∧
  (∀ (th : ThreadId) (e : PassEnd) (k : Nat) (l : Bytes), Completes (.passEnd · th e) (fun s => s.canRun th = true ∧ (s.thread th).spec.prov = false ∧ s.verdictDue th = false ∧ s.verdictBad th = false ∧ s.isResident th = false ∧ (s.thread th).pass = some k ∧ e.malformed = false ∧ e.drop = false ∧ s.resolveList (s.thread th).domain e.pointer = some l) (fun s s' => look s'.act.editQ th.cluster [] = look s.act.editQ th.cluster [] ++ [k] ∧ (s'.pkt k).list = l ∧ (s'.pkt k).pointer = e.pointer ∧ (s'.pkt k).desc = fillDesc (s.thread th) (s.pkt k) ∧ (s'.pkt k).bytes = (s.pkt k).bytes)) ∧
  (∀ (th : ThreadId) (e : PassEnd) (k : Nat), Completes (.passEnd · th e) (fun s => s.canRun th = true ∧ (s.thread th).spec.prov = false ∧ s.verdictDue th = false ∧ s.verdictBad th = false ∧ s.isResident th = false ∧ (s.thread th).pass = some k ∧ e.malformed = false ∧ e.drop = false ∧ s.resolveList (s.thread th).domain e.pointer = none ∧ s.isSup th = false ∧ (s.cluster th.cluster).faults.length < 64) (fun s s' => (s'.cluster th.cluster).faults = ((s.cluster th.cluster).postFault s.cclk (s.faultRecord th 0x0A e.pointer)).faults ∧ (s'.pkt k).live = false))

/-- Engines and clusters (R216, R217, R230–R232, R436, R442). -/
def Obligations.ClustersComplete : Prop :=
  (∀ (cluster : Nat) (engine : Nat) (waiting : List Nat) (ops : List BundleOp) (th : ThreadId), Completes (.engineIssue · cluster engine waiting ops) (fun s => cluster < 32 ∧ engine < 16 ∧ s.healthy 4 cluster = true ∧ (s.engine cluster engine).issuedAt ≠ s.cclk + 1 ∧ (s.engine cluster engine).next = none ∧ ops = [] ∧ (s.engine cluster engine).pointer < 64 ∧ th = { cluster := cluster, engine := engine, thread := (s.engine cluster engine).slot (s.engine cluster engine).pointer } ∧ s.ready th waiting = true) (fun s s' => (s'.engine cluster engine).pointer = ((s.engine cluster engine).pointer + 1) % 64 ∧ (s'.thread th).issued = (s.thread th).issued + 1 ∧ (s'.thread th).pc = (s.thread th).pc + 1 ∧ (s'.thread th).last = (s.thread th).pc ∧ (s'.thread th).regs = (s.thread th).regs)) ∧
  (∀ (cluster : Nat) (engine : Nat) (waiting : List Nat) (ops : List BundleOp), Completes (.engineIssue · cluster engine waiting ops) (fun s => cluster < 32 ∧ engine < 16 ∧ s.healthy 4 cluster = true ∧ (s.engine cluster engine).issuedAt ≠ s.cclk + 1 ∧ (s.engine cluster engine).next = none ∧ (∀ i, i < 16 → s.ready { cluster := cluster, engine := engine, thread := i } waiting = false) ∧ (∀ i, i < 64 → (s.engine cluster engine).slot i < 16) ∧
      (∀ i, i < 16 → (s.thread { cluster := cluster, engine := engine, thread := i }).mask &&& unstatedEvents = 0)) (fun s s' => (s'.engine cluster engine).pointer = ((s.engine cluster engine).pointer + 1) % 64 ∧ s'.eng.threads = s.eng.threads)) ∧
  (∀ (cluster : Nat) (engine : Nat) (waiting : List Nat) (ops : List BundleOp), Completes (.engineIssue · cluster engine waiting ops) (fun s => (s.engine cluster engine).issuedAt = s.cclk + 1) (fun s s' => s' = s)) ∧
  (∀ (cluster : Nat) (engine : Nat) (l : List Nat), Completes (.slotTableSwitch · cluster engine) (fun s => (s.engine cluster engine).next = some l ∧ (s.engine cluster engine).pointer = 0 ∧ l.length = 64) (fun _ s' => (∀ i, i < 64 → some ((s'.engine cluster engine).slot i) = l[i]?) ∧ (s'.engine cluster engine).next = none ∧ (s'.engine cluster engine).pointer = 0)) ∧
  (∀ (cluster : Nat) (engine : Nat), Completes (.slotTableSwitch · cluster engine) (fun s => (s.engine cluster engine).pointer ≠ 0) (fun s s' => s'.engine cluster engine = s.engine cluster engine)) ∧
  (∀ (cluster : Nat) (x : State) (sup : ThreadId) (q : Nat), Completes (.allwaitDetect · cluster) (fun s => x = s.quietAt cluster ∧ sup = { cluster := cluster, engine := (x.cluster cluster).supEngine, thread := (x.cluster cluster).supThread } ∧ (x.cluster cluster).quiet = some q ∧ q + 6000 * (x.cluster cluster).allwaitUs < s.now ∧ (x.cluster cluster).recorded = none ∧ (x.cluster cluster).stall = false ∧
      (x.cluster cluster).allwait = false ∧ (x.thread sup).state = .wait ∧ (x.thread sup).waiting = .events ∧ bit (x.thread sup).mask 31 = true ∧ (x.cluster cluster).faults.length < 64) (fun s s' => (s'.cluster cluster).allwait = true ∧ (s'.cluster cluster).faults = ((x.cluster cluster).postFault s.cclk (x.faultRecord sup 7 (x.watched cluster).length)).faults ∧ (s'.cluster cluster).recorded = some s.now ∧ (s'.cluster cluster).stall = false ∧ (s'.thread sup).state = .run ∧ bit (s'.thread sup).returned 31 = true)) ∧
  (∀ (cluster : Nat) (x : State) (sup : ThreadId) (q : Nat), Completes (.allwaitDetect · cluster) (fun s => x = s.quietAt cluster ∧ sup = { cluster := cluster, engine := (x.cluster cluster).supEngine, thread := (x.cluster cluster).supThread } ∧ (x.cluster cluster).quiet = some q ∧ q + 6000 * (x.cluster cluster).allwaitUs < s.now ∧ (x.cluster cluster).recorded = none ∧ (x.cluster cluster).stall = false ∧
      ((x.thread sup).state ≠ .wait ∨ (x.thread sup).waiting ≠ .events ∨ bit (x.thread sup).mask 31 = false ∨ 64 ≤ (x.cluster cluster).faults.length)) (fun _ s' => (s'.cluster cluster).allwait = true ∧ (s'.cluster cluster).stall = true ∧ (s'.cluster cluster).draining = true ∧ (s'.cluster cluster).faults = (x.cluster cluster).faults)) ∧
  (∀ (cluster : Nat) (x : State) (q : Nat), Completes (.allwaitDetect · cluster) (fun s => x = s.quietAt cluster ∧ (x.cluster cluster).quiet = some q ∧ s.now ≤ q + 6000 * (x.cluster cluster).allwaitUs) (fun _ s' => s' = x)) ∧
  (∀ (cluster : Nat) (x : State) (q r : Nat), Completes (.allwaitEscalate · cluster) (fun s => x = s.quietAt cluster ∧ (x.cluster cluster).quiet = some q ∧ (x.cluster cluster).recorded = some r ∧ r + 6000 * (x.cluster cluster).allwaitUs < s.now ∧ (x.cluster cluster).stall = false) (fun _ s' => (s'.cluster cluster).stall = true ∧ (s'.cluster cluster).draining = true ∧ (s'.cluster cluster).faults = (x.cluster cluster).faults)) ∧
  (∀ (cluster : Nat), Completes (.clusterStallRecovery · cluster) (fun s => (s.cluster cluster).stall = true ∧ cluster < 32) (fun s s' => (∀ e i, e < 16 → i < 16 → (s'.thread { cluster := cluster, engine := e, thread := i }).pass = none) ∧ (s'.cluster cluster).stall = false ∧ (s'.cluster cluster).faults = [] ∧ (s'.cluster cluster).channels = [] ∧ (s'.cluster cluster).signals = [] ∧
      (s'.cluster cluster).supEngine = 0 ∧ (s'.cluster cluster).supThread = 0 ∧ (s'.cluster cluster).budget = 2048 ∧ (s'.cluster cluster).allwaitUs = 50 ∧ (s'.cluster cluster).profile = (s.cluster cluster).profile)) ∧
  (∀ (cluster : Nat), Completes (.clusterHealthWord · cluster) (fun s => cluster < 32 ∧ s.healthy 4 cluster = true) (fun s s' => s' = s.setCluster cluster { s.cluster cluster with health := s.now })) ∧
  (∀ (cluster : Nat) (uncorrectable : Bool) (other : Nat), Completes (.clusterFail · cluster uncorrectable) (fun s => cluster < 32 ∧ s.healthy 4 cluster = true ∧ (s.cluster cluster).stall = false ∧ (uncorrectable = true ∨ (s.cluster cluster).health + 90000 ≤ s.now) ∧ other < 32 ∧ other ≠ cluster ∧ s.healthy 4 other = true) (fun _ s' => s'.isOut 4 cluster = true ∧ ∀ i, i < 1024 → s'.steer i ≠ cluster)) ∧
  (∀ (cluster : Nat) (uncorrectable : Bool), Completes (.clusterFail · cluster uncorrectable) (fun s => cluster < 32 ∧ s.healthy 4 cluster = true ∧ (s.cluster cluster).stall = true ∧ (uncorrectable = true ∨ (s.cluster cluster).health + 90000 ≤ s.now)) (fun s s' => s'.isOut 4 cluster = false ∧ s'.cluster cluster = s.cluster cluster ∧ s'.units.lastSeq = s.units.lastSeq + 1 ∧ s'.parse = s.parse ∧ s'.pkts = s.pkts)) ∧
  (∀ (th : ThreadId), Completes (.threadStopped · th) (fun s => (s.thread th).stopDue = true ∧ ((s.thread th).state = .run ∨ (s.thread th).state = .wait)) (fun s s' => (s'.thread th).state = .stopped ∧ (s'.thread th).before = (s.thread th).state ∧ (s'.thread th).stopDue = false ∧ (s'.thread th).pass = (s.thread th).pass ∧ (s'.thread th).regs = (s.thread th).regs))

/-- The commands of 10 (R217, R226, R227, R230–R235). -/
def Obligations.EngineCommandsComplete : Prop :=
  (∀ (c : Cmd), Completes (.engSlotSet · c) (fun s => ready s c 0x0701 .d0 = true ∧ c.u8 16 < 32 ∧ c.u8 17 < 16 ∧ c.zeros 18 2 = none ∧ c.zeros 52 12 = none ∧ s.healthy 4 (c.u8 16) = true) (fun s s' => s' = (s.setEngine (c.u8 16) (c.u8 17) { s.engine (c.u8 16) (c.u8 17) with next := some ((List.range 64).map fun i => c.u8 (20 + i / 2) / 16 ^ (i % 2) % 16) }).answer c .ok 0 0 [])) ∧
  (∀ (c : Cmd), Completes (.engSlotSet · c) (fun s => ready s c 0x0701 .d0 = true ∧ c.u8 16 < 32 ∧ c.u8 17 = 0xFF ∧ c.zeros 18 2 = none ∧ c.zeros 52 12 = none ∧ s.healthy 4 (c.u8 16) = true) (fun s s' => s' = (each (fun e s => s.setEngine (c.u8 16) e { s.engine (c.u8 16) e with next := some ((List.range 64).map fun i => c.u8 (20 + i / 2) / 16 ^ (i % 2) % 16) }) (List.range 16) s).answer c .ok 0 0 [])) ∧
  (∀ (c : Cmd) (th : ThreadId), Completes (.engConfig · c) (fun s => ready s c 0x0702 .d0 = true ∧ c.u8 16 < 32 ∧ 1 ≤ c.u16 18 ∧ 256 ≤ c.u32 20 ∧ c.u32 20 ≤ 65520 ∧ c.u32 20 % 16 = 0 ∧ c.u8 24 ≤ 1 ∧ c.zeros 25 39 = none ∧ s.healthy 4 (c.u8 16) = true ∧
      th = { cluster := c.u8 16, engine := c.u8 17 / 16, thread := c.u8 17 % 16 } ∧ ((s.thread th).state = .empty ∨ s.isResident th = true)) (fun s s' => ∃ k, k.supEngine = c.u8 17 / 16 ∧ k.supThread = c.u8 17 % 16 ∧ k.allwaitUs = c.u16 18 ∧ k.budget = c.u32 20 ∧ (c.u8 24 = 0 → k.allwait = (s.cluster (c.u8 16)).allwait ∧ k.snap = (s.cluster (c.u8 16)).snap) ∧
      (c.u8 24 = 1 → k.allwait = false ∧ k.snap = [] ∧ k.snapThreads = 0) ∧ k.faults = (s.cluster (c.u8 16)).faults ∧ k.channels = (s.cluster (c.u8 16)).channels ∧
      s' = ((((s.setCluster (c.u8 16) k).wakeCluster (c.u8 16)).refeed (c.u8 16)).quietAt (c.u8 16)).answer c .ok 0 0 [])) ∧
  (∀ (c : Cmd) (th : ThreadId), Completes (.threadDebug · c) (fun s => ready s c 0x0703 .d0 = true ∧ th = { cluster := c.u8 16, engine := c.u8 17, thread := c.u8 18 } ∧ firstErr (threadDebugErrs true c th s) = none ∧ ((c.u8 19 = 3 ∨ c.u8 19 = 5) → c.needReply = none)) (fun s s' => s' = (threadDebugDone (c.u8 19) th s).answer c .ok 0 (threadDebugBytes c s).length (threadDebugBytes c s))) ∧
  (∀ (c : Cmd) (th : ThreadId) (k : Nat), Completes (.threadDebug · c) (fun s => ready s c 0x0703 .d0 = true ∧ th = { cluster := c.u8 16, engine := c.u8 17, thread := c.u8 18 } ∧ firstErr (threadDebugErrs true c th s) = none ∧ c.u8 19 = 2 ∧ (s.thread th).pass = some k) (fun s s' => ∃ x : State, s' = x.answer c .ok 0 0 [] ∧ (x.thread th).state ≠ .stopped ∧ (x.pkt k).live = false ∧ look x.eng.kills (s.thread th).domain 0 = (look s.eng.kills (s.thread th).domain 0 + 1) % 2 ^ 64)) ∧
  (∀ (c : Cmd) (th : ThreadId), Completes (.threadDebug · c) (fun s => ready s c 0x0703 .d0 = true ∧ th = { cluster := c.u8 16, engine := c.u8 17, thread := c.u8 18 } ∧ firstErr (threadDebugErrs true c th s) = none ∧ c.u8 19 = 0 ∧ ((s.thread th).state = .run ∨ (s.thread th).state = .wait)) (fun s s' => s' = (s.setThread th { s.thread th with stopDue := true }).answer c .ok 0 0 [])) ∧
  (∀ (c : Cmd) (th : ThreadId), Completes (.threadDebug · c) (fun s => ready s c 0x0703 .d0 = true ∧ th = { cluster := c.u8 16, engine := c.u8 17, thread := c.u8 18 } ∧ firstErr (threadDebugErrs true c th s) = none ∧ c.needReply = none ∧ c.u8 19 = 3) (fun s s' => s' = s.answer c .ok 0 600 (s.threadRecord th) ∧ (s.threadRecord th).length = 600)) ∧
  (∀ (c : Cmd) (th : ThreadId), Completes (.threadDebug · c) (fun s => ready s c 0x0703 .d0 = true ∧ th = { cluster := c.u8 16, engine := c.u8 17, thread := c.u8 18 } ∧ firstErr (threadDebugErrs true c th s) = none ∧ c.u8 19 = 1 ∧ (s.thread th).before = .run ∧ (s.thread th).waiting = .none ∧ (s.thread th).spec.prov = false ∧ (s.thread th).spec.heldFault = none) (fun s s' => ∃ x : State, s' = x.answer c .ok 0 0 [] ∧ x.thread th = { s.thread th with state := .run, stepping := false })) ∧
  (∀ (c : Cmd) (b : BufRead) (size n : Nat), Completes (.profileWrite · c b) (fun s => ready s c 0x0704 .any = true ∧ c.u64 16 = 0 ∧ s.layoutOf (c.u8 30) = some (size, n) ∧ size ≤ 24 ∧ c.u32 24 = size ∧ s.ownErr c 3 (c.u16 28) = none ∧ c.zeros 31 1 = none ∧ c.u32 32 < n ∧ c.zeros 36 4 = none) (fun s s' => s' = (s.setEntry ((c.u16 28 * 64 + c.u8 30) * 2 ^ 32 + c.u32 32) (slice c.params 24 size)).answer c .ok 0 0 [])) ∧
  (∀ (c : Cmd) (b : BufRead) (size n : Nat), Completes (.profileWrite · c b) (fun s => ready s c 0x0704 .any = true ∧ c.u64 16 ≠ 0 ∧ c.bufferErr = none ∧ b.err = none ∧ s.layoutOf (c.u8 30) = some (size, n) ∧ c.u32 24 = size ∧ s.ownErr c 3 (c.u16 28) = none ∧ c.zeros 31 1 = none ∧ c.u32 32 < n ∧ c.zeros 36 4 = none) (fun s s' => s' = (s.setEntry ((c.u16 28 * 64 + c.u8 30) * 2 ^ 32 + c.u32 32) (b.bytes c)).answer c .ok 0 0 []))

/-- Table commands (R177, R186–R188, R191, R195, R200–R202). -/
def Obligations.TableCommandsComplete : Prop :=
  (∀ (c : Cmd), Completes (.tableCreate · c) (fun s => ready s c 0x0500 .any = true ∧ firstErr (tableCreateErrs c s) = none) (fun s s' => ∃ x : State, s' = x.answer c .ok 0 0 [] ∧ x.table (c.u16 16) = createdTable c s.now ∧ (createdTable c s.now).entries = [] ∧ (createdTable c s.now).routes = [] ∧
      x.tableGen (c.u16 16) = (s.tableGen (c.u16 16) + 1) % 2 ^ 32 ∧ (∀ k, k ≠ c.u16 16 → x.table k = s.table k) ∧ x.tables.ports = s.tables.ports)) ∧
  (∀ (c : Cmd), Completes (.tableDestroy · c) (fun s => ready s c 0x0501 .any = true ∧ s.tableErr c 16 = none ∧ c.zeros 18 46 = none ∧ s.tableBusy (c.u16 16) = false) (fun s s' => ∃ x : State, s' = x.answer c .ok 0 0 [] ∧ x.table (c.u16 16) = {} ∧ (∀ k, k ≠ c.u16 16 → x.table k = s.table k) ∧ ((s.table (c.u16 16)).entries = [] → x = s.setTable (c.u16 16) {}))) ∧
  (∀ (c : Cmd), Completes (.tableDestroy · c) (fun s => ready s c 0x0501 .any = true ∧ s.tableErr c 16 = none ∧ c.zeros 18 46 = none ∧ s.tableBusy (c.u16 16) = true) (fun s s' => s' = s.answer c .busy 0 0 [])) ∧
  (∀ (c : Cmd) (x : Table) (p : Nat), Completes (.tableInsert · c) (fun s => ready s c 0x0502 .any = true ∧ s.keyWaits (c.u16 16) (cmdKey c) = false ∧ firstErr (tableWriteErrs c s) = none ∧ x = s.table (c.u16 16) ∧ x.find (cmdKey c) = none ∧ x.plan (cmdKey c) = some ([], p) ∧ x.bankLost = false ∧ s.bucketUp x (p / 4) = true) (fun s s' => ∃ y : State, s' = y.answer c .ok 0 0 [] ∧ (∀ q, (y.table (c.u16 16)).entry q = if q = p then { valid := true, key := cmdKey c, result := c.u64 24, port := c.u8 19, isStatic := c.u8 18 = 1, hit := true, once := false, stamp := s.nowMs } else x.entry q) ∧
      (∀ k, k ≠ c.u16 16 → y.table k = s.table k) ∧ y.tables.ports = s.tables.ports)) ∧
  (∀ (c : Cmd) (x : Table) (pl : List (Nat × Nat) × Nat), Completes (.tableInsert · c) (fun s => ready s c 0x0502 .any = true ∧ s.keyWaits (c.u16 16) (cmdKey c) = false ∧ firstErr (tableWriteErrs c s) = none ∧ x = s.table (c.u16 16) ∧ x.find (cmdKey c) = none ∧ x.plan (cmdKey c) = some pl ∧ x.bankLost = false ∧ (planBuckets pl).all (s.bucketUp x) = true) (fun s s' => s' = (s.setTable (c.u16 16) (x.execute pl { valid := true, key := cmdKey c, result := c.u64 24, port := c.u8 19, isStatic := c.u8 18 = 1, hit := true, once := false, stamp := s.nowMs })).answer c .ok 0 0 [])) ∧
  (∀ (c : Cmd) (x : Table) (p : Nat), Completes (.tableInsert · c) (fun s => ready s c 0x0502 .any = true ∧ s.keyWaits (c.u16 16) (cmdKey c) = false ∧ firstErr (tableWriteErrs c s) = none ∧ x = s.table (c.u16 16) ∧ x.find (cmdKey c) = some p ∧ s.bucketUp x (p / 4) = true) (fun s s' => ∃ y : State, s' = y.answer c .ok 0 0 [] ∧ (∀ q, (y.table (c.u16 16)).entry q = if q = p then { valid := true, key := cmdKey c, result := c.u64 24, port := c.u8 19, isStatic := c.u8 18 = 1, hit := true, once := false, stamp := s.nowMs, learned := (x.entry p).learned } else x.entry q) ∧
      (∀ k, k ≠ c.u16 16 → y.table k = s.table k) ∧ ((x.entry p).learned = false → y.tables.ports = s.tables.ports))) ∧
  (∀ (c : Cmd) (x : Table) (p : Nat), Completes (.tableUpdate · c) (fun s => ready s c 0x0503 .any = true ∧ s.keyWaits (c.u16 16) (cmdKey c) = false ∧ firstErr (tableWriteErrs c s) = none ∧ x = s.table (c.u16 16) ∧ x.find (cmdKey c) = some p ∧ s.bucketUp x (p / 4) = true) (fun s s' => ∃ y : State, s' = y.answer c .ok 0 0 [] ∧ (∀ q, (y.table (c.u16 16)).entry q = if q = p then { valid := true, key := cmdKey c, result := c.u64 24, port := c.u8 19, isStatic := c.u8 18 = 1, hit := true, once := false, stamp := s.nowMs, learned := (x.entry p).learned } else x.entry q) ∧
      (∀ k, k ≠ c.u16 16 → y.table k = s.table k) ∧ ((x.entry p).learned = false → y.tables.ports = s.tables.ports))) ∧
  (∀ (c : Cmd) (x : Table), Completes (.tableInsert · c) (fun s => ready s c 0x0502 .any = true ∧ s.keyWaits (c.u16 16) (cmdKey c) = false ∧ firstErr (tableWriteErrs c s) = none ∧ x = s.table (c.u16 16) ∧ x.find (cmdKey c) = none ∧ x.plan (cmdKey c) = none) (fun s s' => s' = s.answer c .tableFull 0 0 [])) ∧
  (∀ (c : Cmd) (x : Table), Completes (.tableUpdate · c) (fun s => ready s c 0x0503 .any = true ∧ s.keyWaits (c.u16 16) (cmdKey c) = false ∧ firstErr (tableWriteErrs c s) = none ∧ x = s.table (c.u16 16) ∧ s.findUp x (cmdKey c) = none) (fun s s' => s' = s.answer c .notFound 0 0 [])) ∧
  (∀ (c : Cmd) (x : Table) (p : Nat), Completes (.tableDelete · c) (fun s => ready s c 0x0504 .any = true ∧ firstErr [s.tableErr c 16, at_ 16 (2 ≤ x.kind), c.zeros 18 14, at_ 32 (cmdKey c < 2 ^ x.keyBits), c.zeros 48 16] = none ∧ x = s.table (c.u16 16) ∧ s.findUp x (cmdKey c) = some p ∧ s.removeWaits (c.u16 16) p = false) (fun s s' => ∃ y : State, s' = y.answer c .ok 0 0 [] ∧ y.table (c.u16 16) = x.remove (s.bucketUp x) p ∧ (∀ k, k ≠ c.u16 16 → y.table k = s.table k) ∧ ((x.entry p).learned = false → y.tables.ports = s.tables.ports))) ∧
  (∀ (c : Cmd) (x : Table), Completes (.tableDelete · c) (fun s => ready s c 0x0504 .any = true ∧ firstErr [s.tableErr c 16, at_ 16 (2 ≤ x.kind), c.zeros 18 14, at_ 32 (cmdKey c < 2 ^ x.keyBits), c.zeros 48 16] = none ∧ x = s.table (c.u16 16) ∧ s.findUp x (cmdKey c) = none) (fun s s' => s' = s.answer c .notFound 0 0 [])) ∧
  (∀ (c : Cmd) (x : Table) (p : Nat), Completes (.tableSearch · c) (fun s => ready s c 0x0505 .any = true ∧ c.needReply = none ∧ s.tableErr c 16 = none ∧ c.zeros 18 14 = none ∧ x = s.table (c.u16 16) ∧ 2 ≤ x.kind ∧ cmdKey c < 2 ^ x.keyBits ∧ c.zeros 48 16 = none ∧ s.findKey x (cmdKey c) = some p) (fun s s' => s' = s.answer c .ok 0 32 (x.entry p).bytes)) ∧
  (∀ (c : Cmd) (x : Table), Completes (.tableSearch · c) (fun s => ready s c 0x0505 .any = true ∧ c.needReply = none ∧ s.tableErr c 16 = none ∧ c.zeros 18 14 = none ∧ x = s.table (c.u16 16) ∧ 2 ≤ x.kind ∧ cmdKey c < 2 ^ x.keyBits ∧ c.zeros 48 16 = none ∧ s.findKey x (cmdKey c) = none) (fun s s' => s' = s.answer c .notFound 0 0 [])) ∧
  (∀ (c : Cmd) (x : Table) (a : Nat) (r : Route), Completes (.tableSearch · c) (fun s => ready s c 0x0505 .any = true ∧ c.needReply = none ∧ s.tableErr c 16 = none ∧ c.zeros 18 14 = none ∧ x = s.table (c.u16 16) ∧ c.zeros 48 16 = none ∧
      ((x.kind = 0 ∧ c.zeros 36 12 = none ∧ a = beAt (slice c.params 16 16) 0 4 * 2 ^ 96) ∨ (x.kind = 1 ∧ a = beAt (slice c.params 16 16) 0 16)) ∧ bestRoute a (s.routesOf x) = some r) (fun s s' => s' = s.answer c .ok 0 24 r.bytes)) ∧
  (∀ (c : Cmd), Completes (.tableNext · c) (fun s => ready s c 0x0506 .any = true ∧ c.needReply = none ∧ s.tableErr c 16 = none ∧ 1 ≤ c.u8 18 ∧ c.u8 18 ≤ 64 ∧ c.zeros 19 5 = none ∧ c.zeros 48 16 = none ∧ ((slice c.params 8 24).all (· = 0) = true ∨ c.u32 24 = s.tableGen (c.u16 16))) (fun s s' => s' = s.answer c .ok 0 (tableWalk c s).2.length ((tableWalk c s).1 ++ List.replicate 8 0 ++ (tableWalk c s).2.flatten) ∧ (tableWalk c s).2.length ≤ c.u8 18)) ∧
  (∀ (c : Cmd), Completes (.tableNext · c) (fun s => ready s c 0x0506 .any = true ∧ c.needReply = none ∧ s.tableErr c 16 = none ∧ 1 ≤ c.u8 18 ∧ c.u8 18 ≤ 64 ∧ c.zeros 19 5 = none ∧ c.zeros 48 16 = none ∧ c.u32 24 ≠ 0 ∧ c.u32 24 ≠ s.tableGen (c.u16 16)) (fun s s' => s' = s.answer c .stale 0 0 [])) ∧
  (∀ (c : Cmd) (ks : List Nat), Completes (.tableFlushPort · c) (fun s => ready s c 0x0507 .any = true ∧ s.tableBusy (c.u16 16) = false ∧ firstErr [s.tableErr c 16, at_ 16 (2 ≤ (s.table (c.u16 16)).kind), s.ownErr c 1 (c.u8 18), at_ 19 (c.u8 19 ≤ 1), c.zeros 20 44] = none ∧
      ks = ((s.table (c.u16 16)).entries.filter fun r => r.2.valid && decide (r.2.port = c.u8 18) && (decide (c.u8 19 = 1) || r.2.learned) && s.bucketUp (s.table (c.u16 16)) (r.1 / 4)).map fun r => r.2.key) (fun s s' => s' = (each (State.flushKey (c.u16 16)) ks s).answer c .ok 0 ks.length [])) ∧
  (∀ (c : Cmd), Completes (.learnConfig · c) (fun s => ready s c 0x050B .any = true ∧ s.ownErr c 1 (c.u8 16) = none ∧ c.u8 17 ≤ 1 ∧ c.zeros 18 2 = none ∧ c.u32 20 ≤ 4194304 ∧ c.zeros 24 40 = none ∧ ((s.learnPort (c.u8 16)).charge ≠ c.u32 20 ∨ (s.learnPort (c.u8 16)).atLimit = true)) (fun s s' => s' = ({ s with tables := { s.tables with ports := put s.tables.ports (c.u8 16) {} { s.learnPort (c.u8 16) with limit := c.u32 20, flood := c.u8 17 = 1 } } }).answer c .ok 0 0 [])) ∧
  (∀ (c : Cmd), Completes (.learnConfig · c) (fun s => ready s c 0x050B .any = true ∧ s.ownErr c 1 (c.u8 16) = none ∧ c.u8 17 ≤ 1 ∧ c.zeros 18 2 = none ∧ c.u32 20 ≤ 4194304 ∧ c.zeros 24 40 = none) (fun s s' => s' = (s.setLearnPort (c.u8 16) { s.learnPort (c.u8 16) with limit := c.u32 20, flood := c.u8 17 = 1 }).answer c .ok 0 0 [])) ∧
  (∀ (c : Cmd) (x : Table), Completes (.tableAge · c) (fun s => ready s c 0x050C .any = true ∧ firstErr ([s.tableErr c 16, at_ 18 (c.u8 18 ≤ 2), c.zeros 19 1] ++ ageErrs c (c.u8 18) 20 24 ++ [c.zeros 28 36]) = none ∧ s.tableBusy (c.u16 16) = false ∧ x = s.table (c.u16 16) ∧ x.kind = 2 ∧ x.age.mode = 0) (fun s s' => s' = (s.setTable (c.u16 16) { x with age := { mode := c.u8 18, sweepMs := c.u32 20, limitMs := c.u32 24 }, period := s.now, swept := 0 }).answer c .ok 0 0 [])) ∧
  (∀ (c : Cmd) (x : Table), Completes (.tableAge · c) (fun s => ready s c 0x050C .any = true ∧ firstErr ([s.tableErr c 16, at_ 18 (c.u8 18 ≤ 2), c.zeros 19 1] ++ ageErrs c (c.u8 18) 20 24 ++ [c.zeros 28 36]) = none ∧ s.tableBusy (c.u16 16) = false ∧ x = (s.table (c.u16 16)).settle s.now ∧ x.kind = 2 ∧ x.age.mode ≠ 0) (fun s s' => s' = (s.setTable (c.u16 16) { x with nextAge := some { mode := c.u8 18, sweepMs := c.u32 20, limitMs := c.u32 24 } }).answer c .ok 0 0 [])) ∧
  (∀ (c : Cmd), Completes (.tableLimit · c) (fun s => ready s c 0x050D .d0 = true ∧ c.u8 16 < 16 ∧ c.zeros 17 3 = none ∧ c.zeros 28 36 = none) (fun s s' => ∃ x : State, s' = x.answer c .ok 0 0 [] ∧ tableAllow x.tables.unitAllow (c.u8 16) = c.u32 20 ∧ tableAllow x.tables.entryAllow (c.u8 16) = c.u32 24 ∧ x = { s with tables := { s.tables with unitAllow := x.tables.unitAllow, entryAllow := x.tables.entryAllow } }))

/-- Routes and table DMA (R180, R183, R198, R199). -/
def Obligations.RoutesComplete : Prop :=
  (∀ (c : Cmd) (b : BufRead) (x : Table) (r : Route), Completes (.lpmAdd · c b) (fun s => ready s c 0x0509 .any = true ∧ c.bufferErr = none ∧ c.u32 32 = 1 ∧ c.u32 24 = 24 ∧ s.tableErr c 28 = none ∧ x = s.table (c.u16 28) ∧ x.kind < 2 ∧ c.zeros 30 2 = none ∧ c.zeros 36 28 = none ∧ b.err = none ∧
      r = routeOf (b.bytes c) 0 ∧ firstErr (routeErrs x (b.bytes c) 0) = none ∧ firstErr (addErrs s c (c.u16 28) r) = none) (fun s s' => ∃ y : State, s' = y.answer c .ok 0 1 [] ∧ y.table (c.u16 28) = { x with routes := addRoute r x.routes } ∧ (∀ k, k ≠ c.u16 28 → y.table k = s.table k))) ∧
  (∀ (c : Cmd) (b : BufRead) (x : Table) (r : Route), Completes (.lpmDelete · c b) (fun s => ready s c 0x050A .any = true ∧ c.bufferErr = none ∧ c.u32 32 = 1 ∧ c.u32 24 = 24 ∧ s.tableErr c 28 = none ∧ x = s.table (c.u16 28) ∧ x.kind < 2 ∧ c.zeros 30 2 = none ∧ c.zeros 36 28 = none ∧ b.err = none ∧
      r = routeOf (b.bytes c) 0 ∧ firstErr (routeErrs x (b.bytes c) 0) = none ∧ x.hasRoute r.pfx r.len = true) (fun _ s' => ∃ y : State, s' = y.answer c .ok 0 1 [] ∧ (y.table (c.u16 28)).hasRoute r.pfx r.len = false ∧ (∀ q, q ∈ (y.table (c.u16 28)).routes → q ∈ x.routes) ∧
      (∀ q, q ∈ x.routes → (q.pfx ≠ r.pfx ∨ q.len ≠ r.len) → q ∈ (y.table (c.u16 28)).routes))) ∧
  (∀ (c : Cmd) (b : BufRead) (x : Table) (r : Route), Completes (.lpmDelete · c b) (fun s => ready s c 0x050A .any = true ∧ c.bufferErr = none ∧ c.u32 32 = 1 ∧ c.u32 24 = 24 ∧ s.tableErr c 28 = none ∧ x = s.table (c.u16 28) ∧ x.kind < 2 ∧ c.zeros 30 2 = none ∧ c.zeros 36 28 = none ∧ b.err = none ∧
      r = routeOf (b.bytes c) 0 ∧ firstErr (routeErrs x (b.bytes c) 0) = none ∧ x.hasRoute r.pfx r.len = false) (fun s s' => s' = s.answer c .notFound 0 0 [])) ∧
  (∀ (c : Cmd) (b : BufRead) (x : Table) (r : State × Nat × Option Err), Completes (.lpmAdd · c b) (fun s => ready s c 0x0509 .any = true ∧ c.bufferErr = none ∧ c.u32 24 = c.u32 32 * 24 ∧ s.tableErr c 28 = none ∧ x = s.table (c.u16 28) ∧ x.kind < 2 ∧ c.zeros 30 2 = none ∧ c.zeros 36 28 = none ∧ b.err = none ∧
      r = lpmRun true c (b.bytes c) (List.range (c.u32 32)) 0 s ∧ r.2.2 = none) (fun s s' => ∃ y : State, s' = y.answer c .ok 0 (c.u32 32) [] ∧ (y.table (c.u16 28)).routes = (List.range (c.u32 32)).foldl (fun l i => addRoute (routeOf (b.bytes c) (24 * i)) l) x.routes ∧ (∀ k, k ≠ c.u16 28 → y.table k = s.table k))) ∧
  (∀ (c : Cmd) (b : BufRead) (x : Table) (r : State × Nat × Option Err) (e : Err), Completes (.lpmAdd · c b) (fun s => ready s c 0x0509 .any = true ∧ c.bufferErr = none ∧ c.u32 24 = c.u32 32 * 24 ∧ s.tableErr c 28 = none ∧ x = s.table (c.u16 28) ∧ x.kind < 2 ∧ c.zeros 30 2 = none ∧ c.zeros 36 28 = none ∧ b.err = none ∧
      r = lpmRun true c (b.bytes c) (List.range (c.u32 32)) 0 s ∧ r.2.2 = some e) (fun _ s' => s' = r.1.answer c e.status e.detail r.2.1 [])) ∧
  (∀ (c : Cmd) (b : BufRead) (x : Table) (r : State × Nat × Option Err), Completes (.lpmDelete · c b) (fun s => ready s c 0x050A .any = true ∧ c.bufferErr = none ∧ c.u32 24 = c.u32 32 * 24 ∧ s.tableErr c 28 = none ∧ x = s.table (c.u16 28) ∧ x.kind < 2 ∧ c.zeros 30 2 = none ∧ c.zeros 36 28 = none ∧ b.err = none ∧
      r = lpmRun false c (b.bytes c) (List.range (c.u32 32)) 0 s ∧ r.2.2 = none) (fun s s' => ∃ y : State, s' = y.answer c .ok 0 (c.u32 32) [] ∧ (y.table (c.u16 28)).routes = (List.range (c.u32 32)).foldl (fun l i => l.filter fun q => !(q.pfx = (routeOf (b.bytes c) (24 * i)).pfx && q.len = (routeOf (b.bytes c) (24 * i)).len)) x.routes ∧ (∀ k, k ≠ c.u16 28 → y.table k = s.table k))) ∧
  (∀ (c : Cmd) (b : BufRead) (x : Table) (r : State × Nat × Option Err) (e : Err), Completes (.lpmDelete · c b) (fun s => ready s c 0x050A .any = true ∧ c.bufferErr = none ∧ c.u32 24 = c.u32 32 * 24 ∧ s.tableErr c 28 = none ∧ x = s.table (c.u16 28) ∧ x.kind < 2 ∧ c.zeros 30 2 = none ∧ c.zeros 36 28 = none ∧ b.err = none ∧
      r = lpmRun false c (b.bytes c) (List.range (c.u32 32)) 0 s ∧ r.2.2 = some e) (fun _ s' => s' = r.1.answer c e.status e.detail r.2.1 [])) ∧
  (∀ (c : Cmd) (b : BufRead), Completes (.tableDma · c b) (fun s => ready s c 0x0508 .d0 = true ∧ s.tables.dma = none ∧ firstErr (tableDmaErrs c b s) = none ∧ c.u32 36 ≠ 0) (fun s s' => ∃ x : State, s' = x.keepWorking c ∧ x.tables.dma = some { cmd := c, table := c.u16 28, load := c.u8 30 = 0, first := c.u32 32, count := c.u32 36, lockAt := s.now, data := b.bytes c } ∧ x.tables.tables = s.tables.tables)) ∧
  (∀ (c : Cmd) (b : BufRead), Completes (.tableDma · c b) (fun s => ready s c 0x0508 .d0 = true ∧ s.tables.dma = none ∧ firstErr (tableDmaErrs c b s) = none ∧ c.u32 36 = 0) (fun s s' => s' = s.answer c .ok 0 0 [])) ∧
  (∀ (c : Cmd) (b : BufRead), Completes (.tableDma · c b) (fun s => s.tables.dma.isSome = true) (fun s s' => s' = s)) ∧
  (∀ (table : Nat) (bucket : Nat) (finished : Bool) (d : TableDma), Completes (.dmaLockRelease · table bucket finished) (fun s => s.tables.dma = some d ∧ d.table = table ∧ d.first + d.moved = bucket ∧ (s.table table).dying = [] ∧ finished = true ∧ s.now ≤ d.lockAt + 384 ∧ d.load = false ∧ d.moved + 1 = d.count ∧ s.bucketUp (s.table table) bucket = true) (fun s s' => s' = ({ s.emit (.long d.cmd.host (d.cmd.u64 16 + 144 * d.moved) ((s.table table).dumpRecord table bucket)) with tables := { s.tables with dma := none } }).answer d.cmd .ok 0 d.count [])) ∧
  (∀ (table : Nat) (bucket : Nat) (finished : Bool) (d : TableDma), Completes (.dmaLockRelease · table bucket finished) (fun s => s.tables.dma = some d ∧ d.table = table ∧ d.first + d.moved = bucket ∧ (s.table table).dying = [] ∧ finished = true ∧ s.now ≤ d.lockAt + 384 ∧ d.load = false ∧ d.moved + 1 ≠ d.count ∧ s.bucketUp (s.table table) bucket = true) (fun s s' => s' = { s.emit (.long d.cmd.host (d.cmd.u64 16 + 144 * d.moved) ((s.table table).dumpRecord table bucket)) with tables := { s.tables with dma := some { d with moved := d.moved + 1, abandoned := 0, lockAt := s.now } } })) ∧
  (∀ (table : Nat) (bucket : Nat) (finished : Bool) (d : TableDma), Completes (.dmaLockRelease · table bucket finished) (fun s => s.tables.dma = some d ∧ d.table = table ∧ d.first + d.moved = bucket ∧ (s.table table).dying = [] ∧ finished = true ∧ s.now ≤ d.lockAt + 384 ∧ d.load = true ∧ (s.table table).imageOk table bucket (slice d.data (144 * d.moved) 144) = true ∧ s.bucketUp (s.table table) bucket = true) (fun s s' => (∀ p, p / 4 = bucket → (s'.table table).entry p = entryOf (slice d.data (144 * d.moved) 144) (16 + 32 * (p % 4))) ∧ (∀ p, p / 4 ≠ bucket → (s'.table table).entry p = (s.table table).entry p) ∧
      s'.tables.dma = (if d.moved + 1 = d.count then none else some { d with moved := d.moved + 1, abandoned := 0, lockAt := s.now }))) ∧
  (∀ (table : Nat) (bucket : Nat) (finished : Bool) (d : TableDma) (e : Err), Completes (.dmaLockRelease · table bucket finished) (fun s => s.tables.dma = some d ∧ d.table = table ∧ d.first + d.moved = bucket ∧ (s.table table).dying = [] ∧ finished = true ∧ s.now ≤ d.lockAt + 384 ∧ s.bucketsErr (s.table table) [bucket] = some e) (fun s s' => s' = ({ s with tables := { s.tables with dma := none } }).answer d.cmd e.status e.detail d.moved [])) ∧
  (∀ (table : Nat) (bucket : Nat) (finished : Bool) (d : TableDma), Completes (.dmaLockRelease · table bucket finished) (fun s => s.tables.dma = some d ∧ d.table = table ∧ d.first + d.moved = bucket ∧ (s.table table).dying = [] ∧ finished = true ∧ s.now ≤ d.lockAt + 384 ∧ d.load = true ∧ (s.table table).imageOk table bucket (slice d.data (144 * d.moved) 144) = false ∧ s.bucketUp (s.table table) bucket = true) (fun s s' => s' = ({ s with tables := { s.tables with dma := none } }).answer d.cmd .invalidParam (0x02000000 + 144 * d.moved) d.moved [])) ∧
  (∀ (table : Nat) (bucket : Nat) (finished : Bool) (d : TableDma), Completes (.dmaLockRelease · table bucket finished) (fun s => s.tables.dma = some d ∧ d.table = table ∧ d.first + d.moved = bucket ∧ (finished = false ∨ d.lockAt + 384 < s.now) ∧ d.lockAt + 384 ≤ s.now ∧ d.abandoned < 2) (fun s s' => s' = { s with tables := { s.tables with dma := some { d with abandoned := d.abandoned + 1, lockAt := s.now } } })) ∧
  (∀ (table : Nat) (bucket : Nat) (finished : Bool) (d : TableDma), Completes (.dmaLockRelease · table bucket finished) (fun s => s.tables.dma = some d ∧ d.table = table ∧ d.first + d.moved = bucket ∧ (s.table table).dying = [] ∧ (finished = false ∨ d.lockAt + 384 < s.now) ∧ d.lockAt + 384 ≤ s.now ∧ d.abandoned = 2) (fun s s' => s' = ({ s with tables := { s.tables with dma := none } }).answer d.cmd .timeout 2 d.moved []))

/-- The engines of the tables (R190–R196). -/
def Obligations.TableEnginesComplete : Prop :=
  (∀ (h : HitWrite) (l : List HitWrite) (x : Table), Completes (.hitWrite ·) (fun s => s.tables.hits = h :: l ∧ x = s.table h.table ∧ x.live = true ∧ s.tableGen h.table = h.gen ∧ s.hitWaits h = false ∧ x.age.mode ≠ 2 ∧ (x.entry (x.placeOf h.handle)).valid = true ∧ (x.entry (x.placeOf h.handle)).key = h.key) (fun _ s' => s'.tables.hits = l ∧ s'.table h.table = x.setEntry (x.placeOf h.handle) { x.entry (x.placeOf h.handle) with hit := true })) ∧
  (∀ (h : HitWrite) (l : List HitWrite) (x : Table), Completes (.hitWrite ·) (fun s => s.tables.hits = h :: l ∧ x = s.table h.table ∧ x.live = true ∧ s.tableGen h.table = h.gen ∧ s.hitWaits h = false ∧ x.age.mode = 2 ∧ (x.entry (x.placeOf h.handle)).valid = true ∧ (x.entry (x.placeOf h.handle)).key = h.key) (fun s s' => s'.tables.hits = l ∧ s'.table h.table = x.setEntry (x.placeOf h.handle) { x.entry (x.placeOf h.handle) with stamp := s.nowMs })) ∧
  (∀ (h : HitWrite) (l : List HitWrite) (x : Table) (p : Nat), Completes (.hitWrite ·) (fun s => s.tables.hits = h :: l ∧ x = s.table h.table ∧ x.live = true ∧ s.tableGen h.table = h.gen ∧ s.hitWaits h = false ∧ ((x.entry (x.placeOf h.handle)).valid = false ∨ (x.entry (x.placeOf h.handle)).key ≠ h.key) ∧ x.find h.key = some p) (fun s s' => s'.tables.hits = l ∧ s'.table h.table = x.setEntry p (if x.age.mode = 2 then { x.entry p with stamp := s.nowMs } else { x.entry p with hit := true }))) ∧
  (∀ (h : HitWrite) (l : List HitWrite) (x : Table), Completes (.hitWrite ·) (fun s => s.tables.hits = h :: l ∧ s.hitWaits h = false ∧ x = s.table h.table ∧ (x.live = false ∨ s.tableGen h.table ≠ h.gen ∨ x.hitPlace h = none)) (fun s s' => s' = { s with tables := { s.tables with hits := l } })) ∧
  (∀ (table : Nat) (bucket : Nat) (x : Table) (p : Nat), Completes (.ageSweepVisit · table bucket) (fun s => x = s.table table ∧ x.live = true ∧ x.kind = 2 ∧ s.lockedBucket table bucket = false ∧ x.age.mode = 1 ∧ bucket = x.swept ∧ bucket < x.buckets + 16 ∧ x.period + bucket * (6000000 * x.age.sweepMs) / (x.buckets + 16) ≤ s.now ∧ p / 4 = bucket ∧ (x.entry p).valid = true ∧ (x.entry p).isStatic = false ∧
      (∀ q, q / 4 = bucket → q ≠ p → (x.entry q).valid = false) ∧ (x.entry p).hit = true) (fun s s' => s'.table table = { x.setEntry p { x.entry p with hit := false, once := false } with swept := bucket + 1 } ∧ s'.tables.deletes = s.tables.deletes)) ∧
  (∀ (table : Nat) (bucket : Nat) (x : Table) (p : Nat), Completes (.ageSweepVisit · table bucket) (fun s => x = s.table table ∧ x.live = true ∧ x.kind = 2 ∧ s.lockedBucket table bucket = false ∧ x.age.mode = 1 ∧ bucket = x.swept ∧ bucket < x.buckets + 16 ∧ x.period + bucket * (6000000 * x.age.sweepMs) / (x.buckets + 16) ≤ s.now ∧ p / 4 = bucket ∧ (x.entry p).valid = true ∧ (x.entry p).isStatic = false ∧
      (∀ q, q / 4 = bucket → q ≠ p → (x.entry q).valid = false) ∧ (x.entry p).hit = false ∧ (x.entry p).once = false) (fun s s' => s'.table table = { x.setEntry p { x.entry p with once := true } with swept := bucket + 1 } ∧ s'.tables.deletes = s.tables.deletes)) ∧
  (∀ (table : Nat) (bucket : Nat) (x : Table) (p : Nat), Completes (.ageSweepVisit · table bucket) (fun s => x = s.table table ∧ x.live = true ∧ x.kind = 2 ∧ s.lockedBucket table bucket = false ∧ x.age.mode = 1 ∧ bucket = x.swept ∧ bucket < x.buckets + 16 ∧ x.period + bucket * (6000000 * x.age.sweepMs) / (x.buckets + 16) ≤ s.now ∧ p / 4 = bucket ∧ (x.entry p).valid = true ∧ (x.entry p).isStatic = false ∧
      (∀ q, q / 4 = bucket → q ≠ p → (x.entry q).valid = false) ∧ (x.entry p).hit = false ∧ (x.entry p).once = true) (fun s s' => s'.table table = { x with swept := bucket + 1 } ∧ s'.tables.deletes = s.tables.deletes ++ [{ table := table, gen := s.tableGen table, place := p, key := (x.entry p).key, stampMode := false, stamp := (x.entry p).stamp }])) ∧
  (∀ (table : Nat) (bucket : Nat) (x : Table) (p : Nat), Completes (.ageSweepVisit · table bucket) (fun s => x = s.table table ∧ x.live = true ∧ x.kind = 2 ∧ s.lockedBucket table bucket = false ∧ x.age.mode = 2 ∧ bucket = x.swept ∧ bucket < x.buckets + 16 ∧ x.period + bucket * (6000000 * x.age.sweepMs) / (x.buckets + 16) ≤ s.now ∧ p / 4 = bucket ∧ (x.entry p).valid = true ∧ (x.entry p).isStatic = false ∧
      (∀ q, q / 4 = bucket → q ≠ p → (x.entry q).valid = false) ∧ x.age.limitMs ≤ (s.nowMs + 2 ^ 32 - (x.entry p).stamp) % 2 ^ 32) (fun s s' => s'.table table = { x with swept := bucket + 1 } ∧ s'.tables.deletes = s.tables.deletes ++ [{ table := table, gen := s.tableGen table, place := p, key := (x.entry p).key, stampMode := true, stamp := (x.entry p).stamp }])) ∧
  (∀ (table : Nat) (bucket : Nat) (x : Table) (p : Nat), Completes (.ageSweepVisit · table bucket) (fun s => x = s.table table ∧ x.live = true ∧ x.kind = 2 ∧ s.lockedBucket table bucket = false ∧ x.age.mode = 2 ∧ bucket = x.swept ∧ bucket < x.buckets + 16 ∧ x.period + bucket * (6000000 * x.age.sweepMs) / (x.buckets + 16) ≤ s.now ∧ p / 4 = bucket ∧ (x.entry p).valid = true ∧ (x.entry p).isStatic = false ∧
      (∀ q, q / 4 = bucket → q ≠ p → (x.entry q).valid = false) ∧ (s.nowMs + 2 ^ 32 - (x.entry p).stamp) % 2 ^ 32 < x.age.limitMs) (fun s s' => s'.table table = { x with swept := bucket + 1 } ∧ s'.tables.deletes = s.tables.deletes)) ∧
  (∀ (d : CondDel) (l : List CondDel) (x : Table) (p : Nat), Completes (.conditionalDelete ·) (fun s => s.tables.deletes = d :: l ∧ x = s.table d.table ∧ x.live = true ∧ s.tableGen d.table = d.gen ∧ s.removeWaits d.table p = false ∧ x.find d.key = some p ∧ (x.entry p).isStatic = false ∧ (s.pending.foldl State.writeAhead s).deletePlace d ≠ none ∧ ((d.stampMode = false ∧ (x.entry p).hit = false) ∨ (d.stampMode = true ∧ (x.entry p).stamp = d.stamp))) (fun s s' => s'.tables.deletes = l ∧ s'.table d.table = { x.remove (s.bucketUp x) p with agedOut := x.agedOut + 1 })) ∧
  (∀ (d : CondDel) (l : List CondDel), Completes (.conditionalDelete ·) (fun s => s.tables.deletes = d :: l ∧ (s.deletePlace d = none ∨ ∃ p, s.deletePlace d = some p ∧ s.removeWaits d.table p = false ∧ (s.pending.foldl State.writeAhead s).deletePlace d = none)) (fun s s' => s' = { s with tables := { s.tables with deletes := l } })) ∧
  (∀ (d : CondDel) (l : List CondDel) (x : Table) (p : Nat), Completes (.conditionalDelete ·) (fun s => s.tables.deletes = d :: l ∧ x = s.table d.table ∧ x.live = true ∧ s.tableGen d.table = d.gen ∧ s.removeWaits d.table p = false ∧ x.find d.key = some p ∧ (x.entry p).isStatic = false ∧ ((d.stampMode = false ∧ (x.entry p).hit = true) ∨ (d.stampMode = true ∧ (x.entry p).stamp ≠ d.stamp))) (fun s s' => s' = { s with tables := { s.tables with deletes := l } })) ∧
  (∀ (r : LearnReq) (l : List LearnReq) (x : Table) (p : Nat), Completes (.learn ·) (fun s => s.tables.learns = r :: l ∧ x = s.table r.table ∧ x.live = true ∧ 2 ≤ x.kind ∧ x.learn = true ∧ s.tableOwner r.table = r.domain ∧ r.key < 2 ^ x.keyBits ∧ s.keyWaits r.table r.key = false ∧ x.find r.key = none ∧ (s.learnPort r.port).charge < (s.learnPort r.port).limit ∧ x.plan r.key = some ([], p) ∧ x.bankLost = false ∧ s.bucketUp x (p / 4) = true) (fun s s' => s'.tables.learns = l ∧ s'.table r.table = x.setEntry p { valid := true, key := r.key, result := r.result, port := r.port, learned := true, hit := true, once := false, stamp := s.nowMs } ∧ (s'.learnPort r.port).charge = (s.learnPort r.port).charge + 1 ∧ (s'.learnPort r.port).excess = (s.learnPort r.port).excess)) ∧
  (∀ (r : LearnReq) (l : List LearnReq) (x : Table) (pl : List (Nat × Nat) × Nat), Completes (.learn ·) (fun s => s.tables.learns = r :: l ∧ x = s.table r.table ∧ x.live = true ∧ 2 ≤ x.kind ∧ x.learn = true ∧ s.tableOwner r.table = r.domain ∧ r.key < 2 ^ x.keyBits ∧ s.keyWaits r.table r.key = false ∧ x.find r.key = none ∧ (s.learnPort r.port).charge < (s.learnPort r.port).limit ∧ x.plan r.key = some pl ∧ x.bankLost = false ∧ (planBuckets pl).all (s.bucketUp x) = true) (fun s s' => s'.tables.learns = l ∧ s'.table r.table = x.execute pl { valid := true, key := r.key, result := r.result, port := r.port, learned := true, hit := true, once := false, stamp := s.nowMs } ∧ (s'.learnPort r.port).charge = (s.learnPort r.port).charge + 1)) ∧
  (∀ (r : LearnReq) (l : List LearnReq) (x : Table) (p : Nat), Completes (.learn ·) (fun s => s.tables.learns = r :: l ∧ x = s.table r.table ∧ x.live = true ∧ 2 ≤ x.kind ∧ x.learn = true ∧ s.tableOwner r.table = r.domain ∧ r.key < 2 ^ x.keyBits ∧ s.keyWaits r.table r.key = false ∧ x.find r.key = some p ∧ (x.entry p).isStatic = false ∧ s.bucketUp x (p / 4) = true ∧ ((x.entry p).port = r.port ∨ (s.learnPort r.port).charge < (s.learnPort r.port).limit)) (fun s s' => s'.tables.learns = l ∧ (∀ q, (s'.table r.table).entry q = if q = p then { x.entry p with result := r.result, port := r.port, hit := true, once := false, stamp := s.nowMs } else x.entry q))) ∧
  (∀ (r : LearnReq) (l : List LearnReq) (x : Table), Completes (.learn ·) (fun s => s.tables.learns = r :: l ∧ x = s.table r.table ∧ x.live = true ∧ 2 ≤ x.kind ∧ x.learn = true ∧ s.tableOwner r.table = r.domain ∧ r.key < 2 ^ x.keyBits ∧ s.keyWaits r.table r.key = false ∧ x.find r.key = none ∧ (s.learnPort r.port).limit ≤ (s.learnPort r.port).charge) (fun s s' => s'.tables.learns = l ∧ s'.table r.table = x ∧ (s'.learnPort r.port).charge = (s.learnPort r.port).charge ∧ (s'.learnPort r.port).excess = (s.learnPort r.port).excess + 1)) ∧
  (∀ (r : LearnReq) (l : List LearnReq) (x : Table) (p : Nat), Completes (.learn ·) (fun s => s.tables.learns = r :: l ∧ x = s.table r.table ∧ x.live = true ∧ 2 ≤ x.kind ∧ x.learn = true ∧ s.tableOwner r.table = r.domain ∧ r.key < 2 ^ x.keyBits ∧ s.keyWaits r.table r.key = false ∧ x.find r.key = some p ∧ (x.entry p).isStatic = true) (fun s s' => s' = { s with tables := { s.tables with learns := l } })) ∧
  (∀ (table : Nat) (bucket : Nat) (slot : Nat) (x : Table), Completes (.mirrorRepair · table bucket slot) (fun s => x = s.table table ∧ x.live = true ∧ x.badPlaces.contains (4 * bucket + slot) = true ∧ x.dying.contains (4 * bucket + slot) = false ∧ s.lockedBucket table bucket = false) (fun _ s' => (s'.table table).badPlaces = x.badPlaces.erase (4 * bucket + slot) ∧ (s'.table table).entries = x.entries ∧ (s'.table table).errValid = true ∧ (s'.table table).errRepaired = true ∧ (s'.table table).errBucket = bucket ∧ (s'.table table).errSlot = slot)) ∧
  (∀ (table : Nat) (i : Nat) (l : List Nat) (x : Table), Completes (.lpmRebuild · table) (fun s => x = s.table table ∧ x.live = true ∧ x.badLeaves = i :: l) (fun _ s' => (s'.table table).badLeaves = [] ∧ (s'.table table).routes = x.routes ∧ (s'.table table).errRepaired = true ∧ (s'.table table).errBucket = i))

/-- The associative-array commands (R203, R204, R206–R208, R210). -/
def Obligations.AssocCommandsComplete : Prop :=
  (∀ (c : Cmd) (a : AArray), Completes (.assocCreate · c) (fun s => ready s c 0x0600 .any = true ∧ firstErr (assocCreateErrs c s) = none ∧ a = { live := true, first := c.u8 17, count := c.u8 18, width := c.u8 19, prefilter := c.u8 20 = 1, pf := (List.range 8).map fun i => c.u16 (24 + 2 * i) }) (fun s s' => ∃ x : State, s' = x.answer c .ok 0 0 [] ∧ x.array (c.u8 16) = a ∧ (∀ k, k ≠ c.u8 16 → x.array k = s.array k) ∧
      (∀ b r, r < 8192 → x.arow b r = if c.u8 17 ≤ b ∧ b < c.u8 17 + c.u8 18 then {} else s.arow b r))) ∧
  (∀ (c : Cmd) (a : AArray), Completes (.assocDelete · c) (fun s => ready s c 0x0601 .any = true ∧ s.arrayErr c 16 = none ∧ c.zeros 17 47 = none ∧ (s.array (c.u8 16)).work = none ∧ a = s.array (c.u8 16) ∧ s.blocksErr a.blocks = none) (fun s s' => ∃ x : State, s' = x.answer c .ok 0 0 [] ∧ x.array (c.u8 16) = {} ∧ (∀ k, k ≠ c.u8 16 → x.array k = s.array k) ∧
      (∀ b r, r < 8192 → x.arow b r = if b ∈ a.blocks then {} else s.arow b r))) ∧
  (∀ (c : Cmd) (b : BufRead) (a : AArray), Completes (.assocWrite · c b) (fun s => ready s c 0x0602 .any = true ∧ c.bufferErr = none ∧ c.u32 24 = c.u32 32 * 176 ∧ s.arrayErr c 28 = none ∧ c.zeros 29 3 = none ∧ c.zeros 36 28 = none ∧ a = s.array (c.u8 28) ∧ s.blocksErr a.blocks = none ∧ b.err = none ∧ c.u32 32 ≠ 0 ∧ a.work = none) (fun s s' => s' = (s.setArray (c.u8 28) { a with work := some { cmd := c, data := b.bytes c, count := c.u32 32 } }).keepWorking c)) ∧
  (∀ (c : Cmd) (b : BufRead) (a : AArray) (w : AWork), Completes (.assocWrite · c b) (fun s => ready s c 0x0602 .any = true ∧ c.bufferErr = none ∧ c.u32 24 = c.u32 32 * 176 ∧ s.arrayErr c 28 = none ∧ c.zeros 29 3 = none ∧ c.zeros 36 28 = none ∧ a = s.array (c.u8 28) ∧ s.blocksErr a.blocks = none ∧ b.err = none ∧ c.u32 32 ≠ 0 ∧ a.work = some w) (fun s s' => s' = (s.setArray (c.u8 28) { a with later := a.later ++ [{ cmd := c, data := b.bytes c, count := c.u32 32 }] }).keepWorking c)) ∧
  (∀ (c : Cmd) (b : BufRead) (a : AArray), Completes (.assocWrite · c b) (fun s => ready s c 0x0602 .any = true ∧ c.bufferErr = none ∧ c.u32 24 = c.u32 32 * 176 ∧ s.arrayErr c 28 = none ∧ c.zeros 29 3 = none ∧ c.zeros 36 28 = none ∧ a = s.array (c.u8 28) ∧ s.blocksErr a.blocks = none ∧ b.err = none ∧ c.u32 32 = 0) (fun s s' => s' = s.answer c .ok 0 0 [])) ∧
  (∀ (c : Cmd) (a : AArray), Completes (.assocRead · c) (fun s => ready s c 0x0603 .any = true ∧ c.needReply = none ∧ s.arrayErr c 16 = none ∧ a = s.array (c.u8 16) ∧ c.u8 17 < a.segments ∧ c.u16 18 < 8192 ∧ c.zeros 20 44 = none ∧ s.blocksErr a.blocks = none) (fun s s' => s' = s.answer c .ok 0 176 (s.arowBytes a (c.u8 17) (c.u16 18)) ∧ (s.arowBytes a (c.u8 17) (c.u16 18)).length = 176)) ∧
  (∀ (c : Cmd) (a : AArray), Completes (.assocGroup · c) (fun s => ready s c 0x0604 .any = true ∧ s.arrayErr c 16 = none ∧ a = s.array (c.u8 16) ∧ c.u8 17 < a.segments ∧ c.u16 18 < 256 ∧ c.zeros 22 42 = none ∧ s.blocksErr a.blocks = none ∧ (∀ i, i < 32 → s.segmentOn (a.segment (c.u8 17)) (32 * c.u16 18 + i) = false)) (fun s s' => ∃ x : AArray, s' = ((s.settleSearches (c.u8 16) s.cclk).setArray (c.u8 16) x).answer c .ok 0 0 [] ∧ (∀ p g, g < 256 → x.tag p g = if p = c.u8 17 ∧ g = c.u16 18 then (c.u8 20, c.u8 21) else a.tag p g) ∧ x = { a with tags := x.tags })) ∧
  (∀ (c : Cmd) (a : AArray) (i : Nat), Completes (.assocGroup · c) (fun s => ready s c 0x0604 .any = true ∧ s.arrayErr c 16 = none ∧ a = s.array (c.u8 16) ∧ c.u8 17 < a.segments ∧ c.u16 18 < 256 ∧ c.zeros 22 42 = none ∧ s.blocksErr a.blocks = none ∧ i < 32 ∧ s.segmentOn (a.segment (c.u8 17)) (32 * c.u16 18 + i) = true) (fun s s' => s' = s.answer c .refused 1 0 [])) ∧
  (∀ (c : Cmd) (b : BufRead) (a : AArray), Completes (.assocSearch · c b) (fun s => ready s c 0x0605 .any = true ∧ c.needReply = none ∧ c.bufferErr = none ∧ c.u32 24 = 80 ∧ s.arrayErr c 28 = none ∧ c.zeros 29 35 = none ∧ a = s.array (c.u8 28) ∧ s.blocksErr a.blocks = none ∧ b.err = none) (fun s s' => s' = (((s.countDomain c.domain 5).count (2560 + 16 * c.domain + 6) (s.searchNow (c.u8 28) (leAt (b.bytes c) 0 80)).groups).setArray (c.u8 28) { a with nextSlot := max s.cclk a.nextSlot + 1 }).answer c .ok 0 16 (s.searchNow (c.u8 28) (leAt (b.bytes c) 0 80)).bytes))

/-- Row updates and errors (R210–R212). -/
def Obligations.AssocEnginesComplete : Prop :=
  (∀ (array : Nat) (a : AArray) (w : AWork) (r : ARecord), Completes (.assocUpdateStep · array) (fun s => a = s.array array ∧ a.live = true ∧ a.work = some w ∧ s.assoc.searches = [] ∧ a.nextSlot ≤ s.cclk ∧ r = arecordOf w.data (176 * w.index) ∧ r.invalidate = false ∧ w.step = 0 ∧ a.recordOk w.data (176 * w.index) = true ∧ s.segmentOn (a.segment r.position) r.row = true) (fun s s' => (∀ b, b ∈ a.segment r.position → (s'.arow b r.row).valid = false ∧ (s'.arow b r.row).value = (s.arow b r.row).value ∧ (s'.arow b r.row).mask = (s.arow b r.row).mask) ∧
      (∀ b q, q < 8192 → (q ≠ r.row ∨ b ∉ a.segment r.position) → s'.arow b q = s.arow b q) ∧ (s'.array array).work = some { w with step := 1 } ∧ s'.host = s.host)) ∧
  (∀ (array : Nat) (a : AArray) (w : AWork) (r : ARecord), Completes (.assocUpdateStep · array) (fun s => a = s.array array ∧ a.live = true ∧ a.work = some w ∧ s.assoc.searches = [] ∧ a.nextSlot ≤ s.cclk ∧ r = arecordOf w.data (176 * w.index) ∧ r.invalidate = false ∧ w.step = 0 ∧ a.recordOk w.data (176 * w.index) = true ∧ s.segmentOn (a.segment r.position) r.row = false) (fun s s' => (∀ j, j < a.width → s'.arow (a.first + r.position * a.width + j) r.row = { valid := false, value := r.value / 2 ^ (80 * j) % 2 ^ 80, mask := r.mask / 2 ^ (80 * j) % 2 ^ 80, result := if j = 0 then r.result else 0 }) ∧
      (∀ b q, q < 8192 → (q ≠ r.row ∨ b ∉ a.segment r.position) → s'.arow b q = s.arow b q) ∧ (s'.array array).work = some { w with step := 2 } ∧ s'.host = s.host)) ∧
  (∀ (array : Nat) (a : AArray) (w : AWork) (r : ARecord), Completes (.assocUpdateStep · array) (fun s => a = s.array array ∧ a.live = true ∧ a.work = some w ∧ s.assoc.searches = [] ∧ a.nextSlot ≤ s.cclk ∧ r = arecordOf w.data (176 * w.index) ∧ r.invalidate = false ∧ w.step = 2 ∧ a.keepsTag r = true ∧ w.index + 1 = w.count ∧ a.later = [] ∧ r.row < 8192) (fun s s' => ∃ x : State, s' = x.answer w.cmd .ok 0 w.count [] ∧ (∀ b, b ∈ a.segment r.position → (x.arow b r.row).valid = true) ∧ (∀ b q, q < 8192 → (q ≠ r.row ∨ b ∉ a.segment r.position) → x.arow b q = s.arow b q) ∧ (x.array array).work = none)) ∧
  (∀ (array : Nat) (a : AArray) (w : AWork) (r : ARecord), Completes (.assocUpdateStep · array) (fun s => a = s.array array ∧ a.live = true ∧ a.work = some w ∧ s.assoc.searches = [] ∧ a.nextSlot ≤ s.cclk ∧ r = arecordOf w.data (176 * w.index) ∧ r.invalidate = true ∧ w.step = 0 ∧ a.recordOk w.data (176 * w.index) = true ∧ w.index + 1 ≠ w.count) (fun s s' => (∀ b, b ∈ a.segment r.position → (s'.arow b r.row).valid = false ∧ (s'.arow b r.row).value = (s.arow b r.row).value ∧ (s'.arow b r.row).mask = (s.arow b r.row).mask) ∧
      (∀ b q, q < 8192 → (q ≠ r.row ∨ b ∉ a.segment r.position) → s'.arow b q = s.arow b q) ∧ (s'.array array).work = some { w with index := w.index + 1, step := 0 } ∧ s'.host = s.host)) ∧
  (∀ (array : Nat) (a : AArray), Completes (.assocUpdateStep · array) (fun s => s.array array = a ∧ a.work = none) (fun s s' => s' = s)) ∧
  (∀ (array : Nat) (a : AArray) (w : AWork), Completes (.assocUpdateStep · array) (fun s => a = s.array array ∧ a.work = some w ∧ s.takeSlots array 1 = none) (fun s s' => s' = s)) ∧
  (∀ (array : Nat) (a : AArray) (w : AWork), Completes (.assocUpdateStep · array) (fun s => a = s.array array ∧ a.live = true ∧ a.work = some w ∧ s.assoc.searches = [] ∧ a.nextSlot ≤ s.cclk ∧ w.step = 0 ∧ a.recordOk w.data (176 * w.index) = false ∧ a.later = []) (fun s s' => ∃ x : State, s' = x.answer w.cmd .invalidParam (0x02000000 + 176 * w.index) w.index [] ∧ x.assoc.rows = s.assoc.rows ∧ (x.array array).work = none)) ∧
  (∀ (block : Nat) (row : Nat) (bad : Bool), Completes (.assocScrub · block row bad) (fun s => bad = true ∧ block < 32 ∧ row < 8192 ∧ s.healthy 6 block = true) (fun s s' => (s'.arow block row).valid = false ∧ (s'.arow block row).value = (s.arow block row).value ∧ (s'.ablock block).errValid = true ∧ (s'.ablock block).errRow = row ∧ (s'.ablock block).errRepaired = false ∧ (s'.ablock block).errors = (s.ablock block).errors + 1)) ∧
  (∀ (block : Nat) (row : Nat) (bad : Bool), Completes (.assocScrub · block row bad) (fun _ => bad = false) (fun s s' => s' = s)) ∧
  (∀ (block : Nat) (row : Nat), Completes (.assocRowRepair · block row) (fun s => (s.arow block row).bad = true ∧ (s.ablock block).errRow = row ∧ (∀ k, s.arrayOf block = some k → s.assoc.searches = [] ∧ (s.array k).nextSlot ≤ s.cclk)) (fun s s' => s'.arow block row = { s.arow block row with bad := false, held := false, valid := (s.arow block row).held } ∧ (s'.ablock block).errRepaired = true ∧ (s'.ablock block).errors = (s.ablock block).errors))

/-- Scout (R236, R240–R242, R244–R253). -/
def Obligations.ScoutCompletes : Prop :=
  (∀ (th : ThreadId) (d k w : Nat), Completes (.scoutDeliver · th) (fun s => (s.thread th).spec.due = some d ∧ d ≤ s.now ∧ (s.thread th).pass = some k ∧ (s.thread th).state = .run ∧ (s.thread th).waiting = .none ∧ (s.thread th).spec.heldFault = none ∧ (s.thread th).spec.enabled = true ∧
      s.segsOf (s.thread th).domain ≠ [] ∧ (s.tplOf (s.thread th)).enabled = true ∧ outerOnly (s.pkt k).hv = false ∧ s.findWay th.cluster (s.thread th).domain (s.thread th).spec.sig (s.thread th).spec.template = some w) (fun s s' => (s'.thread th).spec.prov = true ∧ look (s'.thread th).regs 62 0 = (s.sentry w).bundle % 2 ^ 64 ∧ look (s'.thread th).regs 63 0 = (s.sentry w).bundle / 2 ^ 64 ∧ (∀ r, r ≠ 62 → r ≠ 63 → look (s'.thread th).regs r 0 = look (s.thread th).regs r 0) ∧
      (s'.thread th).spec.ckpt = some { pc := (s.thread th).pc, regs := (s.thread th).regs, mask := (s.thread th).mask, watch := (s.thread th).watch, timer := (s.thread th).timer, issued := (s.thread th).issued } ∧ (s'.thread th).spec.due = none)) ∧
  (∀ (th : ThreadId) (d k : Nat), Completes (.scoutDeliver · th) (fun s => (s.thread th).spec.due = some d ∧ d ≤ s.now ∧ (s.thread th).pass = some k ∧ (s.thread th).waiting = .none ∧ (s.thread th).spec.heldFault = none ∧
      ((s.thread th).spec.enabled = false ∨ s.segsOf (s.thread th).domain = [] ∨ (s.tplOf (s.thread th)).enabled = false ∨ outerOnly (s.pkt k).hv = true ∨ s.findWay th.cluster (s.thread th).domain (s.thread th).spec.sig (s.thread th).spec.template = none)) (fun s s' => (s'.thread th).spec.prov = (s.thread th).spec.prov ∧ look (s'.thread th).regs 62 0 = assemble (s.tplOf (s.thread th)) (s.thread th).got % 2 ^ 64 ∧ look (s'.thread th).regs 63 0 = assemble (s.tplOf (s.thread th)) (s.thread th).got / 2 ^ 64 ∧ (s'.thread th).spec.probed = true ∧ (s'.thread th).spec.due = none ∧ (∀ r, r ≠ 62 → r ≠ 63 → look (s'.thread th).regs r 0 = look (s.thread th).regs r 0))) ∧
  (∀ (th : ThreadId) (d : Nat), Completes (.scoutDeliver · th) (fun s => (s.thread th).spec.due = some d ∧ s.now < d) (fun s s' => s' = s)) ∧
  (∀ (th : ThreadId) (other : Bool) (ck : Checkpoint), Completes (.squash · th) (fun s => (s.thread th).spec.prov = true ∧ (s.thread th).spec.compare = .unequal other none ∧ (s.thread th).spec.ckpt = some ck ∧ (s.thread th).state ≠ .stopped) (fun s s' => (s'.thread th).spec.prov = false ∧ (s'.thread th).pc = ck.pc ∧ (s'.thread th).mask = ck.mask ∧ (s'.thread th).timer = ck.timer ∧ (s'.thread th).issued = ck.issued ∧ (s'.thread th).watch = ck.watch ∧ (s'.thread th).mem = unwind (s.thread th).mem (s.thread th).spec.undo ∧ (s'.thread th).spec.slots = 0 ∧ (s'.thread th).spec.heldFault = none ∧
      (s'.thread th).pass = (s.thread th).pass ∧ (s'.thread th).state = .run ∧ (∀ r, r ≠ 62 → r ≠ 63 → look (s'.thread th).regs r 0 = look ck.regs r 0) ∧ s'.pkts = s.pkts)) ∧
  (∀ (th : ThreadId) (other : Bool) (b : Nat) (ck : Checkpoint) (k : Nat), Completes (.squash · th) (fun s => (s.thread th).spec.prov = true ∧ (s.thread th).spec.compare = .unequal other (some b) ∧ (s.thread th).spec.ckpt = some ck ∧ (s.thread th).state ≠ .stopped ∧ (s.thread th).pass = some k) (fun _ s' => (s'.pkt k).live = false)) ∧
  (∀ (th : ThreadId) (other : Bool) (b : Nat) (ck : Checkpoint), Completes (.squash · th) (fun s => (s.thread th).spec.prov = true ∧ (s.thread th).spec.compare = .unequal other (some b) ∧ (s.thread th).spec.ckpt = some ck ∧ (s.thread th).state = .stopped) (fun s s' => (s'.thread th).spec.heldFault = some (9, b) ∧ (s'.thread th).state = .stopped ∧ (s'.thread th).before = .run ∧ (s'.thread th).pc = ck.pc ∧ (s'.thread th).spec.prov = false ∧ s'.pkts = s.pkts)) ∧
  (∀ (cluster : Nat) (f : Fill) (l : List Fill) (b k : Nat), Completes (.scoutFill · cluster) (fun s => look s.scout.fills cluster [] = f :: l ∧ s.setBase cluster f.domain f.sig = some b ∧ s.findWay cluster f.domain f.sig f.template = some k) (fun _ s' => look s'.scout.fills cluster [] = l ∧ (s'.sentry k).valid = true ∧ (s'.sentry k).bundle = f.bundle ∧ (s'.sentry k).sig = f.sig ∧ (s'.sentry k).domain = f.domain ∧ (s'.sentry k).template = f.template)) ∧
  (∀ (cluster : Nat) (f : Fill) (l : List Fill) (b : Nat), Completes (.scoutFill · cluster) (fun s => look s.scout.fills cluster [] = f :: l ∧ s.setBase cluster f.domain f.sig = some b ∧ s.findWay cluster f.domain f.sig f.template = none) (fun s s' => look s'.scout.fills cluster [] = l ∧ ∃ w, w < 4 ∧ (s'.sentry (b + w)).valid = true ∧ (s'.sentry (b + w)).bundle = f.bundle ∧ (s'.sentry (b + w)).sig = f.sig ∧ (s'.sentry (b + w)).domain = f.domain ∧ ∀ k, k ≠ b + w → s'.sentry k = s.sentry k)) ∧
  (∀ (cluster : Nat) (f : Fill) (l : List Fill), Completes (.scoutFill · cluster) (fun s => look s.scout.fills cluster [] = f :: l ∧ s.setBase cluster f.domain f.sig = none) (fun s s' => look s'.scout.fills cluster [] = l ∧ s'.scout.cache = s.scout.cache)) ∧
  (Completes (.scoutAlarmInterval ·) (fun s => s.now / 6000000 ≤ s.scout.interval) (fun s s' => s' = s)) ∧
  (Completes (.scoutAlarmInterval ·) (fun s => s.scout.interval < s.now / 6000000) (fun s s' => s'.scout.hits = [] ∧ s'.scout.squashes = [] ∧ s'.scout.interval = s.now / 6000000 ∧ s'.scout.cache = s.scout.cache)) ∧
  (∀ (c : Cmd), Completes (.scoutPartition · c) (fun s => ready s c 0x0780 .d0 = true ∧ c.u8 16 < 16 ∧ (s.domain (c.u8 16)).live = true ∧ c.u8 17 < 64 ∧ 1 ≤ c.u8 18 ∧ c.u8 18 ≤ 64 ∧ c.u8 17 + c.u8 18 ≤ 64 ∧ c.zeros 19 45 = none) (fun s s' => ∃ x : State, s' = x.answer c .ok 0 0 [] ∧ (∀ g, x.segOwner g = if c.u8 17 ≤ g ∧ g < c.u8 17 + c.u8 18 then c.u8 16 else s.segOwner g) ∧
      (∀ k, x.sentry k = if c.u8 17 ≤ segOf k ∧ segOf k < c.u8 17 + c.u8 18 ∧ s.segOwner (segOf k) ≠ c.u8 16 then {} else s.sentry k))) ∧
  (∀ (c : Cmd), Completes (.scoutConfig · c) (fun s => ready s c 0x0781 .any = true ∧ c.u8 16 ≤ 1 ∧ c.u8 17 ≤ 1 ∧ c.u16 18 ≤ 1000 ∧ c.zeros 20 44 = none) (fun s s' => s' = ({ s with scout := { s.scout with doms := put s.scout.doms c.domain {} { enable := c.u8 16 = 1, fill := c.u8 17 = 1, alarm := c.u16 18 } } }).answer c .ok 0 0 [])) ∧
  (∀ (c : Cmd), Completes (.scoutTemplate · c) (fun s => ready s c 0x0782 .any = true ∧ s.busyErr c = none ∧ firstErr (scoutTemplateErrs c) = none ∧ canon {} s.scout.cache = true) (fun s s' => ∃ x : State, s' = x.answer c .ok 0 0 [] ∧ x.template c.domain (c.u8 16) = cmdTemplate c ∧
      (∀ k, x.sentry k = if (s.template c.domain (c.u8 16)).enabled = true ∧ (s.sentry k).domain = c.domain ∧ (s.sentry k).template = c.u8 16 then {} else s.sentry k))) ∧
  (∀ (c : Cmd), Completes (.scoutInvalidate · c) (fun s => ready s c 0x0783 .any = true ∧ s.busyErr c = none ∧ c.u8 16 ≤ 3 ∧ (c.u8 16 = 1 → c.u8 17 < 32) ∧ (c.u8 16 = 3 → s.ownErr c 1 (c.u8 17) = none) ∧ c.zeros 18 6 = none ∧ c.zeros 32 32 = none ∧ canon {} s.scout.cache = true) (fun s s' => ∃ x : State, s' = x.answer c .ok 0 0 [] ∧ ∀ k, x.sentry k = if inScope c (s.sentry k) = true then {} else s.sentry k)) ∧
  (∀ (c : Cmd), Completes (.scoutStats · c) (fun s => ready s c 0x0784 .any = true ∧ c.needReply = none ∧ (c.u8 16 = 0xFF ∨ (c.u8 16 < 32 ∧ s.healthy 4 (c.u8 16) = true)) ∧ c.u8 17 ≤ 1 ∧ c.zeros 18 46 = none) (fun s s' => ∃ x : State, s' = x.answer c .ok 0 64 (s.scoutStats (c.u8 16) c.domain) ∧ x.scout.cache = s.scout.cache ∧
      ∀ k, look x.scout.stats k 0 = if c.u8 17 = 1 ∧ k / 8 % 16 = c.domain ∧ (c.u8 16 = 0xFF ∨ k / 128 = c.u8 16) then 0 else look s.scout.stats k 0))

/-- Edits (R254–R260, R265). -/
def Obligations.EditsComplete : Prop :=
  (∀ (cluster : Nat) (k : Nat) (l : List Nat), Completes (.editApply · cluster) (fun s => look s.act.editQ cluster [] = k :: l ∧ (s.pkt k).list = [] ∧ bit (s.pkt k).desc.meta2 31 = false) (fun s s' => look s'.act.editQ cluster [] = l ∧ (s'.pkt k).committed = true ∧ (s'.pkt k).bytes = (s.pkt k).bytes ∧ (s'.pkt k).desc = { (s.pkt k).desc with length := (s.pkt k).bytes.length })) ∧
  (∀ (cluster : Nat) (k : Nat) (l : List Nat) (b : Bytes) (d : Desc), Completes (.editApply · cluster) (fun s => look s.act.editQ cluster [] = k :: l ∧ (s.pkt k).list ≠ [] ∧ (listActions (s.pkt k).list).all (targetOk (s.pkt k).hv (s.pkt k).bytes.length) = true ∧ s.applyList (s.pkt k) = (b, d, true) ∧ b.length ≤ 10368 ∧ bit d.meta2 31 = false) (fun _ s' => look s'.act.editQ cluster [] = l ∧ (s'.pkt k).committed = true ∧ (s'.pkt k).bytes = b ∧ (s'.pkt k).desc = d)) ∧
  (∀ (cluster : Nat) (k : Nat) (l : List Nat) (b : Bytes) (d : Desc) (u : Nat), Completes (.editApply · cluster) (fun s => look s.act.editQ cluster [] = k :: l ∧ (s.pkt k).list ≠ [] ∧ (listActions (s.pkt k).list).all (targetOk (s.pkt k).hv (s.pkt k).bytes.length) = true ∧ s.applyList (s.pkt k) = (b, d, true) ∧ b.length ≤ 10368 ∧ bit d.meta2 31 = true ∧ u = s.tunnelPipe (d.meta2 % 2 ^ 15) ∧ (s.tunnelQueue u).length < 64) (fun s s' => look s'.act.editQ cluster [] = l ∧ s'.tunnelQueue u = s.tunnelQueue u ++ [k] ∧ (s'.pkt k).committed = (s.pkt k).committed ∧ (s'.pkt k).bytes = b)) ∧
  (∀ (cluster : Nat) (k : Nat) (l : List Nat), Completes (.editApply · cluster) (fun s => look s.act.editQ cluster [] = k :: l ∧ (s.pkt k).list ≠ [] ∧ (listActions (s.pkt k).list).all (targetOk (s.pkt k).hv (s.pkt k).bytes.length) = false ∧ s.tunnelRoom (s.applyList (s.pkt k)).2.1 = true) (fun s s' => look s'.act.editQ cluster [] = l ∧ (s'.pkt k).live = false ∧ look s'.act.stats ((s.pkt k).desc.domain * 8 + 1) 0 = (look s.act.stats ((s.pkt k).desc.domain * 8 + 1) 0 + 1) % 2 ^ 64)) ∧
  (∀ (cluster : Nat) (k : Nat) (l : List Nat), Completes (.editApply · cluster) (fun s => look s.act.editQ cluster [] = k :: l ∧ (s.pkt k).list ≠ [] ∧ (listActions (s.pkt k).list).all (targetOk (s.pkt k).hv (s.pkt k).bytes.length) = true ∧ s.tunnelRoom (s.applyList (s.pkt k)).2.1 = true ∧ (10368 < (s.applyList (s.pkt k)).1.length ∨ (s.applyList (s.pkt k)).2.2 = false)) (fun _ s' => look s'.act.editQ cluster [] = l ∧ (s'.pkt k).live = false)) ∧
  (∀ (cluster : Nat) (k : Nat) (l : List Nat) (u : Nat), Completes (.editApply · cluster) (fun s => look s.act.editQ cluster [] = k :: l ∧ (s.pkt k).list = [] ∧ bit (s.pkt k).desc.meta2 31 = true ∧ u = s.tunnelPipe ((s.pkt k).desc.meta2 % 2 ^ 15) ∧ (s.tunnelQueue u).length < 64) (fun s s' => look s'.act.editQ cluster [] = l ∧ s'.tunnelQueue u = s.tunnelQueue u ++ [k] ∧ (s'.pkt k).committed = (s.pkt k).committed ∧ (s'.pkt k).bytes = (s.pkt k).bytes)) ∧
  (∀ (cluster : Nat) (k : Nat) (l : List Nat), Completes (.editApply · cluster) (fun s => look s.act.editQ cluster [] = k :: l ∧ s.tunnelRoom (if (s.pkt k).list = [] then (s.pkt k).desc else (s.applyList (s.pkt k)).2.1) = false) (fun s s' => s' = s)) ∧
  (∀ (c : Cmd) (b : BufRead) (p : Nat), Completes (.actionWrite · c b) (fun s => ready s c 0x0408 .any = true ∧ p = c.u16 28 * 2 ^ 20 + c.u32 32 ∧ s.ownErr c 3 (c.u16 28) = none ∧ c.zeros 30 2 = none ∧ c.u32 32 < 2 ^ 20 ∧ c.zeros 37 27 = none ∧ c.u8 36 = 0 ∧ c.bufferErr = none ∧ 16 ≤ c.u32 24 ∧ c.u32 24 ≤ 528 ∧ b.err = none ∧ firstErr (listErrs s c.domain (b.bytes c)) = none ∧ s.act.lost.contains p = false ∧
      s.granulesUsed - granules (look s.act.lists p []) + granules (b.bytes c) ≤ 262144 ∧ (look s.act.lists p [] ≠ [] ∨ s.act.lists.length < 131072) ∧ s.granulesOf c.domain - granules (look s.act.lists p []) + granules (b.bytes c) ≤ allowance s.act.allow c.domain) (fun s s' => ∃ x : State, s' = x.answer c .ok 0 0 [] ∧ (∀ q, look x.act.lists q [] = if q = p then b.bytes c else look s.act.lists q []) ∧ x = { s with act := { s.act with lists := x.act.lists, missing := s.act.missing.filter (· ≠ p), lost := s.act.lost.filter (· ≠ p) } })) ∧
  (∀ (c : Cmd) (b : BufRead) (p : Nat), Completes (.actionWrite · c b) (fun s => ready s c 0x0408 .any = true ∧ p = c.u16 28 * 2 ^ 20 + c.u32 32 ∧ s.ownErr c 3 (c.u16 28) = none ∧ c.zeros 30 2 = none ∧ c.u32 32 < 2 ^ 20 ∧ c.zeros 37 27 = none ∧ c.u8 36 = 1 ∧ look s.act.lists p [] ≠ []) (fun s s' => ∃ x : State, s' = x.answer c .ok 0 0 [] ∧ (∀ q, look x.act.lists q [] = if q = p then [] else look s.act.lists q []) ∧ x = { s with act := { s.act with lists := x.act.lists, missing := s.act.missing.filter (· ≠ p), lost := s.act.lost.filter (· ≠ p) } })) ∧
  (∀ (c : Cmd), Completes (.actionLimit · c) (fun s => ready s c 0x0409 .d0 = true ∧ c.u8 16 < 16 ∧ c.zeros 17 3 = none ∧ c.zeros 24 40 = none) (fun s s' => ∃ x : State, s' = x.answer c .ok 0 0 [] ∧ allowance x.act.allow (c.u8 16) = c.u32 20 ∧ x = { s with act := { s.act with allow := x.act.allow } })) ∧
  (∀ (c : Cmd), Completes (.editStats · c) (fun s => ready s c 0x040A .any = true ∧ c.needReply = none ∧ c.zeros 16 1 = none ∧ c.u8 17 ≤ 1 ∧ c.zeros 18 46 = none) (fun s s' => ∃ x : State, s' = x.answer c .ok 0 64 ((List.range 8).flatMap fun i => leBytes 8 (look s.act.stats (c.domain * 8 + i) 0)) ∧
      (∀ k, look x.act.stats k 0 = if c.u8 17 = 1 ∧ k / 8 = c.domain then 0 else look s.act.stats k 0) ∧ x.act.lists = s.act.lists))

/-- Cells (R266, R270–R277, R282, R283). -/
def Obligations.CellsComplete : Prop :=
  (∀ (pool : Nat) (reqs : List CellReq) (r qn k acct a : Nat) (fl : Bool), Completes (.cellAllocate · pool reqs) (fun s => reqs = [{ requester := r, queue := qn, far := fl }] ∧ r < 46 ∧ s.servedNow pool = false ∧ s.buf.endFrees = [] ∧ s.buf.arrivals = [] ∧ s.buf.frees = [] ∧ (s.writer r).busy = true ∧ (s.writer r).decided = true ∧ (s.writer r).packet = k ∧
      acct = (s.queue (s.pkt k).desc.queue).account ∧ (s.account acct).pool = pool ∧ 256 * (s.pkt k).cells.length < (s.pkt k).desc.length ∧ s.quota acct = true ∧ (s.grant pool (s.writer r).far).map (fun y => y.1) = some a ∧ validCell a = true ∧ (s.cell a).used = false) (fun s s' => (s'.pkt k).cells = (s.pkt k).cells ++ [a] ∧ (s'.cell a).used = true ∧ (s'.cell a).account = acct ∧ (s'.cell a).pool = pool ∧ (s'.account acct).used = (s.account acct).used + 1 ∧ (s'.pool pool).nearUsed + (s'.pool pool).farUsed = (s.pool pool).nearUsed + (s.pool pool).farUsed + 1 ∧ (s'.writer r).busy = true)) ∧
  (∀ (pool : Nat) (reqs : List CellReq) (r qn k acct : Nat) (fl : Bool), Completes (.cellAllocate · pool reqs) (fun s => reqs = [{ requester := r, queue := qn, far := fl }] ∧ r < 46 ∧ s.servedNow pool = false ∧ s.buf.endFrees = [] ∧ s.buf.arrivals = [] ∧ s.buf.frees = [] ∧ (s.writer r).busy = true ∧ (s.writer r).decided = true ∧ (s.writer r).packet = k ∧
      acct = (s.queue (s.pkt k).desc.queue).account ∧ (s.account acct).pool = pool ∧ 256 * (s.pkt k).cells.length < (s.pkt k).desc.length ∧ s.quota acct = false ∧ (s.account acct).valid = true) (fun s s' => (s'.pkt k).live = false ∧ (s'.writer r).busy = false ∧ look (s'.account acct).counters 3 0 = (look (s.account acct).counters 3 0 + 1) % 2 ^ 64 ∧ ((s.pkt k).cells = [] → (s'.account acct).used = (s.account acct).used))) ∧
  (∀ (pool : Nat) (reqs : List CellReq) (r qn k acct : Nat) (fl : Bool), Completes (.cellAllocate · pool reqs) (fun s => reqs = [{ requester := r, queue := qn, far := fl }] ∧ r < 46 ∧ s.servedNow pool = false ∧ s.buf.endFrees = [] ∧ s.buf.arrivals = [] ∧ s.buf.frees = [] ∧ (s.writer r).busy = true ∧ (s.writer r).decided = true ∧ (s.writer r).packet = k ∧
      acct = (s.queue (s.pkt k).desc.queue).account ∧ (s.account acct).pool = pool ∧ 256 * (s.pkt k).cells.length < (s.pkt k).desc.length ∧ s.quota acct = true ∧ s.grant pool (s.writer r).far = none) (fun s s' => (s'.pkt k).live = false ∧ (s'.writer r).busy = false ∧ look (s'.account acct).counters 4 0 = (look (s.account acct).counters 4 0 + 1) % 2 ^ 64)) ∧
  (∀ (pool : Nat) (reqs : List CellReq) (r qn k acct a kind : Nat) (fl : Bool), Completes (.cellAllocate · pool reqs) (fun s => reqs = [{ requester := r, queue := qn, far := fl }] ∧ r < 46 ∧ s.servedNow pool = false ∧ s.buf.endFrees = [] ∧ s.buf.arrivals = [] ∧ s.buf.frees = [] ∧ (s.writer r).busy = true ∧ (s.writer r).decided = true ∧ (s.writer r).packet = k ∧
      acct = (s.queue (s.pkt k).desc.queue).account ∧ (s.account acct).pool = pool ∧ 256 * (s.pkt k).cells.length < (s.pkt k).desc.length ∧ s.quota acct = true ∧ (s.grant pool (s.writer r).far).map (fun y => y.1) = some a ∧ s.badPointer a = some kind) (fun s s' => s'.buf.errValid = true ∧ s'.buf.errKind = kind ∧ s'.buf.errAddr = a ∧ s'.pkts = s.pkts ∧ s'.buf.cells = s.buf.cells ∧ (s'.writer r).busy = true)) ∧
  (∀ (pool : Nat) (reqs : List CellReq) (r qn k : Nat) (fl : Bool), Completes (.cellAllocate · pool reqs) (fun s => reqs = [{ requester := r, queue := qn, far := fl }] ∧ r < 46 ∧ s.servedNow pool = false ∧ s.buf.endFrees = [] ∧ s.buf.arrivals = [] ∧ s.buf.frees = [] ∧ (s.writer r).busy = true ∧ (s.writer r).decided = false ∧ (s.writer r).packet = k ∧
      (s.account (s.queue (s.pkt k).desc.queue).account).pool = pool ∧ 256 * (s.pkt k).cells.length < (s.pkt k).desc.length ∧ (s.takeCells r k).2 = false) (fun s s' => (s'.pkt k).live = false ∧ (s'.writer r).busy = false ∧ s'.buf.cells = s.buf.cells)) ∧
  (∀ (pool : Nat) (reqs : List CellReq) (r qn k a : Nat) (fl : Bool) (y z : State), Completes (.cellAllocate · pool reqs) (fun s => reqs = [{ requester := r, queue := qn, far := fl }] ∧ r < 46 ∧ s.servedNow pool = false ∧ s.buf.endFrees = [] ∧ s.buf.arrivals = [] ∧ s.buf.frees = [] ∧ (s.writer r).busy = true ∧ (s.writer r).decided = false ∧ (s.writer r).packet = k ∧
      (s.account (s.queue (s.pkt k).desc.queue).account).pool = pool ∧ 256 * (s.pkt k).cells.length < (s.pkt k).desc.length ∧ s.takeCells r k = (y, true) ∧ z = y.decideSpill r k ∧ z.quota (z.queue (z.pkt k).desc.queue).account = true ∧ (z.grant pool (z.writer r).far).map (fun y => y.1) = some a ∧ z.badPointer a = none) (fun _ s' => (s'.pkt k).cells = (z.pkt k).cells ++ [a] ∧ (s'.cell a).used = true ∧ (s'.writer r).busy = true ∧ (s'.writer r).decided = true)) ∧
  (∀ (pool : Nat) (reqs : List CellReq) (qn acct a : Nat) (fl : Bool), Completes (.cellAllocate · pool reqs) (fun s => reqs = [{ requester := 46, queue := qn, far := fl }] ∧ s.servedNow pool = false ∧ s.buf.endFrees = [] ∧ s.buf.arrivals = [] ∧ s.buf.frees = [] ∧ acct = (s.queue qn).account ∧ (s.account acct).pool = pool ∧ s.quota acct = true ∧ (s.grant pool fl).map (fun y => y.1) = some a ∧ s.badPointer a = none) (fun s s' => (s'.cell a).used = true ∧ (s'.cell a).account = acct ∧ (s'.cell a).ingress = 255 ∧ (s'.account acct).used = (s.account acct).used + 1 ∧ s'.pkts = s.pkts)) ∧
  (∀ (pool : Nat) (reqs : List CellReq) (qn : Nat) (fl : Bool), Completes (.cellAllocate · pool reqs) (fun s => reqs = [{ requester := 46, queue := qn, far := fl }] ∧ s.servedNow pool = false ∧ s.buf.endFrees = [] ∧ s.buf.arrivals = [] ∧ s.buf.frees = [] ∧ (s.account (s.queue qn).account).pool = pool ∧ (s.quota (s.queue qn).account = false ∨ s.grant pool fl = none)) (fun s s' => look (s'.pool pool).counters 5 0 = (look (s.pool pool).counters 5 0 + 1) % 2 ^ 64 ∧ s'.pkts = s.pkts ∧ s'.buf.cells = s.buf.cells)) ∧
  (∀ (pool : Nat) (reqs : List CellReq), Completes (.cellAllocate · pool reqs) (fun s => s.servedNow pool = true ∧ s.buf.endFrees = []) (fun s s' => s' = s)) ∧
  (∀ (cell : Nat), Completes (.cellFree · cell) (fun s => s.allocAhead = false ∧ s.buf.frees.contains cell = true ∧ validCell cell = true ∧ (s.cell cell).used = true) (fun s s' => s'.buf.frees = s.buf.frees.erase cell ∧ (s'.cell cell).used = false ∧ (s'.account (s.cell cell).account).used = (s.account (s.cell cell).account).used - 1 ∧ s'.pkts = s.pkts ∧ s'.buf.errCount = s.buf.errCount)) ∧
  (∀ (cell : Nat), Completes (.cellFree · cell) (fun s => s.allocAhead = true ∧ s.buf.frees.contains cell = true) (fun s s' => s'.buf.endFrees = s.buf.endFrees ++ [cell] ∧ s'.buf.frees = s.buf.frees.erase cell ∧ s'.buf.cells = s.buf.cells ∧ s'.buf.pools = s.buf.pools ∧ s'.buf.accounts = s.buf.accounts)) ∧
  (∀ (cell : Nat), Completes (.cellFree · cell) (fun s => s.allocAhead = false ∧ validCell cell = true ∧ (s.cell cell).used = false) (fun s s' => s'.buf.errValid = true ∧ s'.buf.errKind = 1 ∧ s'.buf.errAddr = cell ∧ s'.buf.cells = s.buf.cells ∧ s'.buf.pools = s.buf.pools ∧ s'.buf.accounts = s.buf.accounts)) ∧
  (∀ (cell : Nat), Completes (.cellFree · cell) (fun s => s.allocAhead = false ∧ validCell cell = false) (fun s s' => s'.buf.errValid = true ∧ s'.buf.errKind = 3 ∧ s'.buf.errAddr = cell ∧ s'.buf.cells = s.buf.cells ∧ s'.buf.pools = s.buf.pools ∧ s'.buf.accounts = s.buf.accounts)) ∧
  (∀ (cell : Nat), Completes (.cellFree · cell) (fun s => s.buf.frees.contains cell = false ∧ s.buf.endFrees.contains cell = false ∧ validCell cell = true ∧ (s.cell cell).used = true) (fun s s' => s' = s)) ∧
  (∀ (pool : Nat) (far : Bool) (p : Pool), Completes (.poolCacheRefill · pool far) (fun s => p = s.pool pool ∧ p.enabled = true ∧ far = true ∧ 3584 < p.cacheNear.length + p.cacheFar.length ∧ (∀ a, a ∈ p.cacheFar → isFar a = true)) (fun s s' => (s'.pool pool).cacheFar = p.cacheFar.drop 64 ∧ (s'.pool pool).cacheNear = p.cacheNear ∧ s'.buf.farRing.back = s.buf.farRing.back ++ p.cacheFar.take 64 ∧ s'.buf.nearRing = s.buf.nearRing)) ∧
  (∀ (pool : Nat) (far : Bool) (p : Pool), Completes (.poolCacheRefill · pool far) (fun s => p = s.pool pool ∧ p.enabled = true ∧ p.cacheNear.length + p.cacheFar.length ≤ 3584 ∧ (far = true → p.cacheFar.length + 64 ≤ 2048)) (fun s s' => s' = refillCache pool far 64 s)) ∧
  (∀ (pool : Nat) (far : Bool), Completes (.poolCacheRefill · pool far) (fun s => (s.pool pool).enabled = false) (fun s s' => s' = s)) ∧
  (∀ (pool : Nat) (far : Bool) (p : Pool), Completes (.poolCacheRefill · pool far) (fun s => p = s.pool pool ∧ p.enabled = true ∧ far = false ∧ 3584 < p.cacheNear.length + p.cacheFar.length ∧ (∀ a, a ∈ p.cacheNear → isFar a = false)) (fun s s' => (s'.pool pool).cacheNear = p.cacheNear.drop 64 ∧ s'.buf.nearRing.back = s.buf.nearRing.back ++ p.cacheNear.take 64 ∧ s'.buf.farRing = s.buf.farRing)) ∧
  (∀ (pool : Nat) (far : Bool) (p : Pool), Completes (.poolCacheRefill · pool far) (fun s => p = s.pool pool ∧ p.enabled = true ∧ far = false ∧ p.cacheNear.length + p.cacheFar.length ≤ 3584 ∧ s.buf.nearRing.built = true ∧ s.buf.nearRing.taken + 64 ≤ 786432 ∧ s.units.out = [] ∧ s.units.work = []) (fun s s' => (s'.pool pool).cacheNear = p.cacheNear ++ (List.range 64).map (s.buf.nearRing.taken + ·) ∧ s'.buf.nearRing = { s.buf.nearRing with taken := s.buf.nearRing.taken + 64 } ∧ s'.buf.aside = s.buf.aside)) ∧
  (Completes (.bufReconcile ·) (fun s => s.allocAhead = false ∧ canon {} s.buf.cells = true) (fun s s' => (∀ a, (s.cell a).used = true → (s.cell a).ingress ≠ 255 → a ∉ s.heldCells → validCell a = true → (s'.cell a).used = false) ∧
      (∀ a, ((s.cell a).used = false ∨ (s.cell a).ingress = 255 ∨ a ∈ s.heldCells) → s'.cell a = s.cell a) ∧ s'.pkts = s.pkts)) ∧
  (∀ (a : Nat) (x : CellState), Completes (.bufReconcile ·) (fun s => s.allocAhead = false ∧ s.buf.cells = [(a, x)] ∧ x.used = true ∧ x.ingress ≠ 255 ∧ a ∉ s.heldCells ∧ validCell a = true) (fun s s' => (s'.cell a).used = false ∧ (s'.account x.account).used = (s.account x.account).used - 1 ∧ s'.pkts = s.pkts)) ∧
  (Completes (.bufReconcile ·) (fun s => ∀ r, r ∈ s.buf.cells → r.1 ∈ s.heldCells) (fun s s' => s' = s))

/-- Pools and far memory (R269, R271, R274, R278–R280, R285). -/
def Obligations.BufferCompletes : Prop :=
  (∀ (port : Nat) (cls : Nat) (x : Xoff), Completes (.pfcXoffRefresh · port cls) (fun s => look s.buf.xoff (port * 8 + cls) {} = x ∧ x.on = true ∧ x.refresh ≤ s.now ∧ (s.port port).state = .up ∧ (s.port port).personality = .ethernet ∧ bit (s.port port).cfg.pfcTx cls = true) (fun s s' => (look s'.buf.xoff (port * 8 + cls) {}).refresh = s.now + (s.port port).pauseTime 0xFFFF / 2 ∧ (look s'.buf.xoff (port * 8 + cls) {}).on = true ∧ s'.host.out = s.host.out ++ [.pause port (2 ^ cls) ((List.range 8).map fun i => if i = cls then 0xFFFF else 0)] ∧ look (s'.port port).counters 9 0 = (look (s.port port).counters 9 0 + 1) % 2 ^ 64)) ∧
  (∀ (port : Nat) (cls : Nat) (x : Xoff), Completes (.pfcXoffRefresh · port cls) (fun s => look s.buf.xoff (port * 8 + cls) {} = x ∧ x.on = true ∧ x.refresh ≤ s.now ∧ ((s.port port).state ≠ .up ∨ (s.port port).personality ≠ .ethernet ∨ bit (s.port port).cfg.pfcTx cls = false)) (fun s s' => s' = { s with buf := { s.buf with xoff := put s.buf.xoff (port * 8 + cls) {} { x with refresh := s.now + (s.port port).pauseTime 0xFFFF / 2 } } })) ∧
  (∀ (port : Nat) (cls : Nat) (x : Xoff), Completes (.pfcXoffRefresh · port cls) (fun s => look s.buf.xoff (port * 8 + cls) {} = x ∧ (x.on = false ∨ s.now < x.refresh)) (fun s s' => s' = s)) ∧
  (∀ (page : Nat) (x : FarPage) (k i : Nat), Completes (.farPageMove · page) (fun s => page < 1024 ∧ x = s.farPage page ∧ x.lost = false ∧ s.isOut 9 x.stack = true ∧ (s.stack x.stack).work = none ∧ s.spareSlot x.stack = some (k, i)) (fun s s' => s'.farPage page = { moved := true, stack := k, slot := i } ∧ (∀ p, p ≠ page → s'.farPage p = s.farPage p) ∧ s'.buf.cells = s.buf.cells)) ∧
  (∀ (page : Nat) (x : FarPage), Completes (.farPageMove · page) (fun s => page < 1024 ∧ x = s.farPage page ∧ x.lost = false ∧ s.isOut 9 x.stack = true ∧ (s.stack x.stack).work = none ∧ s.spareSlot x.stack = none) (fun s s' => (s'.farPage page).lost = true ∧ (∀ p, p ≠ page → s'.farPage p = s.farPage p) ∧ s'.farCapacity + 262144 = s.farCapacity)) ∧
  (∀ (a k : Nat), Completes (.farRingCopyRebuilt ·) (fun s => s.buf.farCopies = [a] ∧ s.copyStack = some k) (fun s s' => s'.buf.farCopies = [a, k] ∧ s'.buf.farRing = s.buf.farRing)) ∧
  (∀ (k : Nat), Completes (.farRingRebuilt ·) (fun s => s.buf.farCopies = [] ∧ s.buf.farRing.built = true ∧ s.copyStack = some k) (fun s s' => s'.buf.farCopies = [k] ∧ s'.buf.farRing = s.buf.farRing ∧ s'.ringUp true = true)) ∧
  (∀ (r : RegRead) (n v : Nat), Completes (.bufErrLogRead · r) (fun s => r.addr = 0x01603010 ∧ r.size = 4 ∧ s.answers r.host = true ∧ n = s.buf.errMark.seen s.kclk s.buf.errCount ∧ v = b2n s.buf.errValid * 2 ^ 31 + s.buf.errKind * 2 ^ 28 + n) (fun s s' => ∃ x : State, x = s.emit (.read r.host (v % 2 ^ 32)) ∧ s' = { x with buf := { x.buf with errCount := s.buf.errCount - n, errMark := s.buf.errMark.cleared s.kclk } })) ∧
  (∀ (r : RegRead) (n v : Nat), Completes (.bufErrLogRead · r) (fun s => r.addr / 4 = 0x00580C04 ∧ s.answers r.host = true ∧ n = s.buf.errMark.seen s.kclk s.buf.errCount ∧ v = b2n s.buf.errValid * 2 ^ 31 + s.buf.errKind * 2 ^ 28 + n) (fun s s' => ∃ x : State, x = s.emit (.read r.host (readPart r v)) ∧ s' = (if readAligned r = true then { x with buf := { x.buf with errCount := s.buf.errCount - n, errMark := s.buf.errMark.cleared s.kclk } } else x))) ∧
  (∀ (c : Cmd), Completes (.poolConfig · c) (fun s => ready s c 0x0800 .d0 = true ∧ firstErr (poolConfigErrs c s) = none ∧ c.u8 17 = 1) (fun s s' => s' = (s.setPool (c.u8 16) { s.pool (c.u8 16) with enabled := true, near := c.u32 20, far := c.u32 24 }).answer c .ok 0 0 [])) ∧
  (∀ (c : Cmd), Completes (.poolConfig · c) (fun s => ready s c 0x0800 .d0 = true ∧ c.u8 16 < 64 ∧ c.u8 17 = 0 ∧ c.zeros 18 2 = none ∧ c.u32 20 = 0 ∧ c.u32 24 = 0 ∧ c.zeros 28 36 = none ∧ s.minSum (c.u8 16) = 0 ∧ 0 < (s.pool (c.u8 16)).nearUsed) (fun s s' => s' = s.answer c .refused 1 0 [])) ∧
  (∀ (c : Cmd), Completes (.accountConfig · c) (fun s => ready s c 0x0801 .d0 = true ∧ firstErr (accountConfigErrs c s) = none) (fun s s' => s' = (s.setAccount (c.u16 16) { s.account (c.u16 16) with valid := c.u8 18 = 1, pool := c.u8 19, domain := c.u8 20, min := c.u32 24, max := c.u32 28 }).answer c .ok 0 0 [])) ∧
  (∀ (c : Cmd), Completes (.poolThresh · c) (fun s => ready s c 0x0802 .d0 = true ∧ c.u8 16 < 64 ∧ c.u8 17 < 4 ∧ c.u8 18 = 1 ∧ c.u8 19 < 16 ∧ c.u32 24 ≤ c.u32 20 ∧ c.zeros 29 3 = none ∧ c.zeros 36 28 = none ∧ (s.pool (c.u8 16)).byPort = [] ∧
      (look (s.pool (c.u8 16)).thresholds (c.u8 17) {}).isSet = false) (fun s s' => ∃ x : State, s' = x.answer c .ok 0 0 [] ∧ look (x.pool (c.u8 16)).thresholds (c.u8 17) {} = { measure := c.u8 18, actions := c.u8 19, setCells := c.u32 20, clearCells := c.u32 24, pfcClasses := c.u8 28, pfcFloor := c.u32 32, written := true, isSet := c.u32 20 ≤ (s.pool (c.u8 16)).nearUsed + (s.pool (c.u8 16)).farUsed } ∧
      (∀ i, i ≠ c.u8 17 → look (x.pool (c.u8 16)).thresholds i {} = look (s.pool (c.u8 16)).thresholds i {}))) ∧
  (∀ (c : Cmd), Completes (.queueBuf · c) (fun s => ready s c 0x0803 .any = true ∧ firstErr (queueBufErrs c s) = none) (fun s s' => ∃ x : State, s' = x.answer c .ok 0 0 [] ∧ ∀ q, x.queue q = if c.u32 16 ≤ q ∧ q < c.u32 16 + c.u32 20 then { s.queue q with account := c.u16 24, mark := c.u32 28, clear := c.u32 32, predict := c.u8 36 = 1 } else s.queue q)) ∧
  (∀ (c : Cmd) (p : Pool), Completes (.bufStats · c) (fun s => ready s c 0x0804 .any = true ∧ c.needReply = none ∧ c.u8 16 = 1 ∧ c.domain = 0 ∧ c.zeros 17 1 = none ∧ c.u16 18 < 64 ∧ c.u8 20 ≤ 1 ∧ c.zeros 21 43 = none ∧ p = s.pool (c.u16 18)) (fun s s' => s' = (if c.u8 20 = 1 then s.setPool (c.u16 18) { p with counters := [], high := p.nearUsed + p.farUsed } else s).answer c .ok 0 64 (bufStatsBytes p.nearUsed p.farUsed p.high p.counters))) ∧
  (∀ (c : Cmd) (a : Account), Completes (.bufStats · c) (fun s => ready s c 0x0804 .any = true ∧ c.needReply = none ∧ c.u8 16 = 0 ∧ c.zeros 17 1 = none ∧ c.u16 18 < 1024 ∧ c.u8 20 ≤ 1 ∧ c.zeros 21 43 = none ∧ a = s.account (c.u16 18) ∧ a.domain = c.domain) (fun s s' => s' = (if c.u8 20 = 1 then s.setAccount (c.u16 18) { a with counters := [], high := a.used } else s).answer c .ok 0 64 (bufStatsBytes a.used a.farUsed a.high a.counters)))

/-- Receipt and transmission (R116, R117, R127, R262, R397–R403). -/
def Obligations.FramesComplete : Prop :=
  (∀ (port : Nat) (f : RxFrame), Completes (.ethFrameReceive · port f) (fun s => (s.port port).state = .up ∧ (s.port port).personality = .ethernet ∧ f.uncorrectable = true) (fun s s' => s' = s.setPort port { s.port port with counters := bump (s.port port).counters 2 1 })) ∧
  (∀ (port : Nat) (f : RxFrame), Completes (.ethFrameReceive · port f) (fun s => (s.port port).state = .up ∧ (s.port port).personality = .ethernet ∧ f.uncorrectable = false ∧ f.bytes.length + 4 < 64) (fun s s' => s' = s.setPort port { s.port port with counters := bump (s.port port).counters 3 1 })) ∧
  (∀ (port : Nat) (f : RxFrame), Completes (.ethFrameReceive · port f) (fun s => (s.port port).state = .up ∧ (s.port port).personality = .ethernet ∧ f.uncorrectable = false ∧ 64 ≤ f.bytes.length + 4 ∧ (s.port port).cfg.maxFrame < f.bytes.length + 4) (fun s s' => s' = s.setPort port { s.port port with counters := bump (s.port port).counters 4 1 })) ∧
  (∀ (port : Nat) (f : RxFrame), Completes (.ethFrameReceive · port f) (fun s => (s.port port).state = .up ∧ (s.port port).personality = .ethernet ∧ f.uncorrectable = false ∧ 64 ≤ f.bytes.length + 4 ∧ f.bytes.length + 4 ≤ (s.port port).cfg.maxFrame ∧ f.fcsOk = false) (fun s s' => s' = s.setPort port { s.port port with counters := bump (s.port port).counters 2 1 })) ∧
  (∀ (port : Nat) (f : RxFrame), Completes (.ethFrameReceive · port f) (fun s => (s.port port).state ≠ .up) (fun s s' => s' = s)) ∧
  (∀ (port : Nat) (f : RxFrame), Completes (.ethFrameReceive · port f) (fun s => (s.port port).state = .up ∧ (s.port port).personality = .ethernet ∧ f.uncorrectable = false ∧ 64 ≤ f.bytes.length + 4 ∧ f.bytes.length + 4 ≤ (s.port port).cfg.maxFrame ∧ f.fcsOk = true ∧ beAt f.bytes 12 2 = 0x8808 ∧ beAt f.bytes 14 2 = 0x0101) (fun s s' => s' = s.pfcReceive port (beAt f.bytes 16 2 % 256) ((List.range 8).map fun i => beAt f.bytes (18 + 2 * i) 2) ∧ s'.pkts = s.pkts)) ∧
  (∀ (port : Nat) (f : RxFrame) (k : Nat), Completes (.ethFrameReceive · port f) (fun s => (s.port port).state = .up ∧ (s.port port).personality = .ethernet ∧ f.uncorrectable = false ∧ 64 ≤ f.bytes.length + 4 ∧ f.bytes.length + 4 ≤ (s.port port).cfg.maxFrame ∧ f.fcsOk = true ∧ beAt f.bytes 12 2 ≠ 0x8808 ∧ (s.cport port).rx = false ∧ s.isInband port f.bytes = false ∧ s.dispatching = true ∧ s.nextPkt = k) (fun s s' => (s'.pkt k).live = true ∧ (s'.pkt k).bytes = f.bytes ∧ (s'.pkt k).desc = { ingress := port, length := f.bytes.length, domain := s.owner 1 port, stamp := s.rxStamp port s.timeNow } ∧ s'.nextPkt = k + 1 ∧ look s'.parse.waiting port [] = look s.parse.waiting port [] ++ [k] ∧ look (s'.port port).counters 0 0 = (look (s.port port).counters 0 0 + 1) % 2 ^ 64 ∧ look (s'.port port).counters 1 0 = (look (s.port port).counters 1 0 + (f.bytes.length + 4)) % 2 ^ 64 ∧ (∀ p, p ≠ port → s'.port p = s.port p))) ∧
  (∀ (port : Nat) (f : RxFrame), Completes (.ethFrameReceive · port f) (fun s => (s.port port).state = .up ∧ (s.port port).personality = .ethernet ∧ f.uncorrectable = false ∧ 64 ≤ f.bytes.length + 4 ∧ f.bytes.length + 4 ≤ (s.port port).cfg.maxFrame ∧ f.fcsOk = true ∧ beAt f.bytes 12 2 ≠ 0x8808 ∧ (s.cport port).rx = false ∧ s.isInband port f.bytes = false ∧ s.dispatching = false) (fun s s' => look (s'.port port).counters 6 0 = (look (s.port port).counters 6 0 + 1) % 2 ^ 64 ∧ look (s'.port port).counters 0 0 = (look (s.port port).counters 0 0 + 1) % 2 ^ 64 ∧ s'.pkts = s.pkts ∧ s'.parse = s.parse)) ∧
  (∀ (port : Nat) (k : Nat) (l : List Nat) (b : Bytes), Completes (.frameTransmit · port) (fun s => s.pipe port = k :: l ∧ (s.pkt k).live = true ∧ (s.port port).state = .up ∧ (s.port port).personality = .ethernet ∧ (s.cport port).tx = false ∧ (s.pkt k).stomp = false ∧ (s.pkt k).desc.ptpOffset = 0xFFFF ∧ b = pad60 (s.pkt k).bytes) (fun s s' => s'.host.out = s.host.out ++ [.frame port (b ++ leBytes 4 (crc32 b))] ∧ s'.pipe port = l ∧ s'.pkts = drop s.pkts k ∧ look (s'.port port).counters 7 0 = (look (s.port port).counters 7 0 + 1) % 2 ^ 64 ∧ look (s'.port port).counters 8 0 = (look (s.port port).counters 8 0 + (b.length + 4)) % 2 ^ 64 ∧ (∀ p, p ≠ port → s'.port p = s.port p ∧ s'.pipe p = s.pipe p))) ∧
  (∀ (port : Nat) (k : Nat) (l : List Nat) (n o : Nat), Completes (.frameTransmit · port) (fun s => s.pipe port = k :: l ∧ (s.pkt k).live = true ∧ (s.port port).state = .up ∧ (s.port port).personality = .ethernet ∧ (s.cport port).tx = false ∧ (s.pkt k).stomp = false ∧ (s.pkt k).desc.ptpKind = 0 ∧ (s.pkt k).desc.ptpOffset = o ∧ (s.pkt k).bytes.length = n ∧ 60 ≤ n ∧ n < o + 8 ∧ o < 0xFFFF) (fun s s' => s'.host.out = s.host.out ++ [.frame port ((s.pkt k).bytes ++ leBytes 4 (crc32 (s.pkt k).bytes))] ∧ s'.time.unchanged = s.time.unchanged + 1)) ∧
  (∀ (port : Nat) (k : Nat) (l : List Nat) (o : Nat) (r v : Int) (b : Bytes), Completes (.frameTransmit · port) (fun s => s.pipe port = k :: l ∧ (s.pkt k).live = true ∧ (s.port port).state = .up ∧ (s.port port).personality = .ethernet ∧ (s.cport port).tx = false ∧ (s.pkt k).stomp = false ∧ (s.pkt k).desc.ptpKind = 0 ∧ (s.pkt k).desc.ptpOffset = o ∧ 60 ≤ (s.pkt k).bytes.length ∧ 8 ≤ o ∧ o + 8 ≤ (s.pkt k).bytes.length ∧ s.time.stepCycle = none ∧ 0 ≤ r ∧ r < 1000000000 * 2 ^ 16 ∧
      r = (((s.timeNow : Int) + (s.portTime port).txAdj * 2 ^ 24).toNat / 2 ^ 24 : Nat) - ((s.pkt k).desc.stamp / 2 ^ 24 : Nat) ∧ v = signed 64 (beAt (s.pkt k).bytes o 8) + r ∧ v < 2 ^ 63 ∧ b = overlay (s.pkt k).bytes o (beBytes 8 (unsigned 64 v))) (fun s s' => s'.host.out = s.host.out ++ [.frame port (b ++ leBytes 4 (crc32 b))] ∧ s'.time.saturated = s.time.saturated ∧ s'.time.unchanged = s.time.unchanged)) ∧
  (∀ (port : Nat) (k : Nat) (l : List Nat), Completes (.frameTransmit · port) (fun s => s.pipe port = k :: l ∧ (s.pkt k).live = true ∧ (s.port port).personality ≠ .none ∧ (s.port port).state ≠ .up) (fun s s' => s' = s)) ∧
  (∀ (port : Nat), Completes (.frameTransmit · port) (fun s => s.pipe port = []) (fun s s' => s' = s))

/-- Guyline (R17–R23). -/
def Obligations.GuylineCompletes : Prop :=
  (∀ (toT : Bool) (group : Nat) (crcOk : Bool) (y : Transfer) (l : List Transfer) (k p : Nat), Completes (.guylineDeliver · toT group crcOk) (fun s => s.isOut 3 group = false ∧ (s.group group).failed = false ∧ takeTransfer toT (s.group group).flight = some (y, l) ∧ y.issued + ns 8 ≤ s.now ∧ crcOk = true ∧ toT = false ∧ k = y.packet ∧ (s.pkt k).live = true ∧ (s.pkt k).desc.egressPass = false ∧ (s.pkt k).desc.port = p) (fun s s' => (s'.group group).flight = l ∧ s'.pipe p = s.pipe p ++ [k] ∧ s'.pkts = s.pkts ∧ (∀ g, g ≠ group → s'.group g = s.group g))) ∧
  (∀ (toT : Bool) (group : Nat) (crcOk : Bool) (y : Transfer) (l : List Transfer) (k : Nat), Completes (.guylineDeliver · toT group crcOk) (fun s => s.isOut 3 group = false ∧ (s.group group).failed = false ∧ takeTransfer toT (s.group group).flight = some (y, l) ∧ y.issued + ns 8 ≤ s.now ∧ crcOk = true ∧ toT = false ∧ k = y.packet ∧ (s.pkt k).live = true ∧ (s.pkt k).desc.egressPass = true) (fun s s' => (s'.group group).flight = l ∧ s'.parse.egressWaiting = s.parse.egressWaiting ++ [k] ∧ s'.pkt k = { s.pkt k with egress := true })) ∧
  (∀ (toT : Bool) (group : Nat) (crcOk : Bool), Completes (.guylineDeliver · toT group crcOk) (fun s => (s.group group).failed = true) (fun s s' => s' = s)) ∧
  (∀ (toT : Bool) (group : Nat) (crcOk : Bool) (y : Transfer) (l : List Transfer) (k : Nat), Completes (.guylineDeliver · toT group crcOk) (fun s => s.isOut 3 group = false ∧ (s.group group).failed = false ∧ takeTransfer toT (s.group group).flight = some (y, l) ∧ y.issued + ns 8 ≤ s.now ∧ crcOk = true ∧ toT = true ∧ k = y.packet ∧ (s.pkt k).live = true) (fun s s' => (s'.group group).flight = l ∧ ∃ x : State, x.group group = { s.group group with flight := l } ∧ s' = x.toWriter (if (s.pkt k).desc.mirror || (s.pkt k).desc.punt then 3 else if (s.port (s.pkt k).desc.ingress).personality = .pon then 2 else 0) k)) ∧
  (∀ (toT : Bool) (group : Nat) (crcOk : Bool) (y : Transfer) (l : List Transfer), Completes (.guylineDeliver · toT group crcOk) (fun s => s.isOut 3 group = false ∧ (s.group group).failed = false ∧ takeTransfer toT (s.group group).flight = some (y, l) ∧ y.issued + ns 8 ≤ s.now ∧ crcOk = false ∧ y.tries < 3) (fun s s' => (s'.group group).flight = replaceTransfer y { y with tries := y.tries + 1, issued := s.now } (s.group group).flight ∧ (s'.group group).failed = decide (16 < ((s.group group).replayed s.now).length) ∧ s'.pkts = s.pkts ∧ s'.ports = s.ports)) ∧
  (∀ (toT : Bool) (group : Nat) (crcOk : Bool) (y : Transfer) (l : List Transfer), Completes (.guylineDeliver · toT group crcOk) (fun s => s.isOut 3 group = false ∧ (s.group group).failed = false ∧ takeTransfer toT (s.group group).flight = some (y, l) ∧ y.issued + ns 8 ≤ s.now ∧ crcOk = false ∧ 3 ≤ y.tries) (fun s s' => (s'.group group).failed = true ∧ s'.pkts = s.pkts)) ∧
  (∀ (group : Nat) (g : Nat), Completes (.guylineGroupFailed · group) (fun s => group < 16 ∧ s.isOut 3 group = false ∧ (s.group group).failed = true ∧ g < 16 ∧ g ≠ group ∧ s.healthy 3 g = true) (fun s s' => (s'.group group).flight = [] ∧ s'.isOut 3 group = true ∧ (∀ y, y ∈ (s.group group).flight → (s'.pkt y.packet).live = false) ∧ (∀ i, i < 64 → s'.steerGroup true i ≠ group ∧ s'.steerGroup false i ≠ group))) ∧
  (∀ (group : Nat) (w : UnitWork), Completes (.guylineMapoutDrained · group) (fun s => s.workOf 3 group = some w ∧ w.ret = false ∧ (s.group group).flight = []) (fun _ s' => ∃ x : State, s' = x.answer w.cmd .ok 0 0 [] ∧ x.isOut 3 group = true)) ∧
  (∀ (toT : Bool) (idx : Nat) (w : UnitWork) (g : Nat), Completes (.guylineEntryReturn · toT idx) (fun s => idx < 64 ∧ s.workOf 3 (idx % 16) = some w ∧ w.ret = true ∧ s.isOut 3 (idx % 16) = false ∧ s.steerGroup toT idx = g ∧ g ≠ idx % 16 ∧ s.stopped toT idx = true ∧ ((s.group g).flight.any fun x => x.toT = toT && x.entry = idx) = false) (fun s s' => s'.steerGroup toT idx = idx % 16 ∧ s'.stopped toT idx = false ∧ (∀ i, i ≠ idx → s'.steerGroup toT i = s.steerGroup toT i)))

/-- Commands of the scheduler (R289, R290, R292, R295, R298, R310–R314). -/
def Obligations.QueueCommandsComplete : Prop :=
  (∀ (c : Cmd) (k p : Nat), Completes (.nodeConfig · c) (fun s => ready s c 0x0900 .any = true ∧ firstErr (nodeConfigErrs c s) = none ∧ c.u8 17 = 0 ∧ k = nodeKey (c.u8 16) (c.u32 20) ∧ p = nodeKey (c.u8 24) (c.u32 28) ∧ p ≠ k ∧ (s.node k).rings = []) (fun s s' => (s'.node k).live = true ∧ (s'.node k).owner = c.domain ∧ (s'.node k).up = p ∧ (s'.node k).priority = c.u8 25 ∧ (s'.node k).weight = c.u16 26 ∧ (s'.node k).cir = c.u32 32 ∧ (s'.node k).pir = c.u32 36 ∧ (s'.node k).overhead = c.i8 48 ∧ (s'.node k).mode = c.u8 49 ∧
      look (s'.node p).rings (c.u8 25) [] = look (s.node p).rings (c.u8 25) [] ++ [k] ∧ look (s'.node p).rings (8 + c.u8 25) [] = look (s.node p).rings (8 + c.u8 25) [] ++ [k] ∧ s'.tm.queues = s.tm.queues ∧ (∀ n, n ≠ k → n ≠ p → s'.node n = s.node n))) ∧
  (∀ (c : Cmd) (k i : Nat), Completes (.nodeConfig · c) (fun s => ready s c 0x0900 .any = true ∧ firstErr (nodeConfigErrs c s) = none ∧ c.u8 17 = 1 ∧ c.u8 18 = 2 ∧ k = nodeKey (c.u8 16) (c.u32 20) ∧ c.u8 19 = i ∧ i < 2) (fun s s' => (s'.node k).cir = c.u32 32 ∧ (s'.node k).pir = c.u32 36 ∧ (s'.node k).cbs = c.u32 40 ∧ (s'.node k).pbs = c.u32 44 ∧ (s'.node k).tokC = (if i = 0 then c.u32 40 * 65536 else 0) ∧ (s'.node k).tokP = (if i = 0 then c.u32 44 * 65536 else 0) ∧ (s'.node k).up = (s.node k).up ∧ (s'.node k).rings = (s.node k).rings ∧ s'.tm.queues = s.tm.queues)) ∧
  (∀ (c : Cmd) (k : Nat), Completes (.nodeConfig · c) (fun s => ready s c 0x0900 .any = true ∧ firstErr (nodeConfigErrs c s) = none ∧ c.u8 17 = 2 ∧ k = nodeKey (c.u8 16) (c.u32 20)) (fun s s' => (s'.node k).live = false ∧ s'.tm.queues = s.tm.queues)) ∧
  (∀ (c : Cmd), Completes (.nodeConfig · c) (fun s => ready s c 0x0900 .any = true ∧ firstErr (nodeConfigErrs c s) = none ∧ True) (fun s s' => s' = (nodeConfigDone c s.notePrior).answer c .ok 0 0 [] ∧ s'.asBefore.tm.nodes = s.asBefore.tm.nodes ∧ s'.tm.queues = s.tm.queues ∧ s'.pkts = s.pkts)) ∧
  (∀ (c : Cmd) (k : Nat), Completes (.nodeConfig · c) (fun s => ready s c 0x0900 .any = true ∧ firstErr (nodeConfigErrs c s) = none ∧ c.u8 16 = 0 ∧ c.u8 18 = 6 ∧ k = nodeKey 0 (c.u32 20)) (fun s s' => (s'.node k).attachMask = c.u16 50 ∧ (s'.node k).cir = c.u32 32 ∧ (s'.node k).pir = c.u32 36 ∧ (s'.node k).cbs = c.u32 40 ∧ (s'.node k).pbs = c.u32 44 ∧ (s'.node k).overhead = c.i8 48 ∧ (s'.node k).mode = c.u8 49 ∧ (s'.node k).rings = (s.node k).rings ∧ s'.tm.queues = s.tm.queues ∧ (∀ n, n ≠ k → s'.node n = s.node n))) ∧
  (∀ (c : Cmd) (k : Nat), Completes (.nodeConfig · c) (fun s => ready s c 0x0900 .any = true ∧ c.u8 16 = 1 ∧ c.u8 17 = 2 ∧ c.u8 18 = 0 ∧ c.u8 19 = 0 ∧ c.u32 20 < 16384 ∧ k = nodeKey 1 (c.u32 20) ∧ (s.node k).live = true ∧ (s.node k).owner = c.domain ∧ c.zeros 52 12 = none ∧ s.sliceDown k = false ∧ s.children k ≠ []) (fun s s' => s' = s.answer c .refused 1 0 [])) ∧
  (∀ (c : Cmd) (q : Nat), Completes (.queueState · c) (fun s => ready s c 0x0901 .any = true ∧ firstErr (queueStateErrs c s) = none ∧ c.u8 24 = 0 ∧ c.u32 16 ≤ q ∧ q < c.u32 16 + c.u32 20) (fun s s' => (s'.queue q).state = .opened ∧ (s'.queue q).maxCells = c.u32 28 ∧ (s'.queue q).packets = (s.queue q).packets ∧ (s'.queue q).counters = (s.queue q).counters)) ∧
  (∀ (c : Cmd) (q : Nat), Completes (.queueState · c) (fun s => ready s c 0x0901 .any = true ∧ firstErr (queueStateErrs c s) = none ∧ c.u8 24 = 1 ∧ c.u32 16 ≤ q ∧ q < c.u32 16 + c.u32 20 ∧ (s.queue q).state = .opened) (fun s s' => (s'.queue q).state = (if (s.queue q).packets = [] then .closed else .closing) ∧ (s'.queue q).packets = (s.queue q).packets)) ∧
  (∀ (c : Cmd) (q : Nat), Completes (.queueState · c) (fun s => ready s c 0x0901 .any = true ∧ firstErr (queueStateErrs c s) = none ∧ c.u8 24 = 1 ∧ c.u32 16 ≤ q ∧ q < c.u32 16 + c.u32 20 ∧ (s.queue q).state ≠ .opened) (fun s s' => s'.queue q = (if (s.queue q).packets = [] then { s.queue q with state := .closed } else s.queue q))) ∧
  (∀ (c : Cmd) (q : Nat), Completes (.queueState · c) (fun s => ready s c 0x0901 .any = true ∧ firstErr (queueStateErrs c s) = none ∧ c.u8 24 = 2 ∧ c.u32 16 ≤ q ∧ q < c.u32 16 + c.u32 20 ∧ (s.queue q).packets = []) (fun s s' => (s'.queue q).state = .closed ∧ (s'.queue q).flushing = (s.queue q).flushing ∧ (s'.queue q).packets = [])) ∧
  (∀ (c : Cmd), Completes (.queueState · c) (fun s => ready s c 0x0901 .any = true ∧ firstErr (queueStateErrs c s) = none ∧ (c.u8 24 < 2 ∨ ∀ q, c.u32 16 ≤ q ∧ q < c.u32 16 + c.u32 20 → (s.queue q).packets = [])) (fun s s' => s' = (each (queueStateOne (c.u8 24) (c.u32 28)) (rangeOf (c.u32 16) (c.u32 20)) s).answer c .ok 0 0 [])) ∧
  (∀ (c : Cmd) (q : Nat), Completes (.queueState · c) (fun s => ready s c 0x0901 .any = true ∧ firstErr (queueStateErrs c s) = none ∧ ¬ (c.u32 16 ≤ q ∧ q < c.u32 16 + c.u32 20)) (fun s s' => s'.queue q = s.queue q)) ∧
  (∀ (c : Cmd) (q : Nat), Completes (.queueState · c) (fun s => ready s c 0x0901 .any = true ∧ firstErr (queueStateErrs c s) = none ∧ c.u8 24 = 2 ∧ c.u32 16 ≤ q ∧ q < c.u32 16 + c.u32 20 ∧ (s.queue q).packets ≠ []) (fun s s' => (s'.queue q).state = .closing ∧ (s'.queue q).flushing = true ∧ s'.host.out = s.host.out)) ∧
  (∀ (c : Cmd) (q : Nat), Completes (.queueState · c) (fun s => ready s c 0x0901 .any = true ∧ s.ownErr c 2 (c.u32 16) = none ∧ 1 ≤ c.u32 20 ∧ s.ownsRange c.domain 2 (c.u32 16) (c.u32 20) = true ∧ c.u8 24 ≤ 2 ∧ c.zeros 25 3 = none ∧ c.u8 24 = 1 ∧ c.u32 28 = 0 ∧ c.zeros 32 32 = none ∧ c.u32 16 ≤ q ∧ q < c.u32 16 + c.u32 20 ∧ (s.queue q).flushing = true) (fun s s' => s' = s.answer c .busy 0 0 [])) ∧
  (∀ (c : Cmd) (x : Started) (q k : Nat), Completes (.flushComplete · c) (fun s => s.startedAs c = some x ∧ x.working = true ∧ c.opcode = 0x0901 ∧ c.u32 16 = q ∧ c.u32 20 = 1 ∧ (s.queue q).flushing = true ∧ (s.queue q).packets = [k] ∧ (s.pkt k).cells = []) (fun s s' => ∃ z : State, s' = z.answer c .ok 0 0 [] ∧ (z.queue q).state = .closed ∧ (z.queue q).packets = [] ∧ (z.queue q).flushing = false ∧ look (z.queue q).counters 6 0 = (look (s.queue q).counters 6 0 + 1) % 2 ^ 64 ∧ (z.pkt k).live = false)) ∧
  (∀ (c : Cmd) (x : Started), Completes (.flushComplete · c) (fun s => s.startedAs c = some x ∧ x.working = true ∧ c.opcode = 0x0901) (fun s s' => ∃ z : State, s' = z.answer c .ok 0 0 [] ∧ (∀ q, c.u32 16 ≤ q → q < c.u32 16 + c.u32 20 → (s.queue q).flushing = true → (z.queue q).state = .closed ∧ (z.queue q).packets = [] ∧ (z.queue q).flushing = false) ∧
      (∀ q, ¬ (c.u32 16 ≤ q ∧ q < c.u32 16 + c.u32 20 ∧ (s.queue q).flushing = true) → z.queue q = s.queue q))) ∧
  (∀ (c : Cmd), Completes (.nodeQuery · c) (fun s => ready s c 0x0902 .any = true ∧ c.needReply = none ∧ c.u8 16 ≤ 4 ∧ c.zeros 17 3 = none ∧ c.zeros 24 40 = none ∧ (if c.u8 16 = 4 then s.ownErr c 2 (c.u32 20) = none else c.u32 20 < levelCount (c.u8 16) ∧ s.nodeOwner (nodeKey (c.u8 16) (c.u32 20)) = c.domain ∧ s.nodeExists (nodeKey (c.u8 16) (c.u32 20)) = true)) (fun s s' => s' = s.answer c .ok 0 64 (nodeRecord s (nodeKey (c.u8 16) (c.u32 20))))) ∧
  (∀ (c : Cmd) (x : Queue), Completes (.queueStats · c) (fun s => ready s c 0x0903 .any = true ∧ c.needReply = none ∧ s.ownErr c 2 (c.u32 16) = none ∧ c.u8 20 ≤ 1 ∧ c.zeros 21 43 = none ∧ x = s.queue (c.u32 16)) (fun s s' => s' = (if c.u8 20 = 1 then s.setQueue (c.u32 16) { x with counters := [] } else s).answer c .ok 0 64 (((List.range 7).flatMap fun i => leBytes 8 (look x.counters i 0)) ++ leBytes 8 x.depth))) ∧
  (∀ (c : Cmd) (d : Nat), Completes (.schedLimit · c) (fun s => ready s c 0x0904 .d0 = true ∧ c.u8 16 < 16 ∧ c.zeros 17 3 = none ∧ c.zeros 32 32 = none ∧ d = c.u8 16) (fun s s' => ∃ z : State, s' = z.answer c .ok 0 0 [] ∧ z.nodeAllow d 1 = (if c.u32 20 = 0xFFFFFFFF then 2 ^ 32 else c.u32 20) ∧ z.nodeAllow d 2 = (if c.u32 24 = 0xFFFFFFFF then 2 ^ 32 else c.u32 24) ∧ z.nodeAllow d 3 = (if c.u32 28 = 0xFFFFFFFF then 2 ^ 32 else c.u32 28) ∧ (∀ e l, e ≠ d → e < 16 → l < 4 → z.nodeAllow e l = s.nodeAllow e l) ∧ z.tm.nodes = s.tm.nodes))

/-- Enqueue, refill, selection and debit (R280, R291, R294, R298–R300, R324). -/
def Obligations.QueuesComplete : Prop :=
  (∀ (requester : Nat) (w : Writer) (k qn a : Nat), Completes (.enqueue · requester) (fun s => w = s.writer requester ∧ w.busy = true ∧ w.decided = true ∧ k = w.packet ∧ (s.pkt k).live = true ∧ (s.pkt k).desc.length ≤ 256 * (s.pkt k).cells.length ∧ qn = (s.pkt k).desc.queue ∧ (s.pending.foldl State.queueAhead s).queue qn = s.queue qn ∧ s.buf.arrivals = [] ∧ (s.pkt k).untrusted = false ∧ (s.queue qn).state = .opened ∧ s.rootOf (nodeKey 4 qn) = some a ∧ a < 128 ∧ (s.port a).state = .up) (fun s s' => (s'.queue qn).packets = (s.queue qn).packets ++ [k] ∧ (s'.queue qn).depth = (s.queue qn).depth + ((s.pkt k).desc.length + 255) / 256 ∧ look (s'.queue qn).counters 0 0 = (look (s.queue qn).counters 0 0 + 1) % 2 ^ 64 ∧ look (s'.queue qn).counters 1 0 = (look (s.queue qn).counters 1 0 + ((s.pkt k).desc.length + 4)) % 2 ^ 64 ∧ (s'.pkt k).accepted = s.now ∧ (s'.pkt k).bytes = (s.pkt k).bytes ∧ (s'.writer requester).busy = false ∧ (∀ q, q ≠ qn → s'.queue q = s.queue q))) ∧
  (∀ (requester : Nat) (w : Writer) (k qn : Nat), Completes (.enqueue · requester) (fun s => w = s.writer requester ∧ w.busy = true ∧ w.decided = true ∧ k = w.packet ∧ (s.pkt k).live = true ∧ (s.pkt k).desc.length ≤ 256 * (s.pkt k).cells.length ∧ qn = (s.pkt k).desc.queue ∧ (s.pending.foldl State.queueAhead s).queue qn = s.queue qn ∧ s.buf.arrivals = [] ∧ (s.pkt k).untrusted = true) (fun s s' => (s'.pkt k).live = false ∧ (s'.queue qn).packets = (s.queue qn).packets ∧ (s'.writer requester).busy = false)) ∧
  (∀ (requester : Nat) (w : Writer) (k qn : Nat), Completes (.enqueue · requester) (fun s => w = s.writer requester ∧ w.busy = true ∧ w.decided = true ∧ k = w.packet ∧ (s.pkt k).live = true ∧ (s.pkt k).desc.length ≤ 256 * (s.pkt k).cells.length ∧ qn = (s.pkt k).desc.queue ∧ (s.pending.foldl State.queueAhead s).queue qn = s.queue qn ∧ s.buf.arrivals = [] ∧ (s.pkt k).untrusted = false ∧ (s.queue qn).state = .closed) (fun s s' => (s'.pkt k).live = false ∧ (s'.queue qn).packets = (s.queue qn).packets ∧ look (s'.queue qn).counters 4 0 = (look (s.queue qn).counters 4 0 + 1) % 2 ^ 64)) ∧
  (∀ (requester : Nat) (w : Writer) (k qn : Nat) (p : Packet), Completes (.enqueue · requester) (fun s => w = s.writer requester ∧ w.busy = true ∧ w.decided = true ∧ k = w.packet ∧ (s.pkt k).live = true ∧ (s.pkt k).desc.length ≤ 256 * (s.pkt k).cells.length ∧ qn = (s.pkt k).desc.queue ∧ p = s.pkt k) (fun s s' => ∃ z : State, s' = z.feedWriters (writerClass requester) ∧ (z.writer requester).busy = false ∧ z.buf.arrivals = s.buf.arrivals ∧ (∀ q, q ≠ qn → z.queue q = s.queue q) ∧
      (if p.untrusted = true then (z.pkt k).live = false ∧ z.tm.queues = s.tm.queues
       else if s.admitErr { p with desc := { p.desc with length := 0 } } = some 4 then (z.pkt k).live = false ∧ z.queue qn = { s.queue qn with counters := bump (s.queue qn).counters 4 1 }
       else match s.flushes qn with
         | some a => (z.pkt k).live = false ∧ z.tm.queues = s.tm.queues ∧ look (z.port a).counters 13 0 = (look (s.port a).counters 13 0 + 1) % 2 ^ 64
         | none => (z.queue qn).packets = (s.queue qn).packets ++ [k]))) ∧
  (∀ (requester : Nat) (w : Writer), Completes (.enqueue · requester) (fun s => w = s.writer requester ∧ (w.busy = false ∨ w.decided = false ∨ (s.pkt w.packet).live = false ∨ 256 * (s.pkt w.packet).cells.length < (s.pkt w.packet).desc.length)) (fun s s' => s' = s)) ∧
  (Completes (.depthSnapshot ·) (fun s => canon {} s.tm.queues = true) (fun s s' => (∀ q, s'.queue q = if q ∈ s.tm.queues.map (fun r => r.1) then (s.queue q).roll s.epoch else s.queue q) ∧ s'.tm.nodes = s.tm.nodes ∧ s'.pkts = s.pkts)) ∧
  (Completes (.tokenRefill ·) (fun s => canon {} s.tm.nodes = true ∧ canon {} s.pol.policers = true) (fun s s' => (∀ k, s'.node k = if k ∈ s.tm.nodes.map (fun r => r.1) then (s.node k).refill s.tclk else s.node k) ∧ (∀ k, s'.policer k = if k ∈ s.pol.policers.map (fun r => r.1) then (s.policer k).refill s.tclk else s.policer k) ∧ s'.tm.queues = s.tm.queues ∧ s'.pkts = s.pkts)) ∧
  (∀ (q : Nat) (x : Queue), Completes (.depthSnapshot ·) (fun s => s.tm.queues = [(q, x)]) (fun s s' => s'.tm.queues = put [(q, x)] q {} (x.roll (s.now / ns 500)) ∧ s'.tm.nodes = s.tm.nodes ∧ s'.pkts = s.pkts)) ∧
  (∀ (k : Nat) (n : Node), Completes (.tokenRefill ·) (fun s => s.tm.nodes = [(k, n)] ∧ s.pol.policers = []) (fun s s' => (s'.node k).tokC = min (n.cbs * 65536 : Int) (n.tokC + (credited n.mode n.cir (s.now / 4) - credited n.mode n.cir n.filled : Int)) ∧ (s'.node k).tokP = min (n.pbs * 65536 : Int) (n.tokP + (credited n.mode n.peakRate (s.now / 4) - credited n.mode n.peakRate n.filled : Int)) ∧ (s'.node k).filled = s.now / 4 ∧ (s'.node k).rings = n.rings ∧ s'.tm.queues = s.tm.queues)) ∧
  (∀ (node : Nat) (k : Nat) (path : List (Nat × Nat)) (q p : Nat), Completes (.schedSelect · node) (fun s => node < 192 ∧ s.writtenNow = false ∧ k = s.sliceOf node ∧ s.selectedNow k = false ∧ s.rootSchedulable node = true ∧ s.isOut 8 k = false ∧ s.yields node = false ∧ (s.tm.selections.filter fun x => x.slice = k).length < 150 ∧ (descend (State.queueReady node) 5 (nodeKey 0 node) s).map (fun y => y.1) = some path ∧ path.getLast? = some (q, p)) (fun s s' => s'.tm.selections = s.tm.selections ++ [{ slice := k, node := node, path := path, queue := idOf q }] ∧ look s'.tm.lastA k 0 = node + 1 ∧ s'.tm.queues = s.tm.queues ∧ s'.pkts = s.pkts ∧
      (∀ n, s'.node n = { s.node n with rings := (s'.node n).rings, defC := (s'.node n).defC, defE := (s'.node n).defE }))) ∧
  (∀ (node : Nat) (a c p : Nat) (l : List (Nat × Nat)), Completes (.schedSelect · node) (fun s => node < 192 ∧ s.writtenNow = false ∧ a = nodeKey 0 node ∧ s.selectedNow (s.sliceOf node) = false ∧ s.rootSchedulable node = true ∧ s.isOut 8 (s.sliceOf node) = false ∧ s.yields node = false ∧ (s.tm.selections.filter fun x => x.slice = s.sliceOf node).length < 150 ∧ (descend (State.queueReady node) 5 a s).map (fun y => y.1) = some ((c, p) :: l) ∧
      (∀ d, d ∈ s.children a → (s.node d).priority < 8 ∧ d ∈ look (s.node a).rings (s.node d).priority [] ∧ d ∈ look (s.node a).rings (8 + (s.node d).priority) [])) (fun s s' => s'.tm.selections ≠ s.tm.selections ∧ c ∈ s.children a ∧ (p = 0 ∨ p = 1) ∧ (p = 0 → (s.node c).committed s.tclk = true ∧ ∀ d, d ∈ s.children a → schedulable (State.queueReady node) s 5 d = true → (s.node d).committed s.tclk = true → (s.node c).priority ≤ (s.node d).priority) ∧
      (p = 1 → ∀ d, d ∈ s.children a → schedulable (State.queueReady node) s 5 d = true → (s.node d).committed s.tclk = false ∧ (s.node c).priority ≤ (s.node d).priority))) ∧
  (∀ (node : Nat), Completes (.schedSelect · node) (fun s => 192 ≤ node ∨ s.asBefore.rootSchedulable node = false ∨ s.isOut 8 (s.sliceOf node) = true ∨ s.asBefore.yields node = true ∨ s.selectedNow (s.sliceOf node) = true ∨ 150 ≤ (s.tm.selections.filter fun x => x.slice = s.sliceOf node).length) (fun s s' => s' = s)) ∧
  (∀ (node : Nat), Completes (.schedSelect · node) (fun s => s.isOut 8 (s.sliceOf node) = true) (fun s s' => s' = s)) ∧
  (∀ (slice : Nat) (x : Selection) (q k : Nat) (l : List Nat) (c p : Nat), Completes (.selectionComplete · slice) (fun s => s.tm.selections = [x] ∧ x.slice = slice ∧ x.queue = q ∧ (s.queue q).packets = k :: l ∧ k ∉ l ∧ x.path = [(c, p)] ∧ c = nodeKey 4 q ∧ q < 2 ^ 20 ∧ x.node < 128 ∧ p < 2 ∧ s.overSojourn q k = false ∧ s.canIssue false (portEntry x.node) = true ∧ (s.pkt k).cells = [] ∧ l ≠ []) (fun s s' => (s'.queue q).packets = l ∧ look (s'.queue q).counters 2 0 = (look (s.queue q).counters 2 0 + 1) % 2 ^ 64 ∧ look (s'.queue q).counters 3 0 = (look (s.queue q).counters 3 0 + ((s.pkt k).desc.length + 4)) % 2 ^ 64 ∧ s'.tm.selections = [] ∧ (s'.pkt k).desc.port = x.node ∧ s'.node (nodeKey 0 x.node) = (s.node (nodeKey 0 x.node)).debit s.tclk ((s.node (nodeKey 0 x.node)).charge (s.pkt k).desc.length) ∧
      s'.node c = (((s.node c).debit s.tclk ((s.node c).charge (s.pkt k).desc.length)).addDeficit p (-((s.node (nodeKey 0 x.node)).charge (s.pkt k).desc.length : Int))))) ∧
  (∀ (slice : Nat) (x : Selection) (q k : Nat) (l : List Nat) (c p : Nat), Completes (.selectionComplete · slice) (fun s => s.tm.selections = [x] ∧ x.slice = slice ∧ x.queue = q ∧ (s.queue q).packets = k :: l ∧ k ∉ l ∧ x.path = [(c, p)] ∧ c = nodeKey 4 q ∧ q < 2 ^ 20 ∧ x.node < 128 ∧ p < 2 ∧ s.overSojourn q k = true) (fun s s' => (s'.queue q).packets = l ∧ (s'.pkt k).live = false ∧ look (s'.queue q).cong 6 0 = (look (s.queue q).cong 6 0 + 1) % 2 ^ 64 ∧ s'.tm.selections = [])) ∧
  (∀ (slice : Nat) (x : Selection) (k : Nat) (l : List Nat), Completes (.selectionComplete · slice) (fun s => s.tm.selections.find? (fun x => x.slice = slice) = some x ∧ (s.queue x.queue).packets = k :: l ∧ s.overSojourn x.queue k = false ∧ (128 ≤ x.node ∨ s.canIssue false (portEntry x.node) = true)) (fun s s' => s' = ({ s with tm := { s.tm with selections := s.tm.selections.erase x } } : State).sendHead x k ∧ (s'.queue x.queue).packets = l ∧ s'.tm.selections = s.tm.selections.erase x ∧ (∀ q, q ≠ x.queue → (s'.queue q).packets = (s.queue q).packets))) ∧
  (∀ (slice : Nat) (x : Selection) (k : Nat) (l : List Nat), Completes (.selectionComplete · slice) (fun s => s.tm.selections.find? (fun x => x.slice = slice) = some x ∧ (s.queue x.queue).packets = k :: l ∧ s.overSojourn x.queue k = false ∧ x.node < 128 ∧ s.canIssue false (portEntry x.node) = false) (fun s s' => s' = s)) ∧
  (∀ (slice : Nat) (x : Selection), Completes (.selectionComplete · slice) (fun s => s.tm.selections.find? (fun x => x.slice = slice) = some x ∧ (s.queue x.queue).packets = []) (fun s s' => s' = { s with tm := { s.tm with selections := s.tm.selections.erase x } })) ∧
  (∀ (slice : Nat) (x : Selection) (k : Nat) (l : List Nat), Completes (.selectionComplete · slice) (fun s => s.tm.selections.find? (fun x => x.slice = slice) = some x ∧ (s.queue x.queue).packets = k :: l ∧ s.overSojourn x.queue k = true) (fun s s' => (s'.queue x.queue).packets = l ∧ (s'.pkt k).live = false ∧ s'.tm.selections = s.tm.selections.erase x)) ∧
  (∀ (slice : Nat), Completes (.selectionComplete · slice) (fun s => s.tm.selections.find? (fun x => x.slice = slice) = none) (fun s s' => s' = s))

/-- Policing, congestion and observation (R320–R328). -/
def Obligations.PoliceCommandsComplete : Prop :=
  (∀ (c : Cmd) (k i : Nat), Completes (.policerConfig · c) (fun s => ready s c 0x0A00 .any = true ∧ firstErr (policerConfigErrs c s) = none ∧ k = c.u32 16 ∧ ¬ ((s.policer k).cir = c.u32 28 ∧ (s.policer k).rate2 = c.u32 32 ∧ (s.policer k).cbs = c.u32 36 ∧ (s.policer k).size2 = c.u32 40) ∧ c.u8 24 = i ∧ i < 2) (fun s s' => (s'.policer k).enable = decide (c.u8 20 = 1) ∧ (s'.policer k).kind = c.u8 21 ∧ (s'.policer k).aware = bit (c.u8 22) 0 ∧ (s'.policer k).couple = bit (c.u8 22) 1 ∧ (s'.policer k).packet = bit (c.u8 22) 2 ∧ (s'.policer k).overhead = c.i8 23 ∧ (s'.policer k).yellowDrop = decide (c.u8 25 = 1) ∧ (s'.policer k).redDrop = decide (c.u8 26 = 1) ∧ (s'.policer k).cir = c.u32 28 ∧ (s'.policer k).rate2 = c.u32 32 ∧ (s'.policer k).cbs = c.u32 36 ∧ (s'.policer k).size2 = c.u32 40 ∧ (s'.policer k).tokC = (if i = 0 then c.u32 36 * 65536 else 0) ∧ (s'.policer k).tok2 = (if i = 0 then c.u32 40 * 65536 else 0) ∧ (s'.policer k).stats = (s.policer k).stats ∧ (s.policerWritten k = false → s'.policerNow k = s.policer k))) ∧
  (∀ (c : Cmd) (k : Nat) (p : Policer), Completes (.policerConfig · c) (fun s => ready s c 0x0A00 .any = true ∧ firstErr (policerConfigErrs c s) = none ∧ k = c.u32 16 ∧ p = (s.policer k).refill s.tclk ∧ p.cir = c.u32 28 ∧ p.rate2 = c.u32 32 ∧ p.cbs = c.u32 36 ∧ p.size2 = c.u32 40) (fun s s' => (s'.policer k).enable = decide (c.u8 20 = 1) ∧ (s'.policer k).kind = c.u8 21 ∧ (s'.policer k).aware = bit (c.u8 22) 0 ∧ (s'.policer k).couple = bit (c.u8 22) 1 ∧ (s'.policer k).packet = bit (c.u8 22) 2 ∧ (s'.policer k).overhead = c.i8 23 ∧ (s'.policer k).yellowDrop = decide (c.u8 25 = 1) ∧ (s'.policer k).redDrop = decide (c.u8 26 = 1) ∧ (s'.policer k).cir = c.u32 28 ∧ (s'.policer k).rate2 = c.u32 32 ∧ (s'.policer k).cbs = c.u32 36 ∧ (s'.policer k).size2 = c.u32 40 ∧ (s'.policer k).tokC = p.tokC ∧ (s'.policer k).tok2 = p.tok2 ∧ (s.policerWritten k = false → s'.policerNow k = s.policer k))) ∧
  (∀ (c : Cmd) (x : Policer), Completes (.policerStats · c) (fun s => ready s c 0x0A01 .any = true ∧ c.needReply = none ∧ s.ownErr c 6 (c.u32 16) = none ∧ c.u8 20 ≤ 1 ∧ c.zeros 21 43 = none ∧ x = s.policer (c.u32 16)) (fun s s' => s' = (if c.u8 20 = 1 then s.setPolicer (c.u32 16) { x with stats := [] } else s).answer c .ok 0 64 ((List.range 8).flatMap fun i => leBytes 8 (look x.stats i 0)))) ∧
  (∀ (c : Cmd) (id : Nat), Completes (.congProfile · c) (fun s => ready s c 0x0A02 .any = true ∧ firstErr (congProfileErrs c s) = none ∧ c.u8 16 ≠ 2 ∧ id = c.u16 18) (fun s s' => s'.cprofile id = { live := true, owner := c.domain, mode := c.u8 20, w := c.u8 21, decayNs := c.u16 22, minTh := c.u32 24, maxTh := c.u32 28, maxP := c.u16 32, hardTh := c.u32 36 } ∧ (∀ i, i ≠ id → s'.cprofile i = s.cprofile i) ∧ ((look s.pol.priorProfiles id {}).cycle ≠ s.tclk + 1 → s'.profileNow id = s.cprofile id) ∧ s'.tm = s.tm)) ∧
  (∀ (c : Cmd), Completes (.congProfile · c) (fun s => ready s c 0x0A02 .any = true ∧ c.u8 16 = 2 ∧ c.zeros 17 1 = none ∧ c.u16 18 < 4096 ∧ (s.cprofile (c.u16 18)).live = true ∧ (s.cprofile (c.u16 18)).owner = c.domain ∧ c.zeros 20 44 = none ∧ s.profileUsed (c.u16 18) = true) (fun s s' => s' = s.answer c .refused 1 0 [])) ∧
  (∀ (c : Cmd) (id : Nat), Completes (.congProfile · c) (fun s => ready s c 0x0A02 .any = true ∧ firstErr (congProfileErrs c s) = none ∧ c.u8 16 = 2 ∧ id = c.u16 18) (fun s s' => s'.cprofile id = {} ∧ (∀ i, i ≠ id → s'.cprofile i = s.cprofile i) ∧ s'.tm = s.tm)) ∧
  (∀ (c : Cmd), Completes (.queueCong · c) (fun s => ready s c 0x0A03 .any = true ∧ s.ownErr c 2 (c.u32 16) = none ∧ 1 ≤ c.u32 20 ∧ s.ownsRange c.domain 2 (c.u32 16) (c.u32 20) = true ∧ (∀ i, i < 4 → c.u16 (24 + 2 * i) = 0xFFFF ∨ ((s.cprofile (c.u16 (24 + 2 * i))).live = true ∧ (s.cprofile (c.u16 (24 + 2 * i))).owner = c.domain)) ∧ c.zeros 34 30 = none) (fun s s' => ∃ z : State, s' = z.answer c .ok 0 0 [] ∧ ∀ q, (if c.u32 16 ≤ q ∧ q < c.u32 16 + c.u32 20 then (z.queue q).sojournUs = c.u16 32 ∧ (∀ i, i < 4 → (z.queue q).slot i = if c.u16 (24 + 2 * i) = 0xFFFF then none else some (c.u16 (24 + 2 * i))) else z.queue q = s.queue q))) ∧
  (∀ (c : Cmd), Completes (.obsSelect · c) (fun s => ready s c 0x0A04 .any = true ∧ c.u8 16 = 0 ∧ c.zeros 17 3 = none ∧ s.ownErr c 2 (c.u32 20) = none ∧ 1 ≤ c.u32 24 ∧ c.u32 24 ≤ 65536 ∧ s.ownsRange c.domain 2 (c.u32 20) (c.u32 24) = true ∧ c.zeros 28 36 = none ∧ (∀ q, c.u32 20 ≤ q → q < c.u32 20 + c.u32 24 → (s.queue q).selected = false) ∧ s.selectedCount + c.u32 24 ≤ 65536 ∧ (s.selectedOf c.domain).length + c.u32 24 ≤ allowance s.pol.slotAllow c.domain) (fun s s' => ∃ z : State, s' = z.answer c .ok 0 0 [] ∧ ∀ q, z.queue q = if c.u32 20 ≤ q ∧ q < c.u32 20 + c.u32 24 then { s.queue q with selected := true } else s.queue q)) ∧
  (∀ (c : Cmd), Completes (.obsSelect · c) (fun s => ready s c 0x0A04 .any = true ∧ c.u8 16 = 1 ∧ c.zeros 17 3 = none ∧ s.ownErr c 2 (c.u32 20) = none ∧ 1 ≤ c.u32 24 ∧ c.u32 24 ≤ 65536 ∧ s.ownsRange c.domain 2 (c.u32 20) (c.u32 24) = true ∧ c.zeros 28 36 = none ∧ (rangeOf (c.u32 20) (c.u32 24)).all (fun q => (s.queue q).selected) = true) (fun s s' => ∃ z : State, s' = z.answer c .ok 0 0 [] ∧ ∀ q, z.queue q = if c.u32 20 ≤ q ∧ q < c.u32 20 + c.u32 24 then { s.queue q with selected := false } else s.queue q)) ∧
  (∀ (c : Cmd), Completes (.obsSelect · c) (fun s => ready s c 0x0A04 .any = true ∧ c.u8 16 ≤ 1 ∧ c.zeros 17 3 = none ∧ s.ownErr c 2 (c.u32 20) = none ∧ 1 ≤ c.u32 24 ∧ c.u32 24 ≤ 65536 ∧ s.ownsRange c.domain 2 (c.u32 20) (c.u32 24) = false) (fun s s' => s' = s.answer c .denied 0 0 [])) ∧
  (∀ (c : Cmd) (x : Observer), Completes (.obsConfig · c) (fun s => ready s c 0x0A05 .any = true ∧ c.u8 16 ≤ 1 ∧ 1 ≤ c.u8 17 ∧ c.u8 17 ≤ 8 ∧ c.zeros 18 2 = none ∧ 100 ≤ c.u32 20 ∧ c.u32 20 ≤ 1000000 ∧ c.zeros 24 40 = none ∧ (s.pol.obs.map fun r => r.2.pages).sum - (s.observer c.domain).pages + c.u8 17 ≤ 128 ∧ x = s.observer c.domain) (fun s s' => (s'.observer c.domain).enable = decide (c.u8 16 = 1) ∧ (s'.observer c.domain).pages = c.u8 17 ∧ (s'.observer c.domain).periodUs = c.u32 20 ∧ (s'.observer c.domain).pos = (if x.pages = c.u8 17 then x.pos else 0) ∧ (s'.observer c.domain).seq = x.seq ∧ (∀ d, d ≠ c.domain → s'.observer d = s.observer d) ∧ s'.tm = s.tm)) ∧
  (∀ (c : Cmd), Completes (.obsHwm · c) (fun s => ready s c 0x0A06 .any = true ∧ c.needReply = none ∧ s.ownErr c 2 (c.u32 16) = none ∧ 1 ≤ c.u32 20 ∧ c.u32 20 ≤ 16384 ∧ s.ownsRange c.domain 2 (c.u32 16) (c.u32 20) = true ∧ c.u8 24 = 1 ∧ c.zeros 25 39 = none) (fun s s' => ∃ z : State, s' = z.answer c .ok 0 (4 * c.u32 20) ((rangeOf (c.u32 16) (c.u32 20)).flatMap fun q => leBytes 4 ((s.queue q).markRead s.tclk)) ∧ (∀ q, (z.queue q).high = if c.u32 16 ≤ q ∧ q < c.u32 16 + c.u32 20 then (s.queue q).depth else (s.queue q).high) ∧ (∀ q, (z.queue q).depth = (s.queue q).depth))) ∧
  (∀ (c : Cmd), Completes (.obsHwm · c) (fun s => ready s c 0x0A06 .any = true ∧ c.needReply = none ∧ s.ownErr c 2 (c.u32 16) = none ∧ 1 ≤ c.u32 20 ∧ c.u32 20 ≤ 16384 ∧ s.ownsRange c.domain 2 (c.u32 16) (c.u32 20) = true ∧ c.u8 24 = 0 ∧ c.zeros 25 39 = none) (fun s s' => s' = s.answer c .ok 0 (4 * c.u32 20) ((rangeOf (c.u32 16) (c.u32 20)).flatMap fun q => leBytes 4 ((s.queue q).markRead s.tclk)))) ∧
  (∀ (c : Cmd), Completes (.congStats · c) (fun s => ready s c 0x0A07 .any = true ∧ c.needReply = none ∧ s.ownErr c 2 (c.u32 16) = none ∧ c.u8 20 = 0 ∧ c.zeros 21 43 = none) (fun s s' => s' = s.answer c .ok 0 64 (((List.range 7).flatMap fun i => leBytes 8 (look (s.queue (c.u32 16)).cong i 0)) ++ leBytes 8 (look s.pol.denied (s.owner 2 (c.u32 16)) 0)))) ∧
  (∀ (c : Cmd), Completes (.congStats · c) (fun s => ready s c 0x0A07 .any = true ∧ c.needReply = none ∧ s.ownErr c 2 (c.u32 16) = none ∧ c.u8 20 = 1 ∧ c.zeros 21 43 = none) (fun s s' => (s'.queue (c.u32 16)).cong = [] ∧ look s'.pol.denied (s.owner 2 (c.u32 16)) 0 = 0 ∧ (s'.queue (c.u32 16)).counters = (s.queue (c.u32 16)).counters)) ∧
  (∀ (c : Cmd), Completes (.congLimit · c) (fun s => ready s c 0x0A08 .d0 = true ∧ c.u8 16 < 16 ∧ c.zeros 17 3 = none ∧ c.zeros 28 36 = none) (fun s s' => ∃ z : State, s' = z.answer c .ok 0 0 [] ∧ z.pol.profileAllow = setAllowance s.pol.profileAllow (c.u8 16) (c.u32 20) ∧ z.pol.slotAllow = setAllowance s.pol.slotAllow (c.u8 16) (c.u32 24) ∧ z.pol.profiles = s.pol.profiles ∧ z.tm = s.tm)) ∧
  (∀ (c : Cmd) (sl : Nat), Completes (.congSeed · c) (fun s => ready s c 0x0A09 .d0 = true ∧ c.host = s.dom.principal ∧ c.zeros 20 44 = none ∧ sl < 32) (fun _ s' => look s'.pol.gens sl 0 = (if c.u32 16 = sl then 1 else c.u32 16 ^^^ sl))) ∧
  (∀ (domain : Nat), Completes (.obsSamplePass · domain) (fun s => (s.observer domain).enable = false ∨ (s.observer domain).pages = 0 ∨ s.now < (s.observer domain).next) (fun s s' => s' = s)) ∧
  (∀ (domain : Nat) (x : Observer) (n : Nat), Completes (.obsSamplePass · domain) (fun s => x = s.observer domain ∧ x.enable = true ∧ 0 < x.pages ∧ x.next ≤ s.now ∧ n = (s.selectedOf domain).length + 1) (fun s s' => (s'.observer domain).seq = (x.seq + n) % 2 ^ 32 ∧ (s'.observer domain).pos = (x.pos + n) % (x.pages * 2 ^ 21) ∧ s.now + us x.periodUs ≤ (s'.observer domain).next ∧ s'.tm = s.tm ∧ s'.pkts = s.pkts ∧
      s'.host.regions = (each (fun q z => State.sample z domain (leBytes 4 q ++ leBytes 4 (s.queue q).depth ++ leBytes 4 (min (s.headSojourn q) 0xFFFFFFFF))) (s.selectedOf domain)
        (s.sample domain (leBytes 4 (2 ^ 31) ++ leBytes 4 (s.timeNow % second / 2 ^ 40) ++ leBytes 4 (s.timeNow / second)))).host.regions)) ∧
  (∀ (domain : Nat) (x : Observer) (q : Nat), Completes (.obsSamplePass · domain) (fun s => x = s.observer domain ∧ x.enable = true ∧ 0 < x.pages ∧ x.next ≤ s.now ∧ s.selectedOf domain = [q] ∧ (s.queue q).packets = []) (fun s s' => (s'.observer domain).seq = (x.seq + 2) % 2 ^ 32 ∧ (s'.observer domain).pos = ((x.pos + 1) % (x.pages * 2 ^ 21) + 1) % (x.pages * 2 ^ 21) ∧ s'.tm = s.tm ∧ s'.pkts = s.pkts))

/-- R316–R319, R321, R322 as the shared operations of CELL_ALLOCATE state them. -/
def Obligations.MeteringAndCongestion : Prop :=
  (∀ (p : Policer) (color b : Nat) (pre t2 tc : Nat), pre = (if p.aware = false ∨ color = 3 then 0 else color) → p.kind = 1 → t2 = (if p.rate2 = unlimited then p.tok2 else p.tok2 - b * 65536) → tc = (if p.cir = unlimited then p.tokC else p.tokC - b * 65536) →
    p.meter color b = (if pre = 2 ∨ ¬ (p.rate2 = unlimited ∨ b * 65536 ≤ p.tok2) then (p, 2) else if pre = 1 ∨ ¬ (p.cir = unlimited ∨ b * 65536 ≤ p.tokC) then ({ p with tok2 := t2 }, 1) else ({ p with tok2 := t2, tokC := tc }, 0))) ∧
  (∀ (p : Policer) (color b : Nat) (pre r2 t2 tc : Nat), pre = (if p.aware = false ∨ color = 3 then 0 else color) → p.kind ≠ 1 → r2 = (if p.kind = 0 then p.cir else p.rate2) → t2 = (if r2 = unlimited then p.tok2 else p.tok2 - b * 65536) → tc = (if p.cir = unlimited then p.tokC else p.tokC - b * 65536) →
    p.meter color b = (if pre = 0 ∧ (p.cir = unlimited ∨ b * 65536 ≤ p.tokC) then ({ p with tokC := tc }, 0) else if pre ≤ 1 ∧ (r2 = unlimited ∨ b * 65536 ≤ p.tok2) then ({ p with tok2 := t2 }, 1) else (p, 2))) ∧
  (∀ (s : State) (cls k : Nat) (d : Desc), d = (s.pkt k).desc → d.policed = true → d.mirror = false → d.punt = false → cls ≠ 1 →
    (s.owns d.domain 6 d.policer = false → (s.police cls k).2 = false ∧ look (s.police cls k).1.pol.denied d.domain 0 = (look s.pol.denied d.domain 0 + 1) % 2 ^ 64 ∧ (s.police cls k).1.pkts = s.pkts ∧ (s.police cls k).1.pol.policers = s.pol.policers) ∧
    (s.owns d.domain 6 d.policer = true → (s.policerNow d.policer).enable = false → s.police cls k = (s, true))) ∧
  (∀ (s : State) (cls k : Nat), (s.pkt k).desc.policed = false ∨ (s.pkt k).desc.mirror = true ∨ (s.pkt k).desc.punt = true ∨ cls = 1 → s.police cls k = (s, true)) ∧
  (∀ (s : State) (k qn id a d : Nat) (f : CongProfile), qn = (s.pkt k).desc.queue → f = s.profileNow id → (s.queue qn).slot (s.pkt k).desc.color = some id → d = (s.queue qn).depth → a = (s.queue qn).average f s.now d →
    ((s.congest k).1.queue qn).avg = a ∧ (f.mode = 0 → (s.congest k).2 = true) ∧ (f.mode ≠ 0 → f.hardTh ≤ d → (s.congest k).2 = false) ∧ (f.mode ≠ 0 → d < f.hardTh → a / 256 < f.minTh → (s.congest k).2 = true ∧ (s.congest k).1.pkts = s.pkts) ∧ (f.mode = 1 → d < f.hardTh → f.minTh ≤ a / 256 → f.maxTh ≤ a / 256 → (s.congest k).2 = false)) ∧
  (∀ (s : State) (k : Nat), (s.queue (s.pkt k).desc.queue).slot (s.pkt k).desc.color = none → s.congest k = (s, true))

/-- Fabric commands (R329, R338, R342, R344). -/
def Obligations.FabricCommandsComplete : Prop :=
  (∀ (c : Cmd), Completes (.fabConfig · c) (fun s => ready s c 0x0B00 .d0 = true ∧ c.host = s.dom.principal ∧ s.dev.topology = 1 ∧ s.dev.mode = .standby ∧ c.u16 16 < 2048 ∧ c.u8 18 ≤ 1 ∧ c.zeros 19 45 = none) (fun s s' => s' = { s with fab := { s.fab with device := c.u16 16, enabled := c.u8 18 = 1 } }.answer c .ok 0 0 [])) ∧
  (∀ (c : Cmd), Completes (.fabConfig · c) (fun s => ready s c 0x0B00 .d0 = true ∧ c.host = s.dom.principal ∧ (s.dev.topology ≠ 1 ∨ s.dev.mode ≠ .standby)) (fun s s' => s' = s.answer c .wrongMode 0 0 [])) ∧
  (∀ (c : Cmd), Completes (.fabVoqMap · c) (fun s => ready s c 0x0B01 .any = true ∧ s.dev.topology = 1 ∧ s.ownErr c 2 (c.u32 16) = none ∧ 1 ≤ c.u32 20 ∧ c.u32 20 ≤ 65536 ∧ s.ownsRange c.domain 2 (c.u32 16) (c.u32 20) = true ∧ (rangeOf (c.u32 16) (c.u32 20)).all s.isVoq = true ∧ c.u16 24 < 2048 ∧ c.zeros 26 2 = none ∧ c.u32 28 + c.u32 20 ≤ 2 ^ 20 ∧ c.zeros 32 32 = none ∧ ((rangeOf (c.u32 16) (c.u32 20)).all fun q => (s.queue q).packets = [] && (s.voq q).balance ≤ 0) = true) (fun s s' => ∃ z : State, s' = z.answer c .ok 0 0 [] ∧ ∀ q, z.voq q = if c.u32 16 ≤ q ∧ q < c.u32 16 + c.u32 20 then { s.voq q with mapped := true, device := c.u16 24, dstQueue := c.u32 28 + (q - c.u32 16) } else s.voq q)) ∧
  (∀ (c : Cmd), Completes (.fabVoqMap · c) (fun s => ready s c 0x0B01 .any = true ∧ s.dev.topology = 1 ∧ s.ownErr c 2 (c.u32 16) = none ∧ 1 ≤ c.u32 20 ∧ c.u32 20 ≤ 65536 ∧ s.ownsRange c.domain 2 (c.u32 16) (c.u32 20) = true ∧ (rangeOf (c.u32 16) (c.u32 20)).all s.isVoq = true ∧ c.u16 24 < 2048 ∧ c.zeros 26 2 = none ∧ c.u32 28 + c.u32 20 ≤ 2 ^ 20 ∧ c.zeros 32 32 = none ∧ ((rangeOf (c.u32 16) (c.u32 20)).all fun q => (s.queue q).packets = [] && (s.voq q).balance ≤ 0) = false) (fun s s' => s' = s.answer c .busy 0 0 [])) ∧
  (∀ (c : Cmd), Completes (.fabVoqMap · c) (fun s => ready s c 0x0B01 .any = true ∧ s.dev.topology ≠ 1) (fun s s' => s' = s.answer c .wrongMode 0 0 [])) ∧
  (∀ (c : Cmd), Completes (.fabPortCredit · c) (fun s => ready s c 0x0B02 .any = true ∧ s.dev.topology = 1 ∧ s.ownErr c 1 (c.u8 16) = none ∧ (c.u8 17 = 0 ∨ (100 ≤ c.u8 17 ∧ c.u8 17 ≤ 150)) ∧ c.zeros 18 2 = none ∧ 1 ≤ c.u32 20 ∧ c.u32 20 < 2 ^ 28 ∧ c.zeros 24 40 = none) (fun s s' => s' = (s.setPortCredit (c.u8 16) { s.portCredit (c.u8 16) with pct := c.u8 17, depth := c.u32 20 }).answer c .ok 0 0 [])) ∧
  (∀ (c : Cmd), Completes (.fabLink · c) (fun s => ready s c 0x0B03 .d0 = true ∧ s.dev.topology = 1 ∧ c.u8 16 < 192 ∧ c.u8 17 = 1 ∧ c.zeros 18 46 = none ∧ (s.flink (c.u8 16)).work = none) (fun s s' => (s'.flink (c.u8 16)).robin = false ∧ (s'.flink (c.u8 16)).commandOut = true ∧ (s'.flink (c.u8 16)).work = some (c, s.now) ∧ (∀ l, l ≠ c.u8 16 → s'.flink l = s.flink l) ∧ s'.fab.unacked = s.fab.unacked)) ∧
  (∀ (c : Cmd), Completes (.fabLink · c) (fun s => ready s c 0x0B03 .d0 = true ∧ s.dev.topology = 1 ∧ c.u8 16 < 192 ∧ c.u8 17 = 0 ∧ c.zeros 18 46 = none ∧ (s.flink (c.u8 16)).work = none ∧ s.isOut 0x0B (c.u8 16) = true ∧ (s.flink (c.u8 16)).laneFailed = false) (fun s s' => s' = (s.setFlink (c.u8 16) { s.flink (c.u8 16) with commandOut := false }).answer c .ok 0 0 [])) ∧
  (∀ (c : Cmd), Completes (.fabLink · c) (fun s => ready s c 0x0B03 .d0 = true ∧ s.dev.topology = 1 ∧ c.u8 16 < 192 ∧ c.u8 17 ≤ 1 ∧ c.zeros 18 46 = none ∧ (s.flink (c.u8 16)).work ≠ none) (fun s s' => s' = s.answer c .busy 0 0 [])) ∧
  (∀ (c : Cmd), Completes (.fabStats · c) (fun s => ready s c 0x0B04 .d0 = true ∧ c.needReply = none ∧ c.u8 16 ≤ 1 ∧ c.zeros 17 47 = none) (fun s s' => s' = (if c.u8 16 = 1 then { s with fab := { s.fab with stats := [] } } else s).answer c .ok 0 64 ((List.range 8).flatMap fun i => leBytes 8 (look s.fab.stats i 0))))

/-- Cells (R331–R334, R339–R341). -/
def Obligations.FabricCellsComplete : Prop :=
  (∀ (link : Nat) (x : FabLink) (rdi : Bool) (c : OutCell) (l : List OutCell), Completes (.fabCellSend · link) (fun s => s.fabRuns = true ∧ x = s.flink link ∧ x.robin = true ∧ rdi = (!x.locked || decide (64 < x.discards s.now)) ∧ s.fab.resend = c :: l) (fun s s' => s'.host.out = (s.emitCell link (cellOf 0 (b2n c.first) (b2n c.last) c.device s.fab.device c.queue c.seq c.payload.length link rdi c.payload)).host.out ∧ s'.fab.resend = l ∧ look s'.fab.stats 1 0 = (look s.fab.stats 1 0 + 1) % 2 ^ 64 ∧ s'.fab.sending = s.fab.sending ∧ s'.fab.voqs = s.fab.voqs)) ∧
  (∀ (link : Nat) (x : FabLink) (rdi : Bool) (p : OutPacket) (n : Nat), Completes (.fabCellSend · link) (fun s => s.fabRuns = true ∧ x = s.flink link ∧ x.robin = true ∧ rdi = (!x.locked || decide (64 < x.discards s.now)) ∧ s.fab.resend = [] ∧ s.fab.requests = [] ∧ s.fab.credits = [] ∧ s.fab.sending = [p] ∧ s.unackedTo p.device < 262144 ∧ n = look s.fab.nextSeq p.device 0) (fun s s' => s'.host.out.take (s.host.out.length + 1) = s.host.out ++ [.cell link (cellOf 0 (b2n p.first) (b2n (p.rest.length ≤ 240)) p.device s.fab.device p.queue n (min 240 p.rest.length) link rdi (p.rest.take 240))] ∧ look s'.fab.nextSeq p.device 0 = (n + 1) % 2 ^ 24 ∧ s'.fab.unacked.length = s.fab.unacked.length + 1 ∧ (s'.voq p.voq).balance = (s.voq p.voq).balance - 256 ∧ s'.fab.sending = (if p.rest.length ≤ 240 then [] else [{ p with first := false, rest := p.rest.drop 240 }]))) ∧
  (∀ (link : Nat) (x : FabLink) (rdi : Bool), Completes (.fabCellSend · link) (fun s => s.fabRuns = true ∧ x = s.flink link ∧ x.robin = true ∧ rdi = (!x.locked || decide (64 < x.discards s.now)) ∧ s.fab.resend = [] ∧ s.fab.requests = [] ∧ s.fab.credits = [] ∧ s.fab.sending = []) (fun s s' => s' = s.emitCell link (cellOf 1 0 0 0 s.fab.device 0 0 0 link rdi []))) ∧
  (∀ (link : Nat) (x : FabLink) (rdi : Bool) (r : ReqEntry), Completes (.fabCellSend · link) (fun s => s.fabRuns = true ∧ x = s.flink link ∧ x.robin = true ∧ rdi = (!x.locked || decide (64 < x.discards s.now)) ∧ s.fab.resend = [] ∧ s.fab.requests = [r]) (fun s s' => s'.host.out = (s.emitCell link (cellOf 2 0 0 r.device s.fab.device 0 (s.rxPair r.device).next 1 link rdi (reqBytes r))).host.out ∧ s'.fab.requests = [] ∧ (s'.rxPair r.device).ackDue = false ∧ s'.fab.sending = s.fab.sending)) ∧
  (∀ (link : Nat), Completes (.fabCellSend · link) (fun s => s.fabRuns = false ∨ ((s.flink link).robin = false ∧ (192 ≤ link ∨ (s.flink link).sends = false))) (fun s s' => s' = s)) ∧
  (∀ (link : Nat) (x : FabLink) (rdi : Bool), Completes (.fabCellSend · link) (fun s => s.fabRuns = true ∧ x = s.flink link ∧ x.robin = false ∧ link < 192 ∧ x.sends = true ∧ rdi = (!x.locked || decide (64 < x.discards s.now))) (fun s s' => s' = s.emitCell link (cellOf 1 0 0 0 s.fab.device 0 0 0 link rdi []))) ∧
  (∀ (link : Nat) (x : FabLink) (rdi : Bool), Completes (.fabCellSend · link) (fun s => s.fabRuns = true ∧ x = s.flink link ∧ x.robin = true ∧ rdi = (!x.locked || decide (64 < x.discards s.now)) ∧ s.fab.resend = [] ∧ (s.fab.requests ≠ [] ∨ s.fab.credits ≠ [])) (fun s s' => s.controlCell link rdi = some s' ∧ s'.fab.sending = s.fab.sending ∧ s'.fab.unacked = s.fab.unacked ∧ s'.fab.voqs = s.fab.voqs)) ∧
  (∀ (link : Nat) (x : FabLink) (rdi : Bool) (p : OutPacket), Completes (.fabCellSend · link) (fun s => s.fabRuns = true ∧ x = s.flink link ∧ x.robin = true ∧ rdi = (!x.locked || decide (64 < x.discards s.now)) ∧ s.fab.resend = [] ∧ s.fab.requests = [] ∧ s.fab.credits = [] ∧ s.fab.sending.find? (fun p => s.unackedTo p.device < 262144) = some p) (fun s s' => s.dataCell link rdi = some s' ∧ look s'.fab.nextSeq p.device 0 = (look s.fab.nextSeq p.device 0 + 1) % 2 ^ 24 ∧ s'.fab.unacked.length = s.fab.unacked.length + 1)) ∧
  (∀ (link : Nat) (x : FabLink) (rdi : Bool), Completes (.fabCellSend · link) (fun s => s.fabRuns = true ∧ x = s.flink link ∧ x.robin = true ∧ rdi = (!x.locked || decide (64 < x.discards s.now)) ∧ s.fab.resend = [] ∧ s.fab.requests = [] ∧ s.fab.credits = [] ∧ s.fab.sending.find? (fun p => s.unackedTo p.device < 262144) = none) (fun s s' => s' = s.emitCell link (cellOf 1 0 0 0 s.fab.device 0 0 0 link rdi []))) ∧
  (∀ (link : Nat) (cell : Bytes) (fecBad : Bool) (x : FabLink), Completes (.fabCellReceive · link cell fecBad) (fun s => s.fabRuns = true ∧ link < 192 ∧ x = s.flink link ∧ x.locked = true ∧ fecBad = true) (fun s s' => s' = s.countFab 3 1)) ∧
  (∀ (link : Nat) (cell : Bytes) (fecBad : Bool) (x : FabLink), Completes (.fabCellReceive · link cell fecBad) (fun s => s.fabRuns = true ∧ link < 192 ∧ x = s.flink link ∧ x.locked = true ∧ fecBad = false ∧ crc16 (slice cell 0 14) ≠ beAt cell 14 2) (fun s s' => (s'.flink link).crc.head? = some s.now ∧ look s'.fab.stats 3 0 = (look s.fab.stats 3 0 + 1) % 2 ^ 64 ∧ s'.fab.pairs = s.fab.pairs ∧ s'.pkts = s.pkts)) ∧
  (∀ (link : Nat) (cell : Bytes) (fecBad : Bool) (x : FabLink), Completes (.fabCellReceive · link cell fecBad) (fun s => s.fabRuns = true ∧ link < 192 ∧ x = s.flink link ∧ x.locked = true ∧ fecBad = false ∧ crc16 (slice cell 0 14) = beAt cell 14 2 ∧ 1 ≠ byteAt cell 0 / 16 ∧ byteAt cell 0 / 16 < 4 ∧ beAt cell 1 2 % 2048 ≠ s.fab.device) (fun s s' => look s'.fab.stats 4 0 = (look s.fab.stats 4 0 + 1) % 2 ^ 64 ∧ s'.fab.pairs = s.fab.pairs ∧ s'.pkts = s.pkts ∧ s'.fab.unacked = s.fab.unacked)) ∧
  (∀ (link : Nat) (cell : Bytes) (fecBad : Bool) (x : FabLink) (d : Nat) (r : RxPair) (k : Nat), Completes (.fabCellReceive · link cell fecBad) (fun s => s.fabRuns = true ∧ link < 192 ∧ x = s.flink link ∧ x.locked = true ∧ fecBad = false ∧ crc16 (slice cell 0 14) = beAt cell 14 2 ∧ byteAt cell 0 / 16 = 0 ∧ beAt cell 1 2 % 2048 = s.fab.device ∧ d = beAt cell 3 2 % 2048 ∧ r = s.rxPair d ∧ beAt cell 8 3 = r.next ∧ r.held = [] ∧ bit (byteAt cell 0) 3 = true ∧ bit (byteAt cell 0) 2 = true ∧ s.buf.arrivals = [] ∧ k = s.nextPkt) (fun s s' => (s'.rxPair d).next = (r.next + 1) % 2 ^ 24 ∧ (s'.rxPair d).held = [] ∧ (s'.rxPair d).building = none ∧ (s'.rxPair d).ackDue = true ∧ (s'.pkt k).live = true ∧ (s'.pkt k).bytes = (slice cell 16 (min 240 (byteAt cell 11))).drop 64 ∧ (s'.pkt k).desc.queue = beAt cell 5 3 % 2 ^ 20 ∧ look s'.fab.stats 2 0 = (look s.fab.stats 2 0 + 1) % 2 ^ 64)) ∧
  (∀ (link : Nat) (cell : Bytes) (fecBad : Bool) (x : FabLink) (d : Nat) (r : RxPair), Completes (.fabCellReceive · link cell fecBad) (fun s => s.fabRuns = true ∧ link < 192 ∧ x = s.flink link ∧ x.locked = true ∧ fecBad = false ∧ crc16 (slice cell 0 14) = beAt cell 14 2 ∧ byteAt cell 0 / 16 = 0 ∧ beAt cell 1 2 % 2048 = s.fab.device ∧ d = beAt cell 3 2 % 2048 ∧ r = s.rxPair d ∧ r.held.any (fun h => h.seq = beAt cell 8 3) = true) (fun s s' => s'.rxPair d = r ∧ look s'.fab.stats 5 0 = (look s.fab.stats 5 0 + 1) % 2 ^ 64 ∧ s'.pkts = s.pkts)) ∧
  (∀ (link : Nat) (cell : Bytes) (fecBad : Bool) (x : FabLink) (o : OutCell), Completes (.fabCellReceive · link cell fecBad) (fun s => s.fabRuns = true ∧ link < 192 ∧ x = s.flink link ∧ x.locked = true ∧ fecBad = false ∧ crc16 (slice cell 0 14) = beAt cell 14 2 ∧ byteAt cell 0 / 16 = 3 ∧ beAt cell 1 2 % 2048 = s.fab.device ∧ byteAt cell 11 = 0 ∧ s.fab.unacked = [o] ∧ o.device = beAt cell 3 2 % 2048 ∧ beAt cell 8 3 = o.seq + 1 ∧ s.fab.resend = [] ∧ s.fab.sending = []) (fun s s' => s'.fab.unacked = [] ∧ (s'.pkt o.packet).live = false ∧ s'.buf.frees = s.buf.frees ++ (s.pkt o.packet).cells)) ∧
  (∀ (link : Nat) (cell : Bytes) (fecBad : Bool), Completes (.fabCellReceive · link cell fecBad) (fun s => s.fabRuns = false ∨ 192 ≤ link ∨ (s.flink link).locked = false) (fun s s' => s' = s)) ∧
  (∀ (link : Nat) (cell : Bytes) (fecBad : Bool) (x : FabLink), Completes (.fabCellReceive · link cell fecBad) (fun s => s.fabRuns = true ∧ link < 192 ∧ x = s.flink link ∧ x.locked = true ∧ fecBad = false ∧ crc16 (slice cell 0 14) = beAt cell 14 2 ∧ byteAt cell 0 / 16 = 1) (fun s s' => s' = s.setFlink link (x.sawRdi (bit (byteAt cell 13) 7) s.now))) ∧
  (∀ (link : Nat) (cell : Bytes) (fecBad : Bool) (x : FabLink), Completes (.fabCellReceive · link cell fecBad) (fun s => s.fabRuns = true ∧ link < 192 ∧ x = s.flink link ∧ x.locked = true ∧ fecBad = false ∧ crc16 (slice cell 0 14) = beAt cell 14 2 ∧ 4 ≤ byteAt cell 0 / 16) (fun s s' => s' = (s.setFlink link (x.sawRdi (bit (byteAt cell 13) 7) s.now)).countFab 3 1)) ∧
  (∀ (link : Nat) (cell : Bytes) (fecBad : Bool) (x : FabLink), Completes (.fabCellReceive · link cell fecBad) (fun s => s.fabRuns = true ∧ link < 192 ∧ x = s.flink link ∧ x.locked = true ∧ fecBad = false ∧ crc16 (slice cell 0 14) = beAt cell 14 2 ∧ byteAt cell 0 / 16 = 0 ∧ beAt cell 1 2 % 2048 = s.fab.device) (fun s s' => s' = ((s.setFlink link (x.sawRdi (bit (byteAt cell 13) 7) s.now)).countFab 2 1).fabData (beAt cell 3 2 % 2048)
        { seq := beAt cell 8 3, first := bit (byteAt cell 0) 3, last := bit (byteAt cell 0) 2, queue := beAt cell 5 3 % 2 ^ 20, payload := slice cell 16 (min 240 (byteAt cell 11)), since := s.now })) ∧
  (∀ (link : Nat) (cell : Bytes) (fecBad : Bool) (x : FabLink) (d : Nat), Completes (.fabCellReceive · link cell fecBad) (fun s => s.fabRuns = true ∧ link < 192 ∧ x = s.flink link ∧ x.locked = true ∧ fecBad = false ∧ crc16 (slice cell 0 14) = beAt cell 14 2 ∧ 2 ≤ byteAt cell 0 / 16 ∧ byteAt cell 0 / 16 < 4 ∧ beAt cell 1 2 % 2048 = s.fab.device ∧ d = beAt cell 3 2 % 2048) (fun s s' => let z := (s.setFlink link (x.sawRdi (bit (byteAt cell 13) 7) s.now)).takeAck d (beAt cell 8 3);
      s' = (if byteAt cell 0 / 16 = 2 then z.fabRequests d cell (min 30 (byteAt cell 11)) else z.fabCredits cell (min 30 (byteAt cell 11))))) ∧
  (∀ (device : Nat) (g : Nat), Completes (.fabGapTimeout · device) (fun s => (s.rxPair device).gap = some g ∧ s.now < g + us 64) (fun s s' => s' = s)) ∧
  (∀ (device : Nat) (r : RxPair) (g n : Nat), Completes (.fabGapTimeout · device) (fun s => r = s.rxPair device ∧ r.gap = some g ∧ g + us 64 ≤ s.now ∧ n = (r.next + (r.held.map fun c => (c.seq + 2 ^ 24 - r.next) % 2 ^ 24).foldl min (2 ^ 24)) % 2 ^ 24) (fun s s' => s' = (drainCells device (r.held.length + 1) ((s.setRxPair device { r with next := n, building := none, ackDue := true }).countFab 6 1)).noteGap device ∧ look s'.fab.stats 6 0 = (look s.fab.stats 6 0 + 1) % 2 ^ 64)) ∧
  (∀ (device : Nat) (r : RxPair) (g : Nat) (h : HeldCell), Completes (.fabGapTimeout · device) (fun s => r = s.rxPair device ∧ r.gap = some g ∧ g + us 64 ≤ s.now ∧ r.held = [h] ∧ h.first = false ∧ h.last = true ∧ h.seq < 2 ^ 24 ∧ r.next < 2 ^ 24 ∧ h.seq ≠ r.next) (fun s s' => (s'.rxPair device).next = (h.seq + 1) % 2 ^ 24 ∧ (s'.rxPair device).held = [] ∧ (s'.rxPair device).building = none ∧ (s'.rxPair device).gap = none ∧ look s'.fab.stats 6 0 = (look s.fab.stats 6 0 + 1) % 2 ^ 64 ∧ s'.pkts = s.pkts)) ∧
  (∀ (device : Nat), Completes (.fabGapTimeout · device) (fun s => (s.rxPair device).gap = none) (fun s s' => s' = s)) ∧
  (Completes (.fabAckTimer ·) (fun s => s.fabRuns = false) (fun s s' => s' = s)) ∧
  (Completes (.fabAckTimer ·) (fun s => s.fabRuns = true) (fun s s' => s' = { s with fab := { s.fab with credits := s.fab.credits ++ (s.fab.pairs.filter fun r => r.2.ackDue && !(s.fab.requests.any fun q => q.device = r.1) && !(s.fab.credits.any fun c => c.1 = r.1)).map fun r => (r.1, 0, 0) } })) ∧
  (∀ (d : Nat) (r : RxPair), Completes (.fabAckTimer ·) (fun s => s.fabRuns = true ∧ s.fab.requests = [] ∧ s.fab.credits = [] ∧ s.fab.pairs = [(d, r)] ∧ r.ackDue = true) (fun s s' => s'.fab.credits = [(d, 0, 0)] ∧ s'.fab.pairs = s.fab.pairs))

/-- Credit and links (R331, R336–R338, R341, R342). -/
def Obligations.FabricCreditAndLinks : Prop :=
  (∀ (voq : Nat) (v : Voq), Completes (.fabRequestRefresh · voq) (fun s => v = s.voq voq ∧ v.mapped = true ∧ s.fabRuns = true ∧ 0 < s.voqDemand voq ∧ v.device ≠ s.fab.device ∧ v.lastRequest + us 20 ≤ s.now) (fun s s' => s'.fab.requests = s.fab.requests ++ [{ device := v.device, voq := voq, queue := v.dstQueue, demand := s.voqDemand voq, resync := false }] ∧ (s'.voq voq).lastRequest = s.now ∧ (s'.voq voq).lastDemand = s.voqDemand voq ∧ (s'.voq voq).balance = v.balance)) ∧
  (∀ (voq : Nat), Completes (.fabRequestRefresh · voq) (fun s => (s.voq voq).mapped = true ∧ s.fabRuns = true ∧ 0 < s.voqDemand voq ∧ (s.voq voq).device = s.fab.device ∧ (s.voq voq).lastRequest + us 20 ≤ s.now) (fun s s' => look s'.fab.demands (s.fab.device * 2 ^ 20 + voq) {} = { queue := (s.voq voq).dstQueue, demand := s.voqDemand voq, granted := 0 } ∧ s'.fab.requests = s.fab.requests)) ∧
  (∀ (voq : Nat), Completes (.fabRequestRefresh · voq) (fun s => (s.voq voq).mapped = false ∨ s.fabRuns = false ∨ s.voqDemand voq = 0 ∨ s.now < (s.voq voq).lastRequest + us 20) (fun s s' => s' = s)) ∧
  (∀ (voq : Nat) (a : Nat), Completes (.fabResync · voq) (fun s => (s.voq voq).starvedAt = some a ∧ ((s.voq voq).mapped = false ∨ s.fabRuns = false ∨ s.voqDemand voq = 0 ∨ s.now < a + ms 1)) (fun s s' => s' = s)) ∧
  (∀ (voq : Nat) (v : Voq) (a : Nat), Completes (.fabResync · voq) (fun s => v = s.voq voq ∧ v.mapped = true ∧ s.fabRuns = true ∧ 0 < s.voqDemand voq ∧ v.device = s.fab.device ∧ v.starvedAt = some a ∧ a + ms 1 ≤ s.now) (fun s s' => look s'.fab.demands (s.fab.device * 2 ^ 20 + voq) {} = { queue := v.dstQueue, demand := s.voqDemand voq } ∧ s'.fab.requests = s.fab.requests ∧ (s'.voq voq).balance = v.balance)) ∧
  (∀ (voq : Nat) (v : Voq) (a : Nat), Completes (.fabResync · voq) (fun s => v = s.voq voq ∧ v.mapped = true ∧ s.fabRuns = true ∧ 0 < s.voqDemand voq ∧ v.device ≠ s.fab.device ∧ v.starvedAt = some a ∧ a + ms 1 ≤ s.now) (fun s s' => s'.fab.requests.getLast? = some { device := v.device, voq := voq, queue := v.dstQueue, demand := s.voqDemand voq, resync := true } ∧ (s'.voq voq).balance = v.balance)) ∧
  (∀ (voq : Nat), Completes (.fabResync · voq) (fun s => (s.voq voq).starvedAt = none) (fun s s' => s' = s)) ∧
  (∀ (port : Nat) (k : Nat) (d : Demand) (l : List (Nat × Demand)), Completes (.fabCreditGrant · port) (fun s => s.fabRuns = true ∧ s.creditRate port ≠ 0 ∧ (s.portCredit port).ready ≤ s.now ∧ s.grantOrder port = (k, d) :: l ∧ k / 2 ^ 20 ≠ s.fab.device ∧ s.fab.credits = []) (fun s s' => s'.fab.credits = [(k / 2 ^ 20, k % 2 ^ 20, 1)] ∧ look s'.fab.demands k {} = { d with granted := d.granted + 1 } ∧ (s'.portCredit port).ready = s.now + 32768 * 6000000 / s.creditRate port ∧ s'.fab.voqs = s.fab.voqs)) ∧
  (∀ (port : Nat) (k : Nat) (d : Demand) (l : List (Nat × Demand)), Completes (.fabCreditGrant · port) (fun s => s.fabRuns = true ∧ s.creditRate port ≠ 0 ∧ (s.portCredit port).ready ≤ s.now ∧ s.grantOrder port = (k, d) :: l ∧ k / 2 ^ 20 = s.fab.device ∧ (s.voq (k % 2 ^ 20)).mapped = true) (fun s s' => (s'.voq (k % 2 ^ 20)).balance = (s.voq (k % 2 ^ 20)).balance + 4096 ∧ s'.fab.credits = s.fab.credits)) ∧
  (∀ (port : Nat) (k : Nat) (d : Demand) (l : List (Nat × Demand)), Completes (.fabCreditGrant · port) (fun s => s.fabRuns = true ∧ s.creditRate port ≠ 0 ∧ (s.portCredit port).ready ≤ s.now ∧ s.grantOrder port = (k, d) :: l ∧ k / 2 ^ 20 ≠ s.fab.device) (fun s s' => s'.fab.credits = addCredit s.fab.credits (k / 2 ^ 20) (k % 2 ^ 20) ∧ look s'.fab.demands k {} = { d with granted := d.granted + 1 } ∧ (s'.portCredit port).last = k + 1 ∧ (s'.portCredit port).ready = s.now + 32768 * 6000000 / s.creditRate port)) ∧
  (∀ (port : Nat) (k : Nat) (d : Demand) (l : List (Nat × Demand)), Completes (.fabCreditGrant · port) (fun s => s.fabRuns = true ∧ s.creditRate port ≠ 0 ∧ (s.portCredit port).ready ≤ s.now ∧ s.grantOrder port = (k, d) :: l ∧ k / 2 ^ 20 = s.fab.device ∧ (s.voq (k % 2 ^ 20)).mapped = false) (fun s s' => look s'.fab.demands k {} = { d with granted := d.granted + 1 } ∧ s'.fab.voqs = s.fab.voqs ∧ s'.fab.credits = s.fab.credits)) ∧
  (∀ (port : Nat), Completes (.fabCreditGrant · port) (fun s => s.fabRuns = false ∨ s.creditRate port = 0 ∨ s.now < (s.portCredit port).ready ∨ s.grantOrder port = []) (fun s s' => s' = s)) ∧
  (∀ (port : Nat), Completes (.fabCreditGrant · port) (fun s => (s.portCredit port).pct = 0) (fun s s' => s' = s)) ∧
  (∀ (link : Nat) (m : LaneMarker), Completes (.fabLaneMarker · link m) (fun s => s.fabRuns = true ∧ link < 192 ∧ m.pattern = 0x39E06CA5D287 ∧ m.laneInv = 255 - m.lane % 256 ∧ m.lineBits = 272000 ∧ (s.flink link).locked = false ∧ 1 ≤ (s.flink link).good) (fun s s' => (s'.flink link).locked = true ∧ (s'.flink link).cleanSince = some s.now ∧ (s'.flink link).bad = 0 ∧ (s'.flink link).robin = (s.flink link).robin)) ∧
  (∀ (link : Nat) (m : LaneMarker) (n : Nat), Completes (.fabLaneMarker · link m) (fun s => s.fabRuns = true ∧ link < 192 ∧ m.pattern ≠ 0x39E06CA5D287 ∧ (s.flink link).locked = true ∧ (s.flink link).bad = n ∧ n < 4) (fun _ s' => (s'.flink link).locked = decide (n < 3) ∧ (s'.flink link).bad = n + 1)) ∧
  (∀ (link : Nat) (m : LaneMarker), Completes (.fabLaneMarker · link m) (fun s => s.fabRuns = false ∨ 192 ≤ link) (fun s s' => s' = s)) ∧
  (∀ (link : Nat) (m : LaneMarker) (x : FabLink) (g : Bool) (n b : Nat) (k : Bool), Completes (.fabLaneMarker · link m) (fun s => s.fabRuns = true ∧ link < 192 ∧ x = s.flink link ∧ g = decide (m.pattern = 0x39E06CA5D287 ∧ m.laneInv = 255 - m.lane % 256) ∧ n = (if g = false then 0 else if m.lineBits = 272000 then x.good + 1 else 1) ∧ b = (if g = true then 0 else x.bad + 1) ∧ k = (if x.locked = true then decide (b < 4) else decide (2 ≤ n))) (fun s s' => s' = s.setFlink link { x with good := n, bad := b, locked := k, cleanSince := if k = false then none else if x.locked = true then x.cleanSince else some s.now })) ∧
  (∀ (link : Nat) (laneFailed : Bool), Completes (.fabLinkFail · link laneFailed) (fun s => s.fabRuns = true ∧ link < 192 ∧ (laneFailed = true ∨ (s.flink link).locked = false ∨ 3 ≤ (s.flink link).rdiRun ∨ 64 < (s.flink link).discards s.now) ∧ (s.flink link).robin = true) (fun s s' => (s'.flink link).robin = false ∧ (s'.flink link).resendDue = true ∧ (s'.flink link).laneFailed = ((s.flink link).laneFailed || laneFailed) ∧ s'.isOut 0x0B link = true ∧ s'.fab.unacked = s.fab.unacked)) ∧
  (∀ (link : Nat) (laneFailed : Bool), Completes (.fabLinkFail · link laneFailed) (fun s => s.fabRuns = true ∧ link < 192 ∧ (laneFailed = true ∨ (s.flink link).locked = false ∨ 3 ≤ (s.flink link).rdiRun ∨ 64 < (s.flink link).discards s.now) ∧ (s.flink link).robin = false) (fun s s' => s' = s.setFlink link { s.flink link with laneFailed := (s.flink link).laneFailed || laneFailed, locked := (s.flink link).locked && !laneFailed })) ∧
  (∀ (link : Nat) (laneFailed : Bool), Completes (.fabLinkFail · link laneFailed) (fun s => s.fabRuns = false ∨ 192 ≤ link) (fun s s' => s' = s)) ∧
  (∀ (link : Nat) (laneFailed : Bool), Completes (.fabLinkFail · link laneFailed) (fun s => s.fabRuns = true ∧ link < 192 ∧ laneFailed = false ∧ (s.flink link).locked = false ∧ (s.flink link).robin = true) (fun s s' => (s'.flink link).robin = false ∧ (s'.flink link).resendDue = true ∧ s'.isOut 0x0B link = true ∧ s'.fab.unacked = s.fab.unacked)) ∧
  (∀ (link : Nat) (laneFailed : Bool), Completes (.fabLinkFail · link laneFailed) (fun s => laneFailed = false ∧ (s.flink link).locked = true ∧ (s.flink link).rdiRun < 3 ∧ (s.flink link).discards s.now ≤ 64) (fun s s' => s' = s)) ∧
  (∀ (link : Nat), Completes (.fabResend · link) (fun s => (s.flink link).resendDue = true ∧ s.fab.resend = []) (fun s s' => s'.fab.resend = s.fab.unacked.filter (fun c => c.link = link) ∧ (s'.flink link).resendDue = false ∧ s'.fab.unacked = s.fab.unacked)) ∧
  (∀ (link : Nat), Completes (.fabResend · link) (fun s => (s.flink link).resendDue = false) (fun s s' => s' = s)) ∧
  (∀ (link : Nat), Completes (.fabResend · link) (fun s => (s.flink link).resendDue = true) (fun s s' => s'.fab.resend = s.fab.resend ++ s.fab.unacked.filter (fun c => c.link = link && !s.fab.resend.contains c) ∧ (s'.flink link).resendDue = false ∧ s'.fab.unacked = s.fab.unacked)) ∧
  (∀ (link : Nat) (x : FabLink), Completes (.fabLinkReturn · link) (fun s => x = s.flink link ∧ (x.cleanSince = none ∨ s.fabRuns = false ∨ x.robin = true ∨ x.commandOut = true ∨ x.laneFailed = true ∨ x.locked = false ∨ ∃ a, x.cleanSince = some a ∧ s.now < a + ms 10)) (fun s s' => s' = s)) ∧
  (∀ (link : Nat) (x : FabLink) (a : Nat), Completes (.fabLinkReturn · link) (fun s => s.fabRuns = true ∧ x = s.flink link ∧ x.cleanSince = some a ∧ x.robin = false ∧ x.commandOut = false ∧ x.laneFailed = false ∧ x.locked = true ∧ a + ms 10 ≤ s.now) (fun s s' => (s'.flink link).robin = true ∧ s'.isOut 0x0B link = false ∧ (∀ l, l ≠ link → s'.flink l = s.flink l))) ∧
  (∀ (link : Nat) (c : Cmd) (a : Nat), Completes (.fabLinkMapoutDone · link) (fun s => (s.flink link).work = some (c, a) ∧ s.carried link = 0) (fun _ s' => ∃ z : State, s' = z.answer c .ok 0 0 [] ∧ (z.flink link).work = none ∧ (z.flink link).locked = false ∧ (z.flink link).resendDue = false ∧ z.isOut 0x0B link = true)) ∧
  (∀ (link : Nat), Completes (.fabLinkMapoutDone · link) (fun s => (s.flink link).work = none ∨ ∃ c a, (s.flink link).work = some (c, a) ∧ s.carried link ≠ 0 ∧ s.now < a + us 100) (fun s s' => s' = s)) ∧
  (∀ (link : Nat) (c : Cmd) (a : Nat), Completes (.fabLinkMapoutDone · link) (fun s => (s.flink link).work = some (c, a) ∧ s.carried link ≠ 0 ∧ a + us 100 ≤ s.now) (fun _ s' => ∃ z : State, s' = z.answer c .ok 0 0 [] ∧ (z.flink link).work = none ∧ (z.flink link).locked = false ∧ (z.flink link).resendDue = true ∧ z.isOut 0x0B link = true))

/-- PON commands (R347, R351–R353, R355, R357, R362–R364). -/
def Obligations.PonCommandsComplete : Prop :=
  (∀ (c : Cmd) (k : Nat), Completes (.ponTreeConfig · c) (fun s => ready s c 0x0C00 .any = true ∧ firstErr (ponTreeErrs c s) = none ∧ k = c.u8 16) (fun s s' => (s'.ponTree k).enabled = decide (c.u8 17 = 1) ∧ (s'.ponTree k).rogueManual = decide (c.u8 18 = 0) ∧ (s'.ponTree k).rogueLimit = c.u8 19 ∧ (s'.ponTree k).teqd = c.u32 20 ∧ (s'.ponTree k).minKm = c.u8 24 ∧ (s'.ponTree k).maxKm = c.u8 25 ∧ (s'.ponTree k).discoveryMs = c.u32 28 ∧ (s'.ponTree k).profiles = (s.ponTree k).profiles ∧ (s'.ponTree k).framing = ((s.ponTree k).framing && decide (c.u8 17 = 1)) ∧ (∀ t, t ≠ k → s'.ponTree t = s.ponTree t) ∧ s'.pon.onus = s.pon.onus)) ∧
  (∀ (c : Cmd) (i : Nat), Completes (.ponTreeConfig · c) (fun s => ready s c 0x0C00 .any = true ∧ s.treeErr c (c.u8 16) = none ∧ c.u8 17 = 1 ∧ c.u8 18 = 0 ∧ 1 ≤ c.u8 19 ∧ 50000 ≤ c.u32 20 ∧ c.u32 20 ≤ 700000 ∧ c.u8 24 = 0 ∧ c.u8 25 = 20 ∧ 232000 ≤ c.u32 20 ∧ c.zeros 26 2 = none ∧ c.u32 28 = 1000 ∧ c.zeros 32 32 = none ∧ s.treeLaneErr (c.u8 16) = none ∧ (s.ponTree (c.u8 16)).teqd ≠ c.u32 20 ∧ (s.onu (c.u8 16) i).state = .operational ∧ i < 256) (fun s s' => s' = s.answer c .refused 1 0 [])) ∧
  (∀ (c : Cmd), Completes (.ponBurstProfile · c) (fun s => ready s c 0x0C01 .any = true ∧ s.treeErr c (c.u8 16) = none ∧ c.u8 17 ≤ 3 ∧ c.u8 18 ≤ 1 ∧ (c.u8 19 = 32 ∨ c.u8 19 = 64) ∧ 64 * upRate (s.ponType (c.u8 16)) ≤ c.u32 20 * 1000000 ∧ c.zeros 32 32 = none ∧ s.treeLaneErr (c.u8 16) = none) (fun s s' => look (s'.ponTree (c.u8 16)).profiles (c.u8 17) {} = { fec := c.u8 18 = 1, delimiter := c.u8 19, preamble := c.u32 20, pattern := c.u64 24 } ∧ (∀ i, i ≠ c.u8 17 → look (s'.ponTree (c.u8 16)).profiles i {} = look (s.ponTree (c.u8 16)).profiles i {}) ∧ (s'.ponTree (c.u8 16)).teqd = (s.ponTree (c.u8 16)).teqd)) ∧
  (∀ (c : Cmd), Completes (.ponBurstProfile · c) (fun s => ready s c 0x0C01 .any = true ∧ s.treeErr c (c.u8 16) = none ∧ c.u8 17 ≤ 3 ∧ c.u8 18 ≤ 1 ∧ (c.u8 19 = 32 ∨ c.u8 19 = 64) ∧ c.u32 20 * 1000000 < 64 * upRate (s.ponType (c.u8 16))) (fun s s' => s' = s.answer c .invalidParam 0x01000014 0 [])) ∧
  (∀ (c : Cmd), Completes (.ponOnu · c) (fun s => ready s c 0x0C02 .any = true ∧ firstErr (ponOnuErrs c s) = none ∧ c.u8 18 = 0) (fun s s' => s'.onu (c.u8 16) (c.u8 17) = { state := .provisioned, serial := c.u64 20, onuId := c.u16 28, profile := c.u8 30 } ∧ (∀ t i, (t ≠ c.u8 16 ∨ i ≠ c.u8 17) → i < 256 → s'.onu t i = s.onu t i))) ∧
  (∀ (c : Cmd), Completes (.ponOnu · c) (fun s => ready s c 0x0C02 .any = true ∧ firstErr (ponOnuErrs c s) = none ∧ c.u8 18 = 1) (fun s s' => s'.onu (c.u8 16) (c.u8 17) = {} ∧ s'.pon.xgems = s.pon.xgems ∧ s'.pon.entries = s.pon.entries)) ∧
  (∀ (c : Cmd), Completes (.ponOnu · c) (fun s => ready s c 0x0C02 .any = true ∧ firstErr (ponOnuErrs c s) = none ∧ c.u8 18 = 2) (fun s s' => (s.onu (c.u8 16) (c.u8 17)).state = .isolated ∧ (s'.onu (c.u8 16) (c.u8 17)).state = .provisioned ∧ (s'.onu (c.u8 16) (c.u8 17)).serial = (s.onu (c.u8 16) (c.u8 17)).serial)) ∧
  (∀ (c : Cmd) (l : List Nat), Completes (.ponOnu · c) (fun s => ready s c 0x0C02 .any = true ∧ firstErr (ponOnuErrs c s) = none ∧ c.u8 18 = 3 ∧ l = (s.ponTree (c.u8 16)).discovered) (fun s s' => s' = (s.setPonTree (c.u8 16) { s.ponTree (c.u8 16) with discovered := [] }).answer c .ok 0 (8 * l.length) (l.flatMap (leBytes 8)))) ∧
  (∀ (c : Cmd), Completes (.ponXgem · c) (fun s => ready s c 0x0C03 .any = true ∧ c.u8 18 = 0 ∧ s.treeErr c (c.u8 19) = none ∧ c.u16 20 ≤ 65534 ∧ (s.pon.xgems.all fun r => r.1 = c.u16 16 || !r.2.live || r.2.tree ≠ c.u8 19 || r.2.portId ≠ c.u16 20) = true ∧ c.u8 23 < 8 ∧ c.zeros 24 40 = none ∧ s.treeLaneErr (c.u8 19) = none ∧ ((s.xgem (c.u16 16)).live = false ∨ (s.xgem (c.u16 16)).tree = c.u8 19)) (fun s s' => s' = (s.setXgem (c.u16 16) { live := true, tree := c.u8 19, portId := c.u16 20, onu := c.u8 22, flags := c.u8 23 }).answer c .ok 0 0 [])) ∧
  (∀ (c : Cmd), Completes (.ponXgem · c) (fun s => ready s c 0x0C03 .any = true ∧ c.u8 18 = 1 ∧ s.treeErr c (c.u8 19) = none ∧ c.u8 23 < 8 ∧ c.zeros 24 40 = none ∧ s.treeLaneErr (c.u8 19) = none ∧ (s.xgem (c.u16 16)).live = true ∧ (s.xgem (c.u16 16)).tree = c.u8 19) (fun s s' => s' = (s.setXgem (c.u16 16) {}).answer c .ok 0 0 [])) ∧
  (∀ (c : Cmd), Completes (.ponXgem · c) (fun s => ready s c 0x0C03 .any = true ∧ c.u8 18 = 1 ∧ s.treeErr c (c.u8 19) = none ∧ c.u8 23 < 8 ∧ c.zeros 24 40 = none ∧ s.treeLaneErr (c.u8 19) = none ∧ ((s.xgem (c.u16 16)).live = false ∨ (s.xgem (c.u16 16)).tree ≠ c.u8 19)) (fun s s' => s' = s.answer c .notFound 0 0 [])) ∧
  (∀ (c : Cmd), Completes (.ponOnuKey · c) (fun s => ready s c 0x0C04 .any = true ∧ s.treeErr c (c.u8 16) = none ∧ c.u8 18 = 1 ∧ s.ownErr c 8 (c.u32 20) = none ∧ c.zeros 24 40 = none ∧ (s.onu (c.u8 16) (c.u8 17)).state ≠ .empty ∧ c.u8 17 ≠ 0xFF ∧ s.treeLaneErr (c.u8 16) = none ∧ c.u8 19 = 0) (fun s s' => s' = (s.setOnu (c.u8 16) (c.u8 17) { s.onu (c.u8 16) (c.u8 17) with key1 := c.u32 20 + 1 }).answer c .ok 0 0 [])) ∧
  (∀ (c : Cmd), Completes (.ponOnuKey · c) (fun s => ready s c 0x0C04 .any = true ∧ s.treeErr c (c.u8 16) = none ∧ c.u8 18 = 1 ∧ s.ownErr c 8 (c.u32 20) = none ∧ c.zeros 24 40 = none ∧ (s.onu (c.u8 16) (c.u8 17)).state ≠ .empty ∧ c.u8 17 ≠ 0xFF ∧ s.treeLaneErr (c.u8 16) = none ∧ c.u8 19 = 1 ∧ (s.onu (c.u8 16) (c.u8 17)).switch = none ∧ (s.onu (c.u8 16) (c.u8 17)).state.answers = true) (fun s s' => (s'.onu (c.u8 16) (c.u8 17)).switch = some (c, 1, none) ∧ (s'.onu (c.u8 16) (c.u8 17)).key1 = c.u32 20 + 1 ∧ (s'.onu (c.u8 16) (c.u8 17)).active = (s.onu (c.u8 16) (c.u8 17)).active)) ∧
  (∀ (c : Cmd) (k : Nat), Completes (.ponOnuKey · c) (fun s => ready s c 0x0C04 .any = true ∧ s.treeErr c (c.u8 16) = none ∧ (c.u8 18 = 1 ∨ c.u8 18 = 2) ∧ s.ownErr c 8 (c.u32 20) = none ∧ c.zeros 24 40 = none ∧ (c.u8 17 = 0xFF ∨ (s.onu (c.u8 16) (c.u8 17)).state ≠ .empty) ∧ s.treeLaneErr (c.u8 16) = none ∧ c.u8 19 = 0 ∧ k = c.u32 20 + 1) (fun s s' => s' = (s.bindKey (c.u8 16) (c.u8 17) (c.u8 18) (c.u32 20)).answer c .ok 0 0 [] ∧
      (if c.u8 17 = 0xFF then (s'.ponTree (c.u8 16)).bcast1 = (if c.u8 18 = 1 then k else (s.ponTree (c.u8 16)).bcast1) ∧ (s'.ponTree (c.u8 16)).bcast2 = (if c.u8 18 = 2 then k else (s.ponTree (c.u8 16)).bcast2)
       else (s'.onu (c.u8 16) (c.u8 17)).key1 = (if c.u8 18 = 1 then k else (s.onu (c.u8 16) (c.u8 17)).key1) ∧ (s'.onu (c.u8 16) (c.u8 17)).key2 = (if c.u8 18 = 2 then k else (s.onu (c.u8 16) (c.u8 17)).key2)))) ∧
  (∀ (c : Cmd) (n : Nat), Completes (.ponOnuKey · c) (fun s => ready s c 0x0C04 .any = true ∧ s.treeErr c (c.u8 16) = none ∧ (c.u8 18 = 1 ∨ c.u8 18 = 2) ∧ s.ownErr c 8 (c.u32 20) = none ∧ c.zeros 24 40 = none ∧ (c.u8 17 = 0xFF ∨ (s.onu (c.u8 16) (c.u8 17)).state ≠ .empty) ∧ s.treeLaneErr (c.u8 16) = none ∧ c.u8 19 = 1 ∧ (if c.u8 17 = 0xFF then (s.ponTree (c.u8 16)).bcastSwitch = none else (s.onu (c.u8 16) (c.u8 17)).switch = none) ∧ canon {} s.pon.onus = true ∧ n = (s.ponTree (c.u8 16)).sfc + 8) (fun s s' => (if c.u8 17 = 0xFF then (s'.ponTree (c.u8 16)).bcastSwitch = some (c, c.u8 18, if (s.onusOf (c.u8 16)).any (fun r => r.2.state.answers) then none else some n) ∧ (s'.ponTree (c.u8 16)).bcastActive = (s.ponTree (c.u8 16)).bcastActive else (s'.onu (c.u8 16) (c.u8 17)).switch = some (c, c.u8 18, if (s.onu (c.u8 16) (c.u8 17)).state.answers then none else some n) ∧ (s'.onu (c.u8 16) (c.u8 17)).active = (s.onu (c.u8 16) (c.u8 17)).active))) ∧
  (∀ (c : Cmd) (b : BufRead), Completes (.ponOmciSend · c b) (fun s => ready s c 0x0C05 .any = true ∧ c.bufferErr = none ∧ 8 ≤ c.u32 24 ∧ c.u32 24 ≤ 1980 ∧ s.treeErr c (c.u8 28) = none ∧ c.zeros 30 34 = none ∧ (s.onu (c.u8 28) (c.u8 29)).state ≠ .empty ∧ (s.ponTree (c.u8 28)).omciOut.length < 64 ∧ s.treeLaneErr (c.u8 28) = none ∧ b.err = none) (fun s s' => s' = (s.setPonTree (c.u8 28) { s.ponTree (c.u8 28) with omciOut := (s.ponTree (c.u8 28)).omciOut ++ [(c.u8 29, b.bytes c)] }).answer c .ok 0 0 [])) ∧
  (∀ (c : Cmd), Completes (.ponTod · c) (fun s => ready s c 0x0C06 .any = true ∧ c.needReply = none ∧ s.treeErr c (c.u8 16) = none ∧ c.zeros 17 47 = none ∧ s.treeLaneErr (c.u8 16) = none) (fun s s' => s' = s.answer c .ok 0 20 (leBytes 8 (s.ponTree (c.u8 16)).sfc ++ timeBytes (s.ponTree (c.u8 16)).frameTime))) ∧
  (∀ (c : Cmd) (x : PonTree), Completes (.ponStats · c) (fun s => ready s c 0x0C07 .any = true ∧ c.needReply = none ∧ s.treeErr c (c.u8 16) = none ∧ c.u8 17 ≤ 1 ∧ c.zeros 18 46 = none ∧ s.treeLaneErr (c.u8 16) = none ∧ x = s.ponTree (c.u8 16)) (fun s s' => s' = (if c.u8 17 = 1 then s.setPonTree (c.u8 16) { x with stats := [] } else s).answer c .ok 0 64 ((List.range 8).flatMap fun i => leBytes 8 (look x.stats i 0))))

/-- Trees (R349–R351, R354–R360, R362). -/
def Obligations.PonTreesComplete : Prop :=
  (∀ (tree : Nat) (x : PonTree), Completes (.ponDsFrame · tree) (fun s => tree < 48 ∧ s.canFrame tree = true ∧ x = s.ponTree tree ∧ x.maps = [] ∧ x.energyNow = false ∧ x.bcastSwitch = none ∧ s.onusOf tree = [] ∧ x.omciOut = []) (fun s s' => (s'.ponTree tree).sfc = x.sfc + 1 ∧ (s'.ponTree tree).frameTime = s.timeNow ∧ (s'.ponTree tree).framing = true ∧ look (s'.ponTree tree).grantStats 3 0 = (look x.grantStats 3 0 + 1) % 2 ^ 64 ∧ s'.host.out = s.host.out ++ [.map tree []] ∧ (∀ t, t ≠ tree → s'.ponTree t = s.ponTree t))) ∧
  (∀ (tree : Nat) (x : PonTree), Completes (.ponDsFrame · tree) (fun s => tree < 48 ∧ s.canFrame tree = true ∧ x = s.ponTree tree) (fun s s' => (s'.ponTree tree).sfc = x.sfc + 1 ∧ (s'.ponTree tree).frameTime = s.timeNow ∧ (s'.ponTree tree).framing = true ∧ (s'.ponTree tree).omciOut = [] ∧ (s'.ponTree tree).maps = x.maps.filter (fun m => x.sfc + 1 < m.frame) ∧ (∀ t, t ≠ tree → s'.ponTree t = s.ponTree t) ∧ s'.pkts = s.pkts)) ∧
  (∀ (tree : Nat), Completes (.ponDsFrame · tree) (fun _ => 48 ≤ tree) (fun s s' => s' = s)) ∧
  (∀ (tree : Nat), Completes (.ponDsFrame · tree) (fun s => s.canFrame tree = false) (fun s s' => s' = s)) ∧
  (∀ (tree : Nat) (b : Burst) (w : GrantWindow) (i : Nat), Completes (.ponBurstReceive · tree b) (fun s => b.bitErrors ≤ 3 ∧ s.frames tree = true ∧ b.badCodewords = 0 ∧ b.allocs = [] ∧ (s.ponTree tree).windows = [w] ∧ i = w.burst.onu ∧ w.holds (s.ponType tree) b.arrival = true ∧ b.onuId = some (s.onu tree i).onuId ∧ (s.onu tree i).state = .ranging ∧ (s.onu tree i).rangeSent = true ∧ (s.onu tree i).offsets = []) (fun s s' => (s'.onu tree i).state = .operational ∧ (s'.onu tree i).missed = 0 ∧ (s'.onu tree i).offsets = [(b.arrival : Int) - w.expected] ∧ (s'.ponTree tree).windows = [] ∧ look (s'.ponTree tree).stats 0 0 = (look (s.ponTree tree).stats 0 0 + 1) % 2 ^ 64 ∧ (s'.ponTree tree).los = false)) ∧
  (∀ (tree : Nat) (b : Burst) (w : GrantWindow) (i id j n : Nat), Completes (.ponBurstReceive · tree b) (fun s => b.bitErrors ≤ 3 ∧ s.frames tree = true ∧ b.badCodewords = 0 ∧ b.allocs = [] ∧ (s.ponTree tree).windows = [w] ∧ i = w.burst.onu ∧ w.holds (s.ponType tree) b.arrival = false ∧ (s.ponTree tree).quiet = [] ∧ b.onuId = some id ∧ s.onuById tree id = some j ∧ (s.onu tree j).state = .operational ∧ n = (s.lastSecond (s.onu tree j).candidates).length + 1 ∧ n < (s.ponTree tree).rogueLimit) (fun s s' => (s'.onu tree j).state = .operational ∧ (s'.onu tree j).candidates.length = n ∧ look (s'.ponTree tree).stats 2 0 = (look (s.ponTree tree).stats 2 0 + 1) % 2 ^ 64 ∧ (s'.ponTree tree).windows = [w])) ∧
  (∀ (tree : Nat) (b : Burst) (w : GrantWindow) (i id j n : Nat) (v : Bool), Completes (.ponBurstReceive · tree b) (fun s => b.bitErrors ≤ 3 ∧ s.frames tree = true ∧ b.badCodewords = 0 ∧ b.allocs = [] ∧ (s.ponTree tree).windows = [w] ∧ i = w.burst.onu ∧ w.holds (s.ponType tree) b.arrival = false ∧ (s.ponTree tree).quiet = [] ∧ b.onuId = some id ∧ s.onuById tree id = some j ∧ (s.onu tree j).state = .operational ∧ n = (s.lastSecond (s.onu tree j).candidates).length + 1 ∧ (s.ponTree tree).rogueLimit ≤ n ∧ (s.ponTree tree).rogueManual = v) (fun s s' => (s'.onu tree j).state = (if v = true then .operational else .isolated) ∧ look (s'.ponTree tree).stats 7 0 = (if v = true then look (s.ponTree tree).stats 7 0 else (look (s.ponTree tree).stats 7 0 + 1) % 2 ^ 64))) ∧
  (∀ (tree : Nat) (b : Burst), Completes (.ponBurstReceive · tree b) (fun s => 3 < b.bitErrors ∨ s.frames tree = false) (fun s s' => s' = s)) ∧
  (∀ (tree : Nat) (b : Burst) (hit : List GrantWindow) (w : GrantWindow), Completes (.ponBurstReceive · tree b) (fun s => b.bitErrors ≤ 3 ∧ s.frames tree = true ∧ hit = (s.ponTree tree).windows.filter (fun w => w.holds (s.ponType tree) b.arrival) ∧ earliest hit = some w ∧ b.onuId = some (s.onu tree w.burst.onu).onuId ∧ (s.onu tree w.burst.onu).state ≠ .empty) (fun s s' => s' = (each (State.missWindow tree) (hit.filter fun v => v.number ≠ w.number) (s.badWords tree b.badCodewords)).acceptBurst tree w b)) ∧
  (∀ (tree : Nat) (b : Burst) (hit : List GrantWindow) (w : GrantWindow), Completes (.ponBurstReceive · tree b) (fun s => b.bitErrors ≤ 3 ∧ s.frames tree = true ∧ hit = (s.ponTree tree).windows.filter (fun w => w.holds (s.ponType tree) b.arrival) ∧ earliest hit = some w ∧ ¬ (b.onuId = some (s.onu tree w.burst.onu).onuId ∧ (s.onu tree w.burst.onu).state ≠ .empty)) (fun s s' => ∃ z : State, z = each (State.missWindow tree) (hit.filter fun v => v.number ≠ w.number) (s.badWords tree b.badCodewords) ∧
      s' = ((z.setPonTree tree { z.ponTree tree with windows := (z.ponTree tree).windows.filter fun v => v.number ≠ w.number }).rejectBurst tree b).frameDone tree w.frame)) ∧
  (∀ (tree : Nat) (b : Burst) (lo hi i : Nat), Completes (.ponBurstReceive · tree b) (fun s => b.bitErrors ≤ 3 ∧ s.frames tree = true ∧ (s.ponTree tree).windows.filter (fun w => w.holds (s.ponType tree) b.arrival) = [] ∧ (s.ponTree tree).quiet = [(lo, hi, some i)] ∧ lo ≤ b.arrival ∧ b.arrival < hi ∧ b.onuId = some (s.onu tree i).onuId ∧ (s.onu tree i).state = .ranging ∧ (s.onu tree i).rangeSent = false) (fun s s' => s' = (s.badWords tree b.badCodewords).measure tree i b.arrival ∧ (s'.onu tree i).rangeSent = true ∧ (s'.onu tree i).offsets = [] ∧ (s'.onu tree i).state = .ranging)) ∧
  (∀ (tree : Nat) (b : Burst), Completes (.ponBurstReceive · tree b) (fun s => b.bitErrors ≤ 3 ∧ s.frames tree = true ∧ (s.ponTree tree).windows.filter (fun w => w.holds (s.ponType tree) b.arrival) = [] ∧ (s.ponTree tree).quiet.all (fun q => !(decide (q.1 ≤ b.arrival) && decide (b.arrival < q.2.1))) = true) (fun s s' => s' = (s.badWords tree b.badCodewords).rejectBurst tree b)) ∧
  (∀ (tree : Nat) (window : Nat) (w : GrantWindow), Completes (.ponWindowClose · tree window) (fun s => (s.ponTree tree).windows.find? (fun w => w.number = window) = some w ∧ w.expected + bitTimes (s.ponType tree) 32 ≤ s.time16) (fun s s' => s' = s.missWindow tree w)) ∧
  (∀ (tree : Nat) (window : Nat), Completes (.ponWindowClose · tree window) (fun s => (s.ponTree tree).windows.find? (fun w => w.number = window) = none ∨ ∃ w, (s.ponTree tree).windows.find? (fun w => w.number = window) = some w ∧ s.time16 < w.expected + bitTimes (s.ponType tree) 32) (fun s s' => s' = s)) ∧
  (∀ (tree : Nat) (window : Nat) (w : GrantWindow) (i m : Nat), Completes (.ponWindowClose · tree window) (fun s => (s.ponTree tree).windows = [w] ∧ w.number = window ∧ w.expected + bitTimes (s.ponType tree) 32 ≤ s.time16 ∧ w.burst.allocs = [] ∧ i = w.burst.onu ∧ (s.onu tree i).state = .operational ∧ (s.onu tree i).missed = m) (fun s s' => (s'.ponTree tree).windows = [] ∧ look (s'.ponTree tree).stats 1 0 = (look (s.ponTree tree).stats 1 0 + 1) % 2 ^ 64 ∧ (s'.onu tree i).missed = m + 1 ∧ (s'.onu tree i).state = (if 7 ≤ m then .lost else .operational))) ∧
  (∀ (tree : Nat) (window : Nat), Completes (.ponWindowClose · tree window) (fun s => (s.ponTree tree).windows = []) (fun s s' => s' = s)) ∧
  (∀ (tree : Nat) (ns : Nat), Completes (.ponEnergyDetect · tree ns) (fun s => 64 ≤ ns ∧ s.frames tree = true ∧ (s.ponTree tree).windows = [] ∧ (s.ponTree tree).quiet = []) (fun s s' => (s'.ponTree tree).energyNow = true ∧ look (s'.ponTree tree).stats 3 0 = (look (s.ponTree tree).stats 3 0 + 1) % 2 ^ 64 ∧ s'.pon.onus = s.pon.onus)) ∧
  (∀ (tree : Nat) (ns : Nat), Completes (.ponEnergyDetect · tree ns) (fun s => 64 ≤ ns ∧ s.frames tree = true ∧ ((s.ponTree tree).windows.any (fun w => w.holds (s.ponType tree) s.time16) || (s.ponTree tree).quiet.any (fun q => q.1 ≤ s.time16 && s.time16 < q.2.1)) = false) (fun s s' => (s'.ponTree tree).energyNow = true ∧ (s'.ponTree tree).energyTimes.getLast? = some s.now ∧ look (s'.ponTree tree).stats 3 0 = (look (s.ponTree tree).stats 3 0 + 1) % 2 ^ 64 ∧ (s'.ponTree tree).search = (s.ponTree tree).search.map (fun r => (r.1, r.2.1, r.2.2 || decide ((s.ponTree tree).sfc < r.2.1))) ∧ s'.pon.onus = s.pon.onus)) ∧
  (∀ (tree : Nat) (ns : Nat), Completes (.ponEnergyDetect · tree ns) (fun s => s.frames tree = false ∨ ((s.ponTree tree).windows.any (fun w => w.holds (s.ponType tree) s.time16) || (s.ponTree tree).quiet.any (fun q => q.1 ≤ s.time16 && s.time16 < q.2.1)) = true) (fun s s' => s' = s)) ∧
  (∀ (tree : Nat) (ns : Nat), Completes (.ponEnergyDetect · tree ns) (fun _ => ns < 64) (fun s s' => s' = s)) ∧
  (∀ (tree : Nat) (serial : Nat) (a b i : Nat) (o : Onu), Completes (.ponSerialNumber · tree serial) (fun s => s.frames tree = true ∧ (s.ponTree tree).quiet = [(a, b, none)] ∧ a ≤ s.time16 ∧ s.time16 < b ∧ s.onusOf tree = [(i, o)] ∧ o = s.onu tree i ∧ o.serial = serial ∧ o.state = .provisioned ∧ (s.ponTree tree).rangeDue = []) (fun s s' => (s'.onu tree i).state = .ranging ∧ (s'.ponTree tree).rangeDue = [i] ∧ (s'.onu tree i).attempts = 0 ∧ (s'.ponTree tree).discovered = (s.ponTree tree).discovered)) ∧
  (∀ (tree : Nat) (serial : Nat) (a b : Nat), Completes (.ponSerialNumber · tree serial) (fun s => s.frames tree = true ∧ (s.ponTree tree).quiet = [(a, b, none)] ∧ a ≤ s.time16 ∧ s.time16 < b ∧ s.onusOf tree = [] ∧ (s.ponTree tree).discovered.length ≤ 16 ∧ serial ∉ (s.ponTree tree).discovered) (fun s s' => (s'.ponTree tree).discovered = ((s.ponTree tree).discovered ++ [serial]).drop ((s.ponTree tree).discovered.length - 15) ∧ s'.pon.onus = s.pon.onus)) ∧
  (∀ (tree : Nat) (serial : Nat), Completes (.ponSerialNumber · tree serial) (fun s => s.frames tree = false ∨ ((s.ponTree tree).quiet.any fun q => q.1 ≤ s.time16 && s.time16 < q.2.1 && q.2.2 = none) = false) (fun s s' => s' = s)) ∧
  (∀ (tree : Nat) (serial : Nat) (i : Nat) (o : Onu), Completes (.ponSerialNumber · tree serial) (fun s => s.frames tree = true ∧ ((s.ponTree tree).quiet.any fun q => q.1 ≤ s.time16 && s.time16 < q.2.1 && q.2.2 = none) = true ∧ (s.onusOf tree).find? (fun r => r.2.serial = serial) = some (i, o) ∧ (o.state = .provisioned ∨ o.state = .lost)) (fun s s' => (s'.onu tree i).state = .ranging ∧ (s'.onu tree i).rangeSent = false ∧ (s'.onu tree i).attempts = 0 ∧ (s'.onu tree i).missed = 0 ∧ (s'.ponTree tree).rangeDue = (s.ponTree tree).rangeDue.erase i ++ [i] ∧ (s'.ponTree tree).discovered = (s.ponTree tree).discovered)) ∧
  (∀ (tree : Nat) (serial : Nat) (i : Nat) (o : Onu), Completes (.ponSerialNumber · tree serial) (fun s => s.frames tree = true ∧ ((s.ponTree tree).quiet.any fun q => q.1 ≤ s.time16 && s.time16 < q.2.1 && q.2.2 = none) = true ∧ (s.onusOf tree).find? (fun r => r.2.serial = serial) = some (i, o) ∧ o.state ≠ .provisioned ∧ o.state ≠ .lost) (fun s s' => s' = s)) ∧
  (∀ (tree : Nat) (serial : Nat) (l : List Nat), Completes (.ponSerialNumber · tree serial) (fun s => s.frames tree = true ∧ ((s.ponTree tree).quiet.any fun q => q.1 ≤ s.time16 && s.time16 < q.2.1 && q.2.2 = none) = true ∧ (s.onusOf tree).find? (fun r => r.2.serial = serial) = none ∧ l = (s.ponTree tree).discovered.erase serial ++ [serial]) (fun s s' => (s'.ponTree tree).discovered = l.drop (l.length - 16) ∧ s'.pon.onus = s.pon.onus)) ∧
  (∀ (tree : Nat) (onu : Nat), Completes (.ponRangingTimeout · tree onu) (fun s => (decide ((s.onu tree onu).state ≠ .ranging) || (s.onu tree onu).rangeSent || decide ((s.onu tree onu).attempts = 0) || (s.ponTree tree).rangeDue.contains onu || (decide ((s.ponTree tree).quietLeft ≠ 0) && decide ((s.ponTree tree).quietFor = some onu)) || (s.ponTree tree).quiet.any (fun q => q.2.2 = some onu && s.time16 < q.2.1) || (s.ponTree tree).maps.any (fun m => m.quiet ≠ 0 && m.quietFor = some onu)) = true) (fun s s' => s' = s)) ∧
  (∀ (tree : Nat) (onu : Nat), Completes (.ponRangingTimeout · tree onu) (fun s => (decide ((s.onu tree onu).state ≠ .ranging) || (s.onu tree onu).rangeSent || decide ((s.onu tree onu).attempts = 0) || (s.ponTree tree).rangeDue.contains onu || (decide ((s.ponTree tree).quietLeft ≠ 0) && decide ((s.ponTree tree).quietFor = some onu)) || (s.ponTree tree).quiet.any (fun q => q.2.2 = some onu && s.time16 < q.2.1) || (s.ponTree tree).maps.any (fun m => m.quiet ≠ 0 && m.quietFor = some onu)) = false) (fun s s' => s' = (if 3 ≤ (s.onu tree onu).attempts then s.moveOnu tree onu .provisioned else s.setPonTree tree { s.ponTree tree with rangeDue := (s.ponTree tree).rangeDue ++ [onu] }))) ∧
  (∀ (tree : Nat) (onu : Nat) (n : Nat), Completes (.ponRangingTimeout · tree onu) (fun s => (s.onu tree onu).state = .ranging ∧ (s.onu tree onu).rangeSent = false ∧ (s.onu tree onu).attempts = n ∧ (s.ponTree tree).rangeDue = [] ∧ (s.ponTree tree).quiet = [] ∧ (s.ponTree tree).quietLeft = 0 ∧ (s.ponTree tree).maps = [] ∧ n = 3) (fun _ s' => (s'.onu tree onu).state = .provisioned ∧ (s'.ponTree tree).rangeDue = [])) ∧
  (∀ (tree : Nat) (onu : Nat) (n : Nat), Completes (.ponRangingTimeout · tree onu) (fun s => (s.onu tree onu).state = .ranging ∧ (s.onu tree onu).rangeSent = false ∧ (s.onu tree onu).attempts = n ∧ (s.ponTree tree).rangeDue = [] ∧ (s.ponTree tree).quiet = [] ∧ (s.ponTree tree).quietLeft = 0 ∧ (s.ponTree tree).maps = [] ∧ 0 < n ∧ n < 3) (fun _ s' => (s'.onu tree onu).state = .ranging ∧ (s'.ponTree tree).rangeDue = [onu])) ∧
  (∀ (tree : Nat) (i e : Nat), Completes (.ponRogueSearchStep · tree) (fun s => (s.ponTree tree).rogueManual = false ∧ (s.ponTree tree).search = some (i, e, false) ∧ e ≤ (s.ponTree tree).sfc ∧ (s.onu tree i).state = .operational) (fun s s' => (s'.onu tree i).state = .isolated ∧ (s'.ponTree tree).search = none ∧ look (s'.ponTree tree).stats 7 0 = (look (s.ponTree tree).stats 7 0 + 1) % 2 ^ 64)) ∧
  (∀ (tree : Nat) (i e j : Nat), Completes (.ponRogueSearchStep · tree) (fun s => (s.ponTree tree).rogueManual = false ∧ (s.ponTree tree).search = some (i, e, true) ∧ e ≤ (s.ponTree tree).sfc ∧ s.nextSuspect tree (i + 1) = some j) (fun s s' => (s'.ponTree tree).search = some (j, (s.ponTree tree).sfc + 2, false) ∧ s'.pon.onus = s.pon.onus)) ∧
  (∀ (tree : Nat), Completes (.ponRogueSearchStep · tree) (fun s => (s.ponTree tree).search = none ∨ ∃ i e h, (s.ponTree tree).search = some (i, e, h) ∧ (s.ponTree tree).sfc < e) (fun s s' => s' = s)) ∧
  (∀ (tree : Nat) (i e : Nat) (v : Bool), Completes (.ponRogueSearchStep · tree) (fun s => (s.ponTree tree).rogueManual = false ∧ (s.ponTree tree).search = some (i, e, false) ∧ e ≤ (s.ponTree tree).sfc ∧ v = decide ((s.onu tree i).state = .operational ∨ (s.onu tree i).state = .lost) ∧ v = true) (fun _ s' => (s'.onu tree i).state = .isolated ∧ (s'.ponTree tree).search = none ∧ (s'.ponTree tree).energyRun = 0)) ∧
  (∀ (tree : Nat) (i e : Nat) (h : Bool), Completes (.ponRogueSearchStep · tree) (fun s => (s.ponTree tree).rogueManual = true ∧ (s.ponTree tree).search = some (i, e, h) ∧ e ≤ (s.ponTree tree).sfc) (fun s s' => (s'.ponTree tree).search = none ∧ (s'.ponTree tree).energyRun = 0 ∧ s'.pon.onus = s.pon.onus)) ∧
  (∀ (tree : Nat) (i e : Nat) (h v : Bool), Completes (.ponRogueSearchStep · tree) (fun s => (s.ponTree tree).rogueManual = false ∧ (s.ponTree tree).search = some (i, e, h) ∧ e ≤ (s.ponTree tree).sfc ∧ v = decide ((s.onu tree i).state = .operational ∨ (s.onu tree i).state = .lost) ∧ (v = false ∨ h = true)) (fun s s' => s' = (if v = true then s.ploam tree i 6 1 else s).searchFrom tree (i + 1))) ∧
  (∀ (tree : Nat) (onu : Nat) (msg : Bytes), Completes (.ponOmciReceive · tree onu msg) (fun s => s.frames tree = false ∨ (s.onu tree onu).state = .empty ∨ msg.length < 8 ∨ 1980 < msg.length) (fun s s' => s' = s)) ∧
  (∀ (tree : Nat) (onu : Nat) (msg : Bytes) (v : Bool), Completes (.ponOmciReceive · tree onu msg) (fun s => s.frames tree = true ∧ (s.onu tree onu).state ≠ .empty ∧ 8 ≤ msg.length ∧ msg.length ≤ 1980 ∧ look (s.ponTree tree).omciUnread ((s.ponTree tree).omciSeq % 16384) false = v) (fun s s' => (s'.ponTree tree).omciSeq = ((s.ponTree tree).omciSeq + 1) % 2 ^ 32 ∧ look (s'.ponTree tree).stats 6 0 = (if v = true then (look (s.ponTree tree).stats 6 0 + 1) % 2 ^ 64 else look (s.ponTree tree).stats 6 0) ∧ look (s'.ponTree tree).omciUnread ((s.ponTree tree).omciSeq % 16384) false = true)) ∧
  (∀ (tree : Nat) (p : Nat), Completes (.ponChannelFail · tree) (fun s => tree < 48 ∧ s.isOut 0x0D tree = false ∧ s.treePort tree = some p ∧ (s.port p).state = .up) (fun _ s' => s'.isOut 0x0D tree = true ∧ (s'.ponTree tree).framing = false ∧ (s'.ponTree tree).windows = [] ∧ (s'.port p).state = .faultLocal ∧ (s'.port p).cause = 3)) ∧
  (∀ (tree : Nat), Completes (.ponChannelFail · tree) (fun s => tree < 48 ∧ s.isOut 0x0D tree = false) (fun s s' => s'.isOut 0x0D tree = true ∧ (s'.ponTree tree).framing = false ∧ (s'.ponTree tree).windows = [] ∧ (s'.ponTree tree).quiet = [] ∧ (s'.ponTree tree).maps = [] ∧ s'.pon.onus = s.pon.onus)) ∧
  (∀ (tree : Nat), Completes (.ponChannelFail · tree) (fun s => 48 ≤ tree ∨ s.isOut 0x0D tree = true) (fun s s' => s' = s))

/-- Grants (R365–R375). -/
def Obligations.GrantsComplete : Prop :=
  (∀ (tree : Nat) (n : Nat), Completes (.grantSnapshot · tree) (fun s => tree < 48 ∧ (s.ponTree tree).enabled = true ∧ (s.ponTree tree).maps = [] ∧ (s.ponTree tree).groups = [] ∧ (s.ponTree tree).sfc = n ∧ s.entriesOf tree = [] ∧ (s.ponTree tree).ploam = [] ∧ (s.ponTree tree).quietLeft = 0 ∧ (s.ponTree tree).rangeDue = [] ∧ (s.ponTree tree).discoveryMs = 0) (fun s s' => ((s'.ponTree tree).maps.map fun m => (m.frame, m.ready, m.bursts, m.quiet)) = [(n + 2, false, [], 0)] ∧ s'.tm = s.tm ∧ (∀ t, t ≠ tree → s'.ponTree t = s.ponTree t))) ∧
  (∀ (tree : Nat) (l : List GrantMap) (n : Nat), Completes (.grantSnapshot · tree) (fun s => tree < 48 ∧ (s.ponTree tree).enabled = true ∧ (s.ponTree tree).maps.any (fun m => m.frame = (s.ponTree tree).sfc + 2) = false ∧ l = (s.ponTree tree).maps ∧ n = (s.ponTree tree).sfc) (fun s s' => ∃ m : GrantMap, (s'.ponTree tree).maps = l ++ [m] ∧ m.frame = n + 2 ∧ m.ready = false ∧ (s'.ponTree tree).sfc = n ∧ s'.tm = s.tm ∧ s'.pkts = s.pkts ∧ (∀ t, t ≠ tree → s'.ponTree t = s.ponTree t))) ∧
  (∀ (tree : Nat), Completes (.grantSnapshot · tree) (fun s => tree < 48 ∧ (s.ponTree tree).enabled = true ∧ (s.ponTree tree).maps.any (fun m => m.frame = (s.ponTree tree).sfc + 2) = true) (fun s s' => s' = s)) ∧
  (∀ (tree : Nat), Completes (.grantSnapshot · tree) (fun _ => 48 ≤ tree) (fun s s' => s' = s)) ∧
  (∀ (tree : Nat), Completes (.grantSnapshot · tree) (fun s => (s.ponTree tree).enabled = false) (fun s s' => s' = s)) ∧
  (∀ (tree : Nat) (m : GrantMap) (y : GrantGroup) (so : Nat), Completes (.grantSnapshot · tree) (fun s => tree < 48 ∧ (s.ponTree tree).enabled = true ∧ (s.ponTree tree).maps = [m] ∧ m.frame ≠ (s.ponTree tree).sfc + 2 ∧ (s.ponTree tree).groups = [(0, y)] ∧ y.live = true ∧ y.trim = true ∧ so = s.groupSojourn y) (fun _ s' => ((s'.ponTree tree).group 0).cut = (if y.onUs ≤ so then min (256 - y.fMin) (y.cut + y.step) else if so < y.offUs then y.cut - y.step else y.cut) ∧ ((s'.ponTree tree).group 0).sojournUs = so)) ∧
  (∀ (tree : Nat) (x : PonTree) (m : GrantMap) (b : MapBurst) (e a n : Nat), Completes (.grantMapReady · tree) (fun s => x = s.ponTree tree ∧ x.maps = [m] ∧ m.ready = false ∧ x.sfc < m.frame ∧ m.changes = [] ∧ m.bursts = [b] ∧ b.allocs = [(some e, a, n)]) (fun s s' => (s'.ponTree tree).maps = [{ m with ready := true }] ∧ (s'.ponTree tree).lastBursts = 1 ∧ (s'.ponTree tree).lastFree = m.free ∧ look (s'.ponTree tree).grantStats 0 0 = (look x.grantStats 0 0 + 1) % 2 ^ 64 ∧ look (s'.ponTree tree).grantStats 1 0 = (look x.grantStats 1 0 + 1) % 2 ^ 64 ∧ look (s'.ponTree tree).grantStats 2 0 = (look x.grantStats 2 0 + n) % 2 ^ 64 ∧ look (s'.ponTree tree).grantStats 5 0 = (look x.grantStats 5 0 + b2n m.trimCapped) % 2 ^ 64 ∧ s'.tm = s.tm)) ∧
  (∀ (tree : Nat) (x : PonTree) (m : GrantMap), Completes (.grantMapReady · tree) (fun s => x = s.ponTree tree ∧ x.maps.find? (fun m => !m.ready && x.sfc < m.frame) = some m) (fun s s' => (s'.ponTree tree).maps = x.maps.map (fun y => if y.frame = m.frame then { y with ready := true, changes := [] } else y) ∧ (s'.ponTree tree).lastBursts = m.bursts.length ∧ (s'.ponTree tree).lastFree = m.free ∧ look (s'.ponTree tree).grantStats 0 0 = (look x.grantStats 0 0 + 1) % 2 ^ 64 ∧ s'.tm.queues = s.tm.queues ∧ s'.pkts = s.pkts)) ∧
  (∀ (tree : Nat), Completes (.grantMapReady · tree) (fun s => (s.ponTree tree).maps.find? (fun m => !m.ready && (s.ponTree tree).sfc < m.frame) = none) (fun s s' => s' = s)) ∧
  (∀ (tree : Nat), Completes (.grantMapReady · tree) (fun s => (s.ponTree tree).maps = []) (fun s s' => s' = s)) ∧
  (∀ (e : Nat) (x : GrantEntry) (l : List (List Nat)) (n g : Nat), Completes (.grantShareInterval ·) (fun s => s.pon.entries = [(e, x)] ∧ x.live = true ∧ (x.learned = [] ∨ x.learnedAt ≠ s.tclk) ∧ l = x.buckets.take 10 ∧ l ≠ [] ∧ n = (l.map fun b => (b[0]?).getD 0).sum ∧ g < 8) (fun _ s' => ((s'.grantEntry e).shares[g]?).getD 0 = (if n = 0 then 0 else 256 * (l.map fun b => (b[g + 1]?).getD 0).sum / n) ∧ (s'.grantEntry e).buckets = List.replicate 9 0 :: l ∧ (s'.grantEntry e).allocId = x.allocId)) ∧
  (Completes (.grantShareInterval ·) (fun s => canon {} s.pon.entries = true) (fun s s' => (∀ e, s'.grantEntry e = if (s.grantEntry e).live = true then (s.grantEntry e).share s.tclk else s.grantEntry e) ∧ s'.pon.trees = s.pon.trees ∧ s'.tm = s.tm)) ∧
  (∀ (c : Cmd) (k : Nat), Completes (.grantTreeConfig · c) (fun s => ready s c 0x0C08 .any = true ∧ s.treeErr c (c.u8 16) = none ∧ c.u8 17 ≤ 2 ∧ 64 ≤ c.u16 18 ∧ c.u16 18 ≤ 16384 ∧ 16 ≤ c.u16 20 ∧ c.u16 20 ≤ 1023 ∧ c.zeros 22 42 = none ∧ s.treeLaneErr (c.u8 16) = none ∧ k = c.u8 16) (fun s s' => (s'.ponTree k).learnWord = c.u8 17 ∧ (s'.ponTree k).grantUnit = c.u16 18 ∧ (s'.ponTree k).guardBits = c.u16 20 ∧ (s'.ponTree k).groups = (s.ponTree k).groups ∧ (∀ t, t ≠ k → s'.ponTree t = s.ponTree t))) ∧
  (∀ (c : Cmd), Completes (.grantAlloc · c) (fun s => ready s c 0x0C09 .any = true ∧ c.u16 16 < 32768 ∧ s.treeErr c (c.u8 19) = none ∧ s.treeLaneErr (c.u8 19) = none ∧ c.u8 18 = 0 ∧ firstErr (grantSetErrs c s) = none) (fun s s' => s' = (s.setGrantEntry (c.u16 16) { live := true, tree := c.u8 19, onu := c.u8 20, allocId := c.u16 22, queue := c.u32 24, fixedKbps := c.u32 28, report := c.u8 21 = 1 }).answer c .ok 0 0 [])) ∧
  (∀ (c : Cmd), Completes (.grantAlloc · c) (fun s => ready s c 0x0C09 .any = true ∧ c.u16 16 < 32768 ∧ s.treeErr c (c.u8 19) = none ∧ s.treeLaneErr (c.u8 19) = none ∧ c.u8 18 = 1 ∧ (s.grantEntry (c.u16 16)).live = true ∧ (s.grantEntry (c.u16 16)).tree = c.u8 19) (fun s s' => s' = (s.setGrantEntry (c.u16 16) {}).answer c .ok 0 0 [])) ∧
  (∀ (c : Cmd), Completes (.grantAlloc · c) (fun s => ready s c 0x0C09 .any = true ∧ c.u16 16 < 32768 ∧ s.treeErr c (c.u8 19) = none ∧ s.treeLaneErr (c.u8 19) = none ∧ c.u8 18 = 1 ∧ ((s.grantEntry (c.u16 16)).live = false ∨ (s.grantEntry (c.u16 16)).tree ≠ c.u8 19)) (fun s s' => s' = s.answer c .notFound 0 0 [])) ∧
  (∀ (c : Cmd) (k g : Nat), Completes (.grantGroup · c) (fun s => ready s c 0x0C0A .any = true ∧ s.treeErr c (c.u8 16) = none ∧ c.u8 17 ≤ 7 ∧ c.u8 18 = 0 ∧ firstErr (groupSetErrs c s) = none ∧ s.treeLaneErr (c.u8 16) = none ∧ k = c.u8 16 ∧ g = c.u8 17) (fun s s' => (s'.ponTree k).group g = { live := true, trim := c.u8 19 = 1, onUs := c.u16 20, offUs := c.u16 22, shareMin := c.u8 24, fMin := c.u8 25, step := c.u8 26, members := c.field 32 32, cut := 0 } ∧ (∀ i, i ≠ g → (s'.ponTree k).group i = (s.ponTree k).group i))) ∧
  (∀ (c : Cmd) (k g : Nat), Completes (.grantGroup · c) (fun s => ready s c 0x0C0A .any = true ∧ s.treeErr c (c.u8 16) = none ∧ c.u8 17 ≤ 7 ∧ c.u8 18 = 1 ∧ s.treeLaneErr (c.u8 16) = none ∧ k = c.u8 16 ∧ g = c.u8 17 ∧ ((s.ponTree k).group g).live = true) (fun s s' => (s'.ponTree k).group g = {} ∧ (∀ i, i ≠ g → (s'.ponTree k).group i = (s.ponTree k).group i) ∧ (∀ t, t ≠ k → s'.ponTree t = s.ponTree t))) ∧
  (∀ (c : Cmd), Completes (.grantGroup · c) (fun s => ready s c 0x0C0A .any = true ∧ s.treeErr c (c.u8 16) = none ∧ c.u8 17 ≤ 7 ∧ c.u8 18 = 1 ∧ ((s.ponTree (c.u8 16)).group (c.u8 17)).live = false) (fun s s' => s' = s.answer c .notFound 0 0 [])) ∧
  (∀ (c : Cmd) (x : GrantEntry), Completes (.grantQuery · c) (fun s => ready s c 0x0C0B .any = true ∧ c.needReply = none ∧ c.u16 16 < 32768 ∧ c.zeros 18 46 = none ∧ x = s.grantEntry (c.u16 16) ∧ x.live = true ∧ s.treeErr c x.tree = none ∧ s.treeLaneErr x.tree = none) (fun s s' => s' = s.answer c .ok 0 40 (leBytes 4 x.lastDemand ++ leBytes 4 x.lastGrant ++ leBytes 4 (min x.lastCap 0xFFFFFFFF) ++ (List.range 8).flatMap (fun g => leBytes 2 ((x.shares[g]?).getD 0)) ++ leBytes 4 x.used ++ leBytes 4 x.missed ++ leBytes 4 0))) ∧
  (∀ (c : Cmd) (x : PonTree), Completes (.grantStats · c) (fun s => ready s c 0x0C0C .any = true ∧ c.needReply = none ∧ s.treeErr c (c.u8 16) = none ∧ c.u8 17 ≤ 1 ∧ c.zeros 18 46 = none ∧ s.treeLaneErr (c.u8 16) = none ∧ x = s.ponTree (c.u8 16)) (fun s s' => s' = (if c.u8 17 = 1 then s.setPonTree (c.u8 16) { x with grantStats := [] } else s).answer c .ok 0 64 ((List.range 8).flatMap fun i => leBytes 8 (look x.grantStats i 0)))) ∧
  (∀ (s : State) (t peak g share : Nat) (e : GrantEntry) (y : GrantGroup), g < 8 → y = (s.ponTree t).group g → (e.shares[g]?).getD 0 = share → y.live = true → y.trim = true → 0 < y.cut → y.shareMin ≤ share →
    (∀ i, i < 8 → i ≠ g → ((s.ponTree t).group i).cut = 0) → s.bufferCaps e = false → s.peakBytes e = some peak →
    (s.mapCap t e).1 = max (s.assuredBytes e) (min peak (peak * (65536 - share * y.cut) / 65536)))

/-- Cipher commands (R376, R377, R387–R389). -/
def Obligations.CipherCommandsComplete : Prop :=
  (∀ (c : Cmd), Completes (.macsecSa · c) (fun s => ready s c 0x0D00 .any = true ∧ firstErr (macsecSaErrs c s) = none ∧ c.u8 18 = 0) (fun s s' => s' = (s.setMacSa (c.u16 16) { live := true, receive := decide (c.u8 19 = 1), port := c.u8 20, an := c.u8 21, suite := c.u8 22, flags := c.u8 23, slot := c.u32 24, window := c.u32 28, sci := c.u64 32, ssci := c.u32 48, salt := (slice c.params 36 12).reverse, pn := c.u64 40, low := c.u64 40 }).answer c .ok 0 0 [])) ∧
  (∀ (c : Cmd), Completes (.macsecSa · c) (fun s => ready s c 0x0D00 .any = true ∧ c.u16 16 < 16384 ∧ c.u8 19 ≤ 1 ∧ (s.macSa (c.u16 16)).live = false ∧ c.u8 18 = 0 ∧ c.u8 20 < 128 ∧ s.ownErr c 1 (c.u8 20) = none ∧ (s.port (c.u8 20)).personality = .ethernet ∧ c.u8 21 ≤ 3 ∧ c.u8 22 ≤ 3 ∧ c.u8 23 < 32 ∧ bits (c.u8 23) 2 1 ≤ 2 ∧ s.ownErr c 8 (c.u32 24) = none ∧ (s.key (c.u32 24)).kind ≠ 0 ∧ (s.key (c.u32 24)).kind ≠ (if c.u8 22 % 2 = 1 then 2 else 1)) (fun s s' => s' = s.answer c .invalidParam 0x01000018 0 [])) ∧
  (∀ (c : Cmd), Completes (.macsecSa · c) (fun s => ready s c 0x0D00 .any = true ∧ c.u16 16 < 16384 ∧ c.u8 19 ≤ 1 ∧ (s.macSa (c.u16 16)).live = false ∧ c.u8 18 = 0 ∧ c.u8 20 < 128 ∧ s.ownErr c 1 (c.u8 20) = none ∧ (s.port (c.u8 20)).personality = .ethernet ∧ c.u8 21 ≤ 3 ∧ c.u8 22 ≤ 3 ∧ c.u8 23 < 32 ∧ bits (c.u8 23) 2 1 ≤ 2 ∧ s.ownErr c 8 (c.u32 24) = none ∧ (s.key (c.u32 24)).kind = 0) (fun s s' => s' = s.answer c .notFound 0 0 [])) ∧
  (∀ (c : Cmd), Completes (.macsecSa · c) (fun s => ready s c 0x0D00 .any = true ∧ c.u16 16 < 16384 ∧ c.u8 19 ≤ 1 ∧ c.u8 18 = 0 ∧ (s.macSa (c.u16 16)).live = true ∧ s.ownErr c 1 (s.macSa (c.u16 16)).port = none) (fun s s' => s' = s.answer c .invalidParam 0x01000010 0 [])) ∧
  (∀ (c : Cmd) (x : MacSa), Completes (.macsecSa · c) (fun s => ready s c 0x0D00 .any = true ∧ c.u16 16 < 16384 ∧ c.u8 19 ≤ 1 ∧ c.u8 23 < 32 ∧ s.busyErr c = none ∧ (s.macSa (c.u16 16)).live = true ∧ s.ownErr c 1 (s.macSa (c.u16 16)).port = none ∧ s.portLanesErr (s.macSa (c.u16 16)).port = none ∧ x = s.macSa (c.u16 16) ∧ c.u8 18 = 1) (fun s s' => s' = (s.setMacSa (c.u16 16) {}).answer c .ok 0 0 [])) ∧
  (∀ (c : Cmd) (x : MacSa), Completes (.macsecSa · c) (fun s => ready s c 0x0D00 .any = true ∧ c.u16 16 < 16384 ∧ c.u8 19 ≤ 1 ∧ c.u8 23 < 32 ∧ s.busyErr c = none ∧ (s.macSa (c.u16 16)).live = true ∧ s.ownErr c 1 (s.macSa (c.u16 16)).port = none ∧ s.portLanesErr (s.macSa (c.u16 16)).port = none ∧ x = s.macSa (c.u16 16) ∧ c.u8 18 = 2) (fun s s' => (s'.macSa (c.u16 16)).pn = c.u64 40 ∧ (s'.macSa (c.u16 16)).stats = x.stats ∧ (s'.macSa (c.u16 16)).slot = x.slot ∧ s'.macNow (c.u16 16) = s.macNow (c.u16 16))) ∧
  (∀ (c : Cmd) (x : MacSa), Completes (.macsecSa · c) (fun s => ready s c 0x0D00 .any = true ∧ c.u16 16 < 16384 ∧ c.u8 19 ≤ 1 ∧ c.u8 23 < 32 ∧ s.busyErr c = none ∧ (s.macSa (c.u16 16)).live = true ∧ s.ownErr c 1 (s.macSa (c.u16 16)).port = none ∧ s.portLanesErr (s.macSa (c.u16 16)).port = none ∧ x = s.macSa (c.u16 16) ∧ c.u8 18 = 3 ∧ x.receive = false) (fun s s' => (s'.cport x.port).txAn = x.an ∧ s'.anNow x.port = s.anNow x.port ∧ s'.cipher.macSas = s.cipher.macSas)) ∧
  (∀ (c : Cmd), Completes (.macsecSa · c) (fun s => ready s c 0x0D00 .any = true ∧ c.u16 16 < 16384 ∧ c.u8 19 ≤ 1 ∧ c.u8 23 < 32 ∧ 1 ≤ c.u8 18 ∧ c.u8 18 ≤ 3 ∧ (s.macSa (c.u16 16)).live = false) (fun s s' => s' = s.answer c .notFound 0 0 [])) ∧
  (∀ (c : Cmd), Completes (.macsecSa · c) (fun s => ready s c 0x0D00 .any = true ∧ firstErr (macsecSaErrs c s) = none) (fun s s' => s' = (macsecSaDone c s).answer c .ok 0 0 [] ∧ s'.cipher.tunSas = s.cipher.tunSas ∧ (∀ k, k ≠ c.u16 16 → s'.macSa k = s.macSa k))) ∧
  (∀ (c : Cmd) (u : Nat), Completes (.macsecPort · c) (fun s => ready s c 0x0D01 .any = true ∧ c.u8 16 < 128 ∧ s.ownErr c 1 (c.u8 16) = none ∧ (s.port (c.u8 16)).personality = .ethernet ∧ c.u8 17 = 1 ∧ (c.u8 18 = 1 ∨ c.u8 18 = 2) ∧ c.zeros 19 45 = none ∧ s.portLanesErr (c.u8 16) = none ∧ (s.cport (c.u8 16)).tx = false ∧ s.pipeFor (c.u8 16) false = some u ∧ s.cipher.replacing = []) (fun s s' => (s'.cport (c.u8 16)).tx = true ∧ (s'.cport (c.u8 16)).txPipe = u + 1 ∧ (s'.cport (c.u8 16)).rx = false ∧ (s'.cport (c.u8 16)).validate = c.u8 18 ∧ (∀ p, p ≠ c.u8 16 → s'.cport p = s.cport p) ∧ s'.cipher.macSas = s.cipher.macSas)) ∧
  (∀ (c : Cmd), Completes (.macsecPort · c) (fun s => ready s c 0x0D01 .any = true ∧ c.u8 16 < 128 ∧ s.ownErr c 1 (c.u8 16) = none ∧ (s.port (c.u8 16)).personality = .ethernet ∧ c.u8 17 = 1 ∧ (c.u8 18 = 1 ∨ c.u8 18 = 2) ∧ c.zeros 19 45 = none ∧ s.portLanesErr (c.u8 16) = none ∧ (s.cport (c.u8 16)).tx = false ∧ s.pipeFor (c.u8 16) false = none) (fun s s' => s' = s.answer c .tableFull 0 0 [])) ∧
  (∀ (c : Cmd), Completes (.macsecPort · c) (fun s => ready s c 0x0D01 .any = true ∧ c.u8 16 < 128 ∧ s.ownErr c 1 (c.u8 16) = none ∧ (s.port (c.u8 16)).personality = .ethernet ∧ c.u8 17 < 4 ∧ (c.u8 18 = 1 ∨ c.u8 18 = 2) ∧ c.zeros 19 45 = none ∧ s.portLanesErr (c.u8 16) = none ∧ ((s.macsecDir (c.u8 16) false (bit (c.u8 17) 0)).bind (fun z => z.macsecDir (c.u8 16) true (bit (c.u8 17) 1))).isSome = true) (fun s s' => (s'.cport (c.u8 16)).tx = bit (c.u8 17) 0 ∧ (s'.cport (c.u8 16)).rx = bit (c.u8 17) 1 ∧ (s'.cport (c.u8 16)).validate = c.u8 18 ∧ (∀ p, p ≠ c.u8 16 → s'.cport p = s.cport p) ∧ s'.cipher.macSas = s.cipher.macSas)) ∧
  (∀ (c : Cmd), Completes (.macsecPort · c) (fun s => ready s c 0x0D01 .any = true ∧ c.u8 16 < 128 ∧ s.ownErr c 1 (c.u8 16) = none ∧ (s.port (c.u8 16)).personality = .ethernet ∧ c.u8 17 < 4 ∧ (c.u8 18 = 1 ∨ c.u8 18 = 2) ∧ c.zeros 19 45 = none ∧ s.portLanesErr (c.u8 16) = none ∧ ((s.macsecDir (c.u8 16) false (bit (c.u8 17) 0)).bind (fun z => z.macsecDir (c.u8 16) true (bit (c.u8 17) 1))).isSome = false) (fun s s' => s' = s.answer c .tableFull 0 0 [])) ∧
  (∀ (c : Cmd), Completes (.tunnelSa · c) (fun s => ready s c 0x0D02 .any = true ∧ firstErr (tunnelSaErrs c s) = none ∧ c.u8 18 = 0) (fun s s' => s' = (s.setTunSa (c.u16 16) { live := true, domain := c.domain, inbound := c.u8 19 = 1, aes256 := c.u8 20 = 1, tunnel := bit (c.u8 21) 0, esn := bit (c.u8 21) 1, window := c.u16 22, slot := c.u32 24, spi := c.u32 28, salt := c.u32 32, seq := c.u64 40 }).answer c .ok 0 0 [])) ∧
  (∀ (c : Cmd) (x : TunSa), Completes (.tunnelSa · c) (fun s => ready s c 0x0D02 .any = true ∧ firstErr (tunnelSaErrs c s) = none ∧ x = s.tunSa (c.u16 16) ∧ c.u8 18 = 1) (fun s s' => s' = (s.setTunSa (c.u16 16) {}).answer c .ok 0 0 [])) ∧
  (∀ (c : Cmd) (x : TunSa), Completes (.tunnelSa · c) (fun s => ready s c 0x0D02 .any = true ∧ firstErr (tunnelSaErrs c s) = none ∧ x = s.tunSa (c.u16 16) ∧ c.u8 18 = 2) (fun _ s' => (s'.tunSa (c.u16 16)).seq = c.u64 40 ∧ (s'.tunSa (c.u16 16)).marks = [] ∧ (s'.tunSa (c.u16 16)).spi = x.spi ∧ (s'.tunSa (c.u16 16)).slot = x.slot)) ∧
  (∀ (c : Cmd) (k : Nat), Completes (.ciphStats · c) (fun s => ready s c 0x0D03 .any = true ∧ c.needReply = none ∧ c.zeros 17 1 = none ∧ c.u8 20 = 0 ∧ c.zeros 21 43 = none ∧ k = c.u16 18 ∧ c.u8 16 = 0 ∧ k < 16384 ∧ (s.macSa k).live = true ∧ s.ownErr c 1 (s.macSa k).port = none) (fun s s' => s' = s.answer c .ok 0 64 (((List.range 7).flatMap fun i => leBytes 8 (look (s.macSa k).stats i 0)) ++ leBytes 8 (s.macSa k).pn))) ∧
  (∀ (c : Cmd) (k : Nat), Completes (.ciphStats · c) (fun s => ready s c 0x0D03 .any = true ∧ c.needReply = none ∧ c.zeros 17 1 = none ∧ c.u8 20 = 0 ∧ c.zeros 21 43 = none ∧ k = c.u16 18 ∧ c.u8 16 = 1 ∧ k < 32768 ∧ (s.tunSa k).live = true ∧ (s.tunSa k).domain = c.domain) (fun s s' => s' = s.answer c .ok 0 64 (((List.range 7).flatMap fun i => leBytes 8 (look (s.tunSa k).stats i 0)) ++ leBytes 8 (s.tunSa k).seq))) ∧
  (∀ (c : Cmd) (k : Nat), Completes (.ciphStats · c) (fun s => ready s c 0x0D03 .any = true ∧ c.needReply = none ∧ c.zeros 17 1 = none ∧ c.u8 20 = 0 ∧ c.zeros 21 43 = none ∧ k = c.u16 18 ∧ c.u8 16 = 2 ∧ k < 128 ∧ s.ownErr c 1 k = none) (fun s s' => s' = s.answer c .ok 0 64 ((List.range 8).flatMap fun i => leBytes 8 (look (s.cport k).stats i 0)))) ∧
  (∀ (c : Cmd) (k : Nat), Completes (.ciphStats · c) (fun s => ready s c 0x0D03 .any = true ∧ c.needReply = none ∧ c.zeros 17 1 = none ∧ c.u8 20 ≤ 1 ∧ c.zeros 21 43 = none ∧ c.u8 16 ≤ 2 ∧ k = c.u16 18 ∧
      (if c.u8 16 = 0 then k < 16384 ∧ (s.macSa k).live = true ∧ s.ownErr c 1 (s.macSa k).port = none else if c.u8 16 = 1 then k < 32768 ∧ (s.tunSa k).live = true ∧ (s.tunSa k).domain = c.domain else k < 128 ∧ s.ownErr c 1 k = none)) (fun s s' => s' = (if c.u8 20 = 0 then s else if c.u8 16 = 0 then s.setMacSa k { s.macSa k with stats := [] } else if c.u8 16 = 1 then s.setTunSa k { s.tunSa k with stats := [] }
      else s.setCport k { s.cport k with stats := [] }).answer c .ok 0 64 (s.ciphCounters (c.u8 16) k)))

/-- Verdicts, tunnel cipher, disagreements (R379, R381–R384, R386). -/
def Obligations.CipherEnginesComplete : Prop :=
  (∀ (th : ThreadId) (good : Bool) (k a : Nat) (x : MacSa), Completes (.macsecVerdict · th good) (fun s => s.disagreesNow th = false ∧ s.macWritten a = false ∧ (s.thread th).pass = some k ∧ (s.pkt k).sa = some a ∧ (s.pkt k).verdict = none ∧ x = s.macSa a ∧ x.live = true ∧ x.seen = true ∧ (s.thread th).waiting = .none ∧ (s.thread th).spec.heldFault = none ∧ good = true) (fun s s' => (s'.pkt k).verdict = some true ∧ (s'.macSa a).pn = max x.pn (s.pkt k).pn ∧ look (s'.macSa a).stats 0 0 = (look x.stats 0 0 + 1) % 2 ^ 64 ∧ look (s'.macSa a).stats 1 0 = (look x.stats 1 0 + (s.pkt k).bytes.length) % 2 ^ 64)) ∧
  (∀ (th : ThreadId) (good : Bool) (k a : Nat) (x : MacSa) (v : Bool), Completes (.macsecVerdict · th good) (fun s => s.disagreesNow th = false ∧ s.macWritten a = false ∧ (s.thread th).pass = some k ∧ (s.pkt k).sa = some a ∧ (s.pkt k).verdict = none ∧ x = s.macSa a ∧ x.live = true ∧ x.seen = true ∧ (s.thread th).waiting = .none ∧ (s.thread th).spec.heldFault = none ∧ good = false ∧ (s.pkt k).checkPass = v) (fun _ s' => (s'.pkt k).verdict = some false ∧ (s'.macSa a).pn = x.pn ∧ look (s'.macSa a).stats (if v = true then 2 else 3) 0 = (look x.stats (if v = true then 2 else 3) 0 + 1) % 2 ^ 64)) ∧
  (∀ (th : ThreadId) (good : Bool), Completes (.macsecVerdict · th good) (fun s => s.disagreesNow th = true) (fun s s' => s' = s)) ∧
  (∀ (th : ThreadId) (good : Bool), Completes (.macsecVerdict · th good) (fun s => (s.thread th).pass = none) (fun s s' => s' = s)) ∧
  (∀ (th : ThreadId) (good : Bool) (k : Nat), Completes (.macsecVerdict · th good) (fun s => (s.thread th).pass = some k ∧ ((s.pkt k).sa = none ∨ (s.pkt k).verdict ≠ none)) (fun s s' => s' = s)) ∧
  (∀ (th : ThreadId) (good : Bool) (k a : Nat) (x : MacSa), Completes (.macsecVerdict · th good) (fun s => s.disagreesNow th = false ∧ s.macWritten a = false ∧ (s.thread th).pass = some k ∧ (s.pkt k).sa = some a ∧ (s.pkt k).verdict = none ∧ x = s.macSa a) (fun s s' => ∃ z : State, s' = (z.settle th).quietAt th.cluster ∧ (z.pkt k).verdict = some good ∧ (z.pkt k).bytes = (s.pkt k).bytes ∧ (∀ b, b ≠ a → z.macSa b = s.macSa b) ∧
      (z.macSa a).pn = (if good = true ∧ x.live = true then (if x.seen = true then max x.pn (s.pkt k).pn else (s.pkt k).pn) else x.pn))) ∧
  (∀ (pipe : Nat) (k : Nat) (l : List Nat) (off sa : Nat) (x : TunSa), Completes (.tunnelCipher · pipe) (fun s => s.tunnelQueue pipe = k :: l ∧ tunnelRef ((s.pkt k).desc.meta2 % 2 ^ 31) = some (off, sa) ∧ x = s.tunSa sa ∧ (x.live = false ∨ x.domain ≠ (s.pkt k).desc.domain)) (fun s s' => s'.tunnelQueue pipe = l ∧ (s'.pkt k).live = false ∧ look s'.cipher.denied (s.pkt k).desc.domain 0 = (look s.cipher.denied (s.pkt k).desc.domain 0 + 1) % 2 ^ 64 ∧ s'.cipher.tunSas = s.cipher.tunSas)) ∧
  (∀ (pipe : Nat) (k : Nat) (l : List Nat) (off sa : Nat) (x : TunSa), Completes (.tunnelCipher · pipe) (fun s => s.tunnelQueue pipe = k :: l ∧ tunnelRef ((s.pkt k).desc.meta2 % 2 ^ 31) = some (off, sa) ∧ x = s.tunSa sa ∧ x.live = true ∧ x.domain = (s.pkt k).desc.domain ∧ x.invalid = true ∧ (s.pkt k).egress = false) (fun s s' => (s'.pkt k).untrusted = true ∧ (s'.pkt k).committed = true ∧ (s'.pkt k).bytes = (s.pkt k).bytes ∧ s'.tunnelQueue pipe = l)) ∧
  (∀ (pipe : Nat) (k : Nat) (l : List Nat) (off sa : Nat) (x : TunSa), Completes (.tunnelCipher · pipe) (fun s => s.tunnelQueue pipe = k :: l ∧ tunnelRef ((s.pkt k).desc.meta2 % 2 ^ 31) = some (off, sa) ∧ x = s.tunSa sa ∧ x.live = true ∧ x.domain = (s.pkt k).desc.domain ∧ x.invalid = false ∧ x.inbound = false ∧ s.tunWritten sa = false ∧ x.tunnel = true ∧ x.seq < 2 ^ 31 ∧ (s.pkt k).bytes.length + 37 ≤ 10368 ∧ (s.pkt k).desc.ipOffset = 0xFFFF ∧ off ≤ (s.pkt k).bytes.length) (fun s s' => (s'.tunSa sa).seq = x.seq + 1 ∧ (s'.pkt k).committed = true ∧ (s'.pkt k).desc.meta2 = (s.pkt k).desc.meta2 % 2 ^ 31 ∧ (s'.pkt k).desc.length = (s'.pkt k).bytes.length ∧ (s.pkt k).bytes.length + 34 ≤ (s'.pkt k).bytes.length ∧ (s'.pkt k).bytes.length ≤ (s.pkt k).bytes.length + 37 ∧ (s'.pkt k).bytes.take (off + 16) = (s.pkt k).bytes.take off ++ beBytes 4 x.spi ++ beBytes 4 x.seq ++ beBytes 8 x.seq ∧ s'.tunnelQueue pipe = l)) ∧
  (∀ (pipe : Nat) (k : Nat) (l : List Nat), Completes (.tunnelCipher · pipe) (fun s => s.tunnelQueue pipe = k :: l ∧ tunnelRef ((s.pkt k).desc.meta2 % 2 ^ 31) = none) (fun s s' => s'.tunnelQueue pipe = l ∧ (s'.pkt k).live = false ∧ look s'.cipher.denied (s.pkt k).desc.domain 0 = (look s.cipher.denied (s.pkt k).desc.domain 0 + 1) % 2 ^ 64 ∧ s'.cipher.tunSas = s.cipher.tunSas)) ∧
  (∀ (pipe : Nat) (k : Nat) (l : List Nat) (off sa : Nat) (x : TunSa), Completes (.tunnelCipher · pipe) (fun s => s.tunnelQueue pipe = k :: l ∧ tunnelRef ((s.pkt k).desc.meta2 % 2 ^ 31) = some (off, sa) ∧ x = s.tunSa sa ∧ x.live = true ∧ x.domain = (s.pkt k).desc.domain) (fun s s' => let z := (s.setTunnelQueue pipe l).countBlocks pipe (s.pkt k).bytes.length;
      s' = (if x.invalid = true then (z.setPkt k ((s.pkt k).afterCipher (s.pkt k).bytes)).untrust k sa else if x.inbound = true then z.espIn k sa off else z.espOut k sa off))) ∧
  (∀ (pipe : Nat), Completes (.tunnelCipher · pipe) (fun s => s.tunnelQueue pipe = []) (fun s s' => s' = s)) ∧
  (∀ (unit : Nat) (w : DisagreeAt) (x : CipherUnit) (n : Nat), Completes (.cipherDisagree · unit w) (fun s => unit < 132 ∧ s.isOut 0x0C unit = false ∧ w = .pon 5 false ∧ x = s.cunit unit ∧ n = ((s.now :: x.last).filter fun i => s.now < i + ms 1000).length ∧ n < 3) (fun s s' => (s'.cunit unit).testing = true ∧ (s'.cunit unit).disagree = min 255 (x.disagree + 1) ∧ s'.cipher.logValid = true ∧ s'.cipher.logUnit = unit ∧ s'.cipher.logCount = min 65535 (s.cipher.logCount + 1) ∧ s'.isOut 0x0C unit = false ∧ s'.pkts = s.pkts)) ∧
  (∀ (unit : Nat) (w : DisagreeAt), Completes (.cipherDisagree · unit w) (fun s => unit < 132 ∧ s.isOut 0x0C unit = false ∧ w = .pon 5 false ∧ ((s.now :: (s.cunit unit).last).filter fun i => s.now < i + ms 1000).length = 3) (fun s s' => s'.isOut 0x0C unit = true ∧ (s'.cunit unit).disagree = min 255 ((s.cunit unit).disagree + 1))) ∧
  (∀ (unit : Nat) (w : DisagreeAt), Completes (.cipherDisagree · unit w) (fun s => 132 ≤ unit ∨ s.isOut 0x0C unit = true) (fun s s' => s' = s)) ∧
  (∀ (unit : Nat) (w : DisagreeAt) (x : CipherUnit) (n : Nat), Completes (.cipherDisagree · unit w) (fun s => unit < 132 ∧ s.isOut 0x0C unit = false ∧ x = s.cunit unit ∧ n = ((s.now :: x.last).filter fun i => s.now < i + ms 1000).length) (fun s s' => s' = (s.disagreeAt w).disagree unit ∧ (s'.cunit unit).testing = true ∧ (s'.cunit unit).disagree = min 255 (x.disagree + 1) ∧ s'.cipher.logValid = true ∧ s'.cipher.logUnit = unit ∧ s'.cipher.logCount = min 65535 (s.cipher.logCount + 1) ∧ s'.isOut 0x0C unit = decide (3 ≤ n))) ∧
  (∀ (unit : Nat) (pass : Bool), Completes (.cipherKat · unit pass) (fun s => (s.cunit unit).testing = false) (fun s s' => s' = s)) ∧
  (∀ (unit : Nat) (pass : Bool), Completes (.cipherKat · unit pass) (fun s => (s.cunit unit).testing = true) (fun s s' => (s'.cunit unit).testing = false ∧ s'.isOut 0x0C unit = (s.isOut 0x0C unit || !pass) ∧ (s'.cunit unit).disagree = (s.cunit unit).disagree ∧ s'.pkts = s.pkts)) ∧
  (∀ (unit : Nat) (pass : Bool), Completes (.cipherKat · unit pass) (fun s => (s.cunit unit).testing = true ∧ s.isOut 0x0C unit = false ∧ 72 ≤ unit) (fun s s' => (s'.cunit unit).testing = false ∧ s'.isOut 0x0C unit = !pass ∧ (s'.cunit unit).disagree = (s.cunit unit).disagree)) ∧
  (∀ (unit : Nat) (p u : Nat), Completes (.cipherReplace · unit) (fun s => unit < 64 ∧ s.isOut 0x0C unit = true ∧ s.cipher.replacing = [(2 * p, true)] ∧ s.pipeFor p false = some u ∧ (s.port p).conds = []) (fun s s' => (s'.cport p).txPipe = u + 1 ∧ look s'.cipher.replacing (2 * p) false = false ∧ (s'.cport p).tx = (s.cport p).tx)) ∧
  (∀ (unit : Nat), Completes (.cipherReplace · unit) (fun s => unit < 64 ∧ s.isOut 0x0C unit = true) (fun s s' => s' = s.placeWaiting ∧ s'.cipher.macSas = s.cipher.macSas)) ∧
  (∀ (unit : Nat), Completes (.cipherReplace · unit) (fun _ => 64 ≤ unit) (fun s s' => s' = s)) ∧
  (∀ (unit : Nat), Completes (.cipherReplace · unit) (fun s => s.isOut 0x0C unit = false) (fun s s' => s' = s)) ∧
  (∀ (r : RegRead) (n v : Nat), Completes (.ciphFaultLogRead · r) (fun s => r.addr = 0x02402000 ∧ r.size = 4 ∧ s.answers r.host = true ∧ n = s.cipher.logMark.seen s.kclk s.cipher.logCount ∧ v = 2 ^ 31 * b2n s.cipher.logValid + 65536 * s.cipher.logUnit + n) (fun s s' => ∃ x : State, x = s.emit (.read r.host (v % 2 ^ 32)) ∧ s' = { x with cipher := { x.cipher with logCount := s.cipher.logCount - n, logMark := s.cipher.logMark.cleared s.kclk } })) ∧
  (∀ (r : RegRead) (n v : Nat), Completes (.ciphFaultLogRead · r) (fun s => r.addr / 4 = 0x00900800 ∧ s.answers r.host = true ∧ n = s.cipher.logMark.seen s.kclk s.cipher.logCount ∧ v = 2 ^ 31 * b2n s.cipher.logValid + 65536 * s.cipher.logUnit + n) (fun s s' => ∃ x : State, x = s.emit (.read r.host (readPart r v)) ∧ s' = (if readAligned r = true then { x with cipher := { x.cipher with logCount := s.cipher.logCount - n, logMark := s.cipher.logMark.cleared s.kclk } } else x))) ∧
  (∀ (r : RegRead), Completes (.ciphFaultLogRead · r) (fun s => s.answers r.host = false ∨ readHits r 0x02402000 = false) (fun s s' => s' = s))

/-- Time (R390–R398, R403–R407). -/
def Obligations.TimeComplete : Prop :=
  (∀ (r : RegRead), Completes (.timeNsRead · r) (fun s => s.answers r.host = true ∧ r.addr = 0x02600000 ∧ r.size = 4) (fun s s' => s'.host.out = s.host.out ++ [.read r.host (s.timeNow % second / 2 ^ 40)] ∧ (s'.hostPort r.host).timeSec = s.timeNow / second ∧ (s'.hostPort r.host).timeFrac = s.timeNow % 2 ^ 40 / 2 ^ 24 ∧ (∀ h, h ≠ r.host → s'.hostPort h = s.hostPort h) ∧ s'.time = s.time)) ∧
  (∀ (r : RegRead), Completes (.timeNsRead · r) (fun s => s.answers r.host = true ∧ r.addr / 4 = 0x00980000) (fun s s' => s' = (if readAligned r = true then (s.emit (.read r.host (readPart r (s.timeNow % second / 2 ^ 40)))).setHostPort r.host { s.hostPort r.host with timeSec := s.timeNow / second, timeFrac := s.timeNow % 2 ^ 40 / 2 ^ 24 } else s.emit (.read r.host (readPart r (s.timeNow % second / 2 ^ 40)))))) ∧
  (∀ (r : RegRead), Completes (.timeNsRead · r) (fun s => s.answers r.host = false ∨ readHits r 0x02600000 = false) (fun s s' => s' = s)) ∧
  (∀ (c : Cmd) (v : Nat), Completes (.timeStep · c) (fun s => ready s c 0x0E00 .d0 = true ∧ c.u8 16 ≤ 1 ∧ c.zeros 17 3 = none ∧ (c.u8 16 = 0 ∨ c.u32 34 ≤ 999999999) ∧ c.zeros 40 24 = none ∧ s.time.armed = true ∧ v = (if c.u8 16 = 0 then (((s.timeNow : Int) + c.i64 20 * 2 ^ 24) % (2 ^ 48 * second : Int)).toNat else timeOf c.params 12)) (fun s s' => s'.time.value = v ∧ s'.time.cycle = s.timeBase.cycle ∧ s'.time.armed = false ∧ s'.time.slewRate = 0 ∧ s'.time.slewLeft = 0 ∧ s'.time.stepSeq = (s.time.stepSeq + 1) % 256 ∧ s'.time.stepAmount = (v : Int) - s.timeNow ∧ s'.time.stepCycle = some (s.now / 6) ∧ s'.time.rate = s.time.rate)) ∧
  (∀ (c : Cmd), Completes (.timeStep · c) (fun s => ready s c 0x0E00 .d0 = true ∧ c.u8 16 ≤ 1 ∧ c.zeros 17 3 = none ∧ (c.u8 16 = 0 ∨ c.u32 34 ≤ 999999999) ∧ c.zeros 40 24 = none ∧ s.time.armed = false) (fun s s' => s' = s.answer c .refused 1 0 [])) ∧
  (∀ (c : Cmd), Completes (.timeArm · c) (fun s => ready s c 0x0E01 .d0 = true ∧ c.zeros 16 48 = none ∧ (s.time.stepCycle = none ∨ ∃ k, s.time.stepCycle = some k ∧ k + 1000000000 ≤ s.now / 6)) (fun s s' => s' = { s with time := { s.time with armed := true } }.answer c .ok 0 0 [])) ∧
  (∀ (c : Cmd) (k : Nat), Completes (.timeArm · c) (fun s => ready s c 0x0E01 .d0 = true ∧ c.zeros 16 48 = none ∧ s.time.stepCycle = some k ∧ s.now / 6 < k + 1000000000) (fun s s' => s' = s.answer c .refused 2 0 [])) ∧
  (∀ (c : Cmd), Completes (.timeRate · c) (fun s => ready s c 0x0E02 .d0 = true ∧ -1099511627 ≤ c.i32 16 ∧ c.i32 16 ≤ 1099511627 ∧ c.zeros 20 44 = none) (fun s s' => s' = { s with time := { s.timeBase with rate := c.i32 16 } }.answer c .ok 0 0 [] ∧ s'.timeNow = s.timeNow)) ∧
  (∀ (c : Cmd), Completes (.timeSlew · c) (fun s => ready s c 0x0E03 .d0 = true ∧ (c.i64 16).natAbs ≤ 65536000000000 ∧ c.i64 16 ≠ 0 ∧ 1 ≤ c.u8 24 ∧ c.u8 24 ≤ 200 ∧ c.zeros 25 39 = none) (fun s s' => s'.time.slewLeft = c.i64 16 * 2 ^ 24 ∧ s'.time.slewRate = slewUnits (c.u8 24) ∧ s'.time.rate = s.time.rate ∧ s'.time.armed = s.time.armed ∧ s'.timeNow = s.timeNow)) ∧
  (Completes (.slewComplete ·) (fun s => s.time.slewLeft ≠ 0 ∧ s.timeBase.slewLeft = 0) (fun s s' => s'.time.slewLeft = 0 ∧ s'.time.slewRate = 0 ∧ s'.timeNow = s.timeNow)) ∧
  (Completes (.slewComplete ·) (fun s => s.timeBase.slewLeft ≠ 0) (fun s s' => s' = s)) ∧
  (∀ (c : Cmd), Completes (.timeSlew · c) (fun s => ready s c 0x0E03 .d0 = true ∧ c.i64 16 = 0 ∧ 1 ≤ c.u8 24 ∧ c.u8 24 ≤ 200 ∧ c.zeros 25 39 = none) (fun s s' => s'.time.slewLeft = 0 ∧ s'.time.slewRate = 0 ∧ s'.time.rate = s.time.rate ∧ s'.time.armed = s.time.armed ∧ s'.timeNow = s.timeNow)) ∧
  (Completes (.slewComplete ·) (fun s => s.time.slewLeft = 0) (fun s s' => s' = s)) ∧
  (∀ (c : Cmd) (p : Pulse), Completes (.timePulse · c) (fun s => ready s c 0x0E04 .d0 = true ∧ firstErr (timePulseErrs c) = none ∧ p = (s.fireDue (c.u8 16)).time.pulse (c.u8 16)) (fun s s' => (s'.time.pulse (c.u8 16)).enabled = decide (c.u8 17 = 1) ∧ (s'.time.pulse (c.u8 16)).polarity = c.u8 18 ∧ (s'.time.pulse (c.u8 16)).periodNs = c.u32 32 ∧ (s'.time.pulse (c.u8 16)).widthNs = c.u32 36 ∧ (s'.time.pulse (c.u8 16)).next = (if c.u8 17 = 1 then some (timeOf c.params 4) else none) ∧ (s'.time.pulse (c.u8 16)).firing = p.firing ∧ (s'.time.pulse (c.u8 16)).setCycle = some (s.now / 6) ∧ (∀ n, n ≠ c.u8 16 → s'.time.pulse n = s.time.pulse n))) ∧
  (∀ (out : Nat) (p : Pulse) (n : Nat), Completes (.pulseFire · out) (fun s => p = s.time.pulse out ∧ p.next = some n ∧ p.enabled = true ∧ p.setCycle ≠ some (s.now / 6) ∧ n ≤ s.timeNow) (fun s s' => (s'.time.pulse out).missed = false ∧ (s'.time.pulse out).firing = some { ends := s.now / 6 + p.widthNs, polarity := p.polarity } ∧ (s'.time.pulse out).next = (if p.periodNs = 0 then none else some (n + p.periodNs * 2 ^ 40 * ((s.timeNow - n) / (p.periodNs * 2 ^ 40) + 1))) ∧ s'.host.out = s.host.out ++ [.pulse out (true != (p.polarity == 1))])) ∧
  (∀ (out : Nat) (n : Nat), Completes (.pulseFire · out) (fun s => (s.time.pulse out).next = some n ∧ ((s.time.pulse out).enabled = false ∨ (s.time.pulse out).setCycle = some (s.now / 6) ∨ s.timeNow < n)) (fun s s' => s' = s)) ∧
  (∀ (out : Nat), Completes (.pulseEnd · out) (fun s => (s.time.pulse out).firing = none) (fun s s' => s' = s)) ∧
  (∀ (out : Nat), Completes (.pulseFire · out) (fun s => (s.time.pulse out).next = none) (fun s s' => s' = s)) ∧
  (∀ (out : Nat) (f : Firing), Completes (.pulseEnd · out) (fun s => (s.time.pulse out).firing = some f ∧ f.ends ≤ s.now / 6) (fun s s' => (s'.time.pulse out).firing = none ∧ s'.host.out = s.host.out ++ [.pulse out (false != (f.polarity == 1))] ∧ (s'.time.pulse out).next = (s.time.pulse out).next)) ∧
  (∀ (out : Nat) (f : Firing), Completes (.pulseEnd · out) (fun s => (s.time.pulse out).firing = some f ∧ s.now / 6 < f.ends) (fun s s' => s' = s)) ∧
  (∀ (input : Nat) (rising : Bool) (heldNs : Nat) (p : Capture), Completes (.timeInEdge · input rising heldNs) (fun s => input < 2 ∧ p = s.input input ∧ bit p.edge (if rising = true then 0 else 1) = true ∧ 10 ≤ heldNs ∧ p.last = none ∧ p.queue.length < 16) (fun s s' => (s'.input input).queue = p.queue ++ [(s.edgeTime, if rising = true then 1 else 2)] ∧ (s'.input input).last = some s.now ∧ (s'.input input).overflow = p.overflow ∧ s.edgeTime % 2 ^ 38 = 0)) ∧
  (∀ (input : Nat) (rising : Bool) (heldNs : Nat) (p : Capture) (l : Nat), Completes (.timeInEdge · input rising heldNs) (fun s => input < 2 ∧ p = s.input input ∧ bit p.edge (if rising = true then 0 else 1) = true ∧ 10 ≤ heldNs ∧ p.last = some l ∧ l + ns 100 ≤ s.now ∧ p.queue.length < 16) (fun s s' => (s'.input input).queue = p.queue ++ [(s.edgeTime, if rising = true then 1 else 2)] ∧ (s'.input input).last = some s.now ∧ (s'.input input).overflow = p.overflow)) ∧
  (∀ (input : Nat) (rising : Bool) (heldNs : Nat) (p : Capture), Completes (.timeInEdge · input rising heldNs) (fun s => input < 2 ∧ p = s.input input ∧ bit p.edge (if rising = true then 0 else 1) = true ∧ 10 ≤ heldNs ∧ (∀ l, p.last = some l → l + ns 100 ≤ s.now) ∧ 16 ≤ p.queue.length) (fun s s' => (s'.input input).queue = p.queue ∧ (s'.input input).overflow = min (p.overflow + 1) 65535 ∧ (s'.input input).last = some s.now)) ∧
  (∀ (input : Nat) (rising : Bool) (heldNs : Nat), Completes (.timeInEdge · input rising heldNs) (fun _ => 2 ≤ input) (fun s s' => s' = s)) ∧
  (∀ (input : Nat) (rising : Bool) (heldNs : Nat) (p : Capture), Completes (.timeInEdge · input rising heldNs) (fun s => input < 2 ∧ p = s.input input ∧ bit p.edge (if rising = true then 0 else 1) = true ∧ 10 ≤ heldNs ∧ ((∃ l, p.last = some l ∧ s.now < l + ns 100) ∨ (p.last = none ∧ 16 ≤ p.queue.length))) (fun _ s' => (s'.input input).queue = p.queue ∧ (s'.input input).overflow = min (p.overflow + 1) 65535)) ∧
  (∀ (input : Nat) (rising : Bool) (heldNs : Nat), Completes (.timeInEdge · input rising heldNs) (fun s => heldNs < 10 ∨ bit (s.input input).edge (if rising = true then 0 else 1) = false) (fun s s' => s' = s)) ∧
  (∀ (c : Cmd) (p : Capture), Completes (.timeCapture · c) (fun s => ready s c 0x0E05 .d0 = true ∧ c.u8 16 ≤ 1 ∧ c.u8 18 ≤ 3 ∧ c.zeros 19 45 = none ∧ p = s.input (c.u8 16) ∧ c.u8 17 = 0) (fun s s' => s' = (s.setInput (c.u8 16) { p with edge := c.u8 18 }).answer c .ok 0 0 [])) ∧
  (∀ (c : Cmd) (p : Capture), Completes (.timeCapture · c) (fun s => ready s c 0x0E05 .d0 = true ∧ c.u8 16 ≤ 1 ∧ c.u8 18 ≤ 3 ∧ c.zeros 19 45 = none ∧ p = s.input (c.u8 16) ∧ c.u8 17 = 1 ∧ c.needReply = none) (fun s s' => s' = (s.setInput (c.u8 16) { p with queue := [] }).answer c .ok 0 (captureBytes p.queue).length (captureBytes p.queue))) ∧
  (∀ (c : Cmd) (p : PortTime) (b : Bytes), Completes (.timeTsRead · c) (fun s => ready s c 0x0E06 .any = true ∧ c.needReply = none ∧ s.ownErr c 1 (c.u8 16) = none ∧ 1 ≤ c.u8 17 ∧ c.u8 17 ≤ 16 ∧ c.zeros 18 46 = none ∧ p = s.portTime (c.u8 16) ∧ b = (p.queue.take (c.u8 17)).flatMap TsRecord.bytes) (fun s s' => s' = (s.setPortTime (c.u8 16) { p with queue := p.queue.drop (c.u8 17) }).answer c .ok 0 b.length b)) ∧
  (∀ (c : Cmd) (p : PortTime), Completes (.timePortAdj · c) (fun s => ready s c 0x0E07 .any = true ∧ s.ownErr c 1 (c.u8 16) = none ∧ c.zeros 17 3 = none ∧ (c.i32 20).natAbs ≤ 655360000 ∧ (c.i32 24).natAbs ≤ 655360000 ∧ c.zeros 28 36 = none ∧ p = s.portTime (c.u8 16)) (fun s s' => s' = (s.setPortTime (c.u8 16) { p with rxAdj := c.i32 20, txAdj := c.i32 24 }).answer c .ok 0 0 []))

/-- DRAM controllers (R411, R413, R414, R417–R420, R422–R424, R436). -/
def Obligations.DramControllersComplete : Prop :=
  (∀ (stack : Nat) (pc : Nat) (err : Option EccError) (x : Stack) (p : Pseudo) (b : Nat) (l : List Nat), Completes (.dramArbitrate · stack pc err) (fun s => stack < 10 ∧ pc < 64 ∧ s.stackCode stack = 1 ∧ x = s.stack stack ∧ p = x.pc pc ∧ p.forced = b :: l) (fun s s' => ((s'.stack stack).pc pc).forced = l ∧ ((s'.stack stack).pc pc).waiting = p.waiting ∧ ((s'.stack stack).pc pc).postponed = (((s.repay stack pc).stack stack).pc pc).postponed ∧ (s'.stack stack).forcedCount = x.forcedCount + 1 ∧ (∀ n, n ≠ stack → s'.stack n = s.stack n))) ∧
  (∀ (stack : Nat) (pc : Nat) (err : Option EccError) (x : Stack) (p : Pseudo) (q : DramReq) (l : List DramReq), Completes (.dramArbitrate · stack pc err) (fun s => stack < 10 ∧ pc < 64 ∧ s.stackCode stack = 1 ∧ x = s.stack stack ∧ p = x.pc pc ∧ err = none ∧ p.forced = [] ∧ q.rt = true ∧ p.waiting = q :: l ∧ (s.beLow stack pc = false ∨ ∀ r ∈ l, r.rt = true)) (fun _ s' => ((s'.stack stack).pc pc).waiting = l ∧ ((s'.stack stack).pc pc).lastBe = p.lastBe ∧ (s'.stack stack).spill = x.spill + q.bytes ∧ (s'.stack stack).lastRequest = x.lastRequest)) ∧
  (∀ (stack : Nat) (pc : Nat) (err : Option EccError) (x : Stack) (p : Pseudo) (q r : DramReq), Completes (.dramArbitrate · stack pc err) (fun s => stack < 10 ∧ pc < 64 ∧ s.stackCode stack = 1 ∧ x = s.stack stack ∧ p = x.pc pc ∧ err = none ∧ p.forced = [] ∧ s.beLow stack pc = true ∧ p.waiting = [q, r] ∧ q.rt = true ∧ r.rt = false ∧ r.requester < 4 ∧ s.heldBack stack pc r = false) (fun _ s' => ((s'.stack stack).pc pc).waiting = [q] ∧ ((s'.stack stack).pc pc).lastBe = r.requester ∧ (s'.stack stack).spill = x.spill ∧ (s'.stack stack).lastRequest = x.lastRequest)) ∧
  (∀ (stack : Nat) (pc : Nat) (err : Option EccError), Completes (.dramArbitrate · stack pc err) (fun s => stack < 10 ∧ pc < 64 ∧ s.stackCode stack = 1) (fun s s' => s' = (s.repay stack pc).arbitrate stack pc err)) ∧
  (∀ (stack : Nat) (pc : Nat) (err : Option EccError), Completes (.dramArbitrate · stack pc err) (fun s => 10 ≤ stack ∨ 64 ≤ pc ∨ s.stackCode stack ≠ 1) (fun s s' => s' = s)) ∧
  (∀ (stack : Nat) (pc : Nat) (err : Option EccError) (x : Stack) (p : Pseudo) (b n : Nat) (l : Sparse Nat), Completes (.dramArbitrate · stack pc err) (fun s => stack < 10 ∧ pc < 64 ∧ s.stackCode stack = 1 ∧ x = s.stack stack ∧ p = x.pc pc ∧ p.forced = [] ∧ p.waiting = [] ∧ p.postponed = (b, n) :: l) (fun _ s' => ((s'.stack stack).pc pc).postponed = put p.postponed b 0 (n - 1) ∧ ((s'.stack stack).pc pc).waiting = [] ∧ (s'.stack stack).spill = x.spill)) ∧
  (∀ (stack : Nat) (pc : Nat) (err : Option EccError) (x : Stack) (p : Pseudo) (q : DramReq) (e : EccError), Completes (.dramArbitrate · stack pc err) (fun s => stack < 10 ∧ pc < 64 ∧ s.stackCode stack = 1 ∧ x = s.stack stack ∧ p = x.pc pc ∧ err = some e ∧ e.uncorrectable = true ∧ p.forced = [] ∧ q.rt = true ∧ q.packet = 0 ∧ p.waiting = [q]) (fun _ s' => ((s'.stack stack).pc pc).waiting = [] ∧ (s'.stack stack).uncorrected = min (x.uncorrected + 1) 0xFFFFFFFF ∧ (s'.stack stack).corrected = x.corrected ∧ (s'.stack stack).logValid = true ∧ (s'.stack stack).logUncorr = true ∧ (s'.stack stack).logAt = (e.channel, e.pc, e.bank, e.row))) ∧
  (∀ (stack : Nat) (pc : Nat) (bank : Nat) (x : Stack) (p : Pseudo), Completes (.dramRefreshDue · stack pc bank) (fun s => stack < 10 ∧ pc < 64 ∧ bank < 32 ∧ s.stackCode stack = 1 ∧ x = s.stack stack ∧ p = x.pc pc ∧ p.waiting.any (fun q => q.rt && decide (q.bank = bank)) = true ∧ look p.postponed bank 0 < 8) (fun _ s' => look ((s'.stack stack).pc pc).postponed bank 0 = look p.postponed bank 0 + 1 ∧ ((s'.stack stack).pc pc).forced = p.forced ∧ (s'.stack stack).maxPost = max x.maxPost (look p.postponed bank 0 + 1))) ∧
  (∀ (stack : Nat) (pc : Nat) (bank : Nat) (x : Stack) (p : Pseudo), Completes (.dramRefreshDue · stack pc bank) (fun s => stack < 10 ∧ pc < 64 ∧ bank < 32 ∧ s.stackCode stack = 1 ∧ x = s.stack stack ∧ p = x.pc pc ∧ p.waiting.any (fun q => q.rt && decide (q.bank = bank)) = true ∧ 8 ≤ look p.postponed bank 0 ∧ p.forced.contains bank = false) (fun _ s' => ((s'.stack stack).pc pc).forced = p.forced ++ [bank] ∧ ((s'.stack stack).pc pc).postponed = p.postponed ∧ ((s'.stack stack).pc pc).waiting = p.waiting ∧ (s'.stack stack).maxPost = x.maxPost)) ∧
  (∀ (stack : Nat) (pc : Nat) (bank : Nat), Completes (.dramRefreshDue · stack pc bank) (fun s => 10 ≤ stack ∨ 64 ≤ pc ∨ 32 ≤ bank ∨ s.stackCode stack ≠ 1 ∨ ((s.stack stack).pc pc).waiting.any (fun q => q.rt && decide (q.bank = bank)) = false) (fun s s' => s' = s)) ∧
  (∀ (stack : Nat) (pc : Nat) (bank : Nat) (x : Stack) (p : Pseudo), Completes (.dramRefreshDue · stack pc bank) (fun s => stack < 10 ∧ pc < 64 ∧ bank < 32 ∧ s.stackCode stack = 1 ∧ x = s.stack stack ∧ p = x.pc pc ∧ p.waiting.any (fun q => q.rt && decide (q.bank = bank)) = true ∧ 8 ≤ look p.postponed bank 0 ∧ p.forced.contains bank = true) (fun s s' => s' = s)) ∧
  (∀ (stack : Nat) (pc : Nat) (bank : Nat) (p : Pseudo), Completes (.dramRefreshDue · stack pc bank) (fun s => (s.stack stack).pc pc = p ∧ p.waiting = []) (fun s s' => s' = s)) ∧
  (∀ (stack : Nat), Completes (.dramDisturbWindow · stack) (fun _ => stack < 10) (fun s s' => s' = s.setStack stack { s.stack stack with rows := [] })) ∧
  (∀ (stack : Nat), Completes (.dramDisturbWindow · stack) (fun _ => 10 ≤ stack) (fun s s' => s' = s)) ∧
  (∀ (stack : Nat) (pc : Nat) (bank : Nat) (x : Stack), Completes (.dramThrottleExpire · stack pc bank) (fun s => x = s.stack stack) (fun s s' => s' = s.setStack stack { x with throttled := x.throttled.filter fun r => !(r.1 / 4 = pc * 32 + bank && r.2.1 ≤ s.now) })) ∧
  (∀ (stack : Nat) (pc : Nat) (bank : Nat), Completes (.dramThrottleExpire · stack pc bank) (fun s => (∀ r ∈ (s.stack stack).throttled, r.1 / 4 = pc * 32 + bank) ∧ (∀ r ∈ (s.stack stack).throttled, r.2.1 ≤ s.now)) (fun s s' => s' = s.setStack stack { s.stack stack with throttled := [] })) ∧
  (∀ (stack : Nat) (pc : Nat) (bank : Nat) (r : Nat × Nat × Nat), Completes (.dramThrottleExpire · stack pc bank) (fun s => r ∈ (s.stack stack).throttled ∧ (r.1 / 4 ≠ pc * 32 + bank ∨ s.now < r.2.1)) (fun _ s' => r ∈ (s'.stack stack).throttled)) ∧
  (∀ (stack : Nat) (x : Stack), Completes (.dramSelfRefreshEnter · stack) (fun s => stack < 10 ∧ s.stackCode stack = 1 ∧ x = s.stack stack ∧ x.idleUs ≠ 0 ∧ x.wanted = false ∧ x.lastRequest + us x.idleUs ≤ s.now) (fun s s' => (s'.stack stack).state = .selfRefresh ∧ (s'.stack stack).idleUs = x.idleUs ∧ (∀ k, ((s'.stack stack).pc k).postponed = [] ∧ ((s'.stack stack).pc k).forced = []) ∧ (∀ n, n ≠ stack → s'.stack n = s.stack n))) ∧
  (∀ (stack : Nat), Completes (.dramSelfRefreshEnter · stack) (fun s => 10 ≤ stack ∨ s.stackCode stack ≠ 1 ∨ (s.stack stack).idleUs = 0 ∨ (s.stack stack).wanted = true ∨ s.now < (s.stack stack).lastRequest + us (s.stack stack).idleUs) (fun s s' => s' = s)) ∧
  (∀ (stack : Nat), Completes (.dramSelfRefreshExit · stack) (fun s => s.stackCode stack ≠ 2) (fun s s' => s' = s)) ∧
  (∀ (stack : Nat), Completes (.dramSelfRefreshEnter · stack) (fun s => (s.stack stack).idleUs = 0) (fun s s' => s' = s)) ∧
  (∀ (stack : Nat), Completes (.dramSelfRefreshExit · stack) (fun s => s.stackCode stack = 2 ∧ (s.stack stack).wanted = true) (fun s s' => s' = s.setStack stack { s.stack stack with state := .active })) ∧
  (∀ (stack : Nat), Completes (.dramSelfRefreshExit · stack) (fun s => (s.stack stack).wanted = false) (fun s s' => s' = s)) ∧
  (∀ (stack : Nat) (x : Stack), Completes (.dramSpillInterval · stack) (fun s => 4 ≤ stack ∧ stack < 10 ∧ s.isOut 9 stack = false ∧ x = s.stack stack ∧ x.mode = 0 ∧ x.state = .active ∧ x.economy = false ∧ 999 ≤ x.low ∧ x.spill < 102400000) (fun _ s' => (s'.stack stack).lastSpill = x.spill ∧ (s'.stack stack).spill = 0 ∧ (s'.stack stack).low = x.low + 1 ∧ (s'.stack stack).due = some true)) ∧
  (∀ (stack : Nat) (x : Stack), Completes (.dramSpillInterval · stack) (fun s => 4 ≤ stack ∧ stack < 10 ∧ s.isOut 9 stack = false ∧ x = s.stack stack ∧ x.mode = 0 ∧ x.state = .active ∧ x.economy = true ∧ 409600000 ≤ x.spill) (fun _ s' => (s'.stack stack).lastSpill = x.spill ∧ (s'.stack stack).spill = 0 ∧ (s'.stack stack).low = 0 ∧ (s'.stack stack).due = some false)) ∧
  (∀ (stack : Nat) (x : Stack), Completes (.dramSpillInterval · stack) (fun s => 4 ≤ stack ∧ stack < 10 ∧ s.isOut 9 stack = false ∧ x = s.stack stack ∧ x.state = .active ∧ (x.mode ≠ 0 ∨ (x.economy = true ∧ x.spill < 409600000) ∨ (x.economy = false ∧ (102400000 ≤ x.spill ∨ x.low < 999)))) (fun _ s' => (s'.stack stack).lastSpill = x.spill ∧ (s'.stack stack).spill = 0 ∧ (s'.stack stack).low = (if x.mode = 0 ∧ x.spill < 102400000 then x.low + 1 else 0) ∧ (s'.stack stack).due = x.due)) ∧
  (∀ (stack : Nat) (x : Stack) (n : Nat) (e : Bool), Completes (.dramSpillInterval · stack) (fun s => 4 ≤ stack ∧ stack < 10 ∧ s.isOut 9 stack = false ∧ x = s.stack stack ∧ n = (if x.mode = 0 ∧ x.spill < 102400000 then x.low + 1 else 0) ∧ e = (if x.state = .changing then x.goal else x.economy)) (fun s s' => s' = s.setStack stack { x with lastSpill := x.spill, spill := 0, low := n, due := if x.mode ≠ 0 then x.due else if e = true then (if 409600000 ≤ x.spill then some false else x.due) else if 1000 ≤ n then some true else x.due })) ∧
  (∀ (stack : Nat), Completes (.dramSpillInterval · stack) (fun s => stack < 4 ∨ 10 ≤ stack ∨ s.isOut 9 stack = true) (fun s s' => s' = s)) ∧
  (∀ (stack : Nat) (x : Stack) (e : Bool), Completes (.dramOppointChange · stack) (fun s => 4 ≤ stack ∧ stack < 10 ∧ (s.stackCode stack = 1 ∨ s.stackCode stack = 2) ∧ x = s.stack stack ∧ x.due = some e ∧ e ≠ x.economy) (fun s s' => (s'.stack stack).state = .changing ∧ (s'.stack stack).goal = e ∧ (s'.stack stack).due = none ∧ (s'.stack stack).economy = x.economy ∧ (s'.stack stack).changeStart = s.now ∧ (∀ k, ((s'.stack stack).pc k).postponed = [] ∧ ((s'.stack stack).pc k).forced = []))) ∧
  (∀ (stack : Nat) (x : Stack) (e : Bool), Completes (.dramOppointChange · stack) (fun s => 4 ≤ stack ∧ stack < 10 ∧ (s.stackCode stack = 1 ∨ s.stackCode stack = 2) ∧ x = s.stack stack ∧ x.due = some e ∧ e = x.economy) (fun s s' => s' = s.setStack stack { x with due := none })) ∧
  (∀ (stack : Nat), Completes (.dramOppointChange · stack) (fun s => stack < 4 ∨ 10 ≤ stack ∨ (s.stackCode stack ≠ 1 ∧ s.stackCode stack ≠ 2)) (fun s s' => s' = s)) ∧
  (∀ (stack : Nat), Completes (.dramOppoint · stack) (fun _ => 10 ≤ stack) (fun s s' => s' = s)) ∧
  (∀ (stack : Nat) (err : Option EccError), Completes (.dramPatrolScrub · stack err) (fun s => 10 ≤ stack ∨ s.isOut 9 stack = true) (fun s s' => s' = s)) ∧
  (∀ (stack : Nat), Completes (.dramOppointChange · stack) (fun s => (s.stack stack).due = none) (fun s s' => s' = s)) ∧
  (∀ (stack : Nat) (x : Stack), Completes (.dramOppoint · stack) (fun s => stack < 10 ∧ s.stackCode stack = 3 ∧ x = s.stack stack) (fun s s' => (s'.stack stack).state = .active ∧ (s'.stack stack).economy = x.goal ∧ (s'.stack stack).low = 0 ∧ (s'.stack stack).due = x.due ∧ (∀ n, n ≠ stack → s'.stack n = s.stack n))) ∧
  (∀ (stack : Nat), Completes (.dramOppoint · stack) (fun s => s.stackCode stack ≠ 3) (fun s s' => s' = s)) ∧
  (∀ (stack : Nat) (err : Option EccError) (x : Stack) (e : EccError), Completes (.dramPatrolScrub · stack err) (fun s => stack < 10 ∧ s.isOut 9 stack = false ∧ x = s.stack stack ∧ err = some e ∧ e.uncorrectable = true) (fun _ s' => (s'.stack stack).uncorrected = min (x.uncorrected + 1) 0xFFFFFFFF ∧ (s'.stack stack).rcUncorr = min (x.rcUncorr + 1) 0xFFFF ∧ (s'.stack stack).corrected = x.corrected ∧ (s'.stack stack).rcCorr = x.rcCorr ∧ (s'.stack stack).logValid = true ∧ (s'.stack stack).logUncorr = true ∧ (s'.stack stack).logAt = (e.channel, e.pc, e.bank, e.row))) ∧
  (∀ (stack : Nat) (err : Option EccError) (x : Stack) (e : EccError), Completes (.dramPatrolScrub · stack err) (fun s => stack < 10 ∧ s.isOut 9 stack = false ∧ x = s.stack stack ∧ err = some e ∧ e.uncorrectable = false) (fun _ s' => (s'.stack stack).corrected = min (x.corrected + 1) 0xFFFFFFFF ∧ (s'.stack stack).rcCorr = min (x.rcCorr + 1) 0xFFFF ∧ (s'.stack stack).uncorrected = x.uncorrected ∧ (s'.stack stack).rcUncorr = x.rcUncorr ∧ (s'.stack stack).logUncorr = false)) ∧
  (∀ (stack : Nat) (err : Option EccError), Completes (.dramPatrolScrub · stack err) (fun _ => err = none) (fun s s' => s' = s)) ∧
  (∀ (stack : Nat) (cause : Nat), Completes (.dramStackFail · stack cause) (fun s => stack < 10 ∧ (cause = 2 ∨ cause = 3 ∨ (cause = 0 ∧ 64 < ((s.stack stack).uncorrAt.filter fun u => decide (s.now < u + ms 1000)).length) ∨ (cause = 1 ∧ ∃ c, c < 32 ∧ 1024 < ((s.stack stack).corrAt.filter fun r => decide (r.1 = c) && decide (s.now < r.2 + ms 1000)).length)) ∧ s.isOut 9 stack = false) (fun s s' => s'.isOut 9 stack = true ∧ (s'.stack stack).pcs = [] ∧ (s'.stack stack).due = none ∧ (∀ n, n ≠ stack → s'.isOut 9 n = s.isOut 9 n))) ∧
  (∀ (stack : Nat) (cause : Nat), Completes (.dramStackFail · stack cause) (fun s => 10 ≤ stack ∨ (s.isOut 9 stack = true ∧ ∀ p, p < 1024 → (s.farPage p).stack = stack → (s.farPage p).lost = true)) (fun s s' => s' = s)) ∧
  (∀ (stack : Nat) (cause : Nat) (p : Nat), Completes (.dramStackFail · stack cause) (fun s => stack < 10 ∧ cause = 2 ∧ s.isOut 9 stack = true ∧ p < 1024 ∧ (s.farPage p).stack = stack ∧ (s.farPage p).lost = false) (fun s s' => s'.units.lastSeq = s.units.lastSeq + 1 ∧ s'.isOut 9 stack = true ∧ s'.stack stack = s.stack stack ∧ s'.buf = s.buf ∧ s'.pkts = s.pkts)) ∧
  (∀ (stack : Nat) (cause : Nat), Completes (.dramStackFail · stack cause) (fun s => 3 < cause ∨ (cause = 0 ∧ (s.stack stack).uncorrAt = []) ∨ (cause = 1 ∧ (s.stack stack).corrAt = [])) (fun s s' => s' = s)) ∧
  (∀ (r : RegRead) (n : Nat) (x : Stack) (v : Nat), Completes (.dramErrCountRead · r) (fun s => n < 10 ∧ r.addr = 0x02800008 + n * 0x40000 ∧ r.size = 4 ∧ s.answers r.host = true ∧ s.holds r.host 0 = true ∧ x = s.stack n ∧ v = 65536 * x.uncorrMark.seen s.kclk x.rcUncorr + x.corrMark.seen s.kclk x.rcCorr) (fun s s' => s' = (s.emit (.read r.host (v % 2 ^ 32))).setStack n { x with rcUncorr := x.rcUncorr - x.uncorrMark.seen s.kclk x.rcUncorr, rcCorr := x.rcCorr - x.corrMark.seen s.kclk x.rcCorr, uncorrMark := x.uncorrMark.cleared s.kclk, corrMark := x.corrMark.cleared s.kclk })) ∧
  (∀ (r : RegRead) (n : Nat) (x : Stack) (v : Nat), Completes (.dramErrCountRead · r) (fun s => n < 10 ∧ r.addr / 4 = 0x00A00002 + n * 0x10000 ∧ s.answers r.host = true ∧ s.holds r.host 0 = true ∧ x = s.stack n ∧ v = 65536 * x.uncorrMark.seen s.kclk x.rcUncorr + x.corrMark.seen s.kclk x.rcCorr) (fun s s' => s' = (if readAligned r = true then (s.emit (.read r.host (readPart r v))).setStack n { x with rcUncorr := x.rcUncorr - x.uncorrMark.seen s.kclk x.rcUncorr, rcCorr := x.rcCorr - x.corrMark.seen s.kclk x.rcCorr, uncorrMark := x.uncorrMark.cleared s.kclk, corrMark := x.corrMark.cleared s.kclk } else s.emit (.read r.host (readPart r v))))) ∧
  (∀ (r : RegRead) (n : Nat), Completes (.dramErrCountRead · r) (fun s => n < 10 ∧ r.addr = 0x02800008 + n * 0x40000 ∧ r.size = 4 ∧ s.answers r.host = true ∧ s.holds r.host 0 = false) (fun s s' => s' = s.emit (.read r.host 0))) ∧
  (∀ (r : RegRead), Completes (.dramErrCountRead · r) (fun s => s.answers r.host = false ∨ r.addr < 0x02800000 ∨ 0x02A80000 ≤ r.addr ∨ readHits r (0x02800008 + (r.addr - 0x02800000) / 0x40000 * 0x40000) = false) (fun s s' => s' = s))

/-- DRAM commands (R410, R417, R420, R422, R425). -/
def Obligations.DramCommandsComplete : Prop :=
  (∀ (c : Cmd) (x : Stack), Completes (.dramQuery · c) (fun s => ready s c 0x0F00 .d0 = true ∧ c.needReply = none ∧ c.u8 16 < 10 ∧ c.zeros 17 47 = none ∧ x = s.stack (c.u8 16)) (fun s s' => s' = ((s.setStack (c.u8 16) { x with maxPost := 0 }).drawn).answer c .ok 0 64 (stackRecord s (c.u8 16) (Config.freeValue s.free)) ∧ (s'.stack (c.u8 16)).maxPost = 0)) ∧
  (∀ (c : Cmd), Completes (.dramMap · c) (fun s => ready s c 0x0F01 .d0 = true ∧ c.u8 16 < 10 ∧ c.zeros 17 3 = none ∧ firstErr (maskErrs c) = none ∧ c.zeros 53 11 = none) (fun s s' => (s'.stack (c.u8 16)).pending = some ((List.range 11).map fun j => (j, c.field (20 + 3 * j) 3 + 1)) ∧ (s'.stack (c.u8 16)).masks = (s.stack (c.u8 16)).masks ∧ (∀ n, n ≠ c.u8 16 → s'.stack n = s.stack n))) ∧
  (∀ (c : Cmd) (n : Nat), Completes (.dramMap · c) (fun s => ready s c 0x0F01 .d0 = true ∧ c.u8 16 = 0xFF ∧ c.zeros 17 3 = none ∧ firstErr (maskErrs c) = none ∧ c.zeros 53 11 = none ∧ n < 10) (fun s s' => (s'.stack n).pending = some ((List.range 11).map fun j => (j, c.field (20 + 3 * j) 3 + 1)) ∧ (s'.stack n).masks = (s.stack n).masks)) ∧
  (∀ (c : Cmd) (x : Stack), Completes (.dramPower · c) (fun s => ready s c 0x0F02 .d0 = true ∧ c.zeros 18 2 = none ∧ c.zeros 24 40 = none ∧ c.u8 16 < 10 ∧ c.u8 17 ≤ 2 ∧ (c.u8 17 = 0 ∨ 4 ≤ c.u8 16) ∧ (c.u32 20 = 0 ∨ (2 ≤ c.u32 20 ∧ c.u32 20 ≤ 1000000)) ∧ x = s.stack (c.u8 16)) (fun s s' => s' = (s.setStack (c.u8 16) { x with mode := c.u8 17, idleUs := c.u32 20, due := if c.u8 17 = 1 then some false else if c.u8 17 = 2 then some true else x.due }).answer c .ok 0 0 [])) ∧
  (∀ (c : Cmd) (n : Nat) (x : Stack), Completes (.dramPower · c) (fun s => ready s c 0x0F02 .d0 = true ∧ c.zeros 18 2 = none ∧ c.zeros 24 40 = none ∧ c.u8 16 = 0xFF ∧ c.u8 17 ≤ 2 ∧ (c.u32 20 = 0 ∨ (2 ≤ c.u32 20 ∧ c.u32 20 ≤ 1000000)) ∧ n < 10 ∧ x = s.stack n) (fun _ s' => s'.stack n = (if c.u8 17 = 0 ∨ 4 ≤ n then { x with mode := c.u8 17, idleUs := c.u32 20, due := if c.u8 17 = 1 then some false else if c.u8 17 = 2 then some true else x.due } else x))) ∧
  (∀ (c : Cmd), Completes (.dramPower · c) (fun s => ready s c 0x0F02 .d0 = true ∧ c.zeros 18 2 = none ∧ c.zeros 24 40 = none ∧ c.u8 16 < 4 ∧ c.u8 17 = 1) (fun s s' => s' = s.answer c .invalidParam 0x01000011 0 [])) ∧
  (∀ (c : Cmd) (counts : List Nat) (n : Nat), Completes (.dramTrain · c counts) (fun s => ready s c 0x0F03 .d0 = true ∧ n = c.u8 16 ∧ n < 10 ∧ c.zeros 19 1 = none ∧ c.zeros 24 40 = none ∧ (s.stack n).work = none ∧ c.u8 17 = 0 ∧ s.isOut 9 n = true) (fun _ s' => (s'.stack n).work = some (c, false) ∧ (s'.stack n).trained = false ∧ s'.isOut 9 n = true ∧ (s'.startedAs c).map (fun x => x.working) = some true)) ∧
  (∀ (c : Cmd) (counts : List Nat) (n : Nat), Completes (.dramTrain · c counts) (fun s => ready s c 0x0F03 .d0 = true ∧ n = c.u8 16 ∧ n < 10 ∧ c.zeros 19 1 = none ∧ c.zeros 24 40 = none ∧ (s.stack n).work = none ∧ c.u8 17 = 1 ∧ s.healthy 9 n = true ∧ s.lastFarStack n = false ∧ (∀ p, p < 1024 → (s.farPage p).stack ≠ n ∨ (s.farPage p).lost = true)) (fun _ s' => s'.isOut 9 n = true ∧ (s'.stack n).work = none)) ∧
  (∀ (c : Cmd) (counts : List Nat) (n p : Nat), Completes (.dramTrain · c counts) (fun s => ready s c 0x0F03 .d0 = true ∧ n = c.u8 16 ∧ n < 10 ∧ c.zeros 19 1 = none ∧ c.zeros 24 40 = none ∧ (s.stack n).work = none ∧ c.u8 17 = 1 ∧ s.healthy 9 n = true ∧ s.lastFarStack n = false ∧ p < 1024 ∧ (s.farPage p).stack = n ∧ (s.farPage p).lost = false) (fun s s' => (s'.stack n).work = some (c, true) ∧ s'.isOut 9 n = false ∧ (s'.stack n).state = (s.stack n).state)) ∧
  (∀ (c : Cmd) (counts : List Nat) (n : Nat), Completes (.dramTrain · c counts) (fun s => ready s c 0x0F03 .d0 = true ∧ n = c.u8 16 ∧ n < 10 ∧ c.zeros 19 1 = none ∧ c.zeros 24 40 = none ∧ (s.stack n).work = none ∧ c.u8 17 = 2 ∧ c.needReply = none ∧ c.u8 18 ≤ 5 ∧ s.isOut 9 n = true) (fun s s' => s' = s.answer c .ok 0 128 (patternCounts (c.u32 20) counts))) ∧
  (∀ (c : Cmd) (counts : List Nat) (n : Nat), Completes (.dramTrain · c counts) (fun s => ready s c 0x0F03 .d0 = true ∧ n = c.u8 16 ∧ n < 10 ∧ c.zeros 19 1 = none ∧ c.zeros 24 40 = none ∧ (s.stack n).work ≠ none ∧ c.u8 17 ≤ 2 ∧ (c.u8 17 = 2 → c.needReply = none ∧ c.u8 18 ≤ 5)) (fun s s' => s' = s.answer c .busy 0 0 [])) ∧
  (∀ (c : Cmd) (counts : List Nat) (n : Nat), Completes (.dramTrain · c counts) (fun s => ready s c 0x0F03 .d0 = true ∧ n = c.u8 16 ∧ n < 10 ∧ c.zeros 19 1 = none ∧ c.zeros 24 40 = none ∧ (s.stack n).work = none ∧ c.u8 17 = 1 ∧ s.healthy 9 n = true ∧ s.lastFarStack n = true) (fun s s' => s' = s.answer c .refused 1 0 [])) ∧
  (∀ (c : Cmd), Completes (.dramDisturb · c) (fun s => ready s c 0x0F04 .d0 = true ∧ c.u8 16 < 10 ∧ c.zeros 17 3 = none ∧ 1024 ≤ c.u16 20 ∧ c.zeros 22 2 = none ∧ 10 ≤ c.u32 24 ∧ c.u32 24 ≤ 100000 ∧ c.zeros 28 36 = none) (fun s s' => (s'.stack (c.u8 16)).actLimit = c.u16 20 ∧ (s'.stack (c.u8 16)).throttleUs = c.u32 24 ∧ (s'.stack (c.u8 16)).rows = (s.stack (c.u8 16)).rows ∧ (∀ n, n ≠ c.u8 16 → s'.stack n = s.stack n))) ∧
  (∀ (c : Cmd) (n : Nat), Completes (.dramDisturb · c) (fun s => ready s c 0x0F04 .d0 = true ∧ c.u8 16 = 0xFF ∧ c.zeros 17 3 = none ∧ 1024 ≤ c.u16 20 ∧ c.zeros 22 2 = none ∧ 10 ≤ c.u32 24 ∧ c.u32 24 ≤ 100000 ∧ c.zeros 28 36 = none ∧ n < 10) (fun s s' => (s'.stack n).actLimit = c.u16 20 ∧ (s'.stack n).throttleUs = c.u32 24 ∧ (s'.stack n).rows = (s.stack n).rows))

/-- Lantern and the fault log (R427, R433, R434, R444–R446). -/
def Obligations.LanternAndLogComplete : Prop :=
  (∀ (r : RegRead) (i : Nat), Completes (.lantCntLoRead · r) (fun s => i < 3584 ∧ r.addr = 0x02C00000 + 8 * i ∧ r.size = 4 ∧ s.answers r.host = true ∧ s.holds r.host (s.owner 5 (lantGroup i)) = true) (fun s s' => s'.host.out = s.host.out ++ [.read r.host ((s.counter i).value % 2 ^ 32)] ∧ (s'.hostPort r.host).lantHi = (s.counter i).value / 2 ^ 32 ∧ (∀ h, h ≠ r.host → s'.hostPort h = s.hostPort h) ∧ s'.lant = s.lant)) ∧
  (∀ (r : RegRead) (i : Nat), Completes (.lantCntLoRead · r) (fun s => i < 3584 ∧ r.addr / 4 = 0x00B00000 + 2 * i ∧ s.answers r.host = true ∧ s.lantReads r.host i = true) (fun s s' => s' = (if readAligned r = true then (s.emit (.read r.host (readPart r ((s.counter i).value % 2 ^ 32)))).setHostPort r.host { s.hostPort r.host with lantHi := (s.counter i).value / 2 ^ 32 } else s.emit (.read r.host (readPart r ((s.counter i).value % 2 ^ 32)))))) ∧
  (∀ (r : RegRead) (i : Nat), Completes (.lantCntLoRead · r) (fun s => i < 3584 ∧ r.addr = 0x02C00000 + 8 * i ∧ r.size = 4 ∧ s.answers r.host = true ∧ s.holds r.host (s.owner 5 (lantGroup i)) = false ∧ s.dom.session = none) (fun s s' => s' = s.emit (.read r.host 0))) ∧
  (∀ (r : RegRead) (i : Nat), Completes (.lantCntLoRead · r) (fun s => i < 3584 ∧ r.addr / 4 = 0x00B00000 + 2 * i ∧ s.answers r.host = true ∧ s.lantReads r.host i = false) (fun s s' => s' = s.emit (.read r.host 0))) ∧
  (∀ (r : RegRead), Completes (.lantCntLoRead · r) (fun s => s.answers r.host = false ∨ r.addr < 0x02C00000 ∨ 0x02C07000 ≤ r.addr ∨ readHits r (0x02C00000 + 8 * ((r.addr - 0x02C00000) / 8)) = false) (fun s s' => s' = s)) ∧
  (∀ (c : Cmd), Completes (.lantRead · c) (fun s => ready s c 0x1000 .any = true ∧ c.needReply = none ∧ s.ownErr c 5 (c.u8 16) = none ∧ c.u8 17 ≤ 1 ∧ c.zeros 18 46 = none) (fun s s' => s' = (if c.u8 17 = 1 then each State.clearCounter (lantMembers (c.u8 16)) s else s).answer c .ok 0 (8 * (lantMembers (c.u8 16)).length) ((lantMembers (c.u8 16)).flatMap fun i => leBytes 8 (s.counter i).value) ∧ (∀ i, (s'.counter i).level = (s.counter i).level ∧ (s'.counter i).value = if c.u8 17 = 1 ∧ i ∈ lantMembers (c.u8 16) then 0 else (s.counter i).value))) ∧
  (∀ (c : Cmd), Completes (.lantMode · c) (fun s => ready s c 0x1001 .any = true ∧ s.ownErr c 5 (lantGroup (c.u16 16)) = none ∧ 2560 ≤ c.u16 16 ∧ c.u16 16 ≤ 3423 ∧ lantReserved (c.u16 16) = false ∧ c.u8 18 ≤ 1 ∧ c.zeros 19 45 = none) (fun s s' => s'.counter (c.u16 16) = { level := c.u8 18 = 1 } ∧ (∀ i, i ≠ c.u16 16 → s'.counter i = s.counter i))) ∧
  (∀ (c : Cmd), Completes (.lantMode · c) (fun s => ready s c 0x1001 .any = true ∧ 3583 < c.u16 16) (fun s s' => s' = s.answer c .invalidParam 0x01000010 0 [])) ∧
  (∀ (c : Cmd), Completes (.lantMode · c) (fun s => ready s c 0x1001 .any = true ∧ c.u16 16 ≤ 3583 ∧ s.ownErr c 5 (lantGroup (c.u16 16)) ≠ none) (fun s s' => s' = s.answer c .denied 0 0 [])) ∧
  (∀ (c : Cmd), Completes (.lantMode · c) (fun s => ready s c 0x1001 .any = true ∧ c.u16 16 ≤ 3583 ∧ s.ownErr c 5 (lantGroup (c.u16 16)) = none ∧ (c.u16 16 < 2560 ∨ 3423 < c.u16 16 ∨ lantReserved (c.u16 16) = true)) (fun s s' => s' = s.answer c .invalidParam 0x01000010 0 [])) ∧
  (∀ (c : Cmd) (l : List Rec), Completes (.faultLogRead · c) (fun s => ready s c 0x1100 .any = true ∧ c.needReply = none ∧ 1 ≤ c.u8 20 ∧ c.u8 20 ≤ 32 ∧ c.zeros 21 43 = none ∧ l = (s.units.log.filter fun r => c.u32 16 ≤ r.seq && (c.domain = 0 || bit r.mask c.domain)).take (c.u8 20)) (fun s s' => s' = s.answer c .ok (s.overwritten (c.u32 16)) (32 * l.length) (l.flatMap Rec.bytes) ∧ (∀ r ∈ l, r.bytes.length = 32))) ∧
  (∀ (c : Cmd), Completes (.faultAck · c) (fun s => ready s c 0x1102 .d0 = true ∧ c.host = s.dom.principal ∧ c.u32 16 ≤ s.units.lastSeq ∧ c.zeros 20 44 = none) (fun s s' => s'.units.log = s.units.log.map (fun r => if r.seq ≤ c.u32 16 then { r with acked := true } else r) ∧ s'.units.lastSeq = s.units.lastSeq ∧ s'.units.out = s.units.out)) ∧
  (∀ (c : Cmd), Completes (.faultAck · c) (fun s => ready s c 0x1102 .d0 = true ∧ c.host = s.dom.principal ∧ s.units.lastSeq < c.u32 16) (fun s s' => s' = s.answer c .invalidParam 0x01000010 0 [])) ∧
  (∀ (c : Cmd), Completes (.faultAck · c) (fun s => ready s c 0x1102 .d0 = true ∧ c.host ≠ s.dom.principal) (fun s s' => s' = s.answer c .denied 0 0 [])) ∧
  (∀ (c : Cmd), Completes (.faultConfig · c) (fun s => ready s c 0x1103 .d0 = true ∧ c.host = s.dom.principal ∧ c.u8 16 ≤ 3 ∧ c.zeros 17 47 = none) (fun s s' => s' = { s with units := { s.units with level := c.u8 16 } }.answer c .ok 0 0 [])) ∧
  (∀ (c : Cmd), Completes (.faultConfig · c) (fun s => ready s c 0x1103 .d0 = true ∧ c.host ≠ s.dom.principal) (fun s s' => s' = s.answer c .denied 0 0 []))

/-- Units (R213, R284, R307, R308, R436, R438–R441, R447). -/
def Obligations.UnitsComplete : Prop :=
  (∀ (slice : Nat) (j : Nat), Completes (.sliceFail · slice) (fun s => slice < 32 ∧ s.isOut 8 slice = false ∧ j < 32 ∧ j ≠ slice ∧ s.healthy 8 j = true) (fun s s' => s'.isOut 8 slice = true ∧ (∀ x ∈ s'.tm.selections, x.slice ≠ slice) ∧ (∀ a ∈ s.sliceNodes slice, s'.sliceOf a ≠ slice ∧ ∀ q ∈ s.queuesUnder a, (s'.queue q).packets = []) ∧ (∀ a, s.sliceOf a ≠ slice → s'.sliceOf a = s.sliceOf a))) ∧
  (∀ (slice : Nat), Completes (.sliceFail · slice) (fun s => 32 ≤ slice ∨ s.isOut 8 slice = true) (fun s s' => s' = s)) ∧
  (∀ (node : Nat) (w : UnitWork) (j : Nat), Completes (.sliceNodeMove · node) (fun s => node < 192 ∧ s.rootExists node = true ∧ s.workOf 8 (s.sliceOf node) = some w ∧ w.ret = false ∧ s.backlogged (nodeKey 0 node) = false ∧ s.leastSlice (s.sliceOf node) = some j) (fun s s' => s'.sliceOf node = j ∧ (∀ a, a ≠ node → s'.sliceOf a = s.sliceOf a))) ∧
  (∀ (node : Nat), Completes (.sliceNodeMove · node) (fun s => 192 ≤ node ∨ s.rootExists node = false ∨ (s.workOf 8 (s.sliceOf node)).any (fun w => !w.ret) = false ∨ s.backlogged (nodeKey 0 node) = true ∨ s.leastSlice (s.sliceOf node) = none) (fun s s' => s' = s)) ∧
  (∀ (node : Nat), Completes (.sliceNodeMove · node) (fun s => s.backlogged (nodeKey 0 node) = true ∨ s.workOf 8 (s.sliceOf node) = none) (fun s s' => s' = s)) ∧
  (∀ (core : Nat) (tags : List Nat) (x : Started), Completes (.basecampCoreFail · core tags) (fun s => core < 4 ∧ s.isOut 1 core = false ∧ s.countOut 1 ≠ 3 ∧ s.fw.handover = none ∧ s.host.started = [x] ∧ x.working = false ∧ tags.contains x.cmd.tag = true) (fun s s' => s' = (s.mapOut 1 core 0 0xFFFF 0).answer x.cmd .hwFault (s.units.lastSeq + 1) 0 [] ∧ s'.isOut 1 core = true)) ∧
  (∀ (core : Nat) (tags : List Nat), Completes (.basecampCoreFail · core tags) (fun s => core < 4 ∧ s.isOut 1 core = false ∧ s.countOut 1 ≠ 3 ∧ s.fw.handover = none ∧ (∀ x ∈ s.host.started, x.working = true ∨ tags.contains x.cmd.tag = false)) (fun s s' => s' = s.mapOut 1 core 0 0xFFFF 0)) ∧
  (∀ (core : Nat) (tags : List Nat), Completes (.basecampCoreFail · core tags) (fun s => core < 4 ∧ s.isOut 1 core = false ∧ s.countOut 1 ≠ 3) (fun s s' => let z := s.mapOut 1 core 0 0xFFFF 0;
      s' = each (fun (x : Started) (y : State) => if !x.working && tags.contains x.cmd.tag then y.answer x.cmd .hwFault z.units.lastSeq 0 [] else y) z.host.started z ∧ s'.isOut 1 core = true)) ∧
  (∀ (core : Nat) (tags : List Nat), Completes (.basecampCoreFail · core tags) (fun s => 4 ≤ core ∨ s.isOut 1 core = true) (fun s s' => s' = s)) ∧
  (∀ (core : Nat) (tags : List Nat), Completes (.basecampCoreFail · core tags) (fun s => core < 4 ∧ s.isOut 1 core = false ∧ s.countOut 1 = 3) (fun s s' => s' = (s.markOut 1 core).record 1 core 3 4 0 0xFFFF 0 ∧ s'.dev = s.dev ∧ s'.isOut 1 core = true)) ∧
  (∀ (bank : Nat) (tables : List Nat), Completes (.tableBankFail · bank tables) (fun s => bank < 16 ∧ s.isOut 5 bank = false) (fun s s' => s'.isOut 5 bank = true ∧ (∀ k ∈ tables, k < 1024 → (s.table k).live = true → s'.table k = { s.table k with bankMiss := true, bankLost := false }) ∧ (∀ k ∈ tables, 1024 ≤ k → k < 2048 → (s.tree (k - 1024)).live = true → s'.tree (k - 1024) = { s.tree (k - 1024) with bankMiss := true, bankLost := false }) ∧
      (∀ k, (k ∉ tables ∨ (s.table k).live = false) → s'.table k = s.table k) ∧ (∀ p, 2048 + p ∈ tables → look s.act.lists p [] ≠ [] → s'.act.missing.contains p = true ∧ s'.act.lost.contains p = false))) ∧
  (∀ (bank : Nat) (tables : List Nat), Completes (.tableBankFail · bank tables) (fun s => 16 ≤ bank ∨ (s.isOut 5 bank = true ∧ s.missingParts true = [])) (fun s s' => s' = s)) ∧
  (∀ (bank : Nat) (tables : List Nat), Completes (.tableBankFail · bank tables) (fun s => bank < 16 ∧ s.isOut 5 bank = true ∧ s.missingParts true ≠ []) (fun s s' => s'.units.lastSeq = s.units.lastSeq + 1 ∧ s'.isOut 5 bank = true ∧ s'.tables = s.tables ∧ s'.parse = s.parse ∧ s'.act = s.act)) ∧
  (∀ (bank : Nat) (missing : List Nat) (k : Nat), Completes (.tableBankRebuilt · bank missing) (fun s => s.isOut 5 bank = true ∧ (s.table k).live = false) (fun s s' => s'.table k = s.table k)) ∧
  (∀ (bank : Nat) (missing : List Nat) (k : Nat), Completes (.tableBankRebuilt · bank missing) (fun s => s.isOut 5 bank = true ∧ k < 1024 ∧ (s.tree k).bankMiss = true ∧ (s.tree k).bankLost = false) (fun s s' => s'.tree k = if missing.contains (1024 + k) then { s.tree k with bankLost := true } else { s.tree k with bankMiss := false })) ∧
  (∀ (bank : Nat) (missing : List Nat) (k : Nat), Completes (.tableBankRebuilt · bank missing) (fun s => s.isOut 5 bank = true ∧ k < 1024 ∧ (s.table k).live = true ∧ (s.table k).bankMiss = true ∧ (s.table k).bankLost = false) (fun s s' => s'.table k = if missing.contains k then { s.table k with bankLost := true } else { s.table k with bankMiss := false })) ∧
  (∀ (bank : Nat) (missing : List Nat), Completes (.tableBankRebuilt · bank missing) (fun s => s.isOut 5 bank = false) (fun s s' => s' = s)) ∧
  (∀ (block : Nat), Completes (.assocBlockFail · block) (fun s => block < 32 ∧ s.isOut 6 block = false ∧ s.arrayOf block = none) (fun s s' => s' = s.mapOut 6 block 0 (2 ^ s.owner 4 block) 0 ∧ s'.isOut 6 block = true)) ∧
  (∀ (block : Nat) (k : Nat), Completes (.assocBlockFail · block) (fun s => block < 32 ∧ s.isOut 6 block = false ∧ s.arrayOf block = some k ∧ (s.array k).work = none) (fun s s' => s' = (s.mapOut 6 block 0 (2 ^ s.owner 4 block) 0).settleBlock block ∧ s'.arrayDown k = true)) ∧
  (∀ (block : Nat) (k : Nat), Completes (.assocBlockFail · block) (fun s => block < 32 ∧ s.isOut 6 block = false ∧ s.arrayOf block = some k) (fun _ s' => s'.isOut 6 block = true ∧ s'.arrayDown k = true ∧ (s'.array k).work = none)) ∧
  (∀ (block : Nat), Completes (.assocBlockFail · block) (fun s => 32 ≤ block ∨ s.isOut 6 block = true) (fun s s' => s' = s)) ∧
  (∀ (bank : Nat), Completes (.nearBankFail · bank) (fun s => bank < 8 ∧ s.isOut 7 bank = false ∧ s.inWork 7 bank = false) (fun s s' => s'.isOut 7 bank = true ∧ (∀ a, (s.cell a).used = true → inBank bank a = true → (s'.cell a).lost = true) ∧ (∀ a, inBank bank a = false → s'.cell a = s.cell a))) ∧
  (∀ (bank : Nat), Completes (.nearBankFail · bank) (fun s => bank < 8 ∧ s.isOut 7 bank = false) (fun s s' => s'.isOut 7 bank = true ∧ s'.workOf 7 bank = none ∧ (∀ a, (s.cell a).used = true → inBank bank a = true → (s'.cell a).lost = true) ∧ (∀ a, inBank bank a = false → s'.cell a = s.cell a))) ∧
  (∀ (bank : Nat), Completes (.nearBankFail · bank) (fun s => 8 ≤ bank ∨ s.isOut 7 bank = true) (fun s s' => s' = s)) ∧
  (∀ (bank : Nat) (w : UnitWork), Completes (.nearBankDrained · bank) (fun s => s.workOf 7 bank = some w ∧ s.inWork 7 bank = true ∧ s.bankFree bank = true) (fun s s' => s' = (s.mapOut 7 bank 0 0xFFFF 0 true).endWork 7 bank .ok 0 ∧ s'.isOut 7 bank = true ∧ s'.workOf 7 bank = none)) ∧
  (∀ (bank : Nat), Completes (.nearBankDrained · bank) (fun s => s.inWork 7 bank = false ∨ s.bankFree bank = false) (fun s s' => s' = s)) ∧
  (∀ (c : Cmd) (selfTest : List Nat) (k n : Nat), Completes (.unitMap · c selfTest) (fun s => ready s c 0x1101 .d0 = true ∧ c.host = s.dom.principal ∧ k = c.u8 16 ∧ n = c.u16 18 ∧ n < unitCount k ∧ c.zeros 20 44 = none ∧ s.unitBusy k n = false ∧ c.u8 17 = 0 ∧ s.healthy k n = true ∧ (s.markOut k n).serviceable = true ∧ (k = 1 ∨ (k = 7 ∧ s.bankFree n = true))) (fun s s' => s' = (s.mapOut k n 0 0xFFFF 0 true).answer c .ok 0 0 [] ∧ s'.isOut k n = true)) ∧
  (∀ (c : Cmd) (selfTest : List Nat) (k n : Nat), Completes (.unitMap · c selfTest) (fun s => ready s c 0x1101 .d0 = true ∧ c.host = s.dom.principal ∧ k = c.u8 16 ∧ n = c.u16 18 ∧ n < unitCount k ∧ c.zeros 20 44 = none ∧ s.unitBusy k n = false ∧ c.u8 17 = 0 ∧ s.healthy k n = true ∧ (s.markOut k n).serviceable = true ∧ k = 4) (fun s s' => s'.workOf k n = some { cmd := c, ret := false, since := s.now } ∧ (s'.cluster n).draining = true ∧ s'.isOut k n = false ∧ (s'.startedAs c).map (fun x => x.working) = some true)) ∧
  (∀ (c : Cmd) (selfTest : List Nat) (k n : Nat), Completes (.unitMap · c selfTest) (fun s => ready s c 0x1101 .d0 = true ∧ c.host = s.dom.principal ∧ k = c.u8 16 ∧ n = c.u16 18 ∧ n < unitCount k ∧ c.zeros 20 44 = none ∧ s.unitBusy k n = false ∧ c.u8 17 = 0 ∧ s.healthy k n = true ∧ (s.markOut k n).serviceable = true ∧ (k = 7 ∧ s.bankFree n = false ∨ k = 8 ∧ s.sliceNodes n ≠ [])) (fun s s' => s'.workOf k n = some { cmd := c, ret := false, since := s.now } ∧ s'.isOut k n = false)) ∧
  (∀ (c : Cmd) (selfTest : List Nat) (k n : Nat), Completes (.unitMap · c selfTest) (fun s => ready s c 0x1101 .d0 = true ∧ c.host = s.dom.principal ∧ k = c.u8 16 ∧ n = c.u16 18 ∧ n < unitCount k ∧ c.zeros 20 44 = none ∧ s.unitBusy k n = false ∧ 3 ≤ k ∧ k ≤ 13 ∧ k ≠ 11 ∧ c.u8 17 = 0 ∧ s.healthy k n = true ∧ (s.markOut k n).serviceable = false) (fun s s' => s' = s.answer c .refused 1 0 [])) ∧
  (∀ (c : Cmd) (selfTest : List Nat) (k n : Nat), Completes (.unitMap · c selfTest) (fun s => ready s c 0x1101 .d0 = true ∧ c.host = s.dom.principal ∧ k = c.u8 16 ∧ n = c.u16 18 ∧ (k = 1 ∨ (3 ≤ k ∧ k ≤ 13 ∧ k ≠ 11)) ∧ c.u8 17 ≤ 1 ∧ n < unitCount k ∧ c.zeros 20 44 = none ∧ s.unitBusy k n = true) (fun s s' => s' = s.answer c .busy 0 0 [])) ∧
  (∀ (c : Cmd) (selfTest : List Nat), Completes (.unitMap · c selfTest) (fun s => ready s c 0x1101 .d0 = true ∧ c.host ≠ s.dom.principal) (fun s s' => s' = s.answer c .denied 0 0 [])) ∧
  (∀ (c : Cmd) (selfTest : List Nat) (k n : Nat), Completes (.unitMap · c selfTest) (fun s => ready s c 0x1101 .d0 = true ∧ c.host = s.dom.principal ∧ k = c.u8 16 ∧ n = c.u16 18 ∧ n < unitCount k ∧ c.zeros 20 44 = none ∧ s.unitBusy k n = false ∧ c.u8 17 = 1 ∧ s.isOut k n = true ∧ (k = 1 ∨ k = 7 ∨ k = 4) ∧ selfTest = []) (fun s s' => s'.isOut k n = false ∧ s'.units.lastSeq = s.units.lastSeq + 1 ∧ (s.units.out = [(k * 65536 + n, true)] → s.dev.mode = .degraded → s'.dev.mode = .service))) ∧
  (∀ (c : Cmd) (selfTest : List Nat) (k n : Nat), Completes (.unitMap · c selfTest) (fun s => ready s c 0x1101 .d0 = true ∧ c.host = s.dom.principal ∧ k = c.u8 16 ∧ n = c.u16 18 ∧ n < unitCount k ∧ c.zeros 20 44 = none ∧ s.unitBusy k n = false ∧ c.u8 17 = 1 ∧ s.isOut k n = true ∧ (k = 1 ∨ (3 ≤ k ∧ k ≤ 9) ∨ k = 12 ∨ k = 13) ∧ selfTest ≠ []) (fun s s' => ∃ z : State, s' = z.answer c .hwFault (s.units.lastSeq + 1) 0 [] ∧ z.units.lastSeq = s.units.lastSeq + 1 ∧ z.units.out = s.units.out)) ∧
  (∀ (cluster : Nat) (w : UnitWork), Completes (.clusterDrained · cluster) (fun s => s.workOf 4 cluster = some w ∧ w.ret = false ∧ s.isOut 4 cluster = false ∧ s.clusterIdle cluster = true ∧ s.fw.handover = none) (fun _ s' => s'.isOut 4 cluster = true ∧ s'.workOf 4 cluster = none)) ∧
  (∀ (c : Cmd) (selfTest : List Nat) (k n : Nat), Completes (.unitMap · c selfTest) (fun s => ready s c 0x1101 .d0 = true ∧ c.host = s.dom.principal ∧ k = c.u8 16 ∧ n = c.u16 18 ∧ (k = 1 ∨ (3 ≤ k ∧ k ≤ 13)) ∧ n < unitCount k ∧ c.zeros 20 44 = none ∧ (k = 11 → s.dev.topology = 1) ∧ s.unitBusy k n = false ∧ c.u8 17 = 0 ∧ s.healthy k n = true ∧ (s.markOut k n).serviceable = true ∧ (k = 9 → s.lastFarStack n = false)) (fun s s' => ((s.planOut c k n).2 = false → s' = (s.planOut c k n).1.answer c .ok 0 0 []) ∧ ((s.planOut c k n).2 = true → s'.isOut k n = (s.planOut c k n).1.isOut k n ∧ s'.workOf k n = (s.planOut c k n).1.workOf k n))) ∧
  (∀ (c : Cmd) (selfTest : List Nat) (k n : Nat), Completes (.unitMap · c selfTest) (fun s => ready s c 0x1101 .d0 = true ∧ c.host = s.dom.principal ∧ k = c.u8 16 ∧ n = c.u16 18 ∧ (k = 1 ∨ (3 ≤ k ∧ k ≤ 13)) ∧ n < unitCount k ∧ c.zeros 20 44 = none ∧ (k = 11 → s.dev.topology = 1) ∧ s.unitBusy k n = false ∧ c.u8 17 = 1 ∧ s.isOut k n = true ∧ ¬ (k = 10 ∧ (s.lane n).quadOut = true) ∧ selfTest = []) (fun s s' => ((s.planBack c k n).2 = false → s' = (s.planBack c k n).1.answer c .ok 0 0 []) ∧ ((s.planBack c k n).2 = true → s'.isOut k n = (s.planBack c k n).1.isOut k n))) ∧
  (∀ (c : Cmd) (selfTest : List Nat) (k n : Nat), Completes (.unitMap · c selfTest) (fun s => ready s c 0x1101 .d0 = true ∧ c.host = s.dom.principal ∧ k = c.u8 16 ∧ n = c.u16 18 ∧ (k = 1 ∨ (3 ≤ k ∧ k ≤ 13)) ∧ n < unitCount k ∧ c.zeros 20 44 = none ∧ (k = 11 → s.dev.topology = 1) ∧ s.unitBusy k n = false ∧ c.u8 17 = 1 ∧ s.isOut k n = true ∧ (if (k = 10 ∧ (s.lane n).quadOut = true) then selfTest.contains 4 = true else selfTest ≠ [])) (fun s s' => ∃ z : State, s' = z.answer c .hwFault (s.units.lastSeq + 1) 0 [] ∧ z.units.lastSeq = s.units.lastSeq + 1 ∧ z.units.out = s.units.out)) ∧
  (∀ (c : Cmd) (selfTest : List Nat) (k n : Nat), Completes (.unitMap · c selfTest) (fun s => ready s c 0x1101 .d0 = true ∧ c.host = s.dom.principal ∧ k = c.u8 16 ∧ n = c.u16 18 ∧ (k = 1 ∨ (3 ≤ k ∧ k ≤ 13)) ∧ n < unitCount k ∧ c.zeros 20 44 = none ∧ (k = 11 → s.dev.topology = 1) ∧ s.unitBusy k n = false ∧ k = 10 ∧ c.u8 17 = 1 ∧ s.isOut k n = true ∧ (s.lane n).quadOut = true ∧ selfTest.contains 4 = false) (fun s s' => s' = (s.quadBack (n / 4) selfTest).answer c .ok 0 (quadResult selfTest) [])) ∧
  (∀ (cluster : Nat) (w : UnitWork), Completes (.clusterDrained · cluster) (fun s => s.workOf 4 cluster = some w ∧ w.ret = false ∧ s.isOut 4 cluster = true) (fun s s' => s' = s.endWork 4 cluster .hwFault (s.seqOf 4 cluster) ∧ s'.workOf 4 cluster = none)) ∧
  (∀ (cluster : Nat) (w : UnitWork), Completes (.clusterDrained · cluster) (fun s => s.workOf 4 cluster = some w ∧ w.ret = false ∧ s.isOut 4 cluster = false ∧ s.clusterIdle cluster = true) (fun s s' => s' = (s.clusterOut cluster 0 true).endWork 4 cluster .ok 0 ∧ s'.isOut 4 cluster = true)) ∧
  (∀ (cluster : Nat), Completes (.clusterDrained · cluster) (fun s => (s.workOf 4 cluster).any (fun w => !w.ret) = false) (fun s s' => s' = s)) ∧
  (∀ (cluster : Nat), Completes (.clusterDrained · cluster) (fun s => s.workOf 4 cluster = none ∨ (s.isOut 4 cluster = false ∧ s.clusterIdle cluster = false)) (fun s s' => s' = s)) ∧
  (∀ (kind : Nat) (number : Nat) (w : UnitWork), Completes (.unitMapTimeout · kind number) (fun s => (kind = 4 ∨ kind = 7 ∨ kind = 8) ∧ s.workOf kind number = some w ∧ w.ret = false ∧ w.since + ms 100 ≤ s.now) (fun s s' => s'.workOf kind number = none ∧ s'.units.out = s.units.out ∧ (kind = 8 → s' = s.endWork kind number .timeout 2))) ∧
  (∀ (kind : Nat) (number : Nat) (w : UnitWork), Completes (.unitMapTimeout · kind number) (fun s => s.workOf kind number = some w ∧ w.ret = false ∧ w.since + ms 100 ≤ s.now ∧ (kind = 4 ∨ kind = 7 ∨ kind = 8)) (fun s s' => ∃ z : State, z = s.endWork kind number .timeout 2 ∧ s' = (if kind = 4 then z.setCluster number { z.cluster number with draining := false } else if kind = 7 then z.returnAside else z))) ∧
  (∀ (kind : Nat) (number : Nat), Completes (.unitMapTimeout · kind number) (fun s => s.workOf kind number = none ∨ (kind ≠ 4 ∧ kind ≠ 7 ∧ kind ≠ 8) ∨ (s.workOf kind number).any (fun w => w.ret) = true) (fun s s' => s' = s)) ∧
  (∀ (kind : Nat) (number : Nat) (w : UnitWork), Completes (.unitMapTimeout · kind number) (fun s => s.workOf kind number = some w ∧ s.now < w.since + ms 100) (fun s s' => s' = s))

/-- Delivery (R234, R452–R455). -/
def Obligations.DeliveryComplete : Prop :=
  (∀ (c : Cmd) (b : BufRead) (n : Nat), Completes (.fwDeliver · c b) (fun s => ready s c 0x1200 .d0 = true ∧ c.host = s.dom.principal ∧ c.bufferErr = none ∧ (c.u8 28 = 1 ∨ c.u8 28 = 2) ∧ c.u8 29 = 0 ∧ c.zeros 30 2 = none ∧ c.zeros 40 24 = none ∧ s.fw.delivery = none ∧ s.fw.handover = none ∧ s.target (c.u8 28) = some n ∧ c.u32 32 = 0 ∧ 8192 ≤ c.u32 24 ∧ b.err = none) (fun _ s' => s'.fw.delivery = some { session := c.u32 36, imageType := c.u8 28, port := none, data := [], committed := 0, total := 0, verifying := true, chunk := some (b.bytes c), cmd := some c, macs := [] } ∧ (s'.slot (c.u8 28) n).state = .receiving ∧ (s'.startedAs c).map (fun x => x.working) = some true)) ∧
  (∀ (c : Cmd) (b : BufRead) (d : Delivery), Completes (.fwDeliver · c b) (fun s => ready s c 0x1200 .d0 = true ∧ c.host = s.dom.principal ∧ c.bufferErr = none ∧ (c.u8 28 = 1 ∨ c.u8 28 = 2) ∧ c.u8 29 = 0 ∧ c.zeros 30 2 = none ∧ c.zeros 40 24 = none ∧ s.fw.delivery = some d ∧ d.session = c.u32 36 ∧ d.port = none ∧ d.imageType = c.u8 28 ∧ d.chunk = none ∧ d.verifying = false ∧ c.u32 32 = d.committed ∧ 1 ≤ c.u32 24 ∧ d.committed ≠ 0 ∧ d.committed + c.u32 24 ≤ d.total ∧ b.err = none) (fun s s' => s'.fw.delivery = some { d with chunk := some (b.bytes c), cmd := some c, macs := [] } ∧ s'.fw.slots = s.fw.slots ∧ (s'.startedAs c).map (fun x => x.working) = some true)) ∧
  (∀ (c : Cmd) (b : BufRead) (d : Delivery), Completes (.fwDeliver · c b) (fun s => ready s c 0x1200 .d0 = true ∧ c.host = s.dom.principal ∧ c.bufferErr = none ∧ (c.u8 28 = 1 ∨ c.u8 28 = 2) ∧ c.u8 29 = 0 ∧ c.zeros 30 2 = none ∧ c.zeros 40 24 = none ∧ s.fw.delivery = some d ∧ d.session = c.u32 36 ∧ d.port = none ∧ d.imageType = c.u8 28 ∧ c.u32 32 ≠ d.committed) (fun s s' => s' = s.answer c .invalidParam 0x01000020 d.committed [])) ∧
  (∀ (c : Cmd) (b : BufRead) (d : Delivery), Completes (.fwDeliver · c b) (fun s => ready s c 0x1200 .d0 = true ∧ c.host = s.dom.principal ∧ c.bufferErr = none ∧ (c.u8 28 = 1 ∨ c.u8 28 = 2) ∧ c.u8 29 = 0 ∧ c.zeros 30 2 = none ∧ c.zeros 40 24 = none ∧ s.fw.delivery = some d ∧ (d.session ≠ c.u32 36 ∨ d.port ≠ none)) (fun s s' => ∃ n, s' = s.answer c .busy 0 n [])) ∧
  (∀ (c : Cmd) (b : BufRead) (d : Delivery), Completes (.fwDeliver · c b) (fun s => ready s c 0x1200 .d0 = true ∧ c.host = s.dom.principal ∧ (c.u8 28 = 1 ∨ c.u8 28 = 2) ∧ c.u8 29 = 1 ∧ c.zeros 30 2 = none ∧ c.zeros 40 24 = none ∧ s.fw.delivery = some d ∧ d.session = c.u32 36 ∧ d.port = none ∧ d.imageType = c.u8 28 ∧ d.chunk = none ∧ (s.slot (c.u8 28) 1).state = .receiving ∧ (s.slot (c.u8 28) 0).state ≠ .receiving) (fun _ s' => s'.fw.delivery = none ∧ s'.slot (c.u8 28) 1 = {})) ∧
  (∀ (c : Cmd) (b : BufRead) (d : Delivery), Completes (.fwDeliver · c b) (fun s => ready s c 0x1200 .d0 = true ∧ c.host = s.dom.principal ∧ (c.u8 28 = 1 ∨ c.u8 28 = 2) ∧ c.u8 29 = 1 ∧ c.zeros 30 2 = none ∧ c.zeros 40 24 = none ∧ s.fw.delivery = some d ∧ d.session = c.u32 36 ∧ d.imageType = c.u8 28 ∧ d.chunk = none) (fun s s' => s' = (s.closeDelivery d {}).answer c .ok 0 0 [] ∧ s'.fw.delivery = none)) ∧
  (∀ (c : Cmd) (b : BufRead) (d : Delivery), Completes (.fwDeliver · c b) (fun s => ready s c 0x1200 .d0 = true ∧ c.host = s.dom.principal ∧ (c.u8 28 = 1 ∨ c.u8 28 = 2) ∧ c.u8 29 = 1 ∧ c.zeros 30 2 = none ∧ c.zeros 40 24 = none ∧ s.fw.delivery = some d ∧ d.session = c.u32 36 ∧ d.imageType = c.u8 28 ∧ d.chunk ≠ none) (fun s s' => s' = s.answer c .busy 0 0 [])) ∧
  (∀ (c : Cmd) (b : BufRead), Completes (.fwDeliver · c b) (fun s => ready s c 0x1200 .d0 = true ∧ c.host = s.dom.principal ∧ (c.u8 28 = 1 ∨ c.u8 28 = 2) ∧ c.u8 29 = 1 ∧ c.zeros 30 2 = none ∧ c.zeros 40 24 = none ∧ (∀ d, s.fw.delivery = some d → d.session ≠ c.u32 36 ∨ d.imageType ≠ c.u8 28)) (fun s s' => s' = s.answer c .invalidParam 0x01000024 0 [])) ∧
  (∀ (c : Cmd) (b : BufRead) (n : Nat), Completes (.fwDeliver · c b) (fun s => ready s c 0x1200 .d0 = true ∧ c.host = s.dom.principal ∧ c.bufferErr = none ∧ (c.u8 28 = 1 ∨ c.u8 28 = 2) ∧ c.u8 29 = 0 ∧ c.zeros 30 2 = none ∧ c.zeros 40 24 = none ∧ s.fw.delivery = none ∧ s.fw.handover = none ∧ s.target (c.u8 28) = some n ∧ c.u32 32 = 0 ∧ c.u32 24 < 8192) (fun s s' => s' = s.answer c .invalidParam 0x01000018 0 [])) ∧
  (∀ (c : Cmd) (b : BufRead), Completes (.fwDeliver · c b) (fun s => ready s c 0x1200 .d0 = true ∧ c.host = s.dom.principal ∧ c.bufferErr = none ∧ (c.u8 28 = 1 ∨ c.u8 28 = 2) ∧ c.u8 29 = 0 ∧ c.zeros 30 2 = none ∧ c.zeros 40 24 = none ∧ s.fw.delivery = none ∧ c.u32 32 = 0 ∧ (s.fw.handover ≠ none ∨ s.target (c.u8 28) = none)) (fun s s' => s' = s.answer c .busy 0 0 [])) ∧
  (∀ (c : Cmd) (b : BufRead) (d : Delivery), Completes (.fwDeliver · c b) (fun s => ready s c 0x1200 .d0 = true ∧ c.host = s.dom.principal ∧ c.bufferErr = none ∧ (c.u8 28 = 1 ∨ c.u8 28 = 2) ∧ c.u8 29 = 0 ∧ c.zeros 30 2 = none ∧ c.zeros 40 24 = none ∧ s.fw.delivery = some d ∧ d.session = c.u32 36 ∧ d.port = none ∧ d.imageType = c.u8 28 ∧ d.chunk = none ∧ d.verifying = false ∧ d.committed = 0 ∧ d.total = 0 ∧ c.u32 32 = 0 ∧ 8192 ≤ c.u32 24 ∧ b.err = none) (fun s s' => s'.fw.delivery = some { d with chunk := some (b.bytes c), cmd := some c, macs := [], verifying := true } ∧ s'.fw.slots = s.fw.slots ∧ (s'.startedAs c).map (fun x => x.working) = some true)) ∧
  (∀ (c : Cmd) (b : BufRead) (d : Delivery), Completes (.fwDeliver · c b) (fun s => ready s c 0x1200 .d0 = true ∧ c.host = s.dom.principal ∧ c.bufferErr = none ∧ (c.u8 28 = 1 ∨ c.u8 28 = 2) ∧ c.u8 29 = 0 ∧ c.zeros 30 2 = none ∧ c.zeros 40 24 = none ∧ s.fw.delivery = some d ∧ d.session = c.u32 36 ∧ d.port = none ∧ d.imageType = c.u8 28 ∧ c.u32 32 = d.committed ∧ (d.committed ≠ 0 ∧ (d.chunk ≠ none ∨ d.verifying = true))) (fun s s' => s' = s.answer c .busy 0 d.committed [])) ∧
  (∀ (c : Cmd) (b : BufRead) (d : Delivery), Completes (.fwDeliver · c b) (fun s => ready s c 0x1200 .d0 = true ∧ c.host = s.dom.principal ∧ c.bufferErr = none ∧ (c.u8 28 = 1 ∨ c.u8 28 = 2) ∧ c.u8 29 = 0 ∧ c.zeros 30 2 = none ∧ c.zeros 40 24 = none ∧ s.fw.delivery = some d ∧ d.session = c.u32 36 ∧ d.port = none ∧ d.imageType = c.u8 28 ∧ d.chunk = none ∧ d.verifying = false ∧ c.u32 32 = d.committed ∧ d.committed ≠ 0 ∧ (c.u32 24 = 0 ∨ d.total ≠ 0 ∧ d.total < d.committed + c.u32 24)) (fun s s' => s' = s.answer c .invalidParam 0x01000018 d.committed [])) ∧
  (∀ (d : Delivery) (b : Bytes), Completes (.fwHeaderVerified ·) (fun s => s.fw.delivery = some d ∧ d.chunk = some b ∧ d.verifying = true ∧ (s.slot d.imageType 0).state ≠ .receiving ∧ (s.slot d.imageType 1).state = .receiving ∧ d.cmd = none ∧ d.port = none) (fun s s' => if s.imageErr d.imageType (imageOf b) = none ∧ b.length ≤ 8192 + (imageOf b).payloadLength then s' = { s with fw := { s.fw with delivery := some { d with verifying := false, total := 8192 + (imageOf b).payloadLength } } } else s'.fw.delivery = none ∧ s'.slot d.imageType 1 = {} ∧ s'.slot d.imageType 0 = s.slot d.imageType 0)) ∧
  (∀ (d : Delivery) (b : Bytes) (e : Err), Completes (.fwHeaderVerified ·) (fun s => s.fw.delivery = some d ∧ d.chunk = some b ∧ d.verifying = true ∧ s.imageErr d.imageType (imageOf b) = some e) (fun s s' => s' = ((s.answerChunk d e.status e.detail).closeDelivery d {}).hostImageFails (s.bootCode (some (imageOf b))) ∧ s'.fw.delivery = none)) ∧
  (∀ (d : Delivery) (b : Bytes), Completes (.fwHeaderVerified ·) (fun s => s.fw.delivery = some d ∧ d.chunk = some b ∧ d.verifying = true) (fun s s' => s.imageErr d.imageType (imageOf b) = none → (8192 + (imageOf b).payloadLength < b.length → s' = ((s.answerChunk d .invalidParam 0x01000018).closeDelivery d {}).hostImageFails 2 ∧ s'.fw.delivery = none) ∧ (b.length ≤ 8192 + (imageOf b).payloadLength → s' = { s with fw := { s.fw with delivery := some { d with verifying := false, total := 8192 + (imageOf b).payloadLength } } }))) ∧
  (∀ (d : Delivery), Completes (.fwHeaderVerified ·) (fun s => s.fw.delivery = some d ∧ (d.chunk = none ∨ d.verifying = false)) (fun s s' => s' = s)) ∧
  (Completes (.fwHeaderVerified ·) (fun s => s.fw.delivery = none) (fun s s' => s' = s)) ∧
  (∀ (d : Delivery) (b : Bytes) (c : Cmd), Completes (.fwChunkWritten ·) (fun s => s.fw.delivery = some d ∧ d.chunk = some b ∧ d.verifying = false ∧ d.cmd = some c ∧ d.port = none ∧ d.committed + b.length < d.total) (fun s s' => s' = { s with fw := { s.fw with delivery := some { d with data := d.data ++ b, committed := d.committed + b.length, chunk := none } } }.answer c .ok 0 (d.committed + b.length) [] ∧ s'.fw.slots = s.fw.slots)) ∧
  (∀ (d : Delivery) (b : Bytes) (d1 : Delivery), Completes (.fwChunkWritten ·) (fun s => s.fw.delivery = some d ∧ d.chunk = some b ∧ d.verifying = false ∧ d1 = { d with data := d.data ++ b, committed := d.committed + b.length, chunk := none } ∧ d1.committed < d1.total) (fun s s' => s' = { s with fw := { s.fw with delivery := some d1 } }.answerChunk d1 .ok 0 ∧ s'.fw.delivery = some d1)) ∧
  (Completes (.fwChunkWritten ·) (fun s => s.fw.delivery = none ∨ (∃ d, s.fw.delivery = some d ∧ (d.chunk = none ∨ d.verifying = true))) (fun s s' => s' = s)) ∧
  (∀ (d : Delivery) (b : Bytes), Completes (.fwChunkWritten ·) (fun s => s.fw.delivery = some d ∧ d.chunk = some b ∧ d.verifying = false ∧ d.cmd = none ∧ d.port = none ∧ d.total ≤ d.committed + b.length ∧ s.dev.mode ≠ .safe ∧ (s.slot d.imageType 0).state ≠ .receiving ∧ (s.slot d.imageType 1).state = .receiving) (fun s s' => s'.fw.delivery = none ∧ s'.slot d.imageType 1 = (if payloadOk (d.data ++ b) = true ∧ (d.imageType = 2 → profileFits ((d.data ++ b).drop 8192) = true) then { state := .verified, image := some (imageOf (d.data ++ b)), payload := d.data ++ b } else {}) ∧ s'.dev = s.dev)) ∧
  (∀ (d : Delivery) (b : Bytes) (d1 : Delivery) (ok : Bool), Completes (.fwChunkWritten ·) (fun s => s.fw.delivery = some d ∧ d.chunk = some b ∧ d.verifying = false ∧ d1 = { d with data := d.data ++ b, committed := d.committed + b.length, chunk := none } ∧ d1.total ≤ d1.committed ∧ ok = (payloadOk d1.data && (d1.imageType ≠ 2 || profileFits (d1.data.drop 8192)))) (fun s s' => ∃ z : State, z = ((({ s with fw := { s.fw with delivery := some d1 } }.answerChunk d1 (if ok = true then .ok else .refused) (if ok = true then 0 else 1)).closeDelivery d1 (if ok = true then { state := .verified, image := some (imageOf d1.data), payload := d1.data } else {})).deliveryEvent d.imageType ok d.session) ∧ (ok = false → s' = z.hostImageFails 3) ∧ (ok = true → s.dev.mode ≠ .safe ∨ s.dev.straps.bootMode % 4 = 3 → s' = z) ∧ (ok = true → s.dev.mode = .safe → s.dev.straps.bootMode % 4 ≠ 3 → s'.dev.mode = .calibrate))) ∧
  (∀ (port : Nat) (frame : Bytes) (n : Nat), Completes (.inbandFwFrame · port frame) (fun s => (s.port port).state = .up ∧ bit s.fw.inband port = true ∧ beAt frame 12 2 = 0x88B5 ∧ beAt frame 14 2 = 0x5546 ∧ s.dev.mode ≠ .safe ∧ s.dev.mode ≠ .calibrate ∧ look s.fw.inbandRate port (0, 0) = (s.now / ms 1000, n) ∧ n < 10000 ∧ byteAt frame 16 = 2) (fun s s' => s' = { s with fw := { s.fw with inbandRate := put s.fw.inbandRate port (0, 0) (s.now / ms 1000, n + 1) } }.transmit port (slice frame 6 6 ++ slice frame 0 6 ++ [0x88, 0xB5, 0x55, 0x46, 0x82, 0] ++ beBytes 4 (beAt frame 18 4) ++ beBytes 4 (s.committedOf (beAt frame 18 4)) ++ [0, 0, 0, 0]) false)) ∧
  (∀ (port : Nat) (frame : Bytes) (n k : Nat), Completes (.inbandFwFrame · port frame) (fun s => (s.port port).state = .up ∧ bit s.fw.inband port = true ∧ beAt frame 12 2 = 0x88B5 ∧ beAt frame 14 2 = 0x5546 ∧ s.dev.mode ≠ .safe ∧ s.dev.mode ≠ .calibrate ∧ look s.fw.inbandRate port (0, 0) = (s.now / ms 1000, n) ∧ n < 10000 ∧ byteAt frame 16 = 1 ∧ (byteAt frame 17 = 1 ∨ byteAt frame 17 = 2) ∧ s.fw.delivery = none ∧ s.fw.handover = none ∧ s.target (byteAt frame 17) = some k ∧ beAt frame 22 4 = 0 ∧ beAt frame 26 2 = 8192 ∧ 8226 ≤ (s.port port).cfg.maxFrame ∧ 8222 ≤ frame.length) (fun _ s' => s'.fw.delivery = some { session := beAt frame 18 4, imageType := byteAt frame 17, port := some port, data := [], committed := 0, total := 0, verifying := true, chunk := some (slice frame 30 8192), cmd := none, macs := frame.take 12 } ∧ (s'.slot (byteAt frame 17) k).state = .receiving)) ∧
  (∀ (port : Nat) (frame : Bytes) (n : Nat), Completes (.inbandFwFrame · port frame) (fun s => (s.port port).state = .up ∧ bit s.fw.inband port = true ∧ beAt frame 12 2 = 0x88B5 ∧ beAt frame 14 2 = 0x5546 ∧ s.dev.mode ≠ .safe ∧ s.dev.mode ≠ .calibrate ∧ look s.fw.inbandRate port (0, 0) = (s.now / ms 1000, n) ∧ 10000 ≤ n) (fun s s' => s' = { s with fw := { s.fw with inbandDrops := bump s.fw.inbandDrops port 1 } })) ∧
  (∀ (port : Nat) (frame : Bytes) (n : Nat), Completes (.inbandFwFrame · port frame) (fun s => (s.port port).state = .up ∧ s.isInband port frame = true ∧ s.dev.mode ≠ .safe ∧ s.dev.mode ≠ .calibrate ∧ n = (if (look s.fw.inbandRate port (0, 0)).1 = s.now / ms 1000 then (look s.fw.inbandRate port (0, 0)).2 else 0) ∧ n < 10000) (fun s s' => s' = { s with fw := { s.fw with inbandRate := put s.fw.inbandRate port (0, 0) (s.now / ms 1000, n + 1) } }.inbandTake port frame)) ∧
  (∀ (port : Nat) (frame : Bytes) (n : Nat), Completes (.inbandFwFrame · port frame) (fun s => (s.port port).state = .up ∧ s.isInband port frame = true ∧ s.dev.mode ≠ .safe ∧ s.dev.mode ≠ .calibrate ∧ n = (if (look s.fw.inbandRate port (0, 0)).1 = s.now / ms 1000 then (look s.fw.inbandRate port (0, 0)).2 else 0) ∧ 10000 ≤ n) (fun s s' => s' = { s with fw := { s.fw with inbandDrops := bump s.fw.inbandDrops port 1 } })) ∧
  (∀ (port : Nat) (frame : Bytes), Completes (.inbandFwFrame · port frame) (fun s => s.isInband port frame = false ∨ (s.port port).state ≠ .up ∨ s.dev.mode = .safe ∨ s.dev.mode = .calibrate) (fun s s' => s' = s)) ∧
  (∀ (port : Nat) (frame : Bytes), Completes (.inbandFwFrame · port frame) (fun s => bit s.fw.inband port = false) (fun s s' => s' = s)) ∧
  (∀ (c : Cmd) (b : BufRead) (n : Nat), Completes (.engProfileLoad · c b) (fun s => ready s c 0x0700 .d0 = true ∧ firstErr (profileErrs c b s) = none ∧ c.u8 36 = 0 ∧ s.target 2 = some n) (fun s s' => s'.eng.staged = (if c.u32 32 = 0 then [] else s.eng.staged) ++ b.bytes c ∧ (s'.slot 2 n).state = .receiving ∧ s'.eng.active = s.eng.active ∧ s'.eng.ready = s.eng.ready)) ∧
  (∀ (c : Cmd) (b : BufRead) (e : Err), Completes (.engProfileLoad · c b) (fun s => ready s c 0x0700 .d0 = true ∧ firstErr (profileErrs c b s) = some e) (fun s s' => s' = s.answer c e.status e.detail (errResult e 0) [])) ∧
  (∀ (c : Cmd) (b : BufRead) (n : Nat) (w : Bytes), Completes (.engProfileLoad · c b) (fun s => ready s c 0x0700 .d0 = true ∧ bit (c.u8 36) 0 = true ∧ s.target 2 = some n ∧ w = (if c.u32 32 = 0 then [] else s.eng.staged) ++ b.bytes c ∧ s.dev.mode ≠ .standby) (fun s s' => match firstErr (profileErrs c b s) with | some e => s' = s.answer c e.status e.detail 0 [] | none => s'.slot 2 n = { state := .verified, image := some (imageOf w), payload := w } ∧ s'.eng.ready = some (imageProfile s w) ∧ s'.eng.staged = [] ∧ s'.eng.active = s.eng.active)) ∧
  (∀ (c : Cmd) (b : BufRead) (n : Nat) (w : Bytes), Completes (.engProfileLoad · c b) (fun s => ready s c 0x0700 .d0 = true ∧ bit (c.u8 36) 0 = true ∧ s.target 2 = some n ∧ w = (if c.u32 32 = 0 then [] else s.eng.staged) ++ b.bytes c ∧ s.dev.mode = .standby) (fun s s' => match firstErr (profileErrs c b s) with | some e => s' = s.answer c e.status e.detail 0 [] | none => s'.eng.active = some (imageProfile s w) ∧ s'.eng.staged = [] ∧ s'.eng.tables = [] ∧ s'.running 2 = n ∧ (s'.slot 2 n).state = .trial ∧ (s'.slot 2 n).payload = w))

/-- Firmware (R449, R456–R461). -/
def Obligations.FirmwareComplete : Prop :=
  (∀ (c : Cmd) (n : Nat) (i : Image), Completes (.fwActivate · c) (fun s => ready s c 0x1202 .d0 = true ∧ c.host = s.dom.principal ∧ c.zeros 17 3 = none ∧ c.u32 20 ≤ 86400 ∧ c.zeros 24 40 = none ∧ s.fw.handover = none ∧ s.dev.hold = none ∧ n ≤ 1 ∧ (s.slot (c.u8 16) n).state = .verified ∧ (s.slot (c.u8 16) (1 - n)).state ≠ .verified ∧ (s.slot (c.u8 16) n).image = some i ∧ c.u8 16 = 1 ∧ s.floor 1 ≤ i.security) (fun s s' => s'.dev.mode = .handover ∧ s'.fw.handover = some { cmd := some c, imageType := c.u8 16, slot := n, phase := 1, cluster := 0, since := s.now, fromStandby := s.dev.mode = .standby, commitS := c.u32 20, rollback := false, expired := false } ∧ s'.fw.slots = s.fw.slots ∧ s'.fw.running = s.fw.running ∧ (s'.startedAs c).map (fun x => x.working) = some true)) ∧
  (∀ (c : Cmd) (n : Nat) (i : Image) (k : Nat), Completes (.fwActivate · c) (fun s => ready s c 0x1202 .d0 = true ∧ c.host = s.dom.principal ∧ c.zeros 17 3 = none ∧ c.u32 20 ≤ 86400 ∧ c.zeros 24 40 = none ∧ s.fw.handover = none ∧ s.dev.hold = none ∧ n ≤ 1 ∧ (s.slot (c.u8 16) n).state = .verified ∧ (s.slot (c.u8 16) (1 - n)).state ≠ .verified ∧ (s.slot (c.u8 16) n).image = some i ∧ c.u8 16 = 2 ∧ s.dev.mode = .standby ∧ k < 32 ∧ (∀ j, j < k → s.healthy 4 j = false) ∧ s.healthy 4 k = true ∧ s.floor 2 ≤ i.security) (fun s s' => s'.dev.mode = .handover ∧ (∃ es, s'.fw.handover = some { cmd := some c, imageType := c.u8 16, slot := n, phase := 4, cluster := k, since := s.now, fromStandby := s.dev.mode = .standby, commitS := c.u32 20, rollback := false, expired := false, entries := es }) ∧ s'.eng.active = s.eng.active ∧ s'.fw.running = s.fw.running)) ∧
  (∀ (c : Cmd) (n : Nat) (i : Image), Completes (.fwActivate · c) (fun s => ready s c 0x1202 .d0 = true ∧ c.host = s.dom.principal ∧ c.zeros 17 3 = none ∧ c.u32 20 ≤ 86400 ∧ c.zeros 24 40 = none ∧ s.fw.handover = none ∧ s.dev.hold = none ∧ n ≤ 1 ∧ (s.slot (c.u8 16) n).state = .verified ∧ (s.slot (c.u8 16) (1 - n)).state ≠ .verified ∧ (s.slot (c.u8 16) n).image = some i ∧ (c.u8 16 = 1 ∨ c.u8 16 = 2) ∧ i.security < s.floor (c.u8 16)) (fun s s' => s' = s.answer c .refused 3 0 [])) ∧
  (∀ (c : Cmd) (o : Option Nat), Completes (.fwActivate · c) (fun s => ready s c 0x1202 .d0 = true ∧ c.host = s.dom.principal ∧ (c.u8 16 = 1 ∨ c.u8 16 = 2) ∧ c.zeros 17 3 = none ∧ c.u32 20 ≤ 86400 ∧ c.zeros 24 40 = none ∧ o = (List.range 2).find? (fun n => decide ((s.slot (c.u8 16) n).state = .verified)) ∧ firstErr (handoverErrs s c o) = none) (fun s s' => s' = ((s.keepWorking c).beginHandover (handoverOf s c (o.getD 0) (c.u32 20) false)).keepWorking c)) ∧
  (∀ (c : Cmd) (e : Err) (o : Option Nat), Completes (.fwActivate · c) (fun s => ready s c 0x1202 .d0 = true ∧ c.host = s.dom.principal ∧ (c.u8 16 = 1 ∨ c.u8 16 = 2) ∧ c.zeros 17 3 = none ∧ c.u32 20 ≤ 86400 ∧ c.zeros 24 40 = none ∧ o = (List.range 2).find? (fun n => decide ((s.slot (c.u8 16) n).state = .verified)) ∧ firstErr (handoverErrs s c o) = some e) (fun s s' => s' = s.answer c e.status e.detail (errResult e 0) [])) ∧
  (∀ (h : Handover), Completes (.handoverQuiesced ·) (fun s => s.fw.handover = some h ∧ h.imageType = 1 ∧ h.phase < 3) (fun s s' => s' = { s with fw := { s.fw with handover := some { h with phase := 3 } } } ∧ s'.fwWindow = true)) ∧
  (Completes (.handoverQuiesced ·) (fun s => s.fw.handover = none) (fun s s' => s' = s)) ∧
  (∀ (h : Handover), Completes (.fwHandover ·) (fun s => s.fw.handover = some h ∧ h.imageType = 1 ∧ h.phase = 3 ∧ h.rollback = false ∧ s.dev.mode = .handover) (fun s s' => s'.fw.handover = none ∧ s'.running 1 = h.slot ∧ (s'.slot 1 h.slot).state = .trial ∧ s'.fw.primary = s.fw.primary ∧ s'.dev.mode = (if h.fromStandby = true then .standby else if s.anyOut = true then .degraded else .service) ∧ look s'.fw.trials 1 { slot := 9, deadline := none } = { slot := h.slot, deadline := if h.commitS = 0 then none else some (s.now + ms (1000 * h.commitS)) })) ∧
  (∀ (h : Handover), Completes (.fwHandover ·) (fun s => s.fw.handover = some h ∧ h.imageType = 1 ∧ h.phase = 3 ∧ h.rollback = true ∧ s.dev.mode = .handover ∧ (s.slot 1 (s.running 1)).state = .trial ∧ h.slot ≠ s.running 1 ∧ h.slot ≤ 1 ∧ s.running 1 ≤ 1) (fun s s' => s'.fw.handover = none ∧ s'.running 1 = h.slot ∧ s'.primary 1 = h.slot ∧ (s'.slot 1 (s.running 1)).state = .verified ∧ s'.slot 1 h.slot = s.slot 1 h.slot)) ∧
  (∀ (h : Handover), Completes (.handoverQuiesced ·) (fun s => s.fw.handover = some h ∧ (h.imageType ≠ 1 ∨ 3 ≤ h.phase)) (fun s s' => s' = s)) ∧
  (∀ (h : Handover), Completes (.fwHandover ·) (fun s => s.fw.handover = some h ∧ h.imageType = 1 ∧ h.phase = 3) (fun s s' => s' = s.completeHandover h ∧ s'.fw.handover = none ∧ s'.running 1 = h.slot)) ∧
  (∀ (h : Handover), Completes (.fwHandover ·) (fun s => s.fw.handover = some h ∧ (h.imageType ≠ 1 ∨ h.phase ≠ 3)) (fun s s' => s' = s)) ∧
  (∀ (h : Handover), Completes (.handoverHealthTimeout ·) (fun s => s.fw.handover = some h ∧ h.imageType = 1 ∧ h.phase = 3) (fun s s' => s' = (s.abandonHandover .bad).leaveHandover h ∧ s'.fw.handover = none ∧ s'.fw.running = s.fw.running)) ∧
  (∀ (h : Handover), Completes (.handoverHealthTimeout ·) (fun s => s.fw.handover = some h ∧ (h.imageType ≠ 1 ∨ h.phase ≠ 3)) (fun s s' => s' = s)) ∧
  (Completes (.fwHandover ·) (fun s => s.fw.handover = none) (fun s s' => s' = s)) ∧
  (∀ (h : Handover), Completes (.handoverHealthTimeout ·) (fun s => s.fw.handover = some h ∧ h.imageType = 1 ∧ h.phase = 3 ∧ h.rollback = false ∧ s.dev.mode = .handover) (fun s s' => s'.fw.handover = none ∧ (s'.slot 1 h.slot).state = .bad ∧ s'.fw.running = s.fw.running ∧ s'.dev.mode = (if h.fromStandby = true then .standby else if s.anyOut = true then .degraded else .service))) ∧
  (Completes (.handoverHealthTimeout ·) (fun s => s.fw.handover = none) (fun s s' => s' = s)) ∧
  (∀ (cluster : Nat) (h : Handover) (p : Profile) (k : Nat), Completes (.profileClusterSwap · cluster) (fun s => s.fw.handover = some h ∧ s.eng.ready = some p ∧ h.imageType = 2 ∧ h.phase = 4 ∧ h.cluster = cluster ∧ s.healthy 4 cluster = true ∧ s.clusterIdle cluster = true ∧ h.entries = [] ∧ s.clusterFrom (cluster + 1) = some k) (fun s s' => (s'.cluster cluster).profile = p.seq ∧ (s'.fw.handover).map (fun x => (x.phase, x.cluster)) = some (4, k) ∧ s'.dev.mode = s.dev.mode ∧ s'.eng.active = s.eng.active)) ∧
  (∀ (cluster : Nat) (h : Handover) (p : Profile), Completes (.profileClusterSwap · cluster) (fun s => s.fw.handover = some h ∧ s.eng.ready = some p ∧ h.imageType = 2 ∧ h.phase = 4 ∧ h.cluster = cluster ∧ s.healthy 4 cluster = true ∧ s.clusterIdle cluster = true ∧ h.entries = [] ∧ s.clusterFrom (cluster + 1) = none ∧ h.rollback = false ∧ s.dev.mode = .handover) (fun s s' => (s'.cluster cluster).profile = p.seq ∧ s'.fw.handover = none ∧ s'.eng.active = some p ∧ s'.eng.ready = none ∧ s'.running 2 = h.slot ∧ (s'.slot 2 h.slot).state = .trial ∧ s'.dev.mode = (if h.fromStandby = true then .standby else if s.anyOut = true then .degraded else .service))) ∧
  (∀ (cluster : Nat) (h : Handover) (p : Profile), Completes (.profileClusterSwap · cluster) (fun s => s.fw.handover = some h ∧ s.eng.ready = some p ∧ h.imageType = 2 ∧ h.phase = 4 ∧ h.cluster = cluster ∧ s.healthy 4 cluster = true ∧ s.clusterIdle cluster = false) (fun s s' => s' = s)) ∧
  (∀ (cluster : Nat) (h : Handover) (p : Profile) (z : State) (k : Nat), Completes (.profileClusterSwap · cluster) (fun s => s.fw.handover = some h ∧ s.eng.ready = some p ∧ h.imageType = 2 ∧ h.phase = 4 ∧ h.cluster = cluster ∧ (s.healthy 4 cluster = true → s.clusterIdle cluster = true) ∧ z = (if s.healthy 4 cluster = true then each (fun i s => State.moveSteer s i cluster true) h.entries (State.loadCluster p cluster s) else s) ∧ z.clusterFrom (cluster + 1) = some k) (fun _ s' => s' = z.beginSwap { h with entries := [] } k)) ∧
  (∀ (cluster : Nat) (h : Handover) (p : Profile) (z : State), Completes (.profileClusterSwap · cluster) (fun s => s.fw.handover = some h ∧ s.eng.ready = some p ∧ h.imageType = 2 ∧ h.phase = 4 ∧ h.cluster = cluster ∧ (s.healthy 4 cluster = true → s.clusterIdle cluster = true) ∧ z = (if s.healthy 4 cluster = true then each (fun i s => State.moveSteer s i cluster true) h.entries (State.loadCluster p cluster s) else s) ∧ z.clusterFrom (cluster + 1) = none) (fun _ s' => ∃ y : State, y = z.takeTables p false ∧ s' = ({ y with eng := { y.eng with ready := none } }).completeHandover h)) ∧
  (∀ (cluster : Nat), Completes (.profileClusterSwap · cluster) (fun s => s.fw.handover = none ∨ s.eng.ready = none ∨ (∃ h, s.fw.handover = some h ∧ (h.imageType ≠ 2 ∨ h.phase ≠ 4 ∨ h.cluster ≠ cluster))) (fun s s' => s' = s)) ∧
  (∀ (imageType : Nat) (k n d : Nat), Completes (.trialExpire · imageType) (fun s => s.fw.trials.find? (fun r => decide (r.1 = imageType)) = some (k, { slot := n, deadline := some d }) ∧ d ≤ s.now ∧ s.fw.handover = none ∧ s.dev.hold.any (fun h => h.mode.isSome) = false ∧ (s.slot imageType (1 - s.running imageType)).state = .good ∧ (s.dev.mode = .standby ∨ s.dev.mode = .service ∨ s.dev.mode = .degraded)) (fun s s' => s' = s.beginHandover { cmd := none, imageType := imageType, slot := 1 - s.running imageType, phase := 1, cluster := 0, since := s.now, fromStandby := s.dev.mode = .standby, commitS := 0, rollback := true, expired := true })) ∧
  (∀ (imageType : Nat), Completes (.trialExpire · imageType) (fun s => (s.fw.trials.find? (fun r => decide (r.1 = imageType)) = none) ∨ s.fw.handover ≠ none ∨ s.dev.hold.any (fun h => h.mode.isSome) = true ∨ (s.slot imageType (1 - s.running imageType)).state ≠ .good ∨ s.dev.mode = .safe ∨ s.dev.mode = .calibrate ∨ s.dev.mode = .handover) (fun s s' => s' = s)) ∧
  (∀ (imageType : Nat) (k n d : Nat), Completes (.trialExpire · imageType) (fun s => s.fw.trials.find? (fun r => decide (r.1 = imageType)) = some (k, { slot := n, deadline := some d }) ∧ s.now < d) (fun s s' => s' = s)) ∧
  (∀ (imageType : Nat) (k n d : Nat), Completes (.trialExpire · imageType) (fun s => imageType = 1 ∧ s.fw.trials.find? (fun r => decide (r.1 = imageType)) = some (k, { slot := n, deadline := some d }) ∧ d ≤ s.now ∧ s.fw.handover = none ∧ s.dev.hold = none ∧ (s.slot 1 (1 - s.running 1)).state = .good ∧ s.dev.mode = .service) (fun s s' => s'.dev.mode = .handover ∧ s'.fw.handover = some { cmd := none, imageType := 1, slot := 1 - s.running 1, phase := 1, cluster := 0, since := s.now, fromStandby := false, commitS := 0, rollback := true, expired := true })) ∧
  (∀ (imageType : Nat) (k n : Nat), Completes (.trialExpire · imageType) (fun s => s.fw.trials.find? (fun r => decide (r.1 = imageType)) = some (k, { slot := n, deadline := none })) (fun s s' => s' = s)) ∧
  (∀ (c : Cmd) (n : Nat), Completes (.fwCommit · c) (fun s => ready s c 0x1203 .d0 = true ∧ c.host = s.dom.principal ∧ (c.u8 16 = 1 ∨ c.u8 16 = 2) ∧ c.zeros 17 47 = none ∧ s.fw.handover = none ∧ n ≤ 1 ∧ (s.slot (c.u8 16) n).state = .trial ∧ (s.slot (c.u8 16) (1 - n)).state ≠ .trial) (fun s s' => s'.slot (c.u8 16) n = { s.slot (c.u8 16) n with state := .good } ∧ s'.primary (c.u8 16) = n ∧ s'.slot (c.u8 16) (1 - n) = s.slot (c.u8 16) (1 - n) ∧ s'.fw.running = s.fw.running)) ∧
  (∀ (c : Cmd), Completes (.fwCommit · c) (fun s => ready s c 0x1203 .d0 = true ∧ c.host = s.dom.principal ∧ (c.u8 16 = 1 ∨ c.u8 16 = 2) ∧ c.zeros 17 47 = none ∧ s.fw.handover = none ∧ (s.slot (c.u8 16) 0).state ≠ .trial ∧ (s.slot (c.u8 16) 1).state ≠ .trial) (fun s s' => s' = s.answer c .invalidParam 0x01000010 0 [])) ∧
  (∀ (c : Cmd) (n : Nat), Completes (.fwCommit · c) (fun s => ready s c 0x1203 .d0 = true ∧ c.host = s.dom.principal ∧ (c.u8 16 = 1 ∨ c.u8 16 = 2) ∧ c.zeros 17 47 = none ∧ s.fw.handover = none ∧ (List.range 2).find? (fun n => decide ((s.slot (c.u8 16) n).state = .trial)) = some n) (fun s s' => ∃ z : State, z = s.setSlot (c.u8 16) n { s.slot (c.u8 16) n with state := .good } ∧ s' = { z with fw := { z.fw with primary := put z.fw.primary (c.u8 16) 0 n, trials := drop z.fw.trials (c.u8 16) } }.answer c .ok 0 0 [])) ∧
  (∀ (c : Cmd), Completes (.fwCommit · c) (fun s => ready s c 0x1203 .d0 = true ∧ c.host = s.dom.principal ∧ (c.u8 16 = 1 ∨ c.u8 16 = 2) ∧ c.zeros 17 47 = none ∧ s.fw.handover ≠ none) (fun s s' => s' = s.answer c .busy 0 0 [])) ∧
  (∀ (c : Cmd) (n : Nat) (i : Image), Completes (.fwRollback · c) (fun s => ready s c 0x1204 .d0 = true ∧ c.host = s.dom.principal ∧ c.u8 16 = 1 ∧ c.zeros 17 47 = none ∧ s.fw.handover = none ∧ s.dev.hold = none ∧ n = 1 - s.running 1 ∧ (s.slot 1 n).state = .good ∧ (s.slot 1 n).image = some i ∧ s.floor 1 ≤ i.security) (fun s s' => s'.dev.mode = .handover ∧ s'.fw.handover = some { cmd := some c, imageType := c.u8 16, slot := n, phase := 1, cluster := 0, since := s.now, fromStandby := s.dev.mode = .standby, commitS := 0, rollback := true, expired := false } ∧ s'.fw.slots = s.fw.slots)) ∧
  (∀ (c : Cmd) (o : Option Nat), Completes (.fwRollback · c) (fun s => ready s c 0x1204 .d0 = true ∧ c.host = s.dom.principal ∧ (c.u8 16 = 1 ∨ c.u8 16 = 2) ∧ c.zeros 17 47 = none ∧ o = (if (s.slot (c.u8 16) (1 - s.running (c.u8 16))).state = .good then some (1 - s.running (c.u8 16)) else none) ∧ firstErr (handoverErrs s c o) = none) (fun s s' => s' = ((s.keepWorking c).beginHandover (handoverOf s c (o.getD 0) 0 true)).keepWorking c)) ∧
  (∀ (c : Cmd) (e : Err) (o : Option Nat), Completes (.fwRollback · c) (fun s => ready s c 0x1204 .d0 = true ∧ c.host = s.dom.principal ∧ (c.u8 16 = 1 ∨ c.u8 16 = 2) ∧ c.zeros 17 47 = none ∧ o = (if (s.slot (c.u8 16) (1 - s.running (c.u8 16))).state = .good then some (1 - s.running (c.u8 16)) else none) ∧ firstErr (handoverErrs s c o) = some e) (fun s s' => s' = s.answer c e.status e.detail (errResult e 0) [])) ∧
  (∀ (c : Cmd), Completes (.fwRollback · c) (fun s => ready s c 0x1204 .d0 = true ∧ c.host = s.dom.principal ∧ (c.u8 16 = 1 ∨ c.u8 16 = 2) ∧ c.zeros 17 47 = none ∧ s.fw.handover ≠ none) (fun s s' => s' = s.answer c .busy 0 0 [])) ∧
  (∀ (c : Cmd) (i : Image), Completes (.fwFloor · c) (fun s => ready s c 0x1205 .d0 = true ∧ c.host = s.dom.principal ∧ c.u8 16 = 1 ∧ s.floor 1 ≤ c.u8 17 ∧ c.zeros 18 46 = none ∧ (s.slot 1 (s.running 1)).state = .good ∧ (s.slot 1 (s.running 1)).image = some i ∧ c.u8 17 ≤ i.security) (fun s s' => s' = { s with fw := { s.fw with floors := put s.fw.floors 1 0 (c.u8 17) } }.answer c .ok 0 0 [] ∧ s'.floor 1 = c.u8 17)) ∧
  (∀ (c : Cmd) (x : Slot) (i : Image), Completes (.fwFloor · c) (fun s => ready s c 0x1205 .d0 = true ∧ c.host = s.dom.principal ∧ (c.u8 16 = 1 ∨ c.u8 16 = 2) ∧ s.floor (c.u8 16) ≤ c.u8 17 ∧ c.zeros 18 46 = none ∧ x = s.slot (c.u8 16) (s.running (c.u8 16)) ∧ x.state = .good ∧ x.image = some i ∧ c.u8 17 ≤ i.security) (fun s s' => s' = { s with fw := { s.fw with floors := put s.fw.floors (c.u8 16) 0 (c.u8 17) } }.answer c .ok 0 0 [] ∧ s'.floor (c.u8 16) = c.u8 17)) ∧
  (∀ (c : Cmd) (x : Slot), Completes (.fwFloor · c) (fun s => ready s c 0x1205 .d0 = true ∧ c.host = s.dom.principal ∧ (c.u8 16 = 1 ∨ c.u8 16 = 2) ∧ s.floor (c.u8 16) ≤ c.u8 17 ∧ c.zeros 18 46 = none ∧ x = s.slot (c.u8 16) (s.running (c.u8 16)) ∧ (x.state ≠ .good ∨ (∀ i, x.image = some i → i.security < c.u8 17))) (fun s s' => s' = s.answer c .refused 5 0 [])) ∧
  (∀ (c : Cmd), Completes (.fwFloor · c) (fun s => ready s c 0x1205 .d0 = true ∧ c.host = s.dom.principal ∧ c.u8 16 = 1 ∧ s.floor 1 ≤ c.u8 17 ∧ c.zeros 18 46 = none ∧ (s.slot 1 (s.running 1)).state ≠ .good) (fun s s' => s' = s.answer c .refused 5 0 [])) ∧
  (∀ (c : Cmd), Completes (.fwInband · c) (fun s => ready s c 0x1206 .d0 = true ∧ c.host = s.dom.principal ∧ c.zeros 32 32 = none) (fun s s' => s' = { s with fw := { s.fw with inband := c.field 16 16 } }.answer c .ok 0 0 [])) ∧
  (∀ (c : Cmd) (x y : ConfCopy), Completes (.fwConfigSave · c) (fun s => ready s c 0x1207 .d0 = true ∧ c.host = s.dom.principal ∧ c.zeros 16 48 = none ∧ s.fw.copies = [(0, x), (1, y)] ∧ x.crcOk = true ∧ y.crcOk = true ∧ x.seq ≤ y.seq) (fun s s' => s'.fw.copies = [(0, { format := s.fw.config, seq := y.seq + 1, crcOk := true, conf := s.confNow }), (1, y)])) ∧
  (∀ (c : Cmd), Completes (.fwConfigSave · c) (fun s => ready s c 0x1207 .d0 = true ∧ c.host = s.dom.principal ∧ c.zeros 16 48 = none ∧ s.fw.copies = []) (fun s s' => ∃ q, s'.fw.copies = [(0, { format := s.fw.config, seq := q, crcOk := true, conf := s.confNow })])) ∧
  (∀ (c : Cmd) (k : Nat), Completes (.fwConfigSave · c) (fun s => ready s c 0x1207 .d0 = true ∧ c.host = s.dom.principal ∧ c.zeros 16 48 = none ∧ k = (if s.copySeq 0 ≤ s.copySeq 1 then 0 else 1)) (fun s s' => s' = { s with fw := { s.fw with copies := insertRow (drop s.fw.copies k) k { format := s.fw.config, seq := max (s.copySeq 0) (s.copySeq 1), crcOk := true, conf := s.confNow } } }.answer c .ok 0 0 [])) ∧
  (∀ (c : Cmd), Completes (.fwStatus · c) (fun s => ready s c 0x1201 .d0 = true ∧ c.host = s.dom.principal ∧ c.needReply = none ∧ c.zeros 16 48 = none) (fun s s' => ∃ l : Bytes, s' = s.answer c .ok 0 64 l ∧ l.length = 64 ∧ l.take 4 = [BitVec.ofNat 8 (s.slot 1 0).state.code, BitVec.ofNat 8 (s.slot 1 1).state.code, BitVec.ofNat 8 (s.slot 2 0).state.code, BitVec.ofNat 8 (s.slot 2 1).state.code]))

/-- The step in terms of `exec`. That an empty queue idles is the model’s choice (log entry 3). -/
def Obligations.StepRunsFront : Prop :=
  (∀ (c : Instr) (rest : List Instr) (s : State), s.pending = c :: rest → step s = exec c { s with pending := rest }) ∧
  (∀ (s : State), s.pending = [] → step s = .next s)

/-- R89, each reset with the conditions under which it acts (R47, R52, R470, R475). -/
def Obligations.ResetsLeaveD0 : Prop :=
  (∀ (straps : Straps), Completes (.powerOnReset · straps) (fun _ => True) (fun _ s' => OnlyD0 s')) ∧
  (∀ (lowNs : Nat) (straps : Straps), Completes (.pinReset · lowNs straps) (fun s => 10000 ≤ lowNs ∧ s.dev.thermTrip = false) (fun _ s' => OnlyD0 s')) ∧
  (∀ (host : Nat) (value : Nat), Completes (.devResetFull · host value) (fun s => s.resetWrite host value 1 = true) (fun _ s' => OnlyD0 s')) ∧
  (∀ (host : Nat) (value : Nat), Completes (.devResetDataPlane · host value) (fun _ => True) (fun s s' => s'.dom.domains = s.dom.domains ∧ s'.dom.owner = s.dom.owner))

/-- The invariants at reset. -/
def Obligations.InvariantsAtReset : Prop :=
  (DomainsOk State.reset ∧ LogOk State.reset)

/-- DomainsOk is kept by every step (R88, R89, R93, R94, R97–R99). -/
def Obligations.DomainsKept : Prop :=
  (∀ (s s' : State), DomainsOk s → step s = .next s' → DomainsOk s')

/-- LogOk is kept by every step (R444, R426). -/
def Obligations.LogKept : Prop :=
  (∀ (s s' : State), LogOk s → step s = .next s' → LogOk s')

/-- Steps 1 to 4 of R74 for every command row, with R33, R78 and R79: the state beside the reply is the one before. -/
def Obligations.ChecksAnswer : Prop :=
  (∀ (i : Instr) (t code : Nat) (c : Cmd) (s : State) (x : Started) (e : Err), i.command = some (t, code, c) → (s.at_ t).startedAs c = some x → c.opcode = code → x.working = false → (s.at_ t).basecampUp = true → ((s.at_ t).waits c && !x.busy) = false → (0x0502 ≤ code → code ≤ 0x0508 → (s.at_ t).tables.dma = none) → frameErr x c .any = some e → ∃ (st : Status) (d r : Nat), exec i s = .next ((s.at_ t).answer c st d r []) ∧ (e.status ≠ .wrongMode → st = e.status ∧ d = e.detail) ∧ (e.status = .wrongMode → st = .wrongMode ∨ st = .denied) ∧ (st = .denied → d = 0 ∧ r = 0)) ∧
  (∀ (i : Instr) (t code : Nat) (c : Cmd) (s : State), i.command = some (t, code, c) → (s.at_ t).startedAs c = none → exec i s = .next (s.at_ t))

/-- The frame of the 187 rows that act on one part of the state beside the host side: nothing in another part changes. -/
def Obligations.RowsKeepOtherParts : Prop :=
  (∀ (i : Instr) (p : Part) (s s' : State), partOf i = some p → exec i s = .next s' → s'.pending = s.pending ∧ ∀ q : Part, q ≠ p → q ≠ .host → q.same s s')

/-- R445: what a domain reads of the fault log, and that the other records cannot show in it. -/
def Obligations.FaultLogSecrecy : Prop :=
  (∀ (c : Cmd), Completes (.faultLogRead · c) (fun s => ready s c 0x1100 .any = true ∧ c.needReply = none ∧ 1 ≤ c.u8 20 ∧ c.u8 20 ≤ 32 ∧ c.zeros 21 43 = none ∧ c.domain = 0) (fun s s' => ∃ d, s' = s.answer c .ok d (32 * ((s.units.log.filter fun r => c.u32 16 ≤ r.seq).take (c.u8 20)).length) (((s.units.log.filter fun r => c.u32 16 ≤ r.seq).take (c.u8 20)).flatMap Rec.bytes))) ∧
  (∀ (c : Cmd), Completes (.faultLogRead · c) (fun s => ready s c 0x1100 .any = true ∧ c.needReply = none ∧ 1 ≤ c.u8 20 ∧ c.u8 20 ≤ 32 ∧ c.zeros 21 43 = none ∧ c.domain ≠ 0) (fun s s' => ∃ d, s' = s.answer c .ok d (32 * ((s.units.log.filter fun r => c.u32 16 ≤ r.seq && bit r.mask c.domain).take (c.u8 20)).length) (((s.units.log.filter fun r => c.u32 16 ≤ r.seq && bit r.mask c.domain).take (c.u8 20)).flatMap Rec.bytes))) ∧
  (∀ (t : Nat) (c : Cmd) (s1 s2 : State), ready (s1.at_ t) c 0x1100 .any = true → c.needReply = none → 1 ≤ c.u8 20 → c.u8 20 ≤ 32 → c.zeros 21 43 = none → ready (s2.at_ t) c 0x1100 .any = true → (s1.units.log.filter fun r => c.domain = 0 || bit r.mask c.domain) = (s2.units.log.filter fun r => c.domain = 0 || bit r.mask c.domain) → s1.units.lastSeq = s2.units.lastSeq → s1.units.log.length = s2.units.log.length → ∃ (d r : Nat) (b : Bytes), exec (.faultLogRead t c) s1 = .next ((s1.at_ t).answer c .ok d r b) ∧ exec (.faultLogRead t c) s2 = .next ((s2.at_ t).answer c .ok d r b))
end

