-- ==== Sys2Proof/Laws/Sparse.lean ====
section
/-! SUPPORT. Sparse tables: a read after a write, the canonical form, and folds of updates. -/

namespace Sys2Proof

variable {α σ β : Type}

@[simp] theorem look_nil (k : Nat) (d : α) : look ([] : Sparse α) k d = d := rfl

theorem look_drop_same (m : Sparse α) (k : Nat) (d : α) : look (drop m k) k d = d := by
  induction m with
  | nil => rfl
  | cons r t ih =>
    obtain ⟨i, a⟩ := r
    by_cases h : i = k <;> simp [drop, look, h, ih]

theorem look_drop_ne (m : Sparse α) {k j : Nat} (h : j ≠ k) (d : α) : look (drop m k) j d = look m j d := by
  induction m with
  | nil => rfl
  | cons r t ih =>
    obtain ⟨i, a⟩ := r
    by_cases hi : i = k
    · have : ¬ i = j := fun e => h (e.symm.trans hi)
      simp [drop, look, hi, ih]; intro e; exact absurd (hi.trans e) this
    · simp only [drop, hi, if_false, look, ih]

theorem look_insertRow_same (m : Sparse α) (k : Nat) (v d : α) (h : ∀ r ∈ m, r.1 ≠ k) : look (insertRow m k v) k d = v := by
  induction m with
  | nil => simp [insertRow, look]
  | cons r t ih =>
    obtain ⟨i, a⟩ := r
    have hi : i ≠ k := h (i, a) (by simp)
    have ht : ∀ r ∈ t, r.1 ≠ k := fun r hr => h r (List.mem_cons_of_mem _ hr)
    by_cases hlt : i < k <;> simp [insertRow, look, hlt, hi, ih ht]

theorem look_insertRow_ne (m : Sparse α) {k j : Nat} (h : j ≠ k) (v d : α) : look (insertRow m k v) j d = look m j d := by
  induction m with
  | nil => simp [insertRow, look, Ne.symm h]
  | cons r t ih =>
    obtain ⟨i, a⟩ := r
    by_cases hlt : i < k
    · simp only [insertRow, hlt, if_true, look, ih]
    · simp [insertRow, hlt, look, Ne.symm h]

theorem ne_of_mem_drop (m : Sparse α) (k : Nat) : ∀ r ∈ drop m k, r.1 ≠ k := by
  induction m with
  | nil => intro r h; cases h
  | cons r t ih =>
    obtain ⟨i, a⟩ := r
    by_cases hi : i = k
    · simpa [drop, hi] using ih
    · intro r hr
      simp only [drop, hi, if_false, List.mem_cons] at hr
      rcases hr with rfl | hr
      · exact hi
      · exact ih r hr

/-- A read of the row that was written gives what was written. -/
@[simp] theorem look_put_same [DecidableEq α] (m : Sparse α) (k : Nat) (d v : α) : look (put m k d v) k d = v := by
  unfold put
  split
  · rename_i h; rw [look_drop_same, h]
  · exact look_insertRow_same _ _ _ _ (ne_of_mem_drop m k)

/-- A write leaves every other row alone. -/
theorem look_put_ne [DecidableEq α] (m : Sparse α) {k j : Nat} (h : j ≠ k) (d v e : α) : look (put m k d v) j e = look m j e := by
  unfold put
  split
  · exact look_drop_ne m h e
  · rw [look_insertRow_ne _ h, look_drop_ne m h]

/-- Both cases of a read after a write. -/
theorem look_put [DecidableEq α] (m : Sparse α) (k j : Nat) (d v : α) : look (put m k d v) j d = if j = k then v else look m j d := by
  by_cases h : j = k
  · subst h; simp
  · simp [h, look_put_ne m h]

theorem mem_drop {m : Sparse α} {k : Nat} {r : Nat × α} (h : r ∈ drop m k) : r ∈ m := by
  induction m with
  | nil => cases h
  | cons x t ih =>
    obtain ⟨i, a⟩ := x
    by_cases hi : i = k
    · exact List.mem_cons_of_mem _ (ih (by simpa [drop, hi] using h))
    · simp only [drop, hi, if_false, List.mem_cons] at h
      rcases h with rfl | h
      · simp
      · exact List.mem_cons_of_mem _ (ih h)

theorem mem_insertRow {m : Sparse α} {k : Nat} {v : α} {r : Nat × α} (h : r ∈ insertRow m k v) : r = (k, v) ∨ r ∈ m := by
  induction m with
  | nil => left; simpa [insertRow] using h
  | cons x t ih =>
    obtain ⟨i, a⟩ := x
    by_cases hi : i < k
    · simp only [insertRow, hi, if_true, List.mem_cons] at h
      rcases h with rfl | h
      · right; simp
      · rcases ih h with e | e
        · exact .inl e
        · exact .inr (List.mem_cons_of_mem _ e)
    · simp only [insertRow, hi, if_false, List.mem_cons] at h
      rcases h with rfl | rfl | h
      · exact .inl rfl
      · right; simp
      · exact .inr (List.mem_cons_of_mem _ h)

theorem canon_cons [DecidableEq α] (d : α) (i : Nat) (a : α) (t : Sparse α) :
    canon d ((i, a) :: t) = true ↔ a ≠ d ∧ (∀ r ∈ t, i < r.1) ∧ canon d t = true := by
  simp [canon, and_assoc]

theorem canon_drop [DecidableEq α] (d : α) (m : Sparse α) (k : Nat) (h : canon d m = true) : canon d (drop m k) = true := by
  induction m with
  | nil => rfl
  | cons r t ih =>
    obtain ⟨i, a⟩ := r
    rw [canon_cons] at h
    by_cases hi : i = k
    · simpa [drop, hi] using ih h.2.2
    · simp only [drop, hi, if_false]
      rw [canon_cons]
      exact ⟨h.1, fun r hr => h.2.1 r (mem_drop hr), ih h.2.2⟩

theorem canon_insertRow [DecidableEq α] (d : α) (m : Sparse α) (k : Nat) (v : α) (hv : v ≠ d) (hk : ∀ r ∈ m, r.1 ≠ k)
    (h : canon d m = true) : canon d (insertRow m k v) = true := by
  induction m with
  | nil => simp [insertRow, canon, hv]
  | cons r t ih =>
    obtain ⟨i, a⟩ := r
    rw [canon_cons] at h
    have hi : i ≠ k := hk (i, a) (by simp)
    have ht : ∀ r ∈ t, r.1 ≠ k := fun r hr => hk r (List.mem_cons_of_mem _ hr)
    by_cases hlt : i < k
    · simp only [insertRow, hlt, if_true]
      rw [canon_cons]
      refine ⟨h.1, fun r hr => ?_, ih ht h.2.2⟩
      rcases mem_insertRow hr with rfl | hr
      · exact hlt
      · exact h.2.1 r hr
    · simp only [insertRow, hlt, if_false]
      rw [canon_cons, canon_cons]
      refine ⟨hv, fun r hr => ?_, h⟩
      rcases List.mem_cons.1 hr with rfl | hr
      · exact Nat.lt_of_le_of_ne (Nat.le_of_not_lt hlt) (Ne.symm hi)
      · exact Nat.lt_of_le_of_lt (Nat.le_of_not_lt hlt) (h.2.1 r hr)

/-- A write keeps the canonical form. -/
theorem canon_put [DecidableEq α] (m : Sparse α) (k : Nat) (d v : α) (h : canon d m = true) : canon d (put m k d v) = true := by
  unfold put
  split
  · exact canon_drop d m k h
  · rename_i hv
    exact canon_insertRow d _ k v hv (ne_of_mem_drop m k) (canon_drop d m k h)

/-- A selection of rows keeps the canonical form. -/
theorem canon_keepRows [DecidableEq α] (d : α) (m : Sparse α) (p : Nat → α → Bool) (h : canon d m = true) :
    canon d (keepRows m p) = true := by
  induction m with
  | nil => rfl
  | cons r t ih =>
    obtain ⟨i, a⟩ := r
    rw [canon_cons] at h
    by_cases hp : p i a = true
    · simp only [keepRows, List.filter_cons, hp, if_true]
      rw [canon_cons]
      exact ⟨h.1, fun r hr => h.2.1 r ((List.mem_filter.1 hr).1), ih h.2.2⟩
    · simpa [keepRows, List.filter_cons, hp] using ih h.2.2

/-- What every update of a fold keeps, the fold keeps. -/
theorem each_keeps (f : β → σ → σ) (g : σ → α) (h : ∀ a s, g (f a s) = g s) (l : List β) (s : σ) : g (each f l s) = g s := by
  induction l generalizing s with
  | nil => rfl
  | cons a t ih => rw [each, ih, h]

/-- An invariant that every update of a fold keeps, the fold keeps. -/
theorem each_inv (f : β → σ → σ) (P : σ → Prop) (h : ∀ a s, P s → P (f a s)) (l : List β) (s : σ) (hs : P s) : P (each f l s) := by
  induction l generalizing s with
  | nil => exact hs
  | cons a t ih => exact ih _ (h a s hs)

@[simp] theorem each_nil (f : β → σ → σ) (s : σ) : each f [] s = s := rfl
@[simp] theorem each_cons (f : β → σ → σ) (a : β) (t : List β) (s : σ) : each f (a :: t) s = each f t (f a s) := rfl

end Sys2Proof
end

