-- ==== Sys2Proof/Laws/State.lean ====
section
/-! SUPPORT. What each update of one part of the state leaves alone (every other field), and what a read of the part
gives after it. -/

namespace Sys2Proof.Machine

@[simp] theorem State.setHostPort_rest (s : State) (h : Nat) (p : HostPort) :
    (s.setHostPort h p).now = s.now ∧ (s.setHostPort h p).free = s.free ∧ (s.setHostPort h p).pending = s.pending ∧ (s.setHostPort h p).dev = s.dev ∧
    (s.setHostPort h p).units = s.units ∧ (s.setHostPort h p).dom = s.dom ∧ (s.setHostPort h p).lant = s.lant ∧ (s.setHostPort h p).ports = s.ports ∧
    (s.setHostPort h p).eli = s.eli ∧ (s.setHostPort h p).pkts = s.pkts ∧ (s.setHostPort h p).nextPkt = s.nextPkt ∧ (s.setHostPort h p).parse = s.parse ∧
    (s.setHostPort h p).tables = s.tables ∧ (s.setHostPort h p).assoc = s.assoc ∧ (s.setHostPort h p).eng = s.eng ∧ (s.setHostPort h p).scout = s.scout ∧
    (s.setHostPort h p).act = s.act ∧ (s.setHostPort h p).buf = s.buf ∧ (s.setHostPort h p).tm = s.tm ∧ (s.setHostPort h p).pol = s.pol ∧
    (s.setHostPort h p).fab = s.fab ∧ (s.setHostPort h p).cipher = s.cipher ∧ (s.setHostPort h p).pon = s.pon ∧ (s.setHostPort h p).dram = s.dram ∧
    (s.setHostPort h p).fw = s.fw ∧ (s.setHostPort h p).time = s.time :=
  by and_intros <;> rfl
@[simp] theorem State.setHostPort_same (s : State) (h : Nat) (p : HostPort) : (s.setHostPort h p).hostPort h = p := look_put_same _ _ _ _
theorem State.setHostPort_hostPort (s : State) (h : Nat) (p : HostPort) (j : Nat) : (s.setHostPort h p).hostPort j = if j = h then p else s.hostPort j := look_put _ _ _ _ _

@[simp] theorem State.setRing_rest (s : State) (h r : Nat) (g : Ring) :
    (s.setRing h r g).now = s.now ∧ (s.setRing h r g).free = s.free ∧ (s.setRing h r g).pending = s.pending ∧ (s.setRing h r g).dev = s.dev ∧
    (s.setRing h r g).units = s.units ∧ (s.setRing h r g).dom = s.dom ∧ (s.setRing h r g).lant = s.lant ∧ (s.setRing h r g).ports = s.ports ∧
    (s.setRing h r g).eli = s.eli ∧ (s.setRing h r g).pkts = s.pkts ∧ (s.setRing h r g).nextPkt = s.nextPkt ∧ (s.setRing h r g).parse = s.parse ∧
    (s.setRing h r g).tables = s.tables ∧ (s.setRing h r g).assoc = s.assoc ∧ (s.setRing h r g).eng = s.eng ∧ (s.setRing h r g).scout = s.scout ∧
    (s.setRing h r g).act = s.act ∧ (s.setRing h r g).buf = s.buf ∧ (s.setRing h r g).tm = s.tm ∧ (s.setRing h r g).pol = s.pol ∧
    (s.setRing h r g).fab = s.fab ∧ (s.setRing h r g).cipher = s.cipher ∧ (s.setRing h r g).pon = s.pon ∧ (s.setRing h r g).dram = s.dram ∧
    (s.setRing h r g).fw = s.fw ∧ (s.setRing h r g).time = s.time :=
  by and_intros <;> rfl
@[simp] theorem State.setRing_same (s : State) (h r : Nat) (g : Ring) : (s.setRing h r g).ring h r = g := look_put_same _ _ _ _

@[simp] theorem State.setPort_rest (s : State) (p : Nat) (x : Port) :
    (s.setPort p x).now = s.now ∧ (s.setPort p x).free = s.free ∧ (s.setPort p x).pending = s.pending ∧ (s.setPort p x).dev = s.dev ∧
    (s.setPort p x).units = s.units ∧ (s.setPort p x).host = s.host ∧ (s.setPort p x).dom = s.dom ∧ (s.setPort p x).lant = s.lant ∧
    (s.setPort p x).eli = s.eli ∧ (s.setPort p x).pkts = s.pkts ∧ (s.setPort p x).nextPkt = s.nextPkt ∧ (s.setPort p x).parse = s.parse ∧
    (s.setPort p x).tables = s.tables ∧ (s.setPort p x).assoc = s.assoc ∧ (s.setPort p x).eng = s.eng ∧ (s.setPort p x).scout = s.scout ∧
    (s.setPort p x).act = s.act ∧ (s.setPort p x).buf = s.buf ∧ (s.setPort p x).tm = s.tm ∧ (s.setPort p x).pol = s.pol ∧
    (s.setPort p x).fab = s.fab ∧ (s.setPort p x).cipher = s.cipher ∧ (s.setPort p x).pon = s.pon ∧ (s.setPort p x).dram = s.dram ∧
    (s.setPort p x).fw = s.fw ∧ (s.setPort p x).time = s.time :=
  by and_intros <;> rfl
@[simp] theorem State.setPort_same (s : State) (p : Nat) (x : Port) : (s.setPort p x).port p = x := look_put_same _ _ _ _
theorem State.setPort_port (s : State) (p : Nat) (x : Port) (j : Nat) : (s.setPort p x).port j = if j = p then x else s.port j := look_put _ _ _ _ _

@[simp] theorem State.setLane_rest (s : State) (l : Nat) (x : Lane) :
    (s.setLane l x).now = s.now ∧ (s.setLane l x).free = s.free ∧ (s.setLane l x).pending = s.pending ∧ (s.setLane l x).dev = s.dev ∧
    (s.setLane l x).units = s.units ∧ (s.setLane l x).host = s.host ∧ (s.setLane l x).dom = s.dom ∧ (s.setLane l x).lant = s.lant ∧
    (s.setLane l x).eli = s.eli ∧ (s.setLane l x).pkts = s.pkts ∧ (s.setLane l x).nextPkt = s.nextPkt ∧ (s.setLane l x).parse = s.parse ∧
    (s.setLane l x).tables = s.tables ∧ (s.setLane l x).assoc = s.assoc ∧ (s.setLane l x).eng = s.eng ∧ (s.setLane l x).scout = s.scout ∧
    (s.setLane l x).act = s.act ∧ (s.setLane l x).buf = s.buf ∧ (s.setLane l x).tm = s.tm ∧ (s.setLane l x).pol = s.pol ∧
    (s.setLane l x).fab = s.fab ∧ (s.setLane l x).cipher = s.cipher ∧ (s.setLane l x).pon = s.pon ∧ (s.setLane l x).dram = s.dram ∧
    (s.setLane l x).fw = s.fw ∧ (s.setLane l x).time = s.time :=
  by and_intros <;> rfl
@[simp] theorem State.setLane_same (s : State) (l : Nat) (x : Lane) : (s.setLane l x).lane l = x := look_put_same _ _ _ _
theorem State.setLane_lane (s : State) (l : Nat) (x : Lane) (j : Nat) : (s.setLane l x).lane j = if j = l then x else s.lane j := look_put _ _ _ _ _

@[simp] theorem State.setDomain_rest (s : State) (d : Nat) (x : Domain) :
    (s.setDomain d x).now = s.now ∧ (s.setDomain d x).free = s.free ∧ (s.setDomain d x).pending = s.pending ∧ (s.setDomain d x).dev = s.dev ∧
    (s.setDomain d x).units = s.units ∧ (s.setDomain d x).host = s.host ∧ (s.setDomain d x).lant = s.lant ∧ (s.setDomain d x).ports = s.ports ∧
    (s.setDomain d x).eli = s.eli ∧ (s.setDomain d x).pkts = s.pkts ∧ (s.setDomain d x).nextPkt = s.nextPkt ∧ (s.setDomain d x).parse = s.parse ∧
    (s.setDomain d x).tables = s.tables ∧ (s.setDomain d x).assoc = s.assoc ∧ (s.setDomain d x).eng = s.eng ∧ (s.setDomain d x).scout = s.scout ∧
    (s.setDomain d x).act = s.act ∧ (s.setDomain d x).buf = s.buf ∧ (s.setDomain d x).tm = s.tm ∧ (s.setDomain d x).pol = s.pol ∧
    (s.setDomain d x).fab = s.fab ∧ (s.setDomain d x).cipher = s.cipher ∧ (s.setDomain d x).pon = s.pon ∧ (s.setDomain d x).dram = s.dram ∧
    (s.setDomain d x).fw = s.fw ∧ (s.setDomain d x).time = s.time :=
  by and_intros <;> rfl
@[simp] theorem State.setDomain_same (s : State) (d : Nat) (x : Domain) : (s.setDomain d x).domain d = x := look_put_same _ _ _ _
theorem State.setDomain_domain (s : State) (d : Nat) (x : Domain) (j : Nat) : (s.setDomain d x).domain j = if j = d then x else s.domain j := look_put _ _ _ _ _

@[simp] theorem State.setWindow_rest (s : State) (h page : Nat) (w : WinPage) :
    (s.setWindow h page w).now = s.now ∧ (s.setWindow h page w).free = s.free ∧ (s.setWindow h page w).pending = s.pending ∧ (s.setWindow h page w).dev = s.dev ∧
    (s.setWindow h page w).units = s.units ∧ (s.setWindow h page w).dom = s.dom ∧ (s.setWindow h page w).lant = s.lant ∧ (s.setWindow h page w).ports = s.ports ∧
    (s.setWindow h page w).eli = s.eli ∧ (s.setWindow h page w).pkts = s.pkts ∧ (s.setWindow h page w).nextPkt = s.nextPkt ∧ (s.setWindow h page w).parse = s.parse ∧
    (s.setWindow h page w).tables = s.tables ∧ (s.setWindow h page w).assoc = s.assoc ∧ (s.setWindow h page w).eng = s.eng ∧ (s.setWindow h page w).scout = s.scout ∧
    (s.setWindow h page w).act = s.act ∧ (s.setWindow h page w).buf = s.buf ∧ (s.setWindow h page w).tm = s.tm ∧ (s.setWindow h page w).pol = s.pol ∧
    (s.setWindow h page w).fab = s.fab ∧ (s.setWindow h page w).cipher = s.cipher ∧ (s.setWindow h page w).pon = s.pon ∧ (s.setWindow h page w).dram = s.dram ∧
    (s.setWindow h page w).fw = s.fw ∧ (s.setWindow h page w).time = s.time :=
  by and_intros <;> rfl

@[simp] theorem State.setRegionWord_rest (s : State) (region off v : Nat) :
    (s.setRegionWord region off v).now = s.now ∧ (s.setRegionWord region off v).free = s.free ∧ (s.setRegionWord region off v).pending = s.pending ∧ (s.setRegionWord region off v).dev = s.dev ∧
    (s.setRegionWord region off v).units = s.units ∧ (s.setRegionWord region off v).dom = s.dom ∧ (s.setRegionWord region off v).lant = s.lant ∧ (s.setRegionWord region off v).ports = s.ports ∧
    (s.setRegionWord region off v).eli = s.eli ∧ (s.setRegionWord region off v).pkts = s.pkts ∧ (s.setRegionWord region off v).nextPkt = s.nextPkt ∧ (s.setRegionWord region off v).parse = s.parse ∧
    (s.setRegionWord region off v).tables = s.tables ∧ (s.setRegionWord region off v).assoc = s.assoc ∧ (s.setRegionWord region off v).eng = s.eng ∧ (s.setRegionWord region off v).scout = s.scout ∧
    (s.setRegionWord region off v).act = s.act ∧ (s.setRegionWord region off v).buf = s.buf ∧ (s.setRegionWord region off v).tm = s.tm ∧ (s.setRegionWord region off v).pol = s.pol ∧
    (s.setRegionWord region off v).fab = s.fab ∧ (s.setRegionWord region off v).cipher = s.cipher ∧ (s.setRegionWord region off v).pon = s.pon ∧ (s.setRegionWord region off v).dram = s.dram ∧
    (s.setRegionWord region off v).fw = s.fw ∧ (s.setRegionWord region off v).time = s.time :=
  by and_intros <;> rfl

@[simp] theorem State.setPool_rest (s : State) (p : Nat) (x : Pool) :
    (s.setPool p x).now = s.now ∧ (s.setPool p x).free = s.free ∧ (s.setPool p x).pending = s.pending ∧ (s.setPool p x).dev = s.dev ∧
    (s.setPool p x).units = s.units ∧ (s.setPool p x).host = s.host ∧ (s.setPool p x).dom = s.dom ∧ (s.setPool p x).lant = s.lant ∧
    (s.setPool p x).ports = s.ports ∧ (s.setPool p x).eli = s.eli ∧ (s.setPool p x).pkts = s.pkts ∧ (s.setPool p x).nextPkt = s.nextPkt ∧
    (s.setPool p x).parse = s.parse ∧ (s.setPool p x).tables = s.tables ∧ (s.setPool p x).assoc = s.assoc ∧ (s.setPool p x).eng = s.eng ∧
    (s.setPool p x).scout = s.scout ∧ (s.setPool p x).act = s.act ∧ (s.setPool p x).tm = s.tm ∧ (s.setPool p x).pol = s.pol ∧
    (s.setPool p x).fab = s.fab ∧ (s.setPool p x).cipher = s.cipher ∧ (s.setPool p x).pon = s.pon ∧ (s.setPool p x).dram = s.dram ∧
    (s.setPool p x).fw = s.fw ∧ (s.setPool p x).time = s.time :=
  by and_intros <;> rfl
@[simp] theorem State.setPool_same (s : State) (p : Nat) (x : Pool) : (s.setPool p x).pool p = x := look_put_same _ _ _ _
theorem State.setPool_pool (s : State) (p : Nat) (x : Pool) (j : Nat) : (s.setPool p x).pool j = if j = p then x else s.pool j := look_put _ _ _ _ _

@[simp] theorem State.setAccount_rest (s : State) (a : Nat) (x : Account) :
    (s.setAccount a x).now = s.now ∧ (s.setAccount a x).free = s.free ∧ (s.setAccount a x).pending = s.pending ∧ (s.setAccount a x).dev = s.dev ∧
    (s.setAccount a x).units = s.units ∧ (s.setAccount a x).host = s.host ∧ (s.setAccount a x).dom = s.dom ∧ (s.setAccount a x).lant = s.lant ∧
    (s.setAccount a x).ports = s.ports ∧ (s.setAccount a x).eli = s.eli ∧ (s.setAccount a x).pkts = s.pkts ∧ (s.setAccount a x).nextPkt = s.nextPkt ∧
    (s.setAccount a x).parse = s.parse ∧ (s.setAccount a x).tables = s.tables ∧ (s.setAccount a x).assoc = s.assoc ∧ (s.setAccount a x).eng = s.eng ∧
    (s.setAccount a x).scout = s.scout ∧ (s.setAccount a x).act = s.act ∧ (s.setAccount a x).tm = s.tm ∧ (s.setAccount a x).pol = s.pol ∧
    (s.setAccount a x).fab = s.fab ∧ (s.setAccount a x).cipher = s.cipher ∧ (s.setAccount a x).pon = s.pon ∧ (s.setAccount a x).dram = s.dram ∧
    (s.setAccount a x).fw = s.fw ∧ (s.setAccount a x).time = s.time :=
  by and_intros <;> rfl
@[simp] theorem State.setAccount_same (s : State) (a : Nat) (x : Account) : (s.setAccount a x).account a = x := look_put_same _ _ _ _
theorem State.setAccount_account (s : State) (a : Nat) (x : Account) (j : Nat) : (s.setAccount a x).account j = if j = a then x else s.account j := look_put _ _ _ _ _

@[simp] theorem State.setCell_rest (s : State) (a : Nat) (x : CellState) :
    (s.setCell a x).now = s.now ∧ (s.setCell a x).free = s.free ∧ (s.setCell a x).pending = s.pending ∧ (s.setCell a x).dev = s.dev ∧
    (s.setCell a x).units = s.units ∧ (s.setCell a x).host = s.host ∧ (s.setCell a x).dom = s.dom ∧ (s.setCell a x).lant = s.lant ∧
    (s.setCell a x).ports = s.ports ∧ (s.setCell a x).eli = s.eli ∧ (s.setCell a x).pkts = s.pkts ∧ (s.setCell a x).nextPkt = s.nextPkt ∧
    (s.setCell a x).parse = s.parse ∧ (s.setCell a x).tables = s.tables ∧ (s.setCell a x).assoc = s.assoc ∧ (s.setCell a x).eng = s.eng ∧
    (s.setCell a x).scout = s.scout ∧ (s.setCell a x).act = s.act ∧ (s.setCell a x).tm = s.tm ∧ (s.setCell a x).pol = s.pol ∧
    (s.setCell a x).fab = s.fab ∧ (s.setCell a x).cipher = s.cipher ∧ (s.setCell a x).pon = s.pon ∧ (s.setCell a x).dram = s.dram ∧
    (s.setCell a x).fw = s.fw ∧ (s.setCell a x).time = s.time :=
  by and_intros <;> rfl
@[simp] theorem State.setCell_same (s : State) (a : Nat) (x : CellState) : (s.setCell a x).cell a = x := look_put_same _ _ _ _
theorem State.setCell_cell (s : State) (a : Nat) (x : CellState) (j : Nat) : (s.setCell a x).cell j = if j = a then x else s.cell j := look_put _ _ _ _ _

@[simp] theorem State.setQueue_rest (s : State) (q : Nat) (x : Queue) :
    (s.setQueue q x).now = s.now ∧ (s.setQueue q x).free = s.free ∧ (s.setQueue q x).pending = s.pending ∧ (s.setQueue q x).dev = s.dev ∧
    (s.setQueue q x).units = s.units ∧ (s.setQueue q x).host = s.host ∧ (s.setQueue q x).dom = s.dom ∧ (s.setQueue q x).lant = s.lant ∧
    (s.setQueue q x).ports = s.ports ∧ (s.setQueue q x).eli = s.eli ∧ (s.setQueue q x).pkts = s.pkts ∧ (s.setQueue q x).nextPkt = s.nextPkt ∧
    (s.setQueue q x).parse = s.parse ∧ (s.setQueue q x).tables = s.tables ∧ (s.setQueue q x).assoc = s.assoc ∧ (s.setQueue q x).eng = s.eng ∧
    (s.setQueue q x).scout = s.scout ∧ (s.setQueue q x).act = s.act ∧ (s.setQueue q x).buf = s.buf ∧ (s.setQueue q x).pol = s.pol ∧
    (s.setQueue q x).fab = s.fab ∧ (s.setQueue q x).cipher = s.cipher ∧ (s.setQueue q x).pon = s.pon ∧ (s.setQueue q x).dram = s.dram ∧
    (s.setQueue q x).fw = s.fw ∧ (s.setQueue q x).time = s.time :=
  by and_intros <;> rfl
@[simp] theorem State.setQueue_same (s : State) (q : Nat) (x : Queue) : (s.setQueue q x).queue q = x := look_put_same _ _ _ _
theorem State.setQueue_queue (s : State) (q : Nat) (x : Queue) (j : Nat) : (s.setQueue q x).queue j = if j = q then x else s.queue j := look_put _ _ _ _ _

@[simp] theorem State.setPkt_rest (s : State) (k : Nat) (x : Packet) :
    (s.setPkt k x).now = s.now ∧ (s.setPkt k x).free = s.free ∧ (s.setPkt k x).pending = s.pending ∧ (s.setPkt k x).dev = s.dev ∧
    (s.setPkt k x).units = s.units ∧ (s.setPkt k x).host = s.host ∧ (s.setPkt k x).dom = s.dom ∧ (s.setPkt k x).lant = s.lant ∧
    (s.setPkt k x).ports = s.ports ∧ (s.setPkt k x).eli = s.eli ∧ (s.setPkt k x).nextPkt = s.nextPkt ∧ (s.setPkt k x).parse = s.parse ∧
    (s.setPkt k x).tables = s.tables ∧ (s.setPkt k x).assoc = s.assoc ∧ (s.setPkt k x).eng = s.eng ∧ (s.setPkt k x).scout = s.scout ∧
    (s.setPkt k x).act = s.act ∧ (s.setPkt k x).buf = s.buf ∧ (s.setPkt k x).tm = s.tm ∧ (s.setPkt k x).pol = s.pol ∧
    (s.setPkt k x).fab = s.fab ∧ (s.setPkt k x).cipher = s.cipher ∧ (s.setPkt k x).pon = s.pon ∧ (s.setPkt k x).dram = s.dram ∧
    (s.setPkt k x).fw = s.fw ∧ (s.setPkt k x).time = s.time :=
  by and_intros <;> rfl
@[simp] theorem State.setPkt_same (s : State) (k : Nat) (x : Packet) : (s.setPkt k x).pkt k = x := look_put_same _ _ _ _
theorem State.setPkt_pkt (s : State) (k : Nat) (x : Packet) (j : Nat) : (s.setPkt k x).pkt j = if j = k then x else s.pkt j := look_put _ _ _ _ _

@[simp] theorem State.setWriter_rest (s : State) (r : Nat) (w : Writer) :
    (s.setWriter r w).now = s.now ∧ (s.setWriter r w).free = s.free ∧ (s.setWriter r w).pending = s.pending ∧ (s.setWriter r w).dev = s.dev ∧
    (s.setWriter r w).units = s.units ∧ (s.setWriter r w).host = s.host ∧ (s.setWriter r w).dom = s.dom ∧ (s.setWriter r w).lant = s.lant ∧
    (s.setWriter r w).ports = s.ports ∧ (s.setWriter r w).eli = s.eli ∧ (s.setWriter r w).pkts = s.pkts ∧ (s.setWriter r w).nextPkt = s.nextPkt ∧
    (s.setWriter r w).parse = s.parse ∧ (s.setWriter r w).tables = s.tables ∧ (s.setWriter r w).assoc = s.assoc ∧ (s.setWriter r w).eng = s.eng ∧
    (s.setWriter r w).scout = s.scout ∧ (s.setWriter r w).act = s.act ∧ (s.setWriter r w).tm = s.tm ∧ (s.setWriter r w).pol = s.pol ∧
    (s.setWriter r w).fab = s.fab ∧ (s.setWriter r w).cipher = s.cipher ∧ (s.setWriter r w).pon = s.pon ∧ (s.setWriter r w).dram = s.dram ∧
    (s.setWriter r w).fw = s.fw ∧ (s.setWriter r w).time = s.time :=
  by and_intros <;> rfl
@[simp] theorem State.setWriter_same (s : State) (r : Nat) (w : Writer) : (s.setWriter r w).writer r = w := look_put_same _ _ _ _
theorem State.setWriter_writer (s : State) (r : Nat) (w : Writer) (j : Nat) : (s.setWriter r w).writer j = if j = r then w else s.writer j := look_put _ _ _ _ _

@[simp] theorem State.setPage_rest (s : State) (p : Nat) (x : FarPage) :
    (s.setPage p x).now = s.now ∧ (s.setPage p x).free = s.free ∧ (s.setPage p x).pending = s.pending ∧ (s.setPage p x).dev = s.dev ∧
    (s.setPage p x).units = s.units ∧ (s.setPage p x).host = s.host ∧ (s.setPage p x).dom = s.dom ∧ (s.setPage p x).lant = s.lant ∧
    (s.setPage p x).ports = s.ports ∧ (s.setPage p x).eli = s.eli ∧ (s.setPage p x).pkts = s.pkts ∧ (s.setPage p x).nextPkt = s.nextPkt ∧
    (s.setPage p x).parse = s.parse ∧ (s.setPage p x).tables = s.tables ∧ (s.setPage p x).assoc = s.assoc ∧ (s.setPage p x).eng = s.eng ∧
    (s.setPage p x).scout = s.scout ∧ (s.setPage p x).act = s.act ∧ (s.setPage p x).tm = s.tm ∧ (s.setPage p x).pol = s.pol ∧
    (s.setPage p x).fab = s.fab ∧ (s.setPage p x).cipher = s.cipher ∧ (s.setPage p x).pon = s.pon ∧ (s.setPage p x).dram = s.dram ∧
    (s.setPage p x).fw = s.fw ∧ (s.setPage p x).time = s.time :=
  by and_intros <;> rfl

@[simp] theorem State.setArray_rest (s : State) (k : Nat) (x : AArray) :
    (s.setArray k x).now = s.now ∧ (s.setArray k x).free = s.free ∧ (s.setArray k x).pending = s.pending ∧ (s.setArray k x).dev = s.dev ∧
    (s.setArray k x).units = s.units ∧ (s.setArray k x).host = s.host ∧ (s.setArray k x).dom = s.dom ∧ (s.setArray k x).lant = s.lant ∧
    (s.setArray k x).ports = s.ports ∧ (s.setArray k x).eli = s.eli ∧ (s.setArray k x).pkts = s.pkts ∧ (s.setArray k x).nextPkt = s.nextPkt ∧
    (s.setArray k x).parse = s.parse ∧ (s.setArray k x).tables = s.tables ∧ (s.setArray k x).eng = s.eng ∧ (s.setArray k x).scout = s.scout ∧
    (s.setArray k x).act = s.act ∧ (s.setArray k x).buf = s.buf ∧ (s.setArray k x).tm = s.tm ∧ (s.setArray k x).pol = s.pol ∧
    (s.setArray k x).fab = s.fab ∧ (s.setArray k x).cipher = s.cipher ∧ (s.setArray k x).pon = s.pon ∧ (s.setArray k x).dram = s.dram ∧
    (s.setArray k x).fw = s.fw ∧ (s.setArray k x).time = s.time :=
  by and_intros <;> rfl
@[simp] theorem State.setArray_same (s : State) (k : Nat) (x : AArray) : (s.setArray k x).array k = x := look_put_same _ _ _ _
theorem State.setArray_array (s : State) (k : Nat) (x : AArray) (j : Nat) : (s.setArray k x).array j = if j = k then x else s.array j := look_put _ _ _ _ _

@[simp] theorem State.setArow_rest (s : State) (b r : Nat) (x : ARow) :
    (s.setArow b r x).now = s.now ∧ (s.setArow b r x).free = s.free ∧ (s.setArow b r x).pending = s.pending ∧ (s.setArow b r x).dev = s.dev ∧
    (s.setArow b r x).units = s.units ∧ (s.setArow b r x).host = s.host ∧ (s.setArow b r x).dom = s.dom ∧ (s.setArow b r x).lant = s.lant ∧
    (s.setArow b r x).ports = s.ports ∧ (s.setArow b r x).eli = s.eli ∧ (s.setArow b r x).pkts = s.pkts ∧ (s.setArow b r x).nextPkt = s.nextPkt ∧
    (s.setArow b r x).parse = s.parse ∧ (s.setArow b r x).tables = s.tables ∧ (s.setArow b r x).eng = s.eng ∧ (s.setArow b r x).scout = s.scout ∧
    (s.setArow b r x).act = s.act ∧ (s.setArow b r x).buf = s.buf ∧ (s.setArow b r x).tm = s.tm ∧ (s.setArow b r x).pol = s.pol ∧
    (s.setArow b r x).fab = s.fab ∧ (s.setArow b r x).cipher = s.cipher ∧ (s.setArow b r x).pon = s.pon ∧ (s.setArow b r x).dram = s.dram ∧
    (s.setArow b r x).fw = s.fw ∧ (s.setArow b r x).time = s.time :=
  by and_intros <;> rfl
@[simp] theorem State.setArow_same (s : State) (b r : Nat) (x : ARow) : (s.setArow b r x).arow b r = x := look_put_same _ _ _ _

@[simp] theorem State.setAblock_rest (s : State) (b : Nat) (x : ABlock) :
    (s.setAblock b x).now = s.now ∧ (s.setAblock b x).free = s.free ∧ (s.setAblock b x).pending = s.pending ∧ (s.setAblock b x).dev = s.dev ∧
    (s.setAblock b x).units = s.units ∧ (s.setAblock b x).host = s.host ∧ (s.setAblock b x).dom = s.dom ∧ (s.setAblock b x).lant = s.lant ∧
    (s.setAblock b x).ports = s.ports ∧ (s.setAblock b x).eli = s.eli ∧ (s.setAblock b x).pkts = s.pkts ∧ (s.setAblock b x).nextPkt = s.nextPkt ∧
    (s.setAblock b x).parse = s.parse ∧ (s.setAblock b x).tables = s.tables ∧ (s.setAblock b x).eng = s.eng ∧ (s.setAblock b x).scout = s.scout ∧
    (s.setAblock b x).act = s.act ∧ (s.setAblock b x).buf = s.buf ∧ (s.setAblock b x).tm = s.tm ∧ (s.setAblock b x).pol = s.pol ∧
    (s.setAblock b x).fab = s.fab ∧ (s.setAblock b x).cipher = s.cipher ∧ (s.setAblock b x).pon = s.pon ∧ (s.setAblock b x).dram = s.dram ∧
    (s.setAblock b x).fw = s.fw ∧ (s.setAblock b x).time = s.time :=
  by and_intros <;> rfl
@[simp] theorem State.setAblock_same (s : State) (b : Nat) (x : ABlock) : (s.setAblock b x).ablock b = x := look_put_same _ _ _ _
theorem State.setAblock_ablock (s : State) (b : Nat) (x : ABlock) (j : Nat) : (s.setAblock b x).ablock j = if j = b then x else s.ablock j := look_put _ _ _ _ _

@[simp] theorem State.setList_rest (s : State) (ptr : Nat) (l : Bytes) :
    (s.setList ptr l).now = s.now ∧ (s.setList ptr l).free = s.free ∧ (s.setList ptr l).pending = s.pending ∧ (s.setList ptr l).dev = s.dev ∧
    (s.setList ptr l).units = s.units ∧ (s.setList ptr l).host = s.host ∧ (s.setList ptr l).dom = s.dom ∧ (s.setList ptr l).lant = s.lant ∧
    (s.setList ptr l).ports = s.ports ∧ (s.setList ptr l).eli = s.eli ∧ (s.setList ptr l).pkts = s.pkts ∧ (s.setList ptr l).nextPkt = s.nextPkt ∧
    (s.setList ptr l).parse = s.parse ∧ (s.setList ptr l).tables = s.tables ∧ (s.setList ptr l).assoc = s.assoc ∧ (s.setList ptr l).eng = s.eng ∧
    (s.setList ptr l).scout = s.scout ∧ (s.setList ptr l).buf = s.buf ∧ (s.setList ptr l).tm = s.tm ∧ (s.setList ptr l).pol = s.pol ∧
    (s.setList ptr l).fab = s.fab ∧ (s.setList ptr l).cipher = s.cipher ∧ (s.setList ptr l).pon = s.pon ∧ (s.setList ptr l).dram = s.dram ∧
    (s.setList ptr l).fw = s.fw ∧ (s.setList ptr l).time = s.time :=
  by and_intros <;> rfl

@[simp] theorem State.setTunnelQueue_rest (s : State) (u : Nat) (l : List Nat) :
    (s.setTunnelQueue u l).now = s.now ∧ (s.setTunnelQueue u l).free = s.free ∧ (s.setTunnelQueue u l).pending = s.pending ∧ (s.setTunnelQueue u l).dev = s.dev ∧
    (s.setTunnelQueue u l).units = s.units ∧ (s.setTunnelQueue u l).host = s.host ∧ (s.setTunnelQueue u l).dom = s.dom ∧ (s.setTunnelQueue u l).lant = s.lant ∧
    (s.setTunnelQueue u l).ports = s.ports ∧ (s.setTunnelQueue u l).eli = s.eli ∧ (s.setTunnelQueue u l).pkts = s.pkts ∧ (s.setTunnelQueue u l).nextPkt = s.nextPkt ∧
    (s.setTunnelQueue u l).parse = s.parse ∧ (s.setTunnelQueue u l).tables = s.tables ∧ (s.setTunnelQueue u l).assoc = s.assoc ∧ (s.setTunnelQueue u l).eng = s.eng ∧
    (s.setTunnelQueue u l).scout = s.scout ∧ (s.setTunnelQueue u l).act = s.act ∧ (s.setTunnelQueue u l).buf = s.buf ∧ (s.setTunnelQueue u l).tm = s.tm ∧
    (s.setTunnelQueue u l).pol = s.pol ∧ (s.setTunnelQueue u l).fab = s.fab ∧ (s.setTunnelQueue u l).pon = s.pon ∧ (s.setTunnelQueue u l).dram = s.dram ∧
    (s.setTunnelQueue u l).fw = s.fw ∧ (s.setTunnelQueue u l).time = s.time :=
  by and_intros <;> rfl

@[simp] theorem State.setMacSa_rest (s : State) (k : Nat) (x : MacSa) :
    (s.setMacSa k x).now = s.now ∧ (s.setMacSa k x).free = s.free ∧ (s.setMacSa k x).pending = s.pending ∧ (s.setMacSa k x).dev = s.dev ∧
    (s.setMacSa k x).units = s.units ∧ (s.setMacSa k x).host = s.host ∧ (s.setMacSa k x).dom = s.dom ∧ (s.setMacSa k x).lant = s.lant ∧
    (s.setMacSa k x).ports = s.ports ∧ (s.setMacSa k x).eli = s.eli ∧ (s.setMacSa k x).pkts = s.pkts ∧ (s.setMacSa k x).nextPkt = s.nextPkt ∧
    (s.setMacSa k x).parse = s.parse ∧ (s.setMacSa k x).tables = s.tables ∧ (s.setMacSa k x).assoc = s.assoc ∧ (s.setMacSa k x).eng = s.eng ∧
    (s.setMacSa k x).scout = s.scout ∧ (s.setMacSa k x).act = s.act ∧ (s.setMacSa k x).buf = s.buf ∧ (s.setMacSa k x).tm = s.tm ∧
    (s.setMacSa k x).pol = s.pol ∧ (s.setMacSa k x).fab = s.fab ∧ (s.setMacSa k x).pon = s.pon ∧ (s.setMacSa k x).dram = s.dram ∧
    (s.setMacSa k x).fw = s.fw ∧ (s.setMacSa k x).time = s.time :=
  by and_intros <;> rfl
@[simp] theorem State.setMacSa_same (s : State) (k : Nat) (x : MacSa) : (s.setMacSa k x).macSa k = x := look_put_same _ _ _ _
theorem State.setMacSa_macSa (s : State) (k : Nat) (x : MacSa) (j : Nat) : (s.setMacSa k x).macSa j = if j = k then x else s.macSa j := look_put _ _ _ _ _

@[simp] theorem State.setTunSa_rest (s : State) (k : Nat) (x : TunSa) :
    (s.setTunSa k x).now = s.now ∧ (s.setTunSa k x).free = s.free ∧ (s.setTunSa k x).pending = s.pending ∧ (s.setTunSa k x).dev = s.dev ∧
    (s.setTunSa k x).units = s.units ∧ (s.setTunSa k x).host = s.host ∧ (s.setTunSa k x).dom = s.dom ∧ (s.setTunSa k x).lant = s.lant ∧
    (s.setTunSa k x).ports = s.ports ∧ (s.setTunSa k x).eli = s.eli ∧ (s.setTunSa k x).pkts = s.pkts ∧ (s.setTunSa k x).nextPkt = s.nextPkt ∧
    (s.setTunSa k x).parse = s.parse ∧ (s.setTunSa k x).tables = s.tables ∧ (s.setTunSa k x).assoc = s.assoc ∧ (s.setTunSa k x).eng = s.eng ∧
    (s.setTunSa k x).scout = s.scout ∧ (s.setTunSa k x).act = s.act ∧ (s.setTunSa k x).buf = s.buf ∧ (s.setTunSa k x).tm = s.tm ∧
    (s.setTunSa k x).pol = s.pol ∧ (s.setTunSa k x).fab = s.fab ∧ (s.setTunSa k x).pon = s.pon ∧ (s.setTunSa k x).dram = s.dram ∧
    (s.setTunSa k x).fw = s.fw ∧ (s.setTunSa k x).time = s.time :=
  by and_intros <;> rfl
@[simp] theorem State.setTunSa_same (s : State) (k : Nat) (x : TunSa) : (s.setTunSa k x).tunSa k = x := look_put_same _ _ _ _
theorem State.setTunSa_tunSa (s : State) (k : Nat) (x : TunSa) (j : Nat) : (s.setTunSa k x).tunSa j = if j = k then x else s.tunSa j := look_put _ _ _ _ _

@[simp] theorem State.setCport_rest (s : State) (p : Nat) (x : CipherPort) :
    (s.setCport p x).now = s.now ∧ (s.setCport p x).free = s.free ∧ (s.setCport p x).pending = s.pending ∧ (s.setCport p x).dev = s.dev ∧
    (s.setCport p x).units = s.units ∧ (s.setCport p x).host = s.host ∧ (s.setCport p x).dom = s.dom ∧ (s.setCport p x).lant = s.lant ∧
    (s.setCport p x).ports = s.ports ∧ (s.setCport p x).eli = s.eli ∧ (s.setCport p x).pkts = s.pkts ∧ (s.setCport p x).nextPkt = s.nextPkt ∧
    (s.setCport p x).parse = s.parse ∧ (s.setCport p x).tables = s.tables ∧ (s.setCport p x).assoc = s.assoc ∧ (s.setCport p x).eng = s.eng ∧
    (s.setCport p x).scout = s.scout ∧ (s.setCport p x).act = s.act ∧ (s.setCport p x).buf = s.buf ∧ (s.setCport p x).tm = s.tm ∧
    (s.setCport p x).pol = s.pol ∧ (s.setCport p x).fab = s.fab ∧ (s.setCport p x).pon = s.pon ∧ (s.setCport p x).dram = s.dram ∧
    (s.setCport p x).fw = s.fw ∧ (s.setCport p x).time = s.time :=
  by and_intros <;> rfl
@[simp] theorem State.setCport_same (s : State) (p : Nat) (x : CipherPort) : (s.setCport p x).cport p = x := look_put_same _ _ _ _
theorem State.setCport_cport (s : State) (p : Nat) (x : CipherPort) (j : Nat) : (s.setCport p x).cport j = if j = p then x else s.cport j := look_put _ _ _ _ _

@[simp] theorem State.setCunit_rest (s : State) (u : Nat) (x : CipherUnit) :
    (s.setCunit u x).now = s.now ∧ (s.setCunit u x).free = s.free ∧ (s.setCunit u x).pending = s.pending ∧ (s.setCunit u x).dev = s.dev ∧
    (s.setCunit u x).units = s.units ∧ (s.setCunit u x).host = s.host ∧ (s.setCunit u x).dom = s.dom ∧ (s.setCunit u x).lant = s.lant ∧
    (s.setCunit u x).ports = s.ports ∧ (s.setCunit u x).eli = s.eli ∧ (s.setCunit u x).pkts = s.pkts ∧ (s.setCunit u x).nextPkt = s.nextPkt ∧
    (s.setCunit u x).parse = s.parse ∧ (s.setCunit u x).tables = s.tables ∧ (s.setCunit u x).assoc = s.assoc ∧ (s.setCunit u x).eng = s.eng ∧
    (s.setCunit u x).scout = s.scout ∧ (s.setCunit u x).act = s.act ∧ (s.setCunit u x).buf = s.buf ∧ (s.setCunit u x).tm = s.tm ∧
    (s.setCunit u x).pol = s.pol ∧ (s.setCunit u x).fab = s.fab ∧ (s.setCunit u x).pon = s.pon ∧ (s.setCunit u x).dram = s.dram ∧
    (s.setCunit u x).fw = s.fw ∧ (s.setCunit u x).time = s.time :=
  by and_intros <;> rfl
@[simp] theorem State.setCunit_same (s : State) (u : Nat) (x : CipherUnit) : (s.setCunit u x).cunit u = x := look_put_same _ _ _ _
theorem State.setCunit_cunit (s : State) (u : Nat) (x : CipherUnit) (j : Nat) : (s.setCunit u x).cunit j = if j = u then x else s.cunit j := look_put _ _ _ _ _

@[simp] theorem State.setReplacing_rest (s : State) (port : Nat) (rx on : Bool) :
    (s.setReplacing port rx on).now = s.now ∧ (s.setReplacing port rx on).free = s.free ∧ (s.setReplacing port rx on).pending = s.pending ∧ (s.setReplacing port rx on).dev = s.dev ∧
    (s.setReplacing port rx on).units = s.units ∧ (s.setReplacing port rx on).host = s.host ∧ (s.setReplacing port rx on).dom = s.dom ∧ (s.setReplacing port rx on).lant = s.lant ∧
    (s.setReplacing port rx on).ports = s.ports ∧ (s.setReplacing port rx on).eli = s.eli ∧ (s.setReplacing port rx on).pkts = s.pkts ∧ (s.setReplacing port rx on).nextPkt = s.nextPkt ∧
    (s.setReplacing port rx on).parse = s.parse ∧ (s.setReplacing port rx on).tables = s.tables ∧ (s.setReplacing port rx on).assoc = s.assoc ∧ (s.setReplacing port rx on).eng = s.eng ∧
    (s.setReplacing port rx on).scout = s.scout ∧ (s.setReplacing port rx on).act = s.act ∧ (s.setReplacing port rx on).buf = s.buf ∧ (s.setReplacing port rx on).tm = s.tm ∧
    (s.setReplacing port rx on).pol = s.pol ∧ (s.setReplacing port rx on).fab = s.fab ∧ (s.setReplacing port rx on).pon = s.pon ∧ (s.setReplacing port rx on).dram = s.dram ∧
    (s.setReplacing port rx on).fw = s.fw ∧ (s.setReplacing port rx on).time = s.time :=
  by and_intros <;> rfl

@[simp] theorem State.setTree_rest (s : State) (k : Nat) (x : Tree) :
    (s.setTree k x).now = s.now ∧ (s.setTree k x).free = s.free ∧ (s.setTree k x).pending = s.pending ∧ (s.setTree k x).dev = s.dev ∧
    (s.setTree k x).units = s.units ∧ (s.setTree k x).host = s.host ∧ (s.setTree k x).dom = s.dom ∧ (s.setTree k x).lant = s.lant ∧
    (s.setTree k x).ports = s.ports ∧ (s.setTree k x).eli = s.eli ∧ (s.setTree k x).pkts = s.pkts ∧ (s.setTree k x).nextPkt = s.nextPkt ∧
    (s.setTree k x).tables = s.tables ∧ (s.setTree k x).assoc = s.assoc ∧ (s.setTree k x).eng = s.eng ∧ (s.setTree k x).scout = s.scout ∧
    (s.setTree k x).act = s.act ∧ (s.setTree k x).buf = s.buf ∧ (s.setTree k x).tm = s.tm ∧ (s.setTree k x).pol = s.pol ∧
    (s.setTree k x).fab = s.fab ∧ (s.setTree k x).cipher = s.cipher ∧ (s.setTree k x).pon = s.pon ∧ (s.setTree k x).dram = s.dram ∧
    (s.setTree k x).fw = s.fw ∧ (s.setTree k x).time = s.time :=
  by and_intros <;> rfl
@[simp] theorem State.setTree_same (s : State) (k : Nat) (x : Tree) : (s.setTree k x).tree k = x := look_put_same _ _ _ _
theorem State.setTree_tree (s : State) (k : Nat) (x : Tree) (j : Nat) : (s.setTree k x).tree j = if j = k then x else s.tree j := look_put _ _ _ _ _

@[simp] theorem State.setAset_rest (s : State) (k : Nat) (x : AutoSet) :
    (s.setAset k x).now = s.now ∧ (s.setAset k x).free = s.free ∧ (s.setAset k x).pending = s.pending ∧ (s.setAset k x).dev = s.dev ∧
    (s.setAset k x).units = s.units ∧ (s.setAset k x).host = s.host ∧ (s.setAset k x).dom = s.dom ∧ (s.setAset k x).lant = s.lant ∧
    (s.setAset k x).ports = s.ports ∧ (s.setAset k x).eli = s.eli ∧ (s.setAset k x).pkts = s.pkts ∧ (s.setAset k x).nextPkt = s.nextPkt ∧
    (s.setAset k x).tables = s.tables ∧ (s.setAset k x).assoc = s.assoc ∧ (s.setAset k x).eng = s.eng ∧ (s.setAset k x).scout = s.scout ∧
    (s.setAset k x).act = s.act ∧ (s.setAset k x).buf = s.buf ∧ (s.setAset k x).tm = s.tm ∧ (s.setAset k x).pol = s.pol ∧
    (s.setAset k x).fab = s.fab ∧ (s.setAset k x).cipher = s.cipher ∧ (s.setAset k x).pon = s.pon ∧ (s.setAset k x).dram = s.dram ∧
    (s.setAset k x).fw = s.fw ∧ (s.setAset k x).time = s.time :=
  by and_intros <;> rfl
@[simp] theorem State.setAset_same (s : State) (k : Nat) (x : AutoSet) : (s.setAset k x).aset k = x := look_put_same _ _ _ _
theorem State.setAset_aset (s : State) (k : Nat) (x : AutoSet) (j : Nat) : (s.setAset k x).aset j = if j = k then x else s.aset j := look_put _ _ _ _ _

@[simp] theorem State.setStack_rest (s : State) (n : Nat) (x : Stack) :
    (s.setStack n x).now = s.now ∧ (s.setStack n x).free = s.free ∧ (s.setStack n x).pending = s.pending ∧ (s.setStack n x).dev = s.dev ∧
    (s.setStack n x).units = s.units ∧ (s.setStack n x).host = s.host ∧ (s.setStack n x).dom = s.dom ∧ (s.setStack n x).lant = s.lant ∧
    (s.setStack n x).ports = s.ports ∧ (s.setStack n x).eli = s.eli ∧ (s.setStack n x).pkts = s.pkts ∧ (s.setStack n x).nextPkt = s.nextPkt ∧
    (s.setStack n x).parse = s.parse ∧ (s.setStack n x).tables = s.tables ∧ (s.setStack n x).assoc = s.assoc ∧ (s.setStack n x).eng = s.eng ∧
    (s.setStack n x).scout = s.scout ∧ (s.setStack n x).act = s.act ∧ (s.setStack n x).buf = s.buf ∧ (s.setStack n x).tm = s.tm ∧
    (s.setStack n x).pol = s.pol ∧ (s.setStack n x).fab = s.fab ∧ (s.setStack n x).cipher = s.cipher ∧ (s.setStack n x).pon = s.pon ∧
    (s.setStack n x).fw = s.fw ∧ (s.setStack n x).time = s.time :=
  by and_intros <;> rfl
@[simp] theorem State.setStack_same (s : State) (n : Nat) (x : Stack) : (s.setStack n x).stack n = x := look_put_same _ _ _ _
theorem State.setStack_stack (s : State) (n : Nat) (x : Stack) (j : Nat) : (s.setStack n x).stack j = if j = n then x else s.stack j := look_put _ _ _ _ _

@[simp] theorem State.setEli_rest (s : State) (p : Nat) (x : Eli) :
    (s.setEli p x).now = s.now ∧ (s.setEli p x).free = s.free ∧ (s.setEli p x).pending = s.pending ∧ (s.setEli p x).dev = s.dev ∧
    (s.setEli p x).units = s.units ∧ (s.setEli p x).host = s.host ∧ (s.setEli p x).dom = s.dom ∧ (s.setEli p x).lant = s.lant ∧
    (s.setEli p x).ports = s.ports ∧ (s.setEli p x).pkts = s.pkts ∧ (s.setEli p x).nextPkt = s.nextPkt ∧ (s.setEli p x).parse = s.parse ∧
    (s.setEli p x).tables = s.tables ∧ (s.setEli p x).assoc = s.assoc ∧ (s.setEli p x).eng = s.eng ∧ (s.setEli p x).scout = s.scout ∧
    (s.setEli p x).act = s.act ∧ (s.setEli p x).buf = s.buf ∧ (s.setEli p x).tm = s.tm ∧ (s.setEli p x).pol = s.pol ∧
    (s.setEli p x).fab = s.fab ∧ (s.setEli p x).cipher = s.cipher ∧ (s.setEli p x).pon = s.pon ∧ (s.setEli p x).dram = s.dram ∧
    (s.setEli p x).fw = s.fw ∧ (s.setEli p x).time = s.time :=
  by and_intros <;> rfl
@[simp] theorem State.setEli_same (s : State) (p : Nat) (x : Eli) : (s.setEli p x).eliPort p = x := look_put_same _ _ _ _
theorem State.setEli_eliPort (s : State) (p : Nat) (x : Eli) (j : Nat) : (s.setEli p x).eliPort j = if j = p then x else s.eliPort j := look_put _ _ _ _ _

@[simp] theorem State.setExpress_rest (s : State) (k : Nat) (x : Express) :
    (s.setExpress k x).now = s.now ∧ (s.setExpress k x).free = s.free ∧ (s.setExpress k x).pending = s.pending ∧ (s.setExpress k x).dev = s.dev ∧
    (s.setExpress k x).units = s.units ∧ (s.setExpress k x).host = s.host ∧ (s.setExpress k x).dom = s.dom ∧ (s.setExpress k x).lant = s.lant ∧
    (s.setExpress k x).ports = s.ports ∧ (s.setExpress k x).pkts = s.pkts ∧ (s.setExpress k x).nextPkt = s.nextPkt ∧ (s.setExpress k x).parse = s.parse ∧
    (s.setExpress k x).tables = s.tables ∧ (s.setExpress k x).assoc = s.assoc ∧ (s.setExpress k x).eng = s.eng ∧ (s.setExpress k x).scout = s.scout ∧
    (s.setExpress k x).act = s.act ∧ (s.setExpress k x).buf = s.buf ∧ (s.setExpress k x).tm = s.tm ∧ (s.setExpress k x).pol = s.pol ∧
    (s.setExpress k x).fab = s.fab ∧ (s.setExpress k x).cipher = s.cipher ∧ (s.setExpress k x).pon = s.pon ∧ (s.setExpress k x).dram = s.dram ∧
    (s.setExpress k x).fw = s.fw ∧ (s.setExpress k x).time = s.time :=
  by and_intros <;> rfl
@[simp] theorem State.setExpress_same (s : State) (k : Nat) (x : Express) : (s.setExpress k x).express k = x := look_put_same _ _ _ _
theorem State.setExpress_express (s : State) (k : Nat) (x : Express) (j : Nat) : (s.setExpress k x).express j = if j = k then x else s.express j := look_put _ _ _ _ _

@[simp] theorem State.setWaiting_rest (s : State) (p : Nat) (l : List Nat) :
    (s.setWaiting p l).now = s.now ∧ (s.setWaiting p l).free = s.free ∧ (s.setWaiting p l).pending = s.pending ∧ (s.setWaiting p l).dev = s.dev ∧
    (s.setWaiting p l).units = s.units ∧ (s.setWaiting p l).host = s.host ∧ (s.setWaiting p l).dom = s.dom ∧ (s.setWaiting p l).lant = s.lant ∧
    (s.setWaiting p l).ports = s.ports ∧ (s.setWaiting p l).eli = s.eli ∧ (s.setWaiting p l).pkts = s.pkts ∧ (s.setWaiting p l).nextPkt = s.nextPkt ∧
    (s.setWaiting p l).tables = s.tables ∧ (s.setWaiting p l).assoc = s.assoc ∧ (s.setWaiting p l).eng = s.eng ∧ (s.setWaiting p l).scout = s.scout ∧
    (s.setWaiting p l).act = s.act ∧ (s.setWaiting p l).buf = s.buf ∧ (s.setWaiting p l).tm = s.tm ∧ (s.setWaiting p l).pol = s.pol ∧
    (s.setWaiting p l).fab = s.fab ∧ (s.setWaiting p l).cipher = s.cipher ∧ (s.setWaiting p l).pon = s.pon ∧ (s.setWaiting p l).dram = s.dram ∧
    (s.setWaiting p l).fw = s.fw ∧ (s.setWaiting p l).time = s.time :=
  by and_intros <;> rfl

@[simp] theorem State.setEntry_rest (s : State) (k : Nat) (b : Bytes) :
    (s.setEntry k b).now = s.now ∧ (s.setEntry k b).free = s.free ∧ (s.setEntry k b).pending = s.pending ∧ (s.setEntry k b).dev = s.dev ∧
    (s.setEntry k b).units = s.units ∧ (s.setEntry k b).host = s.host ∧ (s.setEntry k b).dom = s.dom ∧ (s.setEntry k b).lant = s.lant ∧
    (s.setEntry k b).ports = s.ports ∧ (s.setEntry k b).eli = s.eli ∧ (s.setEntry k b).pkts = s.pkts ∧ (s.setEntry k b).nextPkt = s.nextPkt ∧
    (s.setEntry k b).parse = s.parse ∧ (s.setEntry k b).tables = s.tables ∧ (s.setEntry k b).assoc = s.assoc ∧ (s.setEntry k b).scout = s.scout ∧
    (s.setEntry k b).act = s.act ∧ (s.setEntry k b).buf = s.buf ∧ (s.setEntry k b).tm = s.tm ∧ (s.setEntry k b).pol = s.pol ∧
    (s.setEntry k b).fab = s.fab ∧ (s.setEntry k b).cipher = s.cipher ∧ (s.setEntry k b).pon = s.pon ∧ (s.setEntry k b).dram = s.dram ∧
    (s.setEntry k b).fw = s.fw ∧ (s.setEntry k b).time = s.time :=
  by and_intros <;> rfl

@[simp] theorem State.setVoq_rest (s : State) (q : Nat) (v : Voq) :
    (s.setVoq q v).now = s.now ∧ (s.setVoq q v).free = s.free ∧ (s.setVoq q v).pending = s.pending ∧ (s.setVoq q v).dev = s.dev ∧
    (s.setVoq q v).units = s.units ∧ (s.setVoq q v).host = s.host ∧ (s.setVoq q v).dom = s.dom ∧ (s.setVoq q v).lant = s.lant ∧
    (s.setVoq q v).ports = s.ports ∧ (s.setVoq q v).eli = s.eli ∧ (s.setVoq q v).pkts = s.pkts ∧ (s.setVoq q v).nextPkt = s.nextPkt ∧
    (s.setVoq q v).parse = s.parse ∧ (s.setVoq q v).tables = s.tables ∧ (s.setVoq q v).assoc = s.assoc ∧ (s.setVoq q v).eng = s.eng ∧
    (s.setVoq q v).scout = s.scout ∧ (s.setVoq q v).act = s.act ∧ (s.setVoq q v).buf = s.buf ∧ (s.setVoq q v).tm = s.tm ∧
    (s.setVoq q v).pol = s.pol ∧ (s.setVoq q v).cipher = s.cipher ∧ (s.setVoq q v).pon = s.pon ∧ (s.setVoq q v).dram = s.dram ∧
    (s.setVoq q v).fw = s.fw ∧ (s.setVoq q v).time = s.time :=
  by and_intros <;> rfl
@[simp] theorem State.setVoq_same (s : State) (q : Nat) (v : Voq) : (s.setVoq q v).voq q = v := look_put_same _ _ _ _
theorem State.setVoq_voq (s : State) (q : Nat) (v : Voq) (j : Nat) : (s.setVoq q v).voq j = if j = q then v else s.voq j := look_put _ _ _ _ _

@[simp] theorem State.setFlink_rest (s : State) (l : Nat) (x : FabLink) :
    (s.setFlink l x).now = s.now ∧ (s.setFlink l x).free = s.free ∧ (s.setFlink l x).pending = s.pending ∧ (s.setFlink l x).dev = s.dev ∧
    (s.setFlink l x).units = s.units ∧ (s.setFlink l x).host = s.host ∧ (s.setFlink l x).dom = s.dom ∧ (s.setFlink l x).lant = s.lant ∧
    (s.setFlink l x).ports = s.ports ∧ (s.setFlink l x).eli = s.eli ∧ (s.setFlink l x).pkts = s.pkts ∧ (s.setFlink l x).nextPkt = s.nextPkt ∧
    (s.setFlink l x).parse = s.parse ∧ (s.setFlink l x).tables = s.tables ∧ (s.setFlink l x).assoc = s.assoc ∧ (s.setFlink l x).eng = s.eng ∧
    (s.setFlink l x).scout = s.scout ∧ (s.setFlink l x).act = s.act ∧ (s.setFlink l x).buf = s.buf ∧ (s.setFlink l x).tm = s.tm ∧
    (s.setFlink l x).pol = s.pol ∧ (s.setFlink l x).cipher = s.cipher ∧ (s.setFlink l x).pon = s.pon ∧ (s.setFlink l x).dram = s.dram ∧
    (s.setFlink l x).fw = s.fw ∧ (s.setFlink l x).time = s.time :=
  by and_intros <;> rfl
@[simp] theorem State.setFlink_same (s : State) (l : Nat) (x : FabLink) : (s.setFlink l x).flink l = x := look_put_same _ _ _ _
theorem State.setFlink_flink (s : State) (l : Nat) (x : FabLink) (j : Nat) : (s.setFlink l x).flink j = if j = l then x else s.flink j := look_put _ _ _ _ _

@[simp] theorem State.setRxPair_rest (s : State) (d : Nat) (x : RxPair) :
    (s.setRxPair d x).now = s.now ∧ (s.setRxPair d x).free = s.free ∧ (s.setRxPair d x).pending = s.pending ∧ (s.setRxPair d x).dev = s.dev ∧
    (s.setRxPair d x).units = s.units ∧ (s.setRxPair d x).host = s.host ∧ (s.setRxPair d x).dom = s.dom ∧ (s.setRxPair d x).lant = s.lant ∧
    (s.setRxPair d x).ports = s.ports ∧ (s.setRxPair d x).eli = s.eli ∧ (s.setRxPair d x).pkts = s.pkts ∧ (s.setRxPair d x).nextPkt = s.nextPkt ∧
    (s.setRxPair d x).parse = s.parse ∧ (s.setRxPair d x).tables = s.tables ∧ (s.setRxPair d x).assoc = s.assoc ∧ (s.setRxPair d x).eng = s.eng ∧
    (s.setRxPair d x).scout = s.scout ∧ (s.setRxPair d x).act = s.act ∧ (s.setRxPair d x).buf = s.buf ∧ (s.setRxPair d x).tm = s.tm ∧
    (s.setRxPair d x).pol = s.pol ∧ (s.setRxPair d x).cipher = s.cipher ∧ (s.setRxPair d x).pon = s.pon ∧ (s.setRxPair d x).dram = s.dram ∧
    (s.setRxPair d x).fw = s.fw ∧ (s.setRxPair d x).time = s.time :=
  by and_intros <;> rfl
@[simp] theorem State.setRxPair_same (s : State) (d : Nat) (x : RxPair) : (s.setRxPair d x).rxPair d = x := look_put_same _ _ _ _
theorem State.setRxPair_rxPair (s : State) (d : Nat) (x : RxPair) (j : Nat) : (s.setRxPair d x).rxPair j = if j = d then x else s.rxPair j := look_put _ _ _ _ _

@[simp] theorem State.setPortCredit_rest (s : State) (p : Nat) (x : PortCredit) :
    (s.setPortCredit p x).now = s.now ∧ (s.setPortCredit p x).free = s.free ∧ (s.setPortCredit p x).pending = s.pending ∧ (s.setPortCredit p x).dev = s.dev ∧
    (s.setPortCredit p x).units = s.units ∧ (s.setPortCredit p x).host = s.host ∧ (s.setPortCredit p x).dom = s.dom ∧ (s.setPortCredit p x).lant = s.lant ∧
    (s.setPortCredit p x).ports = s.ports ∧ (s.setPortCredit p x).eli = s.eli ∧ (s.setPortCredit p x).pkts = s.pkts ∧ (s.setPortCredit p x).nextPkt = s.nextPkt ∧
    (s.setPortCredit p x).parse = s.parse ∧ (s.setPortCredit p x).tables = s.tables ∧ (s.setPortCredit p x).assoc = s.assoc ∧ (s.setPortCredit p x).eng = s.eng ∧
    (s.setPortCredit p x).scout = s.scout ∧ (s.setPortCredit p x).act = s.act ∧ (s.setPortCredit p x).buf = s.buf ∧ (s.setPortCredit p x).tm = s.tm ∧
    (s.setPortCredit p x).pol = s.pol ∧ (s.setPortCredit p x).cipher = s.cipher ∧ (s.setPortCredit p x).pon = s.pon ∧ (s.setPortCredit p x).dram = s.dram ∧
    (s.setPortCredit p x).fw = s.fw ∧ (s.setPortCredit p x).time = s.time :=
  by and_intros <;> rfl
@[simp] theorem State.setPortCredit_same (s : State) (p : Nat) (x : PortCredit) : (s.setPortCredit p x).portCredit p = x := look_put_same _ _ _ _
theorem State.setPortCredit_portCredit (s : State) (p : Nat) (x : PortCredit) (j : Nat) : (s.setPortCredit p x).portCredit j = if j = p then x else s.portCredit j := look_put _ _ _ _ _

@[simp] theorem State.setSlot_rest (s : State) (ty n : Nat) (x : Slot) :
    (s.setSlot ty n x).now = s.now ∧ (s.setSlot ty n x).free = s.free ∧ (s.setSlot ty n x).pending = s.pending ∧ (s.setSlot ty n x).dev = s.dev ∧
    (s.setSlot ty n x).units = s.units ∧ (s.setSlot ty n x).host = s.host ∧ (s.setSlot ty n x).dom = s.dom ∧ (s.setSlot ty n x).lant = s.lant ∧
    (s.setSlot ty n x).ports = s.ports ∧ (s.setSlot ty n x).eli = s.eli ∧ (s.setSlot ty n x).pkts = s.pkts ∧ (s.setSlot ty n x).nextPkt = s.nextPkt ∧
    (s.setSlot ty n x).parse = s.parse ∧ (s.setSlot ty n x).tables = s.tables ∧ (s.setSlot ty n x).assoc = s.assoc ∧ (s.setSlot ty n x).eng = s.eng ∧
    (s.setSlot ty n x).scout = s.scout ∧ (s.setSlot ty n x).act = s.act ∧ (s.setSlot ty n x).buf = s.buf ∧ (s.setSlot ty n x).tm = s.tm ∧
    (s.setSlot ty n x).pol = s.pol ∧ (s.setSlot ty n x).fab = s.fab ∧ (s.setSlot ty n x).cipher = s.cipher ∧ (s.setSlot ty n x).pon = s.pon ∧
    (s.setSlot ty n x).dram = s.dram ∧ (s.setSlot ty n x).time = s.time :=
  by and_intros <;> rfl

@[simp] theorem State.setStop_rest (s : State) (toT : Bool) (i : Nat) (v : Bool) :
    (s.setStop toT i v).now = s.now ∧ (s.setStop toT i v).free = s.free ∧ (s.setStop toT i v).pending = s.pending ∧ (s.setStop toT i v).dev = s.dev ∧
    (s.setStop toT i v).host = s.host ∧ (s.setStop toT i v).dom = s.dom ∧ (s.setStop toT i v).lant = s.lant ∧ (s.setStop toT i v).ports = s.ports ∧
    (s.setStop toT i v).eli = s.eli ∧ (s.setStop toT i v).pkts = s.pkts ∧ (s.setStop toT i v).nextPkt = s.nextPkt ∧ (s.setStop toT i v).parse = s.parse ∧
    (s.setStop toT i v).tables = s.tables ∧ (s.setStop toT i v).assoc = s.assoc ∧ (s.setStop toT i v).eng = s.eng ∧ (s.setStop toT i v).scout = s.scout ∧
    (s.setStop toT i v).act = s.act ∧ (s.setStop toT i v).buf = s.buf ∧ (s.setStop toT i v).tm = s.tm ∧ (s.setStop toT i v).pol = s.pol ∧
    (s.setStop toT i v).fab = s.fab ∧ (s.setStop toT i v).cipher = s.cipher ∧ (s.setStop toT i v).pon = s.pon ∧ (s.setStop toT i v).dram = s.dram ∧
    (s.setStop toT i v).fw = s.fw ∧ (s.setStop toT i v).time = s.time :=
  by and_intros <;> rfl

@[simp] theorem State.setGroup_rest (s : State) (g : Nat) (x : Group) :
    (s.setGroup g x).now = s.now ∧ (s.setGroup g x).free = s.free ∧ (s.setGroup g x).pending = s.pending ∧ (s.setGroup g x).dev = s.dev ∧
    (s.setGroup g x).host = s.host ∧ (s.setGroup g x).dom = s.dom ∧ (s.setGroup g x).lant = s.lant ∧ (s.setGroup g x).ports = s.ports ∧
    (s.setGroup g x).eli = s.eli ∧ (s.setGroup g x).pkts = s.pkts ∧ (s.setGroup g x).nextPkt = s.nextPkt ∧ (s.setGroup g x).parse = s.parse ∧
    (s.setGroup g x).tables = s.tables ∧ (s.setGroup g x).assoc = s.assoc ∧ (s.setGroup g x).eng = s.eng ∧ (s.setGroup g x).scout = s.scout ∧
    (s.setGroup g x).act = s.act ∧ (s.setGroup g x).buf = s.buf ∧ (s.setGroup g x).tm = s.tm ∧ (s.setGroup g x).pol = s.pol ∧
    (s.setGroup g x).fab = s.fab ∧ (s.setGroup g x).cipher = s.cipher ∧ (s.setGroup g x).pon = s.pon ∧ (s.setGroup g x).dram = s.dram ∧
    (s.setGroup g x).fw = s.fw ∧ (s.setGroup g x).time = s.time :=
  by and_intros <;> rfl

@[simp] theorem State.setPipe_rest (s : State) (port : Nat) (l : List Nat) :
    (s.setPipe port l).now = s.now ∧ (s.setPipe port l).free = s.free ∧ (s.setPipe port l).pending = s.pending ∧ (s.setPipe port l).dev = s.dev ∧
    (s.setPipe port l).units = s.units ∧ (s.setPipe port l).host = s.host ∧ (s.setPipe port l).dom = s.dom ∧ (s.setPipe port l).lant = s.lant ∧
    (s.setPipe port l).eli = s.eli ∧ (s.setPipe port l).pkts = s.pkts ∧ (s.setPipe port l).nextPkt = s.nextPkt ∧ (s.setPipe port l).parse = s.parse ∧
    (s.setPipe port l).tables = s.tables ∧ (s.setPipe port l).assoc = s.assoc ∧ (s.setPipe port l).eng = s.eng ∧ (s.setPipe port l).scout = s.scout ∧
    (s.setPipe port l).act = s.act ∧ (s.setPipe port l).buf = s.buf ∧ (s.setPipe port l).tm = s.tm ∧ (s.setPipe port l).pol = s.pol ∧
    (s.setPipe port l).fab = s.fab ∧ (s.setPipe port l).cipher = s.cipher ∧ (s.setPipe port l).pon = s.pon ∧ (s.setPipe port l).dram = s.dram ∧
    (s.setPipe port l).fw = s.fw ∧ (s.setPipe port l).time = s.time :=
  by and_intros <;> rfl

@[simp] theorem State.setPolicer_rest (s : State) (k : Nat) (x : Policer) :
    (s.setPolicer k x).now = s.now ∧ (s.setPolicer k x).free = s.free ∧ (s.setPolicer k x).pending = s.pending ∧ (s.setPolicer k x).dev = s.dev ∧
    (s.setPolicer k x).units = s.units ∧ (s.setPolicer k x).host = s.host ∧ (s.setPolicer k x).dom = s.dom ∧ (s.setPolicer k x).lant = s.lant ∧
    (s.setPolicer k x).ports = s.ports ∧ (s.setPolicer k x).eli = s.eli ∧ (s.setPolicer k x).pkts = s.pkts ∧ (s.setPolicer k x).nextPkt = s.nextPkt ∧
    (s.setPolicer k x).parse = s.parse ∧ (s.setPolicer k x).tables = s.tables ∧ (s.setPolicer k x).assoc = s.assoc ∧ (s.setPolicer k x).eng = s.eng ∧
    (s.setPolicer k x).scout = s.scout ∧ (s.setPolicer k x).act = s.act ∧ (s.setPolicer k x).buf = s.buf ∧ (s.setPolicer k x).tm = s.tm ∧
    (s.setPolicer k x).fab = s.fab ∧ (s.setPolicer k x).cipher = s.cipher ∧ (s.setPolicer k x).pon = s.pon ∧ (s.setPolicer k x).dram = s.dram ∧
    (s.setPolicer k x).fw = s.fw ∧ (s.setPolicer k x).time = s.time :=
  by and_intros <;> rfl
@[simp] theorem State.setPolicer_same (s : State) (k : Nat) (x : Policer) : (s.setPolicer k x).policer k = x := look_put_same _ _ _ _
theorem State.setPolicer_policer (s : State) (k : Nat) (x : Policer) (j : Nat) : (s.setPolicer k x).policer j = if j = k then x else s.policer j := look_put _ _ _ _ _

@[simp] theorem State.setCprofile_rest (s : State) (k : Nat) (x : CongProfile) :
    (s.setCprofile k x).now = s.now ∧ (s.setCprofile k x).free = s.free ∧ (s.setCprofile k x).pending = s.pending ∧ (s.setCprofile k x).dev = s.dev ∧
    (s.setCprofile k x).units = s.units ∧ (s.setCprofile k x).host = s.host ∧ (s.setCprofile k x).dom = s.dom ∧ (s.setCprofile k x).lant = s.lant ∧
    (s.setCprofile k x).ports = s.ports ∧ (s.setCprofile k x).eli = s.eli ∧ (s.setCprofile k x).pkts = s.pkts ∧ (s.setCprofile k x).nextPkt = s.nextPkt ∧
    (s.setCprofile k x).parse = s.parse ∧ (s.setCprofile k x).tables = s.tables ∧ (s.setCprofile k x).assoc = s.assoc ∧ (s.setCprofile k x).eng = s.eng ∧
    (s.setCprofile k x).scout = s.scout ∧ (s.setCprofile k x).act = s.act ∧ (s.setCprofile k x).buf = s.buf ∧ (s.setCprofile k x).tm = s.tm ∧
    (s.setCprofile k x).fab = s.fab ∧ (s.setCprofile k x).cipher = s.cipher ∧ (s.setCprofile k x).pon = s.pon ∧ (s.setCprofile k x).dram = s.dram ∧
    (s.setCprofile k x).fw = s.fw ∧ (s.setCprofile k x).time = s.time :=
  by and_intros <;> rfl
@[simp] theorem State.setCprofile_same (s : State) (k : Nat) (x : CongProfile) : (s.setCprofile k x).cprofile k = x := look_put_same _ _ _ _
theorem State.setCprofile_cprofile (s : State) (k : Nat) (x : CongProfile) (j : Nat) : (s.setCprofile k x).cprofile j = if j = k then x else s.cprofile j := look_put _ _ _ _ _

@[simp] theorem State.setObserver_rest (s : State) (d : Nat) (x : Observer) :
    (s.setObserver d x).now = s.now ∧ (s.setObserver d x).free = s.free ∧ (s.setObserver d x).pending = s.pending ∧ (s.setObserver d x).dev = s.dev ∧
    (s.setObserver d x).units = s.units ∧ (s.setObserver d x).host = s.host ∧ (s.setObserver d x).dom = s.dom ∧ (s.setObserver d x).lant = s.lant ∧
    (s.setObserver d x).ports = s.ports ∧ (s.setObserver d x).eli = s.eli ∧ (s.setObserver d x).pkts = s.pkts ∧ (s.setObserver d x).nextPkt = s.nextPkt ∧
    (s.setObserver d x).parse = s.parse ∧ (s.setObserver d x).tables = s.tables ∧ (s.setObserver d x).assoc = s.assoc ∧ (s.setObserver d x).eng = s.eng ∧
    (s.setObserver d x).scout = s.scout ∧ (s.setObserver d x).act = s.act ∧ (s.setObserver d x).buf = s.buf ∧ (s.setObserver d x).tm = s.tm ∧
    (s.setObserver d x).fab = s.fab ∧ (s.setObserver d x).cipher = s.cipher ∧ (s.setObserver d x).pon = s.pon ∧ (s.setObserver d x).dram = s.dram ∧
    (s.setObserver d x).fw = s.fw ∧ (s.setObserver d x).time = s.time :=
  by and_intros <;> rfl
@[simp] theorem State.setObserver_same (s : State) (d : Nat) (x : Observer) : (s.setObserver d x).observer d = x := look_put_same _ _ _ _
theorem State.setObserver_observer (s : State) (d : Nat) (x : Observer) (j : Nat) : (s.setObserver d x).observer j = if j = d then x else s.observer j := look_put _ _ _ _ _

@[simp] theorem State.setPonTree_rest (s : State) (t : Nat) (x : PonTree) :
    (s.setPonTree t x).now = s.now ∧ (s.setPonTree t x).free = s.free ∧ (s.setPonTree t x).pending = s.pending ∧ (s.setPonTree t x).dev = s.dev ∧
    (s.setPonTree t x).units = s.units ∧ (s.setPonTree t x).host = s.host ∧ (s.setPonTree t x).dom = s.dom ∧ (s.setPonTree t x).lant = s.lant ∧
    (s.setPonTree t x).ports = s.ports ∧ (s.setPonTree t x).eli = s.eli ∧ (s.setPonTree t x).pkts = s.pkts ∧ (s.setPonTree t x).nextPkt = s.nextPkt ∧
    (s.setPonTree t x).parse = s.parse ∧ (s.setPonTree t x).tables = s.tables ∧ (s.setPonTree t x).assoc = s.assoc ∧ (s.setPonTree t x).eng = s.eng ∧
    (s.setPonTree t x).scout = s.scout ∧ (s.setPonTree t x).act = s.act ∧ (s.setPonTree t x).buf = s.buf ∧ (s.setPonTree t x).tm = s.tm ∧
    (s.setPonTree t x).pol = s.pol ∧ (s.setPonTree t x).fab = s.fab ∧ (s.setPonTree t x).cipher = s.cipher ∧ (s.setPonTree t x).dram = s.dram ∧
    (s.setPonTree t x).fw = s.fw ∧ (s.setPonTree t x).time = s.time :=
  by and_intros <;> rfl
@[simp] theorem State.setPonTree_same (s : State) (t : Nat) (x : PonTree) : (s.setPonTree t x).ponTree t = x := look_put_same _ _ _ _
theorem State.setPonTree_ponTree (s : State) (t : Nat) (x : PonTree) (j : Nat) : (s.setPonTree t x).ponTree j = if j = t then x else s.ponTree j := look_put _ _ _ _ _

@[simp] theorem State.setOnu_rest (s : State) (t i : Nat) (x : Onu) :
    (s.setOnu t i x).now = s.now ∧ (s.setOnu t i x).free = s.free ∧ (s.setOnu t i x).pending = s.pending ∧ (s.setOnu t i x).dev = s.dev ∧
    (s.setOnu t i x).units = s.units ∧ (s.setOnu t i x).host = s.host ∧ (s.setOnu t i x).dom = s.dom ∧ (s.setOnu t i x).lant = s.lant ∧
    (s.setOnu t i x).ports = s.ports ∧ (s.setOnu t i x).eli = s.eli ∧ (s.setOnu t i x).pkts = s.pkts ∧ (s.setOnu t i x).nextPkt = s.nextPkt ∧
    (s.setOnu t i x).parse = s.parse ∧ (s.setOnu t i x).tables = s.tables ∧ (s.setOnu t i x).assoc = s.assoc ∧ (s.setOnu t i x).eng = s.eng ∧
    (s.setOnu t i x).scout = s.scout ∧ (s.setOnu t i x).act = s.act ∧ (s.setOnu t i x).buf = s.buf ∧ (s.setOnu t i x).tm = s.tm ∧
    (s.setOnu t i x).pol = s.pol ∧ (s.setOnu t i x).fab = s.fab ∧ (s.setOnu t i x).cipher = s.cipher ∧ (s.setOnu t i x).dram = s.dram ∧
    (s.setOnu t i x).fw = s.fw ∧ (s.setOnu t i x).time = s.time :=
  by and_intros <;> rfl
@[simp] theorem State.setOnu_same (s : State) (t i : Nat) (x : Onu) : (s.setOnu t i x).onu t i = x := look_put_same _ _ _ _

@[simp] theorem State.setXgem_rest (s : State) (e : Nat) (x : XgemEntry) :
    (s.setXgem e x).now = s.now ∧ (s.setXgem e x).free = s.free ∧ (s.setXgem e x).pending = s.pending ∧ (s.setXgem e x).dev = s.dev ∧
    (s.setXgem e x).units = s.units ∧ (s.setXgem e x).host = s.host ∧ (s.setXgem e x).dom = s.dom ∧ (s.setXgem e x).lant = s.lant ∧
    (s.setXgem e x).ports = s.ports ∧ (s.setXgem e x).eli = s.eli ∧ (s.setXgem e x).pkts = s.pkts ∧ (s.setXgem e x).nextPkt = s.nextPkt ∧
    (s.setXgem e x).parse = s.parse ∧ (s.setXgem e x).tables = s.tables ∧ (s.setXgem e x).assoc = s.assoc ∧ (s.setXgem e x).eng = s.eng ∧
    (s.setXgem e x).scout = s.scout ∧ (s.setXgem e x).act = s.act ∧ (s.setXgem e x).buf = s.buf ∧ (s.setXgem e x).tm = s.tm ∧
    (s.setXgem e x).pol = s.pol ∧ (s.setXgem e x).fab = s.fab ∧ (s.setXgem e x).cipher = s.cipher ∧ (s.setXgem e x).dram = s.dram ∧
    (s.setXgem e x).fw = s.fw ∧ (s.setXgem e x).time = s.time :=
  by and_intros <;> rfl
@[simp] theorem State.setXgem_same (s : State) (e : Nat) (x : XgemEntry) : (s.setXgem e x).xgem e = x := look_put_same _ _ _ _
theorem State.setXgem_xgem (s : State) (e : Nat) (x : XgemEntry) (j : Nat) : (s.setXgem e x).xgem j = if j = e then x else s.xgem j := look_put _ _ _ _ _

@[simp] theorem State.setGrantEntry_rest (s : State) (e : Nat) (x : GrantEntry) :
    (s.setGrantEntry e x).now = s.now ∧ (s.setGrantEntry e x).free = s.free ∧ (s.setGrantEntry e x).pending = s.pending ∧ (s.setGrantEntry e x).dev = s.dev ∧
    (s.setGrantEntry e x).units = s.units ∧ (s.setGrantEntry e x).host = s.host ∧ (s.setGrantEntry e x).dom = s.dom ∧ (s.setGrantEntry e x).lant = s.lant ∧
    (s.setGrantEntry e x).ports = s.ports ∧ (s.setGrantEntry e x).eli = s.eli ∧ (s.setGrantEntry e x).pkts = s.pkts ∧ (s.setGrantEntry e x).nextPkt = s.nextPkt ∧
    (s.setGrantEntry e x).parse = s.parse ∧ (s.setGrantEntry e x).tables = s.tables ∧ (s.setGrantEntry e x).assoc = s.assoc ∧ (s.setGrantEntry e x).eng = s.eng ∧
    (s.setGrantEntry e x).scout = s.scout ∧ (s.setGrantEntry e x).act = s.act ∧ (s.setGrantEntry e x).buf = s.buf ∧ (s.setGrantEntry e x).tm = s.tm ∧
    (s.setGrantEntry e x).pol = s.pol ∧ (s.setGrantEntry e x).fab = s.fab ∧ (s.setGrantEntry e x).cipher = s.cipher ∧ (s.setGrantEntry e x).dram = s.dram ∧
    (s.setGrantEntry e x).fw = s.fw ∧ (s.setGrantEntry e x).time = s.time :=
  by and_intros <;> rfl
@[simp] theorem State.setGrantEntry_same (s : State) (e : Nat) (x : GrantEntry) : (s.setGrantEntry e x).grantEntry e = x := look_put_same _ _ _ _
theorem State.setGrantEntry_grantEntry (s : State) (e : Nat) (x : GrantEntry) (j : Nat) : (s.setGrantEntry e x).grantEntry j = if j = e then x else s.grantEntry j := look_put _ _ _ _ _

@[simp] theorem State.setNode_rest (s : State) (k : Nat) (x : Node) :
    (s.setNode k x).now = s.now ∧ (s.setNode k x).free = s.free ∧ (s.setNode k x).pending = s.pending ∧ (s.setNode k x).dev = s.dev ∧
    (s.setNode k x).units = s.units ∧ (s.setNode k x).host = s.host ∧ (s.setNode k x).dom = s.dom ∧ (s.setNode k x).lant = s.lant ∧
    (s.setNode k x).ports = s.ports ∧ (s.setNode k x).eli = s.eli ∧ (s.setNode k x).pkts = s.pkts ∧ (s.setNode k x).nextPkt = s.nextPkt ∧
    (s.setNode k x).parse = s.parse ∧ (s.setNode k x).tables = s.tables ∧ (s.setNode k x).assoc = s.assoc ∧ (s.setNode k x).eng = s.eng ∧
    (s.setNode k x).scout = s.scout ∧ (s.setNode k x).act = s.act ∧ (s.setNode k x).buf = s.buf ∧ (s.setNode k x).pol = s.pol ∧
    (s.setNode k x).fab = s.fab ∧ (s.setNode k x).cipher = s.cipher ∧ (s.setNode k x).pon = s.pon ∧ (s.setNode k x).dram = s.dram ∧
    (s.setNode k x).fw = s.fw ∧ (s.setNode k x).time = s.time :=
  by and_intros <;> rfl
@[simp] theorem State.setNode_same (s : State) (k : Nat) (x : Node) : (s.setNode k x).node k = x := look_put_same _ _ _ _
theorem State.setNode_node (s : State) (k : Nat) (x : Node) (j : Nat) : (s.setNode k x).node j = if j = k then x else s.node j := look_put _ _ _ _ _

@[simp] theorem State.setTable_rest (s : State) (k : Nat) (x : Table) :
    (s.setTable k x).now = s.now ∧ (s.setTable k x).free = s.free ∧ (s.setTable k x).pending = s.pending ∧ (s.setTable k x).dev = s.dev ∧
    (s.setTable k x).units = s.units ∧ (s.setTable k x).host = s.host ∧ (s.setTable k x).dom = s.dom ∧ (s.setTable k x).lant = s.lant ∧
    (s.setTable k x).ports = s.ports ∧ (s.setTable k x).eli = s.eli ∧ (s.setTable k x).pkts = s.pkts ∧ (s.setTable k x).nextPkt = s.nextPkt ∧
    (s.setTable k x).parse = s.parse ∧ (s.setTable k x).assoc = s.assoc ∧ (s.setTable k x).eng = s.eng ∧ (s.setTable k x).scout = s.scout ∧
    (s.setTable k x).act = s.act ∧ (s.setTable k x).buf = s.buf ∧ (s.setTable k x).tm = s.tm ∧ (s.setTable k x).pol = s.pol ∧
    (s.setTable k x).fab = s.fab ∧ (s.setTable k x).cipher = s.cipher ∧ (s.setTable k x).pon = s.pon ∧ (s.setTable k x).dram = s.dram ∧
    (s.setTable k x).fw = s.fw ∧ (s.setTable k x).time = s.time :=
  by and_intros <;> rfl
@[simp] theorem State.setTable_same (s : State) (k : Nat) (x : Table) : (s.setTable k x).table k = x := look_put_same _ _ _ _
theorem State.setTable_table (s : State) (k : Nat) (x : Table) (j : Nat) : (s.setTable k x).table j = if j = k then x else s.table j := look_put _ _ _ _ _

@[simp] theorem State.setThread_rest (s : State) (th : ThreadId) (x : Thread) :
    (s.setThread th x).now = s.now ∧ (s.setThread th x).free = s.free ∧ (s.setThread th x).pending = s.pending ∧ (s.setThread th x).dev = s.dev ∧
    (s.setThread th x).units = s.units ∧ (s.setThread th x).host = s.host ∧ (s.setThread th x).dom = s.dom ∧ (s.setThread th x).lant = s.lant ∧
    (s.setThread th x).ports = s.ports ∧ (s.setThread th x).eli = s.eli ∧ (s.setThread th x).pkts = s.pkts ∧ (s.setThread th x).nextPkt = s.nextPkt ∧
    (s.setThread th x).parse = s.parse ∧ (s.setThread th x).tables = s.tables ∧ (s.setThread th x).assoc = s.assoc ∧ (s.setThread th x).scout = s.scout ∧
    (s.setThread th x).act = s.act ∧ (s.setThread th x).buf = s.buf ∧ (s.setThread th x).tm = s.tm ∧ (s.setThread th x).pol = s.pol ∧
    (s.setThread th x).fab = s.fab ∧ (s.setThread th x).cipher = s.cipher ∧ (s.setThread th x).pon = s.pon ∧ (s.setThread th x).dram = s.dram ∧
    (s.setThread th x).fw = s.fw ∧ (s.setThread th x).time = s.time :=
  by and_intros <;> rfl
@[simp] theorem State.setThread_same (s : State) (th : ThreadId) (x : Thread) : (s.setThread th x).thread th = x := look_put_same _ _ _ _

@[simp] theorem State.setCluster_rest (s : State) (c : Nat) (x : Cluster) :
    (s.setCluster c x).now = s.now ∧ (s.setCluster c x).free = s.free ∧ (s.setCluster c x).pending = s.pending ∧ (s.setCluster c x).dev = s.dev ∧
    (s.setCluster c x).units = s.units ∧ (s.setCluster c x).host = s.host ∧ (s.setCluster c x).dom = s.dom ∧ (s.setCluster c x).lant = s.lant ∧
    (s.setCluster c x).ports = s.ports ∧ (s.setCluster c x).eli = s.eli ∧ (s.setCluster c x).pkts = s.pkts ∧ (s.setCluster c x).nextPkt = s.nextPkt ∧
    (s.setCluster c x).parse = s.parse ∧ (s.setCluster c x).tables = s.tables ∧ (s.setCluster c x).assoc = s.assoc ∧ (s.setCluster c x).scout = s.scout ∧
    (s.setCluster c x).act = s.act ∧ (s.setCluster c x).buf = s.buf ∧ (s.setCluster c x).tm = s.tm ∧ (s.setCluster c x).pol = s.pol ∧
    (s.setCluster c x).fab = s.fab ∧ (s.setCluster c x).cipher = s.cipher ∧ (s.setCluster c x).pon = s.pon ∧ (s.setCluster c x).dram = s.dram ∧
    (s.setCluster c x).fw = s.fw ∧ (s.setCluster c x).time = s.time :=
  by and_intros <;> rfl
@[simp] theorem State.setCluster_same (s : State) (c : Nat) (x : Cluster) : (s.setCluster c x).cluster c = x := look_put_same _ _ _ _
theorem State.setCluster_cluster (s : State) (c : Nat) (x : Cluster) (j : Nat) : (s.setCluster c x).cluster j = if j = c then x else s.cluster j := look_put _ _ _ _ _

@[simp] theorem State.setEngine_rest (s : State) (c e : Nat) (x : Engine) :
    (s.setEngine c e x).now = s.now ∧ (s.setEngine c e x).free = s.free ∧ (s.setEngine c e x).pending = s.pending ∧ (s.setEngine c e x).dev = s.dev ∧
    (s.setEngine c e x).units = s.units ∧ (s.setEngine c e x).host = s.host ∧ (s.setEngine c e x).dom = s.dom ∧ (s.setEngine c e x).lant = s.lant ∧
    (s.setEngine c e x).ports = s.ports ∧ (s.setEngine c e x).eli = s.eli ∧ (s.setEngine c e x).pkts = s.pkts ∧ (s.setEngine c e x).nextPkt = s.nextPkt ∧
    (s.setEngine c e x).parse = s.parse ∧ (s.setEngine c e x).tables = s.tables ∧ (s.setEngine c e x).assoc = s.assoc ∧ (s.setEngine c e x).scout = s.scout ∧
    (s.setEngine c e x).act = s.act ∧ (s.setEngine c e x).buf = s.buf ∧ (s.setEngine c e x).tm = s.tm ∧ (s.setEngine c e x).pol = s.pol ∧
    (s.setEngine c e x).fab = s.fab ∧ (s.setEngine c e x).cipher = s.cipher ∧ (s.setEngine c e x).pon = s.pon ∧ (s.setEngine c e x).dram = s.dram ∧
    (s.setEngine c e x).fw = s.fw ∧ (s.setEngine c e x).time = s.time :=
  by and_intros <;> rfl
@[simp] theorem State.setEngine_same (s : State) (c e : Nat) (x : Engine) : (s.setEngine c e x).engine c e = x := look_put_same _ _ _ _

@[simp] theorem State.setChannel_rest (s : State) (c ch : Nat) (x : Channel) :
    (s.setChannel c ch x).now = s.now ∧ (s.setChannel c ch x).free = s.free ∧ (s.setChannel c ch x).pending = s.pending ∧ (s.setChannel c ch x).dev = s.dev ∧
    (s.setChannel c ch x).units = s.units ∧ (s.setChannel c ch x).host = s.host ∧ (s.setChannel c ch x).dom = s.dom ∧ (s.setChannel c ch x).lant = s.lant ∧
    (s.setChannel c ch x).ports = s.ports ∧ (s.setChannel c ch x).eli = s.eli ∧ (s.setChannel c ch x).pkts = s.pkts ∧ (s.setChannel c ch x).nextPkt = s.nextPkt ∧
    (s.setChannel c ch x).parse = s.parse ∧ (s.setChannel c ch x).tables = s.tables ∧ (s.setChannel c ch x).assoc = s.assoc ∧ (s.setChannel c ch x).scout = s.scout ∧
    (s.setChannel c ch x).act = s.act ∧ (s.setChannel c ch x).buf = s.buf ∧ (s.setChannel c ch x).tm = s.tm ∧ (s.setChannel c ch x).pol = s.pol ∧
    (s.setChannel c ch x).fab = s.fab ∧ (s.setChannel c ch x).cipher = s.cipher ∧ (s.setChannel c ch x).pon = s.pon ∧ (s.setChannel c ch x).dram = s.dram ∧
    (s.setChannel c ch x).fw = s.fw ∧ (s.setChannel c ch x).time = s.time :=
  by and_intros <;> rfl

@[simp] theorem State.setSentry_rest (s : State) (k : Nat) (x : SEntry) :
    (s.setSentry k x).now = s.now ∧ (s.setSentry k x).free = s.free ∧ (s.setSentry k x).pending = s.pending ∧ (s.setSentry k x).dev = s.dev ∧
    (s.setSentry k x).units = s.units ∧ (s.setSentry k x).host = s.host ∧ (s.setSentry k x).dom = s.dom ∧ (s.setSentry k x).lant = s.lant ∧
    (s.setSentry k x).ports = s.ports ∧ (s.setSentry k x).eli = s.eli ∧ (s.setSentry k x).pkts = s.pkts ∧ (s.setSentry k x).nextPkt = s.nextPkt ∧
    (s.setSentry k x).parse = s.parse ∧ (s.setSentry k x).tables = s.tables ∧ (s.setSentry k x).assoc = s.assoc ∧ (s.setSentry k x).eng = s.eng ∧
    (s.setSentry k x).act = s.act ∧ (s.setSentry k x).buf = s.buf ∧ (s.setSentry k x).tm = s.tm ∧ (s.setSentry k x).pol = s.pol ∧
    (s.setSentry k x).fab = s.fab ∧ (s.setSentry k x).cipher = s.cipher ∧ (s.setSentry k x).pon = s.pon ∧ (s.setSentry k x).dram = s.dram ∧
    (s.setSentry k x).fw = s.fw ∧ (s.setSentry k x).time = s.time :=
  by and_intros <;> rfl
@[simp] theorem State.setSentry_same (s : State) (k : Nat) (x : SEntry) : (s.setSentry k x).sentry k = x := look_put_same _ _ _ _
theorem State.setSentry_sentry (s : State) (k : Nat) (x : SEntry) (j : Nat) : (s.setSentry k x).sentry j = if j = k then x else s.sentry j := look_put _ _ _ _ _

@[simp] theorem State.setBucket_rest (s : State) (c b : Nat) (l : List Nat) :
    (s.setBucket c b l).now = s.now ∧ (s.setBucket c b l).free = s.free ∧ (s.setBucket c b l).pending = s.pending ∧ (s.setBucket c b l).dev = s.dev ∧
    (s.setBucket c b l).units = s.units ∧ (s.setBucket c b l).host = s.host ∧ (s.setBucket c b l).dom = s.dom ∧ (s.setBucket c b l).lant = s.lant ∧
    (s.setBucket c b l).ports = s.ports ∧ (s.setBucket c b l).eli = s.eli ∧ (s.setBucket c b l).pkts = s.pkts ∧ (s.setBucket c b l).nextPkt = s.nextPkt ∧
    (s.setBucket c b l).tables = s.tables ∧ (s.setBucket c b l).assoc = s.assoc ∧ (s.setBucket c b l).eng = s.eng ∧ (s.setBucket c b l).scout = s.scout ∧
    (s.setBucket c b l).act = s.act ∧ (s.setBucket c b l).buf = s.buf ∧ (s.setBucket c b l).tm = s.tm ∧ (s.setBucket c b l).pol = s.pol ∧
    (s.setBucket c b l).fab = s.fab ∧ (s.setBucket c b l).cipher = s.cipher ∧ (s.setBucket c b l).pon = s.pon ∧ (s.setBucket c b l).dram = s.dram ∧
    (s.setBucket c b l).fw = s.fw ∧ (s.setBucket c b l).time = s.time :=
  by and_intros <;> rfl

@[simp] theorem State.setHold_rest (s : State) (i : Nat) (h : SteerHold) :
    (s.setHold i h).now = s.now ∧ (s.setHold i h).free = s.free ∧ (s.setHold i h).pending = s.pending ∧ (s.setHold i h).dev = s.dev ∧
    (s.setHold i h).units = s.units ∧ (s.setHold i h).host = s.host ∧ (s.setHold i h).dom = s.dom ∧ (s.setHold i h).lant = s.lant ∧
    (s.setHold i h).ports = s.ports ∧ (s.setHold i h).eli = s.eli ∧ (s.setHold i h).pkts = s.pkts ∧ (s.setHold i h).nextPkt = s.nextPkt ∧
    (s.setHold i h).tables = s.tables ∧ (s.setHold i h).assoc = s.assoc ∧ (s.setHold i h).eng = s.eng ∧ (s.setHold i h).scout = s.scout ∧
    (s.setHold i h).act = s.act ∧ (s.setHold i h).buf = s.buf ∧ (s.setHold i h).tm = s.tm ∧ (s.setHold i h).pol = s.pol ∧
    (s.setHold i h).fab = s.fab ∧ (s.setHold i h).cipher = s.cipher ∧ (s.setHold i h).pon = s.pon ∧ (s.setHold i h).dram = s.dram ∧
    (s.setHold i h).fw = s.fw ∧ (s.setHold i h).time = s.time :=
  by and_intros <;> rfl
@[simp] theorem State.setHold_same (s : State) (i : Nat) (h : SteerHold) : (s.setHold i h).hold i = h := look_put_same _ _ _ _
theorem State.setHold_hold (s : State) (i : Nat) (h : SteerHold) (j : Nat) : (s.setHold i h).hold j = if j = i then h else s.hold j := look_put _ _ _ _ _

@[simp] theorem State.setTime_rest (s : State) (b : TimeBase) :
    (s.setTime b).now = s.now ∧ (s.setTime b).free = s.free ∧ (s.setTime b).pending = s.pending ∧ (s.setTime b).dev = s.dev ∧
    (s.setTime b).units = s.units ∧ (s.setTime b).host = s.host ∧ (s.setTime b).dom = s.dom ∧ (s.setTime b).lant = s.lant ∧
    (s.setTime b).ports = s.ports ∧ (s.setTime b).eli = s.eli ∧ (s.setTime b).pkts = s.pkts ∧ (s.setTime b).nextPkt = s.nextPkt ∧
    (s.setTime b).parse = s.parse ∧ (s.setTime b).tables = s.tables ∧ (s.setTime b).assoc = s.assoc ∧ (s.setTime b).eng = s.eng ∧
    (s.setTime b).scout = s.scout ∧ (s.setTime b).act = s.act ∧ (s.setTime b).buf = s.buf ∧ (s.setTime b).tm = s.tm ∧
    (s.setTime b).pol = s.pol ∧ (s.setTime b).fab = s.fab ∧ (s.setTime b).cipher = s.cipher ∧ (s.setTime b).pon = s.pon ∧
    (s.setTime b).dram = s.dram ∧ (s.setTime b).fw = s.fw :=
  by and_intros <;> rfl

@[simp] theorem State.setPulse_rest (s : State) (n : Nat) (p : Pulse) :
    (s.setPulse n p).now = s.now ∧ (s.setPulse n p).free = s.free ∧ (s.setPulse n p).pending = s.pending ∧ (s.setPulse n p).dev = s.dev ∧
    (s.setPulse n p).units = s.units ∧ (s.setPulse n p).host = s.host ∧ (s.setPulse n p).dom = s.dom ∧ (s.setPulse n p).lant = s.lant ∧
    (s.setPulse n p).ports = s.ports ∧ (s.setPulse n p).eli = s.eli ∧ (s.setPulse n p).pkts = s.pkts ∧ (s.setPulse n p).nextPkt = s.nextPkt ∧
    (s.setPulse n p).parse = s.parse ∧ (s.setPulse n p).tables = s.tables ∧ (s.setPulse n p).assoc = s.assoc ∧ (s.setPulse n p).eng = s.eng ∧
    (s.setPulse n p).scout = s.scout ∧ (s.setPulse n p).act = s.act ∧ (s.setPulse n p).buf = s.buf ∧ (s.setPulse n p).tm = s.tm ∧
    (s.setPulse n p).pol = s.pol ∧ (s.setPulse n p).fab = s.fab ∧ (s.setPulse n p).cipher = s.cipher ∧ (s.setPulse n p).pon = s.pon ∧
    (s.setPulse n p).dram = s.dram ∧ (s.setPulse n p).fw = s.fw :=
  by and_intros <;> rfl

@[simp] theorem State.setInput_rest (s : State) (n : Nat) (p : Capture) :
    (s.setInput n p).now = s.now ∧ (s.setInput n p).free = s.free ∧ (s.setInput n p).pending = s.pending ∧ (s.setInput n p).dev = s.dev ∧
    (s.setInput n p).units = s.units ∧ (s.setInput n p).host = s.host ∧ (s.setInput n p).dom = s.dom ∧ (s.setInput n p).lant = s.lant ∧
    (s.setInput n p).ports = s.ports ∧ (s.setInput n p).eli = s.eli ∧ (s.setInput n p).pkts = s.pkts ∧ (s.setInput n p).nextPkt = s.nextPkt ∧
    (s.setInput n p).parse = s.parse ∧ (s.setInput n p).tables = s.tables ∧ (s.setInput n p).assoc = s.assoc ∧ (s.setInput n p).eng = s.eng ∧
    (s.setInput n p).scout = s.scout ∧ (s.setInput n p).act = s.act ∧ (s.setInput n p).buf = s.buf ∧ (s.setInput n p).tm = s.tm ∧
    (s.setInput n p).pol = s.pol ∧ (s.setInput n p).fab = s.fab ∧ (s.setInput n p).cipher = s.cipher ∧ (s.setInput n p).pon = s.pon ∧
    (s.setInput n p).dram = s.dram ∧ (s.setInput n p).fw = s.fw :=
  by and_intros <;> rfl
@[simp] theorem State.setInput_same (s : State) (n : Nat) (p : Capture) : (s.setInput n p).input n = p := look_put_same _ _ _ _
theorem State.setInput_input (s : State) (n : Nat) (p : Capture) (j : Nat) : (s.setInput n p).input j = if j = n then p else s.input j := look_put _ _ _ _ _

@[simp] theorem State.setPortTime_rest (s : State) (n : Nat) (p : PortTime) :
    (s.setPortTime n p).now = s.now ∧ (s.setPortTime n p).free = s.free ∧ (s.setPortTime n p).pending = s.pending ∧ (s.setPortTime n p).dev = s.dev ∧
    (s.setPortTime n p).units = s.units ∧ (s.setPortTime n p).host = s.host ∧ (s.setPortTime n p).dom = s.dom ∧ (s.setPortTime n p).lant = s.lant ∧
    (s.setPortTime n p).ports = s.ports ∧ (s.setPortTime n p).eli = s.eli ∧ (s.setPortTime n p).pkts = s.pkts ∧ (s.setPortTime n p).nextPkt = s.nextPkt ∧
    (s.setPortTime n p).parse = s.parse ∧ (s.setPortTime n p).tables = s.tables ∧ (s.setPortTime n p).assoc = s.assoc ∧ (s.setPortTime n p).eng = s.eng ∧
    (s.setPortTime n p).scout = s.scout ∧ (s.setPortTime n p).act = s.act ∧ (s.setPortTime n p).buf = s.buf ∧ (s.setPortTime n p).tm = s.tm ∧
    (s.setPortTime n p).pol = s.pol ∧ (s.setPortTime n p).fab = s.fab ∧ (s.setPortTime n p).cipher = s.cipher ∧ (s.setPortTime n p).pon = s.pon ∧
    (s.setPortTime n p).dram = s.dram ∧ (s.setPortTime n p).fw = s.fw :=
  by and_intros <;> rfl
@[simp] theorem State.setPortTime_same (s : State) (n : Nat) (p : PortTime) : (s.setPortTime n p).portTime n = p := look_put_same _ _ _ _
theorem State.setPortTime_portTime (s : State) (n : Nat) (p : PortTime) (j : Nat) : (s.setPortTime n p).portTime j = if j = n then p else s.portTime j := look_put _ _ _ _ _

theorem State.at__rest (s : State) (t : Nat) :
    (s.at_ t).free = s.free ∧ (s.at_ t).pending = s.pending ∧ (s.at_ t).dev = s.dev ∧ (s.at_ t).units = s.units ∧
    (s.at_ t).host = s.host ∧ (s.at_ t).dom = s.dom ∧ (s.at_ t).lant = s.lant ∧ (s.at_ t).ports = s.ports ∧
    (s.at_ t).eli = s.eli ∧ (s.at_ t).pkts = s.pkts ∧ (s.at_ t).nextPkt = s.nextPkt ∧ (s.at_ t).parse = s.parse ∧
    (s.at_ t).tables = s.tables ∧ (s.at_ t).assoc = s.assoc ∧ (s.at_ t).eng = s.eng ∧ (s.at_ t).scout = s.scout ∧
    (s.at_ t).act = s.act ∧ (s.at_ t).buf = s.buf ∧ (s.at_ t).tm = s.tm ∧ (s.at_ t).pol = s.pol ∧
    (s.at_ t).fab = s.fab ∧ (s.at_ t).cipher = s.cipher ∧ (s.at_ t).pon = s.pon ∧ (s.at_ t).dram = s.dram ∧
    (s.at_ t).fw = s.fw ∧ (s.at_ t).time = s.time :=
  by and_intros <;> rfl

@[simp] theorem State.drawn_rest (s : State) :
    (s.drawn).now = s.now ∧ (s.drawn).pending = s.pending ∧ (s.drawn).dev = s.dev ∧ (s.drawn).units = s.units ∧
    (s.drawn).host = s.host ∧ (s.drawn).dom = s.dom ∧ (s.drawn).lant = s.lant ∧ (s.drawn).ports = s.ports ∧
    (s.drawn).eli = s.eli ∧ (s.drawn).pkts = s.pkts ∧ (s.drawn).nextPkt = s.nextPkt ∧ (s.drawn).parse = s.parse ∧
    (s.drawn).tables = s.tables ∧ (s.drawn).assoc = s.assoc ∧ (s.drawn).eng = s.eng ∧ (s.drawn).scout = s.scout ∧
    (s.drawn).act = s.act ∧ (s.drawn).buf = s.buf ∧ (s.drawn).tm = s.tm ∧ (s.drawn).pol = s.pol ∧
    (s.drawn).fab = s.fab ∧ (s.drawn).cipher = s.cipher ∧ (s.drawn).pon = s.pon ∧ (s.drawn).dram = s.dram ∧
    (s.drawn).fw = s.fw ∧ (s.drawn).time = s.time :=
  by and_intros <;> rfl

@[simp] theorem State.emit_rest (s : State) (o : Out) :
    (s.emit o).now = s.now ∧ (s.emit o).free = s.free ∧ (s.emit o).pending = s.pending ∧ (s.emit o).dev = s.dev ∧
    (s.emit o).units = s.units ∧ (s.emit o).dom = s.dom ∧ (s.emit o).lant = s.lant ∧ (s.emit o).ports = s.ports ∧
    (s.emit o).eli = s.eli ∧ (s.emit o).pkts = s.pkts ∧ (s.emit o).nextPkt = s.nextPkt ∧ (s.emit o).parse = s.parse ∧
    (s.emit o).tables = s.tables ∧ (s.emit o).assoc = s.assoc ∧ (s.emit o).eng = s.eng ∧ (s.emit o).scout = s.scout ∧
    (s.emit o).act = s.act ∧ (s.emit o).buf = s.buf ∧ (s.emit o).tm = s.tm ∧ (s.emit o).pol = s.pol ∧
    (s.emit o).fab = s.fab ∧ (s.emit o).cipher = s.cipher ∧ (s.emit o).pon = s.pon ∧ (s.emit o).dram = s.dram ∧
    (s.emit o).fw = s.fw ∧ (s.emit o).time = s.time :=
  by and_intros <;> rfl

@[simp] theorem State.markOut_rest (s : State) (kind n : Nat) :
    (s.markOut kind n).now = s.now ∧ (s.markOut kind n).free = s.free ∧ (s.markOut kind n).pending = s.pending ∧ (s.markOut kind n).dev = s.dev ∧
    (s.markOut kind n).host = s.host ∧ (s.markOut kind n).dom = s.dom ∧ (s.markOut kind n).lant = s.lant ∧ (s.markOut kind n).ports = s.ports ∧
    (s.markOut kind n).eli = s.eli ∧ (s.markOut kind n).pkts = s.pkts ∧ (s.markOut kind n).nextPkt = s.nextPkt ∧ (s.markOut kind n).parse = s.parse ∧
    (s.markOut kind n).tables = s.tables ∧ (s.markOut kind n).assoc = s.assoc ∧ (s.markOut kind n).eng = s.eng ∧ (s.markOut kind n).scout = s.scout ∧
    (s.markOut kind n).act = s.act ∧ (s.markOut kind n).buf = s.buf ∧ (s.markOut kind n).tm = s.tm ∧ (s.markOut kind n).pol = s.pol ∧
    (s.markOut kind n).fab = s.fab ∧ (s.markOut kind n).cipher = s.cipher ∧ (s.markOut kind n).pon = s.pon ∧ (s.markOut kind n).dram = s.dram ∧
    (s.markOut kind n).fw = s.fw ∧ (s.markOut kind n).time = s.time :=
  by and_intros <;> rfl

@[simp] theorem State.markIn_rest (s : State) (kind n : Nat) :
    (s.markIn kind n).now = s.now ∧ (s.markIn kind n).free = s.free ∧ (s.markIn kind n).pending = s.pending ∧ (s.markIn kind n).dev = s.dev ∧
    (s.markIn kind n).host = s.host ∧ (s.markIn kind n).dom = s.dom ∧ (s.markIn kind n).lant = s.lant ∧ (s.markIn kind n).ports = s.ports ∧
    (s.markIn kind n).eli = s.eli ∧ (s.markIn kind n).pkts = s.pkts ∧ (s.markIn kind n).nextPkt = s.nextPkt ∧ (s.markIn kind n).parse = s.parse ∧
    (s.markIn kind n).tables = s.tables ∧ (s.markIn kind n).assoc = s.assoc ∧ (s.markIn kind n).eng = s.eng ∧ (s.markIn kind n).scout = s.scout ∧
    (s.markIn kind n).act = s.act ∧ (s.markIn kind n).buf = s.buf ∧ (s.markIn kind n).tm = s.tm ∧ (s.markIn kind n).pol = s.pol ∧
    (s.markIn kind n).fab = s.fab ∧ (s.markIn kind n).cipher = s.cipher ∧ (s.markIn kind n).pon = s.pon ∧ (s.markIn kind n).dram = s.dram ∧
    (s.markIn kind n).fw = s.fw ∧ (s.markIn kind n).time = s.time :=
  by and_intros <;> rfl

@[simp] theorem State.dropPkt_rest (s : State) (k : Nat) :
    (s.dropPkt k).now = s.now ∧ (s.dropPkt k).free = s.free ∧ (s.dropPkt k).pending = s.pending ∧ (s.dropPkt k).dev = s.dev ∧
    (s.dropPkt k).units = s.units ∧ (s.dropPkt k).host = s.host ∧ (s.dropPkt k).dom = s.dom ∧ (s.dropPkt k).lant = s.lant ∧
    (s.dropPkt k).ports = s.ports ∧ (s.dropPkt k).eli = s.eli ∧ (s.dropPkt k).nextPkt = s.nextPkt ∧ (s.dropPkt k).parse = s.parse ∧
    (s.dropPkt k).tables = s.tables ∧ (s.dropPkt k).assoc = s.assoc ∧ (s.dropPkt k).eng = s.eng ∧ (s.dropPkt k).scout = s.scout ∧
    (s.dropPkt k).act = s.act ∧ (s.dropPkt k).buf = s.buf ∧ (s.dropPkt k).tm = s.tm ∧ (s.dropPkt k).pol = s.pol ∧
    (s.dropPkt k).fab = s.fab ∧ (s.dropPkt k).cipher = s.cipher ∧ (s.dropPkt k).pon = s.pon ∧ (s.dropPkt k).dram = s.dram ∧
    (s.dropPkt k).fw = s.fw ∧ (s.dropPkt k).time = s.time :=
  by and_intros <;> rfl

end Sys2Proof.Machine
end

