-- ==== Sys2Proof/Laws/Ops.lean ====
section
/-! SUPPORT. The shared operations: which fields each can change, how a command that passes its checks completes, and what
its completion leaves alone. -/

namespace Sys2Proof.Machine

/-- Two states that differ at most in the host part. -/
def OnlyHost (s s' : State) : Prop := s' = { s with host := s'.host }

theorem OnlyHost.refl (s : State) : OnlyHost s s := rfl

theorem OnlyHost.trans {a b c : State} (h : OnlyHost a b) (k : OnlyHost b c) : OnlyHost a c := by
  unfold OnlyHost at *
  rw [k, h]

theorem OnlyHost.set (s : State) (h : Hosts) : OnlyHost s { s with host := h } := rfl

theorem OnlyHost.each {α : Type} (f : α → State → State) (hf : ∀ a s, OnlyHost s (f a s)) (l : List α) (s : State) :
    OnlyHost s (Sys2Proof.each f l s) := by
  induction l generalizing s with
  | nil => rfl
  | cons a t ih => exact (hf a s).trans (ih _)

theorem emit_onlyHost (s : State) (o : Out) : OnlyHost s (s.emit o) := rfl
theorem setRing_onlyHost (s : State) (h r : Nat) (g : Ring) : OnlyHost s (s.setRing h r g) := rfl
theorem setHostPort_onlyHost (s : State) (h : Nat) (p : HostPort) : OnlyHost s (s.setHostPort h p) := rfl

theorem signal_onlyHost (s : State) (h r : Nat) : OnlyHost s (s.signal h r) := by
  unfold State.signal
  dsimp only
  split <;> rfl

theorem postEntry_onlyHost (s : State) (h r : Nat) (e : Entry) (now : Bool) : OnlyHost s (s.postEntry h r e now) := by
  unfold State.postEntry
  dsimp only
  split
  · exact OnlyHost.trans (by rfl) (signal_onlyHost _ h r)
  · rfl

theorem eventHost_onlyHost (s : State) (e : Event) (h : Nat) : OnlyHost s (s.eventHost e h) := by
  unfold State.eventHost
  dsimp only
  split
  · rfl
  · split
    · rfl
    · split
      · exact postEntry_onlyHost _ _ _ _ _
      · split <;> rfl

theorem event_onlyHost (s : State) (code detail result mask : Nat) (dest : Nat → Bool) : OnlyHost s (s.event code detail result mask dest) := by
  unfold State.event
  refine OnlyHost.each _ (fun h s => ?_) _ s
  split
  · exact eventHost_onlyHost _ _ _
  · rfl

theorem eventAll_onlyHost (s : State) (code detail result : Nat) : OnlyHost s (s.eventAll code detail result) := event_onlyHost _ _ _ _ _ _
theorem eventMask_onlyHost (s : State) (m code detail result : Nat) : OnlyHost s (s.eventMask m code detail result) := event_onlyHost _ _ _ _ _ _
theorem eventTo_onlyHost (s : State) (d code detail result : Nat) : OnlyHost s (s.eventTo d code detail result) :=
  eventMask_onlyHost _ _ _ _ _

theorem start_onlyHost (s : State) (c : Cmd) : OnlyHost s (s.start c) := rfl

theorem releaseFence_onlyHost (s : State) (h r : Nat) : OnlyHost s (s.releaseFence h r) := by
  unfold State.releaseFence
  dsimp only
  split
  · rfl
  · split <;> rfl

theorem route_onlyHost (s : State) (c : Cmd) (e : Entry) (long : Bytes) : OnlyHost s (s.route c e long) := by
  have h1 : OnlyHost s (if long = [] then s else s.emit (.long c.host (c.reply + 16) long)) := by split <;> rfl
  unfold State.route
  refine h1.trans ?_
  dsimp only
  generalize (if long = [] then s else s.emit (.long c.host (c.reply + 16) long)) = s
  split
  · exact postEntry_onlyHost _ _ _ _ _
  · split
    · split
      · exact OnlyHost.trans (by rfl) (signal_onlyHost _ _ _)
      · rfl
    · rfl

/-- Completing a command changes the host part alone. -/
theorem answer_onlyHost (s : State) (c : Cmd) (st : Status) (detail result : Nat) (long : Bytes) :
    OnlyHost s (s.answer c st detail result long) := by
  unfold State.answer
  split
  · rfl
  · split
    · rfl
    · dsimp only
      split
      · rfl
      · exact (OnlyHost.trans (by rfl) (route_onlyHost _ _ _ _)).trans (releaseFence_onlyHost _ _ _)

theorem keepWorking_onlyHost (s : State) (c : Cmd) : OnlyHost s (s.keepWorking c) := rfl

@[simp] theorem State.signal_rest (s : State) (h r : Nat) :
    (s.signal h r).now = s.now ∧ (s.signal h r).free = s.free ∧ (s.signal h r).pending = s.pending ∧
    (s.signal h r).dev = s.dev ∧ (s.signal h r).units = s.units ∧ (s.signal h r).dom = s.dom ∧
    (s.signal h r).lant = s.lant ∧ (s.signal h r).ports = s.ports ∧ (s.signal h r).eli = s.eli ∧
    (s.signal h r).pkts = s.pkts ∧ (s.signal h r).nextPkt = s.nextPkt ∧ (s.signal h r).parse = s.parse ∧
    (s.signal h r).tables = s.tables ∧ (s.signal h r).assoc = s.assoc ∧ (s.signal h r).eng = s.eng ∧
    (s.signal h r).scout = s.scout ∧ (s.signal h r).act = s.act ∧ (s.signal h r).buf = s.buf ∧
    (s.signal h r).tm = s.tm ∧ (s.signal h r).pol = s.pol ∧ (s.signal h r).fab = s.fab ∧
    (s.signal h r).cipher = s.cipher ∧ (s.signal h r).pon = s.pon ∧ (s.signal h r).dram = s.dram ∧
    (s.signal h r).fw = s.fw ∧ (s.signal h r).time = s.time :=
 by
  have hx : (s.signal h r) = { s with host := (s.signal h r).host } := signal_onlyHost s h r
  and_intros <;> rw [hx]

@[simp] theorem State.postEntry_rest (s : State) (h r : Nat) (e : Entry) (now : Bool) :
    (s.postEntry h r e now).now = s.now ∧ (s.postEntry h r e now).free = s.free ∧ (s.postEntry h r e now).pending = s.pending ∧
    (s.postEntry h r e now).dev = s.dev ∧ (s.postEntry h r e now).units = s.units ∧ (s.postEntry h r e now).dom = s.dom ∧
    (s.postEntry h r e now).lant = s.lant ∧ (s.postEntry h r e now).ports = s.ports ∧ (s.postEntry h r e now).eli = s.eli ∧
    (s.postEntry h r e now).pkts = s.pkts ∧ (s.postEntry h r e now).nextPkt = s.nextPkt ∧ (s.postEntry h r e now).parse = s.parse ∧
    (s.postEntry h r e now).tables = s.tables ∧ (s.postEntry h r e now).assoc = s.assoc ∧ (s.postEntry h r e now).eng = s.eng ∧
    (s.postEntry h r e now).scout = s.scout ∧ (s.postEntry h r e now).act = s.act ∧ (s.postEntry h r e now).buf = s.buf ∧
    (s.postEntry h r e now).tm = s.tm ∧ (s.postEntry h r e now).pol = s.pol ∧ (s.postEntry h r e now).fab = s.fab ∧
    (s.postEntry h r e now).cipher = s.cipher ∧ (s.postEntry h r e now).pon = s.pon ∧ (s.postEntry h r e now).dram = s.dram ∧
    (s.postEntry h r e now).fw = s.fw ∧ (s.postEntry h r e now).time = s.time :=
 by
  have hx : (s.postEntry h r e now) = { s with host := (s.postEntry h r e now).host } := postEntry_onlyHost s h r e now
  and_intros <;> rw [hx]

@[simp] theorem State.eventHost_rest (s : State) (e : Event) (h : Nat) :
    (s.eventHost e h).now = s.now ∧ (s.eventHost e h).free = s.free ∧ (s.eventHost e h).pending = s.pending ∧
    (s.eventHost e h).dev = s.dev ∧ (s.eventHost e h).units = s.units ∧ (s.eventHost e h).dom = s.dom ∧
    (s.eventHost e h).lant = s.lant ∧ (s.eventHost e h).ports = s.ports ∧ (s.eventHost e h).eli = s.eli ∧
    (s.eventHost e h).pkts = s.pkts ∧ (s.eventHost e h).nextPkt = s.nextPkt ∧ (s.eventHost e h).parse = s.parse ∧
    (s.eventHost e h).tables = s.tables ∧ (s.eventHost e h).assoc = s.assoc ∧ (s.eventHost e h).eng = s.eng ∧
    (s.eventHost e h).scout = s.scout ∧ (s.eventHost e h).act = s.act ∧ (s.eventHost e h).buf = s.buf ∧
    (s.eventHost e h).tm = s.tm ∧ (s.eventHost e h).pol = s.pol ∧ (s.eventHost e h).fab = s.fab ∧
    (s.eventHost e h).cipher = s.cipher ∧ (s.eventHost e h).pon = s.pon ∧ (s.eventHost e h).dram = s.dram ∧
    (s.eventHost e h).fw = s.fw ∧ (s.eventHost e h).time = s.time :=
 by
  have hx : (s.eventHost e h) = { s with host := (s.eventHost e h).host } := eventHost_onlyHost s e h
  and_intros <;> rw [hx]

@[simp] theorem State.event_rest (s : State) (code detail result mask : Nat) (dest : Nat → Bool) :
    (s.event code detail result mask dest).now = s.now ∧ (s.event code detail result mask dest).free = s.free ∧ (s.event code detail result mask dest).pending = s.pending ∧
    (s.event code detail result mask dest).dev = s.dev ∧ (s.event code detail result mask dest).units = s.units ∧ (s.event code detail result mask dest).dom = s.dom ∧
    (s.event code detail result mask dest).lant = s.lant ∧ (s.event code detail result mask dest).ports = s.ports ∧ (s.event code detail result mask dest).eli = s.eli ∧
    (s.event code detail result mask dest).pkts = s.pkts ∧ (s.event code detail result mask dest).nextPkt = s.nextPkt ∧ (s.event code detail result mask dest).parse = s.parse ∧
    (s.event code detail result mask dest).tables = s.tables ∧ (s.event code detail result mask dest).assoc = s.assoc ∧ (s.event code detail result mask dest).eng = s.eng ∧
    (s.event code detail result mask dest).scout = s.scout ∧ (s.event code detail result mask dest).act = s.act ∧ (s.event code detail result mask dest).buf = s.buf ∧
    (s.event code detail result mask dest).tm = s.tm ∧ (s.event code detail result mask dest).pol = s.pol ∧ (s.event code detail result mask dest).fab = s.fab ∧
    (s.event code detail result mask dest).cipher = s.cipher ∧ (s.event code detail result mask dest).pon = s.pon ∧ (s.event code detail result mask dest).dram = s.dram ∧
    (s.event code detail result mask dest).fw = s.fw ∧ (s.event code detail result mask dest).time = s.time :=
 by
  have hx : (s.event code detail result mask dest) = { s with host := (s.event code detail result mask dest).host } := event_onlyHost s code detail result mask dest
  and_intros <;> rw [hx]

@[simp] theorem State.eventMask_rest (s : State) (m code detail result : Nat) :
    (s.eventMask m code detail result).now = s.now ∧ (s.eventMask m code detail result).free = s.free ∧ (s.eventMask m code detail result).pending = s.pending ∧
    (s.eventMask m code detail result).dev = s.dev ∧ (s.eventMask m code detail result).units = s.units ∧ (s.eventMask m code detail result).dom = s.dom ∧
    (s.eventMask m code detail result).lant = s.lant ∧ (s.eventMask m code detail result).ports = s.ports ∧ (s.eventMask m code detail result).eli = s.eli ∧
    (s.eventMask m code detail result).pkts = s.pkts ∧ (s.eventMask m code detail result).nextPkt = s.nextPkt ∧ (s.eventMask m code detail result).parse = s.parse ∧
    (s.eventMask m code detail result).tables = s.tables ∧ (s.eventMask m code detail result).assoc = s.assoc ∧ (s.eventMask m code detail result).eng = s.eng ∧
    (s.eventMask m code detail result).scout = s.scout ∧ (s.eventMask m code detail result).act = s.act ∧ (s.eventMask m code detail result).buf = s.buf ∧
    (s.eventMask m code detail result).tm = s.tm ∧ (s.eventMask m code detail result).pol = s.pol ∧ (s.eventMask m code detail result).fab = s.fab ∧
    (s.eventMask m code detail result).cipher = s.cipher ∧ (s.eventMask m code detail result).pon = s.pon ∧ (s.eventMask m code detail result).dram = s.dram ∧
    (s.eventMask m code detail result).fw = s.fw ∧ (s.eventMask m code detail result).time = s.time :=
 by
  have hx : (s.eventMask m code detail result) = { s with host := (s.eventMask m code detail result).host } := eventMask_onlyHost s m code detail result
  and_intros <;> rw [hx]

@[simp] theorem State.eventTo_rest (s : State) (d code detail result : Nat) :
    (s.eventTo d code detail result).now = s.now ∧ (s.eventTo d code detail result).free = s.free ∧ (s.eventTo d code detail result).pending = s.pending ∧
    (s.eventTo d code detail result).dev = s.dev ∧ (s.eventTo d code detail result).units = s.units ∧ (s.eventTo d code detail result).dom = s.dom ∧
    (s.eventTo d code detail result).lant = s.lant ∧ (s.eventTo d code detail result).ports = s.ports ∧ (s.eventTo d code detail result).eli = s.eli ∧
    (s.eventTo d code detail result).pkts = s.pkts ∧ (s.eventTo d code detail result).nextPkt = s.nextPkt ∧ (s.eventTo d code detail result).parse = s.parse ∧
    (s.eventTo d code detail result).tables = s.tables ∧ (s.eventTo d code detail result).assoc = s.assoc ∧ (s.eventTo d code detail result).eng = s.eng ∧
    (s.eventTo d code detail result).scout = s.scout ∧ (s.eventTo d code detail result).act = s.act ∧ (s.eventTo d code detail result).buf = s.buf ∧
    (s.eventTo d code detail result).tm = s.tm ∧ (s.eventTo d code detail result).pol = s.pol ∧ (s.eventTo d code detail result).fab = s.fab ∧
    (s.eventTo d code detail result).cipher = s.cipher ∧ (s.eventTo d code detail result).pon = s.pon ∧ (s.eventTo d code detail result).dram = s.dram ∧
    (s.eventTo d code detail result).fw = s.fw ∧ (s.eventTo d code detail result).time = s.time :=
 by
  have hx : (s.eventTo d code detail result) = { s with host := (s.eventTo d code detail result).host } := eventTo_onlyHost s d code detail result
  and_intros <;> rw [hx]

@[simp] theorem State.eventAll_rest (s : State) (code detail result : Nat) :
    (s.eventAll code detail result).now = s.now ∧ (s.eventAll code detail result).free = s.free ∧ (s.eventAll code detail result).pending = s.pending ∧
    (s.eventAll code detail result).dev = s.dev ∧ (s.eventAll code detail result).units = s.units ∧ (s.eventAll code detail result).dom = s.dom ∧
    (s.eventAll code detail result).lant = s.lant ∧ (s.eventAll code detail result).ports = s.ports ∧ (s.eventAll code detail result).eli = s.eli ∧
    (s.eventAll code detail result).pkts = s.pkts ∧ (s.eventAll code detail result).nextPkt = s.nextPkt ∧ (s.eventAll code detail result).parse = s.parse ∧
    (s.eventAll code detail result).tables = s.tables ∧ (s.eventAll code detail result).assoc = s.assoc ∧ (s.eventAll code detail result).eng = s.eng ∧
    (s.eventAll code detail result).scout = s.scout ∧ (s.eventAll code detail result).act = s.act ∧ (s.eventAll code detail result).buf = s.buf ∧
    (s.eventAll code detail result).tm = s.tm ∧ (s.eventAll code detail result).pol = s.pol ∧ (s.eventAll code detail result).fab = s.fab ∧
    (s.eventAll code detail result).cipher = s.cipher ∧ (s.eventAll code detail result).pon = s.pon ∧ (s.eventAll code detail result).dram = s.dram ∧
    (s.eventAll code detail result).fw = s.fw ∧ (s.eventAll code detail result).time = s.time :=
 by
  have hx : (s.eventAll code detail result) = { s with host := (s.eventAll code detail result).host } := eventAll_onlyHost s code detail result
  and_intros <;> rw [hx]

@[simp] theorem State.start_rest (s : State) (c : Cmd) :
    (s.start c).now = s.now ∧ (s.start c).free = s.free ∧ (s.start c).pending = s.pending ∧
    (s.start c).dev = s.dev ∧ (s.start c).units = s.units ∧ (s.start c).dom = s.dom ∧
    (s.start c).lant = s.lant ∧ (s.start c).ports = s.ports ∧ (s.start c).eli = s.eli ∧
    (s.start c).pkts = s.pkts ∧ (s.start c).nextPkt = s.nextPkt ∧ (s.start c).parse = s.parse ∧
    (s.start c).tables = s.tables ∧ (s.start c).assoc = s.assoc ∧ (s.start c).eng = s.eng ∧
    (s.start c).scout = s.scout ∧ (s.start c).act = s.act ∧ (s.start c).buf = s.buf ∧
    (s.start c).tm = s.tm ∧ (s.start c).pol = s.pol ∧ (s.start c).fab = s.fab ∧
    (s.start c).cipher = s.cipher ∧ (s.start c).pon = s.pon ∧ (s.start c).dram = s.dram ∧
    (s.start c).fw = s.fw ∧ (s.start c).time = s.time :=
 by
  have hx : (s.start c) = { s with host := (s.start c).host } := start_onlyHost s c
  and_intros <;> rw [hx]

@[simp] theorem State.releaseFence_rest (s : State) (h r : Nat) :
    (s.releaseFence h r).now = s.now ∧ (s.releaseFence h r).free = s.free ∧ (s.releaseFence h r).pending = s.pending ∧
    (s.releaseFence h r).dev = s.dev ∧ (s.releaseFence h r).units = s.units ∧ (s.releaseFence h r).dom = s.dom ∧
    (s.releaseFence h r).lant = s.lant ∧ (s.releaseFence h r).ports = s.ports ∧ (s.releaseFence h r).eli = s.eli ∧
    (s.releaseFence h r).pkts = s.pkts ∧ (s.releaseFence h r).nextPkt = s.nextPkt ∧ (s.releaseFence h r).parse = s.parse ∧
    (s.releaseFence h r).tables = s.tables ∧ (s.releaseFence h r).assoc = s.assoc ∧ (s.releaseFence h r).eng = s.eng ∧
    (s.releaseFence h r).scout = s.scout ∧ (s.releaseFence h r).act = s.act ∧ (s.releaseFence h r).buf = s.buf ∧
    (s.releaseFence h r).tm = s.tm ∧ (s.releaseFence h r).pol = s.pol ∧ (s.releaseFence h r).fab = s.fab ∧
    (s.releaseFence h r).cipher = s.cipher ∧ (s.releaseFence h r).pon = s.pon ∧ (s.releaseFence h r).dram = s.dram ∧
    (s.releaseFence h r).fw = s.fw ∧ (s.releaseFence h r).time = s.time :=
 by
  have hx : (s.releaseFence h r) = { s with host := (s.releaseFence h r).host } := releaseFence_onlyHost s h r
  and_intros <;> rw [hx]

@[simp] theorem State.route_rest (s : State) (c : Cmd) (e : Entry) (long : Bytes) :
    (s.route c e long).now = s.now ∧ (s.route c e long).free = s.free ∧ (s.route c e long).pending = s.pending ∧
    (s.route c e long).dev = s.dev ∧ (s.route c e long).units = s.units ∧ (s.route c e long).dom = s.dom ∧
    (s.route c e long).lant = s.lant ∧ (s.route c e long).ports = s.ports ∧ (s.route c e long).eli = s.eli ∧
    (s.route c e long).pkts = s.pkts ∧ (s.route c e long).nextPkt = s.nextPkt ∧ (s.route c e long).parse = s.parse ∧
    (s.route c e long).tables = s.tables ∧ (s.route c e long).assoc = s.assoc ∧ (s.route c e long).eng = s.eng ∧
    (s.route c e long).scout = s.scout ∧ (s.route c e long).act = s.act ∧ (s.route c e long).buf = s.buf ∧
    (s.route c e long).tm = s.tm ∧ (s.route c e long).pol = s.pol ∧ (s.route c e long).fab = s.fab ∧
    (s.route c e long).cipher = s.cipher ∧ (s.route c e long).pon = s.pon ∧ (s.route c e long).dram = s.dram ∧
    (s.route c e long).fw = s.fw ∧ (s.route c e long).time = s.time :=
 by
  have hx : (s.route c e long) = { s with host := (s.route c e long).host } := route_onlyHost s c e long
  and_intros <;> rw [hx]

@[simp] theorem State.answer_rest (s : State) (c : Cmd) (st : Status) (detail result : Nat) (long : Bytes) :
    (s.answer c st detail result long).now = s.now ∧ (s.answer c st detail result long).free = s.free ∧ (s.answer c st detail result long).pending = s.pending ∧
    (s.answer c st detail result long).dev = s.dev ∧ (s.answer c st detail result long).units = s.units ∧ (s.answer c st detail result long).dom = s.dom ∧
    (s.answer c st detail result long).lant = s.lant ∧ (s.answer c st detail result long).ports = s.ports ∧ (s.answer c st detail result long).eli = s.eli ∧
    (s.answer c st detail result long).pkts = s.pkts ∧ (s.answer c st detail result long).nextPkt = s.nextPkt ∧ (s.answer c st detail result long).parse = s.parse ∧
    (s.answer c st detail result long).tables = s.tables ∧ (s.answer c st detail result long).assoc = s.assoc ∧ (s.answer c st detail result long).eng = s.eng ∧
    (s.answer c st detail result long).scout = s.scout ∧ (s.answer c st detail result long).act = s.act ∧ (s.answer c st detail result long).buf = s.buf ∧
    (s.answer c st detail result long).tm = s.tm ∧ (s.answer c st detail result long).pol = s.pol ∧ (s.answer c st detail result long).fab = s.fab ∧
    (s.answer c st detail result long).cipher = s.cipher ∧ (s.answer c st detail result long).pon = s.pon ∧ (s.answer c st detail result long).dram = s.dram ∧
    (s.answer c st detail result long).fw = s.fw ∧ (s.answer c st detail result long).time = s.time :=
 by
  have hx : (s.answer c st detail result long) = { s with host := (s.answer c st detail result long).host } := answer_onlyHost s c st detail result long
  and_intros <;> rw [hx]

@[simp] theorem State.keepWorking_rest (s : State) (c : Cmd) :
    (s.keepWorking c).now = s.now ∧ (s.keepWorking c).free = s.free ∧ (s.keepWorking c).pending = s.pending ∧
    (s.keepWorking c).dev = s.dev ∧ (s.keepWorking c).units = s.units ∧ (s.keepWorking c).dom = s.dom ∧
    (s.keepWorking c).lant = s.lant ∧ (s.keepWorking c).ports = s.ports ∧ (s.keepWorking c).eli = s.eli ∧
    (s.keepWorking c).pkts = s.pkts ∧ (s.keepWorking c).nextPkt = s.nextPkt ∧ (s.keepWorking c).parse = s.parse ∧
    (s.keepWorking c).tables = s.tables ∧ (s.keepWorking c).assoc = s.assoc ∧ (s.keepWorking c).eng = s.eng ∧
    (s.keepWorking c).scout = s.scout ∧ (s.keepWorking c).act = s.act ∧ (s.keepWorking c).buf = s.buf ∧
    (s.keepWorking c).tm = s.tm ∧ (s.keepWorking c).pol = s.pol ∧ (s.keepWorking c).fab = s.fab ∧
    (s.keepWorking c).cipher = s.cipher ∧ (s.keepWorking c).pon = s.pon ∧ (s.keepWorking c).dram = s.dram ∧
    (s.keepWorking c).fw = s.fw ∧ (s.keepWorking c).time = s.time :=
 by
  have hx : (s.keepWorking c) = { s with host := (s.keepWorking c).host } := keepWorking_onlyHost s c
  and_intros <;> rw [hx]

/-- A Lantern count changes the counters alone. -/
theorem count_only (s : State) (i n : Nat) : s.count i n = { s with lant := (s.count i n).lant } := by
  have h : ∀ b : State, (b = s ∨ ∃ l, b = { s with lant := l }) → b = { s with lant := b.lant } := by
    rintro b (rfl | ⟨l, rfl⟩) <;> rfl
  refine h _ ?_
  unfold State.count
  dsimp only
  repeat' split
  all_goals first
    | exact .inl rfl
    | exact .inr ⟨_, rfl⟩

@[simp] theorem State.count_rest (s : State) (i n : Nat) :
    (s.count i n).now = s.now ∧ (s.count i n).free = s.free ∧ (s.count i n).pending = s.pending ∧
    (s.count i n).dev = s.dev ∧ (s.count i n).units = s.units ∧ (s.count i n).host = s.host ∧
    (s.count i n).dom = s.dom ∧ (s.count i n).ports = s.ports ∧ (s.count i n).eli = s.eli ∧
    (s.count i n).pkts = s.pkts ∧ (s.count i n).nextPkt = s.nextPkt ∧ (s.count i n).parse = s.parse ∧
    (s.count i n).tables = s.tables ∧ (s.count i n).assoc = s.assoc ∧ (s.count i n).eng = s.eng ∧
    (s.count i n).scout = s.scout ∧ (s.count i n).act = s.act ∧ (s.count i n).buf = s.buf ∧
    (s.count i n).tm = s.tm ∧ (s.count i n).pol = s.pol ∧ (s.count i n).fab = s.fab ∧
    (s.count i n).cipher = s.cipher ∧ (s.count i n).pon = s.pon ∧ (s.count i n).dram = s.dram ∧
    (s.count i n).fw = s.fw ∧ (s.count i n).time = s.time :=
 by
  have hx : (s.count i n) = { s with lant := (s.count i n).lant } := count_only s i n
  and_intros <;> rw [hx]

@[simp] theorem State.countDomain_rest (s : State) (d j : Nat) :
    (s.countDomain d j).now = s.now ∧ (s.countDomain d j).free = s.free ∧ (s.countDomain d j).pending = s.pending ∧
    (s.countDomain d j).dev = s.dev ∧ (s.countDomain d j).units = s.units ∧ (s.countDomain d j).host = s.host ∧
    (s.countDomain d j).dom = s.dom ∧ (s.countDomain d j).ports = s.ports ∧ (s.countDomain d j).eli = s.eli ∧
    (s.countDomain d j).pkts = s.pkts ∧ (s.countDomain d j).nextPkt = s.nextPkt ∧ (s.countDomain d j).parse = s.parse ∧
    (s.countDomain d j).tables = s.tables ∧ (s.countDomain d j).assoc = s.assoc ∧ (s.countDomain d j).eng = s.eng ∧
    (s.countDomain d j).scout = s.scout ∧ (s.countDomain d j).act = s.act ∧ (s.countDomain d j).buf = s.buf ∧
    (s.countDomain d j).tm = s.tm ∧ (s.countDomain d j).pol = s.pol ∧ (s.countDomain d j).fab = s.fab ∧
    (s.countDomain d j).cipher = s.cipher ∧ (s.countDomain d j).pon = s.pon ∧ (s.countDomain d j).dram = s.dram ∧
    (s.countDomain d j).fw = s.fw ∧ (s.countDomain d j).time = s.time :=
 by
  have hx : (s.countDomain d j) = { s with lant := (s.countDomain d j).lant } := count_only s (2560 + 16 * d + j) 1
  and_intros <;> rw [hx]

/-- A fault record changes the log and posts an event. -/
theorem record_only (s : State) (kind n severity action cause mask lost : Nat) (planned : Bool) :
    s.record kind n severity action cause mask lost planned =
      { s with units := (s.record kind n severity action cause mask lost planned).units,
               host := (s.record kind n severity action cause mask lost planned).host } := by
  have h : ∀ (b : State) (u : Units), OnlyHost { s with units := u } b → b = { s with units := b.units, host := b.host } := by
    intro b u hab
    have hx : b = { { s with units := u } with host := b.host } := hab
    have hu : b.units = u := (congrArg State.units hx :)
    exact hx.trans (by rw [hu])
  unfold State.record
  dsimp only
  exact h _ _ (event_onlyHost _ _ _ _ _ _)

@[simp] theorem State.record_rest (s : State) (kind n severity action cause mask lost : Nat) (planned : Bool) :
    (s.record kind n severity action cause mask lost planned).now = s.now ∧ (s.record kind n severity action cause mask lost planned).free = s.free ∧ (s.record kind n severity action cause mask lost planned).pending = s.pending ∧
    (s.record kind n severity action cause mask lost planned).dev = s.dev ∧ (s.record kind n severity action cause mask lost planned).dom = s.dom ∧ (s.record kind n severity action cause mask lost planned).lant = s.lant ∧
    (s.record kind n severity action cause mask lost planned).ports = s.ports ∧ (s.record kind n severity action cause mask lost planned).eli = s.eli ∧ (s.record kind n severity action cause mask lost planned).pkts = s.pkts ∧
    (s.record kind n severity action cause mask lost planned).nextPkt = s.nextPkt ∧ (s.record kind n severity action cause mask lost planned).parse = s.parse ∧ (s.record kind n severity action cause mask lost planned).tables = s.tables ∧
    (s.record kind n severity action cause mask lost planned).assoc = s.assoc ∧ (s.record kind n severity action cause mask lost planned).eng = s.eng ∧ (s.record kind n severity action cause mask lost planned).scout = s.scout ∧
    (s.record kind n severity action cause mask lost planned).act = s.act ∧ (s.record kind n severity action cause mask lost planned).buf = s.buf ∧ (s.record kind n severity action cause mask lost planned).tm = s.tm ∧
    (s.record kind n severity action cause mask lost planned).pol = s.pol ∧ (s.record kind n severity action cause mask lost planned).fab = s.fab ∧ (s.record kind n severity action cause mask lost planned).cipher = s.cipher ∧
    (s.record kind n severity action cause mask lost planned).pon = s.pon ∧ (s.record kind n severity action cause mask lost planned).dram = s.dram ∧ (s.record kind n severity action cause mask lost planned).fw = s.fw ∧
    (s.record kind n severity action cause mask lost planned).time = s.time :=
 by
  have hx : (s.record kind n severity action cause mask lost planned) = { s with host := (s.record kind n severity action cause mask lost planned).host, units := (s.record kind n severity action cause mask lost planned).units } := record_only s kind n severity action cause mask lost planned
  and_intros <;> rw [hx]

/-- A change of mode sets the mode fields of DEV and posts an event. -/
theorem setMode_only (s : State) (m : Mode) : s.setMode m = { s with dev := (s.setMode m).dev, host := (s.setMode m).host } := by
  have h : ∀ (b : State) (u : Dev), OnlyHost { s with dev := u } b → b = { s with dev := b.dev, host := b.host } := by
    intro b u hab
    have hx : b = { { s with dev := u } with host := b.host } := hab
    have hu : b.dev = u := (congrArg State.dev hx :)
    exact hx.trans (by rw [hu])
  refine h _ (if s.dev.mode = m then s.dev else { s.dev with mode := m, prevMode := s.dev.mode, modeSeq := (s.dev.modeSeq + 1) % 256 }) ?_
  unfold State.setMode
  dsimp only
  split
  · rfl
  · exact event_onlyHost _ _ _ _ _ _

@[simp] theorem State.setMode_rest (s : State) (m : Mode) :
    (s.setMode m).now = s.now ∧ (s.setMode m).free = s.free ∧ (s.setMode m).pending = s.pending ∧
    (s.setMode m).units = s.units ∧ (s.setMode m).dom = s.dom ∧ (s.setMode m).lant = s.lant ∧
    (s.setMode m).ports = s.ports ∧ (s.setMode m).eli = s.eli ∧ (s.setMode m).pkts = s.pkts ∧
    (s.setMode m).nextPkt = s.nextPkt ∧ (s.setMode m).parse = s.parse ∧ (s.setMode m).tables = s.tables ∧
    (s.setMode m).assoc = s.assoc ∧ (s.setMode m).eng = s.eng ∧ (s.setMode m).scout = s.scout ∧
    (s.setMode m).act = s.act ∧ (s.setMode m).buf = s.buf ∧ (s.setMode m).tm = s.tm ∧
    (s.setMode m).pol = s.pol ∧ (s.setMode m).fab = s.fab ∧ (s.setMode m).cipher = s.cipher ∧
    (s.setMode m).pon = s.pon ∧ (s.setMode m).dram = s.dram ∧ (s.setMode m).fw = s.fw ∧
    (s.setMode m).time = s.time :=
 by
  have hx : (s.setMode m) = { s with host := (s.setMode m).host, dev := (s.setMode m).dev } := setMode_only s m
  and_intros <;> rw [hx]

/-- A DRAM request changes its stack alone. -/
theorem dramReq_only (s : State) (stack addr bytes : Nat) (rt : Bool) (requester : Nat) (cell : Option Nat) (packet : Nat) :
    s.dramReq stack addr bytes rt requester cell packet =
      { s with dram := (s.dramReq stack addr bytes rt requester cell packet).dram } := by
  unfold State.dramReq
  split <;> rfl

@[simp] theorem State.dramReq_rest (s : State) (stack addr bytes : Nat) (rt : Bool) (requester : Nat) (cell : Option Nat) (packet : Nat) :
    (s.dramReq stack addr bytes rt requester cell packet).now = s.now ∧ (s.dramReq stack addr bytes rt requester cell packet).free = s.free ∧ (s.dramReq stack addr bytes rt requester cell packet).pending = s.pending ∧
    (s.dramReq stack addr bytes rt requester cell packet).dev = s.dev ∧ (s.dramReq stack addr bytes rt requester cell packet).units = s.units ∧ (s.dramReq stack addr bytes rt requester cell packet).host = s.host ∧
    (s.dramReq stack addr bytes rt requester cell packet).dom = s.dom ∧ (s.dramReq stack addr bytes rt requester cell packet).lant = s.lant ∧ (s.dramReq stack addr bytes rt requester cell packet).ports = s.ports ∧
    (s.dramReq stack addr bytes rt requester cell packet).eli = s.eli ∧ (s.dramReq stack addr bytes rt requester cell packet).pkts = s.pkts ∧ (s.dramReq stack addr bytes rt requester cell packet).nextPkt = s.nextPkt ∧
    (s.dramReq stack addr bytes rt requester cell packet).parse = s.parse ∧ (s.dramReq stack addr bytes rt requester cell packet).tables = s.tables ∧ (s.dramReq stack addr bytes rt requester cell packet).assoc = s.assoc ∧
    (s.dramReq stack addr bytes rt requester cell packet).eng = s.eng ∧ (s.dramReq stack addr bytes rt requester cell packet).scout = s.scout ∧ (s.dramReq stack addr bytes rt requester cell packet).act = s.act ∧
    (s.dramReq stack addr bytes rt requester cell packet).buf = s.buf ∧ (s.dramReq stack addr bytes rt requester cell packet).tm = s.tm ∧ (s.dramReq stack addr bytes rt requester cell packet).pol = s.pol ∧
    (s.dramReq stack addr bytes rt requester cell packet).fab = s.fab ∧ (s.dramReq stack addr bytes rt requester cell packet).cipher = s.cipher ∧ (s.dramReq stack addr bytes rt requester cell packet).pon = s.pon ∧
    (s.dramReq stack addr bytes rt requester cell packet).fw = s.fw ∧ (s.dramReq stack addr bytes rt requester cell packet).time = s.time :=
 by
  have hx : (s.dramReq stack addr bytes rt requester cell packet) = { s with dram := (s.dramReq stack addr bytes rt requester cell packet).dram } := dramReq_only s stack addr bytes rt requester cell packet
  and_intros <;> rw [hx]

@[simp] theorem State.dramBest_rest (s : State) (stack bytes requester : Nat) :
    (s.dramBest stack bytes requester).now = s.now ∧ (s.dramBest stack bytes requester).pending = s.pending ∧ (s.dramBest stack bytes requester).dev = s.dev ∧
    (s.dramBest stack bytes requester).units = s.units ∧ (s.dramBest stack bytes requester).host = s.host ∧ (s.dramBest stack bytes requester).dom = s.dom ∧
    (s.dramBest stack bytes requester).lant = s.lant ∧ (s.dramBest stack bytes requester).ports = s.ports ∧ (s.dramBest stack bytes requester).eli = s.eli ∧
    (s.dramBest stack bytes requester).pkts = s.pkts ∧ (s.dramBest stack bytes requester).nextPkt = s.nextPkt ∧ (s.dramBest stack bytes requester).parse = s.parse ∧
    (s.dramBest stack bytes requester).tables = s.tables ∧ (s.dramBest stack bytes requester).assoc = s.assoc ∧ (s.dramBest stack bytes requester).eng = s.eng ∧
    (s.dramBest stack bytes requester).scout = s.scout ∧ (s.dramBest stack bytes requester).act = s.act ∧ (s.dramBest stack bytes requester).buf = s.buf ∧
    (s.dramBest stack bytes requester).tm = s.tm ∧ (s.dramBest stack bytes requester).pol = s.pol ∧ (s.dramBest stack bytes requester).fab = s.fab ∧
    (s.dramBest stack bytes requester).cipher = s.cipher ∧ (s.dramBest stack bytes requester).pon = s.pon ∧ (s.dramBest stack bytes requester).fw = s.fw ∧
    (s.dramBest stack bytes requester).time = s.time := by
  simp [State.dramBest]

@[simp] theorem State.dramAny_rest (s : State) (bytes requester : Nat) :
    (s.dramAny bytes requester).now = s.now ∧ (s.dramAny bytes requester).pending = s.pending ∧ (s.dramAny bytes requester).dev = s.dev ∧
    (s.dramAny bytes requester).units = s.units ∧ (s.dramAny bytes requester).host = s.host ∧ (s.dramAny bytes requester).dom = s.dom ∧
    (s.dramAny bytes requester).lant = s.lant ∧ (s.dramAny bytes requester).ports = s.ports ∧ (s.dramAny bytes requester).eli = s.eli ∧
    (s.dramAny bytes requester).pkts = s.pkts ∧ (s.dramAny bytes requester).nextPkt = s.nextPkt ∧ (s.dramAny bytes requester).parse = s.parse ∧
    (s.dramAny bytes requester).tables = s.tables ∧ (s.dramAny bytes requester).assoc = s.assoc ∧ (s.dramAny bytes requester).eng = s.eng ∧
    (s.dramAny bytes requester).scout = s.scout ∧ (s.dramAny bytes requester).act = s.act ∧ (s.dramAny bytes requester).buf = s.buf ∧
    (s.dramAny bytes requester).tm = s.tm ∧ (s.dramAny bytes requester).pol = s.pol ∧ (s.dramAny bytes requester).fab = s.fab ∧
    (s.dramAny bytes requester).cipher = s.cipher ∧ (s.dramAny bytes requester).pon = s.pon ∧ (s.dramAny bytes requester).fw = s.fw ∧
    (s.dramAny bytes requester).time = s.time := by
  simp [State.dramAny]

/-! ### Units and modes -/

@[simp] theorem State.ploam_rest (s : State) (tree onu code value : Nat) :
    (s.ploam tree onu code value).now = s.now ∧ (s.ploam tree onu code value).free = s.free ∧ (s.ploam tree onu code value).pending = s.pending ∧
    (s.ploam tree onu code value).dev = s.dev ∧ (s.ploam tree onu code value).units = s.units ∧ (s.ploam tree onu code value).dom = s.dom ∧
    (s.ploam tree onu code value).lant = s.lant ∧ (s.ploam tree onu code value).ports = s.ports ∧ (s.ploam tree onu code value).eli = s.eli ∧
    (s.ploam tree onu code value).pkts = s.pkts ∧ (s.ploam tree onu code value).nextPkt = s.nextPkt ∧ (s.ploam tree onu code value).parse = s.parse ∧
    (s.ploam tree onu code value).tables = s.tables ∧ (s.ploam tree onu code value).assoc = s.assoc ∧ (s.ploam tree onu code value).eng = s.eng ∧
    (s.ploam tree onu code value).scout = s.scout ∧ (s.ploam tree onu code value).act = s.act ∧ (s.ploam tree onu code value).buf = s.buf ∧
    (s.ploam tree onu code value).tm = s.tm ∧ (s.ploam tree onu code value).pol = s.pol ∧ (s.ploam tree onu code value).fab = s.fab ∧
    (s.ploam tree onu code value).cipher = s.cipher ∧ (s.ploam tree onu code value).pon = s.pon ∧ (s.ploam tree onu code value).dram = s.dram ∧
    (s.ploam tree onu code value).time = s.time := by
  unfold State.ploam
  split
  all_goals simp [State.emit]

@[simp] theorem State.releasePloam_rest (s : State) :
    (s.releasePloam).now = s.now ∧ (s.releasePloam).free = s.free ∧ (s.releasePloam).pending = s.pending ∧
    (s.releasePloam).dev = s.dev ∧ (s.releasePloam).units = s.units ∧ (s.releasePloam).dom = s.dom ∧
    (s.releasePloam).lant = s.lant ∧ (s.releasePloam).ports = s.ports ∧ (s.releasePloam).eli = s.eli ∧
    (s.releasePloam).pkts = s.pkts ∧ (s.releasePloam).nextPkt = s.nextPkt ∧ (s.releasePloam).parse = s.parse ∧
    (s.releasePloam).tables = s.tables ∧ (s.releasePloam).assoc = s.assoc ∧ (s.releasePloam).eng = s.eng ∧
    (s.releasePloam).scout = s.scout ∧ (s.releasePloam).act = s.act ∧ (s.releasePloam).buf = s.buf ∧
    (s.releasePloam).tm = s.tm ∧ (s.releasePloam).pol = s.pol ∧ (s.releasePloam).fab = s.fab ∧
    (s.releasePloam).cipher = s.cipher ∧ (s.releasePloam).pon = s.pon ∧ (s.releasePloam).dram = s.dram ∧
    (s.releasePloam).time = s.time := by
  and_intros <;> exact each_keeps _ _ (fun m s => by simp) _ _

@[simp] theorem State.abandonHandover_rest (s : State) (st : SlotState) :
    (s.abandonHandover st).now = s.now ∧ (s.abandonHandover st).pending = s.pending ∧ (s.abandonHandover st).dev = s.dev ∧
    (s.abandonHandover st).units = s.units ∧ (s.abandonHandover st).dom = s.dom ∧ (s.abandonHandover st).lant = s.lant ∧
    (s.abandonHandover st).ports = s.ports ∧ (s.abandonHandover st).eli = s.eli ∧ (s.abandonHandover st).pkts = s.pkts ∧
    (s.abandonHandover st).nextPkt = s.nextPkt ∧ (s.abandonHandover st).parse = s.parse ∧ (s.abandonHandover st).tables = s.tables ∧
    (s.abandonHandover st).assoc = s.assoc ∧ (s.abandonHandover st).eng = s.eng ∧ (s.abandonHandover st).scout = s.scout ∧
    (s.abandonHandover st).act = s.act ∧ (s.abandonHandover st).buf = s.buf ∧ (s.abandonHandover st).tm = s.tm ∧
    (s.abandonHandover st).pol = s.pol ∧ (s.abandonHandover st).fab = s.fab ∧ (s.abandonHandover st).cipher = s.cipher ∧
    (s.abandonHandover st).pon = s.pon ∧ (s.abandonHandover st).dram = s.dram ∧ (s.abandonHandover st).time = s.time := by
  unfold State.abandonHandover
  (try dsimp only)
  repeat' split
  all_goals simp

@[simp] theorem State.afterMapOut_rest (s : State) :
    (s.afterMapOut).now = s.now ∧ (s.afterMapOut).pending = s.pending ∧ (s.afterMapOut).units = s.units ∧
    (s.afterMapOut).dom = s.dom ∧ (s.afterMapOut).lant = s.lant ∧ (s.afterMapOut).ports = s.ports ∧
    (s.afterMapOut).eli = s.eli ∧ (s.afterMapOut).pkts = s.pkts ∧ (s.afterMapOut).nextPkt = s.nextPkt ∧
    (s.afterMapOut).parse = s.parse ∧ (s.afterMapOut).tables = s.tables ∧ (s.afterMapOut).assoc = s.assoc ∧
    (s.afterMapOut).eng = s.eng ∧ (s.afterMapOut).scout = s.scout ∧ (s.afterMapOut).act = s.act ∧
    (s.afterMapOut).buf = s.buf ∧ (s.afterMapOut).tm = s.tm ∧ (s.afterMapOut).pol = s.pol ∧
    (s.afterMapOut).fab = s.fab ∧ (s.afterMapOut).cipher = s.cipher ∧ (s.afterMapOut).pon = s.pon ∧
    (s.afterMapOut).dram = s.dram ∧ (s.afterMapOut).time = s.time := by
  unfold State.afterMapOut
  (try dsimp only)
  repeat' split
  all_goals simp

@[simp] theorem State.afterReturn_rest (s : State) :
    (s.afterReturn).now = s.now ∧ (s.afterReturn).free = s.free ∧ (s.afterReturn).pending = s.pending ∧
    (s.afterReturn).units = s.units ∧ (s.afterReturn).dom = s.dom ∧ (s.afterReturn).lant = s.lant ∧
    (s.afterReturn).ports = s.ports ∧ (s.afterReturn).eli = s.eli ∧ (s.afterReturn).pkts = s.pkts ∧
    (s.afterReturn).nextPkt = s.nextPkt ∧ (s.afterReturn).parse = s.parse ∧ (s.afterReturn).tables = s.tables ∧
    (s.afterReturn).assoc = s.assoc ∧ (s.afterReturn).eng = s.eng ∧ (s.afterReturn).scout = s.scout ∧
    (s.afterReturn).act = s.act ∧ (s.afterReturn).buf = s.buf ∧ (s.afterReturn).tm = s.tm ∧
    (s.afterReturn).pol = s.pol ∧ (s.afterReturn).fab = s.fab ∧ (s.afterReturn).cipher = s.cipher ∧
    (s.afterReturn).pon = s.pon ∧ (s.afterReturn).dram = s.dram ∧ (s.afterReturn).fw = s.fw ∧
    (s.afterReturn).time = s.time := by
  unfold State.afterReturn
  (try dsimp only)
  repeat' split
  all_goals simp

@[simp] theorem State.mapOut_rest (s : State) (kind n cause mask lost : Nat) (planned : Bool) :
    (s.mapOut kind n cause mask lost planned).now = s.now ∧ (s.mapOut kind n cause mask lost planned).pending = s.pending ∧ (s.mapOut kind n cause mask lost planned).dom = s.dom ∧
    (s.mapOut kind n cause mask lost planned).lant = s.lant ∧ (s.mapOut kind n cause mask lost planned).ports = s.ports ∧ (s.mapOut kind n cause mask lost planned).eli = s.eli ∧
    (s.mapOut kind n cause mask lost planned).pkts = s.pkts ∧ (s.mapOut kind n cause mask lost planned).nextPkt = s.nextPkt ∧ (s.mapOut kind n cause mask lost planned).parse = s.parse ∧
    (s.mapOut kind n cause mask lost planned).tables = s.tables ∧ (s.mapOut kind n cause mask lost planned).assoc = s.assoc ∧ (s.mapOut kind n cause mask lost planned).eng = s.eng ∧
    (s.mapOut kind n cause mask lost planned).scout = s.scout ∧ (s.mapOut kind n cause mask lost planned).act = s.act ∧ (s.mapOut kind n cause mask lost planned).buf = s.buf ∧
    (s.mapOut kind n cause mask lost planned).tm = s.tm ∧ (s.mapOut kind n cause mask lost planned).pol = s.pol ∧ (s.mapOut kind n cause mask lost planned).fab = s.fab ∧
    (s.mapOut kind n cause mask lost planned).cipher = s.cipher ∧ (s.mapOut kind n cause mask lost planned).pon = s.pon ∧ (s.mapOut kind n cause mask lost planned).dram = s.dram ∧
    (s.mapOut kind n cause mask lost planned).time = s.time := by
  unfold State.mapOut
  (try dsimp only)
  repeat' split
  all_goals simp

@[simp] theorem State.drawNonce_rest (s : State) :
    (s.drawNonce).now = s.now ∧ (s.drawNonce).pending = s.pending ∧ (s.drawNonce).dev = s.dev ∧
    (s.drawNonce).units = s.units ∧ (s.drawNonce).host = s.host ∧ (s.drawNonce).lant = s.lant ∧
    (s.drawNonce).ports = s.ports ∧ (s.drawNonce).eli = s.eli ∧ (s.drawNonce).pkts = s.pkts ∧
    (s.drawNonce).nextPkt = s.nextPkt ∧ (s.drawNonce).parse = s.parse ∧ (s.drawNonce).tables = s.tables ∧
    (s.drawNonce).assoc = s.assoc ∧ (s.drawNonce).eng = s.eng ∧ (s.drawNonce).scout = s.scout ∧
    (s.drawNonce).act = s.act ∧ (s.drawNonce).buf = s.buf ∧ (s.drawNonce).tm = s.tm ∧
    (s.drawNonce).pol = s.pol ∧ (s.drawNonce).fab = s.fab ∧ (s.drawNonce).cipher = s.cipher ∧
    (s.drawNonce).pon = s.pon ∧ (s.drawNonce).dram = s.dram ∧ (s.drawNonce).fw = s.fw ∧
    (s.drawNonce).time = s.time := by
  and_intros <;> rfl

@[simp] theorem State.bringBack_rest (s : State) (kind n mask : Nat) (planned : Bool) :
    (s.bringBack kind n mask planned).now = s.now ∧ (s.bringBack kind n mask planned).pending = s.pending ∧ (s.bringBack kind n mask planned).lant = s.lant ∧
    (s.bringBack kind n mask planned).ports = s.ports ∧ (s.bringBack kind n mask planned).eli = s.eli ∧ (s.bringBack kind n mask planned).pkts = s.pkts ∧
    (s.bringBack kind n mask planned).nextPkt = s.nextPkt ∧ (s.bringBack kind n mask planned).parse = s.parse ∧ (s.bringBack kind n mask planned).tables = s.tables ∧
    (s.bringBack kind n mask planned).assoc = s.assoc ∧ (s.bringBack kind n mask planned).eng = s.eng ∧ (s.bringBack kind n mask planned).scout = s.scout ∧
    (s.bringBack kind n mask planned).act = s.act ∧ (s.bringBack kind n mask planned).buf = s.buf ∧ (s.bringBack kind n mask planned).tm = s.tm ∧
    (s.bringBack kind n mask planned).pol = s.pol ∧ (s.bringBack kind n mask planned).fab = s.fab ∧ (s.bringBack kind n mask planned).cipher = s.cipher ∧
    (s.bringBack kind n mask planned).pon = s.pon ∧ (s.bringBack kind n mask planned).dram = s.dram ∧ (s.bringBack kind n mask planned).fw = s.fw ∧
    (s.bringBack kind n mask planned).time = s.time := by
  unfold State.bringBack
  (try dsimp only)
  repeat' split
  all_goals simp

/-- The units of a record's state beside the log. -/
@[simp] theorem record_out (s : State) (kind n severity action cause mask lost : Nat) (planned : Bool) :
    (s.record kind n severity action cause mask lost planned).units.out = s.units.out := by
  simp [State.record]

@[simp] theorem afterMapOut_units (s : State) : s.afterMapOut.units = s.units := by simp
@[simp] theorem afterReturn_units (s : State) : s.afterReturn.units = s.units := by simp

/-- A unit mapped out is out (R438). -/
@[simp] theorem mapOut_isOut (s : State) (kind n cause mask lost : Nat) (planned : Bool) :
    (s.mapOut kind n cause mask lost planned).isOut kind n = true := by
  unfold State.mapOut
  split
  · assumption
  · simp [State.isOut, State.markOut, Units.mark, Units.switch]

/-- A unit brought back is in service (R439). -/
@[simp] theorem bringBack_isOut (s : State) (kind n mask : Nat) (planned : Bool) :
    (s.bringBack kind n mask planned).isOut kind n = false := by
  unfold State.bringBack
  split
  · simp [State.isOut, State.markIn, Units.mark, Units.switch]
  · exact Bool.eq_false_iff.2 ‹_›

/-! ### Checks -/

/-- No error comes first exactly where no check gives one. -/
@[simp] theorem firstErr_none (e : Option Err) (l : List (Option Err)) : firstErr (e :: l) = none ↔ e = none ∧ firstErr l = none := by
  cases e <;> simp [firstErr]

@[simp] theorem firstErr_nil : firstErr [] = none := rfl

/-! ### Links: no event and no reply changes one -/

/-- The link state of a host port. -/
def linkOf (s : State) (h : Nat) : Bool × Bool := ((s.hostPort h).link, (s.hostPort h).cxl)

theorem linkOf_setHostPort (s : State) (h k : Nat) (p : HostPort) :
    linkOf (s.setHostPort h p) k = if k = h then (p.link, p.cxl) else linkOf s k := by
  unfold linkOf
  rw [State.setHostPort_hostPort]
  split <;> rfl

@[simp] theorem linkOf_setRing (s : State) (h r k : Nat) (g : Ring) : linkOf (s.setRing h r g) k = linkOf s k := rfl
@[simp] theorem linkOf_emit (s : State) (o : Out) (k : Nat) : linkOf (s.emit o) k = linkOf s k := rfl
@[simp] theorem linkOf_writeShadow (s : State) (h r k : Nat) : linkOf (s.writeShadow h r) k = linkOf s k := rfl
@[simp] theorem linkOf_drawNonce (s : State) (k : Nat) : linkOf s.drawNonce k = linkOf s k := rfl

@[simp] theorem linkOf_signal (s : State) (h r k : Nat) : linkOf (s.signal h r) k = linkOf s k := by
  unfold State.signal
  dsimp only
  split
  · rw [linkOf_setHostPort]
    split
    · rename_i e; subst e; rfl
    · rfl
  · rfl

@[simp] theorem linkOf_postEntry (s : State) (h r : Nat) (e : Entry) (now : Bool) (k : Nat) :
    linkOf (s.postEntry h r e now) k = linkOf s k := by
  unfold State.postEntry
  dsimp only
  split <;> simp

@[simp] theorem linkOf_eventHost (s : State) (e : Event) (h k : Nat) : linkOf (s.eventHost e h) k = linkOf s k := by
  have hp : ∀ p : HostPort, p.link = (s.hostPort h).link → p.cxl = (s.hostPort h).cxl → linkOf (s.setHostPort h p) k = linkOf s k := by
    intro p h1 h2
    rw [linkOf_setHostPort]
    split
    · rename_i e; subst e; rw [h1, h2]; rfl
    · rfl
  unfold State.eventHost
  dsimp only
  repeat' split
  · rfl
  · rfl
  · simp
  · exact hp _ rfl rfl
  · exact hp _ rfl rfl

@[simp] theorem linkOf_event (s : State) (code detail result mask : Nat) (dest : Nat → Bool) (k : Nat) :
    linkOf (s.event code detail result mask dest) k = linkOf s k := by
  unfold State.event
  dsimp only
  refine each_keeps _ (fun s => linkOf s k) (fun h s => ?_) _ s
  split <;> simp

@[simp] theorem linkOf_eventMask (s : State) (m code detail result k : Nat) : linkOf (s.eventMask m code detail result) k = linkOf s k :=
  linkOf_event _ _ _ _ _ _ _
@[simp] theorem linkOf_eventTo (s : State) (d code detail result k : Nat) : linkOf (s.eventTo d code detail result) k = linkOf s k :=
  linkOf_event _ _ _ _ _ _ _
@[simp] theorem linkOf_eventAll (s : State) (code detail result k : Nat) : linkOf (s.eventAll code detail result) k = linkOf s k :=
  linkOf_event _ _ _ _ _ _ _

/-- The link state reads the host ports alone. -/
theorem linkOf_congr {a b : State} (h : a.host.ports = b.host.ports) (k : Nat) : linkOf a k = linkOf b k := by
  simp [linkOf, State.hostPort, h]

@[simp] theorem linkOf_drawn (s : State) (k : Nat) : linkOf s.drawn k = linkOf s k := rfl
@[simp] theorem linkOf_markOut (s : State) (kind n k : Nat) : linkOf (s.markOut kind n) k = linkOf s k := rfl
@[simp] theorem linkOf_markIn (s : State) (kind n k : Nat) : linkOf (s.markIn kind n) k = linkOf s k := rfl

@[simp] theorem linkOf_releaseFence (s : State) (h r k : Nat) : linkOf (s.releaseFence h r) k = linkOf s k := by
  unfold State.releaseFence
  dsimp only
  repeat' split
  all_goals rfl

@[simp] theorem linkOf_route (s : State) (c : Cmd) (e : Entry) (long : Bytes) (k : Nat) : linkOf (s.route c e long) k = linkOf s k := by
  unfold State.route
  dsimp only
  repeat' split
  all_goals simp

@[simp] theorem linkOf_answer (s : State) (c : Cmd) (st : Status) (detail result : Nat) (long : Bytes) (k : Nat) :
    linkOf (s.answer c st detail result long) k = linkOf s k := by
  unfold State.answer
  dsimp only
  repeat' split
  all_goals first
    | rfl
    | (simp only [linkOf_releaseFence, linkOf_route]; rfl)

@[simp] theorem linkOf_record (s : State) (kind n severity action cause mask lost : Nat) (planned : Bool) (k : Nat) :
    linkOf (s.record kind n severity action cause mask lost planned) k = linkOf s k := by
  have h : ∀ (x : State) (m code d r : Nat), x.host = s.host → linkOf (x.eventMask m code d r) k = linkOf s k :=
    fun x m code d r hx => (linkOf_eventMask x m code d r k).trans (linkOf_congr (congrArg Hosts.ports hx) k)
  unfold State.record
  exact h _ _ _ _ _ rfl

@[simp] theorem linkOf_setMode (s : State) (m : Mode) (k : Nat) : linkOf (s.setMode m) k = linkOf s k := by
  unfold State.setMode
  dsimp only
  split
  · rfl
  · simp only [linkOf_eventAll]
    exact linkOf_congr rfl k

@[simp] theorem linkOf_releasePloam (s : State) (k : Nat) : linkOf s.releasePloam k = linkOf s k := by
  refine each_keeps _ (fun s => linkOf s k) (fun m s => ?_) _ _
  unfold State.ploam
  split <;> exact linkOf_congr rfl k

@[simp] theorem linkOf_abandonHandover (s : State) (st : SlotState) (k : Nat) : linkOf (s.abandonHandover st) k = linkOf s k := by
  unfold State.abandonHandover
  split
  · rfl
  · dsimp only
    have hx := fun f => (linkOf_releasePloam { s with fw := f } k).trans (linkOf_congr rfl k : linkOf _ k = linkOf s k)
    repeat' split
    all_goals (simp only [linkOf_answer, linkOf_eventTo, linkOf_drawn]; exact hx _)

@[simp] theorem linkOf_mapOut (s : State) (kind n cause mask lost : Nat) (planned : Bool) (k : Nat) :
    linkOf (s.mapOut kind n cause mask lost planned) k = linkOf s k := by
  unfold State.mapOut State.afterMapOut
  dsimp only
  repeat' split
  all_goals first
    | rfl
    | (simp only [linkOf_record, linkOf_setMode, linkOf_markOut]; done)
    | (simp only [linkOf_abandonHandover, linkOf_setMode]
       exact (linkOf_congr rfl k).trans ((linkOf_record (s.markOut kind n) _ _ _ _ _ _ _ _ k).trans (linkOf_markOut s kind n k)))

@[simp] theorem linkOf_bringBack (s : State) (kind n mask : Nat) (planned : Bool) (k : Nat) :
    linkOf (s.bringBack kind n mask planned) k = linkOf s k := by
  unfold State.bringBack State.afterReturn
  repeat' split
  all_goals simp

/-! ### What goes outside -/

theorem setRing_out (s : State) (h r : Nat) (g : Ring) : (s.setRing h r g).host.out = s.host.out := rfl

/-- Signalling a vector appends at most its message. -/
theorem signal_out (s : State) (h r : Nat) : ∃ l, (s.signal h r).host.out = s.host.out ++ l := by
  unfold State.signal
  dsimp only
  split
  · exact ⟨[], by simp [State.setHostPort, State.setRing]⟩
  · exact ⟨[_], rfl⟩

/-- Posting an entry puts it and the shadow outside, in that order, and then at most an interrupt message (R68). -/
theorem postEntry_out (s : State) (h r : Nat) (e : Entry) (now : Bool) :
    ∃ l, (s.postEntry h r e now).host.out =
      s.host.out ++ ([.entry h ((s.ring h r).cqBase + 16 * (s.ring h r).cqTail) e,
        .shadow h (s.ring h r).shadow
          (leBytes 2 (((s.ring h r).cqTail + 1) % (s.ring h r).size) ++ leBytes 2 (s.ring h r).sqHead ++ leBytes 4 0)] ++ l) := by
  unfold State.postEntry
  dsimp only
  split
  · obtain ⟨l, hl⟩ := signal_out _ h r
    refine ⟨l, hl.trans ?_⟩
    simp [State.writeShadow, Ring.shadowBytes, setRing_out, State.emit]
  · refine ⟨[], ?_⟩
    simp [State.writeShadow, Ring.shadowBytes, setRing_out, State.emit]

/-! ### The frame of a command (R74, R79) -/

theorem firstErr_cons_none (l : List (Option Err)) : firstErr (none :: l) = firstErr l := rfl

/-- A command that passes every check has its effect and is answered, unless a later row answers it. -/
theorem command_ok (s : State) (code : Nat) (c : Cmd) (who : Who) (errs : List (Option Err)) (done : Done) (res : Nat)
    (hr : ready s c code who = true) (he : firstErr errs = none) :
    s.command code c who errs done res =
      if done.later then done.s.keepWorking c else done.s.answer c done.status done.detail done.result done.long := by
  unfold ready at hr
  unfold State.command
  split at hr
  · cases hr
  · rename_i x hx
    simp only [Bool.and_eq_true, decide_eq_true_eq, Bool.not_eq_true', Option.isNone_iff_eq_none] at hr
    obtain ⟨⟨⟨⟨h1, h2⟩, h3⟩, h4⟩, h5⟩ := hr
    simp [hx, h1, h2, h3, h4, h5, firstErr, he]

/-- A command that fails a check is answered with the first failed one and changes nothing else (R79). -/
theorem command_err (s : State) (code : Nat) (c : Cmd) (who : Who) (errs : List (Option Err)) (done : Done) (res : Nat) (x : Started)
    (e : Err) (hx : s.startedAs c = some x) (hc : c.opcode = code) (hw : x.working = false) (hb : s.basecampUp = true)
    (hq : (s.waits c && !x.busy) = false) (he : firstErr (frameErr x c who :: errs) = some e) :
    s.command code c who errs done res = s.answer c e.status e.detail (errResult e res) [] := by
  unfold State.command
  simp [hx, hc, hw, hb, hq, he]

/-! ### The slices of the traffic manager (R306, R308) -/

/-- A level-A node's return to its home slice is within the traffic manager. -/
theorem atHome_onlyTm (s : State) (a : Nat) : s.atHome a = { s with tm := (s.atHome a).tm } := rfl

/-- The moves out of failed slices are within the traffic manager. -/
theorem rehome_onlyTm (s : State) : s.rehome = { s with tm := s.rehome.tm } := by
  simp only [State.rehome]

@[simp] theorem State.atHome_ports (s : State) (a : Nat) : (s.atHome a).ports = s.ports := rfl
@[simp] theorem State.rehome_ports (s : State) : s.rehome.ports = s.ports := by
  simp only [State.rehome]

end Sys2Proof.Machine
end

