-- ==== Sys2Proof/Tests/Base.lean ====
section
/-! SUPPORT. Small states and commands for the tests: a command with its parameters written field by field, and a state in which it
has started. -/

namespace Sys2Proof.Tests

open Sys2Proof.Machine

/-- Bytes 16–63 with fields laid over zeros: offset in the entry, width, value. -/
def params (l : List (Nat × Nat × Nat)) : Bytes :=
  l.foldl (fun b f => overlay b (f.1 - 16) (leBytes f.2.1 f.2.2)) (List.replicate 48 0)

/-- A command of host 0, ring 0 under domain 0, with an inline reply and a reply buffer. -/
def cm (code : Nat) (l : List (Nat × Nat × Nat)) : Cmd :=
  { host := 0, ring := 0, opcode := code, flags := 2, domByte := 0, tag := 7, reply := 0x1000, params := params l }

/-- The state in which the command has started, read in SERVICE from a host that holds its domain. -/
def begun (s : State) (c : Cmd) : State :=
  { s with host := { s.host with started := [{ cmd := c, mode := .service, held := true }] } }

/-- The state in which the command is at work. -/
def atWork (s : State) (c : Cmd) : State :=
  { s with host := { s.host with started := [{ cmd := c, mode := .service, held := true, working := true }] } }

/-- A device that serves, with host 0 linked. -/
def up : State :=
  { State.reset with dev := { mode := .service, dispatchOff := false, schedOff := false, ready := true },
                     host := { ports := [(0, { link := true, cxl := true })] } }

/-- A state with an AES-128 key in slot 9. -/
def keyed (s : State) : State := { s with dom := { s.dom with keys := [(9, { kind := 1, key := 77 })] } }

/-- A thread. -/
def th0 : ThreadId := { cluster := 3, engine := 5, thread := 7 }

/-- A state in which that thread runs the pass of packet 9, with more of the thread set by `f`. -/
def busy (f : Thread → Thread) : State :=
  (up.setPkt 9 { live := true, inPass := true, cluster := 3, bytes := List.replicate 64 0 }).setThread th0
    (f { state := .run, pass := some 9, parsed := true })

end Sys2Proof.Tests
end

