-- ==== Sys2Proof/Tests/Slice0.lean ====
section
/-! SUPPORT. Tests of this model: well-formedness refuses an ill-formed term of each check, and single steps show values that the spec
states. The witnesses of the statements stand in Tests/Witnesses.lean. -/

namespace Sys2Proof.Tests

open Sys2Proof.Machine

/-! ### Well-formedness -/

/-- A well-formed command. -/
def okCmd : Cmd := cm 0 []
/-- A well-formed register read. -/
def okRead : RegRead := { host := 0, addr := 0, size := 4 }
/-- A well-formed frame. -/
def okFrame : RxFrame := { bytes := List.replicate 64 0, fcsOk := true, uncorrectable := false }
/-- A well-formed lane marker. -/
def okMarker : LaneMarker := { pattern := 0, lane := 0, laneInv := 255, groupCount := 0, lineBits := 0, skewNs := 0 }
/-- A well-formed ELI frame. -/
def okEli : EliFrame := { overhead := List.replicate 64 0, slots := List.replicate 128 (List.replicate 1000 0) }
/-- A well-formed boot read. -/
def okBoot : BootRead := { flashOk := true, coresOk := [0, 1, 2, 3], slot0 := none, slot1 := none, topology := none, provisioning := none }
/-- A well-formed image header. -/
def okImage : Image :=
  { magicOk := true, format := 1, imageType := 1, part := 0x5140, stepping := 0xB0, binding := 0, unitId := 0, version := 7, security := 0,
    signer := 0, configFormat := 1, minConfigFormat := 1, ucodeInterface := 0, payloadLength := 4, signaturesOk := true, hashOk := true }
/-- A well-formed burst. -/
def okBurst : Burst := { arrival := 0, bitErrors := 0, onuId := none, badCodewords := 0, allocs := [] }

/-- The terms that the tests below spoil are well-formed themselves. -/
theorem test_wf_accepts :
    (okCmd.wf && okRead.wf && okFrame.wf && okMarker.wf && okEli.wf && okBoot.wf && okImage.wf && okBurst.wf && th0.wf &&
      Instr.wf (.nop 0 okCmd) && Instr.wf (.portUp 0 127) && Instr.wf (.egressDispatch 0 191)) = true := by decide +kernel

/-- Each field of a submission entry is held to its width (R73). -/
theorem test_wf_cmd_refuses :
    ([{ okCmd with host := 4 }, { okCmd with ring := 16 }, { okCmd with opcode := 2 ^ 16 }, { okCmd with flags := 256 },
      { okCmd with domByte := 256 }, { okCmd with tag := 2 ^ 32 }, { okCmd with reply := 2 ^ 64 }, { okCmd with params := [] }].all
      fun c => !c.wf) = true := by decide

/-- A window access beyond 64 MiB, of another host or of another size is refused (R8). -/
theorem test_wf_access_refuses :
    (!RegRead.wf { okRead with host := 4 } && !RegRead.wf { okRead with addr := 2 ^ 26 } && !RegRead.wf { okRead with size := 3 } &&
      !RegWrite.wf { host := 0, addr := 0, size := 1, value := 256 }) = true := by decide

/-- Straps, threads, frames, markers and images out of range are refused. -/
theorem test_wf_parts_refuses :
    (!Straps.wf { bootMode := 4, topoSel := 0, principalSel := 0 } && !Straps.wf { bootMode := 0, topoSel := 2, principalSel := 0 } &&
      !Straps.wf { bootMode := 0, topoSel := 0, principalSel := 4 } && !ThreadId.wf { th0 with cluster := 32 } &&
      !ThreadId.wf { th0 with engine := 16 } && !ThreadId.wf { th0 with thread := 16 } && !LaneMarker.wf { okMarker with lane := 256 } &&
      !LaneMarker.wf { okMarker with laneInv := 256 } && !EliFrame.wf { okEli with slots := [] } &&
      ([{ okImage with format := 256 }, { okImage with imageType := 256 }, { okImage with part := 2 ^ 16 }, { okImage with stepping := 256 },
        { okImage with unitId := 2 ^ 64 }, { okImage with version := 2 ^ 32 }, { okImage with security := 256 },
        { okImage with payloadLength := 2 ^ 32 }].all fun i => !i.wf) && !BootRead.wf { okBoot with slot0 := some { okImage with format := 256 } } &&
      !BootRead.wf { okBoot with slot1 := some { okImage with format := 256 } }) = true := by decide

/-- What the outside brings to a row is held to the widths of its fields. -/
theorem test_wf_operands_refuses :
    (!BurstAlloc.wf { allocId := 2 ^ 14, frames := [], used := 0, report := none } &&
      !BurstAlloc.wf { allocId := 0, frames := [{ portId := 2 ^ 16, keyIndex := 0, headerOk := true, codewordOk := true, fcsOk := true, frame := [] }], used := 0, report := none } &&
      !BurstAlloc.wf { allocId := 0, frames := [{ portId := 0, keyIndex := 4, headerOk := true, codewordOk := true, fcsOk := true, frame := [] }], used := 0, report := none } &&
      !EntryError.wf { bucket := 0, slot := 0, firstBad := false, secondBad := false, leaves := [] } && !BundleOp.wf (.setReg 0 (2 ^ 64)) &&
      !BundleOp.wf (.localWrite 0 (2 ^ 64)) && !BundleOp.wf (.sharedWrite 0 (2 ^ 64)) && !BundleOp.wf (.watch 0 256) &&
      !BundleOp.wf (.learn (2 ^ 16) [] 0) && !BundleOp.wf (.learn 0 [] (2 ^ 32)) && !BundleOp.wf (.metaWord 3 0) &&
      !BundleOp.wf (.metaWord 0 (2 ^ 32)) && !CellReq.wf { requester := 0, queue := 2 ^ 20, far := false } &&
      !JtagInstr.wf (.regRead (2 ^ 26)) && !JtagInstr.wf (.regWrite (2 ^ 26) 0) && !JtagInstr.wf (.regWrite 0 (2 ^ 32)) && !JtagInstr.wf (.thread []) &&
      !SearchEnd.wf { tag := 2, bad := [] } && !SearchEnd.wf { tag := 0, bad := [(32, 0)] } && !SearchEnd.wf { tag := 0, bad := [(0, 8192)] } &&
      !DisagreeAt.wf (.rx { th0 with engine := 16 }) && !DisagreeAt.wf (.pon 48 true) &&
      ([{ uncorrectable := false, channel := 0, pc := 2, bank := 0, row := 0 }, { uncorrectable := false, channel := 0, pc := 0, bank := 32, row := 0 },
        { uncorrectable := false, channel := 0, pc := 0, bank := 0, row := 8192 }].all fun e => !EccError.wf e)) = true := by decide

/-- Rows with an operand out of range are refused, from powerOnReset to keyDestroy. -/
theorem test_wf_rows_refuses_1 :
    (([
      .powerOnReset 0 { bootMode := 4, topoSel := 0, principalSel := 0 },
      .pinReset 0 0 { bootMode := 4, topoSel := 0, principalSel := 0 },
      .devResetFull 0 4 0,
      .devResetFull 0 0 (2 ^ 32),
      .devResetDataPlane 0 4 0,
      .devResetDataPlane 0 0 (2 ^ 32),
      .hostLinkLoss 0 4 false,
      .hostLinkTrained 0 4 false,
      .supplyFault 0 16 0 false,
      .bootImageCheck 0 { okBoot with coresOk := [4] },
      .serdesCalibrationDone 0 false 64 [],
      .dramTrainingDone 0 10 none 0,
      .stackZeroingDone 0 10,
      .modeSet 0 { okCmd with opcode := 2 },
      .unknownOpcode 0 { okCmd with host := 4 },
      .nop 0 { okCmd with opcode := 1 },
      .devQuery 0 { okCmd with opcode := 3 },
      .eventConfig 0 { okCmd with opcode := 4 },
      .memWindow 0 { okCmd with opcode := 5 },
      .registerWrite 0 [{ host := 0, addr := 2 ^ 26, size := 4, value := 0 }]
    ] ++ [
      .ringCfgEnable 0 4 0 0,
      .ringCfgEnable 0 0 16 0,
      .ringCfgEnable 0 0 0 (2 ^ 32),
      .ringCfgDisable 0 4 0 0,
      .ringCfgDisable 0 0 16 0,
      .ringCfgDisable 0 0 0 (2 ^ 32),
      .sqTail 0 4 0 0,
      .sqTail 0 0 16 0,
      .sqTail 0 0 0 (2 ^ 32),
      .cqHead 0 4 0 0,
      .cqHead 0 0 16 0,
      .cqHead 0 0 0 (2 ^ 32),
      .ringEntryFetch 0 4 0 .failed,
      .ringEntryFetch 0 0 16 .failed,
      .ringEntryFetch 0 0 0 (.data []),
      .hostBufferTimeout 0 { okCmd with host := 4 },
      .hostWriteFailed 0 4 0,
      .hostWriteFailed 0 0 16,
      .ringDrained 0 4 0,
      .ringDrained 0 0 16
    ] ++ [
      .eventQueueDrain 0 4,
      .interruptCoalTimeout 0 4 0,
      .interruptCoalTimeout 0 0 16,
      .hcmdEvtLostRead 0 { okRead with size := 3 },
      .cxlmemRead 0 4 0,
      .cxlmemRead 0 0 (2 ^ 52),
      .cxlmemWrite 0 4 0 [],
      .cxlmemWrite 0 0 (2 ^ 52) [],
      .domainSet 0 { okCmd with opcode := 257 },
      .resourceAssign 0 { okCmd with opcode := 258 },
      .principalSet 0 { okCmd with opcode := 259 },
      .secHeartbeat 0 4 0,
      .secHeartbeat 0 0 (2 ^ 32),
      .keyLockClaim 0 [{ host := 0, addr := 2 ^ 26, size := 4, value := 0 }],
      .keyLockRelease 0 4 0,
      .keyLockRelease 0 0 (2 ^ 32),
      .keyInfo 0 { okCmd with opcode := 273 },
      .keyImport 0 { okCmd with opcode := 274 } .failed,
      .keyExport 0 { okCmd with opcode := 275 },
      .keyDestroy 0 { okCmd with opcode := 276 }
    ] : List Instr).all fun i => !i.wf) = true := by decide +kernel

/-- Rows with an operand out of range are refused, from debugAuth to parsePortConfig. -/
theorem test_wf_rows_refuses_2 :
    (([
      .debugAuth 0 { okCmd with opcode := 289 } .failed,
      .jtagInstruction 0 (.other 256),
      .portMap 0 { okCmd with opcode := 513 },
      .portConfig 0 { okCmd with opcode := 514 },
      .laneConfig 0 { okCmd with opcode := 515 },
      .portStats 0 { okCmd with opcode := 516 },
      .portUp 0 128,
      .linkTrainingRestart 0 128,
      .laneSignalLoss 0 256 false,
      .remoteFaultReceived 0 128,
      .fecDegradeInterval 0 128 0 0,
      .laneFail 0 256,
      .quadFail 0 64,
      .ethFrameReceive 0 128 okFrame,
      .ethFrameReceive 0 0 { okFrame with bytes := [] },
      .pfcFrameReceive 0 128 0 [],
      .pfcPauseExpire 0 128 0,
      .pfcPauseExpire 0 0 8,
      .frameTransmit 0 128,
      .eliLaneMarker 0 128 0 okMarker
    ] ++ [
      .eliLaneMarker 0 0 8 okMarker,
      .eliLaneMarker 0 0 0 { okMarker with pattern := 2 ^ 48 },
      .eliFawMatch 0 128 0 0,
      .eliFrameReceive 0 128 okEli,
      .eliFrameReceive 0 0 { okEli with overhead := [] },
      .eliTxFrameStart 0 128,
      .eliExpressReplace 0 128 0,
      .eliExpressReplace 0 0 128,
      .eliExpressRestore 0 128 0,
      .eliExpressRestore 0 0 128,
      .eliConfig 0 { okCmd with opcode := 769 },
      .eliSlotmap 0 { okCmd with opcode := 770 },
      .eliExpress 0 { okCmd with opcode := 771 },
      .eliCounters 0 { okCmd with opcode := 772 },
      .ingressDispatch 0 128,
      .egressDispatch 0 192,
      .parseComplete 0 { th0 with cluster := 32 },
      .orderBucketRelease 0 32 0,
      .orderBucketRelease 0 0 4096,
      .steerHoldDrained 0 1024
    ] ++ [
      .steerHoldTimeout 0 1024,
      .lookupIssue 0 { th0 with cluster := 32 } 0 0 [],
      .lookupIssue 0 th0 8 0 [],
      .lookupIssue 0 th0 0 (2 ^ 16) [],
      .classifyIssue 0 { th0 with cluster := 32 } 0 0,
      .classifyIssue 0 th0 8 0,
      .classifyIssue 0 th0 0 (2 ^ 16),
      .scanIssue 0 { th0 with cluster := 32 } 0 0,
      .scanIssue 0 th0 (2 ^ 16) 0,
      .assocSearchIssue 0 { th0 with cluster := 32 } 0 0 [],
      .assocSearchIssue 0 th0 2 0 [],
      .assocSearchIssue 0 th0 0 (2 ^ 16) [],
      .lookupResponse 0 { th0 with cluster := 32 } 0 none,
      .lookupResponse 0 th0 8 none,
      .lookupResponse 0 th0 0 (some { bucket := 0, slot := 4, firstBad := true, secondBad := false, leaves := [] }),
      .scanResponse 0 { th0 with cluster := 32 },
      .assocResponse 0 { th0 with cluster := 32 } { tag := 0, bad := [] },
      .assocResponse 0 th0 { tag := 2, bad := [] },
      .parseGraphLoad 0 { okCmd with opcode := 1025 } .failed,
      .parsePortConfig 0 { okCmd with opcode := 1026 }
    ] : List Instr).all fun i => !i.wf) = true := by decide +kernel

/-- Rows with an operand out of range are refused, from classTreeLoad to chanVisible. -/
theorem test_wf_rows_refuses_3 :
    (([
      .classTreeLoad 0 { okCmd with opcode := 1027 } .failed,
      .classTreeDelete 0 { okCmd with opcode := 1028 },
      .autoSetLoad 0 { okCmd with opcode := 1029 } .failed,
      .autoSetDelete 0 { okCmd with opcode := 1030 },
      .classLimit 0 { okCmd with opcode := 1031 },
      .parseCounters 0 { okCmd with opcode := 1032 },
      .tableCreate 0 { okCmd with opcode := 1281 },
      .tableDestroy 0 { okCmd with opcode := 1282 },
      .tableInsert 0 { okCmd with opcode := 1283 },
      .tableUpdate 0 { okCmd with opcode := 1284 },
      .tableDelete 0 { okCmd with opcode := 1285 },
      .tableSearch 0 { okCmd with opcode := 1286 },
      .tableNext 0 { okCmd with opcode := 1287 },
      .tableFlushPort 0 { okCmd with opcode := 1288 },
      .tableDma 0 { okCmd with opcode := 1289 } .failed,
      .dmaLockRelease 0 (2 ^ 16) 0 false,
      .dmaLockRelease 0 0 (2 ^ 24) false,
      .lpmAdd 0 { okCmd with opcode := 1290 } .failed,
      .lpmDelete 0 { okCmd with opcode := 1291 } .failed,
      .learnConfig 0 { okCmd with opcode := 1292 }
    ] ++ [
      .tableAge 0 { okCmd with opcode := 1293 },
      .tableLimit 0 { okCmd with opcode := 1294 },
      .ageSweepVisit 0 (2 ^ 16) 0,
      .ageSweepVisit 0 0 (2 ^ 24),
      .mirrorRepair 0 (2 ^ 16) 0 0,
      .mirrorRepair 0 0 (2 ^ 24) 0,
      .mirrorRepair 0 0 0 4,
      .lpmRebuild 0 (2 ^ 16),
      .assocCreate 0 { okCmd with opcode := 1537 },
      .assocDelete 0 { okCmd with opcode := 1538 },
      .assocWrite 0 { okCmd with opcode := 1539 } .failed,
      .assocUpdateStep 0 32,
      .assocRead 0 { okCmd with opcode := 1540 },
      .assocGroup 0 { okCmd with opcode := 1541 },
      .assocSearch 0 { okCmd with opcode := 1542 } .failed,
      .assocScrub 0 32 0 false,
      .assocScrub 0 0 8192 false,
      .assocRowRepair 0 32 0,
      .assocRowRepair 0 0 8192,
      .engineIssue 0 32 0 [] []
    ] ++ [
      .engineIssue 0 0 16 [] [],
      .engineIssue 0 0 0 [] [.watch 4 0],
      .slotTableSwitch 0 32 0,
      .slotTableSwitch 0 0 16,
      .wait 0 { th0 with cluster := 32 } 0,
      .wait 0 th0 (2 ^ 32),
      .signal 0 { th0 with cluster := 32 } 0 0 0,
      .signal 0 th0 16 0 0,
      .signal 0 th0 0 16 0,
      .signal 0 th0 0 0 8,
      .signalDeliver 0 32,
      .timerSet 0 { th0 with cluster := 32 } none,
      .timerFire 0 { th0 with cluster := 32 },
      .chanStage 0 { th0 with cluster := 32 } 0 0 0,
      .chanStage 0 th0 256 0 0,
      .chanStage 0 th0 0 8 0,
      .chanStage 0 th0 0 0 (2 ^ 64),
      .chanCommit 0 { th0 with cluster := 32 },
      .chanVisible 0 32 0,
      .chanVisible 0 0 256
    ] : List Instr).all fun i => !i.wf) = true := by decide +kernel

/-- Rows with an operand out of range are refused, from chanRead to schedSelect. -/
theorem test_wf_rows_refuses_4 :
    (([
      .chanRead 0 { th0 with cluster := 32 } 0,
      .chanRead 0 th0 256,
      .yield 0 { th0 with cluster := 32 } 0,
      .yield 0 th0 65,
      .yieldExpire 0 { th0 with cluster := 32 },
      .faultRaise 0 { th0 with cluster := 32 } 0 0,
      .faultRaise 0 th0 256 0,
      .faultRaise 0 th0 0 (2 ^ 32),
      .faultQueueRead 0 32,
      .confirm 0 { th0 with cluster := 32 },
      .packetDma 0 { th0 with cluster := 32 } false 0 0 0,
      .packetDmaDone 0 { th0 with cluster := 32 },
      .responseTimeout 0 { th0 with cluster := 32 } 0,
      .responseTimeout 0 th0 32,
      .passBudgetExceeded 0 { th0 with cluster := 32 },
      .passEnd 0 { th0 with cluster := 32 } { drop := true, pointer := 0, malformed := false },
      .passEnd 0 th0 { drop := true, pointer := 2 ^ 32, malformed := false },
      .allwaitDetect 0 32,
      .allwaitEscalate 0 32,
      .clusterStallRecovery 0 32
    ] ++ [
      .clusterHealthWord 0 32,
      .clusterFail 0 32 false,
      .threadStopped 0 { th0 with cluster := 32 },
      .engProfileLoad 0 { okCmd with opcode := 1793 } .failed,
      .engSlotSet 0 { okCmd with opcode := 1794 },
      .engConfig 0 { okCmd with opcode := 1795 },
      .threadDebug 0 { okCmd with opcode := 1796 },
      .profileWrite 0 { okCmd with opcode := 1797 } .failed,
      .scoutDeliver 0 { th0 with cluster := 32 },
      .squash 0 { th0 with cluster := 32 },
      .scoutFill 0 32,
      .scoutPartition 0 { okCmd with opcode := 1921 },
      .scoutConfig 0 { okCmd with opcode := 1922 },
      .scoutTemplate 0 { okCmd with opcode := 1923 },
      .scoutInvalidate 0 { okCmd with opcode := 1924 },
      .scoutStats 0 { okCmd with opcode := 1925 },
      .editApply 0 32,
      .actionWrite 0 { okCmd with opcode := 1033 } .failed,
      .actionLimit 0 { okCmd with opcode := 1034 },
      .editStats 0 { okCmd with opcode := 1035 }
    ] ++ [
      .tunnelCipher 0 4,
      .guylineDeliver 0 false 16 false,
      .guylineGroupFailed 0 16,
      .guylineMapoutDrained 0 16,
      .guylineEntryReturn 0 false 64,
      .cellAllocate 0 64 [],
      .cellAllocate 0 0 [{ requester := 47, queue := 0, far := false }],
      .cellFree 0 (2 ^ 30),
      .poolCacheRefill 0 64 false,
      .pfcXoffRefresh 0 128 0,
      .pfcXoffRefresh 0 0 8,
      .farPageMove 0 1024,
      .bufErrLogRead 0 { okRead with size := 3 },
      .poolConfig 0 { okCmd with opcode := 2049 },
      .accountConfig 0 { okCmd with opcode := 2050 },
      .poolThresh 0 { okCmd with opcode := 2051 },
      .queueBuf 0 { okCmd with opcode := 2052 },
      .bufStats 0 { okCmd with opcode := 2053 },
      .enqueue 0 47,
      .schedSelect 0 192
    ] : List Instr).all fun i => !i.wf) = true := by decide +kernel

/-- Rows with an operand out of range are refused, from selectionComplete to grantTreeConfig. -/
theorem test_wf_rows_refuses_5 :
    (([
      .selectionComplete 0 32,
      .flushComplete 0 { okCmd with host := 4 },
      .nodeConfig 0 { okCmd with opcode := 2305 },
      .queueState 0 { okCmd with opcode := 2306 },
      .nodeQuery 0 { okCmd with opcode := 2307 },
      .queueStats 0 { okCmd with opcode := 2308 },
      .schedLimit 0 { okCmd with opcode := 2309 },
      .sliceFail 0 32,
      .obsSamplePass 0 16,
      .policerConfig 0 { okCmd with opcode := 2561 },
      .policerStats 0 { okCmd with opcode := 2562 },
      .congProfile 0 { okCmd with opcode := 2563 },
      .queueCong 0 { okCmd with opcode := 2564 },
      .obsSelect 0 { okCmd with opcode := 2565 },
      .obsConfig 0 { okCmd with opcode := 2566 },
      .obsHwm 0 { okCmd with opcode := 2567 },
      .congStats 0 { okCmd with opcode := 2568 },
      .congLimit 0 { okCmd with opcode := 2569 },
      .congSeed 0 { okCmd with opcode := 2570 },
      .fabLaneMarker 0 192 okMarker
    ] ++ [
      .fabLaneMarker 0 0 { okMarker with pattern := 2 ^ 48 },
      .fabCellReceive 0 192 [] false,
      .fabCellSend 0 192,
      .fabGapTimeout 0 2048,
      .fabRequestRefresh 0 (2 ^ 20),
      .fabResync 0 (2 ^ 20),
      .fabCreditGrant 0 128,
      .fabLinkFail 0 192 false,
      .fabResend 0 192,
      .fabLinkReturn 0 192,
      .fabLinkMapoutDone 0 192,
      .fabConfig 0 { okCmd with opcode := 2817 },
      .fabVoqMap 0 { okCmd with opcode := 2818 },
      .fabPortCredit 0 { okCmd with opcode := 2819 },
      .fabLink 0 { okCmd with opcode := 2820 },
      .fabStats 0 { okCmd with opcode := 2821 },
      .ponDsFrame 0 48,
      .ponBurstReceive 0 48 okBurst,
      .ponBurstReceive 0 0 { okBurst with onuId := some 1024 },
      .ponWindowClose 0 48 0
    ] ++ [
      .ponEnergyDetect 0 48 0,
      .ponSerialNumber 0 48 0,
      .ponSerialNumber 0 0 (2 ^ 64),
      .ponRangingTimeout 0 48 0,
      .ponRangingTimeout 0 0 256,
      .ponRogueSearchStep 0 48,
      .ponOmciReceive 0 48 0 [],
      .ponOmciReceive 0 0 256 [],
      .ponChannelFail 0 48,
      .ponTreeConfig 0 { okCmd with opcode := 3073 },
      .ponBurstProfile 0 { okCmd with opcode := 3074 },
      .ponOnu 0 { okCmd with opcode := 3075 },
      .ponXgem 0 { okCmd with opcode := 3076 },
      .ponOnuKey 0 { okCmd with opcode := 3077 },
      .ponOmciSend 0 { okCmd with opcode := 3078 } .failed,
      .ponTod 0 { okCmd with opcode := 3079 },
      .ponStats 0 { okCmd with opcode := 3080 },
      .grantSnapshot 0 48,
      .grantMapReady 0 48,
      .grantTreeConfig 0 { okCmd with opcode := 3081 }
    ] : List Instr).all fun i => !i.wf) = true := by decide +kernel

/-- Rows with an operand out of range are refused, from grantAlloc to clusterDrained. -/
theorem test_wf_rows_refuses_6 :
    (([
      .grantAlloc 0 { okCmd with opcode := 3082 },
      .grantGroup 0 { okCmd with opcode := 3083 },
      .grantQuery 0 { okCmd with opcode := 3084 },
      .grantStats 0 { okCmd with opcode := 3085 },
      .macsecVerdict 0 { th0 with cluster := 32 } false,
      .cipherDisagree 0 132 (.pon 0 false),
      .cipherDisagree 0 0 (.tx 128 true),
      .cipherKat 0 132 false,
      .cipherReplace 0 132,
      .macsecSa 0 { okCmd with opcode := 3329 },
      .macsecPort 0 { okCmd with opcode := 3330 },
      .tunnelSa 0 { okCmd with opcode := 3331 },
      .ciphStats 0 { okCmd with opcode := 3332 },
      .ciphFaultLogRead 0 { okRead with size := 3 },
      .timeNsRead 0 { okRead with size := 3 },
      .timeStep 0 { okCmd with opcode := 3585 },
      .timeArm 0 { okCmd with opcode := 3586 },
      .timeRate 0 { okCmd with opcode := 3587 },
      .timeSlew 0 { okCmd with opcode := 3588 },
      .timePulse 0 { okCmd with opcode := 3589 }
    ] ++ [
      .pulseFire 0 4,
      .pulseEnd 0 4,
      .timeInEdge 0 2 false 0,
      .timeCapture 0 { okCmd with opcode := 3590 },
      .timeTsRead 0 { okCmd with opcode := 3591 },
      .timePortAdj 0 { okCmd with opcode := 3592 },
      .dramArbitrate 0 10 0 none,
      .dramArbitrate 0 0 64 none,
      .dramArbitrate 0 0 0 (some { uncorrectable := false, channel := 32, pc := 0, bank := 0, row := 0 }),
      .dramRefreshDue 0 10 0 0,
      .dramRefreshDue 0 0 64 0,
      .dramRefreshDue 0 0 0 32,
      .dramDisturbWindow 0 10,
      .dramThrottleExpire 0 10 0 0,
      .dramThrottleExpire 0 0 64 0,
      .dramThrottleExpire 0 0 0 32,
      .dramSelfRefreshEnter 0 10,
      .dramSpillInterval 0 10,
      .dramOppointChange 0 10,
      .dramOppoint 0 10
    ] ++ [
      .dramPatrolScrub 0 10 none,
      .dramPatrolScrub 0 0 (some { uncorrectable := false, channel := 32, pc := 0, bank := 0, row := 0 }),
      .dramStackFail 0 10 0,
      .dramStackFail 0 0 256,
      .dramErrCountRead 0 { okRead with size := 3 },
      .dramQuery 0 { okCmd with opcode := 3841 },
      .dramMap 0 { okCmd with opcode := 3842 },
      .dramPower 0 { okCmd with opcode := 3843 },
      .dramTrain 0 { okCmd with opcode := 3844 } [],
      .dramDisturb 0 { okCmd with opcode := 3845 },
      .lantCntLoRead 0 { okRead with size := 3 },
      .lantRead 0 { okCmd with opcode := 4097 },
      .lantMode 0 { okCmd with opcode := 4098 },
      .basecampCoreFail 0 4 [],
      .tableBankFail 0 16 [],
      .tableBankRebuilt 0 16 [],
      .assocBlockFail 0 32,
      .nearBankFail 0 8,
      .unitMap 0 { okCmd with opcode := 4354 } [],
      .clusterDrained 0 32
    ] : List Instr).all fun i => !i.wf) = true := by decide +kernel

/-- Rows with an operand out of range are refused, from nearBankDrained to trailheadSteerRebalance. -/
theorem test_wf_rows_refuses_7 :
    (([
      .nearBankDrained 0 8,
      .sliceNodeMove 0 192,
      .faultLogRead 0 { okCmd with opcode := 4353 },
      .faultAck 0 { okCmd with opcode := 4355 },
      .faultConfig 0 { okCmd with opcode := 4356 },
      .fwDeliver 0 { okCmd with opcode := 4609 } .failed,
      .inbandFwFrame 0 128 [],
      .fwStatus 0 { okCmd with opcode := 4610 },
      .fwActivate 0 { okCmd with opcode := 4611 },
      .profileClusterSwap 0 32,
      .trialExpire 0 3,
      .fwCommit 0 { okCmd with opcode := 4612 },
      .fwRollback 0 { okCmd with opcode := 4613 },
      .fwFloor 0 { okCmd with opcode := 4614 },
      .fwInband 0 { okCmd with opcode := 4615 },
      .fwConfigSave 0 { okCmd with opcode := 4616 },
      .resetNRisingEdge 0 { bootMode := 4, topoSel := 0, principalSel := 0 },
      .eliFawNotFound 0 128 0,
      .portConditionCleared 0 128 .signal,
      .dramSelfRefreshExit 0 10
    ] ++ [
      .trailheadSteerRebalance 0 1024 0,
      .trailheadSteerRebalance 0 0 32
    ] : List Instr).all fun i => !i.wf) = true := by decide +kernel

/-- A buffer of more than 1 MiB is refused (R76). -/
theorem test_wf_buffer_refuses : BufRead.wf (.data (List.replicate 1048577 0)) = false := by
  simp only [BufRead.wf, List.length_replicate]
  decide

/-! ### Values that the spec states -/

/-- A state that a step answered, with a default for a stop. -/
def after (o : Host.Outcome State Fault Refusal) : State :=
  match o with
  | .next s => s
  | .fault _ => State.reset
  | .refused _ => State.reset

/-- On an empty queue the step leaves the state. -/
theorem test_step_idle : step State.reset = .next State.reset := rfl

/-- The table gives no bits, so no word spells a command. -/
theorem test_decode_none : decodeTableWord 32 0x1234 = none ∧ State.reset.withFetchWord 32 0x1234 = State.reset := ⟨rfl, rfl⟩

/-- 22, example: C12.E3's counters lie in group 48 and D2's undone counter in C12 is index 2,124, in group 130. -/
theorem test_lantern_map : lantGroup 780 = 48 ∧ lantGroup 783 = 48 ∧ lantGroup (2048 + 64 + 12) = 130 ∧ (lantMembers 48).length = 16 := by
  decide

/-- R409: mask j is 0x41 shifted left by j. -/
theorem test_dram_masks : ({} : Stack).mask 0 = 0x41 ∧ ({} : Stack).mask 10 = 0x10400 := by decide

/-- R31: two Guyline groups serve, one does not. -/
theorem test_serviceable :
    ({ State.reset with units := { out := (List.range 14).map fun i => (3 * 65536 + i, true) } }).serviceable = true ∧
      ({ State.reset with units := { out := (List.range 15).map fun i => (3 * 65536 + i, true) } }).serviceable = false := by decide

/-- R444: after a power-on reset sequence numbers start at 1, and a record has 32 bytes. -/
theorem test_first_record :
    (State.reset.record 4 21 2 2 0 0xFFFF 412).units.lastSeq = 1 ∧
      (State.reset.record 4 21 2 2 0 0xFFFF 412).units.log.map (fun r => r.bytes.length) = [32] := by decide

/-- 23, example, step 4: the mode becomes DEGRADED and FAULT_KIND_OUT counts the cluster. -/
theorem test_map_out_degrades : (up.mapOut 4 21 0 0xFFFF 412).dev.mode = .degraded ∧ (up.mapOut 4 21 0 0xFFFF 412).countOut 4 = 1 := by decide

/-- 24, Usfold header: the fields lie where the table puts them. -/
theorem test_image_header :
    (imageOf ([0x55, 0x53, 0x46, 0x44, 1, 2, 0, 0, 0x40, 0x51, 0xB0] ++ List.replicate 13 0 ++ [4, 3, 2, 1, 9] ++ List.replicate 7 0 ++
      [0, 1] ++ List.replicate 220 0)).part = 0x5140 ∧
    (imageOf ([0x55, 0x53, 0x46, 0x44, 1, 2, 0, 0, 0x40, 0x51, 0xB0] ++ List.replicate 13 0 ++ [4, 3, 2, 1, 9] ++ List.replicate 7 0 ++
      [0, 1] ++ List.replicate 220 0)).version = 0x01020304 ∧
    (imageOf ([0x55, 0x53, 0x46, 0x44, 1, 2, 0, 0, 0x40, 0x51, 0xB0] ++ List.replicate 13 0 ++ [4, 3, 2, 1, 9] ++ List.replicate 7 0 ++
      [0, 1] ++ List.replicate 220 0)).payloadLength = 256 := by decide

/-- 20: one second is 10^9 ns, and a step by an offset of −1 ns moves TIME back by one. -/
theorem test_time_step :
    (after (exec (.timeStep 0 (cm 0xE00 [(20, 8, 2 ^ 64 - 65536)])) (begun { up with time := { value := second } } (cm 0xE00 [(20, 8, 2 ^ 64 - 65536)])))).time.value
      = 999999999 * 2 ^ 40 := by decide +kernel

/-- R41: MODE_SET to the present mode returns OK and changes nothing. -/
theorem test_mode_set_same : (after (exec (.modeSet 0 (cm 1 [(16, 1, 3)])) (begun up (cm 1 [(16, 1, 3)])))).dev = up.dev := by decide

/-- R63, R75: the completion entry of a command goes to base + 16 × cq_tail of its ring, with its tag. -/
theorem test_nop_reply :
    ((after (exec (.nop 0 (cm 0 [])) ((begun up (cm 0 [])).setRing 0 0 { cqBase := 0x20000, cqTail := 3, sizeLog2 := 4 }))).host.out.filterMap fun o => match o with
      | .entry h a e => some (h, a, e.tag, e.status)
      | _ => none) = [(0, 0x20030, 7, 0)] := by decide

end Sys2Proof.Tests
end

