-- ==== Sys2Proof/Tests/Witnesses.lean ====
section
/-! SUPPORT. For every clause of the statements, a state and operands that meet its hypotheses together. -/

namespace Sys2Proof.Tests

open Sys2Proof.Machine

set_option linter.unusedVariables false
set_option Elab.async false

/-! ### ResetsComplete -/

theorem witness_ResetsComplete_powerOnReset : ∃ (straps : Straps) (s : State), True :=
  ⟨{ bootMode := 0, topoSel := 0, principalSel := 2 }, up, by decide⟩

theorem witness_ResetsComplete_pinReset : ∃ (lowNs : Nat) (straps : Straps) (s : State), 10000 ≤ lowNs ∧ s.dev.thermTrip = false :=
  ⟨10000, { bootMode := 0, topoSel := 0, principalSel := 2 }, up, by decide⟩

theorem witness_ResetsComplete_resetNRisingEdge : ∃ (straps : Straps) (s : State), s.dev.inReset = true :=
  ⟨{ bootMode := 0, topoSel := 1, principalSel := 3 }, { State.reset with dev := { inReset := true } }, by decide⟩

theorem witness_ResetsComplete_devResetFull : ∃ (host : Nat) (value : Nat) (s : State), s.answers host = true ∧ s.dom.valid = true ∧ host = s.dom.principal ∧ value / 65536 = 0x0A5A ∧ value % 4 = 1 ∧ s.dev.thermTrip = false :=
  ⟨0, 0x0A5A0001, up, by decide⟩

theorem witness_ResetsComplete_devResetDataPlane : ∃ (host : Nat) (value : Nat) (s : State), s.answers host = true ∧ s.dom.valid = true ∧ host = s.dom.principal ∧ value / 65536 = 0x0A5A ∧ value % 4 = 2 ∧
      s.dev.mode ≠ .safe ∧ s.dev.mode ≠ .calibrate ∧ s.dev.thermTrip = false :=
  ⟨0, 0x0A5A0002, up, by decide⟩

theorem witness_ResetsComplete_hostLinkLoss : ∃ (host : Nat) (perst : Bool) (s : State), host < 4 ∧ (s.hostPort host).link = true :=
  ⟨0, false, up, by decide⟩

theorem witness_ResetsComplete_hostLinkTrained : ∃ (host : Nat) (cxl : Bool) (s : State), host < 4 ∧ (s.hostPort host).link = false ∧ s.dev.inReset = false ∧ s.dev.dead = false :=
  ⟨1, true, up, by decide⟩

theorem witness_ResetsComplete_rootPllLoss : ∃ (s : State), True :=
  ⟨up, by decide⟩

theorem witness_ResetsComplete_supplyFault : ∃ (rail : Nat) (outNs : Nat) (outOfOrder : Bool) (s : State), rail < 11 ∧ rail ≠ 9 ∧ 2000 < outNs :=
  ⟨0, 2001, false, up, by decide⟩

theorem witness_ResetsComplete_thermalTrip : ∃ (tjF : Int) (tjT : Int) (s : State), 115 ≤ tjF ∨ 115 ≤ tjT :=
  ⟨115, 20, up, by decide⟩

theorem witness_ResetsComplete_junctionOverMax : ∃ (tjF : Int) (tjT : Int) (stackMax : Nat) (s : State), True :=
  ⟨96, 20, 60, up, by decide⟩

/-! ### StartupCompletes -/

theorem witness_StartupCompletes_bootImageCheck : ∃ (boot : BootRead) (i : Image) (s : State), s.dev.inReset = false ∧ s.dev.dead = false ∧ s.dev.mode = .safe ∧ s.dev.bootDone = false ∧ s.dev.bootError = 0 ∧
      s.dev.straps.bootMode = 0 ∧ boot.flashOk = true ∧ boot.coresOk = [0, 1, 2, 3] ∧ s.primary 1 = 0 ∧ (s.slot 1 0).state = .good ∧
      boot.slot0 = some i ∧ i.magicOk = true ∧ i.format = 1 ∧ i.signaturesOk = true ∧ i.hashOk = true ∧
      i.part = 0x5140 ∧ i.stepping = 0xB0 ∧ i.imageType = 1 ∧ i.binding = 0 ∧
      s.floor 1 ≤ i.security :=
  ⟨{ flashOk := true, coresOk := [0, 1, 2, 3], slot0 := some { magicOk := true, format := 1, imageType := 1, part := 0x5140, stepping := 0xB0, binding := 0, unitId := 0, version := 7, security := (Config.fusedFloor 1).toNat, signer := 0, configFormat := 1, minConfigFormat := 1, ucodeInterface := 1, payloadLength := 4, signaturesOk := true, hashOk := true }, slot1 := none, topology := none, provisioning := none },
    { magicOk := true, format := 1, imageType := 1, part := 0x5140, stepping := 0xB0, binding := 0, unitId := 0, version := 7, security := (Config.fusedFloor 1).toNat, signer := 0, configFormat := 1, minConfigFormat := 1, ucodeInterface := 1, payloadLength := 4, signaturesOk := true, hashOk := true },
    { State.reset with fw := { slots := [(0, { state := .good })] }, dev := { inReset := false } }, by
      refine ⟨by decide, by decide, by decide, by decide, by decide, by decide, rfl, rfl, by decide, by decide, rfl, rfl, rfl, rfl, rfl, rfl, rfl, rfl, rfl, ?_⟩
      simp [State.floor, look]⟩

theorem witness_StartupCompletes_guylineTrainingDone : ∃ (failed : List Nat) (s : State), s.dev.mode = .calibrate ∧ s.dev.zeroing = none ∧ s.dev.guylineDone = false ∧ failed = [] :=
  ⟨[], { up with dev := { mode := .calibrate } }, by decide⟩

theorem witness_StartupCompletes_serdesCalibrationDone : ∃ (fabric : Bool) (quad : Nat) (failed : List Nat) (s : State), s.dev.mode = .calibrate ∧ s.dev.zeroing = none ∧ fabric = false ∧ quad < 64 ∧ failed = [] :=
  ⟨false, 3, [], { up with dev := { mode := .calibrate } }, by decide⟩

theorem witness_StartupCompletes_dramTrainingDone : ∃ (stack : Nat) (failedAt : Option (Nat × Nat)) (repaired : Nat) (s : State), s.inTraining stack = true ∧ failedAt = none :=
  ⟨3, none, 2, { up with dev := { mode := .calibrate, guylineDone := true } }, by decide⟩

theorem witness_StartupCompletes_stackZeroingDone : ∃ (stack : Nat) (s : State), stack < 10 ∧ (s.stack stack).trained = true ∧ (s.stack stack).zeroed = false ∧ (s.stack stack).work = none ∧ s.dev.mode = .calibrate ∧ s.healthy 9 stack = true :=
  ⟨3, { up with dev := { mode := .calibrate }, dram := [(3, { trained := true })] }, by decide⟩

theorem witness_StartupCompletes_trainingTimeout : ∃ (kind : Nat) (number : Nat) (s : State), kind = 3 ∧ s.dev.mode = .calibrate ∧ s.dev.zeroing = none ∧ s.dev.guylineDone = false ∧ number < 16 ∧ s.healthy 3 number = true :=
  ⟨3, 5, { up with dev := { mode := .calibrate } }, by decide⟩

theorem witness_StartupCompletes_configApply : ∃ (s : State), s.dev.mode = .calibrate ∧ s.dev.dramDone = true ∧ s.dev.guylineDone = true ∧ s.dev.serdesDone = true ∧ s.dev.configDone = false ∧
      s.dev.zeroing = none ∧ s.fw.copies = [] ∧ (s.slot 2 (s.running 2)).state = .empty :=
  ⟨{ up with dev := { mode := .calibrate, dramDone := true, guylineDone := true, serdesDone := true } }, by decide⟩

theorem witness_StartupCompletes_standbyEntry : ∃ (s : State), s.dev.mode = .calibrate ∧ s.dev.configDone = true ∧ s.dev.zeroing = none :=
  ⟨{ up with dev := { mode := .calibrate, configDone := true } }, by decide⟩

/-! ### ModeSetCompletes -/

theorem witness_ModeSetCompletes_modeSet : ∃ (c : Cmd) (s : State), ready s c 0x0001 .d0 = true ∧ c.host = s.dom.principal ∧ c.zeros 17 47 = none ∧ (s.dev.hold.any fun h => h.mode.isSome) = false ∧ c.u8 16 = 3 ∧ s.dev.mode = .standby ∧ s.serviceable = true :=
  ⟨cm 1 [(16, 1, 3)], begun { up with dev := { mode := .standby } } (cm 1 [(16, 1, 3)]), by decide⟩

theorem witness_ModeSetCompletes_modeSet_modeSetHold : ∃ (c : Cmd) (s : State), ready s c 0x0001 .d0 = true ∧ c.host = s.dom.principal ∧ c.zeros 17 47 = none ∧ (s.dev.hold.any fun h => h.mode.isSome) = false ∧ c.u8 16 = 2 ∧ (s.dev.mode = .service ∨ s.dev.mode = .degraded) :=
  ⟨cm 1 [(16, 1, 2)], begun up (cm 1 [(16, 1, 2)]), by decide⟩

theorem witness_ModeSetCompletes_modeSet_modeSetSame : ∃ (c : Cmd) (s : State), ready s c 0x0001 .d0 = true ∧ c.host = s.dom.principal ∧ c.zeros 17 47 = none ∧ (s.dev.hold.any fun h => h.mode.isSome) = false ∧ ((c.u8 16 = 2 ∧ s.dev.mode = .standby) ∨ (c.u8 16 = 3 ∧ (s.dev.mode = .service ∨ s.dev.mode = .degraded))) :=
  ⟨cm 1 [(16, 1, 3)], begun up (cm 1 [(16, 1, 3)]), by decide⟩

theorem witness_ModeSetCompletes_dataPlaneHoldDone : ∃ (hd : Hold) (c : Cmd) (s : State), s.dev.hold = some hd ∧ (s.quiet = true ∨ hd.deadline ≤ s.now) ∧ s.dev.mode ≠ .standby ∧ hd.mode = some c ∧ hd.scan = none :=
  ⟨{ mode := some (cm 1 []), deadline := 0 }, cm 1 [], { up with dev := { mode := .service, hold := some { mode := some (cm 1 []), deadline := 0 } } }, by decide⟩

theorem witness_ModeSetCompletes_dataPlaneHoldDone_scan : ∃ (hd : Hold) (x : ScanDue) (s : State), s.dev.hold = some hd ∧ (s.quiet = true ∨ hd.deadline ≤ s.now) ∧ hd.mode = none ∧ hd.scan = some x :=
  ⟨{ scan := some ({ session := { viaHost := true, signer := 0, scope := 16, mask := 1, deadline := 6000000 }, seconds := 60, cmd := none }), deadline := 0 }, { session := { viaHost := true, signer := 0, scope := 16, mask := 1, deadline := 6000000 }, seconds := 60, cmd := none }, { up with dev := { mode := .service, hold := some { scan := some ({ session := { viaHost := true, signer := 0, scope := 16, mask := 1, deadline := 6000000 }, seconds := 60, cmd := none }), deadline := 0 } } }, by decide⟩

theorem witness_ModeSetCompletes_dataPlaneHoldDone_early : ∃ (s : State), s.dev.hold = none ∨ (∃ hd, s.dev.hold = some hd ∧ s.quiet = false ∧ s.now < hd.deadline) :=
  ⟨up, by decide⟩

/-! ### DeviceCommandsComplete -/

theorem witness_DeviceCommandsComplete_unknownOpcode : ∃ (c : Cmd) (s : State), (s.startedAs c).isSome = true ∧ knownOpcode c.opcode = false :=
  ⟨cm 0xFFFF [], begun up (cm 0xFFFF []), by decide⟩

theorem witness_DeviceCommandsComplete_nop : ∃ (c : Cmd) (s : State), ready s c 0x0000 .any = true ∧ firstErr [c.zeros 16 48] = none :=
  ⟨cm 0 [], begun up (cm 0 []), by decide⟩

theorem witness_DeviceCommandsComplete_devQuery : ∃ (c : Cmd) (s : State), ready s c 0x0002 .any = true ∧ firstErr [c.needReply, c.zeros 16 48] = none :=
  ⟨cm 2 [], begun up (cm 2 []), by decide⟩

theorem witness_DeviceCommandsComplete_eventConfig : ∃ (c : Cmd) (s : State), ready s c 0x0003 .any = true ∧
      firstErr [at_ 16 (c.u8 16 < 16), c.zeros 17 3, at_ 20 (c.u32 20 < 2 ^ 20), c.zeros 24 40] = none :=
  ⟨cm 3 [(16, 1, 4), (20, 4, 0xFFFFF)], begun up (cm 3 [(16, 1, 4), (20, 4, 0xFFFFF)]), by decide⟩

theorem witness_DeviceCommandsComplete_memWindow_memWindowMap : ∃ (c : Cmd) (s : State), ready s c 0x0004 .any = true ∧ (s.hostPort c.host).cxl = true ∧ c.u8 16 = 0 ∧ c.u8 17 = 0 ∧ c.u16 18 < 4096 ∧
      s.holdsRegion c.domain (c.u32 20) = true ∧ c.u32 24 < s.regionPages (c.u32 20) ∧ c.zeros 28 36 = none ∧
      (s.window c.host (c.u16 18)).mapped = false :=
  ⟨cm 4 [(18, 2, 4095), (20, 4, 0xC00)], begun up (cm 4 [(18, 2, 4095), (20, 4, 0xC00)]), by decide⟩

theorem witness_DeviceCommandsComplete_memWindow_memWindowUnmap : ∃ (c : Cmd) (s : State), ready s c 0x0004 .any = true ∧ (s.hostPort c.host).cxl = true ∧ c.u8 16 = 1 ∧ c.u8 17 = 0 ∧ c.u16 18 < 4096 ∧
      c.zeros 20 44 = none ∧ (s.window c.host (c.u16 18)).mapped = true ∧ (s.window c.host (c.u16 18)).domain = c.domain :=
  ⟨cm 4 [(16, 1, 1), (18, 2, 1)], (begun up (cm 4 [(16, 1, 1), (18, 2, 1)])).setWindow 0 1 { mapped := true, domain := 0 }, by decide⟩

theorem witness_DeviceCommandsComplete_hostBufferTimeout : ∃ (c : Cmd) (s : State), ∃ x, s.startedAs c = some x ∧ x.working = false ∧ readsBuffer c = true :=
  ⟨cm 0x0111 [], begun up (cm 0x0111 []), { cmd := cm 0x0111 [], mode := .service, held := true }, by decide⟩

theorem witness_DeviceCommandsComplete_eventQueueDrain : ∃ (host : Nat) (r : Nat) (e : Event) (s : State), s.fwWindow = false ∧ (s.hostPort host).eventRing = some r ∧ (s.hostPort host).events = [e] ∧ (s.hostPort host).lostSince = 0 ∧
      (s.ring host r).state = .active ∧ (s.ring host r).room = true ∧ s.mayHear host e.mask = true :=
  ⟨0, 3, { code := 0x00F0, detail := 5, result := 0, mask := 0 }, (up.setHostPort 0 { link := true, eventRing := some 3, eventMask := 1, events := [{ code := 0x00F0, detail := 5, result := 0, mask := 0 }] }).setRing 0 3 { state := .active, sizeLog2 := 4 }, by decide⟩

theorem witness_DeviceCommandsComplete_interruptCoalTimeout : ∃ (host : Nat) (ring : Nat) (s : State), (s.ring host ring).unsignalled ≠ 0 ∧ (s.ring host ring).coalTime ≠ 0 ∧ (s.ring host ring).oldest + us (s.ring host ring).coalTime ≤ s.now :=
  ⟨0, 3, { up with now := us 10 }.setRing 0 3 { state := .active, unsignalled := 1, coalTime := 10 }, by decide⟩

theorem witness_DeviceCommandsComplete_hcmdEvtLostRead : ∃ (r : RegRead) (v : Nat) (s : State), r.addr = 0x00100004 ∧ r.size = 4 ∧ s.answers r.host = true ∧ v = (s.hostPort r.host).evtMark.seen s.kclk (s.hostPort r.host).evtLost :=
  ⟨{ host := 0, addr := 0x00100004, size := 4 }, 0, up, by decide⟩

theorem witness_DeviceCommandsComplete_hcmdEvtLostRead_part : ∃ (r : RegRead) (v : Nat) (s : State), r.addr / 4 = 0x00040001 ∧ s.answers r.host = true ∧ v = (s.hostPort r.host).evtMark.seen s.kclk (s.hostPort r.host).evtLost :=
  ⟨{ host := 0, addr := 0x00100006, size := 2 }, 0, up, by decide⟩

theorem witness_DeviceCommandsComplete_cxlmemRead_cxlmemReadUnmapped : ∃ (host : Nat) (addr : Nat) (s : State), s.answers host = true ∧ (s.hostPort host).cxl = true ∧ addr < 2 ^ 37 ∧ (s.window host (addr / 2 ^ 25)).mapped = false :=
  ⟨0, 0x40, up, by decide⟩

theorem witness_DeviceCommandsComplete_cxlmemRead : ∃ (host : Nat) (addr : Nat) (s : State), s.answers host = true ∧ (s.hostPort host).cxl = true ∧ addr < 2 ^ 37 ∧ (s.window host (addr / 2 ^ 25)).mapped = true :=
  ⟨0, 0x40, up.setWindow 0 0 { mapped := true, region := 0xA00 }, by decide⟩

theorem witness_DeviceCommandsComplete_cxlmemWrite : ∃ (host : Nat) (addr : Nat) (data : Bytes) (s : State), s.answers host = true ∧ (s.hostPort host).cxl = true ∧ addr < 2 ^ 37 ∧ (s.window host (addr / 2 ^ 25)).mapped = true ∧
      (s.window host (addr / 2 ^ 25)).write = true :=
  ⟨0, 0x40, [1, 2, 3, 4, 5, 6, 7, 8], up.setWindow 0 0 { mapped := true, write := true, region := 0xA00 }, by decide⟩

/-! ### RingRegistersComplete -/

theorem witness_RingRegistersComplete_ringCfgEnable : ∃ (host : Nat) (ring : Nat) (value : Nat) (s : State), s.answers host = true ∧ ring < 16 ∧ bit value 31 = true ∧ (s.ring host ring).state = .disabled ∧
      4 ≤ bits value 27 24 ∧ bits value 27 24 ≤ 12 ∧ (s.ring host ring).sqBase ≠ 0 ∧ (s.ring host ring).cqBase ≠ 0 ∧ (s.ring host ring).shadow ≠ 0 :=
  ⟨0, 2, 0x88050000, up.setRing 0 2 { sqBase := 0x4000000000, cqBase := 0x4000010000, shadow := 0x4000020000 }, by decide⟩

theorem witness_RingRegistersComplete_ringCfgEnable_ringCfgBad : ∃ (host : Nat) (ring : Nat) (value : Nat) (s : State), s.answers host = true ∧ ring < 16 ∧ bit value 31 = true ∧ (s.ring host ring).state = .disabled ∧
      (bits value 27 24 < 4 ∨ 12 < bits value 27 24 ∨ (s.ring host ring).sqBase = 0 ∨ (s.ring host ring).cqBase = 0 ∨ (s.ring host ring).shadow = 0) :=
  ⟨0, 2, 0x8D050000, up.setRing 0 2 { sqBase := 0x4000000000, cqBase := 0x4000010000, shadow := 0x4000020000 }, by decide⟩

theorem witness_RingRegistersComplete_ringCfgDisable : ∃ (host : Nat) (ring : Nat) (value : Nat) (s : State), s.answers host = true ∧ ring < 16 ∧ bit value 31 = false ∧ ((s.ring host ring).state = .active ∨ (s.ring host ring).state = .error) :=
  ⟨0, 2, 0, up.setRing 0 2 { state := .active, enable := true }, by decide⟩

theorem witness_RingRegistersComplete_ringCfgDisable_ringCfgSet : ∃ (host : Nat) (ring : Nat) (value : Nat) (s : State), s.answers host = true ∧ ring < 16 ∧ bit value 31 = false ∧ (s.ring host ring).state = .disabled :=
  ⟨0, 2, 0x05000000, up, by decide⟩

theorem witness_RingRegistersComplete_sqTail : ∃ (host : Nat) (ring : Nat) (value : Nat) (s : State), s.answers host = true ∧ ring < 16 ∧ (s.ring host ring).state ≠ .disabled ∧ value % 4096 < (s.ring host ring).size ∧
      ((s.ring host ring).sqTail + (s.ring host ring).size - (s.ring host ring).sqHead) % (s.ring host ring).size ≤
        (value % 4096 + (s.ring host ring).size - (s.ring host ring).sqHead) % (s.ring host ring).size :=
  ⟨0, 2, 18, up.setRing 0 2 { state := .active, enable := true, sizeLog2 := 8, sqTail := 17, sqHead := 17 }, by decide⟩

theorem witness_RingRegistersComplete_sqTail_sqTailRange : ∃ (host : Nat) (ring : Nat) (value : Nat) (s : State), s.answers host = true ∧ ring < 16 ∧ (s.ring host ring).state = .active ∧ (s.ring host ring).size ≤ value % 4096 :=
  ⟨0, 2, 256, up.setRing 0 2 { state := .active, enable := true, sizeLog2 := 8 }, by decide⟩

theorem witness_RingRegistersComplete_cqHead : ∃ (host : Nat) (ring : Nat) (value : Nat) (s : State), s.answers host = true ∧ ring < 16 ∧ (s.ring host ring).state ≠ .disabled ∧ value % 4096 < (s.ring host ring).size ∧
      ((s.ring host ring).cqTail + (s.ring host ring).size - value % 4096) % (s.ring host ring).size ≤
        ((s.ring host ring).cqTail + (s.ring host ring).size - (s.ring host ring).cqHead) % (s.ring host ring).size :=
  ⟨0, 2, 18, up.setRing 0 2 { state := .active, enable := true, sizeLog2 := 8, cqTail := 18, cqHead := 17 }, by decide⟩

theorem witness_RingRegistersComplete_cqHead_cqHeadBack : ∃ (host : Nat) (ring : Nat) (value : Nat) (s : State), s.answers host = true ∧ ring < 16 ∧ (s.ring host ring).state = .active ∧ value % 4096 < (s.ring host ring).size ∧
      ((s.ring host ring).cqTail + (s.ring host ring).size - (s.ring host ring).cqHead) % (s.ring host ring).size <
        ((s.ring host ring).cqTail + (s.ring host ring).size - value % 4096) % (s.ring host ring).size :=
  ⟨0, 2, 19, up.setRing 0 2 { state := .active, enable := true, sizeLog2 := 8, cqTail := 18, cqHead := 17 }, by decide⟩

theorem witness_RingRegistersComplete_registerWrite : ∃ (writes : List RegWrite) (h r v : Nat) (s : State), writes = [{ host := h, addr := 0x00101000 + 0x40 * r, size := 4, value := v }] ∧ h < 4 ∧ r < 16 ∧ v < 2 ^ 32 ∧ s.answers h = true ∧
      (s.ring h r).state = .disabled :=
  ⟨[{ host := 0, addr := 0x00101080, size := 4, value := 0x40000FFF }], 0, 2, 0x40000FFF, up, by decide⟩

theorem witness_RingRegistersComplete_ringEntryFetch : ∃ (host : Nat) (ring : Nat) (entry : BufRead) (b : Bytes) (s : State), s.turnOf host ring = true ∧ entry = .data b ∧ (cmdOf host ring b).fence = false :=
  ⟨0, 2, .data (List.replicate 64 0), List.replicate 64 0, up.setRing 0 2 { state := .active, enable := true, sizeLog2 := 8, sqTail := 1 }, by decide⟩

theorem witness_RingRegistersComplete_ringEntryFetch_fetchFailed : ∃ (host : Nat) (ring : Nat) (entry : BufRead) (s : State), s.turnOf host ring = true ∧ entry = .failed :=
  ⟨0, 2, .failed, up.setRing 0 2 { state := .active, enable := true, sizeLog2 := 8, sqTail := 1 }, by decide⟩

theorem witness_RingRegistersComplete_ringEntryFetch_fence : ∃ (host : Nat) (ring : Nat) (entry : BufRead) (b : Bytes) (s : State), s.turnOf host ring = true ∧ entry = .data b ∧ (cmdOf host ring b).fence = true ∧ s.startedOn host ring ≠ 0 :=
  ⟨0, 0, .data ([0, 0, 1] ++ List.replicate 61 0), [0, 0, 1] ++ List.replicate 61 0, (begun up (cm 0 [])).setRing 0 0 { state := .active, enable := true, sizeLog2 := 8, sqTail := 1 }, by decide⟩

theorem witness_RingRegistersComplete_ringEntryFetch_slow : ∃ (host : Nat) (ring : Nat) (entry : BufRead) (s : State), s.turnOf host ring = true ∧ entry = .slow :=
  ⟨0, 2, .slow, up.setRing 0 2 { state := .active, enable := true, sizeLog2 := 8, sqTail := 1 }, by decide⟩

theorem witness_RingRegistersComplete_hostWriteFailed : ∃ (host : Nat) (ring : Nat) (s : State), (s.ring host ring).state = .active :=
  ⟨0, 2, up.setRing 0 2 { state := .active }, by decide⟩

theorem witness_RingRegistersComplete_ringDrained : ∃ (host : Nat) (ring : Nat) (s : State), ((s.ring host ring).state = .draining ∨ (s.ring host ring).state = .error) ∧ s.startedOn host ring = 0 ∧ (s.ring host ring).enable = false :=
  ⟨0, 2, up.setRing 0 2 { state := .draining }, by decide⟩

/-! ### DomainCommandsComplete -/

theorem witness_DomainCommandsComplete_domainSet : ∃ (c : Cmd) (s : State), ready s c 0x0100 .d0 = true ∧ c.host = s.dom.principal ∧ 1 ≤ c.u8 17 ∧ c.u8 17 < 16 ∧ c.zeros 19 45 = none ∧ c.u8 16 = 0 ∧ (s.domain (c.u8 17)).live = false ∧ c.u8 18 < 4 :=
  ⟨cm 0x100 [(17, 1, 5), (18, 1, 3)], begun up (cm 0x100 [(17, 1, 5), (18, 1, 3)]), by decide⟩

theorem witness_DomainCommandsComplete_domainSet_destroy : ∃ (c : Cmd) (s : State), ready s c 0x0100 .d0 = true ∧ c.host = s.dom.principal ∧ 1 ≤ c.u8 17 ∧ c.u8 17 < 16 ∧ c.zeros 19 45 = none ∧ c.u8 16 = 1 ∧ (s.domain (c.u8 17)).live = true ∧ c.u8 18 = 0 :=
  ⟨cm 0x100 [(16, 1, 1), (17, 1, 5)], (begun up (cm 0x100 [(16, 1, 1), (17, 1, 5)])).setDomain 5 { live := true, host := some 3 }, by decide⟩

theorem witness_DomainCommandsComplete_domainSet_move : ∃ (c : Cmd) (s : State), ready s c 0x0100 .d0 = true ∧ c.host = s.dom.principal ∧ 1 ≤ c.u8 17 ∧ c.u8 17 < 16 ∧ c.zeros 19 45 = none ∧ c.u8 16 = 2 ∧ (s.domain (c.u8 17)).live = true ∧ c.u8 18 < 4 ∧ (s.domain (c.u8 17)).host ≠ some (c.u8 18) :=
  ⟨cm 0x100 [(16, 1, 2), (17, 1, 5), (18, 1, 2)], (begun up (cm 0x100 [(16, 1, 2), (17, 1, 5), (18, 1, 2)])).setDomain 5 { live := true, host := some 3 }, by decide⟩

theorem witness_DomainCommandsComplete_domainSet_moveSame : ∃ (c : Cmd) (s : State), ready s c 0x0100 .d0 = true ∧ c.host = s.dom.principal ∧ 1 ≤ c.u8 17 ∧ c.u8 17 < 16 ∧ c.zeros 19 45 = none ∧ c.u8 16 = 2 ∧ (s.domain (c.u8 17)).live = true ∧ c.u8 18 < 4 ∧ (s.domain (c.u8 17)).host = some (c.u8 18) :=
  ⟨cm 0x100 [(16, 1, 2), (17, 1, 5), (18, 1, 3)], (begun up (cm 0x100 [(16, 1, 2), (17, 1, 5), (18, 1, 3)])).setDomain 5 { live := true, host := some 3 }, by decide⟩

theorem witness_DomainCommandsComplete_resourceAssign_any : ∃ (c : Cmd) (s : State), ready s c 0x0101 .d0 = true ∧ firstErr (resourceAssignErrs c s) = none :=
  ⟨cm 0x101 [(16, 1, 2), (18, 1, 1), (20, 4, 64), (24, 4, 2)], begun up (cm 0x101 [(16, 1, 2), (18, 1, 1), (20, 4, 64), (24, 4, 2)]), by decide⟩

theorem witness_DomainCommandsComplete_resourceAssign : ∃ (c : Cmd) (s : State), ready s c 0x0101 .d0 = true ∧ c.host = s.dom.principal ∧ c.u8 17 < 16 ∧ (s.domain (c.u8 17)).live = true ∧ c.u8 18 = 0 ∧ c.zeros 19 1 = none ∧
      1 ≤ c.u32 24 ∧ c.u32 20 + c.u32 24 ≤ resourceRange (c.u8 16) ∧ c.zeros 28 36 = none ∧ (c.u8 16 = 1 ∨ c.u8 16 = 2 ∨ c.u8 16 = 3 ∨ c.u8 16 = 6) :=
  ⟨cm 0x101 [(16, 1, 1), (20, 4, 64), (24, 4, 64)], begun up (cm 0x101 [(16, 1, 1), (20, 4, 64), (24, 4, 64)]), by decide⟩

theorem witness_DomainCommandsComplete_resourceAssign_keySlot : ∃ (c : Cmd) (s : State), ready s c 0x0101 .d0 = true ∧ c.host = s.dom.principal ∧ c.u8 17 < 16 ∧ (s.domain (c.u8 17)).live = true ∧ c.u8 18 = 0 ∧ c.zeros 19 1 = none ∧
      1 ≤ c.u32 24 ∧ c.u32 20 + c.u32 24 ≤ resourceRange (c.u8 16) ∧ c.zeros 28 36 = none ∧ c.u8 16 = 8 ∧ c.u32 24 = 1 ∧ s.owner 8 (c.u32 20) ≠ c.u8 17 :=
  ⟨cm 0x101 [(16, 1, 8), (17, 1, 5), (20, 4, 65535), (24, 4, 1)], (begun up (cm 0x101 [(16, 1, 8), (17, 1, 5), (20, 4, 65535), (24, 4, 1)])).setDomain 5 { live := true, host := some 3 }, by decide⟩

/-! ### SuccessionCompletes -/

theorem witness_SuccessionCompletes_principalSet : ∃ (c : Cmd) (s : State), ready s c 0x0102 .d0 = true ∧ c.host = s.dom.principal ∧ c.zeros 21 3 = none ∧ c.zeros 28 36 = none ∧ c.u8 16 = 0 ∧ c.u8 17 < 4 ∧ c.u8 17 ≠ c.host ∧ c.zeros 18 3 = none ∧ c.zeros 24 4 = none ∧ (s.hostPort (c.u8 17)).link = true ∧
      (s.domain 0).host ≠ some (c.u8 17) ∧ s.dom.valid = true :=
  ⟨cm 0x102 [(17, 1, 1)], { begun up (cm 0x102 [(17, 1, 1)]) with host := { started := [{ cmd := cm 0x102 [(17, 1, 1)], mode := .service, held := true }], ports := [(0, { link := true }), (1, { link := true })] } }, by decide⟩

theorem witness_SuccessionCompletes_principalSet_lost : ∃ (c : Cmd) (s : State), ready s c 0x0102 .d0 = true ∧ c.host = s.dom.principal ∧ c.zeros 21 3 = none ∧ c.zeros 28 36 = none ∧ c.u8 16 = 0 ∧ c.u8 17 < 4 ∧ c.u8 17 ≠ c.host ∧ c.zeros 18 3 = none ∧ c.zeros 24 4 = none ∧ (s.hostPort (c.u8 17)).link = true ∧ s.dom.valid = false :=
  ⟨cm 0x102 [(17, 1, 1)], (let c := cm 0x102 [(17, 1, 1)]; { begun up c with dom := { up.dom with valid := false, orphans := [0] }, host := { started := [{ cmd := c, mode := .service, held := true }], ports := [(0, { link := true }), (1, { link := true })] } }), by decide⟩

theorem witness_SuccessionCompletes_principalSet_list : ∃ (c : Cmd) (s : State), ready s c 0x0102 .d0 = true ∧ c.host = s.dom.principal ∧ c.zeros 21 3 = none ∧ c.zeros 28 36 = none ∧ c.u8 16 = 1 ∧ c.u8 17 = 0 ∧ firstErr (successorErrs c) = none ∧ c.zeros 24 4 = none :=
  ⟨cm 0x102 [(16, 1, 1), (18, 1, 2), (19, 1, 0xFF), (20, 1, 0xFF)], begun up (cm 0x102 [(16, 1, 1), (18, 1, 2), (19, 1, 0xFF), (20, 1, 0xFF)]), by decide⟩

theorem witness_SuccessionCompletes_principalSet_timeout : ∃ (c : Cmd) (s : State), ready s c 0x0102 .d0 = true ∧ c.host = s.dom.principal ∧ c.zeros 21 3 = none ∧ c.zeros 28 36 = none ∧ c.u8 16 = 2 ∧ c.u8 17 = 0 ∧ c.zeros 18 3 = none ∧ (c.u32 24 = 0 ∨ (10 ≤ c.u32 24 ∧ c.u32 24 ≤ 10000)) :=
  ⟨cm 0x102 [(16, 1, 2), (24, 4, 10000)], begun up (cm 0x102 [(16, 1, 2), (24, 4, 10000)]), by decide⟩

theorem witness_SuccessionCompletes_secHeartbeat : ∃ (host : Nat) (value : Nat) (s : State), s.answers host = true ∧ s.dom.valid = true ∧ host = s.dom.principal :=
  ⟨0, 1, up, by decide⟩

theorem witness_SuccessionCompletes_heartbeatTimeout : ∃ (h : Nat) (s : State), s.pending.any s.restartsBeat = false ∧ s.dom.valid = true ∧ s.dom.timeoutMs ≠ 0 ∧ s.dom.beat + ms s.dom.timeoutMs ≤ s.now ∧ (h < 4 ∧ h ≠ s.dom.principal ∧ (s.hostPort h).link = true ∧ ∃ a b, s.dom.successors = a ++ h :: b ∧
      ∀ k, k ∈ a → k = s.dom.principal ∨ (s.hostPort k).link = false) :=
  ⟨1, { up with now := ms 100, dom := { up.dom with timeoutMs := 100, successors := [2, 1] }, host := { ports := [(0, { link := true }), (1, { link := true })] } }, by decide, by decide, by decide, by decide, by decide, by decide, by decide, [2], [], by decide⟩

theorem witness_SuccessionCompletes_heartbeatTimeout_beat : ∃ (s : State), s.pending.any s.restartsBeat = true :=
  ⟨{ up with now := ms 100, dom := { up.dom with timeoutMs := 100 }, pending := [.secHeartbeat (ms 100) 0 1] }, by decide⟩

theorem witness_SuccessionCompletes_heartbeatTimeout_lost : ∃ (s : State), s.pending.any s.restartsBeat = false ∧ s.dom.valid = true ∧ s.dom.timeoutMs ≠ 0 ∧ s.dom.beat + ms s.dom.timeoutMs ≤ s.now ∧ s.dom.successors.all (fun h => h = s.dom.principal || !(s.hostPort h).link) = true :=
  ⟨{ up with now := ms 100, dom := { up.dom with timeoutMs := 100 } }, by decide⟩

theorem witness_SuccessionCompletes_principalRecheck : ∃ (h : Nat) (s : State), s.dom.valid = false ∧ s.dom.successors ≠ [] ∧ s.dom.timeoutMs ≠ 0 ∧ s.dom.beat + ms s.dom.timeoutMs ≤ s.now ∧ (h < 4 ∧ h ≠ s.dom.principal ∧ (s.hostPort h).link = true ∧ ∃ a b, s.dom.successors = a ++ h :: b ∧
      ∀ k, k ∈ a → k = s.dom.principal ∨ (s.hostPort k).link = false) :=
  ⟨1, { { up with now := ms 100, dom := { up.dom with timeoutMs := 100, successors := [2, 1] }, host := { ports := [(0, { link := true }), (1, { link := true })] } } with dom := { timeoutMs := 100, successors := [2, 1], valid := false, principal := 0 } }, by decide, by decide, by decide, by decide, by decide, by decide, by decide, [2], [], by decide⟩

theorem witness_SuccessionCompletes_principalRecheck_none : ∃ (s : State), s.dom.valid = false ∧ s.dom.successors ≠ [] ∧ s.dom.timeoutMs ≠ 0 ∧ s.dom.beat + ms s.dom.timeoutMs ≤ s.now ∧ s.dom.successors.all (fun h => h = s.dom.principal || !(s.hostPort h).link) = true :=
  ⟨{ up with now := ms 100, dom := { timeoutMs := 100, successors := [2], valid := false } }, by decide⟩

/-! ### KeyLockCompletes -/

theorem witness_KeyLockCompletes_keyLockClaim_denied : ∃ (writes : List RegWrite) (h d : Nat) (s : State), s.answers h = true ∧ h < 4 ∧ d < 16 ∧ writes = [{ host := h, addr := 0x00200010, size := 4, value := 0x40000000 + d }] ∧ (∀ l, s.dom.lock = some l → s.now < l.deadline) ∧ s.holds h d = false :=
  ⟨[{ host := 0, addr := 0x00200010, size := 4, value := 0x40000005 }], 0, 5, up, by decide⟩

theorem witness_KeyLockCompletes_keyLockClaim_free : ∃ (writes : List RegWrite) (h d : Nat) (s : State), s.answers h = true ∧ h < 4 ∧ d < 16 ∧ writes = [{ host := h, addr := 0x00200010, size := 4, value := 0x40000000 + d }] ∧ s.dom.lock = none ∧ s.holds h d = true :=
  ⟨[{ host := 0, addr := 0x00200010, size := 4, value := 0x40000000 }], 0, 0, up, by decide⟩

theorem witness_KeyLockCompletes_keyLockClaim_renew : ∃ (writes : List RegWrite) (h d : Nat) (l : KeyLock) (s : State), s.answers h = true ∧ h < 4 ∧ d < 16 ∧ writes = [{ host := h, addr := 0x00200010, size := 4, value := 0x40000000 + d }] ∧ s.dom.lock = some l ∧ s.now < l.deadline ∧ l.host = h ∧ l.domain = d ∧ s.holds h d = true :=
  ⟨[{ host := 0, addr := 0x00200010, size := 4, value := 0x40000000 }], 0, 0, { host := 0, domain := 0, deadline := 5 }, { up with dom := { up.dom with lock := some { host := 0, domain := 0, deadline := 5 } } }, by decide⟩

theorem witness_KeyLockCompletes_keyLockClaim_locked : ∃ (writes : List RegWrite) (h d : Nat) (l : KeyLock) (s : State), s.answers h = true ∧ h < 4 ∧ d < 16 ∧ writes = [{ host := h, addr := 0x00200010, size := 4, value := 0x40000000 + d }] ∧ s.dom.lock = some l ∧ s.now < l.deadline ∧ (l.host ≠ h ∨ l.domain ≠ d) ∧ s.holds h d = true :=
  ⟨[{ host := 0, addr := 0x00200010, size := 4, value := 0x40000000 }], 0, 0, { host := 3, domain := 5, deadline := 5 }, { up with dom := { up.dom with lock := some { host := 3, domain := 5, deadline := 5 } } }, by decide⟩

theorem witness_KeyLockCompletes_keyLockClaim_tie : ∃ (writes : List RegWrite) (h d k f : Nat) (s : State), writes = [{ host := h, addr := 0x00200010, size := 4, value := 0x40000000 + d },
        { host := k, addr := 0x00200010, size := 4, value := 0x40000000 + f }] ∧ k < h ∧ h < 4 ∧ d < 16 ∧ f < 16 ∧
      s.answers h = true ∧ s.answers k = true ∧ s.dom.lock = none ∧ s.holds h d = true ∧ s.holds k f = true :=
  ⟨[{ host := 3, addr := 0x00200010, size := 4, value := 0x40000005 }, { host := 1, addr := 0x00200010, size := 4, value := 0x40000001 }], 3, 5, 1, 1, ({ up with host := { ports := [(1, { link := true }), (3, { link := true })] } }.setDomain 5 { live := true, host := some 3 }).setDomain 1 { live := true, host := some 1 }, by decide⟩

theorem witness_KeyLockCompletes_keyLockRelease : ∃ (host : Nat) (value : Nat) (l : KeyLock) (s : State), s.answers host = true ∧ bits value 31 30 = 2 ∧ s.dom.lock = some l ∧ s.now < l.deadline ∧ l.host = host :=
  ⟨0, 0x80000000, { host := 0, domain := 0, deadline := 5 }, { up with dom := { up.dom with lock := some { host := 0, domain := 0, deadline := 5 } } }, by decide⟩

theorem witness_KeyLockCompletes_keyLockRelease_notHolder : ∃ (host : Nat) (value : Nat) (l : KeyLock) (s : State), s.answers host = true ∧ bits value 31 30 = 2 ∧ s.dom.lock = some l ∧ s.now < l.deadline ∧ l.host ≠ host :=
  ⟨0, 0x80000000, { host := 3, domain := 0, deadline := 5 }, { up with dom := { up.dom with lock := some { host := 3, domain := 0, deadline := 5 } } }, by decide⟩

theorem witness_KeyLockCompletes_keyLockExpired : ∃ (l : KeyLock) (s : State), s.dom.lock = some l ∧ l.deadline ≤ s.now :=
  ⟨{ host := 3, domain := 0, deadline := 5 }, { up with now := 5, dom := { up.dom with lock := some { host := 3, domain := 0, deadline := 5 } } }, by decide⟩

/-! ### KeyCommandsComplete -/

theorem witness_KeyCommandsComplete_keyInfo : ∃ (c : Cmd) (s : State), ready s c 0x0110 .any = true ∧ firstErr [c.needReply, c.zeros 16 48] = none :=
  ⟨cm 0x110 [], begun up (cm 0x110 []), by decide⟩

theorem witness_KeyCommandsComplete_keyImport : ∃ (c : Cmd) (b : BufRead) (s : State), ready s c 0x0111 .any = true ∧ s.ownsRange c.domain 8 (c.u32 28) 1 = true ∧ (∃ l, s.lockNow = some l ∧ l.host = c.host ∧ l.domain = c.domain) ∧ c.bufferErr = none ∧ (c.u32 24 = 144 ∧ c.u8 32 = 1 ∨ c.u32 24 = 56 ∧ c.u8 32 = 2) ∧
      c.zeros 33 31 = none ∧ b.err = none ∧ firstErr (s.blobErrs c (b.bytes c)).dropLast = none :=
  ⟨cm 0x111 [(16, 8, 0x1000), (24, 4, 144), (28, 4, 7), (32, 1, 1)], .data ([0x01, 0x01, 0x02] ++ List.replicate 141 0), { begun up (cm 0x111 [(16, 8, 0x1000), (24, 4, 144), (28, 4, 7), (32, 1, 1)]) with dom := { up.dom with lock := some { host := 0, domain := 0, deadline := 5 }, keys := [(7, { kind := 2, key := 9 })] } }, by decide⟩

theorem witness_KeyCommandsComplete_keyExport : ∃ (c : Cmd) (h : Bytes) (s : State), ready s c 0x0112 .any = true ∧ c.needReply = none ∧ s.ownsRange c.domain 8 (c.u32 16) 1 = true ∧ (∃ l, s.lockNow = some l ∧ l.host = c.host ∧ l.domain = c.domain) ∧ c.zeros 20 44 = none ∧ h = blobHeader (s.key (c.u32 16)).kind c.domain (look s.fw.epochs c.domain 0) ∧ (s.key (c.u32 16)).kind ≠ 0 :=
  ⟨cm 0x112 [(16, 4, 7)], blobHeader 2 0 0, { begun up (cm 0x112 [(16, 4, 7)]) with dom := { up.dom with lock := some { host := 0, domain := 0, deadline := 5 }, keys := [(7, { kind := 2, key := 9 })] } }, by decide⟩

theorem witness_KeyCommandsComplete_keyDestroy : ∃ (c : Cmd) (s : State), ready s c 0x0113 .any = true ∧ 1 ≤ c.u32 20 ∧ s.ownsRange c.domain 8 (c.u32 16) (c.u32 20) = true ∧ (∃ l, s.lockNow = some l ∧ l.host = c.host ∧ l.domain = c.domain) ∧ c.u32 20 ≤ 65536 ∧ c.zeros 24 40 = none :=
  ⟨cm 0x113 [(16, 4, 7), (20, 4, 2)], { begun up (cm 0x113 [(16, 4, 7), (20, 4, 2)]) with dom := { up.dom with lock := some { host := 0, domain := 0, deadline := 5 }, keys := [(7, { kind := 2, key := 9 })] } }, by decide⟩

theorem witness_KeyCommandsComplete_keyImport_importDenied : ∃ (c : Cmd) (b : BufRead) (s : State), ready s c 0x0111 .any = true ∧ s.ownsRange c.domain 8 (c.u32 28) 1 = false :=
  ⟨cm 0x0111 [(28, 4, 7)], .data [], { begun up (cm 0x0111 [(28, 4, 7)]) with dom := { up.dom with owner := [(8 * 2 ^ 24 + 7, 5)] } }, by decide⟩

theorem witness_KeyCommandsComplete_keyImport_importLocked : ∃ (c : Cmd) (b : BufRead) (s : State), ready s c 0x0111 .any = true ∧ s.ownsRange c.domain 8 (c.u32 28) 1 = true ∧ s.locks c = false ∧ (s.startedAs c).any (fun x => x.locked) = false :=
  ⟨cm 0x0111 [(28, 4, 7)], .data [], begun up (cm 0x0111 [(28, 4, 7)]), by decide⟩

theorem witness_KeyCommandsComplete_keyExport_exportDenied : ∃ (c : Cmd) (s : State), ready s c 0x0112 .any = true ∧ c.needReply = none ∧ s.ownsRange c.domain 8 (c.u32 16) 1 = false :=
  ⟨cm 0x0112 [(16, 4, 7)], { begun up (cm 0x0112 [(16, 4, 7)]) with dom := { up.dom with owner := [(8 * 2 ^ 24 + 7, 5)] } }, by decide⟩

theorem witness_KeyCommandsComplete_keyExport_exportLocked : ∃ (c : Cmd) (s : State), ready s c 0x0112 .any = true ∧ c.needReply = none ∧ s.ownsRange c.domain 8 (c.u32 16) 1 = true ∧ s.locks c = false ∧ (s.startedAs c).any (fun x => x.locked) = false :=
  ⟨cm 0x0112 [(16, 4, 7)], begun up (cm 0x0112 [(16, 4, 7)]), by decide⟩

theorem witness_KeyCommandsComplete_keyDestroy_destroyDenied : ∃ (c : Cmd) (s : State), ready s c 0x0113 .any = true ∧ s.ownsRange c.domain 8 (c.u32 16) (max 1 (c.u32 20)) = false :=
  ⟨cm 0x0113 [(16, 4, 7), (20, 4, 2)], { begun up (cm 0x0113 [(16, 4, 7), (20, 4, 2)]) with dom := { up.dom with owner := [(8 * 2 ^ 24 + 7, 5)] } }, by decide⟩

theorem witness_KeyCommandsComplete_keyDestroy_destroyLocked : ∃ (c : Cmd) (s : State), ready s c 0x0113 .any = true ∧ s.ownsRange c.domain 8 (c.u32 16) (max 1 (c.u32 20)) = true ∧ s.locks c = false ∧ (s.startedAs c).any (fun x => x.locked) = false :=
  ⟨cm 0x0113 [(16, 4, 7), (20, 4, 2)], begun up (cm 0x0113 [(16, 4, 7), (20, 4, 2)]), by decide⟩

/-! ### DebugCompletes -/

theorem witness_DebugCompletes_debugAuth : ∃ (c : Cmd) (b : BufRead) (s : State), ready s c 0x0120 .d0 = true ∧ c.host = s.dom.principal ∧ c.zeros 29 35 = none ∧ c.u8 28 = 0 ∧ c.bufferErr = none ∧ c.u32 24 = 128 ∧ s.sessionBusy = false ∧ b.err = none :=
  ⟨cm 0x120 [(16, 8, 4096), (24, 4, 128)], .data (List.replicate 128 0), begun up (cm 0x120 [(16, 8, 4096), (24, 4, 128)]), by decide⟩

theorem witness_DebugCompletes_debugAuth_close : ∃ (c : Cmd) (b : BufRead) (x : Session) (s : State), ready s c 0x0120 .d0 = true ∧ c.host = s.dom.principal ∧ c.zeros 29 35 = none ∧ c.u8 28 = 1 ∧ s.dom.session = some x :=
  ⟨cm 0x120 [(28, 1, 1)], .data [], { viaHost := true, signer := 0, scope := 1, mask := 1, deadline := 9 }, { begun up (cm 0x120 [(28, 1, 1)]) with dom := { up.dom with session := some { viaHost := true, signer := 0, scope := 1, mask := 1, deadline := 9 } } }, by decide⟩

theorem witness_DebugCompletes_jtagToken_jtagBusy : ∃ (token : Bytes) (s : State), s.sessionBusy = true :=
  ⟨[], { up with dom := { up.dom with session := some { viaHost := true, signer := 0, scope := 1, mask := 1, deadline := 9 } } }, by decide⟩

theorem witness_DebugCompletes_jtagToken : ∃ (token : Bytes) (s : State), s.sessionBusy = false :=
  ⟨[], up, by decide⟩

theorem witness_DebugCompletes_jtagInstruction : ∃ (j : JtagInstr) (s : State), j = .bypass :=
  ⟨.bypass, up, by decide⟩

theorem witness_DebugCompletes_jtagInstruction_jtagClosed : ∃ (j : JtagInstr) (n : Nat) (p : Bytes) (s : State), (j = .other n ∨ j = .thread p) ∧ s.jtagOpen = false :=
  ⟨.other 5, 5, [], up, by decide⟩

theorem witness_DebugCompletes_jtagInstruction_read : ∃ (j : JtagInstr) (a : Nat) (s : State), j = .regRead a ∧ (s.granted false 0 || s.granted false 5) = true :=
  ⟨.regRead 0, 0, { up with dom := { up.dom with session := some { viaHost := false, signer := 0, scope := 1, mask := 1, deadline := 9 } } }, by decide⟩

theorem witness_DebugCompletes_jtagInstruction_thread : ∃ (j : JtagInstr) (p : Bytes) (s : State), j = .thread p ∧ s.jtagOpen = true :=
  ⟨.thread [], [], { up with dom := { up.dom with session := some { viaHost := false, signer := 0, scope := 4, mask := 1, deadline := 9 } } }, by decide⟩

theorem witness_DebugCompletes_jtagInstruction_open : ∃ (j : JtagInstr) (s : State), (j = .idcode ∨ j = .samplePreload) :=
  ⟨.idcode, up, by decide⟩

theorem witness_DebugCompletes_jtagInstruction_write : ∃ (j : JtagInstr) (a v : Nat) (s : State), j = .regWrite a v :=
  ⟨.regWrite 0 1, 0, 1, up, by decide⟩

theorem witness_DebugCompletes_debugSessionExpire : ∃ (x : Session) (s : State), s.dom.session = some x ∧ x.deadline ≤ s.now :=
  ⟨{ viaHost := true, signer := 0, scope := 1, mask := 1, deadline := 0 }, { up with dom := { up.dom with session := some { viaHost := true, signer := 0, scope := 1, mask := 1, deadline := 0 } } }, by decide⟩

/-! ### PortCommandsComplete -/

theorem witness_PortCommandsComplete_portMap : ∃ (c : Cmd) (s : State), ready s c 0x0200 .d0 = true ∧ firstErr (portMapErrs c s) = none ∧ c.u8 17 ≠ 0 :=
  ⟨cm 0x200 [(16, 1, 24), (17, 1, 2), (18, 1, 64), (19, 1, 8), (20, 1, 3)], begun up (cm 0x200 [(16, 1, 24), (17, 1, 2), (18, 1, 64), (19, 1, 8), (20, 1, 3)]), by decide⟩

theorem witness_PortCommandsComplete_portMap_unbind : ∃ (c : Cmd) (s : State), ready s c 0x0200 .d0 = true ∧ firstErr (portMapErrs c s) = none ∧ c.u8 17 = 0 :=
  ⟨cm 0x200 [(16, 1, 24)], (begun up (cm 0x200 [(16, 1, 24)])).setPort 24 { personality := .eli, firstLane := 64, laneCount := 8, laneRate := 3 }, by decide⟩

theorem witness_PortCommandsComplete_portConfig_enable : ∃ (c : Cmd) (s : State), ready s c 0x0201 .any = true ∧ firstErr (portConfigErrs c s) = none ∧ c.u8 19 = 0 ∧ c.u8 17 = 1 ∧ (s.port (c.u8 16)).enable = false ∧ (s.port (c.u8 16)).state = .disabled ∧ s.laneDown (c.u8 16) = false :=
  ⟨cm 0x201 [(16, 1, 5), (17, 1, 1), (20, 2, 10240), (22, 1, 0xFF), (24, 2, 10)], (begun up (cm 0x201 [(16, 1, 5), (17, 1, 1), (20, 2, 10240), (22, 1, 0xFF), (24, 2, 10)])).setPort 5 { personality := .ethernet, firstLane := 0, laneCount := 1, laneRate := 3, fec := 2 }, by decide⟩

theorem witness_PortCommandsComplete_portConfig_disable : ∃ (c : Cmd) (s : State), ready s c 0x0201 .any = true ∧ firstErr (portConfigErrs c s) = none ∧ c.u8 19 = 0 ∧ c.u8 17 = 0 ∧ (s.port (c.u8 16)).enable = true ∧ (s.port (c.u8 16)).state = .up :=
  ⟨cm 0x201 [(16, 1, 5), (17, 1, 0), (20, 2, 10240), (22, 1, 0xFF), (24, 2, 10)], (begun up (cm 0x201 [(16, 1, 5), (17, 1, 0), (20, 2, 10240), (22, 1, 0xFF), (24, 2, 10)])).setPort 5 { personality := .ethernet, firstLane := 0, laneCount := 1, laneRate := 3, fec := 2, enable := true, state := .up }, by decide⟩

theorem witness_PortCommandsComplete_laneConfig : ∃ (c : Cmd) (s : State), ready s c 0x0202 .d0 = true ∧ c.u8 17 ≤ 3 ∧ ((laneTaps c).map Int.natAbs).sum ≤ 64 ∧ c.zeros 23 41 = none ∧ s.healthy 0x0A (c.u8 16) = true :=
  ⟨cm 0x202 [(16, 1, 255), (17, 1, 3), (21, 1, 64)], begun up (cm 0x202 [(16, 1, 255), (17, 1, 3), (21, 1, 64)]), by decide⟩

theorem witness_PortCommandsComplete_portStats : ∃ (c : Cmd) (s : State), ready s c 0x0203 .any = true ∧ c.needReply = none ∧ s.owns c.domain 1 (c.u8 16) = true ∧ c.u8 17 ≤ 1 ∧ c.zeros 18 46 = none :=
  ⟨cm 0x203 [(16, 1, 127), (17, 1, 1)], begun up (cm 0x203 [(16, 1, 127), (17, 1, 1)]), by decide⟩

/-! ### PortLinkCompletes -/

theorem witness_PortLinkCompletes_portUp : ∃ (port : Nat) (s : State), ((s.port port).state = .training ∨ (s.port port).state = .faultLocal ∨ (s.port port).state = .faultRemote) ∧ s.portClear port = true ∧ (s.port port).farFault = false :=
  ⟨5, up.setPort 5 { personality := .ethernet, firstLane := 0, laneCount := 1, laneRate := 3, fec := 2, enable := true, state := .training }, by decide⟩

theorem witness_PortLinkCompletes_portUp_far : ∃ (port : Nat) (s : State), (s.port port).state = .faultLocal ∧ s.portClear port = true ∧ (s.port port).farFault = true :=
  ⟨5, up.setPort 5 { personality := .ethernet, firstLane := 0, laneCount := 1, laneRate := 3, fec := 2, enable := true, state := .faultLocal, cause := 1, conds := [4] }, by decide⟩

theorem witness_PortLinkCompletes_linkTrainingRestart : ∃ (port : Nat) (s : State), (s.port port).state = .training ∧ (s.port port).cfg.linkTraining = true ∧ (s.port port).trainStart + ms 1000 ≤ s.now :=
  ⟨5, { up with now := ms 1000 }.setPort 5 { cfg := { linkTraining := true }, enable := true, state := .training }, by decide⟩

theorem witness_PortLinkCompletes_laneSignalLoss : ∃ (lane : Nat) (alignment : Bool) (p : Nat) (s : State), lane < 256 ∧ alignment = false ∧ s.portOfLane lane = some p ∧ (s.port p).personality ≠ .pon ∧ (s.port p).state = .up ∧ (s.port p).cfg.downFlush = false ∧ (s.port p).conds = [] :=
  ⟨0, false, 5, up.setPort 5 { personality := .ethernet, firstLane := 0, laneCount := 1, laneRate := 3, fec := 2, enable := true, state := .up }, by decide⟩

theorem witness_PortLinkCompletes_laneSignalLoss_silent : ∃ (lane : Nat) (alignment : Bool) (p : Nat) (s : State), lane < 256 ∧ s.portOfLane lane = some p ∧ (s.port p).personality = .pon :=
  ⟨5, false, 5, up.setPort 5 { personality := .pon, tree := 5, firstLane := 5, laneCount := 1, state := .up }, by decide⟩

theorem witness_PortLinkCompletes_remoteFaultReceived : ∃ (port : Nat) (s : State), (s.port port).personality = .ethernet ∧ (s.port port).state = .up ∧ (s.port port).cfg.downFlush = false :=
  ⟨5, up.setPort 5 { personality := .ethernet, firstLane := 0, laneCount := 1, laneRate := 3, fec := 2, enable := true, state := .up }, by decide⟩

theorem witness_PortLinkCompletes_fecDegradeInterval : ∃ (port : Nat) (corrected : Nat) (uncorrected : Nat) (s : State), (s.port port).personality = .ethernet ∧ (s.port port).state = .up ∧ (s.port port).cfg.fecDegradeCw ≠ 0 ∧ (s.port port).cfg.fecDegradeCw < uncorrected ∧
      (s.port port).cfg.downFlush = false :=
  ⟨5, 0, 9, up.setPort 5 { personality := .ethernet, firstLane := 0, laneCount := 1, laneRate := 3, fec := 2, enable := true, state := .up, cfg := { fecDegradeCw := 8 } }, by decide⟩

theorem witness_PortLinkCompletes_fecDegradeInterval_fecOk : ∃ (port : Nat) (corrected : Nat) (uncorrected : Nat) (s : State), (s.port port).personality = .ethernet ∧ uncorrected ≤ (s.port port).cfg.fecDegradeCw ∧ (s.port port).conds = [5] :=
  ⟨5, 0, 8, up.setPort 5 { personality := .ethernet, firstLane := 0, laneCount := 1, laneRate := 3, fec := 2, enable := true, state := .faultLocal, cause := 5, conds := [5], cfg := { fecDegradeCw := 8 } }, by decide⟩

theorem witness_PortLinkCompletes_portConditionCleared : ∃ (port : Nat) (cond : PortCond) (s : State), cond = .remoteFault ∧ (s.port port).conds = [4] ∧ (s.port port).state ≠ .faultLocal :=
  ⟨5, .remoteFault, up.setPort 5 { personality := .ethernet, firstLane := 0, laneCount := 1, laneRate := 3, fec := 2, enable := true, state := .faultRemote, cause := 4, conds := [4] }, by decide⟩

theorem witness_PortLinkCompletes_laneFail : ∃ (lane : Nat) (p : Nat) (s : State), lane < 256 ∧ s.isOut 0x0A lane = false ∧ s.portOfLane lane = some p ∧ ((s.port p).state = .up ∨ (s.port p).state = .training ∨ (s.port p).state = .faultLocal) ∧
      (s.port p).cfg.downFlush = false :=
  ⟨0, 5, up.setPort 5 { personality := .ethernet, firstLane := 0, laneCount := 1, laneRate := 3, fec := 2, enable := true, state := .training }, by decide⟩

theorem witness_PortLinkCompletes_quadFail : ∃ (quad : Nat) (s : State), quad < 64 ∧ (s.lane (4 * quad)).quadOut = false :=
  ⟨63, up, by decide⟩

theorem witness_PortLinkCompletes_pfcFrameReceive : ∃ (port : Nat) (enable : Nat) (quanta : List Nat) (s : State), (s.port port).state = .up ∧ (s.port port).personality = .ethernet :=
  ⟨5, 255, [1, 2], up.setPort 5 { personality := .ethernet, firstLane := 0, laneCount := 1, laneRate := 3, fec := 2, enable := true, state := .up }, by decide⟩

theorem witness_PortLinkCompletes_pfcFrameReceive_pfcDown : ∃ (port : Nat) (enable : Nat) (quanta : List Nat) (s : State), (s.port port).state ≠ .up :=
  ⟨5, 255, [1, 2], up.setPort 5 { personality := .ethernet, firstLane := 0, laneCount := 1, laneRate := 3, fec := 2, enable := true, state := .training }, by decide⟩

theorem witness_PortLinkCompletes_pfcPauseExpire : ∃ (port : Nat) (cls : Nat) (s : State), look (s.port port).paused cls 0 ≤ s.now :=
  ⟨5, 3, up, by decide⟩

/-! ### EliCommandsComplete -/

theorem witness_EliCommandsComplete_eliConfig : ∃ (c : Cmd) (s : State), ready s c 0x0300 .any = true ∧ firstErr (eliPortErrs c s 16) = none ∧ c.u8 17 ≤ 1 ∧ 1 ≤ c.u8 18 ∧ c.u8 18 ≤ c.u8 19 ∧ c.u8 19 ≤ 128 ∧
      1 ≤ c.u8 20 ∧ c.u8 20 ≤ 128 ∧ c.zeros 21 43 = none ∧ eliLaneErr s (c.u8 16) = none :=
  ⟨cm 0x300 [(16, 1, 24), (17, 1, 1), (18, 1, 64), (19, 1, 128), (20, 1, 96)], (begun up (cm 0x300 [(16, 1, 24), (17, 1, 1), (18, 1, 64), (19, 1, 128), (20, 1, 96)])).setPort 24 { personality := .eli, firstLane := 64, laneCount := 8, laneRate := 3, enable := true }, by decide⟩

theorem witness_EliCommandsComplete_eliSlotmap : ∃ (c : Cmd) (s : State), ready s c 0x0301 .any = true ∧ firstErr (eliPortErrs c s 16) = none ∧ c.zeros 17 3 = none ∧
      firstOf (fun i => at_ (20 + i / 4) (slotType c i = 3 || !s.slotInGroup (c.u8 16) i)) (List.range 128) = none ∧ c.zeros 52 12 = none ∧
      eliLaneErr s (c.u8 16) = none :=
  ⟨cm 0x301 [(16, 1, 24), (20, 1, 0xFF), (21, 1, 0x55)], (begun up (cm 0x301 [(16, 1, 24), (20, 1, 0xFF), (21, 1, 0x55)])).setPort 24 { personality := .eli, firstLane := 64, laneCount := 8, laneRate := 3, enable := true }, by decide⟩

theorem witness_EliCommandsComplete_eliExpress : ∃ (c : Cmd) (s : State), ready s c 0x0302 .any = true ∧ firstErr (expressErrs c s) = none ∧ c.u8 16 = 0 :=
  ⟨cm 0x302 [(17, 1, 9), (18, 1, 24), (19, 1, 25), (20, 1, 0), (21, 1, 80), (22, 1, 48)], ((((begun up (cm 0x302 [(17, 1, 9), (18, 1, 24), (19, 1, 25), (20, 1, 0), (21, 1, 80), (22, 1, 48)])).setPort 24
      { personality := .eli, firstLane := 64, laneCount := 8, laneRate := 3 }).setPort 25 { personality := .eli, firstLane := 72, laneCount := 8, laneRate := 3 }).setEli 24
      { types := (List.range 48).map (fun i => (i, 3)) }).setEli 25 { types := (List.range 48).map (fun i => (80 + i, 3)) }, by decide⟩

theorem witness_EliCommandsComplete_eliExpress_delete : ∃ (c : Cmd) (s : State), ready s c 0x0302 .any = true ∧ firstErr (expressErrs c s) = none ∧ c.u8 16 = 1 :=
  ⟨cm 0x302 [(16, 1, 1), (17, 1, 9), (19, 1, 24)], ((begun up (cm 0x302 [(16, 1, 1), (17, 1, 9), (19, 1, 24)])).setPort 24 { personality := .eli, firstLane := 64, laneCount := 8, laneRate := 3, enable := true }).setExpress (24 * 128 + 9) { live := true }, by decide⟩

theorem witness_EliCommandsComplete_eliCounters : ∃ (c : Cmd) (s : State), ready s c 0x0303 .any = true ∧ c.needReply = none ∧ firstErr (eliPortErrs c s 16) = none ∧ c.u8 17 ≤ 1 ∧ c.zeros 18 46 = none ∧ eliLaneErr s (c.u8 16) = none :=
  ⟨cm 0x303 [(16, 1, 24), (17, 1, 1)], (begun up (cm 0x303 [(16, 1, 24), (17, 1, 1)])).setPort 24 { personality := .eli, firstLane := 64, laneCount := 8, laneRate := 3, enable := true }, by decide⟩

/-! ### EliReceiveCompletes -/

theorem witness_EliReceiveCompletes_eliLaneMarker : ∃ (port : Nat) (lane : Nat) (m : LaneMarker) (s : State), (s.port port).personality = .eli ∧ (s.port port).enable = true ∧ lane < 8 ∧ m.pattern = 0xC61F935A2D78 ∧ m.lane + m.laneInv = 255 ∧ m.lineBits = 136000 ∧
      (look (s.eliPort port).rx.lanes lane {}).good ≠ 0 :=
  ⟨24, 7, { pattern := 0xC61F935A2D78, lane := 7, laneInv := 248, groupCount := 65535, lineBits := 136000, skewNs := 200 }, (up.setPort 24 { personality := .eli, firstLane := 64, laneCount := 8, laneRate := 3, enable := true }).setEli 24 { rx := { lanes := [(7, { good := 1 })] } }, by decide⟩

theorem witness_EliReceiveCompletes_eliFawMatch : ∃ (port : Nat) (offset : Nat) (mfas : Nat) (k : Nat) (a b : List EliCand) (s : State), (s.port port).personality = .eli ∧ (s.port port).enable = true ∧ (s.eliPort port).rx.inFrame = false ∧ (s.eliPort port).rx.cands = a ++ { offset := offset, count := 2, mfas := k } :: b ∧
      (∀ x, x ∈ a → x.offset ≠ offset) ∧ mfas = (k + 1) % 256 :=
  ⟨24, 5, 0, 255, [{ offset := 9, count := 1, mfas := 3 }], [], (up.setPort 24 { personality := .eli, firstLane := 64, laneCount := 8, laneRate := 3, enable := true }).setEli 24 { rx := { cands := [{ offset := 9, count := 1, mfas := 3 }, { offset := 5, count := 2, mfas := 255 }] } }, by decide⟩

theorem witness_EliReceiveCompletes_eliFawNotFound : ∃ (port : Nat) (offset : Nat) (s : State), (s.port port).personality = .eli ∧ (s.port port).enable = true ∧ (s.eliPort port).rx.inFrame = true ∧ offset = (s.eliPort port).rx.offset ∧ (s.eliPort port).rx.badCount = 4 :=
  ⟨24, 5, (up.setPort 24 { personality := .eli, firstLane := 64, laneCount := 8, laneRate := 3, enable := true }).setEli 24 { rx := { inFrame := true, offset := 5, badCount := 4 } }, by decide⟩

theorem witness_EliReceiveCompletes_eliFawNotFound_stays : ∃ (port : Nat) (offset : Nat) (s : State), (s.port port).personality = .eli ∧ (s.port port).enable = true ∧ (s.eliPort port).rx.inFrame = true ∧ offset = (s.eliPort port).rx.offset ∧ (s.eliPort port).rx.badCount < 4 :=
  ⟨24, 5, (up.setPort 24 { personality := .eli, firstLane := 64, laneCount := 8, laneRate := 3, enable := true }).setEli 24 { rx := { inFrame := true, offset := 5, badCount := 3 } }, by decide⟩

theorem witness_EliReceiveCompletes_eliFrameReceive : ∃ (port : Nat) (f : EliFrame) (o : Bytes) (s : State), (s.port port).personality = .eli ∧ (s.port port).enable = true ∧ (s.eliPort port).rx.inFrame = true ∧ o = (framePlain f).take 64 ∧ crc16 (slice o 6 56) = beAt o 62 2 ∧ byteAt o 15 = 1 :=
  ⟨24, { overhead := scramble ([0xE7, 0x1C, 0xD9, 0x26, 0x4B, 0xB4, 5, 0, 0xFF, 96, 96, 96, 0, 7, 0, 1] ++ List.replicate 46 0 ++ [0xD5, 0x1F]), slots := [] }, ([0xE7, 0x1C, 0xD9, 0x26, 0x4B, 0xB4, 5, 0, 0xFF, 96, 96, 96, 0, 7, 0, 1] ++ List.replicate 46 0 ++ [0xD5, 0x1F] : Bytes).take 64, (up.setPort 24 { personality := .eli, firstLane := 64, laneCount := 8, laneRate := 3, enable := true }).setEli 24 { rx := { inFrame := true } }, by decide +kernel⟩

theorem witness_EliReceiveCompletes_eliFrameReceive_bad : ∃ (port : Nat) (f : EliFrame) (o : Bytes) (s : State), (s.port port).personality = .eli ∧ (s.port port).enable = true ∧ (s.eliPort port).rx.inFrame = true ∧ o = (framePlain f).take 64 ∧ (crc16 (slice o 6 56) ≠ beAt o 62 2 ∨ byteAt o 15 ≠ 1) :=
  ⟨24, { overhead := [], slots := [] }, [], (up.setPort 24 { personality := .eli, firstLane := 64, laneCount := 8, laneRate := 3, enable := true }).setEli 24 { rx := { inFrame := true } }, by decide +kernel⟩

theorem witness_EliReceiveCompletes_eliExpressReplace : ∃ (dst : Nat) (group : Nat) (s : State), group < 128 ∧ (s.express (dst * 128 + group)).live = true ∧ (s.express (dst * 128 + group)).replaced = false ∧ s.expressBad (s.express (dst * 128 + group)) = true :=
  ⟨25, 0, up.setExpress (25 * 128) { live := true, src := 24, count := 48 }, by decide⟩

theorem witness_EliReceiveCompletes_eliExpressRestore : ∃ (dst : Nat) (group : Nat) (s : State), group < 128 ∧ (s.express (dst * 128 + group)).live = true ∧ (s.express (dst * 128 + group)).replaced = true ∧ s.expressBad (s.express (dst * 128 + group)) = false ∧
      ((s.express (dst * 128 + group)).active = false ∨ (s.express (dst * 128 + group)).lost = true ∨ slotBlks * (s.express (dst * 128 + group)).count ≤ (s.express (dst * 128 + group)).store.length) :=
  ⟨25, 0, (up.setExpress (25 * 128) { live := true, src := 24, count := 48, replaced := true }).setEli 24 { rx := { inFrame := true, lol := false, lof := false, frameCap := 48 } }, by decide⟩

theorem witness_EliReceiveCompletes_eliTxFrameStart : ∃ (port : Nat) (r new : Nat) (s : State), (s.port port).personality = .eli ∧ (s.port port).enable = true ∧ (s.eliPort port).nextTypes = none ∧ (s.eliPort port).nextCfg = none ∧ (s.eliPort port).tx.cap ≤ (s.eliPort port).cfg.capMax ∧ (s.eliPort port).rx.inFrame = true ∧ (s.eliPort port).rx.lol = false ∧ (s.eliPort port).rx.lof = false ∧ (s.eliPort port).tx.safetyDue = false ∧ (s.eliPort port).tx.mfas = 0 ∧ (s.eliPort port).tx.firstDue = false ∧ (s.eliPort port).cfg.follow = false ∧ (s.eliPort port).tx.pending = some { raw := r, cap := new, left := 1 } ∧ new ≤ (s.eliPort port).cfg.capMax ∧ new ≠ (s.eliPort port).tx.cap ∧ 3 ≤ (s.eliPort port).tx.sinceSwitch :=
  ⟨24, 112, 112, (up.setPort 24 { personality := .eli, firstLane := 64, laneCount := 8, laneRate := 3, enable := true }).setEli 24 { cfg := { capMin := 64, capMax := 128 }, rx := { inFrame := true, lol := false, lof := false }, tx := { cap := 96, firstDue := false, sinceSwitch := 3, pending := some { raw := 112, cap := 112, left := 1 } } }, by decide⟩

theorem witness_EliReceiveCompletes_eliTxFrameStart_deferred : ∃ (port : Nat) (r new : Nat) (s : State), (s.port port).personality = .eli ∧ (s.port port).enable = true ∧ (s.eliPort port).nextTypes = none ∧ (s.eliPort port).nextCfg = none ∧ (s.eliPort port).tx.cap ≤ (s.eliPort port).cfg.capMax ∧ (s.eliPort port).rx.inFrame = true ∧ (s.eliPort port).rx.lol = false ∧ (s.eliPort port).rx.lof = false ∧ (s.eliPort port).tx.safetyDue = false ∧ (s.eliPort port).tx.mfas = 0 ∧ (s.eliPort port).tx.firstDue = false ∧ (s.eliPort port).cfg.follow = false ∧ (s.eliPort port).tx.pending = some { raw := r, cap := new, left := 1 } ∧ new ≤ (s.eliPort port).cfg.capMax ∧ (s.eliPort port).tx.cap < new ∧ (s.eliPort port).tx.sinceSwitch < 3 :=
  ⟨24, 112, 112, (up.setPort 24 { personality := .eli, firstLane := 64, laneCount := 8, laneRate := 3, enable := true }).setEli 24 { cfg := { capMin := 64, capMax := 128 }, rx := { inFrame := true, lol := false, lof := false }, tx := { cap := 96, firstDue := false, sinceSwitch := 2, pending := some { raw := 112, cap := 112, left := 1 } } }, by decide⟩

theorem witness_EliReceiveCompletes_eliTxFrameStart_within : ∃ (port : Nat) (s : State), (s.port port).personality = .eli ∧ (s.port port).enable = true ∧ (s.eliPort port).tx.mfas ≠ 0 ∧ (s.eliPort port).tx.safetyDue = false :=
  ⟨24, (up.setPort 24 { personality := .eli, firstLane := 64, laneCount := 8, laneRate := 3, enable := true }).setEli 24 { tx := { mfas := 255 } }, by decide⟩

theorem witness_EliReceiveCompletes_eliTxFrameStart_kept : ∃ (port : Nat) (s : State), (s.port port).personality = .eli ∧ (s.port port).enable = true ∧ (s.eliPort port).nextTypes = none ∧ (s.eliPort port).nextCfg = none ∧ (s.eliPort port).tx.cap ≤ (s.eliPort port).cfg.capMax ∧ ((s.eliPort port).rx.lol = true ∨ (s.eliPort port).rx.lof = true) :=
  ⟨24, (up.setPort 24 { personality := .eli, firstLane := 64, laneCount := 8, laneRate := 3, enable := true }).setEli 24 { rx := { lof := true } }, by decide⟩

/-! ### TrailheadCompletes -/

theorem witness_TrailheadCompletes_ingressDispatch : ∃ (port : Nat) (k : Nat) (l : List Nat) (h : Nat) (th : ThreadId) (s : State), s.dispatching = true ∧ s.countOut 3 ≤ 1 ∧ s.waitingOn port = k :: l ∧ (s.pkt k).egress = false ∧ h = flowHash (s.parsePort port).hashSelect (s.pkt k).bytes ∧
      (s.hold (steerIdx h)).active = false ∧ s.healthy 4 (s.steer (steerIdx h)) = true ∧
      (s.cluster (s.steer (steerIdx h))).stall = false ∧ s.clusterQueue (s.steer (steerIdx h)) false = [] ∧ s.pickThread (s.steer (steerIdx h)) = some th :=
  ⟨5, 9, [3], 0, { cluster := 0, engine := 0, thread := 1 }, (up.setPkt 9 { live := true, bytes := List.replicate 64 0, desc := { ingress := 5 } }).setWaiting 5 [9, 3], by decide +kernel⟩

theorem witness_TrailheadCompletes_ingressDispatch_ingressFull : ∃ (port : Nat) (k : Nat) (l : List Nat) (h : Nat) (s : State), s.dispatching = true ∧ s.countOut 3 ≤ 1 ∧ s.waitingOn port = k :: l ∧ (s.pkt k).egress = false ∧ h = flowHash (s.parsePort port).hashSelect (s.pkt k).bytes ∧
      (s.hold (steerIdx h)).active = false ∧ s.healthy 4 (s.steer (steerIdx h)) = true ∧
      (s.cluster (s.steer (steerIdx h))).stall = false ∧ 512 ≤ (s.clusterQueue (s.steer (steerIdx h)) false).length :=
  ⟨5, 9, [], 0, ((up.setPkt 9 { live := true, bytes := List.replicate 64 0, desc := { ingress := 5 } }).setWaiting 5 [9]).setClusterQueue 0 false (List.replicate 512 0), by decide +kernel⟩

theorem witness_TrailheadCompletes_egressDispatch : ∃ (port : Nat) (k : Nat) (a b : List Nat) (i : Nat) (th : ThreadId) (s : State), s.dispatching = true ∧ s.parse.egressWaiting = a ++ k :: b ∧ (∀ x, x ∈ a → (s.pkt x).desc.port ≠ port) ∧ (s.pkt k).desc.port = port ∧ (s.pkt k).egress = true ∧
      i = steerIdx (s.pkt k).desc.hash ∧ (s.hold i).active = false ∧ s.healthy 4 (s.steer i) = true ∧ (s.cluster (s.steer i)).stall = false ∧ s.clusterQueue (s.steer i) true = [] ∧ s.pickThread (s.steer i) = some th :=
  ⟨6, 9, [2], [3], 0, { cluster := 0, engine := 0, thread := 1 }, { up.setPkt 9 { live := true, egress := true, bytes := List.replicate 64 0, desc := { port := 6 } } with parse := { egressWaiting := [2, 9, 3] } }, by decide +kernel⟩

theorem witness_TrailheadCompletes_parseComplete : ∃ (th : ThreadId) (k : Nat) (s : State), (s.thread th).pass = some k ∧ (s.thread th).parsed = false ∧ outerOnly (s.parsePkt (s.pkt k)).hv = false :=
  ⟨th0, 9, busy fun x => { x with parsed := false }, by decide +kernel⟩

theorem witness_TrailheadCompletes_parseComplete_oddDrop : ∃ (th : ThreadId) (k port : Nat) (s : State), (s.thread th).pass = some k ∧ (s.thread th).parsed = false ∧ outerOnly (s.parsePkt (s.pkt k)).hv = true ∧
      port = (if (s.pkt k).egress then (s.pkt k).desc.port else (s.pkt k).desc.ingress) ∧ (s.parsePort port).oddDrop = true :=
  ⟨th0, 9, 0, { (busy fun x => { x with parsed := false }) with parse := { graph := some { start := List.replicate 16 0, nodes := [{ flags := 0, fixedLen := 200, lenByte := 0, lenMask := 0, lenShift := 0, lenScale := 0, lenAdd := 0, selOff := 0, selBits := 0, count := 0, first := 0, dflt := 0xFF, extracts := [] }], trans := [] }, ports := [(0, { oddDrop := true })] } }, by decide +kernel⟩

theorem witness_TrailheadCompletes_orderBucketRelease : ∃ (cluster : Nat) (bucket : Nat) (k : Nat) (l : List Nat) (s : State), s.bucket cluster bucket = k :: l ∧ (s.pkt k).cluster = cluster ∧ (s.pkt k).bucket = bucket ∧ (s.pkt k).committed = true ∧ (s.pkt k).egress = true :=
  ⟨3, 77, 9, [2], (up.setPkt 9 { live := true, egress := true, committed := true, cluster := 3, bucket := 77, desc := { port := 6 } }).setBucket 3 77 [9, 2], by decide⟩

theorem witness_TrailheadCompletes_orderBucketRelease_waits : ∃ (cluster : Nat) (bucket : Nat) (k : Nat) (l : List Nat) (s : State), s.bucket cluster bucket = k :: l ∧ (s.pkt k).committed = false :=
  ⟨3, 77, 9, [2], (up.setPkt 9 { live := true }).setBucket 3 77 [9, 2], by decide⟩

theorem witness_TrailheadCompletes_steerHoldDrained : ∃ (idx : Nat) (s : State), (s.hold idx).active = true ∧ s.uncommitted idx (s.hold idx).old = false :=
  ⟨5, up.setHold 5 { active := true, old := 5 }, by decide⟩

theorem witness_TrailheadCompletes_steerHoldDrained_waits : ∃ (idx : Nat) (s : State), (s.hold idx).active = true ∧ s.uncommitted idx (s.hold idx).old = true :=
  ⟨5, (up.setHold 5 { active := true, old := 5 }).setPkt 9 { live := true, inPass := true, steer := 5, cluster := 5 }, by decide⟩

theorem witness_TrailheadCompletes_steerHoldTimeout : ∃ (idx : Nat) (s : State), (s.hold idx).active = true ∧ (s.hold idx).since + 120000 ≤ s.now :=
  ⟨5, { up.setHold 5 { active := true, old := 5 } with now := 120000 }, by decide⟩

theorem witness_TrailheadCompletes_steerHoldTimeout_early : ∃ (idx : Nat) (s : State), (s.hold idx).active = true ∧ s.now < (s.hold idx).since + 120000 :=
  ⟨5, { up.setHold 5 { active := true, old := 5 } with now := 119999 }, by decide⟩

theorem witness_TrailheadCompletes_trailheadSteerRebalance : ∃ (idx : Nat) (cluster : Nat) (s : State), idx < 1024 ∧ cluster < 32 ∧ s.healthy 4 cluster = true ∧ s.steer idx ≠ cluster ∧ s.uncommitted idx (s.steer idx) = true :=
  ⟨5, 9, up.setPkt 9 { live := true, inPass := true, steer := 5, cluster := 5 }, by decide⟩

theorem witness_TrailheadCompletes_trailheadSteerRebalance_free : ∃ (idx : Nat) (cluster : Nat) (s : State), idx < 1024 ∧ cluster < 32 ∧ s.healthy 4 cluster = true ∧ s.steer idx ≠ cluster ∧ s.uncommitted idx (s.steer idx) = false ∧ (s.hold idx).active = false :=
  ⟨5, 9, up, by decide⟩

/-! ### RequestsComplete -/

theorem witness_RequestsComplete_lookupIssue : ∃ (th : ThreadId) (tag : Nat) (table : Nat) (key : Bytes) (s : State), s.canRun th = true ∧ tag < 8 ∧ s.tagFree th tag = true :=
  ⟨th0, 7, 40, [1, 2], busy id, by decide⟩

theorem witness_RequestsComplete_classifyIssue : ∃ (th : ThreadId) (tag : Nat) (tree : Nat) (k key : Nat) (s : State), s.canRun th = true ∧ tag < 8 ∧ s.tagFree th tag = true ∧ (s.thread th).pass = some k ∧ tree < 1024 ∧ (s.tree tree).live = true ∧ s.mayUse th (s.tree tree).partition = true ∧
      key = treeKey (s.tree tree) (s.pkt k).hv (s.pkt k).writers (outerCount (s.pkt k).ipLayers) :=
  ⟨th0, 0, 9, 9, 0, (busy id).setTree 9 { live := true, keyBits := 8, dflt := 77 }, by decide⟩

theorem witness_RequestsComplete_classifyIssue_notFound : ∃ (th : ThreadId) (tag : Nat) (tree : Nat) (s : State), s.canRun th = true ∧ tag < 8 ∧ s.tagFree th tag = true ∧ (1024 ≤ tree ∨ (s.tree tree).live = false ∨ s.mayUse th (s.tree tree).partition = false) :=
  ⟨th0, 0, 1024, busy id, by decide⟩

theorem witness_RequestsComplete_scanIssue : ∃ (th : ThreadId) (set : Nat) (depth : Nat) (k : Nat) (s : State), s.canRun th = true ∧ s.tagFree th 10 = true ∧ (s.thread th).pass = some k ∧ set < 256 ∧ (s.aset set).live = true ∧ s.mayUse th (s.aset set).partition = true ∧ s.scansQueued th.cluster < 64 :=
  ⟨th0, 3, 16, 9, (busy id).setAset 3 { live := true }, by decide⟩

theorem witness_RequestsComplete_scanIssue_queueFull : ∃ (th : ThreadId) (set : Nat) (depth : Nat) (s : State), s.canRun th = true ∧ s.tagFree th 10 = true ∧ set < 256 ∧ (s.aset set).live = true ∧ s.mayUse th (s.aset set).partition = true ∧ 64 ≤ s.scansQueued th.cluster :=
  ⟨th0, 3, 16, (let s := (busy id).setAset 3 { live := true }; { s with eng := { s.eng with threads := s.eng.threads ++ (List.range 64).map fun i => (900 + i, { out := [(10, { live := true })] }) } }), by decide +kernel⟩

theorem witness_RequestsComplete_assocSearchIssue_notFound : ∃ (th : ThreadId) (tag : Nat) (array : Nat) (key : Bytes) (s : State), s.canRun th = true ∧ tag < 2 ∧ s.tagFree th (8 + tag) = true ∧ (32 ≤ array ∨ s.ownsArray (s.thread th).domain array = false) :=
  ⟨th0, 1, 32, [], busy id, by decide⟩

theorem witness_RequestsComplete_assocSearchIssue : ∃ (th : ThreadId) (tag : Nat) (array : Nat) (key : Bytes) (s : State), s.canRun th = true ∧ tag < 2 ∧ s.tagFree th (8 + tag) = true ∧ array < 32 ∧ s.ownsArray (s.thread th).domain array = true :=
  ⟨th0, 1, 3, [], { busy id with assoc := { arrays := [(3, { live := true })] } }, by decide⟩

theorem witness_RequestsComplete_lookupResponse : ∃ (th : ThreadId) (tag : Nat) (err : Option EntryError) (s : State), (s.thread th).state = .run ∧ (s.thread th).waiting = .none ∧ (s.thread th).spec.heldFault = none ∧ (s.thread th).spec.prov = false ∧ tag < 8 ∧ (look (s.thread th).out tag {}).live = true ∧ err = none :=
  ⟨th0, 7, none, busy fun x => { x with out := [(7, { live := true, status := 1, bytes := [5] })] }, by decide⟩

theorem witness_RequestsComplete_scanResponse : ∃ (th : ThreadId) (s : State), (s.thread th).state = .run ∧ (s.thread th).waiting = .none ∧ (s.thread th).spec.heldFault = none ∧ (s.thread th).spec.prov = false ∧ (look (s.thread th).out 10 {}).live = true :=
  ⟨th0, busy fun x => { x with out := [(10, { live := true, status := 1, bytes := [5] })] }, by decide⟩

theorem witness_RequestsComplete_assocResponse : ∃ (th : ThreadId) (ans : SearchEnd) (s : State), (s.thread th).state = .run ∧ (s.thread th).waiting = .none ∧ (s.thread th).spec.heldFault = none ∧ (s.thread th).spec.prov = false ∧ ans.tag < 2 ∧ (look (s.thread th).out (8 + ans.tag) {}).live = true ∧ (look (s.thread th).out (8 + ans.tag) {}).status = 3 :=
  ⟨th0, { tag := 1, bad := [(0, 5)] }, busy fun x => { x with out := [(9, { live := true, status := 3, bytes := [5] })] }, by decide⟩

theorem witness_RequestsComplete_lookupResponse_badEntry : ∃ (th : ThreadId) (tag : Nat) (err : Option EntryError) (r : Request) (k : Nat) (e : EntryError) (s : State), tag < 8 ∧ (look (s.thread th).out tag {}).live = true ∧ r = look (s.thread th).out tag {} ∧ r.table = some k ∧ err = some e :=
  ⟨th0, 7, some { bucket := 5, slot := 0, firstBad := true, secondBad := false, leaves := [] }, { live := true, table := some 40, bytes := [5] }, 40, { bucket := 5, slot := 0, firstBad := true, secondBad := false, leaves := [] }, busy fun x => { x with out := [(7, { live := true, table := some 40, bytes := [5] })] }, by decide⟩

theorem witness_RequestsComplete_assocResponse_searched : ∃ (th : ThreadId) (ans : SearchEnd) (q : ASearch) (x : State) (a : AResponse) (s : State), ans.tag < 2 ∧ (look (s.thread th).out (8 + ans.tag) {}).live = true ∧ (look (s.thread th).out (8 + ans.tag) {}).status ≠ 3 ∧
      (s.assoc.searches.find? fun x => x.thread = th && x.tag = ans.tag) = some q ∧ q.start ≤ s.cclk ∧ x = s.settleSearches q.array s.cclk ∧
      a = ((x.assoc.searches.find? fun y => y.thread = th && y.tag = ans.tag).getD q).answer ans.bad :=
  ⟨th0, { tag := 1, bad := [] }, { thread := th0, tag := 1, array := 3, key := 0, start := 0 }, _, _, { busy (fun x => { x with out := [(9, { live := true })] }) with assoc := { arrays := [(3, { live := true })], searches := [{ thread := th0, tag := 1, array := 3, key := 0, start := 0 }] } }, by decide, by decide, by decide, by decide, by decide, rfl, rfl⟩

theorem witness_RequestsComplete_lookupResponse_wakes : ∃ (th : ThreadId) (tag : Nat) (err : Option EntryError) (s : State), (s.thread th).state = .wait ∧ (s.thread th).waiting = .events ∧ (s.thread th).spec.heldFault = none ∧ (s.thread th).spec.prov = false ∧ bit (s.thread th).mask tag = true ∧
      tag < 8 ∧ (look (s.thread th).out tag {}).live = true :=
  ⟨th0, 7, none, busy fun x => { x with state := .wait, waiting := .events, mask := 128, out := [(7, { live := true, status := 1, bytes := [5] })] }, by decide⟩

/-! ### ParseCommandsComplete -/

theorem witness_ParseCommandsComplete_parseGraphLoad : ∃ (c : Cmd) (b : BufRead) (s : State), ready s c 0x0400 .d0 = true ∧ firstErr ([c.bufferErr, c.zeros 28 36, b.err] ++ graphErrs (b.bytes c)) = none :=
  ⟨cm 0x400 [(16, 8, 0x10000), (24, 4, 112)], .data (overlay (overlay (overlay (List.replicate 112 0) 0 [1, 3, 1]) 44 (leBytes 4 0x77B72EB2)) 50 ([14] ++ List.replicate 11 0 ++ [0xFF])), begun up (cm 0x400 [(16, 8, 0x10000), (24, 4, 112)]), by decide +kernel⟩

theorem witness_ParseCommandsComplete_parsePortConfig : ∃ (c : Cmd) (s : State), ready s c 0x0401 .any = true ∧ s.ownErr c 1 (c.u8 16) = none ∧ c.u8 17 < 16 ∧ c.u8 18 ≤ 1 ∧ c.zeros 19 1 = none ∧ c.u16 20 < 256 ∧ c.zeros 22 42 = none :=
  ⟨cm 0x401 [(16, 1, 5), (17, 1, 3), (18, 1, 1), (20, 1, 0x91)], begun up (cm 0x401 [(16, 1, 5), (17, 1, 3), (18, 1, 1), (20, 1, 0x91)]), by decide⟩

theorem witness_ParseCommandsComplete_classTreeDelete : ∃ (c : Cmd) (s : State), ready s c 0x0403 .any = true ∧ c.u16 16 < 1024 ∧ (s.tree (c.u16 16)).live = true ∧ s.busyErr c = none ∧ s.ownErr c 3 (s.tree (c.u16 16)).partition = none ∧ c.zeros 18 46 = none :=
  ⟨cm 0x403 [(16, 2, 9)], (begun up (cm 0x403 [(16, 2, 9)])).setTree 9 { live := true }, by decide⟩

theorem witness_ParseCommandsComplete_autoSetDelete : ∃ (c : Cmd) (s : State), ready s c 0x0405 .any = true ∧ (s.aset (c.u8 16)).live = true ∧ s.busyErr c = none ∧ s.ownErr c 3 (s.aset (c.u8 16)).partition = none ∧ c.zeros 17 47 = none :=
  ⟨cm 0x405 [(16, 1, 9)], (begun up (cm 0x405 [(16, 1, 9)])).setAset 9 { live := true }, by decide⟩

theorem witness_ParseCommandsComplete_classLimit : ∃ (c : Cmd) (s : State), ready s c 0x0406 .d0 = true ∧ c.u8 16 < 16 ∧ c.zeros 17 3 = none ∧ c.zeros 28 36 = none :=
  ⟨cm 0x406 [(16, 1, 9)], begun up (cm 0x406 [(16, 1, 9)]), by decide⟩

theorem witness_ParseCommandsComplete_parseCounters : ∃ (c : Cmd) (s : State), ready s c 0x0407 .any = true ∧ c.needReply = none ∧ s.ownErr c 1 (c.u8 16) = none ∧ c.u8 17 ≤ 1 ∧ c.zeros 18 46 = none :=
  ⟨cm 0x407 [(16, 1, 9), (17, 1, 1)], begun up (cm 0x407 [(16, 1, 9), (17, 1, 1)]), by decide⟩

theorem witness_ParseCommandsComplete_classTreeLoad : ∃ (c : Cmd) (b : BufRead) (x : Tree) (s : State), ready s c 0x0402 .any = true ∧ c.bufferErr = none ∧ s.busyErr c = none ∧ c.u8 36 = 0 ∧ c.zeros 37 27 = none ∧ b.err = none ∧ c.u16 28 < 1024 ∧ x = s.tree (c.u16 28) ∧ (x.live = true → s.owner 3 x.partition = c.domain) ∧ s.ownErr c 3 (c.u16 30) = none ∧
      c.u32 32 = 0 ∧ x.staged = [] ∧ x.stagedRules = 0 ∧ s.rulesTotal + leAt (b.bytes c) 4 4 ≤ 2097152 ∧ 0 < allowance s.parse.ruleAllow c.domain ∧
      s.rulesUsed c.domain + leAt (b.bytes c) 4 4 ≤ allowance s.parse.ruleAllow c.domain :=
  ⟨cm 0x402 [(16, 8, 0x10000), (24, 4, 64), (28, 2, 9)], .data [1, 1, 8, 0, 3], {}, begun up (cm 0x402 [(16, 8, 0x10000), (24, 4, 64), (28, 2, 9)]), by decide +kernel⟩

theorem witness_ParseCommandsComplete_autoSetLoad : ∃ (c : Cmd) (b : BufRead) (x : AutoSet) (s : State), ready s c 0x0404 .any = true ∧ c.bufferErr = none ∧ s.busyErr c = none ∧ c.u8 36 = 0 ∧ c.zeros 37 27 = none ∧ b.err = none ∧ c.zeros 29 1 = none ∧ x = s.aset (c.u8 28) ∧ (x.live = true → s.owner 3 x.partition = c.domain) ∧ s.ownErr c 3 (c.u16 30) = none ∧
      c.u32 32 = 0 ∧ x.staged = [] ∧ x.stagedCount = 0 ∧ s.patternsTotal + (patternsOf (b.bytes c) (b.bytes c).length 0).1.length ≤ 65536 ∧
      0 < allowance s.parse.patternAllow c.domain ∧ s.patternsUsed c.domain + (patternsOf (b.bytes c) (b.bytes c).length 0).1.length ≤ allowance s.parse.patternAllow c.domain :=
  ⟨cm 0x404 [(16, 8, 0x10000), (24, 4, 16), (28, 1, 9)], .data [1, 0, 4, 0], {}, begun up (cm 0x404 [(16, 8, 0x10000), (24, 4, 16), (28, 1, 9)]), by decide +kernel⟩

theorem witness_ParseCommandsComplete_autoSetLoad_last : ∃ (c : Cmd) (b : BufRead) (x : AutoSet) (ps : List Pattern) (s : State), ready s c 0x0404 .any = true ∧ c.bufferErr = none ∧ s.busyErr c = none ∧ c.u8 36 = 1 ∧ c.zeros 37 27 = none ∧ b.err = none ∧ c.zeros 29 1 = none ∧ x = s.aset (c.u8 28) ∧ (x.live = true → s.owner 3 x.partition = c.domain) ∧ s.ownErr c 3 (c.u16 30) = none ∧
      c.u32 32 = 0 ∧ x.stagedCount = 0 ∧ patternsOf (b.bytes c) (b.bytes c).length 0 = (ps, none) ∧ uniqueIds ps = true ∧ ps.length ≤ 16384 ∧ s.patternsTotal + ps.length ≤ 65536 ∧
      0 < allowance s.parse.patternAllow c.domain ∧ s.patternsUsed c.domain + ps.length ≤ allowance s.parse.patternAllow c.domain :=
  ⟨cm 0x404 [(16, 8, 0x10000), (24, 4, 16), (28, 1, 9), (36, 1, 1)], .data [1, 0, 4, 0, 0, 0, 2, 0, 0x41, 0x42, 0x43, 0x44, 0xFF, 0xFF, 0xFF, 0xFF], {}, [{ id := 1, anchored := false, minStart := 0, maxStart := 2, bytes := [0x41, 0x42, 0x43, 0x44], mask := [0xFF, 0xFF, 0xFF, 0xFF] }], begun up (cm 0x404 [(16, 8, 0x10000), (24, 4, 16), (28, 1, 9), (36, 1, 1)]), by decide +kernel⟩

theorem witness_ParseCommandsComplete_classTreeLoad_last : ∃ (c : Cmd) (b : BufRead) (x : Tree) (s : State), ready s c 0x0402 .any = true ∧ c.bufferErr = none ∧ s.busyErr c = none ∧ c.u8 36 = 1 ∧ c.zeros 37 27 = none ∧ b.err = none ∧ c.u16 28 < 1024 ∧ x = s.tree (c.u16 28) ∧ (x.live = true → s.owner 3 x.partition = c.domain) ∧ s.ownErr c 3 (c.u16 30) = none ∧
      c.u32 32 = 0 ∧ x.bankLost = false ∧ x.stagedRules = 0 ∧ s.rulesTotal + leAt (b.bytes c) 4 4 ≤ 2097152 ∧ 0 < allowance s.parse.ruleAllow c.domain ∧
      s.rulesUsed c.domain + leAt (b.bytes c) 4 4 ≤ allowance s.parse.ruleAllow c.domain :=
  ⟨cm 0x402 [(16, 8, 0x10000), (24, 4, 64), (28, 2, 9), (36, 1, 1)], .data [1, 1, 8, 0, 3], {}, begun up (cm 0x402 [(16, 8, 0x10000), (24, 4, 64), (28, 2, 9), (36, 1, 1)]), by decide +kernel⟩

/-! ### ThreadControlCompletes -/

theorem witness_ThreadControlCompletes_wait : ∃ (th : ThreadId) (mask : Nat) (s : State), s.canRun th = true ∧ 0 < mask ∧ mask < 2 ^ 32 ∧ s.pendingWord th &&& mask ≠ 0 :=
  ⟨th0, 0x900, busy fun x => { x with pending := 0x901 }, by decide⟩

theorem witness_ThreadControlCompletes_wait_waits : ∃ (th : ThreadId) (mask : Nat) (s : State), s.canRun th = true ∧ 0 < mask ∧ mask < 2 ^ 32 ∧ s.pendingWord th &&& mask = 0 :=
  ⟨th0, 0x900, busy fun x => { x with pending := 0x001 }, by decide⟩

theorem witness_ThreadControlCompletes_wait_zero : ∃ (th : ThreadId) (mask : Nat) (k : Nat) (s : State), s.canRun th = true ∧ mask = 0 ∧ (s.thread th).spec.prov = false ∧ s.isSup th = false ∧ (s.cluster th.cluster).faults.length < 64 ∧ (s.thread th).pass = some k :=
  ⟨th0, 0, 9, busy id, by decide⟩

theorem witness_ThreadControlCompletes_signal : ∃ (th : ThreadId) (engine : Nat) (thread : Nat) (sig : Nat) (s : State), s.canRun th = true ∧ (s.thread th).spec.prov = false ∧ s.verdictDue th = false ∧ s.verdictBad th = false :=
  ⟨th0, 1, 2, 3, busy id, by decide⟩

theorem witness_ThreadControlCompletes_signalDeliver : ∃ (cluster : Nat) (g : SignalDue) (th : ThreadId) (s : State), (s.cluster cluster).signals = [g] ∧ g.due ≤ s.now ∧ th = { cluster := cluster, engine := g.engine, thread := g.thread } ∧ (s.thread th).state = .run :=
  ⟨3, { due := 12, engine := 5, thread := 7, sig := 2 }, th0, { (busy id).setCluster 3 { signals := [{ due := 12, engine := 5, thread := 7, sig := 2 }] } with now := 12 }, by decide⟩

theorem witness_ThreadControlCompletes_signalDeliver_early : ∃ (cluster : Nat) (g : SignalDue) (s : State), (s.cluster cluster).signals = [g] ∧ s.now < g.due :=
  ⟨3, { due := 12, engine := 5, thread := 7, sig := 2 }, { (busy id).setCluster 3 { signals := [{ due := 12, engine := 5, thread := 7, sig := 2 }] } with now := 11 }, by decide⟩

theorem witness_ThreadControlCompletes_timerSet : ∃ (th : ThreadId) (delta : Option Nat) (d : Nat) (s : State), s.canRun th = true ∧ delta = some d :=
  ⟨th0, some 100, 100, busy id, by decide⟩

theorem witness_ThreadControlCompletes_timerSet_off : ∃ (th : ThreadId) (delta : Option Nat) (s : State), s.canRun th = true ∧ delta = none :=
  ⟨th0, none, busy fun x => { x with timer := some 5, pending := 2 ^ 20 }, by decide⟩

theorem witness_ThreadControlCompletes_timerFire : ∃ (th : ThreadId) (v : Nat) (s : State), (s.thread th).timer = some v ∧ v ≤ s.clusterTime th.cluster ∧ (s.thread th).timerSet < s.cclk ∧ (s.thread th).state = .run :=
  ⟨th0, 0, { (busy fun x => { x with timer := some 0 }) with now := 3 }, by decide⟩

theorem witness_ThreadControlCompletes_timerFire_early : ∃ (th : ThreadId) (v : Nat) (s : State), (s.thread th).timer = some v ∧ s.clusterTime th.cluster < v :=
  ⟨th0, 1, busy fun x => { x with timer := some 1 }, by decide⟩

theorem witness_ThreadControlCompletes_yield : ∃ (th : ThreadId) (n : Nat) (s : State), s.canRun th = true :=
  ⟨th0, 5, busy id, by decide⟩

theorem witness_ThreadControlCompletes_yieldExpire : ∃ (th : ThreadId) (s : State), (s.thread th).yieldUntil ≠ 0 ∧ (s.thread th).yieldUntil ≤ s.cclk :=
  ⟨th0, { (busy fun x => { x with yieldUntil := 6 }) with now := 18 }, by decide⟩

theorem witness_ThreadControlCompletes_confirm : ∃ (th : ThreadId) (s : State), s.canRun th = true ∧ (s.thread th).spec.prov = false ∧ s.verdictDue th = false ∧ s.verdictBad th = false :=
  ⟨th0, busy id, by decide⟩

theorem witness_ThreadControlCompletes_confirm_waits : ∃ (th : ThreadId) (s : State), s.canRun th = true ∧ (s.thread th).spec.prov = true ∧ (s.thread th).spec.compare = .open_ ∧ s.incomplete th = false :=
  ⟨th0, busy fun x => { x with spec := { prov := true } }, by decide⟩

theorem witness_ThreadControlCompletes_confirm_confirms : ∃ (th : ThreadId) (s : State), s.canRun th = true ∧ (s.thread th).spec.prov = true ∧ (s.thread th).spec.compare = .equal ∧ s.verdictDue th = false ∧ s.verdictBad th = false :=
  ⟨th0, busy fun x => { x with spec := { prov := true, compare := .equal } }, by decide⟩

theorem witness_ThreadControlCompletes_confirm_verdict : ∃ (th : ThreadId) (s : State), s.canRun th = true ∧ (s.thread th).spec.prov = false ∧ s.verdictDue th = true :=
  ⟨th0, (busy id).setPkt 9 { live := true, sa := some 3 }, by decide⟩

/-! ### ChannelsComplete -/

theorem witness_ChannelsComplete_chanStage : ∃ (th : ThreadId) (channel : Nat) (word : Nat) (value : Nat) (s : State), s.canRun th = true ∧ (s.thread th).spec.prov = false ∧ s.verdictDue th = false ∧ s.verdictBad th = false ∧ (s.thread th).channel = none ∧ (s.channel th.cluster channel).used < 8 ∧ channel < 256 ∧ word < 8 ∧ value < 2 ^ 64 :=
  ⟨th0, 200, 7, 2 ^ 64 - 1, busy id, by decide⟩

theorem witness_ChannelsComplete_chanStage_more : ∃ (th : ThreadId) (channel : Nat) (word : Nat) (value : Nat) (s : State), s.canRun th = true ∧ (s.thread th).spec.prov = false ∧ s.verdictDue th = false ∧ s.verdictBad th = false ∧ (s.thread th).channel = some channel ∧ channel < 256 ∧ word < 8 ∧ value < 2 ^ 64 :=
  ⟨th0, 200, 7, 2 ^ 64 - 1, (busy fun x => { x with channel := some 200 }).setChannel 3 200 { reserved := 1 }, by decide⟩

theorem witness_ChannelsComplete_chanStage_waits : ∃ (th : ThreadId) (channel : Nat) (word : Nat) (value : Nat) (s : State), s.canRun th = true ∧ (s.thread th).spec.prov = false ∧ s.verdictDue th = false ∧ s.verdictBad th = false ∧ (s.thread th).channel = none ∧ 8 ≤ (s.channel th.cluster channel).used ∧ channel < 256 ∧ word < 8 ∧ value < 2 ^ 64 :=
  ⟨th0, 200, 7, 2 ^ 64 - 1, (busy id).setChannel 3 200 { reserved := 8 }, by decide⟩

theorem witness_ChannelsComplete_chanStage_other : ∃ (th : ThreadId) (channel : Nat) (word : Nat) (value : Nat) (k held : Nat) (s : State), s.canRun th = true ∧ (s.thread th).spec.prov = false ∧ s.verdictDue th = false ∧ s.verdictBad th = false ∧ (s.thread th).channel = some held ∧ channel ≠ held ∧ channel < 256 ∧ word < 8 ∧ value < 2 ^ 64 ∧ s.isSup th = false ∧ (s.cluster th.cluster).faults.length < 64 ∧ (s.thread th).pass = some k :=
  ⟨th0, 200, 7, 5, 9, 199, (busy fun x => { x with channel := some 199 }).setChannel 3 199 { reserved := 1 }, by decide +kernel⟩

theorem witness_ChannelsComplete_chanCommit : ∃ (th : ThreadId) (ch : Nat) (msg : List Nat) (s : State), s.canRun th = true ∧ (s.thread th).spec.prov = false ∧ s.verdictDue th = false ∧ s.verdictBad th = false ∧ (s.thread th).channel = some ch ∧
      msg = (List.range ((List.range 8).filter fun w => bit (s.thread th).stagedMask w).length).map fun w => look (s.thread th).staged w 0 :=
  ⟨th0, 199, [4, 5], (busy fun x => { x with channel := some 199, stagedMask := 3, staged := [(0, 4), (1, 5)] }).setChannel 3 199 { reserved := 1 }, by decide⟩

theorem witness_ChannelsComplete_chanCommit_none : ∃ (th : ThreadId) (k : Nat) (s : State), s.canRun th = true ∧ (s.thread th).spec.prov = false ∧ s.verdictDue th = false ∧ s.verdictBad th = false ∧ (s.thread th).channel = none ∧ s.isSup th = false ∧ (s.cluster th.cluster).faults.length < 64 ∧ (s.thread th).pass = some k :=
  ⟨th0, 9, busy id, by decide⟩

theorem witness_ChannelsComplete_chanVisible : ∃ (cluster : Nat) (channel : Nat) (due : List (Nat × Nat × List Nat)) (s : State), due = (s.channel cluster channel).coming.filter (fun m => m.1 ≤ s.now) ∧ due ≠ [] :=
  ⟨3, 9, [(12, 87, [1, 2])], { (busy id).setChannel 3 9 { coming := [(12, 87, [1, 2])] } with now := 12 }, by decide⟩

theorem witness_ChannelsComplete_chanVisible_early : ∃ (cluster : Nat) (channel : Nat) (s : State), ∀ m, m ∈ (s.channel cluster channel).coming → s.now < m.1 :=
  ⟨3, 9, { (busy id).setChannel 3 9 { coming := [(12, 87, [1, 2])] } with now := 11 }, by decide⟩

theorem witness_ChannelsComplete_chanRead : ∃ (th : ThreadId) (channel : Nat) (m : List Nat) (s : State), s.canRun th = true ∧ (s.thread th).spec.prov = false ∧ s.verdictDue th = false ∧ s.verdictBad th = false ∧ channel < 256 ∧ (s.channel th.cluster channel).visible[s.readsAhead th channel]? = some m :=
  ⟨th0, 9, [4, 5], (busy id).setChannel 3 9 { visible := [[4, 5], [6]] }, by decide⟩

theorem witness_ChannelsComplete_chanRead_empty : ∃ (th : ThreadId) (channel : Nat) (s : State), s.canRun th = true ∧ (s.thread th).spec.prov = false ∧ s.verdictDue th = false ∧ s.verdictBad th = false ∧ channel < 256 ∧ (s.channel th.cluster channel).visible.length ≤ s.readsAhead th channel :=
  ⟨th0, 9, busy id, by decide⟩

/-! ### PassesComplete -/

theorem witness_PassesComplete_faultRaise : ∃ (th : ThreadId) (code : Nat) (detail : Nat) (k : Nat) (s : State), s.canRun th = true ∧ (s.thread th).spec.prov = false ∧ s.verdictDue th = false ∧ s.verdictBad th = false ∧ 0x80 ≤ code ∧ code ≤ 0xFF ∧ detail < 2 ^ 32 ∧ s.isSup th = false ∧ (s.cluster th.cluster).faults.length < 64 ∧ (s.thread th).pass = some k :=
  ⟨th0, 0xFF, 5, 9, busy id, by decide⟩

theorem witness_PassesComplete_faultRaise_illegal : ∃ (th : ThreadId) (code : Nat) (detail : Nat) (k : Nat) (s : State), s.canRun th = true ∧ (s.thread th).spec.prov = false ∧ s.verdictDue th = false ∧ s.verdictBad th = false ∧ (code < 0x80 ∨ 0xFF < code) ∧ s.isSup th = false ∧ (s.cluster th.cluster).faults.length < 64 ∧ (s.thread th).pass = some k :=
  ⟨th0, 0x7F, 5, 9, busy id, by decide⟩

theorem witness_PassesComplete_faultQueueRead_empty : ∃ (cluster : Nat) (th : ThreadId) (s : State), th = { cluster := cluster, engine := (s.cluster cluster).supEngine, thread := (s.cluster cluster).supThread } ∧ s.canRun th = true ∧ (s.thread th).spec.prov = false ∧ s.verdictDue th = false ∧ s.verdictBad th = false ∧ (s.cluster cluster).faults = [] :=
  ⟨3, th0, (busy fun x => { x with resident := true }).setCluster 3 { supEngine := 5, supThread := 7 }, by decide⟩

theorem witness_PassesComplete_faultQueueRead : ∃ (cluster : Nat) (th : ThreadId) (r : Bytes) (l : List Bytes) (s : State), th = { cluster := cluster, engine := (s.cluster cluster).supEngine, thread := (s.cluster cluster).supThread } ∧ s.canRun th = true ∧ (s.thread th).spec.prov = false ∧ s.verdictDue th = false ∧ s.verdictBad th = false ∧ (s.cluster cluster).faults = r :: l :=
  ⟨3, th0, [3, 0x57], [], (busy fun x => { x with resident := true }).setCluster 3 { supEngine := 5, supThread := 7, faults := [[3, 0x57]] }, by decide⟩

theorem witness_PassesComplete_packetDma : ∃ (th : ThreadId) (toLocal : Bool) (packetOff : Nat) (localOff : Nat) (len : Nat) (s : State), s.canRun th = true ∧ (s.thread th).spec.prov = false ∧ s.verdictDue th = false ∧ s.verdictBad th = false ∧ s.tagFree th 11 = true ∧ localOff + len ≤ 8192 :=
  ⟨th0, true, 0, 8128, 64, busy id, by decide⟩

theorem witness_PassesComplete_packetDma_outside : ∃ (th : ThreadId) (toLocal : Bool) (packetOff : Nat) (localOff : Nat) (len : Nat) (k : Nat) (s : State), s.canRun th = true ∧ (s.thread th).spec.prov = false ∧ s.verdictDue th = false ∧ s.verdictBad th = false ∧ s.tagFree th 11 = true ∧ 8192 < localOff + len ∧ s.isSup th = false ∧ (s.cluster th.cluster).faults.length < 64 ∧ (s.thread th).pass = some k :=
  ⟨th0, true, 0, 8129, 64, 9, busy id, by decide⟩

theorem witness_PassesComplete_packetDmaDone : ∃ (th : ThreadId) (k : Nat) (d : PktDma) (s : State), (s.thread th).pass = some k ∧ (s.thread th).state = .run ∧ (look (s.thread th).out 11 {}).dma = some d ∧ d.toLocal = true :=
  ⟨th0, 9, { toLocal := true, packetOff := 3, localOff := 8, len := 4 }, busy fun x => { x with out := [(11, { live := true, dma := some { toLocal := true, packetOff := 3, localOff := 8, len := 4 } })] }, by decide⟩

theorem witness_PassesComplete_packetDmaDone_toPacket : ∃ (th : ThreadId) (k : Nat) (d : PktDma) (s : State), (s.thread th).pass = some k ∧ (s.thread th).state = .run ∧ (look (s.thread th).out 11 {}).dma = some d ∧ d.toLocal = false ∧ d.packetOff + d.len ≤ (s.pkt k).bytes.length :=
  ⟨th0, 9, { toLocal := false, packetOff := 3, localOff := 8, len := 4 }, busy fun x => { x with out := [(11, { live := true, dma := some { toLocal := false, packetOff := 3, localOff := 8, len := 4 } })] }, by decide⟩

theorem witness_PassesComplete_responseTimeout : ∃ (th : ThreadId) (bit : Nat) (k : Nat) (s : State), bit < 11 ∧ (look (s.thread th).out bit {}).live = true ∧ (look (s.thread th).out bit {}).at_ + 60000 ≤ s.now ∧ (s.thread th).spec.prov = false ∧ (s.thread th).state ≠ .stopped ∧ s.isSup th = false ∧ (s.cluster th.cluster).faults.length < 64 ∧ (s.thread th).pass = some k :=
  ⟨th0, 10, 9, { (busy fun x => { x with out := [(10, { live := true })] }) with now := 60000 }, by decide⟩

theorem witness_PassesComplete_responseTimeout_compared : ∃ (th : ThreadId) (bit : Nat) (s : State), bit < 11 ∧ (look (s.thread th).out bit {}).live = true ∧ (look (s.thread th).out bit {}).at_ + 60000 ≤ s.now ∧ (s.thread th).spec.prov = true ∧ (s.thread th).spec.compare = .open_ ∧ bit ∈ (s.tplOf (s.thread th)).tags :=
  ⟨th0, 2, (let s := { (busy fun x => { x with out := [(2, { live := true })], spec := { prov := true } }) with now := 60000 }; { s with scout := { s.scout with templates := [(0, { enabled := true, fields := [(3, 0)] })] } }), by decide⟩

theorem witness_PassesComplete_responseTimeout_stopped : ∃ (th : ThreadId) (bit : Nat) (s : State), bit < 11 ∧ (look (s.thread th).out bit {}).live = true ∧ (look (s.thread th).out bit {}).at_ + 60000 ≤ s.now ∧ (s.thread th).spec.prov = false ∧ (s.thread th).state = .stopped ∧ (s.thread th).spec.heldFault = none :=
  ⟨th0, 10, { (busy fun x => { x with out := [(10, { live := true })], state := .stopped }) with now := 60000 }, by decide⟩

theorem witness_PassesComplete_responseTimeout_early : ∃ (th : ThreadId) (bit : Nat) (s : State), s.now < (look (s.thread th).out bit {}).at_ + 60000 :=
  ⟨th0, 10, { (busy fun x => { x with out := [(10, { live := true })] }) with now := 59999 }, by decide⟩

theorem witness_PassesComplete_passBudgetExceeded : ∃ (th : ThreadId) (k : Nat) (s : State), ((s.thread th).state = .run ∨ (s.thread th).state = .wait) ∧ (s.cluster th.cluster).budget ≤ (s.thread th).issued ∧ (s.thread th).spec.prov = false ∧ s.isSup th = false ∧ (s.cluster th.cluster).faults.length < 64 ∧ (s.thread th).pass = some k :=
  ⟨th0, 9, busy fun x => { x with issued := 2048 }, by decide⟩

theorem witness_PassesComplete_passBudgetExceeded_held : ∃ (th : ThreadId) (s : State), (s.thread th).pass.isSome = true ∧ ((s.thread th).state = .run ∨ (s.thread th).state = .wait) ∧ (s.cluster th.cluster).budget ≤ (s.thread th).issued ∧ (s.thread th).spec.prov = true ∧
      (s.thread th).spec.compare = .open_ ∧ (s.thread th).spec.heldFault = none :=
  ⟨th0, busy fun x => { x with issued := 2048, spec := { prov := true } }, by decide⟩

theorem witness_PassesComplete_passEnd_malformed : ∃ (th : ThreadId) (e : PassEnd) (k : Nat) (s : State), s.canRun th = true ∧ (s.thread th).spec.prov = false ∧ s.verdictDue th = false ∧ s.verdictBad th = false ∧ s.isResident th = false ∧ e.malformed = true ∧ s.isSup th = false ∧ (s.cluster th.cluster).faults.length < 64 ∧ (s.thread th).pass = some k :=
  ⟨th0, { drop := false, pointer := 5, malformed := true }, 9, busy id, by decide⟩

theorem witness_PassesComplete_passEnd_resident : ∃ (th : ThreadId) (e : PassEnd) (s : State), s.canRun th = true ∧ s.isResident th = true :=
  ⟨th0, { drop := true, pointer := 0, malformed := false }, busy fun x => { x with resident := true, entry := 77 }, by decide⟩

theorem witness_PassesComplete_passEnd : ∃ (th : ThreadId) (e : PassEnd) (k : Nat) (s : State), s.canRun th = true ∧ (s.thread th).spec.prov = false ∧ s.verdictDue th = false ∧ s.verdictBad th = false ∧ s.isResident th = false ∧ (s.thread th).pass = some k ∧ e.malformed = false ∧ e.drop = true :=
  ⟨th0, { drop := true, pointer := 0, malformed := false }, 9, busy id, by decide⟩

theorem witness_PassesComplete_passEnd_handOff : ∃ (th : ThreadId) (e : PassEnd) (k : Nat) (l : Bytes) (s : State), s.canRun th = true ∧ (s.thread th).spec.prov = false ∧ s.verdictDue th = false ∧ s.verdictBad th = false ∧ s.isResident th = false ∧ (s.thread th).pass = some k ∧ e.malformed = false ∧ e.drop = false ∧ s.resolveList (s.thread th).domain e.pointer = some l :=
  ⟨th0, { drop := false, pointer := 0, malformed := false }, 9, [], busy id, by decide⟩

theorem witness_PassesComplete_passEnd_badList : ∃ (th : ThreadId) (e : PassEnd) (k : Nat) (s : State), s.canRun th = true ∧ (s.thread th).spec.prov = false ∧ s.verdictDue th = false ∧ s.verdictBad th = false ∧ s.isResident th = false ∧ (s.thread th).pass = some k ∧ e.malformed = false ∧ e.drop = false ∧ s.resolveList (s.thread th).domain e.pointer = none ∧ s.isSup th = false ∧ (s.cluster th.cluster).faults.length < 64 :=
  ⟨th0, { drop := false, pointer := 5, malformed := false }, 9, busy id, by decide⟩

/-! ### ClustersComplete -/

theorem witness_ClustersComplete_engineIssue : ∃ (cluster : Nat) (engine : Nat) (waiting : List Nat) (ops : List BundleOp) (th : ThreadId) (s : State), cluster < 32 ∧ engine < 16 ∧ s.healthy 4 cluster = true ∧ (s.engine cluster engine).issuedAt ≠ s.cclk + 1 ∧ (s.engine cluster engine).next = none ∧ ops = [] ∧ (s.engine cluster engine).pointer < 64 ∧ th = { cluster := cluster, engine := engine, thread := (s.engine cluster engine).slot (s.engine cluster engine).pointer } ∧ s.ready th waiting = true :=
  ⟨3, 5, [], [], th0, (busy id).setEngine 3 5 { pointer := 55 }, by decide +kernel⟩

theorem witness_ClustersComplete_engineIssue_idle : ∃ (cluster : Nat) (engine : Nat) (waiting : List Nat) (ops : List BundleOp) (s : State), cluster < 32 ∧ engine < 16 ∧ s.healthy 4 cluster = true ∧ (s.engine cluster engine).issuedAt ≠ s.cclk + 1 ∧ (s.engine cluster engine).next = none ∧ (∀ i, i < 16 → s.ready { cluster := cluster, engine := engine, thread := i } waiting = false) ∧ (∀ i, i < 64 → (s.engine cluster engine).slot i < 16) ∧
      (∀ i, i < 16 → (s.thread { cluster := cluster, engine := engine, thread := i }).mask &&& unstatedEvents = 0) :=
  ⟨3, 5, [7], [], busy id, by decide +kernel⟩

theorem witness_ClustersComplete_engineIssue_once : ∃ (cluster : Nat) (engine : Nat) (waiting : List Nat) (ops : List BundleOp) (s : State), (s.engine cluster engine).issuedAt = s.cclk + 1 :=
  ⟨3, 5, [], [], (busy id).setEngine 3 5 { issuedAt := 1 }, by decide +kernel⟩

theorem witness_ClustersComplete_slotTableSwitch : ∃ (cluster : Nat) (engine : Nat) (l : List Nat) (s : State), (s.engine cluster engine).next = some l ∧ (s.engine cluster engine).pointer = 0 ∧ l.length = 64 :=
  ⟨3, 5, List.replicate 64 9, up.setEngine 3 5 { next := some (List.replicate 64 9) }, by decide⟩

theorem witness_ClustersComplete_slotTableSwitch_waits : ∃ (cluster : Nat) (engine : Nat) (s : State), (s.engine cluster engine).pointer ≠ 0 :=
  ⟨3, 5, up.setEngine 3 5 { pointer := 1, next := some (List.replicate 64 9) }, by decide⟩

theorem witness_ClustersComplete_allwaitDetect : ∃ (cluster : Nat) (x : State) (sup : ThreadId) (q : Nat) (s : State), x = s.quietAt cluster ∧ sup = { cluster := cluster, engine := (x.cluster cluster).supEngine, thread := (x.cluster cluster).supThread } ∧ (x.cluster cluster).quiet = some q ∧ q + 6000 * (x.cluster cluster).allwaitUs < s.now ∧ (x.cluster cluster).recorded = none ∧ (x.cluster cluster).stall = false ∧
      (x.cluster cluster).allwait = false ∧ (x.thread sup).state = .wait ∧ (x.thread sup).waiting = .events ∧ bit (x.thread sup).mask 31 = true ∧ (x.cluster cluster).faults.length < 64 :=
  ⟨3, _, th0, 9, { (up.setThread th0 { state := .wait, waiting := .events, mask := 2 ^ 31, resident := true }).setCluster 3 { supEngine := 5, supThread := 7, quiet := some 9 } with now := 300010 }, rfl, by decide⟩

theorem witness_ClustersComplete_allwaitDetect_noSupervisor : ∃ (cluster : Nat) (x : State) (sup : ThreadId) (q : Nat) (s : State), x = s.quietAt cluster ∧ sup = { cluster := cluster, engine := (x.cluster cluster).supEngine, thread := (x.cluster cluster).supThread } ∧ (x.cluster cluster).quiet = some q ∧ q + 6000 * (x.cluster cluster).allwaitUs < s.now ∧ (x.cluster cluster).recorded = none ∧ (x.cluster cluster).stall = false ∧
      ((x.thread sup).state ≠ .wait ∨ (x.thread sup).waiting ≠ .events ∨ bit (x.thread sup).mask 31 = false ∨ 64 ≤ (x.cluster cluster).faults.length) :=
  ⟨3, _, { th0 with thread := 8 }, 9, { (up.setThread th0 { state := .wait, waiting := .events, mask := 2 ^ 31, resident := true }).setCluster 3 { supEngine := 5, supThread := 8, quiet := some 9 } with now := 300010 }, rfl, by decide⟩

theorem witness_ClustersComplete_allwaitDetect_early : ∃ (cluster : Nat) (x : State) (q : Nat) (s : State), x = s.quietAt cluster ∧ (x.cluster cluster).quiet = some q ∧ s.now ≤ q + 6000 * (x.cluster cluster).allwaitUs :=
  ⟨3, _, 9, { (up.setThread th0 { state := .wait, waiting := .events, mask := 2 ^ 31, resident := true }).setCluster 3 { supEngine := 5, supThread := 7, quiet := some 9 } with now := 300009 }, rfl, by decide⟩

theorem witness_ClustersComplete_allwaitEscalate : ∃ (cluster : Nat) (x : State) (q r : Nat) (s : State), x = s.quietAt cluster ∧ (x.cluster cluster).quiet = some q ∧ (x.cluster cluster).recorded = some r ∧ r + 6000 * (x.cluster cluster).allwaitUs < s.now ∧ (x.cluster cluster).stall = false :=
  ⟨3, _, 9, 10, { (up.setThread th0 { state := .wait, waiting := .events, mask := 2 ^ 31 }).setCluster 3 { quiet := some 9, recorded := some 10 } with now := 300011 }, rfl, by decide⟩

theorem witness_ClustersComplete_clusterStallRecovery : ∃ (cluster : Nat) (s : State), (s.cluster cluster).stall = true ∧ cluster < 32 :=
  ⟨3, (busy id).setCluster 3 { stall := true }, by decide⟩

theorem witness_ClustersComplete_clusterHealthWord : ∃ (cluster : Nat) (s : State), cluster < 32 ∧ s.healthy 4 cluster = true :=
  ⟨3, up, by decide⟩

theorem witness_ClustersComplete_clusterFail : ∃ (cluster : Nat) (uncorrectable : Bool) (other : Nat) (s : State), cluster < 32 ∧ s.healthy 4 cluster = true ∧ (s.cluster cluster).stall = false ∧ (uncorrectable = true ∨ (s.cluster cluster).health + 90000 ≤ s.now) ∧ other < 32 ∧ other ≠ cluster ∧ s.healthy 4 other = true :=
  ⟨3, false, 4, { up with now := 90000 }, by decide⟩

theorem witness_ClustersComplete_clusterFail_again : ∃ (cluster : Nat) (uncorrectable : Bool) (s : State), cluster < 32 ∧ s.healthy 4 cluster = true ∧ (s.cluster cluster).stall = true ∧ (uncorrectable = true ∨ (s.cluster cluster).health + 90000 ≤ s.now) :=
  ⟨3, true, up.setCluster 3 { stall := true }, by decide⟩

theorem witness_ClustersComplete_threadStopped : ∃ (th : ThreadId) (s : State), (s.thread th).stopDue = true ∧ ((s.thread th).state = .run ∨ (s.thread th).state = .wait) :=
  ⟨th0, busy fun x => { x with stopDue := true }, by decide⟩

/-! ### EngineCommandsComplete -/

theorem witness_EngineCommandsComplete_engSlotSet : ∃ (c : Cmd) (s : State), ready s c 0x0701 .d0 = true ∧ c.u8 16 < 32 ∧ c.u8 17 < 16 ∧ c.zeros 18 2 = none ∧ c.zeros 52 12 = none ∧ s.healthy 4 (c.u8 16) = true :=
  ⟨cm 0x701 [(16, 1, 3), (17, 1, 5), (20, 4, 0x76543210)], begun up (cm 0x701 [(16, 1, 3), (17, 1, 5), (20, 4, 0x76543210)]), by decide⟩

theorem witness_EngineCommandsComplete_engSlotSet_all : ∃ (c : Cmd) (s : State), ready s c 0x0701 .d0 = true ∧ c.u8 16 < 32 ∧ c.u8 17 = 0xFF ∧ c.zeros 18 2 = none ∧ c.zeros 52 12 = none ∧ s.healthy 4 (c.u8 16) = true :=
  ⟨cm 0x701 [(16, 1, 3), (17, 1, 0xFF), (20, 4, 0x76543210)], begun up (cm 0x701 [(16, 1, 3), (17, 1, 0xFF), (20, 4, 0x76543210)]), by decide⟩

theorem witness_EngineCommandsComplete_engConfig : ∃ (c : Cmd) (th : ThreadId) (s : State), ready s c 0x0702 .d0 = true ∧ c.u8 16 < 32 ∧ 1 ≤ c.u16 18 ∧ 256 ≤ c.u32 20 ∧ c.u32 20 ≤ 65520 ∧ c.u32 20 % 16 = 0 ∧ c.u8 24 ≤ 1 ∧ c.zeros 25 39 = none ∧ s.healthy 4 (c.u8 16) = true ∧
      th = { cluster := c.u8 16, engine := c.u8 17 / 16, thread := c.u8 17 % 16 } ∧ ((s.thread th).state = .empty ∨ s.isResident th = true) :=
  ⟨cm 0x702 [(16, 1, 3), (17, 1, 0x57), (18, 2, 9), (20, 4, 256), (24, 1, 1)], th0, begun up (cm 0x702 [(16, 1, 3), (17, 1, 0x57), (18, 2, 9), (20, 4, 256), (24, 1, 1)]), by decide⟩

theorem witness_EngineCommandsComplete_threadDebug_every : ∃ (c : Cmd) (th : ThreadId) (s : State), ready s c 0x0703 .d0 = true ∧ th = { cluster := c.u8 16, engine := c.u8 17, thread := c.u8 18 } ∧ firstErr (threadDebugErrs true c th s) = none ∧ ((c.u8 19 = 3 ∨ c.u8 19 = 5) → c.needReply = none) :=
  ⟨cm 0x703 [(16, 1, 3), (17, 1, 5), (18, 1, 7), (19, 1, 5)], th0, { begun (busy fun x => { x with pc := 5 }) (cm 0x703 [(16, 1, 3), (17, 1, 5), (18, 1, 7), (19, 1, 5)]) with dom := { up.dom with session := some { viaHost := true, signer := 1, mask := 1, scope := 12, deadline := 10 ^ 9 } } }, by decide⟩

theorem witness_EngineCommandsComplete_threadDebug_kill : ∃ (c : Cmd) (th : ThreadId) (k : Nat) (s : State), ready s c 0x0703 .d0 = true ∧ th = { cluster := c.u8 16, engine := c.u8 17, thread := c.u8 18 } ∧ firstErr (threadDebugErrs true c th s) = none ∧ c.u8 19 = 2 ∧ (s.thread th).pass = some k :=
  ⟨cm 0x703 [(16, 1, 3), (17, 1, 5), (18, 1, 7), (19, 1, 2)], th0, 9, { begun (busy fun x => { x with state := .stopped }) (cm 0x703 [(16, 1, 3), (17, 1, 5), (18, 1, 7), (19, 1, 2)]) with dom := { up.dom with session := some { viaHost := true, signer := 1, mask := 1, scope := 12, deadline := 10 ^ 9 } } }, by decide⟩

theorem witness_EngineCommandsComplete_threadDebug : ∃ (c : Cmd) (th : ThreadId) (s : State), ready s c 0x0703 .d0 = true ∧ th = { cluster := c.u8 16, engine := c.u8 17, thread := c.u8 18 } ∧ firstErr (threadDebugErrs true c th s) = none ∧ c.u8 19 = 0 ∧ ((s.thread th).state = .run ∨ (s.thread th).state = .wait) :=
  ⟨cm 0x703 [(16, 1, 3), (17, 1, 5), (18, 1, 7), (19, 1, 0)], th0, { begun (busy fun x => { x with pc := 5 }) (cm 0x703 [(16, 1, 3), (17, 1, 5), (18, 1, 7), (19, 1, 0)]) with dom := { up.dom with session := some { viaHost := true, signer := 1, mask := 1, scope := 12, deadline := 10 ^ 9 } } }, by decide⟩

theorem witness_EngineCommandsComplete_threadDebug_record : ∃ (c : Cmd) (th : ThreadId) (s : State), ready s c 0x0703 .d0 = true ∧ th = { cluster := c.u8 16, engine := c.u8 17, thread := c.u8 18 } ∧ firstErr (threadDebugErrs true c th s) = none ∧ c.needReply = none ∧ c.u8 19 = 3 :=
  ⟨cm 0x703 [(16, 1, 3), (17, 1, 5), (18, 1, 7), (19, 1, 3)], th0, { begun (busy fun x => { x with pc := 5 }) (cm 0x703 [(16, 1, 3), (17, 1, 5), (18, 1, 7), (19, 1, 3)]) with dom := { up.dom with session := some { viaHost := true, signer := 1, mask := 1, scope := 12, deadline := 10 ^ 9 } } }, by decide⟩

theorem witness_EngineCommandsComplete_threadDebug_resume : ∃ (c : Cmd) (th : ThreadId) (s : State), ready s c 0x0703 .d0 = true ∧ th = { cluster := c.u8 16, engine := c.u8 17, thread := c.u8 18 } ∧ firstErr (threadDebugErrs true c th s) = none ∧ c.u8 19 = 1 ∧ (s.thread th).before = .run ∧ (s.thread th).waiting = .none ∧ (s.thread th).spec.prov = false ∧ (s.thread th).spec.heldFault = none :=
  ⟨cm 0x703 [(16, 1, 3), (17, 1, 5), (18, 1, 7), (19, 1, 1)], th0, { begun (busy fun x => { x with state := .stopped, before := .run }) (cm 0x703 [(16, 1, 3), (17, 1, 5), (18, 1, 7), (19, 1, 1)]) with dom := { up.dom with session := some { viaHost := true, signer := 1, mask := 1, scope := 12, deadline := 10 ^ 9 } } }, by decide⟩

theorem witness_EngineCommandsComplete_profileWrite : ∃ (c : Cmd) (b : BufRead) (size n : Nat) (s : State), ready s c 0x0704 .any = true ∧ c.u64 16 = 0 ∧ s.layoutOf (c.u8 30) = some (size, n) ∧ size ≤ 24 ∧ c.u32 24 = size ∧ s.ownErr c 3 (c.u16 28) = none ∧ c.zeros 31 1 = none ∧ c.u32 32 < n ∧ c.zeros 36 4 = none :=
  ⟨cm 0x704 [(24, 4, 8), (28, 2, 9), (30, 1, 1), (32, 4, 77), (40, 8, 0x1122334455667788)], .data [], 8, 100, { begun up (cm 0x704 [(24, 4, 8), (28, 2, 9), (30, 1, 1), (32, 4, 77), (40, 8, 0x1122334455667788)]) with eng := { active := some { layout := [(4, 1), (8, 100)] } } }, by decide⟩

theorem witness_EngineCommandsComplete_profileWrite_buffer : ∃ (c : Cmd) (b : BufRead) (size n : Nat) (s : State), ready s c 0x0704 .any = true ∧ c.u64 16 ≠ 0 ∧ c.bufferErr = none ∧ b.err = none ∧ s.layoutOf (c.u8 30) = some (size, n) ∧ c.u32 24 = size ∧ s.ownErr c 3 (c.u16 28) = none ∧ c.zeros 31 1 = none ∧ c.u32 32 < n ∧ c.zeros 36 4 = none :=
  ⟨cm 0x704 [(16, 8, 0x10000), (24, 4, 8), (28, 2, 9), (30, 1, 1), (32, 4, 77)], .data [1, 2, 3, 4, 5, 6, 7, 8], 8, 100, { begun up (cm 0x704 [(16, 8, 0x10000), (24, 4, 8), (28, 2, 9), (30, 1, 1), (32, 4, 77)]) with eng := { active := some { layout := [(4, 1), (8, 100)] } } }, by decide⟩

/-! ### TableCommandsComplete -/

theorem witness_TableCommandsComplete_tableCreate : ∃ (c : Cmd) (s : State), ready s c 0x0500 .any = true ∧ firstErr (tableCreateErrs c s) = none :=
  ⟨cm 0x500 [(16, 2, 7), (18, 1, 2), (19, 1, 2), (20, 2, 9), (22, 2, 48), (24, 4, 4096), (28, 1, 1), (32, 4, 1000)], begun up (cm 0x500 [(16, 2, 7), (18, 1, 2), (19, 1, 2), (20, 2, 9), (22, 2, 48), (24, 4, 4096), (28, 1, 1), (32, 4, 1000)]), by decide +kernel⟩

theorem witness_TableCommandsComplete_tableDestroy : ∃ (c : Cmd) (s : State), ready s c 0x0501 .any = true ∧ s.tableErr c 16 = none ∧ c.zeros 18 46 = none ∧ s.tableBusy (c.u16 16) = false :=
  ⟨cm 0x501 [(16, 2, 7)], (begun up (cm 0x501 [(16, 2, 7)])).setTable 7 { live := true, kind := 2, keyBits := 48, size := 4096 }, by decide⟩

theorem witness_TableCommandsComplete_tableDestroy_busy : ∃ (c : Cmd) (s : State), ready s c 0x0501 .any = true ∧ s.tableErr c 16 = none ∧ c.zeros 18 46 = none ∧ s.tableBusy (c.u16 16) = true :=
  ⟨cm 0x501 [(16, 2, 7)], (let s := (begun up (cm 0x501 [(16, 2, 7)])).setTable 7 { live := true, kind := 2, keyBits := 48, size := 4096 }; { s with tables := { s.tables with dma := some { cmd := cm 0 [], table := 7, load := true, first := 0, count := 1, lockAt := 0, data := [] } } }), by decide⟩

theorem witness_TableCommandsComplete_tableInsert : ∃ (c : Cmd) (x : Table) (p : Nat) (s : State), ready s c 0x0502 .any = true ∧ s.keyWaits (c.u16 16) (cmdKey c) = false ∧ firstErr (tableWriteErrs c s) = none ∧ x = s.table (c.u16 16) ∧ x.find (cmdKey c) = none ∧ x.plan (cmdKey c) = some ([], p) ∧ x.bankLost = false ∧ s.bucketUp x (p / 4) = true :=
  ⟨cm 0x502 [(16, 2, 7), (18, 1, 1), (19, 1, 5), (24, 8, 99), (32, 6, 0xA1B2C3D4E5F6)], { live := true, kind := 2, keyBits := 48, size := 4096 }, ((({ live := true, kind := 2, keyBits := 48, size := 4096 } : Table).plan 0xA1B2C3D4E5F6).getD ([], 0)).2, (begun up (cm 0x502 [(16, 2, 7), (18, 1, 1), (19, 1, 5), (24, 8, 99), (32, 6, 0xA1B2C3D4E5F6)])).setTable 7 { live := true, kind := 2, keyBits := 48, size := 4096 }, by decide +kernel⟩

theorem witness_TableCommandsComplete_tableInsert_planned : ∃ (c : Cmd) (x : Table) (pl : List (Nat × Nat) × Nat) (s : State), ready s c 0x0502 .any = true ∧ s.keyWaits (c.u16 16) (cmdKey c) = false ∧ firstErr (tableWriteErrs c s) = none ∧ x = s.table (c.u16 16) ∧ x.find (cmdKey c) = none ∧ x.plan (cmdKey c) = some pl ∧ x.bankLost = false ∧ (planBuckets pl).all (s.bucketUp x) = true :=
  ⟨cm 0x502 [(16, 2, 7), (18, 1, 1), (19, 1, 5), (24, 8, 99), (32, 6, 0xA1B2C3D4E5F6)], { live := true, kind := 2, keyBits := 48, size := 4096 }, (({ live := true, kind := 2, keyBits := 48, size := 4096 } : Table).plan 0xA1B2C3D4E5F6).getD ([], 0), (begun up (cm 0x502 [(16, 2, 7), (18, 1, 1), (19, 1, 5), (24, 8, 99), (32, 6, 0xA1B2C3D4E5F6)])).setTable 7 { live := true, kind := 2, keyBits := 48, size := 4096 }, by decide +kernel⟩

theorem witness_TableCommandsComplete_tableInsert_present : ∃ (c : Cmd) (x : Table) (p : Nat) (s : State), ready s c 0x0502 .any = true ∧ s.keyWaits (c.u16 16) (cmdKey c) = false ∧ firstErr (tableWriteErrs c s) = none ∧ x = s.table (c.u16 16) ∧ x.find (cmdKey c) = some p ∧ s.bucketUp x (p / 4) = true :=
  ⟨cm 0x502 [(16, 2, 7), (18, 1, 1), (19, 1, 5), (24, 8, 99), (32, 6, 0xA1B2C3D4E5F6)], (let t : Table := { live := true, kind := 2, keyBits := 48, size := 4096 }; t.setEntry ((t.plan 0xA1B2C3D4E5F6).getD ([], 0)).2 { valid := true, key := 0xA1B2C3D4E5F6, port := 5 }), ((let t : Table := { live := true, kind := 2, keyBits := 48, size := 4096 }; t.setEntry ((t.plan 0xA1B2C3D4E5F6).getD ([], 0)).2 { valid := true, key := 0xA1B2C3D4E5F6, port := 5 }).find 0xA1B2C3D4E5F6).getD 0, (begun up (cm 0x502 [(16, 2, 7), (18, 1, 1), (19, 1, 5), (24, 8, 99), (32, 6, 0xA1B2C3D4E5F6)])).setTable 7 (let t : Table := { live := true, kind := 2, keyBits := 48, size := 4096 }; t.setEntry ((t.plan 0xA1B2C3D4E5F6).getD ([], 0)).2 { valid := true, key := 0xA1B2C3D4E5F6, port := 5 }), by decide +kernel⟩

theorem witness_TableCommandsComplete_tableUpdate_present : ∃ (c : Cmd) (x : Table) (p : Nat) (s : State), ready s c 0x0503 .any = true ∧ s.keyWaits (c.u16 16) (cmdKey c) = false ∧ firstErr (tableWriteErrs c s) = none ∧ x = s.table (c.u16 16) ∧ x.find (cmdKey c) = some p ∧ s.bucketUp x (p / 4) = true :=
  ⟨cm 0x503 [(16, 2, 7), (18, 1, 1), (19, 1, 5), (24, 8, 99), (32, 6, 0xA1B2C3D4E5F6)], (let t : Table := { live := true, kind := 2, keyBits := 48, size := 4096 }; t.setEntry ((t.plan 0xA1B2C3D4E5F6).getD ([], 0)).2 { valid := true, key := 0xA1B2C3D4E5F6, port := 5 }), ((let t : Table := { live := true, kind := 2, keyBits := 48, size := 4096 }; t.setEntry ((t.plan 0xA1B2C3D4E5F6).getD ([], 0)).2 { valid := true, key := 0xA1B2C3D4E5F6, port := 5 }).find 0xA1B2C3D4E5F6).getD 0, (begun up (cm 0x503 [(16, 2, 7), (18, 1, 1), (19, 1, 5), (24, 8, 99), (32, 6, 0xA1B2C3D4E5F6)])).setTable 7 (let t : Table := { live := true, kind := 2, keyBits := 48, size := 4096 }; t.setEntry ((t.plan 0xA1B2C3D4E5F6).getD ([], 0)).2 { valid := true, key := 0xA1B2C3D4E5F6, port := 5 }), by decide +kernel⟩

theorem witness_TableCommandsComplete_tableInsert_full : ∃ (c : Cmd) (x : Table) (s : State), ready s c 0x0502 .any = true ∧ s.keyWaits (c.u16 16) (cmdKey c) = false ∧ firstErr (tableWriteErrs c s) = none ∧ x = s.table (c.u16 16) ∧ x.find (cmdKey c) = none ∧ x.plan (cmdKey c) = none :=
  ⟨cm 0x502 [(16, 2, 7), (18, 1, 1), (19, 1, 5), (24, 8, 99), (32, 6, 0xA1B2C3D4E5F6)], { live := true, kind := 2, keyBits := 48, size := 8, entries := (List.range 72).map fun i => (i, { valid := true, key := i }) }, (begun up (cm 0x502 [(16, 2, 7), (18, 1, 1), (19, 1, 5), (24, 8, 99), (32, 6, 0xA1B2C3D4E5F6)])).setTable 7 { live := true, kind := 2, keyBits := 48, size := 8, entries := (List.range 72).map fun i => (i, { valid := true, key := i }) }, by decide +kernel⟩

theorem witness_TableCommandsComplete_tableUpdate_absent : ∃ (c : Cmd) (x : Table) (s : State), ready s c 0x0503 .any = true ∧ s.keyWaits (c.u16 16) (cmdKey c) = false ∧ firstErr (tableWriteErrs c s) = none ∧ x = s.table (c.u16 16) ∧ s.findUp x (cmdKey c) = none :=
  ⟨cm 0x503 [(16, 2, 7), (18, 1, 1), (19, 1, 5), (24, 8, 99), (32, 6, 0xA1B2C3D4E5F6)], { live := true, kind := 2, keyBits := 48, size := 4096 }, (begun up (cm 0x503 [(16, 2, 7), (18, 1, 1), (19, 1, 5), (24, 8, 99), (32, 6, 0xA1B2C3D4E5F6)])).setTable 7 { live := true, kind := 2, keyBits := 48, size := 4096 }, by decide +kernel⟩

theorem witness_TableCommandsComplete_tableDelete : ∃ (c : Cmd) (x : Table) (p : Nat) (s : State), ready s c 0x0504 .any = true ∧ firstErr [s.tableErr c 16, at_ 16 (2 ≤ x.kind), c.zeros 18 14, at_ 32 (cmdKey c < 2 ^ x.keyBits), c.zeros 48 16] = none ∧ x = s.table (c.u16 16) ∧ s.findUp x (cmdKey c) = some p ∧ s.removeWaits (c.u16 16) p = false :=
  ⟨cm 0x504 [(16, 2, 7), (32, 6, 0xA1B2C3D4E5F6)], (let t : Table := { live := true, kind := 2, keyBits := 48, size := 4096 }; t.setEntry ((t.plan 0xA1B2C3D4E5F6).getD ([], 0)).2 { valid := true, key := 0xA1B2C3D4E5F6, port := 5 }), ((let t : Table := { live := true, kind := 2, keyBits := 48, size := 4096 }; t.setEntry ((t.plan 0xA1B2C3D4E5F6).getD ([], 0)).2 { valid := true, key := 0xA1B2C3D4E5F6, port := 5 }).find 0xA1B2C3D4E5F6).getD 0, (begun up (cm 0x504 [(16, 2, 7), (32, 6, 0xA1B2C3D4E5F6)])).setTable 7 (let t : Table := { live := true, kind := 2, keyBits := 48, size := 4096 }; t.setEntry ((t.plan 0xA1B2C3D4E5F6).getD ([], 0)).2 { valid := true, key := 0xA1B2C3D4E5F6, port := 5 }), by decide +kernel⟩

theorem witness_TableCommandsComplete_tableDelete_absent : ∃ (c : Cmd) (x : Table) (s : State), ready s c 0x0504 .any = true ∧ firstErr [s.tableErr c 16, at_ 16 (2 ≤ x.kind), c.zeros 18 14, at_ 32 (cmdKey c < 2 ^ x.keyBits), c.zeros 48 16] = none ∧ x = s.table (c.u16 16) ∧ s.findUp x (cmdKey c) = none :=
  ⟨cm 0x504 [(16, 2, 7), (32, 6, 0xA1B2C3D4E5F6)], { live := true, kind := 2, keyBits := 48, size := 4096 }, (begun up (cm 0x504 [(16, 2, 7), (32, 6, 0xA1B2C3D4E5F6)])).setTable 7 { live := true, kind := 2, keyBits := 48, size := 4096 }, by decide +kernel⟩

theorem witness_TableCommandsComplete_tableSearch : ∃ (c : Cmd) (x : Table) (p : Nat) (s : State), ready s c 0x0505 .any = true ∧ c.needReply = none ∧ s.tableErr c 16 = none ∧ c.zeros 18 14 = none ∧ x = s.table (c.u16 16) ∧ 2 ≤ x.kind ∧ cmdKey c < 2 ^ x.keyBits ∧ c.zeros 48 16 = none ∧ s.findKey x (cmdKey c) = some p :=
  ⟨cm 0x505 [(16, 2, 7), (32, 6, 0xA1B2C3D4E5F6)], (let t : Table := { live := true, kind := 2, keyBits := 48, size := 4096 }; t.setEntry ((t.plan 0xA1B2C3D4E5F6).getD ([], 0)).2 { valid := true, key := 0xA1B2C3D4E5F6, port := 5 }), ((let t : Table := { live := true, kind := 2, keyBits := 48, size := 4096 }; t.setEntry ((t.plan 0xA1B2C3D4E5F6).getD ([], 0)).2 { valid := true, key := 0xA1B2C3D4E5F6, port := 5 }).find 0xA1B2C3D4E5F6).getD 0, (begun up (cm 0x505 [(16, 2, 7), (32, 6, 0xA1B2C3D4E5F6)])).setTable 7 (let t : Table := { live := true, kind := 2, keyBits := 48, size := 4096 }; t.setEntry ((t.plan 0xA1B2C3D4E5F6).getD ([], 0)).2 { valid := true, key := 0xA1B2C3D4E5F6, port := 5 }), by decide +kernel⟩

theorem witness_TableCommandsComplete_tableSearch_absent : ∃ (c : Cmd) (x : Table) (s : State), ready s c 0x0505 .any = true ∧ c.needReply = none ∧ s.tableErr c 16 = none ∧ c.zeros 18 14 = none ∧ x = s.table (c.u16 16) ∧ 2 ≤ x.kind ∧ cmdKey c < 2 ^ x.keyBits ∧ c.zeros 48 16 = none ∧ s.findKey x (cmdKey c) = none :=
  ⟨cm 0x505 [(16, 2, 7), (32, 6, 0xA1B2C3D4E5F6)], { live := true, kind := 2, keyBits := 48, size := 4096 }, (begun up (cm 0x505 [(16, 2, 7), (32, 6, 0xA1B2C3D4E5F6)])).setTable 7 { live := true, kind := 2, keyBits := 48, size := 4096 }, by decide +kernel⟩

theorem witness_TableCommandsComplete_tableSearch_route : ∃ (c : Cmd) (x : Table) (a : Nat) (r : Route) (s : State), ready s c 0x0505 .any = true ∧ c.needReply = none ∧ s.tableErr c 16 = none ∧ c.zeros 18 14 = none ∧ x = s.table (c.u16 16) ∧ c.zeros 48 16 = none ∧
      ((x.kind = 0 ∧ c.zeros 36 12 = none ∧ a = beAt (slice c.params 16 16) 0 4 * 2 ^ 96) ∨ (x.kind = 1 ∧ a = beAt (slice c.params 16 16) 0 16)) ∧ bestRoute a (s.routesOf x) = some r :=
  ⟨cm 0x505 [(16, 2, 7), (32, 4, 0x0302010A)], _, 0x0A010203 * 2 ^ 96, { pfx := 0x0A010200 * 2 ^ 96, len := 24, result := 5 }, (begun up (cm 0x505 [(16, 2, 7), (32, 4, 0x0302010A)])).setTable 7 { live := true, kind := 0, routes := [{ pfx := 0x0A010200 * 2 ^ 96, len := 24, result := 5 }] }, by decide, by decide, by decide, by decide, rfl, by decide, by decide, by decide +kernel⟩

theorem witness_TableCommandsComplete_tableNext : ∃ (c : Cmd) (s : State), ready s c 0x0506 .any = true ∧ c.needReply = none ∧ s.tableErr c 16 = none ∧ 1 ≤ c.u8 18 ∧ c.u8 18 ≤ 64 ∧ c.zeros 19 5 = none ∧ c.zeros 48 16 = none ∧ ((slice c.params 8 24).all (· = 0) = true ∨ c.u32 24 = s.tableGen (c.u16 16)) :=
  ⟨cm 0x506 [(16, 2, 7), (18, 1, 64)], (begun up (cm 0x506 [(16, 2, 7), (18, 1, 64)])).setTable 7 (let t : Table := { live := true, kind := 2, keyBits := 48, size := 4096 }; t.setEntry ((t.plan 0xA1B2C3D4E5F6).getD ([], 0)).2 { valid := true, key := 0xA1B2C3D4E5F6, port := 5 }), by decide +kernel⟩

theorem witness_TableCommandsComplete_tableNext_stale : ∃ (c : Cmd) (s : State), ready s c 0x0506 .any = true ∧ c.needReply = none ∧ s.tableErr c 16 = none ∧ 1 ≤ c.u8 18 ∧ c.u8 18 ≤ 64 ∧ c.zeros 19 5 = none ∧ c.zeros 48 16 = none ∧ c.u32 24 ≠ 0 ∧ c.u32 24 ≠ s.tableGen (c.u16 16) :=
  ⟨cm 0x506 [(16, 2, 7), (18, 1, 64), (24, 4, 5)], (begun up (cm 0x506 [(16, 2, 7), (18, 1, 64), (24, 4, 5)])).setTable 7 (let t : Table := { live := true, kind := 2, keyBits := 48, size := 4096 }; t.setEntry ((t.plan 0xA1B2C3D4E5F6).getD ([], 0)).2 { valid := true, key := 0xA1B2C3D4E5F6, port := 5 }), by decide⟩

theorem witness_TableCommandsComplete_tableFlushPort : ∃ (c : Cmd) (ks : List Nat) (s : State), ready s c 0x0507 .any = true ∧ s.tableBusy (c.u16 16) = false ∧ firstErr [s.tableErr c 16, at_ 16 (2 ≤ (s.table (c.u16 16)).kind), s.ownErr c 1 (c.u8 18), at_ 19 (c.u8 19 ≤ 1), c.zeros 20 44] = none ∧
      ks = ((s.table (c.u16 16)).entries.filter fun r => r.2.valid && decide (r.2.port = c.u8 18) && (decide (c.u8 19 = 1) || r.2.learned) && s.bucketUp (s.table (c.u16 16)) (r.1 / 4)).map fun r => r.2.key :=
  ⟨cm 0x507 [(16, 2, 7), (18, 1, 5), (19, 1, 1)], [0xA1B2C3D4E5F6], (begun up (cm 0x507 [(16, 2, 7), (18, 1, 5), (19, 1, 1)])).setTable 7 (let t : Table := { live := true, kind := 2, keyBits := 48, size := 4096 }; t.setEntry ((t.plan 0xA1B2C3D4E5F6).getD ([], 0)).2 { valid := true, key := 0xA1B2C3D4E5F6, port := 5 }), by decide +kernel⟩

theorem witness_TableCommandsComplete_learnConfig : ∃ (c : Cmd) (s : State), ready s c 0x050B .any = true ∧ s.ownErr c 1 (c.u8 16) = none ∧ c.u8 17 ≤ 1 ∧ c.zeros 18 2 = none ∧ c.u32 20 ≤ 4194304 ∧ c.zeros 24 40 = none ∧ ((s.learnPort (c.u8 16)).charge ≠ c.u32 20 ∨ (s.learnPort (c.u8 16)).atLimit = true) :=
  ⟨cm 0x50B [(16, 1, 5), (17, 1, 1), (20, 4, 4194304)], begun up (cm 0x50B [(16, 1, 5), (17, 1, 1), (20, 4, 4194304)]), by decide⟩

theorem witness_TableCommandsComplete_learnConfig_every : ∃ (c : Cmd) (s : State), ready s c 0x050B .any = true ∧ s.ownErr c 1 (c.u8 16) = none ∧ c.u8 17 ≤ 1 ∧ c.zeros 18 2 = none ∧ c.u32 20 ≤ 4194304 ∧ c.zeros 24 40 = none :=
  ⟨cm 0x50B [(16, 1, 5), (17, 1, 1), (20, 4, 4194304)], begun up (cm 0x50B [(16, 1, 5), (17, 1, 1), (20, 4, 4194304)]), by decide⟩

theorem witness_TableCommandsComplete_tableAge : ∃ (c : Cmd) (x : Table) (s : State), ready s c 0x050C .any = true ∧ firstErr ([s.tableErr c 16, at_ 18 (c.u8 18 ≤ 2), c.zeros 19 1] ++ ageErrs c (c.u8 18) 20 24 ++ [c.zeros 28 36]) = none ∧ s.tableBusy (c.u16 16) = false ∧ x = s.table (c.u16 16) ∧ x.kind = 2 ∧ x.age.mode = 0 :=
  ⟨cm 0x50C [(16, 2, 7), (18, 1, 2), (20, 4, 100), (24, 4, 86400000)], { live := true, kind := 2, keyBits := 48, size := 4096 }, (begun up (cm 0x50C [(16, 2, 7), (18, 1, 2), (20, 4, 100), (24, 4, 86400000)])).setTable 7 { live := true, kind := 2, keyBits := 48, size := 4096 }, by decide⟩

theorem witness_TableCommandsComplete_tableAge_later : ∃ (c : Cmd) (x : Table) (s : State), ready s c 0x050C .any = true ∧ firstErr ([s.tableErr c 16, at_ 18 (c.u8 18 ≤ 2), c.zeros 19 1] ++ ageErrs c (c.u8 18) 20 24 ++ [c.zeros 28 36]) = none ∧ s.tableBusy (c.u16 16) = false ∧ x = (s.table (c.u16 16)).settle s.now ∧ x.kind = 2 ∧ x.age.mode ≠ 0 :=
  ⟨cm 0x50C [(16, 2, 7), (18, 1, 2), (20, 4, 100), (24, 4, 86400000)], { live := true, kind := 2, keyBits := 48, size := 4096, age := { mode := 1, sweepMs := 50 } }, (begun up (cm 0x50C [(16, 2, 7), (18, 1, 2), (20, 4, 100), (24, 4, 86400000)])).setTable 7 { live := true, kind := 2, keyBits := 48, size := 4096, age := { mode := 1, sweepMs := 50 } }, by decide⟩

theorem witness_TableCommandsComplete_tableLimit : ∃ (c : Cmd) (s : State), ready s c 0x050D .d0 = true ∧ c.u8 16 < 16 ∧ c.zeros 17 3 = none ∧ c.zeros 28 36 = none :=
  ⟨cm 0x50D [(16, 1, 5), (20, 4, 1000), (24, 4, 2000)], begun up (cm 0x50D [(16, 1, 5), (20, 4, 1000), (24, 4, 2000)]), by decide⟩

/-! ### RoutesComplete -/

theorem witness_RoutesComplete_lpmAdd : ∃ (c : Cmd) (b : BufRead) (x : Table) (r : Route) (s : State), ready s c 0x0509 .any = true ∧ c.bufferErr = none ∧ c.u32 32 = 1 ∧ c.u32 24 = 24 ∧ s.tableErr c 28 = none ∧ x = s.table (c.u16 28) ∧ x.kind < 2 ∧ c.zeros 30 2 = none ∧ c.zeros 36 28 = none ∧ b.err = none ∧
      r = routeOf (b.bytes c) 0 ∧ firstErr (routeErrs x (b.bytes c) 0) = none ∧ firstErr (addErrs s c (c.u16 28) r) = none :=
  ⟨cm 0x509 [(16, 8, 0x10000), (24, 4, 24), (28, 2, 7), (32, 4, 1)], .data ([0x0A, 0x01, 0x02] ++ List.replicate 13 0 ++ [24, 0, 0, 0, 9]), { live := true, kind := 0 }, { pfx := 0x0A010200 * 2 ^ 96, len := 24, result := 9 }, (begun up (cm 0x509 [(16, 8, 0x10000), (24, 4, 24), (28, 2, 7), (32, 4, 1)])).setTable 7 { live := true, kind := 0 }, by decide +kernel⟩

theorem witness_RoutesComplete_lpmDelete : ∃ (c : Cmd) (b : BufRead) (x : Table) (r : Route) (s : State), ready s c 0x050A .any = true ∧ c.bufferErr = none ∧ c.u32 32 = 1 ∧ c.u32 24 = 24 ∧ s.tableErr c 28 = none ∧ x = s.table (c.u16 28) ∧ x.kind < 2 ∧ c.zeros 30 2 = none ∧ c.zeros 36 28 = none ∧ b.err = none ∧
      r = routeOf (b.bytes c) 0 ∧ firstErr (routeErrs x (b.bytes c) 0) = none ∧ x.hasRoute r.pfx r.len = true :=
  ⟨cm 0x50A [(16, 8, 0x10000), (24, 4, 24), (28, 2, 7), (32, 4, 1)], .data ([0x0A, 0x01, 0x02] ++ List.replicate 13 0 ++ [24, 0, 0, 0, 9]), { live := true, kind := 0, routes := [{ pfx := 0x0A010200 * 2 ^ 96, len := 24, result := 5 }] }, { pfx := 0x0A010200 * 2 ^ 96, len := 24, result := 9 }, (begun up (cm 0x50A [(16, 8, 0x10000), (24, 4, 24), (28, 2, 7), (32, 4, 1)])).setTable 7 { live := true, kind := 0, routes := [{ pfx := 0x0A010200 * 2 ^ 96, len := 24, result := 5 }] }, by decide +kernel⟩

theorem witness_RoutesComplete_lpmDelete_absent : ∃ (c : Cmd) (b : BufRead) (x : Table) (r : Route) (s : State), ready s c 0x050A .any = true ∧ c.bufferErr = none ∧ c.u32 32 = 1 ∧ c.u32 24 = 24 ∧ s.tableErr c 28 = none ∧ x = s.table (c.u16 28) ∧ x.kind < 2 ∧ c.zeros 30 2 = none ∧ c.zeros 36 28 = none ∧ b.err = none ∧
      r = routeOf (b.bytes c) 0 ∧ firstErr (routeErrs x (b.bytes c) 0) = none ∧ x.hasRoute r.pfx r.len = false :=
  ⟨cm 0x50A [(16, 8, 0x10000), (24, 4, 24), (28, 2, 7), (32, 4, 1)], .data ([0x0A, 0x01, 0x02] ++ List.replicate 13 0 ++ [24, 0, 0, 0, 9]), { live := true, kind := 0 }, { pfx := 0x0A010200 * 2 ^ 96, len := 24, result := 9 }, (begun up (cm 0x50A [(16, 8, 0x10000), (24, 4, 24), (28, 2, 7), (32, 4, 1)])).setTable 7 { live := true, kind := 0 }, by decide +kernel⟩

theorem witness_RoutesComplete_lpmAdd_every : ∃ (c : Cmd) (b : BufRead) (x : Table) (r : State × Nat × Option Err) (s : State), ready s c 0x0509 .any = true ∧ c.bufferErr = none ∧ c.u32 24 = c.u32 32 * 24 ∧ s.tableErr c 28 = none ∧ x = s.table (c.u16 28) ∧ x.kind < 2 ∧ c.zeros 30 2 = none ∧ c.zeros 36 28 = none ∧ b.err = none ∧
      r = lpmRun true c (b.bytes c) (List.range (c.u32 32)) 0 s ∧ r.2.2 = none :=
  ⟨cm 0x509 [(16, 8, 0x10000), (24, 4, 24), (28, 2, 7), (32, 4, 1)], .data ([0x0A, 0x01, 0x02] ++ List.replicate 13 0 ++ [24, 0, 0, 0, 9]), _, _, (begun up (cm 0x509 [(16, 8, 0x10000), (24, 4, 24), (28, 2, 7), (32, 4, 1)])).setTable 7 { live := true, kind := 0 }, by decide, by decide, by decide, by decide, rfl, by decide, by decide, by decide, by decide, rfl, by decide +kernel⟩

theorem witness_RoutesComplete_lpmAdd_stops : ∃ (c : Cmd) (b : BufRead) (x : Table) (r : State × Nat × Option Err) (e : Err) (s : State), ready s c 0x0509 .any = true ∧ c.bufferErr = none ∧ c.u32 24 = c.u32 32 * 24 ∧ s.tableErr c 28 = none ∧ x = s.table (c.u16 28) ∧ x.kind < 2 ∧ c.zeros 30 2 = none ∧ c.zeros 36 28 = none ∧ b.err = none ∧
      r = lpmRun true c (b.bytes c) (List.range (c.u32 32)) 0 s ∧ r.2.2 = some e :=
  ⟨cm 0x509 [(16, 8, 0x10000), (24, 4, 24), (28, 2, 7), (32, 4, 1)], .data ([0x0A, 0x01, 0x02, 1] ++ List.replicate 12 0 ++ [24, 0, 0, 0, 9]), _, _, badBuffer 0, (begun up (cm 0x509 [(16, 8, 0x10000), (24, 4, 24), (28, 2, 7), (32, 4, 1)])).setTable 7 { live := true, kind := 0 }, by decide, by decide, by decide, by decide, rfl, by decide, by decide, by decide, by decide, rfl, by decide +kernel⟩

theorem witness_RoutesComplete_lpmDelete_every : ∃ (c : Cmd) (b : BufRead) (x : Table) (r : State × Nat × Option Err) (s : State), ready s c 0x050A .any = true ∧ c.bufferErr = none ∧ c.u32 24 = c.u32 32 * 24 ∧ s.tableErr c 28 = none ∧ x = s.table (c.u16 28) ∧ x.kind < 2 ∧ c.zeros 30 2 = none ∧ c.zeros 36 28 = none ∧ b.err = none ∧
      r = lpmRun false c (b.bytes c) (List.range (c.u32 32)) 0 s ∧ r.2.2 = none :=
  ⟨cm 0x50A [(16, 8, 0x10000), (24, 4, 24), (28, 2, 7), (32, 4, 1)], .data ([0x0A, 0x01, 0x02] ++ List.replicate 13 0 ++ [24, 0, 0, 0, 9]), _, _, (begun up (cm 0x50A [(16, 8, 0x10000), (24, 4, 24), (28, 2, 7), (32, 4, 1)])).setTable 7 { live := true, kind := 0, routes := [{ pfx := 0x0A010200 * 2 ^ 96, len := 24, result := 5 }] }, by decide, by decide, by decide, by decide, rfl, by decide, by decide, by decide, by decide, rfl, by decide +kernel⟩

theorem witness_RoutesComplete_lpmDelete_stops : ∃ (c : Cmd) (b : BufRead) (x : Table) (r : State × Nat × Option Err) (e : Err) (s : State), ready s c 0x050A .any = true ∧ c.bufferErr = none ∧ c.u32 24 = c.u32 32 * 24 ∧ s.tableErr c 28 = none ∧ x = s.table (c.u16 28) ∧ x.kind < 2 ∧ c.zeros 30 2 = none ∧ c.zeros 36 28 = none ∧ b.err = none ∧
      r = lpmRun false c (b.bytes c) (List.range (c.u32 32)) 0 s ∧ r.2.2 = some e :=
  ⟨cm 0x50A [(16, 8, 0x10000), (24, 4, 24), (28, 2, 7), (32, 4, 1)], .data ([0x0A, 0x01, 0x02] ++ List.replicate 13 0 ++ [24, 0, 0, 0, 9]), _, _, { status := .notFound }, (begun up (cm 0x50A [(16, 8, 0x10000), (24, 4, 24), (28, 2, 7), (32, 4, 1)])).setTable 7 { live := true, kind := 0 }, by decide, by decide, by decide, by decide, rfl, by decide, by decide, by decide, by decide, rfl, by decide +kernel⟩

theorem witness_RoutesComplete_tableDma : ∃ (c : Cmd) (b : BufRead) (s : State), ready s c 0x0508 .d0 = true ∧ s.tables.dma = none ∧ firstErr (tableDmaErrs c b s) = none ∧ c.u32 36 ≠ 0 :=
  ⟨cm 0x508 [(16, 8, 0x10000), (24, 4, 288), (28, 2, 7), (30, 1, 1), (32, 4, 1038), (36, 4, 2)], .data [], (begun up (cm 0x508 [(16, 8, 0x10000), (24, 4, 288), (28, 2, 7), (30, 1, 1), (32, 4, 1038), (36, 4, 2)])).setTable 7 { live := true, kind := 2, keyBits := 48, size := 4096 }, by decide⟩

theorem witness_RoutesComplete_tableDma_empty : ∃ (c : Cmd) (b : BufRead) (s : State), ready s c 0x0508 .d0 = true ∧ s.tables.dma = none ∧ firstErr (tableDmaErrs c b s) = none ∧ c.u32 36 = 0 :=
  ⟨cm 0x508 [(16, 8, 0x10000), (28, 2, 7), (30, 1, 1), (32, 4, 1038)], .data [], (begun up (cm 0x508 [(16, 8, 0x10000), (28, 2, 7), (30, 1, 1), (32, 4, 1038)])).setTable 7 { live := true, kind := 2, keyBits := 48, size := 4096 }, by decide⟩

theorem witness_RoutesComplete_tableDma_waits : ∃ (c : Cmd) (b : BufRead) (s : State), s.tables.dma.isSome = true :=
  ⟨cm 0x508 [], .data [], { up with tables := { up.tables with dma := some { cmd := cm 0x508 [], table := 7, load := true, first := 0, count := 1, lockAt := 0, data := [] } } }, by decide⟩

theorem witness_RoutesComplete_dmaLockRelease : ∃ (table : Nat) (bucket : Nat) (finished : Bool) (d : TableDma) (s : State), s.tables.dma = some d ∧ d.table = table ∧ d.first + d.moved = bucket ∧ (s.table table).dying = [] ∧ finished = true ∧ s.now ≤ d.lockAt + 384 ∧ d.load = false ∧ d.moved + 1 = d.count ∧ s.bucketUp (s.table table) bucket = true :=
  ⟨7, 3, true, { cmd := cm 0x508 [], table := 7, load := false, first := 3, count := 1, lockAt := 0, data := [], abandoned := 0 }, (let s := up.setTable 7 { live := true, kind := 2, keyBits := 48, size := 4096 }; { s with now := 384, tables := { s.tables with dma := some { cmd := cm 0x508 [], table := 7, load := false, first := 3, count := 1, lockAt := 0, data := [], abandoned := 0 } } }), by decide⟩

theorem witness_RoutesComplete_dmaLockRelease_goesOn : ∃ (table : Nat) (bucket : Nat) (finished : Bool) (d : TableDma) (s : State), s.tables.dma = some d ∧ d.table = table ∧ d.first + d.moved = bucket ∧ (s.table table).dying = [] ∧ finished = true ∧ s.now ≤ d.lockAt + 384 ∧ d.load = false ∧ d.moved + 1 ≠ d.count ∧ s.bucketUp (s.table table) bucket = true :=
  ⟨7, 3, true, { cmd := cm 0x508 [], table := 7, load := false, first := 3, count := 2, lockAt := 0, data := [], abandoned := 0 }, (let s := up.setTable 7 { live := true, kind := 2, keyBits := 48, size := 4096 }; { s with now := 384, tables := { s.tables with dma := some { cmd := cm 0x508 [], table := 7, load := false, first := 3, count := 2, lockAt := 0, data := [], abandoned := 0 } } }), by decide⟩

theorem witness_RoutesComplete_dmaLockRelease_loads : ∃ (table : Nat) (bucket : Nat) (finished : Bool) (d : TableDma) (s : State), s.tables.dma = some d ∧ d.table = table ∧ d.first + d.moved = bucket ∧ (s.table table).dying = [] ∧ finished = true ∧ s.now ≤ d.lockAt + 384 ∧ d.load = true ∧ (s.table table).imageOk table bucket (slice d.data (144 * d.moved) 144) = true ∧ s.bucketUp (s.table table) bucket = true :=
  ⟨7, 3, true, { cmd := cm 0x508 [], table := 7, load := true, first := 3, count := 1, lockAt := 0, data := [3, 0, 0, 0, 7] ++ List.replicate 139 0, abandoned := 0 }, (let s := up.setTable 7 { live := true, kind := 2, keyBits := 48, size := 4096 }; { s with now := 384, tables := { s.tables with dma := some { cmd := cm 0x508 [], table := 7, load := true, first := 3, count := 1, lockAt := 0, data := [3, 0, 0, 0, 7] ++ List.replicate 139 0, abandoned := 0 } } }), by decide +kernel⟩

theorem witness_RoutesComplete_dmaLockRelease_lost : ∃ (table : Nat) (bucket : Nat) (finished : Bool) (d : TableDma) (e : Err) (s : State), s.tables.dma = some d ∧ d.table = table ∧ d.first + d.moved = bucket ∧ (s.table table).dying = [] ∧ finished = true ∧ s.now ≤ d.lockAt + 384 ∧ s.bucketsErr (s.table table) [bucket] = some e :=
  ⟨7, 3, true, { cmd := cm 0x508 [], table := 7, load := false, first := 3, count := 1, lockAt := 0, data := [], abandoned := 0 }, { status := .hwFault }, ((let s := up.setTable 7 { live := true, kind := 2, keyBits := 48, size := 4096 }; { s with now := 384, tables := { s.tables with dma := some { cmd := cm 0x508 [], table := 7, load := false, first := 3, count := 1, lockAt := 0, data := [], abandoned := 0 } } })).markOut 9 3, by decide +kernel⟩

theorem witness_RoutesComplete_dmaLockRelease_badImage : ∃ (table : Nat) (bucket : Nat) (finished : Bool) (d : TableDma) (s : State), s.tables.dma = some d ∧ d.table = table ∧ d.first + d.moved = bucket ∧ (s.table table).dying = [] ∧ finished = true ∧ s.now ≤ d.lockAt + 384 ∧ d.load = true ∧ (s.table table).imageOk table bucket (slice d.data (144 * d.moved) 144) = false ∧ s.bucketUp (s.table table) bucket = true :=
  ⟨7, 3, true, { cmd := cm 0x508 [], table := 7, load := true, first := 3, count := 1, lockAt := 0, data := [], abandoned := 0 }, (let s := up.setTable 7 { live := true, kind := 2, keyBits := 48, size := 4096 }; { s with now := 384, tables := { s.tables with dma := some { cmd := cm 0x508 [], table := 7, load := true, first := 3, count := 1, lockAt := 0, data := [], abandoned := 0 } } }), by decide +kernel⟩

theorem witness_RoutesComplete_dmaLockRelease_abandoned : ∃ (table : Nat) (bucket : Nat) (finished : Bool) (d : TableDma) (s : State), s.tables.dma = some d ∧ d.table = table ∧ d.first + d.moved = bucket ∧ (finished = false ∨ d.lockAt + 384 < s.now) ∧ d.lockAt + 384 ≤ s.now ∧ d.abandoned < 2 :=
  ⟨7, 3, false, { cmd := cm 0x508 [], table := 7, load := false, first := 3, count := 1, lockAt := 0, data := [], abandoned := 1 }, (let s := up.setTable 7 { live := true, kind := 2, keyBits := 48, size := 4096 }; { s with now := 384, tables := { s.tables with dma := some { cmd := cm 0x508 [], table := 7, load := false, first := 3, count := 1, lockAt := 0, data := [], abandoned := 1 } } }), by decide⟩

theorem witness_RoutesComplete_dmaLockRelease_timeout : ∃ (table : Nat) (bucket : Nat) (finished : Bool) (d : TableDma) (s : State), s.tables.dma = some d ∧ d.table = table ∧ d.first + d.moved = bucket ∧ (s.table table).dying = [] ∧ (finished = false ∨ d.lockAt + 384 < s.now) ∧ d.lockAt + 384 ≤ s.now ∧ d.abandoned = 2 :=
  ⟨7, 3, false, { cmd := cm 0x508 [], table := 7, load := false, first := 3, count := 1, lockAt := 0, data := [], abandoned := 2 }, (let s := up.setTable 7 { live := true, kind := 2, keyBits := 48, size := 4096 }; { s with now := 384, tables := { s.tables with dma := some { cmd := cm 0x508 [], table := 7, load := false, first := 3, count := 1, lockAt := 0, data := [], abandoned := 2 } } }), by decide⟩

/-! ### TableEnginesComplete -/

theorem witness_TableEnginesComplete_hitWrite : ∃ (h : HitWrite) (l : List HitWrite) (x : Table) (s : State), s.tables.hits = h :: l ∧ x = s.table h.table ∧ x.live = true ∧ s.tableGen h.table = h.gen ∧ s.hitWaits h = false ∧ x.age.mode ≠ 2 ∧ (x.entry (x.placeOf h.handle)).valid = true ∧ (x.entry (x.placeOf h.handle)).key = h.key :=
  ⟨{ table := 7, gen := 0, key := 0xA1B2C3D4E5F6, handle := ((({ live := true, kind := 2, keyBits := 48, size := 4096 } : Table).plan 0xA1B2C3D4E5F6).getD ([], 0)).2 }, [], (let t : Table := { live := true, kind := 2, keyBits := 48, size := 4096, age := { mode := 1, sweepMs := 100, limitMs := 1000 } }; t.setEntry ((t.plan 0xA1B2C3D4E5F6).getD ([], 0)).2 { valid := true, key := 0xA1B2C3D4E5F6, port := 5 }), (let s := up.setTable 7 (let t : Table := { live := true, kind := 2, keyBits := 48, size := 4096, age := { mode := 1, sweepMs := 100, limitMs := 1000 } }; t.setEntry ((t.plan 0xA1B2C3D4E5F6).getD ([], 0)).2 { valid := true, key := 0xA1B2C3D4E5F6, port := 5 }); { s with tables := { s.tables with hits := [{ table := 7, gen := 0, key := 0xA1B2C3D4E5F6, handle := ((({ live := true, kind := 2, keyBits := 48, size := 4096 } : Table).plan 0xA1B2C3D4E5F6).getD ([], 0)).2 }] } }), by decide +kernel⟩

theorem witness_TableEnginesComplete_hitWrite_stamp : ∃ (h : HitWrite) (l : List HitWrite) (x : Table) (s : State), s.tables.hits = h :: l ∧ x = s.table h.table ∧ x.live = true ∧ s.tableGen h.table = h.gen ∧ s.hitWaits h = false ∧ x.age.mode = 2 ∧ (x.entry (x.placeOf h.handle)).valid = true ∧ (x.entry (x.placeOf h.handle)).key = h.key :=
  ⟨{ table := 7, gen := 0, key := 0xA1B2C3D4E5F6, handle := ((({ live := true, kind := 2, keyBits := 48, size := 4096 } : Table).plan 0xA1B2C3D4E5F6).getD ([], 0)).2 }, [], (let t : Table := { live := true, kind := 2, keyBits := 48, size := 4096, age := { mode := 2, sweepMs := 100, limitMs := 1000 } }; t.setEntry ((t.plan 0xA1B2C3D4E5F6).getD ([], 0)).2 { valid := true, key := 0xA1B2C3D4E5F6, port := 5 }), (let s := up.setTable 7 (let t : Table := { live := true, kind := 2, keyBits := 48, size := 4096, age := { mode := 2, sweepMs := 100, limitMs := 1000 } }; t.setEntry ((t.plan 0xA1B2C3D4E5F6).getD ([], 0)).2 { valid := true, key := 0xA1B2C3D4E5F6, port := 5 }); { s with tables := { s.tables with hits := [{ table := 7, gen := 0, key := 0xA1B2C3D4E5F6, handle := ((({ live := true, kind := 2, keyBits := 48, size := 4096 } : Table).plan 0xA1B2C3D4E5F6).getD ([], 0)).2 }] } }), by decide +kernel⟩

theorem witness_TableEnginesComplete_hitWrite_moved : ∃ (h : HitWrite) (l : List HitWrite) (x : Table) (p : Nat) (s : State), s.tables.hits = h :: l ∧ x = s.table h.table ∧ x.live = true ∧ s.tableGen h.table = h.gen ∧ s.hitWaits h = false ∧ ((x.entry (x.placeOf h.handle)).valid = false ∨ (x.entry (x.placeOf h.handle)).key ≠ h.key) ∧ x.find h.key = some p :=
  ⟨{ table := 7, gen := 0, key := 0xA1B2C3D4E5F6, handle := 0 }, [], (let t : Table := { live := true, kind := 2, keyBits := 48, size := 4096, age := { mode := 1, sweepMs := 100, limitMs := 1000 } }; t.setEntry ((t.plan 0xA1B2C3D4E5F6).getD ([], 0)).2 { valid := true, key := 0xA1B2C3D4E5F6, port := 5 }), ((let t : Table := { live := true, kind := 2, keyBits := 48, size := 4096, age := { mode := 1, sweepMs := 100, limitMs := 1000 } }; t.setEntry ((t.plan 0xA1B2C3D4E5F6).getD ([], 0)).2 { valid := true, key := 0xA1B2C3D4E5F6, port := 5 }).find 0xA1B2C3D4E5F6).getD 0, (let s := up.setTable 7 (let t : Table := { live := true, kind := 2, keyBits := 48, size := 4096, age := { mode := 1, sweepMs := 100, limitMs := 1000 } }; t.setEntry ((t.plan 0xA1B2C3D4E5F6).getD ([], 0)).2 { valid := true, key := 0xA1B2C3D4E5F6, port := 5 }); { s with tables := { s.tables with hits := [{ table := 7, gen := 0, key := 0xA1B2C3D4E5F6, handle := 0 }] } }), by decide +kernel⟩

theorem witness_TableEnginesComplete_hitWrite_discarded : ∃ (h : HitWrite) (l : List HitWrite) (x : Table) (s : State), s.tables.hits = h :: l ∧ s.hitWaits h = false ∧ x = s.table h.table ∧ (x.live = false ∨ s.tableGen h.table ≠ h.gen ∨ x.hitPlace h = none) :=
  ⟨{ table := 7, gen := 0, key := 0xA1B2C3D4E5F6, handle := 0 }, [], { live := true, kind := 2, keyBits := 48, size := 4096 }, (let s := up.setTable 7 { live := true, kind := 2, keyBits := 48, size := 4096 }; { s with tables := { s.tables with hits := [{ table := 7, gen := 0, key := 0xA1B2C3D4E5F6, handle := 0 }] } }), by decide +kernel⟩

theorem witness_TableEnginesComplete_ageSweepVisit : ∃ (table : Nat) (bucket : Nat) (x : Table) (p : Nat) (s : State), x = s.table table ∧ x.live = true ∧ x.kind = 2 ∧ s.lockedBucket table bucket = false ∧ x.age.mode = 1 ∧ bucket = x.swept ∧ bucket < x.buckets + 16 ∧ x.period + bucket * (6000000 * x.age.sweepMs) / (x.buckets + 16) ≤ s.now ∧ p / 4 = bucket ∧ (x.entry p).valid = true ∧ (x.entry p).isStatic = false ∧
      (∀ q, q / 4 = bucket → q ≠ p → (x.entry q).valid = false) ∧ (x.entry p).hit = true :=
  ⟨7, 3, { live := true, kind := 2, keyBits := 48, size := 4096, swept := 3, age := { mode := 1, sweepMs := 100, limitMs := 1000 }, entries := [(13, { valid := true, key := 9, hit := true, once := true })] }, 13, { up.setTable 7 { live := true, kind := 2, keyBits := 48, size := 4096, swept := 3, age := { mode := 1, sweepMs := 100, limitMs := 1000 }, entries := [(13, { valid := true, key := 9, hit := true, once := true })] } with now := 600000000 }, by decide, by decide, by decide, by decide, by decide, by decide, by decide, by decide, by decide, by decide, by decide, (fun q h1 h2 => by (have h3 : q = 12 ∨ q = 14 ∨ q = 15 := by omega); rcases h3 with h | h | h <;> (subst h; decide)), by decide⟩

theorem witness_TableEnginesComplete_ageSweepVisit_once : ∃ (table : Nat) (bucket : Nat) (x : Table) (p : Nat) (s : State), x = s.table table ∧ x.live = true ∧ x.kind = 2 ∧ s.lockedBucket table bucket = false ∧ x.age.mode = 1 ∧ bucket = x.swept ∧ bucket < x.buckets + 16 ∧ x.period + bucket * (6000000 * x.age.sweepMs) / (x.buckets + 16) ≤ s.now ∧ p / 4 = bucket ∧ (x.entry p).valid = true ∧ (x.entry p).isStatic = false ∧
      (∀ q, q / 4 = bucket → q ≠ p → (x.entry q).valid = false) ∧ (x.entry p).hit = false ∧ (x.entry p).once = false :=
  ⟨7, 3, { live := true, kind := 2, keyBits := 48, size := 4096, swept := 3, age := { mode := 1, sweepMs := 100, limitMs := 1000 }, entries := [(13, { valid := true, key := 9, port := 1 })] }, 13, { up.setTable 7 { live := true, kind := 2, keyBits := 48, size := 4096, swept := 3, age := { mode := 1, sweepMs := 100, limitMs := 1000 }, entries := [(13, { valid := true, key := 9, port := 1 })] } with now := 600000000 }, by decide, by decide, by decide, by decide, by decide, by decide, by decide, by decide, by decide, by decide, by decide, (fun q h1 h2 => by (have h3 : q = 12 ∨ q = 14 ∨ q = 15 := by omega); rcases h3 with h | h | h <;> (subst h; decide)), by decide⟩

theorem witness_TableEnginesComplete_ageSweepVisit_delete : ∃ (table : Nat) (bucket : Nat) (x : Table) (p : Nat) (s : State), x = s.table table ∧ x.live = true ∧ x.kind = 2 ∧ s.lockedBucket table bucket = false ∧ x.age.mode = 1 ∧ bucket = x.swept ∧ bucket < x.buckets + 16 ∧ x.period + bucket * (6000000 * x.age.sweepMs) / (x.buckets + 16) ≤ s.now ∧ p / 4 = bucket ∧ (x.entry p).valid = true ∧ (x.entry p).isStatic = false ∧
      (∀ q, q / 4 = bucket → q ≠ p → (x.entry q).valid = false) ∧ (x.entry p).hit = false ∧ (x.entry p).once = true :=
  ⟨7, 3, { live := true, kind := 2, keyBits := 48, size := 4096, swept := 3, age := { mode := 1, sweepMs := 100, limitMs := 1000 }, entries := [(13, { valid := true, key := 9, once := true })] }, 13, { up.setTable 7 { live := true, kind := 2, keyBits := 48, size := 4096, swept := 3, age := { mode := 1, sweepMs := 100, limitMs := 1000 }, entries := [(13, { valid := true, key := 9, once := true })] } with now := 600000000 }, by decide, by decide, by decide, by decide, by decide, by decide, by decide, by decide, by decide, by decide, by decide, (fun q h1 h2 => by (have h3 : q = 12 ∨ q = 14 ∨ q = 15 := by omega); rcases h3 with h | h | h <;> (subst h; decide)), by decide⟩

theorem witness_TableEnginesComplete_ageSweepVisit_stampDelete : ∃ (table : Nat) (bucket : Nat) (x : Table) (p : Nat) (s : State), x = s.table table ∧ x.live = true ∧ x.kind = 2 ∧ s.lockedBucket table bucket = false ∧ x.age.mode = 2 ∧ bucket = x.swept ∧ bucket < x.buckets + 16 ∧ x.period + bucket * (6000000 * x.age.sweepMs) / (x.buckets + 16) ≤ s.now ∧ p / 4 = bucket ∧ (x.entry p).valid = true ∧ (x.entry p).isStatic = false ∧
      (∀ q, q / 4 = bucket → q ≠ p → (x.entry q).valid = false) ∧ x.age.limitMs ≤ (s.nowMs + 2 ^ 32 - (x.entry p).stamp) % 2 ^ 32 :=
  ⟨7, 3, { live := true, kind := 2, keyBits := 48, size := 4096, swept := 3, age := { mode := 2, sweepMs := 100, limitMs := 1000 }, entries := [(13, { valid := true, key := 9, stamp := 2 ^ 32 - 1000 })] }, 13, { up.setTable 7 { live := true, kind := 2, keyBits := 48, size := 4096, swept := 3, age := { mode := 2, sweepMs := 100, limitMs := 1000 }, entries := [(13, { valid := true, key := 9, stamp := 2 ^ 32 - 1000 })] } with now := 600000000 }, by decide, by decide, by decide, by decide, by decide, by decide, by decide, by decide, by decide, by decide, by decide, (fun q h1 h2 => by (have h3 : q = 12 ∨ q = 14 ∨ q = 15 := by omega); rcases h3 with h | h | h <;> (subst h; decide)), by decide⟩

theorem witness_TableEnginesComplete_ageSweepVisit_stampKeep : ∃ (table : Nat) (bucket : Nat) (x : Table) (p : Nat) (s : State), x = s.table table ∧ x.live = true ∧ x.kind = 2 ∧ s.lockedBucket table bucket = false ∧ x.age.mode = 2 ∧ bucket = x.swept ∧ bucket < x.buckets + 16 ∧ x.period + bucket * (6000000 * x.age.sweepMs) / (x.buckets + 16) ≤ s.now ∧ p / 4 = bucket ∧ (x.entry p).valid = true ∧ (x.entry p).isStatic = false ∧
      (∀ q, q / 4 = bucket → q ≠ p → (x.entry q).valid = false) ∧ (s.nowMs + 2 ^ 32 - (x.entry p).stamp) % 2 ^ 32 < x.age.limitMs :=
  ⟨7, 3, { live := true, kind := 2, keyBits := 48, size := 4096, swept := 3, age := { mode := 2, sweepMs := 100, limitMs := 1000 }, entries := [(13, { valid := true, key := 9, stamp := 0 })] }, 13, { up.setTable 7 { live := true, kind := 2, keyBits := 48, size := 4096, swept := 3, age := { mode := 2, sweepMs := 100, limitMs := 1000 }, entries := [(13, { valid := true, key := 9, stamp := 0 })] } with now := 600000000 }, by decide, by decide, by decide, by decide, by decide, by decide, by decide, by decide, by decide, by decide, by decide, (fun q h1 h2 => by (have h3 : q = 12 ∨ q = 14 ∨ q = 15 := by omega); rcases h3 with h | h | h <;> (subst h; decide)), by decide⟩

theorem witness_TableEnginesComplete_conditionalDelete : ∃ (d : CondDel) (l : List CondDel) (x : Table) (p : Nat) (s : State), s.tables.deletes = d :: l ∧ x = s.table d.table ∧ x.live = true ∧ s.tableGen d.table = d.gen ∧ s.removeWaits d.table p = false ∧ x.find d.key = some p ∧ (x.entry p).isStatic = false ∧ (s.pending.foldl State.writeAhead s).deletePlace d ≠ none ∧ ((d.stampMode = false ∧ (x.entry p).hit = false) ∨ (d.stampMode = true ∧ (x.entry p).stamp = d.stamp)) :=
  ⟨{ table := 7, gen := 0, place := ((({ live := true, kind := 2, keyBits := 48, size := 4096 } : Table).plan 0xA1B2C3D4E5F6).getD ([], 0)).2, key := 0xA1B2C3D4E5F6, stampMode := false, stamp := 0 }, [], (let t : Table := { live := true, kind := 2, keyBits := 48, size := 4096, age := { mode := 1, sweepMs := 100, limitMs := 1000 } }; t.setEntry ((t.plan 0xA1B2C3D4E5F6).getD ([], 0)).2 { valid := true, key := 0xA1B2C3D4E5F6, port := 5 }), ((let t : Table := { live := true, kind := 2, keyBits := 48, size := 4096, age := { mode := 1, sweepMs := 100, limitMs := 1000 } }; t.setEntry ((t.plan 0xA1B2C3D4E5F6).getD ([], 0)).2 { valid := true, key := 0xA1B2C3D4E5F6, port := 5 }).find 0xA1B2C3D4E5F6).getD 0, (let s := up.setTable 7 (let t : Table := { live := true, kind := 2, keyBits := 48, size := 4096, age := { mode := 1, sweepMs := 100, limitMs := 1000 } }; t.setEntry ((t.plan 0xA1B2C3D4E5F6).getD ([], 0)).2 { valid := true, key := 0xA1B2C3D4E5F6, port := 5 }); { s with tables := { s.tables with deletes := [{ table := 7, gen := 0, place := ((({ live := true, kind := 2, keyBits := 48, size := 4096 } : Table).plan 0xA1B2C3D4E5F6).getD ([], 0)).2, key := 0xA1B2C3D4E5F6, stampMode := false, stamp := 0 }] } }), by decide +kernel⟩

theorem witness_TableEnginesComplete_conditionalDelete_overtaken : ∃ (d : CondDel) (l : List CondDel) (s : State), s.tables.deletes = d :: l ∧ (s.deletePlace d = none ∨ ∃ p, s.deletePlace d = some p ∧ s.removeWaits d.table p = false ∧ (s.pending.foldl State.writeAhead s).deletePlace d = none) :=
  ⟨{ table := 7, gen := 0, place := ((({ live := true, kind := 2, keyBits := 48, size := 4096 } : Table).plan 0xA1B2C3D4E5F6).getD ([], 0)).2, key := 0xA1B2C3D4E5F6, stampMode := false, stamp := 0 }, [], (let s := up.setTable 7 { live := true, kind := 2, keyBits := 48, size := 4096 }; { s with tables := { s.tables with deletes := [{ table := 7, gen := 0, place := ((({ live := true, kind := 2, keyBits := 48, size := 4096 } : Table).plan 0xA1B2C3D4E5F6).getD ([], 0)).2, key := 0xA1B2C3D4E5F6, stampMode := false, stamp := 0 }] } }), by decide +kernel, Or.inl (by decide +kernel)⟩

theorem witness_TableEnginesComplete_conditionalDelete_aborts : ∃ (d : CondDel) (l : List CondDel) (x : Table) (p : Nat) (s : State), s.tables.deletes = d :: l ∧ x = s.table d.table ∧ x.live = true ∧ s.tableGen d.table = d.gen ∧ s.removeWaits d.table p = false ∧ x.find d.key = some p ∧ (x.entry p).isStatic = false ∧ ((d.stampMode = false ∧ (x.entry p).hit = true) ∨ (d.stampMode = true ∧ (x.entry p).stamp ≠ d.stamp)) :=
  ⟨{ table := 7, gen := 0, place := ((({ live := true, kind := 2, keyBits := 48, size := 4096 } : Table).plan 0xA1B2C3D4E5F6).getD ([], 0)).2, key := 0xA1B2C3D4E5F6, stampMode := false, stamp := 0 }, [], (let t : Table := { live := true, kind := 2, keyBits := 48, size := 4096, age := { mode := 1, sweepMs := 100, limitMs := 1000 } }; t.setEntry ((t.plan 0xA1B2C3D4E5F6).getD ([], 0)).2 { valid := true, key := 0xA1B2C3D4E5F6, port := 5, hit := true }), ((let t : Table := { live := true, kind := 2, keyBits := 48, size := 4096, age := { mode := 1, sweepMs := 100, limitMs := 1000 } }; t.setEntry ((t.plan 0xA1B2C3D4E5F6).getD ([], 0)).2 { valid := true, key := 0xA1B2C3D4E5F6, port := 5, hit := true }).find 0xA1B2C3D4E5F6).getD 0, (let s := up.setTable 7 (let t : Table := { live := true, kind := 2, keyBits := 48, size := 4096, age := { mode := 1, sweepMs := 100, limitMs := 1000 } }; t.setEntry ((t.plan 0xA1B2C3D4E5F6).getD ([], 0)).2 { valid := true, key := 0xA1B2C3D4E5F6, port := 5, hit := true }); { s with tables := { s.tables with deletes := [{ table := 7, gen := 0, place := ((({ live := true, kind := 2, keyBits := 48, size := 4096 } : Table).plan 0xA1B2C3D4E5F6).getD ([], 0)).2, key := 0xA1B2C3D4E5F6, stampMode := false, stamp := 0 }] } }), by decide +kernel⟩

theorem witness_TableEnginesComplete_learn : ∃ (r : LearnReq) (l : List LearnReq) (x : Table) (p : Nat) (s : State), s.tables.learns = r :: l ∧ x = s.table r.table ∧ x.live = true ∧ 2 ≤ x.kind ∧ x.learn = true ∧ s.tableOwner r.table = r.domain ∧ r.key < 2 ^ x.keyBits ∧ s.keyWaits r.table r.key = false ∧ x.find r.key = none ∧ (s.learnPort r.port).charge < (s.learnPort r.port).limit ∧ x.plan r.key = some ([], p) ∧ x.bankLost = false ∧ s.bucketUp x (p / 4) = true :=
  ⟨{ domain := 0, table := 7, key := 0xA1B2C3D4E5F6, result := 99, port := 6 }, [], { live := true, kind := 2, keyBits := 48, size := 4096, learn := true }, ((({ live := true, kind := 2, keyBits := 48, size := 4096 } : Table).plan 0xA1B2C3D4E5F6).getD ([], 0)).2, (let s := up.setTable 7 { live := true, kind := 2, keyBits := 48, size := 4096, learn := true }; { s with tables := { s.tables with learns := [{ domain := 0, table := 7, key := 0xA1B2C3D4E5F6, result := 99, port := 6 }], ports := [(6, { limit := 1 })] } }), by decide +kernel⟩

theorem witness_TableEnginesComplete_learn_planned : ∃ (r : LearnReq) (l : List LearnReq) (x : Table) (pl : List (Nat × Nat) × Nat) (s : State), s.tables.learns = r :: l ∧ x = s.table r.table ∧ x.live = true ∧ 2 ≤ x.kind ∧ x.learn = true ∧ s.tableOwner r.table = r.domain ∧ r.key < 2 ^ x.keyBits ∧ s.keyWaits r.table r.key = false ∧ x.find r.key = none ∧ (s.learnPort r.port).charge < (s.learnPort r.port).limit ∧ x.plan r.key = some pl ∧ x.bankLost = false ∧ (planBuckets pl).all (s.bucketUp x) = true :=
  ⟨{ domain := 0, table := 7, key := 0xA1B2C3D4E5F6, result := 99, port := 6 }, [], { live := true, kind := 2, keyBits := 48, size := 4096, learn := true }, (({ live := true, kind := 2, keyBits := 48, size := 4096, learn := true } : Table).plan 0xA1B2C3D4E5F6).getD ([], 0), (let s := up.setTable 7 { live := true, kind := 2, keyBits := 48, size := 4096, learn := true }; { s with tables := { s.tables with learns := [{ domain := 0, table := 7, key := 0xA1B2C3D4E5F6, result := 99, port := 6 }], ports := [(6, { limit := 1 })] } }), by decide +kernel⟩

theorem witness_TableEnginesComplete_learn_refresh : ∃ (r : LearnReq) (l : List LearnReq) (x : Table) (p : Nat) (s : State), s.tables.learns = r :: l ∧ x = s.table r.table ∧ x.live = true ∧ 2 ≤ x.kind ∧ x.learn = true ∧ s.tableOwner r.table = r.domain ∧ r.key < 2 ^ x.keyBits ∧ s.keyWaits r.table r.key = false ∧ x.find r.key = some p ∧ (x.entry p).isStatic = false ∧ s.bucketUp x (p / 4) = true ∧ ((x.entry p).port = r.port ∨ (s.learnPort r.port).charge < (s.learnPort r.port).limit) :=
  ⟨{ domain := 0, table := 7, key := 0xA1B2C3D4E5F6, result := 99, port := 6 }, [], (let t : Table := { live := true, kind := 2, keyBits := 48, size := 4096, age := { mode := 1, sweepMs := 100, limitMs := 1000 }, learn := true }; t.setEntry ((t.plan 0xA1B2C3D4E5F6).getD ([], 0)).2 { valid := true, key := 0xA1B2C3D4E5F6, port := 5 }), ((let t : Table := { live := true, kind := 2, keyBits := 48, size := 4096, age := { mode := 1, sweepMs := 100, limitMs := 1000 }, learn := true }; t.setEntry ((t.plan 0xA1B2C3D4E5F6).getD ([], 0)).2 { valid := true, key := 0xA1B2C3D4E5F6, port := 5 }).find 0xA1B2C3D4E5F6).getD 0, (let s := up.setTable 7 (let t : Table := { live := true, kind := 2, keyBits := 48, size := 4096, age := { mode := 1, sweepMs := 100, limitMs := 1000 }, learn := true }; t.setEntry ((t.plan 0xA1B2C3D4E5F6).getD ([], 0)).2 { valid := true, key := 0xA1B2C3D4E5F6, port := 5 }); { s with tables := { s.tables with learns := [{ domain := 0, table := 7, key := 0xA1B2C3D4E5F6, result := 99, port := 6 }], ports := [(6, { limit := 1 })] } }), by decide +kernel⟩

theorem witness_TableEnginesComplete_learn_excess : ∃ (r : LearnReq) (l : List LearnReq) (x : Table) (s : State), s.tables.learns = r :: l ∧ x = s.table r.table ∧ x.live = true ∧ 2 ≤ x.kind ∧ x.learn = true ∧ s.tableOwner r.table = r.domain ∧ r.key < 2 ^ x.keyBits ∧ s.keyWaits r.table r.key = false ∧ x.find r.key = none ∧ (s.learnPort r.port).limit ≤ (s.learnPort r.port).charge :=
  ⟨{ domain := 0, table := 7, key := 0xA1B2C3D4E5F6, result := 99, port := 6 }, [], { live := true, kind := 2, keyBits := 48, size := 4096, learn := true }, (let s := up.setTable 7 { live := true, kind := 2, keyBits := 48, size := 4096, learn := true }; { s with tables := { s.tables with learns := [{ domain := 0, table := 7, key := 0xA1B2C3D4E5F6, result := 99, port := 6 }], ports := [(6, { limit := 0 })] } }), by decide +kernel⟩

theorem witness_TableEnginesComplete_learn_static : ∃ (r : LearnReq) (l : List LearnReq) (x : Table) (p : Nat) (s : State), s.tables.learns = r :: l ∧ x = s.table r.table ∧ x.live = true ∧ 2 ≤ x.kind ∧ x.learn = true ∧ s.tableOwner r.table = r.domain ∧ r.key < 2 ^ x.keyBits ∧ s.keyWaits r.table r.key = false ∧ x.find r.key = some p ∧ (x.entry p).isStatic = true :=
  ⟨{ domain := 0, table := 7, key := 0xA1B2C3D4E5F6, result := 99, port := 6 }, [], (let t : Table := { live := true, kind := 2, keyBits := 48, size := 4096, age := { mode := 1, sweepMs := 100, limitMs := 1000 }, learn := true }; t.setEntry ((t.plan 0xA1B2C3D4E5F6).getD ([], 0)).2 { valid := true, key := 0xA1B2C3D4E5F6, port := 5, isStatic := true }), ((let t : Table := { live := true, kind := 2, keyBits := 48, size := 4096, age := { mode := 1, sweepMs := 100, limitMs := 1000 }, learn := true }; t.setEntry ((t.plan 0xA1B2C3D4E5F6).getD ([], 0)).2 { valid := true, key := 0xA1B2C3D4E5F6, port := 5, isStatic := true }).find 0xA1B2C3D4E5F6).getD 0, (let s := up.setTable 7 (let t : Table := { live := true, kind := 2, keyBits := 48, size := 4096, age := { mode := 1, sweepMs := 100, limitMs := 1000 }, learn := true }; t.setEntry ((t.plan 0xA1B2C3D4E5F6).getD ([], 0)).2 { valid := true, key := 0xA1B2C3D4E5F6, port := 5, isStatic := true }); { s with tables := { s.tables with learns := [{ domain := 0, table := 7, key := 0xA1B2C3D4E5F6, result := 99, port := 6 }], ports := [(6, { limit := 1 })] } }), by decide +kernel⟩

theorem witness_TableEnginesComplete_mirrorRepair : ∃ (table : Nat) (bucket : Nat) (slot : Nat) (x : Table) (s : State), x = s.table table ∧ x.live = true ∧ x.badPlaces.contains (4 * bucket + slot) = true ∧ x.dying.contains (4 * bucket + slot) = false ∧ s.lockedBucket table bucket = false :=
  ⟨7, 5, 2, { live := true, kind := 2, size := 4096, badPlaces := [22] }, up.setTable 7 { live := true, kind := 2, size := 4096, badPlaces := [22] }, by decide⟩

theorem witness_TableEnginesComplete_lpmRebuild : ∃ (table : Nat) (i : Nat) (l : List Nat) (x : Table) (s : State), x = s.table table ∧ x.live = true ∧ x.badLeaves = i :: l :=
  ⟨7, 5, [6], { live := true, badLeaves := [5, 6] }, up.setTable 7 { live := true, badLeaves := [5, 6] }, by decide⟩

/-! ### AssocCommandsComplete -/

theorem witness_AssocCommandsComplete_assocCreate : ∃ (c : Cmd) (a : AArray) (s : State), ready s c 0x0600 .any = true ∧ firstErr (assocCreateErrs c s) = none ∧ a = { live := true, first := c.u8 17, count := c.u8 18, width := c.u8 19, prefilter := c.u8 20 = 1, pf := (List.range 8).map fun i => c.u16 (24 + 2 * i) } :=
  ⟨cm 0x600 [(16, 1, 2), (17, 1, 8), (18, 1, 8), (19, 1, 2), (20, 1, 1), (24, 2, 0), (26, 2, 159)], { live := true, first := 8, count := 8, width := 2, prefilter := true, pf := [0, 159, 0, 0, 0, 0, 0, 0] }, begun up (cm 0x600 [(16, 1, 2), (17, 1, 8), (18, 1, 8), (19, 1, 2), (20, 1, 1), (24, 2, 0), (26, 2, 159)]), by decide⟩

theorem witness_AssocCommandsComplete_assocDelete : ∃ (c : Cmd) (a : AArray) (s : State), ready s c 0x0601 .any = true ∧ s.arrayErr c 16 = none ∧ c.zeros 17 47 = none ∧ (s.array (c.u8 16)).work = none ∧ a = s.array (c.u8 16) ∧ s.blocksErr a.blocks = none :=
  ⟨cm 0x601 [(16, 1, 2)], { live := true, first := 8, count := 8, width := 2 }, (begun up (cm 0x601 [(16, 1, 2)])).setArray 2 { live := true, first := 8, count := 8, width := 2 }, by decide⟩

theorem witness_AssocCommandsComplete_assocWrite : ∃ (c : Cmd) (b : BufRead) (a : AArray) (s : State), ready s c 0x0602 .any = true ∧ c.bufferErr = none ∧ c.u32 24 = c.u32 32 * 176 ∧ s.arrayErr c 28 = none ∧ c.zeros 29 3 = none ∧ c.zeros 36 28 = none ∧ a = s.array (c.u8 28) ∧ s.blocksErr a.blocks = none ∧ b.err = none ∧ c.u32 32 ≠ 0 ∧ a.work = none :=
  ⟨cm 0x602 [(16, 8, 0x10000), (24, 4, 176), (28, 1, 2), (32, 4, 1)], .data [], { live := true, first := 8, count := 8, width := 2 }, (begun up (cm 0x602 [(16, 8, 0x10000), (24, 4, 176), (28, 1, 2), (32, 4, 1)])).setArray 2 { live := true, first := 8, count := 8, width := 2 }, by decide⟩

theorem witness_AssocCommandsComplete_assocWrite_queued : ∃ (c : Cmd) (b : BufRead) (a : AArray) (w : AWork) (s : State), ready s c 0x0602 .any = true ∧ c.bufferErr = none ∧ c.u32 24 = c.u32 32 * 176 ∧ s.arrayErr c 28 = none ∧ c.zeros 29 3 = none ∧ c.zeros 36 28 = none ∧ a = s.array (c.u8 28) ∧ s.blocksErr a.blocks = none ∧ b.err = none ∧ c.u32 32 ≠ 0 ∧ a.work = some w :=
  ⟨cm 0x602 [(16, 8, 0x10000), (24, 4, 176), (28, 1, 2), (32, 4, 1)], .data [], { live := true, first := 8, count := 8, width := 2, work := some { cmd := cm 0x602 [], data := [], count := 1 } }, { cmd := cm 0x602 [], data := [], count := 1 }, (begun up (cm 0x602 [(16, 8, 0x10000), (24, 4, 176), (28, 1, 2), (32, 4, 1)])).setArray 2 { live := true, first := 8, count := 8, width := 2, work := some { cmd := cm 0x602 [], data := [], count := 1 } }, by decide⟩

theorem witness_AssocCommandsComplete_assocWrite_none : ∃ (c : Cmd) (b : BufRead) (a : AArray) (s : State), ready s c 0x0602 .any = true ∧ c.bufferErr = none ∧ c.u32 24 = c.u32 32 * 176 ∧ s.arrayErr c 28 = none ∧ c.zeros 29 3 = none ∧ c.zeros 36 28 = none ∧ a = s.array (c.u8 28) ∧ s.blocksErr a.blocks = none ∧ b.err = none ∧ c.u32 32 = 0 :=
  ⟨cm 0x602 [(16, 8, 0x10000), (24, 4, 0), (28, 1, 2), (32, 4, 0)], .data [], { live := true, first := 8, count := 8, width := 2 }, (begun up (cm 0x602 [(16, 8, 0x10000), (24, 4, 0), (28, 1, 2), (32, 4, 0)])).setArray 2 { live := true, first := 8, count := 8, width := 2 }, by decide⟩

theorem witness_AssocCommandsComplete_assocRead : ∃ (c : Cmd) (a : AArray) (s : State), ready s c 0x0603 .any = true ∧ c.needReply = none ∧ s.arrayErr c 16 = none ∧ a = s.array (c.u8 16) ∧ c.u8 17 < a.segments ∧ c.u16 18 < 8192 ∧ c.zeros 20 44 = none ∧ s.blocksErr a.blocks = none :=
  ⟨cm 0x603 [(16, 1, 2), (17, 1, 3), (18, 2, 8191)], { live := true, first := 8, count := 8, width := 2 }, (begun up (cm 0x603 [(16, 1, 2), (17, 1, 3), (18, 2, 8191)])).setArray 2 { live := true, first := 8, count := 8, width := 2 }, by decide⟩

theorem witness_AssocCommandsComplete_assocGroup : ∃ (c : Cmd) (a : AArray) (s : State), ready s c 0x0604 .any = true ∧ s.arrayErr c 16 = none ∧ a = s.array (c.u8 16) ∧ c.u8 17 < a.segments ∧ c.u16 18 < 256 ∧ c.zeros 22 42 = none ∧ s.blocksErr a.blocks = none ∧ (∀ i, i < 32 → s.segmentOn (a.segment (c.u8 17)) (32 * c.u16 18 + i) = false) :=
  ⟨cm 0x604 [(16, 1, 2), (17, 1, 3), (18, 2, 255), (20, 1, 6), (21, 1, 255)], { live := true, first := 8, count := 8, width := 2 }, (begun up (cm 0x604 [(16, 1, 2), (17, 1, 3), (18, 2, 255), (20, 1, 6), (21, 1, 255)])).setArray 2 { live := true, first := 8, count := 8, width := 2 }, by decide⟩

theorem witness_AssocCommandsComplete_assocGroup_refused : ∃ (c : Cmd) (a : AArray) (i : Nat) (s : State), ready s c 0x0604 .any = true ∧ s.arrayErr c 16 = none ∧ a = s.array (c.u8 16) ∧ c.u8 17 < a.segments ∧ c.u16 18 < 256 ∧ c.zeros 22 42 = none ∧ s.blocksErr a.blocks = none ∧ i < 32 ∧ s.segmentOn (a.segment (c.u8 17)) (32 * c.u16 18 + i) = true :=
  ⟨cm 0x604 [(16, 1, 2), (17, 1, 3), (18, 2, 255), (20, 1, 6), (21, 1, 255)], { live := true, first := 8, count := 8, width := 2 }, 5, (((begun up (cm 0x604 [(16, 1, 2), (17, 1, 3), (18, 2, 255), (20, 1, 6), (21, 1, 255)])).setArray 2 { live := true, first := 8, count := 8, width := 2 }).setArow 14 (32 * 255 + 5) { valid := true }).setArow 15 (32 * 255 + 5) { valid := true }, by decide⟩

theorem witness_AssocCommandsComplete_assocSearch : ∃ (c : Cmd) (b : BufRead) (a : AArray) (s : State), ready s c 0x0605 .any = true ∧ c.needReply = none ∧ c.bufferErr = none ∧ c.u32 24 = 80 ∧ s.arrayErr c 28 = none ∧ c.zeros 29 35 = none ∧ a = s.array (c.u8 28) ∧ s.blocksErr a.blocks = none ∧ b.err = none :=
  ⟨cm 0x605 [(16, 8, 0x10000), (24, 4, 80), (28, 1, 2)], .data [], { live := true, first := 8, count := 8, width := 2 }, (begun up (cm 0x605 [(16, 8, 0x10000), (24, 4, 80), (28, 1, 2)])).setArray 2 { live := true, first := 8, count := 8, width := 2 }, by decide⟩

/-! ### AssocEnginesComplete -/

theorem witness_AssocEnginesComplete_assocUpdateStep : ∃ (array : Nat) (a : AArray) (w : AWork) (r : ARecord) (s : State), a = s.array array ∧ a.live = true ∧ a.work = some w ∧ s.assoc.searches = [] ∧ a.nextSlot ≤ s.cclk ∧ r = arecordOf w.data (176 * w.index) ∧ r.invalidate = false ∧ w.step = 0 ∧ a.recordOk w.data (176 * w.index) = true ∧ s.segmentOn (a.segment r.position) r.row = true :=
  ⟨2, { live := true, first := 8, count := 8, width := 2, work := some { cmd := cm 0x602 [], data := ([7, 0, 1, 0] ++ List.replicate 4 0 ++ [9] ++ List.replicate 7 0 ++ [0x55] ++ List.replicate 79 0 ++ [0xFF] : Bytes), count := 1, step := 0 } }, { cmd := cm 0x602 [], data := ([7, 0, 1, 0] ++ List.replicate 4 0 ++ [9] ++ List.replicate 7 0 ++ [0x55] ++ List.replicate 79 0 ++ [0xFF] : Bytes), count := 1, step := 0 }, (arecordOf ([7, 0, 1, 0] ++ List.replicate 4 0 ++ [9] ++ List.replicate 7 0 ++ [0x55] ++ List.replicate 79 0 ++ [0xFF] : Bytes) 0), ((up.setArray 2 { live := true, first := 8, count := 8, width := 2, work := some { cmd := cm 0x602 [], data := ([7, 0, 1, 0] ++ List.replicate 4 0 ++ [9] ++ List.replicate 7 0 ++ [0x55] ++ List.replicate 79 0 ++ [0xFF] : Bytes), count := 1, step := 0 } }).setArow 10 7 { valid := true, value := 3 }).setArow 11 7 { valid := true, value := 3 }, by decide +kernel⟩

theorem witness_AssocEnginesComplete_assocUpdateStep_write : ∃ (array : Nat) (a : AArray) (w : AWork) (r : ARecord) (s : State), a = s.array array ∧ a.live = true ∧ a.work = some w ∧ s.assoc.searches = [] ∧ a.nextSlot ≤ s.cclk ∧ r = arecordOf w.data (176 * w.index) ∧ r.invalidate = false ∧ w.step = 0 ∧ a.recordOk w.data (176 * w.index) = true ∧ s.segmentOn (a.segment r.position) r.row = false :=
  ⟨2, { live := true, first := 8, count := 8, width := 2, work := some { cmd := cm 0x602 [], data := ([7, 0, 1, 0] ++ List.replicate 4 0 ++ [9] ++ List.replicate 7 0 ++ [0x55] ++ List.replicate 79 0 ++ [0xFF] : Bytes), count := 1, step := 0 } }, { cmd := cm 0x602 [], data := ([7, 0, 1, 0] ++ List.replicate 4 0 ++ [9] ++ List.replicate 7 0 ++ [0x55] ++ List.replicate 79 0 ++ [0xFF] : Bytes), count := 1, step := 0 }, (arecordOf ([7, 0, 1, 0] ++ List.replicate 4 0 ++ [9] ++ List.replicate 7 0 ++ [0x55] ++ List.replicate 79 0 ++ [0xFF] : Bytes) 0), (up.setArray 2 { live := true, first := 8, count := 8, width := 2, work := some { cmd := cm 0x602 [], data := ([7, 0, 1, 0] ++ List.replicate 4 0 ++ [9] ++ List.replicate 7 0 ++ [0x55] ++ List.replicate 79 0 ++ [0xFF] : Bytes), count := 1, step := 0 } }), by decide +kernel⟩

theorem witness_AssocEnginesComplete_assocUpdateStep_validate : ∃ (array : Nat) (a : AArray) (w : AWork) (r : ARecord) (s : State), a = s.array array ∧ a.live = true ∧ a.work = some w ∧ s.assoc.searches = [] ∧ a.nextSlot ≤ s.cclk ∧ r = arecordOf w.data (176 * w.index) ∧ r.invalidate = false ∧ w.step = 2 ∧ a.keepsTag r = true ∧ w.index + 1 = w.count ∧ a.later = [] ∧ r.row < 8192 :=
  ⟨2, { live := true, first := 8, count := 8, width := 2, work := some { cmd := cm 0x602 [], data := ([7, 0, 1, 0] ++ List.replicate 4 0 ++ [9] ++ List.replicate 7 0 ++ [0x55] ++ List.replicate 79 0 ++ [0xFF] : Bytes), count := 1, step := 2 } }, { cmd := cm 0x602 [], data := ([7, 0, 1, 0] ++ List.replicate 4 0 ++ [9] ++ List.replicate 7 0 ++ [0x55] ++ List.replicate 79 0 ++ [0xFF] : Bytes), count := 1, step := 2 }, (arecordOf ([7, 0, 1, 0] ++ List.replicate 4 0 ++ [9] ++ List.replicate 7 0 ++ [0x55] ++ List.replicate 79 0 ++ [0xFF] : Bytes) 0), (up.setArray 2 { live := true, first := 8, count := 8, width := 2, work := some { cmd := cm 0x602 [], data := ([7, 0, 1, 0] ++ List.replicate 4 0 ++ [9] ++ List.replicate 7 0 ++ [0x55] ++ List.replicate 79 0 ++ [0xFF] : Bytes), count := 1, step := 2 } }), by decide +kernel⟩

theorem witness_AssocEnginesComplete_assocUpdateStep_invalidate : ∃ (array : Nat) (a : AArray) (w : AWork) (r : ARecord) (s : State), a = s.array array ∧ a.live = true ∧ a.work = some w ∧ s.assoc.searches = [] ∧ a.nextSlot ≤ s.cclk ∧ r = arecordOf w.data (176 * w.index) ∧ r.invalidate = true ∧ w.step = 0 ∧ a.recordOk w.data (176 * w.index) = true ∧ w.index + 1 ≠ w.count :=
  ⟨2, { live := true, first := 8, count := 8, width := 2, work := some { cmd := cm 0x602 [], data := ([7, 0, 1, 1] ++ List.replicate 4 0 ++ [9] ++ List.replicate 7 0 ++ [0x55] ++ List.replicate 79 0 ++ [0xFF] : Bytes), count := 2, step := 0 } }, { cmd := cm 0x602 [], data := ([7, 0, 1, 1] ++ List.replicate 4 0 ++ [9] ++ List.replicate 7 0 ++ [0x55] ++ List.replicate 79 0 ++ [0xFF] : Bytes), count := 2, step := 0 }, (arecordOf ([7, 0, 1, 1] ++ List.replicate 4 0 ++ [9] ++ List.replicate 7 0 ++ [0x55] ++ List.replicate 79 0 ++ [0xFF] : Bytes) 0), ((up.setArray 2 { live := true, first := 8, count := 8, width := 2, work := some { cmd := cm 0x602 [], data := ([7, 0, 1, 1] ++ List.replicate 4 0 ++ [9] ++ List.replicate 7 0 ++ [0x55] ++ List.replicate 79 0 ++ [0xFF] : Bytes), count := 2, step := 0 } }).setArow 10 7 { valid := true, value := 3 }).setArow 11 7 { valid := true, value := 3 }, by decide +kernel⟩

theorem witness_AssocEnginesComplete_assocUpdateStep_idle : ∃ (array : Nat) (a : AArray) (s : State), s.array array = a ∧ a.work = none :=
  ⟨2, { live := true, first := 8, count := 8, width := 2 }, up.setArray 2 { live := true, first := 8, count := 8, width := 2 }, by decide⟩

theorem witness_AssocEnginesComplete_assocUpdateStep_waits : ∃ (array : Nat) (a : AArray) (w : AWork) (s : State), a = s.array array ∧ a.work = some w ∧ s.takeSlots array 1 = none :=
  ⟨2, { live := true, nextSlot := 1000000000, first := 8, count := 8, width := 2, work := some { cmd := cm 0x602 [], data := ([7, 0, 1, 0] ++ List.replicate 4 0 ++ [9] ++ List.replicate 7 0 ++ [0x55] ++ List.replicate 79 0 ++ [0xFF] : Bytes), count := 1, step := 0 } }, { cmd := cm 0x602 [], data := ([7, 0, 1, 0] ++ List.replicate 4 0 ++ [9] ++ List.replicate 7 0 ++ [0x55] ++ List.replicate 79 0 ++ [0xFF] : Bytes), count := 1, step := 0 }, up.setArray 2 { live := true, nextSlot := 1000000000, first := 8, count := 8, width := 2, work := some { cmd := cm 0x602 [], data := ([7, 0, 1, 0] ++ List.replicate 4 0 ++ [9] ++ List.replicate 7 0 ++ [0x55] ++ List.replicate 79 0 ++ [0xFF] : Bytes), count := 1, step := 0 } }, by decide⟩

theorem witness_AssocEnginesComplete_assocUpdateStep_badRecord : ∃ (array : Nat) (a : AArray) (w : AWork) (s : State), a = s.array array ∧ a.live = true ∧ a.work = some w ∧ s.assoc.searches = [] ∧ a.nextSlot ≤ s.cclk ∧ w.step = 0 ∧ a.recordOk w.data (176 * w.index) = false ∧ a.later = [] :=
  ⟨2, { live := true, first := 8, count := 8, width := 2, work := some { cmd := cm 0x602 [], data := ([7, 0, 9, 0] ++ List.replicate 4 0 ++ [9] ++ List.replicate 7 0 ++ [0x55] ++ List.replicate 79 0 ++ [0xFF] : Bytes), count := 1, step := 0 } }, { cmd := cm 0x602 [], data := ([7, 0, 9, 0] ++ List.replicate 4 0 ++ [9] ++ List.replicate 7 0 ++ [0x55] ++ List.replicate 79 0 ++ [0xFF] : Bytes), count := 1, step := 0 }, up.setArray 2 { live := true, first := 8, count := 8, width := 2, work := some { cmd := cm 0x602 [], data := ([7, 0, 9, 0] ++ List.replicate 4 0 ++ [9] ++ List.replicate 7 0 ++ [0x55] ++ List.replicate 79 0 ++ [0xFF] : Bytes), count := 1, step := 0 } }, by decide +kernel⟩

theorem witness_AssocEnginesComplete_assocScrub : ∃ (block : Nat) (row : Nat) (bad : Bool) (s : State), bad = true ∧ block < 32 ∧ row < 8192 ∧ s.healthy 6 block = true :=
  ⟨31, 8191, true, up, by decide⟩

theorem witness_AssocEnginesComplete_assocScrub_good : ∃ (block : Nat) (row : Nat) (bad : Bool) (s : State), bad = false :=
  ⟨31, 8191, false, up, by decide⟩

theorem witness_AssocEnginesComplete_assocRowRepair : ∃ (block : Nat) (row : Nat) (s : State), (s.arow block row).bad = true ∧ (s.ablock block).errRow = row ∧ (∀ k, s.arrayOf block = some k → s.assoc.searches = [] ∧ (s.array k).nextSlot ≤ s.cclk) :=
  ⟨31, 8191, (up.setArow 31 8191 { held := true, bad := true }).setAblock 31 { errRow := 8191, errValid := true, errors := 1 }, by decide⟩

/-! ### ScoutCompletes -/

theorem witness_ScoutCompletes_scoutDeliver : ∃ (th : ThreadId) (d k w : Nat) (s : State), (s.thread th).spec.due = some d ∧ d ≤ s.now ∧ (s.thread th).pass = some k ∧ (s.thread th).state = .run ∧ (s.thread th).waiting = .none ∧ (s.thread th).spec.heldFault = none ∧ (s.thread th).spec.enabled = true ∧
      s.segsOf (s.thread th).domain ≠ [] ∧ (s.tplOf (s.thread th)).enabled = true ∧ outerOnly (s.pkt k).hv = false ∧ s.findWay th.cluster (s.thread th).domain (s.thread th).spec.sig (s.thread th).spec.template = some w :=
  ⟨th0, 18, 9, (3 * 64 + 1) * 64 * 4 + 4, (let s := busy fun x => { x with regs := [(4, 44)], pc := 0x410, issued := 6, spec := { due := some 18, enabled := true, template := 2, sig := 0x41 } }; { s with now := 18, scout := { templates := [(2, { enabled := true, fields := [(1, 0), (0, 0), (0, 0), (0, 0)] })], cache := [((3 * 64 + 1) * 64 * 4 + 4, { valid := true, sig := 0x41, template := 2, bundle := 0x1001A2B })] } }), by decide +kernel⟩

theorem witness_ScoutCompletes_scoutDeliver_miss : ∃ (th : ThreadId) (d k : Nat) (s : State), (s.thread th).spec.due = some d ∧ d ≤ s.now ∧ (s.thread th).pass = some k ∧ (s.thread th).waiting = .none ∧ (s.thread th).spec.heldFault = none ∧
      ((s.thread th).spec.enabled = false ∨ s.segsOf (s.thread th).domain = [] ∨ (s.tplOf (s.thread th)).enabled = false ∨ outerOnly (s.pkt k).hv = true ∨ s.findWay th.cluster (s.thread th).domain (s.thread th).spec.sig (s.thread th).spec.template = none) :=
  ⟨th0, 18, 9, (let s := busy fun x => { x with regs := [(4, 44)], pc := 0x410, issued := 6, spec := { due := some 18, enabled := true, template := 2, sig := 0x41 } }; { s with now := 18, scout := { templates := [(2, { enabled := true, fields := [(1, 0), (0, 0), (0, 0), (0, 0)] })], cache := [((3 * 64 + 1) * 64 * 4 + 4, { valid := true, sig := 0x81, template := 2, bundle := 0x1001A2B })] } }), by decide +kernel⟩

theorem witness_ScoutCompletes_scoutDeliver_early : ∃ (th : ThreadId) (d : Nat) (s : State), (s.thread th).spec.due = some d ∧ s.now < d :=
  ⟨th0, 18, { (busy fun x => { x with spec := { due := some 18 } }) with now := 17 }, by decide⟩

theorem witness_ScoutCompletes_squash : ∃ (th : ThreadId) (other : Bool) (ck : Checkpoint) (s : State), (s.thread th).spec.prov = true ∧ (s.thread th).spec.compare = .unequal other none ∧ (s.thread th).spec.ckpt = some ck ∧ (s.thread th).state ≠ .stopped :=
  ⟨th0, false, { pc := 0x410, regs := [(4, 44)], mask := 0, watch := [], timer := none, issued := 6 }, busy fun x => { x with pc := 0x500, regs := [(4, 45)], spec := { prov := true, compare := .unequal false none, slots := 92, ckpt := some { pc := 0x410, regs := [(4, 44)], mask := 0, watch := [], timer := none, issued := 6 } } }, by decide +kernel⟩

theorem witness_ScoutCompletes_squash_timeout : ∃ (th : ThreadId) (other : Bool) (b : Nat) (ck : Checkpoint) (k : Nat) (s : State), (s.thread th).spec.prov = true ∧ (s.thread th).spec.compare = .unequal other (some b) ∧ (s.thread th).spec.ckpt = some ck ∧ (s.thread th).state ≠ .stopped ∧ (s.thread th).pass = some k :=
  ⟨th0, false, 2, { pc := 0x410, regs := [(4, 44)], mask := 0, watch := [], timer := none, issued := 6 }, 9, busy fun x => { x with pc := 0x500, spec := { prov := true, compare := .unequal false (some 2), ckpt := some { pc := 0x410, regs := [(4, 44)], mask := 0, watch := [], timer := none, issued := 6 } } }, by decide +kernel⟩

theorem witness_ScoutCompletes_squash_stopped : ∃ (th : ThreadId) (other : Bool) (b : Nat) (ck : Checkpoint) (s : State), (s.thread th).spec.prov = true ∧ (s.thread th).spec.compare = .unequal other (some b) ∧ (s.thread th).spec.ckpt = some ck ∧ (s.thread th).state = .stopped :=
  ⟨th0, false, 2, { pc := 0x410, regs := [(4, 44)], mask := 0, watch := [], timer := none, issued := 6 }, busy fun x => { x with state := .stopped, pc := 0x500, spec := { prov := true, compare := .unequal false (some 2), ckpt := some { pc := 0x410, regs := [(4, 44)], mask := 0, watch := [], timer := none, issued := 6 } } }, by decide +kernel⟩

theorem witness_ScoutCompletes_scoutFill : ∃ (cluster : Nat) (f : Fill) (l : List Fill) (b k : Nat) (s : State), look s.scout.fills cluster [] = f :: l ∧ s.setBase cluster f.domain f.sig = some b ∧ s.findWay cluster f.domain f.sig f.template = some k :=
  ⟨3, { domain := 0, sig := 0x41, template := 2, bundle := 77 }, [], (3 * 64 + 1) * 64 * 4 + 4, (3 * 64 + 1) * 64 * 4 + 6, { up with scout := { fills := [(3, [{ domain := 0, sig := 0x41, template := 2, bundle := 77 }])], cache := [((3 * 64 + 1) * 64 * 4 + 6, { valid := true, sig := 0x41, template := 2, bundle := 5 })] } }, by decide +kernel⟩

theorem witness_ScoutCompletes_scoutFill_new : ∃ (cluster : Nat) (f : Fill) (l : List Fill) (b : Nat) (s : State), look s.scout.fills cluster [] = f :: l ∧ s.setBase cluster f.domain f.sig = some b ∧ s.findWay cluster f.domain f.sig f.template = none :=
  ⟨3, { domain := 0, sig := 0x41, template := 2, bundle := 77 }, [], (3 * 64 + 1) * 64 * 4 + 4, { up with scout := { fills := [(3, [{ domain := 0, sig := 0x41, template := 2, bundle := 77 }])] } }, by decide +kernel⟩

theorem witness_ScoutCompletes_scoutFill_noSegment : ∃ (cluster : Nat) (f : Fill) (l : List Fill) (s : State), look s.scout.fills cluster [] = f :: l ∧ s.setBase cluster f.domain f.sig = none :=
  ⟨3, { domain := 2, sig := 0x41, template := 2, bundle := 77 }, [], { up with scout := { fills := [(3, [{ domain := 2, sig := 0x41, template := 2, bundle := 77 }])] } }, by decide +kernel⟩

theorem witness_ScoutCompletes_scoutAlarmInterval_early : ∃ (s : State), s.now / 6000000 ≤ s.scout.interval :=
  ⟨{ up with now := 5999999 }, by decide⟩

theorem witness_ScoutCompletes_scoutAlarmInterval : ∃ (s : State), s.scout.interval < s.now / 6000000 :=
  ⟨{ up with now := 6000000 }, by decide⟩

theorem witness_ScoutCompletes_scoutPartition : ∃ (c : Cmd) (s : State), ready s c 0x0780 .d0 = true ∧ c.u8 16 < 16 ∧ (s.domain (c.u8 16)).live = true ∧ c.u8 17 < 64 ∧ 1 ≤ c.u8 18 ∧ c.u8 18 ≤ 64 ∧ c.u8 17 + c.u8 18 ≤ 64 ∧ c.zeros 19 45 = none :=
  ⟨cm 0x780 [(16, 1, 2), (17, 1, 60), (18, 1, 4)], (begun up (cm 0x780 [(16, 1, 2), (17, 1, 60), (18, 1, 4)])).setDomain 2 { live := true, host := some 0 }, by decide⟩

theorem witness_ScoutCompletes_scoutConfig : ∃ (c : Cmd) (s : State), ready s c 0x0781 .any = true ∧ c.u8 16 ≤ 1 ∧ c.u8 17 ≤ 1 ∧ c.u16 18 ≤ 1000 ∧ c.zeros 20 44 = none :=
  ⟨cm 0x781 [(16, 1, 1), (17, 1, 1), (18, 2, 1000)], begun up (cm 0x781 [(16, 1, 1), (17, 1, 1), (18, 2, 1000)]), by decide⟩

theorem witness_ScoutCompletes_scoutTemplate : ∃ (c : Cmd) (s : State), ready s c 0x0782 .any = true ∧ s.busyErr c = none ∧ firstErr (scoutTemplateErrs c) = none ∧ canon {} s.scout.cache = true :=
  ⟨cm 0x782 [(16, 1, 2), (17, 1, 1), (18, 1, 1), (20, 1, 80), (21, 1, 4), (38, 2, 0x00FF), (40, 2, 0x00FF), (42, 2, 0x00FF)], begun up (cm 0x782 [(16, 1, 2), (17, 1, 1), (18, 1, 1), (20, 1, 80), (21, 1, 4), (38, 2, 0x00FF), (40, 2, 0x00FF), (42, 2, 0x00FF)]), by decide⟩

theorem witness_ScoutCompletes_scoutInvalidate : ∃ (c : Cmd) (s : State), ready s c 0x0783 .any = true ∧ s.busyErr c = none ∧ c.u8 16 ≤ 3 ∧ (c.u8 16 = 1 → c.u8 17 < 32) ∧ (c.u8 16 = 3 → s.ownErr c 1 (c.u8 17) = none) ∧ c.zeros 18 6 = none ∧ c.zeros 32 32 = none ∧ canon {} s.scout.cache = true :=
  ⟨cm 0x783 [(16, 1, 2), (24, 8, 0x41)], begun up (cm 0x783 [(16, 1, 2), (24, 8, 0x41)]), by decide⟩

theorem witness_ScoutCompletes_scoutStats : ∃ (c : Cmd) (s : State), ready s c 0x0784 .any = true ∧ c.needReply = none ∧ (c.u8 16 = 0xFF ∨ (c.u8 16 < 32 ∧ s.healthy 4 (c.u8 16) = true)) ∧ c.u8 17 ≤ 1 ∧ c.zeros 18 46 = none :=
  ⟨cm 0x784 [(16, 1, 255), (17, 1, 1)], begun up (cm 0x784 [(16, 1, 255), (17, 1, 1)]), by decide⟩

/-! ### EditsComplete -/

theorem witness_EditsComplete_editApply : ∃ (cluster : Nat) (k : Nat) (l : List Nat) (s : State), look s.act.editQ cluster [] = k :: l ∧ (s.pkt k).list = [] ∧ bit (s.pkt k).desc.meta2 31 = false :=
  ⟨3, 9, [2], { up.setPkt 9 { live := true, inPass := true, cluster := 3, bytes := List.replicate 64 1 } with act := { editQ := [(3, [9, 2])] } }, by decide⟩

theorem witness_EditsComplete_editApply_edited : ∃ (cluster : Nat) (k : Nat) (l : List Nat) (b : Bytes) (d : Desc) (s : State), look s.act.editQ cluster [] = k :: l ∧ (s.pkt k).list ≠ [] ∧ (listActions (s.pkt k).list).all (targetOk (s.pkt k).hv (s.pkt k).bytes.length) = true ∧ s.applyList (s.pkt k) = (b, d, true) ∧ b.length ≤ 10368 ∧ bit d.meta2 31 = false :=
  ⟨3, 9, [2], List.replicate 64 1, { cls := 7, length := 64 }, { up.setPkt 9 { live := true, inPass := true, cluster := 3, bytes := List.replicate 64 1, list := ([1, 1, 0, 0] ++ List.replicate 12 0 ++ [4, 3, 0, 0, 7, 0, 0, 0] : Bytes) } with act := { editQ := [(3, [9, 2])] } }, by decide +kernel⟩

theorem witness_EditsComplete_editApply_tunnel : ∃ (cluster : Nat) (k : Nat) (l : List Nat) (b : Bytes) (d : Desc) (u : Nat) (s : State), look s.act.editQ cluster [] = k :: l ∧ (s.pkt k).list ≠ [] ∧ (listActions (s.pkt k).list).all (targetOk (s.pkt k).hv (s.pkt k).bytes.length) = true ∧ s.applyList (s.pkt k) = (b, d, true) ∧ b.length ≤ 10368 ∧ bit d.meta2 31 = true ∧ u = s.tunnelPipe (d.meta2 % 2 ^ 15) ∧ (s.tunnelQueue u).length < 64 :=
  ⟨3, 9, [2], List.replicate 64 1, { meta2 := 2 ^ 31 + 9, length := 64 }, 65, { up.setPkt 9 { live := true, inPass := true, cluster := 3, bytes := List.replicate 64 1, list := ([1, 1, 0, 0] ++ List.replicate 12 0 ++ [4, 9, 0, 0, 9, 0, 0, 0x80] : Bytes) } with act := { editQ := [(3, [9, 2])] } }, by decide +kernel⟩

theorem witness_EditsComplete_editApply_drop : ∃ (cluster : Nat) (k : Nat) (l : List Nat) (s : State), look s.act.editQ cluster [] = k :: l ∧ (s.pkt k).list ≠ [] ∧ (listActions (s.pkt k).list).all (targetOk (s.pkt k).hv (s.pkt k).bytes.length) = false ∧ s.tunnelRoom (s.applyList (s.pkt k)).2.1 = true :=
  ⟨3, 9, [2], { up.setPkt 9 { live := true, inPass := true, cluster := 3, bytes := List.replicate 64 1, list := [1, 1, 0, 0] ++ List.replicate 12 0 ++ [3, 15, 60, 0, 5, 0, 0, 0] } with act := { editQ := [(3, [9, 2])] } }, by decide +kernel⟩

theorem witness_EditsComplete_editApply_refused : ∃ (cluster : Nat) (k : Nat) (l : List Nat) (s : State), look s.act.editQ cluster [] = k :: l ∧ (s.pkt k).list ≠ [] ∧ (listActions (s.pkt k).list).all (targetOk (s.pkt k).hv (s.pkt k).bytes.length) = true ∧ s.tunnelRoom (s.applyList (s.pkt k)).2.1 = true ∧ (10368 < (s.applyList (s.pkt k)).1.length ∨ (s.applyList (s.pkt k)).2.2 = false) :=
  ⟨3, 9, [2], { up.setPkt 9 { live := true, inPass := true, cluster := 3, bytes := List.replicate 64 1, list := [1, 1, 0, 0] ++ List.replicate 12 0 ++ [6, 0, 0, 0, 5, 0, 0, 0], desc := { domain := 2 } } with act := { editQ := [(3, [9, 2])] } }, by decide +kernel⟩

theorem witness_EditsComplete_editApply_toTunnel : ∃ (cluster : Nat) (k : Nat) (l : List Nat) (u : Nat) (s : State), look s.act.editQ cluster [] = k :: l ∧ (s.pkt k).list = [] ∧ bit (s.pkt k).desc.meta2 31 = true ∧ u = s.tunnelPipe ((s.pkt k).desc.meta2 % 2 ^ 15) ∧ (s.tunnelQueue u).length < 64 :=
  ⟨3, 9, [2], 65, { up.setPkt 9 { live := true, inPass := true, cluster := 3, bytes := List.replicate 64 1, desc := { meta2 := 2 ^ 31 + 9 } } with act := { editQ := [(3, [9, 2])] } }, by decide +kernel⟩

theorem witness_EditsComplete_editApply_stalls : ∃ (cluster : Nat) (k : Nat) (l : List Nat) (s : State), look s.act.editQ cluster [] = k :: l ∧ s.tunnelRoom (if (s.pkt k).list = [] then (s.pkt k).desc else (s.applyList (s.pkt k)).2.1) = false :=
  ⟨3, 9, [2], ({ up.setPkt 9 { live := true, inPass := true, cluster := 3, bytes := List.replicate 64 1, desc := { meta2 := 2 ^ 31 + 9 } } with act := { editQ := [(3, [9, 2])] } }).setTunnelQueue 65 (List.replicate 64 0), by decide +kernel⟩

theorem witness_EditsComplete_actionWrite : ∃ (c : Cmd) (b : BufRead) (p : Nat) (s : State), ready s c 0x0408 .any = true ∧ p = c.u16 28 * 2 ^ 20 + c.u32 32 ∧ s.ownErr c 3 (c.u16 28) = none ∧ c.zeros 30 2 = none ∧ c.u32 32 < 2 ^ 20 ∧ c.zeros 37 27 = none ∧ c.u8 36 = 0 ∧ c.bufferErr = none ∧ 16 ≤ c.u32 24 ∧ c.u32 24 ≤ 528 ∧ b.err = none ∧ firstErr (listErrs s c.domain (b.bytes c)) = none ∧ s.act.lost.contains p = false ∧
      s.granulesUsed - granules (look s.act.lists p []) + granules (b.bytes c) ≤ 262144 ∧ (look s.act.lists p [] ≠ [] ∨ s.act.lists.length < 131072) ∧ s.granulesOf c.domain - granules (look s.act.lists p []) + granules (b.bytes c) ≤ allowance s.act.allow c.domain :=
  ⟨cm 0x408 [(16, 8, 0x10000), (24, 4, 24), (28, 2, 9), (32, 4, 0x123)], .data ([1, 1, 0, 0] ++ List.replicate 12 0 ++ [4, 3, 0, 0, 7, 0, 0, 0] : Bytes), 0x00900123, begun up (cm 0x408 [(16, 8, 0x10000), (24, 4, 24), (28, 2, 9), (32, 4, 0x123)]), by decide +kernel⟩

theorem witness_EditsComplete_actionWrite_delete : ∃ (c : Cmd) (b : BufRead) (p : Nat) (s : State), ready s c 0x0408 .any = true ∧ p = c.u16 28 * 2 ^ 20 + c.u32 32 ∧ s.ownErr c 3 (c.u16 28) = none ∧ c.zeros 30 2 = none ∧ c.u32 32 < 2 ^ 20 ∧ c.zeros 37 27 = none ∧ c.u8 36 = 1 ∧ look s.act.lists p [] ≠ [] :=
  ⟨cm 0x408 [(16, 8, 0x10000), (24, 4, 24), (28, 2, 9), (32, 4, 0x123), (36, 1, 1)], .data [], 0x00900123, { begun up (cm 0x408 [(16, 8, 0x10000), (24, 4, 24), (28, 2, 9), (32, 4, 0x123), (36, 1, 1)]) with act := { lists := [(0x00900123, [1])] } }, by decide +kernel⟩

theorem witness_EditsComplete_actionLimit : ∃ (c : Cmd) (s : State), ready s c 0x0409 .d0 = true ∧ c.u8 16 < 16 ∧ c.zeros 17 3 = none ∧ c.zeros 24 40 = none :=
  ⟨cm 0x409 [(16, 1, 9), (20, 4, 1000)], begun up (cm 0x409 [(16, 1, 9), (20, 4, 1000)]), by decide⟩

theorem witness_EditsComplete_editStats : ∃ (c : Cmd) (s : State), ready s c 0x040A .any = true ∧ c.needReply = none ∧ c.zeros 16 1 = none ∧ c.u8 17 ≤ 1 ∧ c.zeros 18 46 = none :=
  ⟨cm 0x40A [(17, 1, 1)], begun up (cm 0x40A [(17, 1, 1)]), by decide⟩

/-! ### CellsComplete -/

theorem witness_CellsComplete_cellAllocate : ∃ (pool : Nat) (reqs : List CellReq) (r qn k acct a : Nat) (fl : Bool) (s : State), reqs = [{ requester := r, queue := qn, far := fl }] ∧ r < 46 ∧ s.servedNow pool = false ∧ s.buf.endFrees = [] ∧ s.buf.arrivals = [] ∧ s.buf.frees = [] ∧ (s.writer r).busy = true ∧ (s.writer r).decided = true ∧ (s.writer r).packet = k ∧
      acct = (s.queue (s.pkt k).desc.queue).account ∧ (s.account acct).pool = pool ∧ 256 * (s.pkt k).cells.length < (s.pkt k).desc.length ∧ s.quota acct = true ∧ (s.grant pool (s.writer r).far).map (fun y => y.1) = some a ∧ validCell a = true ∧ (s.cell a).used = false :=
  ⟨0, [{ requester := 3, queue := 5, far := false }], 3, 5, 9, 6, 77, false, ((((up.setPkt 9 { live := true, bytes := List.replicate 300 0, desc := { queue := 5, length := 300, ingress := 2 } }).setQueue 5 { account := 6 }).setAccount 6 { valid := true, min := 1, max := 4 }).setPool 0 { enabled := true, near := 8, cacheNear := [77] }).setWriter 3 { packet := 9, busy := true, decided := true }, by decide +kernel⟩

theorem witness_CellsComplete_cellAllocate_quota : ∃ (pool : Nat) (reqs : List CellReq) (r qn k acct : Nat) (fl : Bool) (s : State), reqs = [{ requester := r, queue := qn, far := fl }] ∧ r < 46 ∧ s.servedNow pool = false ∧ s.buf.endFrees = [] ∧ s.buf.arrivals = [] ∧ s.buf.frees = [] ∧ (s.writer r).busy = true ∧ (s.writer r).decided = true ∧ (s.writer r).packet = k ∧
      acct = (s.queue (s.pkt k).desc.queue).account ∧ (s.account acct).pool = pool ∧ 256 * (s.pkt k).cells.length < (s.pkt k).desc.length ∧ s.quota acct = false ∧ (s.account acct).valid = true :=
  ⟨0, [{ requester := 3, queue := 5, far := false }], 3, 5, 9, 6, false, ((((up.setPkt 9 { live := true, bytes := List.replicate 300 0, desc := { queue := 5, length := 300, ingress := 2 } }).setQueue 5 { account := 6 }).setAccount 6 { valid := true, min := 0, max := 0 }).setPool 0 { enabled := true, near := 8, cacheNear := [77] }).setWriter 3 { packet := 9, busy := true, decided := true }, by decide +kernel⟩

theorem witness_CellsComplete_cellAllocate_empty : ∃ (pool : Nat) (reqs : List CellReq) (r qn k acct : Nat) (fl : Bool) (s : State), reqs = [{ requester := r, queue := qn, far := fl }] ∧ r < 46 ∧ s.servedNow pool = false ∧ s.buf.endFrees = [] ∧ s.buf.arrivals = [] ∧ s.buf.frees = [] ∧ (s.writer r).busy = true ∧ (s.writer r).decided = true ∧ (s.writer r).packet = k ∧
      acct = (s.queue (s.pkt k).desc.queue).account ∧ (s.account acct).pool = pool ∧ 256 * (s.pkt k).cells.length < (s.pkt k).desc.length ∧ s.quota acct = true ∧ s.grant pool (s.writer r).far = none :=
  ⟨0, [{ requester := 3, queue := 5, far := false }], 3, 5, 9, 6, false, ((((up.setPkt 9 { live := true, bytes := List.replicate 300 0, desc := { queue := 5, length := 300, ingress := 2 } }).setQueue 5 { account := 6 }).setAccount 6 { valid := true, min := 1, max := 4 }).setPool 0 { enabled := true, near := 8 }).setWriter 3 { packet := 9, busy := true, decided := true }, by decide +kernel⟩

theorem witness_CellsComplete_cellAllocate_badPointer : ∃ (pool : Nat) (reqs : List CellReq) (r qn k acct a kind : Nat) (fl : Bool) (s : State), reqs = [{ requester := r, queue := qn, far := fl }] ∧ r < 46 ∧ s.servedNow pool = false ∧ s.buf.endFrees = [] ∧ s.buf.arrivals = [] ∧ s.buf.frees = [] ∧ (s.writer r).busy = true ∧ (s.writer r).decided = true ∧ (s.writer r).packet = k ∧
      acct = (s.queue (s.pkt k).desc.queue).account ∧ (s.account acct).pool = pool ∧ 256 * (s.pkt k).cells.length < (s.pkt k).desc.length ∧ s.quota acct = true ∧ (s.grant pool (s.writer r).far).map (fun y => y.1) = some a ∧ s.badPointer a = some kind :=
  ⟨0, [{ requester := 3, queue := 5, far := false }], 3, 5, 9, 6, 77, 2, false, (((((up.setPkt 9 { live := true, bytes := List.replicate 300 0, desc := { queue := 5, length := 300, ingress := 2 } }).setQueue 5 { account := 6 }).setAccount 6 { valid := true, min := 1, max := 4 }).setPool 0 { enabled := true, near := 8, cacheNear := [77] }).setWriter 3 { packet := 9, busy := true, decided := true }).setCell 77 { used := true }, by decide +kernel⟩

theorem witness_CellsComplete_cellAllocate_notAdmitted : ∃ (pool : Nat) (reqs : List CellReq) (r qn k : Nat) (fl : Bool) (s : State), reqs = [{ requester := r, queue := qn, far := fl }] ∧ r < 46 ∧ s.servedNow pool = false ∧ s.buf.endFrees = [] ∧ s.buf.arrivals = [] ∧ s.buf.frees = [] ∧ (s.writer r).busy = true ∧ (s.writer r).decided = false ∧ (s.writer r).packet = k ∧
      (s.account (s.queue (s.pkt k).desc.queue).account).pool = pool ∧ 256 * (s.pkt k).cells.length < (s.pkt k).desc.length ∧ (s.takeCells r k).2 = false :=
  ⟨0, [{ requester := 3, queue := 5, far := false }], 3, 5, 9, false, ((((up.setPkt 9 { live := true, bytes := List.replicate 300 0, desc := { queue := 5, length := 300, ingress := 2 } }).setQueue 5 { account := 6 }).setAccount 6 { valid := true, min := 1, max := 4 }).setPool 0 { enabled := true, near := 8, cacheNear := [77] }).setWriter 3 { packet := 9, busy := true }, by decide +kernel⟩

theorem witness_CellsComplete_cellAllocate_admitted : ∃ (pool : Nat) (reqs : List CellReq) (r qn k a : Nat) (fl : Bool) (y z : State) (s : State), reqs = [{ requester := r, queue := qn, far := fl }] ∧ r < 46 ∧ s.servedNow pool = false ∧ s.buf.endFrees = [] ∧ s.buf.arrivals = [] ∧ s.buf.frees = [] ∧ (s.writer r).busy = true ∧ (s.writer r).decided = false ∧ (s.writer r).packet = k ∧
      (s.account (s.queue (s.pkt k).desc.queue).account).pool = pool ∧ 256 * (s.pkt k).cells.length < (s.pkt k).desc.length ∧ s.takeCells r k = (y, true) ∧ z = y.decideSpill r k ∧ z.quota (z.queue (z.pkt k).desc.queue).account = true ∧ (z.grant pool (z.writer r).far).map (fun y => y.1) = some a ∧ z.badPointer a = none :=
  ⟨0, [{ requester := 3, queue := 5, far := false }], 3, 5, 9, 77, false, _, _, (((((up.setPkt 9 { live := true, bytes := List.replicate 300 0, desc := { queue := 5, length := 300, ingress := 2 } }).setQueue 5 { account := 6, state := .opened }).setAccount 6 { valid := true, min := 1, max := 4 }).setPool 0 { enabled := true, near := 8, cacheNear := [77] }).setWriter 3 { packet := 9, busy := true }).setNode (nodeKey 4 5) { live := true, parentLevel := 0, parent := 5, priority := 2, weight := 1 }, rfl, by decide, by decide, by decide, by decide, by decide, by decide, by decide, by decide, by decide, by decide, rfl, rfl, by decide +kernel, by decide +kernel, by decide +kernel⟩

theorem witness_CellsComplete_cellAllocate_host : ∃ (pool : Nat) (reqs : List CellReq) (qn acct a : Nat) (fl : Bool) (s : State), reqs = [{ requester := 46, queue := qn, far := fl }] ∧ s.servedNow pool = false ∧ s.buf.endFrees = [] ∧ s.buf.arrivals = [] ∧ s.buf.frees = [] ∧ acct = (s.queue qn).account ∧ (s.account acct).pool = pool ∧ s.quota acct = true ∧ (s.grant pool fl).map (fun y => y.1) = some a ∧ s.badPointer a = none :=
  ⟨0, [{ requester := 46, queue := 5, far := false }], 5, 6, 77, false, ((((up.setPkt 9 { live := true, bytes := List.replicate 300 0, desc := { queue := 5, length := 300, ingress := 2 } }).setQueue 5 { account := 6 }).setAccount 6 { valid := true, min := 1, max := 4 }).setPool 0 { enabled := true, near := 8, cacheNear := [77] }).setWriter 3 { packet := 9, busy := true, decided := true }, by decide +kernel⟩

theorem witness_CellsComplete_cellAllocate_hostWaits : ∃ (pool : Nat) (reqs : List CellReq) (qn : Nat) (fl : Bool) (s : State), reqs = [{ requester := 46, queue := qn, far := fl }] ∧ s.servedNow pool = false ∧ s.buf.endFrees = [] ∧ s.buf.arrivals = [] ∧ s.buf.frees = [] ∧ (s.account (s.queue qn).account).pool = pool ∧ (s.quota (s.queue qn).account = false ∨ s.grant pool fl = none) :=
  ⟨0, [{ requester := 46, queue := 5, far := false }], 5, false, ((((up.setPkt 9 { live := true, bytes := List.replicate 300 0, desc := { queue := 5, length := 300, ingress := 2 } }).setQueue 5 { account := 6 }).setAccount 6 { valid := true, min := 1, max := 4 }).setPool 0 {  }).setWriter 3 { packet := 9, busy := true, decided := true }, by decide +kernel⟩

theorem witness_CellsComplete_cellAllocate_once : ∃ (pool : Nat) (reqs : List CellReq) (s : State), s.servedNow pool = true ∧ s.buf.endFrees = [] :=
  ⟨0, [], up.noteServed 0, by decide⟩

theorem witness_CellsComplete_cellFree : ∃ (cell : Nat) (s : State), s.allocAhead = false ∧ s.buf.frees.contains cell = true ∧ validCell cell = true ∧ (s.cell cell).used = true :=
  ⟨77, (let s := (((((up.setPkt 9 { live := true, bytes := List.replicate 300 0, desc := { queue := 5, length := 300, ingress := 2 } }).setQueue 5 { account := 6 }).setAccount 6 { valid := true, min := 1, max := 4 }).setPool 0 { enabled := true, near := 8, cacheNear := [77] }).setWriter 3 { packet := 9, busy := true, decided := true }).setCell 77 { used := true, account := 6, pool := 0, ingress := 2, bytes := 256 }; { s with buf := { s.buf with frees := [77] } }), by decide +kernel⟩

theorem witness_CellsComplete_cellFree_endOfCycle : ∃ (cell : Nat) (s : State), s.allocAhead = true ∧ s.buf.frees.contains cell = true :=
  ⟨77, (let s := (((((up.setPkt 9 { live := true, bytes := List.replicate 300 0, desc := { queue := 5, length := 300, ingress := 2 } }).setQueue 5 { account := 6 }).setAccount 6 { valid := true, min := 1, max := 4 }).setPool 0 { enabled := true, near := 8, cacheNear := [77] }).setWriter 3 { packet := 9, busy := true, decided := true }).setCell 77 { used := true, account := 6, pool := 0, ingress := 2, bytes := 256 }; { s with buf := { s.buf with frees := [77] }, pending := [.cellAllocate 0 0 []] }), by decide +kernel⟩

theorem witness_CellsComplete_cellFree_unallocated : ∃ (cell : Nat) (s : State), s.allocAhead = false ∧ validCell cell = true ∧ (s.cell cell).used = false :=
  ⟨77, up, by decide⟩

theorem witness_CellsComplete_cellFree_corrupt : ∃ (cell : Nat) (s : State), s.allocAhead = false ∧ validCell cell = false :=
  ⟨786432, up, by decide⟩

theorem witness_CellsComplete_cellFree_held : ∃ (cell : Nat) (s : State), s.buf.frees.contains cell = false ∧ s.buf.endFrees.contains cell = false ∧ validCell cell = true ∧ (s.cell cell).used = true :=
  ⟨77, (((((up.setPkt 9 { live := true, bytes := List.replicate 300 0, desc := { queue := 5, length := 300, ingress := 2 } }).setQueue 5 { account := 6 }).setAccount 6 { valid := true, min := 1, max := 4 }).setPool 0 { enabled := true, near := 8, cacheNear := [77] }).setWriter 3 { packet := 9, busy := true, decided := true }).setCell 77 { used := true, account := 6, pool := 0, ingress := 2, bytes := 256 }, by decide +kernel⟩

theorem witness_CellsComplete_poolCacheRefill_far : ∃ (pool : Nat) (far : Bool) (p : Pool) (s : State), p = s.pool pool ∧ p.enabled = true ∧ far = true ∧ 3584 < p.cacheNear.length + p.cacheFar.length ∧ (∀ a, a ∈ p.cacheFar → isFar a = true) :=
  ⟨5, true, { enabled := true, cacheNear := List.replicate 3585 77, cacheFar := [2 ^ 29] }, up.setPool 5 { enabled := true, cacheNear := List.replicate 3585 77, cacheFar := [2 ^ 29] }, by decide +kernel⟩

theorem witness_CellsComplete_poolCacheRefill_every : ∃ (pool : Nat) (far : Bool) (p : Pool) (s : State), p = s.pool pool ∧ p.enabled = true ∧ p.cacheNear.length + p.cacheFar.length ≤ 3584 ∧ (far = true → p.cacheFar.length + 64 ≤ 2048) :=
  ⟨5, true, { enabled := true }, up.setPool 5 { enabled := true }, by decide +kernel⟩

theorem witness_CellsComplete_poolCacheRefill_disabled : ∃ (pool : Nat) (far : Bool) (s : State), (s.pool pool).enabled = false :=
  ⟨5, false, up, by decide⟩

theorem witness_CellsComplete_poolCacheRefill : ∃ (pool : Nat) (far : Bool) (p : Pool) (s : State), p = s.pool pool ∧ p.enabled = true ∧ far = false ∧ 3584 < p.cacheNear.length + p.cacheFar.length ∧ (∀ a, a ∈ p.cacheNear → isFar a = false) :=
  ⟨5, false, { enabled := true, cacheNear := List.replicate 3585 77 }, up.setPool 5 { enabled := true, cacheNear := List.replicate 3585 77 }, by decide +kernel⟩

theorem witness_CellsComplete_poolCacheRefill_refill : ∃ (pool : Nat) (far : Bool) (p : Pool) (s : State), p = s.pool pool ∧ p.enabled = true ∧ far = false ∧ p.cacheNear.length + p.cacheFar.length ≤ 3584 ∧ s.buf.nearRing.built = true ∧ s.buf.nearRing.taken + 64 ≤ 786432 ∧ s.units.out = [] ∧ s.units.work = [] :=
  ⟨5, false, { enabled := true }, { up.setPool 5 { enabled := true } with buf := { pools := [(5, { enabled := true })], nearRing := { built := true, taken := 786368 } } }, by decide +kernel⟩

theorem witness_CellsComplete_bufReconcile_every : ∃ (s : State), s.allocAhead = false ∧ canon {} s.buf.cells = true :=
  ⟨{ up.setPkt 9 { live := true, bytes := List.replicate 300 0, desc := { queue := 5, length := 300, ingress := 2 } } with buf := { cells := [(77, { used := true, account := 6, pool := 0, ingress := 2, bytes := 256 })] } }, by decide +kernel⟩

theorem witness_CellsComplete_bufReconcile : ∃ (a : Nat) (x : CellState) (s : State), s.allocAhead = false ∧ s.buf.cells = [(a, x)] ∧ x.used = true ∧ x.ingress ≠ 255 ∧ a ∉ s.heldCells ∧ validCell a = true :=
  ⟨77, { used := true, account := 6, pool := 0, ingress := 2, bytes := 256 }, { up.setPkt 9 { live := true, bytes := List.replicate 300 0, desc := { queue := 5, length := 300, ingress := 2 } } with buf := { cells := [(77, { used := true, account := 6, pool := 0, ingress := 2, bytes := 256 })] } }, by decide +kernel⟩

theorem witness_CellsComplete_bufReconcile_none : ∃ (s : State), ∀ r, r ∈ s.buf.cells → r.1 ∈ s.heldCells :=
  ⟨up, by decide⟩

/-! ### BufferCompletes -/

theorem witness_BufferCompletes_pfcXoffRefresh : ∃ (port : Nat) (cls : Nat) (x : Xoff) (s : State), look s.buf.xoff (port * 8 + cls) {} = x ∧ x.on = true ∧ x.refresh ≤ s.now ∧ (s.port port).state = .up ∧ (s.port port).personality = .ethernet ∧ bit (s.port port).cfg.pfcTx cls = true :=
  ⟨5, 3, { on := true, refresh := 9 }, { up.setPort 5 { state := .up, personality := .ethernet, cfg := { pfcTx := 255 } } with now := 9, buf := { xoff := [(43, { on := true, refresh := 9 })] } }, by decide⟩

theorem witness_BufferCompletes_pfcXoffRefresh_notUp : ∃ (port : Nat) (cls : Nat) (x : Xoff) (s : State), look s.buf.xoff (port * 8 + cls) {} = x ∧ x.on = true ∧ x.refresh ≤ s.now ∧ ((s.port port).state ≠ .up ∨ (s.port port).personality ≠ .ethernet ∨ bit (s.port port).cfg.pfcTx cls = false) :=
  ⟨5, 3, { on := true, refresh := 9 }, { up with now := 9, buf := { xoff := [(43, { on := true, refresh := 9 })] } }, by decide⟩

theorem witness_BufferCompletes_pfcXoffRefresh_early : ∃ (port : Nat) (cls : Nat) (x : Xoff) (s : State), look s.buf.xoff (port * 8 + cls) {} = x ∧ (x.on = false ∨ s.now < x.refresh) :=
  ⟨5, 3, {}, up, by decide⟩

theorem witness_BufferCompletes_farPageMove : ∃ (page : Nat) (x : FarPage) (k i : Nat) (s : State), page < 1024 ∧ x = s.farPage page ∧ x.lost = false ∧ s.isOut 9 x.stack = true ∧ (s.stack x.stack).work = none ∧ s.spareSlot x.stack = some (k, i) :=
  ⟨5, { stack := 9, slot := 0 }, 4, 0, { up with units := { up.units with out := [(9 * 65536 + 9, true)] }, buf := { pages := [(0, { moved := true, lost := true, stack := 4, slot := 0 })] } }, by decide +kernel⟩

theorem witness_BufferCompletes_farPageMove_lost : ∃ (page : Nat) (x : FarPage) (s : State), page < 1024 ∧ x = s.farPage page ∧ x.lost = false ∧ s.isOut 9 x.stack = true ∧ (s.stack x.stack).work = none ∧ s.spareSlot x.stack = none :=
  ⟨5, { stack := 9, slot := 0 }, { up with units := { up.units with out := (List.range 6).map fun i => (9 * 65536 + 4 + i, true) } }, by decide +kernel⟩

theorem witness_BufferCompletes_farRingCopyRebuilt : ∃ (a k : Nat) (s : State), s.buf.farCopies = [a] ∧ s.copyStack = some k :=
  ⟨7, 4, { up with buf := { farCopies := [7], farRing := { built := true } } }, by decide⟩

theorem witness_BufferCompletes_farRingRebuilt : ∃ (k : Nat) (s : State), s.buf.farCopies = [] ∧ s.buf.farRing.built = true ∧ s.copyStack = some k :=
  ⟨4, { up with buf := { farCopies := [], farRing := { built := true } } }, by decide⟩

theorem witness_BufferCompletes_bufErrLogRead : ∃ (r : RegRead) (n v : Nat) (s : State), r.addr = 0x01603010 ∧ r.size = 4 ∧ s.answers r.host = true ∧ n = s.buf.errMark.seen s.kclk s.buf.errCount ∧ v = b2n s.buf.errValid * 2 ^ 31 + s.buf.errKind * 2 ^ 28 + n :=
  ⟨{ host := 0, addr := 0x01603010, size := 4 }, 0, 0, up, by decide⟩

theorem witness_BufferCompletes_bufErrLogRead_part : ∃ (r : RegRead) (n v : Nat) (s : State), r.addr / 4 = 0x00580C04 ∧ s.answers r.host = true ∧ n = s.buf.errMark.seen s.kclk s.buf.errCount ∧ v = b2n s.buf.errValid * 2 ^ 31 + s.buf.errKind * 2 ^ 28 + n :=
  ⟨{ host := 0, addr := 0x01603012, size := 2 }, 0, 0, up, by decide⟩

theorem witness_BufferCompletes_poolConfig : ∃ (c : Cmd) (s : State), ready s c 0x0800 .d0 = true ∧ firstErr (poolConfigErrs c s) = none ∧ c.u8 17 = 1 :=
  ⟨cm 0x800 [(16, 1, 5), (17, 1, 1), (20, 4, 786432), (24, 4, 100)], begun up (cm 0x800 [(16, 1, 5), (17, 1, 1), (20, 4, 786432), (24, 4, 100)]), by decide +kernel⟩

theorem witness_BufferCompletes_poolConfig_refused : ∃ (c : Cmd) (s : State), ready s c 0x0800 .d0 = true ∧ c.u8 16 < 64 ∧ c.u8 17 = 0 ∧ c.zeros 18 2 = none ∧ c.u32 20 = 0 ∧ c.u32 24 = 0 ∧ c.zeros 28 36 = none ∧ s.minSum (c.u8 16) = 0 ∧ 0 < (s.pool (c.u8 16)).nearUsed :=
  ⟨cm 0x800 [(16, 1, 5)], (begun up (cm 0x800 [(16, 1, 5)])).setPool 5 { enabled := true, nearUsed := 1 }, by decide⟩

theorem witness_BufferCompletes_accountConfig : ∃ (c : Cmd) (s : State), ready s c 0x0801 .d0 = true ∧ firstErr (accountConfigErrs c s) = none :=
  ⟨cm 0x801 [(16, 2, 1023), (18, 1, 1), (19, 1, 5), (24, 4, 10), (28, 4, 20)], (begun up (cm 0x801 [(16, 2, 1023), (18, 1, 1), (19, 1, 5), (24, 4, 10), (28, 4, 20)])).setPool 5 { near := 10 }, by decide⟩

theorem witness_BufferCompletes_poolThresh : ∃ (c : Cmd) (s : State), ready s c 0x0802 .d0 = true ∧ c.u8 16 < 64 ∧ c.u8 17 < 4 ∧ c.u8 18 = 1 ∧ c.u8 19 < 16 ∧ c.u32 24 ≤ c.u32 20 ∧ c.zeros 29 3 = none ∧ c.zeros 36 28 = none ∧ (s.pool (c.u8 16)).byPort = [] ∧
      (look (s.pool (c.u8 16)).thresholds (c.u8 17) {}).isSet = false :=
  ⟨cm 0x802 [(16, 1, 5), (17, 1, 3), (18, 1, 1), (19, 1, 8), (20, 4, 10), (24, 4, 5)], begun up (cm 0x802 [(16, 1, 5), (17, 1, 3), (18, 1, 1), (19, 1, 8), (20, 4, 10), (24, 4, 5)]), by decide⟩

theorem witness_BufferCompletes_queueBuf : ∃ (c : Cmd) (s : State), ready s c 0x0803 .any = true ∧ firstErr (queueBufErrs c s) = none :=
  ⟨cm 0x803 [(16, 4, 1000), (20, 4, 3), (24, 2, 6), (28, 4, 8192), (32, 4, 4096), (36, 1, 1)], begun up (cm 0x803 [(16, 4, 1000), (20, 4, 3), (24, 2, 6), (28, 4, 8192), (32, 4, 4096), (36, 1, 1)]), by decide⟩

theorem witness_BufferCompletes_bufStats : ∃ (c : Cmd) (p : Pool) (s : State), ready s c 0x0804 .any = true ∧ c.needReply = none ∧ c.u8 16 = 1 ∧ c.domain = 0 ∧ c.zeros 17 1 = none ∧ c.u16 18 < 64 ∧ c.u8 20 ≤ 1 ∧ c.zeros 21 43 = none ∧ p = s.pool (c.u16 18) :=
  ⟨cm 0x804 [(16, 1, 1), (18, 2, 5), (20, 1, 1)], {}, begun up (cm 0x804 [(16, 1, 1), (18, 2, 5), (20, 1, 1)]), by decide⟩

theorem witness_BufferCompletes_bufStats_account : ∃ (c : Cmd) (a : Account) (s : State), ready s c 0x0804 .any = true ∧ c.needReply = none ∧ c.u8 16 = 0 ∧ c.zeros 17 1 = none ∧ c.u16 18 < 1024 ∧ c.u8 20 ≤ 1 ∧ c.zeros 21 43 = none ∧ a = s.account (c.u16 18) ∧ a.domain = c.domain :=
  ⟨cm 0x804 [(18, 2, 5), (20, 1, 1)], {}, begun up (cm 0x804 [(18, 2, 5), (20, 1, 1)]), by decide⟩

/-! ### FramesComplete -/

theorem witness_FramesComplete_ethFrameReceive_codeword : ∃ (port : Nat) (f : RxFrame) (s : State), (s.port port).state = .up ∧ (s.port port).personality = .ethernet ∧ f.uncorrectable = true :=
  ⟨5, { bytes := List.replicate 60 0, fcsOk := true, uncorrectable := true }, (up.setPort 5 { personality := .ethernet, state := .up, enable := true }), by decide +kernel⟩

theorem witness_FramesComplete_ethFrameReceive_runt : ∃ (port : Nat) (f : RxFrame) (s : State), (s.port port).state = .up ∧ (s.port port).personality = .ethernet ∧ f.uncorrectable = false ∧ f.bytes.length + 4 < 64 :=
  ⟨5, { bytes := List.replicate 59 0, fcsOk := true, uncorrectable := false }, (up.setPort 5 { personality := .ethernet, state := .up, enable := true }), by decide +kernel⟩

theorem witness_FramesComplete_ethFrameReceive_long : ∃ (port : Nat) (f : RxFrame) (s : State), (s.port port).state = .up ∧ (s.port port).personality = .ethernet ∧ f.uncorrectable = false ∧ 64 ≤ f.bytes.length + 4 ∧ (s.port port).cfg.maxFrame < f.bytes.length + 4 :=
  ⟨5, { bytes := List.replicate 1519 0, fcsOk := true, uncorrectable := false }, (up.setPort 5 { personality := .ethernet, state := .up, enable := true }), by decide +kernel⟩

theorem witness_FramesComplete_ethFrameReceive_fcs : ∃ (port : Nat) (f : RxFrame) (s : State), (s.port port).state = .up ∧ (s.port port).personality = .ethernet ∧ f.uncorrectable = false ∧ 64 ≤ f.bytes.length + 4 ∧ f.bytes.length + 4 ≤ (s.port port).cfg.maxFrame ∧ f.fcsOk = false :=
  ⟨5, { bytes := List.replicate 60 0, fcsOk := false, uncorrectable := false }, (up.setPort 5 { personality := .ethernet, state := .up, enable := true }), by decide +kernel⟩

theorem witness_FramesComplete_ethFrameReceive_notUp : ∃ (port : Nat) (f : RxFrame) (s : State), (s.port port).state ≠ .up :=
  ⟨5, { bytes := List.replicate 60 0, fcsOk := true, uncorrectable := false }, up, by decide⟩

theorem witness_FramesComplete_ethFrameReceive_pfc : ∃ (port : Nat) (f : RxFrame) (s : State), (s.port port).state = .up ∧ (s.port port).personality = .ethernet ∧ f.uncorrectable = false ∧ 64 ≤ f.bytes.length + 4 ∧ f.bytes.length + 4 ≤ (s.port port).cfg.maxFrame ∧ f.fcsOk = true ∧ beAt f.bytes 12 2 = 0x8808 ∧ beAt f.bytes 14 2 = 0x0101 :=
  ⟨5, { bytes := List.replicate 12 0 ++ [0x88, 0x08, 1, 1, 0, 2] ++ List.replicate 42 1, fcsOk := true, uncorrectable := false }, (up.setPort 5 { personality := .ethernet, state := .up, enable := true }), by decide⟩

theorem witness_FramesComplete_ethFrameReceive_good : ∃ (port : Nat) (f : RxFrame) (k : Nat) (s : State), (s.port port).state = .up ∧ (s.port port).personality = .ethernet ∧ f.uncorrectable = false ∧ 64 ≤ f.bytes.length + 4 ∧ f.bytes.length + 4 ≤ (s.port port).cfg.maxFrame ∧ f.fcsOk = true ∧ beAt f.bytes 12 2 ≠ 0x8808 ∧ (s.cport port).rx = false ∧ s.isInband port f.bytes = false ∧ s.dispatching = true ∧ s.nextPkt = k :=
  ⟨5, { bytes := List.replicate 60 0, fcsOk := true, uncorrectable := false }, 0, (up.setPort 5 { personality := .ethernet, state := .up, enable := true }), by decide⟩

theorem witness_FramesComplete_ethFrameReceive_modeDrop : ∃ (port : Nat) (f : RxFrame) (s : State), (s.port port).state = .up ∧ (s.port port).personality = .ethernet ∧ f.uncorrectable = false ∧ 64 ≤ f.bytes.length + 4 ∧ f.bytes.length + 4 ≤ (s.port port).cfg.maxFrame ∧ f.fcsOk = true ∧ beAt f.bytes 12 2 ≠ 0x8808 ∧ (s.cport port).rx = false ∧ s.isInband port f.bytes = false ∧ s.dispatching = false :=
  ⟨5, { bytes := List.replicate 60 0, fcsOk := true, uncorrectable := false }, { (up.setPort 5 { personality := .ethernet, state := .up, enable := true }) with dev := { up.dev with mode := .standby } }, by decide⟩

theorem witness_FramesComplete_frameTransmit : ∃ (port : Nat) (k : Nat) (l : List Nat) (b : Bytes) (s : State), s.pipe port = k :: l ∧ (s.pkt k).live = true ∧ (s.port port).state = .up ∧ (s.port port).personality = .ethernet ∧ (s.cport port).tx = false ∧ (s.pkt k).stomp = false ∧ (s.pkt k).desc.ptpOffset = 0xFFFF ∧ b = pad60 (s.pkt k).bytes :=
  ⟨5, 9, [10], List.replicate 60 1, (((up.setPort 5 { personality := .ethernet, state := .up, enable := true }).setPkt 9 { live := true, bytes := List.replicate 60 1 }).setPipe 5 [9, 10]), by decide +kernel⟩

theorem witness_FramesComplete_frameTransmit_outside : ∃ (port : Nat) (k : Nat) (l : List Nat) (n o : Nat) (s : State), s.pipe port = k :: l ∧ (s.pkt k).live = true ∧ (s.port port).state = .up ∧ (s.port port).personality = .ethernet ∧ (s.cport port).tx = false ∧ (s.pkt k).stomp = false ∧ (s.pkt k).desc.ptpKind = 0 ∧ (s.pkt k).desc.ptpOffset = o ∧ (s.pkt k).bytes.length = n ∧ 60 ≤ n ∧ n < o + 8 ∧ o < 0xFFFF :=
  ⟨5, 9, [10], 60, 55, (((up.setPort 5 { personality := .ethernet, state := .up, enable := true }).setPkt 9 { live := true, bytes := List.replicate 60 1, desc := { ptpOffset := 55, ptpKind := 0 } }).setPipe 5 [9, 10]), by decide +kernel⟩

theorem witness_FramesComplete_frameTransmit_corrected : ∃ (port : Nat) (k : Nat) (l : List Nat) (o : Nat) (r v : Int) (b : Bytes) (s : State), s.pipe port = k :: l ∧ (s.pkt k).live = true ∧ (s.port port).state = .up ∧ (s.port port).personality = .ethernet ∧ (s.cport port).tx = false ∧ (s.pkt k).stomp = false ∧ (s.pkt k).desc.ptpKind = 0 ∧ (s.pkt k).desc.ptpOffset = o ∧ 60 ≤ (s.pkt k).bytes.length ∧ 8 ≤ o ∧ o + 8 ≤ (s.pkt k).bytes.length ∧ s.time.stepCycle = none ∧ 0 ≤ r ∧ r < 1000000000 * 2 ^ 16 ∧
      r = (((s.timeNow : Int) + (s.portTime port).txAdj * 2 ^ 24).toNat / 2 ^ 24 : Nat) - ((s.pkt k).desc.stamp / 2 ^ 24 : Nat) ∧ v = signed 64 (beAt (s.pkt k).bytes o 8) + r ∧ v < 2 ^ 63 ∧ b = overlay (s.pkt k).bytes o (beBytes 8 (unsigned 64 v)) :=
  ⟨5, 9, [10], 8, 0, 72340172838076673, List.replicate 60 1, (((up.setPort 5 { personality := .ethernet, state := .up, enable := true }).setPkt 9 { live := true, bytes := List.replicate 60 1, desc := { ptpOffset := 8, ptpKind := 0 } }).setPipe 5 [9, 10]), by decide +kernel⟩

theorem witness_FramesComplete_frameTransmit_notUp : ∃ (port : Nat) (k : Nat) (l : List Nat) (s : State), s.pipe port = k :: l ∧ (s.pkt k).live = true ∧ (s.port port).personality ≠ .none ∧ (s.port port).state ≠ .up :=
  ⟨5, 9, [10], (((up.setPort 5 { personality := .ethernet, state := .up, enable := true }).setPkt 9 { live := true, bytes := List.replicate 60 1 }).setPipe 5 [9, 10]).setPort 5 { personality := .ethernet, state := .training }, by decide +kernel⟩

theorem witness_FramesComplete_frameTransmit_empty : ∃ (port : Nat) (s : State), s.pipe port = [] :=
  ⟨5, (up.setPort 5 { personality := .ethernet, state := .up, enable := true }), by decide⟩

/-! ### GuylineCompletes -/

theorem witness_GuylineCompletes_guylineDeliver : ∃ (toT : Bool) (group : Nat) (crcOk : Bool) (y : Transfer) (l : List Transfer) (k p : Nat) (s : State), s.isOut 3 group = false ∧ (s.group group).failed = false ∧ takeTransfer toT (s.group group).flight = some (y, l) ∧ y.issued + ns 8 ≤ s.now ∧ crcOk = true ∧ toT = false ∧ k = y.packet ∧ (s.pkt k).live = true ∧ (s.pkt k).desc.egressPass = false ∧ (s.pkt k).desc.port = p :=
  ⟨false, 4, true, { toT := false, entry := 4, packet := 9, issued := 0, tries := 0 }, [], 9, 5, { (up.setPkt 9 { live := true, bytes := List.replicate 60 1, desc := { port := 5, length := 60 } }).setGroup 4 { flight := [{ toT := false, entry := 4, packet := 9, issued := 0, tries := 0 }] } with now := ns 8 }, by decide⟩

theorem witness_GuylineCompletes_guylineDeliver_egressPass : ∃ (toT : Bool) (group : Nat) (crcOk : Bool) (y : Transfer) (l : List Transfer) (k : Nat) (s : State), s.isOut 3 group = false ∧ (s.group group).failed = false ∧ takeTransfer toT (s.group group).flight = some (y, l) ∧ y.issued + ns 8 ≤ s.now ∧ crcOk = true ∧ toT = false ∧ k = y.packet ∧ (s.pkt k).live = true ∧ (s.pkt k).desc.egressPass = true :=
  ⟨false, 4, true, { toT := false, entry := 4, packet := 9, issued := 0, tries := 0 }, [], 9, { (up.setPkt 9 { live := true, bytes := List.replicate 60 1, desc := { port := 5, egressPass := true, length := 60 } }).setGroup 4 { flight := [{ toT := false, entry := 4, packet := 9, issued := 0, tries := 0 }] } with now := ns 8 }, by decide⟩

theorem witness_GuylineCompletes_guylineDeliver_failed : ∃ (toT : Bool) (group : Nat) (crcOk : Bool) (s : State), (s.group group).failed = true :=
  ⟨false, 4, true, up.setGroup 4 { failed := true }, by decide⟩

theorem witness_GuylineCompletes_guylineDeliver_toT : ∃ (toT : Bool) (group : Nat) (crcOk : Bool) (y : Transfer) (l : List Transfer) (k : Nat) (s : State), s.isOut 3 group = false ∧ (s.group group).failed = false ∧ takeTransfer toT (s.group group).flight = some (y, l) ∧ y.issued + ns 8 ≤ s.now ∧ crcOk = true ∧ toT = true ∧ k = y.packet ∧ (s.pkt k).live = true :=
  ⟨true, 4, true, { toT := true, entry := 4, packet := 9, issued := 0, tries := 0 }, [], 9, { (up.setPkt 9 { live := true, bytes := List.replicate 60 1, desc := { port := 5, length := 60 } }).setGroup 4 { flight := [{ toT := true, entry := 4, packet := 9, issued := 0, tries := 0 }] } with now := ns 8 }, by decide⟩

theorem witness_GuylineCompletes_guylineDeliver_replay : ∃ (toT : Bool) (group : Nat) (crcOk : Bool) (y : Transfer) (l : List Transfer) (s : State), s.isOut 3 group = false ∧ (s.group group).failed = false ∧ takeTransfer toT (s.group group).flight = some (y, l) ∧ y.issued + ns 8 ≤ s.now ∧ crcOk = false ∧ y.tries < 3 :=
  ⟨true, 4, false, { toT := true, entry := 4, packet := 9, issued := 0, tries := 2 }, [], { (up.setPkt 9 { live := true, bytes := List.replicate 60 1, desc := { port := 5, length := 60 } }).setGroup 4 { flight := [{ toT := true, entry := 4, packet := 9, issued := 0, tries := 2 }] } with now := ns 8 }, by decide⟩

theorem witness_GuylineCompletes_guylineDeliver_third : ∃ (toT : Bool) (group : Nat) (crcOk : Bool) (y : Transfer) (l : List Transfer) (s : State), s.isOut 3 group = false ∧ (s.group group).failed = false ∧ takeTransfer toT (s.group group).flight = some (y, l) ∧ y.issued + ns 8 ≤ s.now ∧ crcOk = false ∧ 3 ≤ y.tries :=
  ⟨true, 4, false, { toT := true, entry := 4, packet := 9, issued := 0, tries := 3 }, [], { (up.setPkt 9 { live := true, bytes := List.replicate 60 1, desc := { port := 5, length := 60 } }).setGroup 4 { flight := [{ toT := true, entry := 4, packet := 9, issued := 0, tries := 3 }] } with now := ns 8 }, by decide⟩

theorem witness_GuylineCompletes_guylineGroupFailed : ∃ (group : Nat) (g : Nat) (s : State), group < 16 ∧ s.isOut 3 group = false ∧ (s.group group).failed = true ∧ g < 16 ∧ g ≠ group ∧ s.healthy 3 g = true :=
  ⟨4, 5, { { (up.setPkt 9 { live := true, bytes := List.replicate 60 1, desc := { port := 5, length := 60 } }).setGroup 4 { failed := true, flight := [{ toT := true, entry := 4, packet := 9, issued := 0, tries := 4 }] } with now := ns 8 } with now := 0 }, by decide⟩

theorem witness_GuylineCompletes_guylineMapoutDrained : ∃ (group : Nat) (w : UnitWork) (s : State), s.workOf 3 group = some w ∧ w.ret = false ∧ (s.group group).flight = [] :=
  ⟨4, { cmd := cm 0x1200 [], since := 9, ret := false }, { up with units := { up.units with work := [(3 * 65536 + 4, { cmd := cm 0x1200 [], since := 9, ret := false })] } }, by decide⟩

theorem witness_GuylineCompletes_guylineEntryReturn : ∃ (toT : Bool) (idx : Nat) (w : UnitWork) (g : Nat) (s : State), idx < 64 ∧ s.workOf 3 (idx % 16) = some w ∧ w.ret = true ∧ s.isOut 3 (idx % 16) = false ∧ s.steerGroup toT idx = g ∧ g ≠ idx % 16 ∧ s.stopped toT idx = true ∧ ((s.group g).flight.any fun x => x.toT = toT && x.entry = idx) = false :=
  ⟨true, 20, { cmd := cm 0x1200 [], since := 9, ret := true }, 5, { up with units := { up.units with work := [(3 * 65536 + 4, { cmd := cm 0x1200 [], since := 9, ret := true })], steer := [(20, 6)], steerStop := [(20, true)] } }, by decide⟩

/-! ### QueueCommandsComplete -/

theorem witness_QueueCommandsComplete_nodeConfig_create : ∃ (c : Cmd) (k p : Nat) (s : State), ready s c 0x0900 .any = true ∧ firstErr (nodeConfigErrs c s) = none ∧ c.u8 17 = 0 ∧ k = nodeKey (c.u8 16) (c.u32 20) ∧ p = nodeKey (c.u8 24) (c.u32 28) ∧ p ≠ k ∧ (s.node k).rings = [] :=
  ⟨cm 0x900 [(16, 1, 1), (18, 1, 3), (20, 4, 2000), (28, 4, 5), (24, 1, 0), (25, 1, 2), (26, 2, 4095), (32, 4, 1000), (36, 4, 2000), (40, 4, 65536), (44, 4, 125000), (48, 1, 20)], nodeKey 1 2000, nodeKey 0 5, (begun up (cm 0x900 [(16, 1, 1), (18, 1, 3), (20, 4, 2000), (28, 4, 5), (24, 1, 0), (25, 1, 2), (26, 2, 4095), (32, 4, 1000), (36, 4, 2000), (40, 4, 65536), (44, 4, 125000), (48, 1, 20)])).setPort 5 { personality := .ethernet }, by decide⟩

theorem witness_QueueCommandsComplete_nodeConfig_shaper : ∃ (c : Cmd) (k i : Nat) (s : State), ready s c 0x0900 .any = true ∧ firstErr (nodeConfigErrs c s) = none ∧ c.u8 17 = 1 ∧ c.u8 18 = 2 ∧ k = nodeKey (c.u8 16) (c.u32 20) ∧ c.u8 19 = i ∧ i < 2 :=
  ⟨cm 0x900 [(16, 1, 4), (17, 1, 1), (18, 1, 2), (19, 1, 1), (20, 4, 7), (32, 4, 1000), (36, 4, 2000), (40, 4, 65536), (44, 4, 125000), (48, 1, 20)], nodeKey 4 7, 1, ((begun up (cm 0x900 [(16, 1, 4), (17, 1, 1), (18, 1, 2), (19, 1, 1), (20, 4, 7), (32, 4, 1000), (36, 4, 2000), (40, 4, 65536), (44, 4, 125000), (48, 1, 20)])).setNode (nodeKey 4 7) { live := true, parentLevel := 0, parent := 5, priority := 2, weight := 1 }), by decide⟩

theorem witness_QueueCommandsComplete_nodeConfig_delete : ∃ (c : Cmd) (k : Nat) (s : State), ready s c 0x0900 .any = true ∧ firstErr (nodeConfigErrs c s) = none ∧ c.u8 17 = 2 ∧ k = nodeKey (c.u8 16) (c.u32 20) :=
  ⟨cm 0x900 [(16, 1, 4), (17, 1, 2), (20, 4, 7)], nodeKey 4 7, ((begun up (cm 0x900 [(16, 1, 4), (17, 1, 2), (20, 4, 7)])).setNode (nodeKey 4 7) { live := true, parentLevel := 0, parent := 5, priority := 2, weight := 1 }), by decide⟩

theorem witness_QueueCommandsComplete_nodeConfig_any : ∃ (c : Cmd) (s : State), ready s c 0x0900 .any = true ∧ firstErr (nodeConfigErrs c s) = none ∧ True :=
  ⟨cm 0x900 [(16, 1, 4), (17, 1, 2), (20, 4, 7)], ((begun up (cm 0x900 [(16, 1, 4), (17, 1, 2), (20, 4, 7)])).setNode (nodeKey 4 7) { live := true, parentLevel := 0, parent := 5, priority := 2, weight := 1 }), by decide⟩

theorem witness_QueueCommandsComplete_nodeConfig_mask : ∃ (c : Cmd) (k : Nat) (s : State), ready s c 0x0900 .any = true ∧ firstErr (nodeConfigErrs c s) = none ∧ c.u8 16 = 0 ∧ c.u8 18 = 6 ∧ k = nodeKey 0 (c.u32 20) :=
  ⟨cm 0x900 [(16, 1, 0), (17, 1, 1), (18, 1, 6), (20, 4, 5), (50, 2, 6), (32, 4, 1000), (36, 4, 2000), (40, 4, 65536), (44, 4, 125000), (48, 1, 20)], nodeKey 0 5, (begun up (cm 0x900 [(16, 1, 0), (17, 1, 1), (18, 1, 6), (20, 4, 5), (50, 2, 6), (32, 4, 1000), (36, 4, 2000), (40, 4, 65536), (44, 4, 125000), (48, 1, 20)])).setPort 5 { personality := .ethernet }, by decide⟩

theorem witness_QueueCommandsComplete_nodeConfig_refused : ∃ (c : Cmd) (k : Nat) (s : State), ready s c 0x0900 .any = true ∧ c.u8 16 = 1 ∧ c.u8 17 = 2 ∧ c.u8 18 = 0 ∧ c.u8 19 = 0 ∧ c.u32 20 < 16384 ∧ k = nodeKey 1 (c.u32 20) ∧ (s.node k).live = true ∧ (s.node k).owner = c.domain ∧ c.zeros 52 12 = none ∧ s.sliceDown k = false ∧ s.children k ≠ [] :=
  ⟨cm 0x900 [(16, 1, 1), (17, 1, 2), (20, 4, 7)], nodeKey 1 7, ((begun up (cm 0x900 [(16, 1, 1), (17, 1, 2), (20, 4, 7)])).setNode (nodeKey 1 7) { live := true }).setNode (nodeKey 4 9) { live := true, parentLevel := 1, parent := 7 }, by decide⟩

theorem witness_QueueCommandsComplete_queueState_open : ∃ (c : Cmd) (q : Nat) (s : State), ready s c 0x0901 .any = true ∧ firstErr (queueStateErrs c s) = none ∧ c.u8 24 = 0 ∧ c.u32 16 ≤ q ∧ q < c.u32 16 + c.u32 20 :=
  ⟨cm 0x901 [(16, 4, 6), (20, 4, 3), (24, 1, 0), (28, 4, 100)], 7, ((((begun up (cm 0x901 [(16, 4, 6), (20, 4, 3), (24, 1, 0), (28, 4, 100)])).setNode (nodeKey 4 6) { live := true }).setNode (nodeKey 4 7) { live := true }).setNode (nodeKey 4 8) { live := true }), by decide⟩

theorem witness_QueueCommandsComplete_queueState_close : ∃ (c : Cmd) (q : Nat) (s : State), ready s c 0x0901 .any = true ∧ firstErr (queueStateErrs c s) = none ∧ c.u8 24 = 1 ∧ c.u32 16 ≤ q ∧ q < c.u32 16 + c.u32 20 ∧ (s.queue q).state = .opened :=
  ⟨cm 0x901 [(16, 4, 6), (20, 4, 3), (24, 1, 1), (28, 4, 0)], 7, (begun up (cm 0x901 [(16, 4, 6), (20, 4, 3), (24, 1, 1), (28, 4, 0)])).setQueue 7 { state := .opened, packets := [3] }, by decide⟩

theorem witness_QueueCommandsComplete_queueState_closing : ∃ (c : Cmd) (q : Nat) (s : State), ready s c 0x0901 .any = true ∧ firstErr (queueStateErrs c s) = none ∧ c.u8 24 = 1 ∧ c.u32 16 ≤ q ∧ q < c.u32 16 + c.u32 20 ∧ (s.queue q).state ≠ .opened :=
  ⟨cm 0x901 [(16, 4, 6), (20, 4, 3), (24, 1, 1), (28, 4, 0)], 7, (begun up (cm 0x901 [(16, 4, 6), (20, 4, 3), (24, 1, 1), (28, 4, 0)])).setQueue 7 { state := .closing, packets := [3] }, by decide⟩

theorem witness_QueueCommandsComplete_queueState_empty : ∃ (c : Cmd) (q : Nat) (s : State), ready s c 0x0901 .any = true ∧ firstErr (queueStateErrs c s) = none ∧ c.u8 24 = 2 ∧ c.u32 16 ≤ q ∧ q < c.u32 16 + c.u32 20 ∧ (s.queue q).packets = [] :=
  ⟨cm 0x901 [(16, 4, 6), (20, 4, 3), (24, 1, 2), (28, 4, 0)], 7, (begun up (cm 0x901 [(16, 4, 6), (20, 4, 3), (24, 1, 2), (28, 4, 0)])).setQueue 7 { state := .opened }, by decide⟩

theorem witness_QueueCommandsComplete_queueState_replies : ∃ (c : Cmd) (s : State), ready s c 0x0901 .any = true ∧ firstErr (queueStateErrs c s) = none ∧ (c.u8 24 < 2 ∨ ∀ q, c.u32 16 ≤ q ∧ q < c.u32 16 + c.u32 20 → (s.queue q).packets = []) :=
  ⟨cm 0x901 [(16, 4, 6), (20, 4, 3), (24, 1, 0), (28, 4, 100)], ((((begun up (cm 0x901 [(16, 4, 6), (20, 4, 3), (24, 1, 0), (28, 4, 100)])).setNode (nodeKey 4 6) { live := true }).setNode (nodeKey 4 7) { live := true }).setNode (nodeKey 4 8) { live := true }), by decide, by decide, .inl (by decide)⟩

theorem witness_QueueCommandsComplete_queueState_others : ∃ (c : Cmd) (q : Nat) (s : State), ready s c 0x0901 .any = true ∧ firstErr (queueStateErrs c s) = none ∧ ¬ (c.u32 16 ≤ q ∧ q < c.u32 16 + c.u32 20) :=
  ⟨cm 0x901 [(16, 4, 6), (20, 4, 3), (24, 1, 1), (28, 4, 0)], 9, begun up (cm 0x901 [(16, 4, 6), (20, 4, 3), (24, 1, 1), (28, 4, 0)]), by decide⟩

theorem witness_QueueCommandsComplete_queueState_flush : ∃ (c : Cmd) (q : Nat) (s : State), ready s c 0x0901 .any = true ∧ firstErr (queueStateErrs c s) = none ∧ c.u8 24 = 2 ∧ c.u32 16 ≤ q ∧ q < c.u32 16 + c.u32 20 ∧ (s.queue q).packets ≠ [] :=
  ⟨cm 0x901 [(16, 4, 6), (20, 4, 3), (24, 1, 2), (28, 4, 0)], 7, (begun up (cm 0x901 [(16, 4, 6), (20, 4, 3), (24, 1, 2), (28, 4, 0)])).setQueue 7 { state := .opened, packets := [3] }, by decide⟩

theorem witness_QueueCommandsComplete_queueState_busy : ∃ (c : Cmd) (q : Nat) (s : State), ready s c 0x0901 .any = true ∧ s.ownErr c 2 (c.u32 16) = none ∧ 1 ≤ c.u32 20 ∧ s.ownsRange c.domain 2 (c.u32 16) (c.u32 20) = true ∧ c.u8 24 ≤ 2 ∧ c.zeros 25 3 = none ∧ c.u8 24 = 1 ∧ c.u32 28 = 0 ∧ c.zeros 32 32 = none ∧ c.u32 16 ≤ q ∧ q < c.u32 16 + c.u32 20 ∧ (s.queue q).flushing = true :=
  ⟨cm 0x901 [(16, 4, 6), (20, 4, 3), (24, 1, 1), (28, 4, 0)], 7, (begun up (cm 0x901 [(16, 4, 6), (20, 4, 3), (24, 1, 1), (28, 4, 0)])).setQueue 7 { flushing := true }, by decide⟩

theorem witness_QueueCommandsComplete_flushComplete : ∃ (c : Cmd) (x : Started) (q k : Nat) (s : State), s.startedAs c = some x ∧ x.working = true ∧ c.opcode = 0x0901 ∧ c.u32 16 = q ∧ c.u32 20 = 1 ∧ (s.queue q).flushing = true ∧ (s.queue q).packets = [k] ∧ (s.pkt k).cells = [] :=
  ⟨cm 0x901 [(16, 4, 7), (20, 4, 1), (24, 1, 2)], { cmd := cm 0x901 [(16, 4, 7), (20, 4, 1), (24, 1, 2)], mode := .service, held := true, working := true }, 7, 3, (atWork up (cm 0x901 [(16, 4, 7), (20, 4, 1), (24, 1, 2)])).setQueue 7 { state := .closing, flushing := true, packets := [3] }, by decide⟩

theorem witness_QueueCommandsComplete_flushComplete_range : ∃ (c : Cmd) (x : Started) (s : State), s.startedAs c = some x ∧ x.working = true ∧ c.opcode = 0x0901 :=
  ⟨cm 0x901 [(16, 4, 7), (20, 4, 1), (24, 1, 2)], { cmd := cm 0x901 [(16, 4, 7), (20, 4, 1), (24, 1, 2)], mode := .service, held := true, working := true }, (atWork up (cm 0x901 [(16, 4, 7), (20, 4, 1), (24, 1, 2)])).setQueue 7 { state := .closing, flushing := true, packets := [3, 4] }, by decide⟩

theorem witness_QueueCommandsComplete_nodeQuery : ∃ (c : Cmd) (s : State), ready s c 0x0902 .any = true ∧ c.needReply = none ∧ c.u8 16 ≤ 4 ∧ c.zeros 17 3 = none ∧ c.zeros 24 40 = none ∧ (if c.u8 16 = 4 then s.ownErr c 2 (c.u32 20) = none else c.u32 20 < levelCount (c.u8 16) ∧ s.nodeOwner (nodeKey (c.u8 16) (c.u32 20)) = c.domain ∧ s.nodeExists (nodeKey (c.u8 16) (c.u32 20)) = true) :=
  ⟨cm 0x902 [(16, 1, 4), (20, 4, 7)], begun up (cm 0x902 [(16, 1, 4), (20, 4, 7)]), by decide⟩

theorem witness_QueueCommandsComplete_queueStats : ∃ (c : Cmd) (x : Queue) (s : State), ready s c 0x0903 .any = true ∧ c.needReply = none ∧ s.ownErr c 2 (c.u32 16) = none ∧ c.u8 20 ≤ 1 ∧ c.zeros 21 43 = none ∧ x = s.queue (c.u32 16) :=
  ⟨cm 0x903 [(16, 4, 7), (20, 1, 1)], {}, begun up (cm 0x903 [(16, 4, 7), (20, 1, 1)]), by decide⟩

theorem witness_QueueCommandsComplete_schedLimit : ∃ (c : Cmd) (d : Nat) (s : State), ready s c 0x0904 .d0 = true ∧ c.u8 16 < 16 ∧ c.zeros 17 3 = none ∧ c.zeros 32 32 = none ∧ d = c.u8 16 :=
  ⟨cm 0x904 [(16, 1, 3), (20, 4, 10), (24, 4, 0xFFFFFFFF), (28, 4, 5)], 3, begun up (cm 0x904 [(16, 1, 3), (20, 4, 10), (24, 4, 0xFFFFFFFF), (28, 4, 5)]), by decide⟩

/-! ### QueuesComplete -/

theorem witness_QueuesComplete_enqueue : ∃ (requester : Nat) (w : Writer) (k qn a : Nat) (s : State), w = s.writer requester ∧ w.busy = true ∧ w.decided = true ∧ k = w.packet ∧ (s.pkt k).live = true ∧ (s.pkt k).desc.length ≤ 256 * (s.pkt k).cells.length ∧ qn = (s.pkt k).desc.queue ∧ (s.pending.foldl State.queueAhead s).queue qn = s.queue qn ∧ s.buf.arrivals = [] ∧ (s.pkt k).untrusted = false ∧ (s.queue qn).state = .opened ∧ s.rootOf (nodeKey 4 qn) = some a ∧ a < 128 ∧ (s.port a).state = .up :=
  ⟨3, { packet := 9, busy := true, decided := true }, 9, 7, 5, ((((up.setPkt 9 { live := true, bytes := List.replicate 60 0, cells := [77], desc := { queue := 7, length := 60 } }).setQueue 7 { state := .opened }).setNode (nodeKey 4 7) { live := true, parentLevel := 0, parent := 5 }).setWriter 3 { packet := 9, busy := true, decided := true }).setPort 5 { personality := .ethernet, state := .up }, by decide⟩

theorem witness_QueuesComplete_enqueue_untrusted : ∃ (requester : Nat) (w : Writer) (k qn : Nat) (s : State), w = s.writer requester ∧ w.busy = true ∧ w.decided = true ∧ k = w.packet ∧ (s.pkt k).live = true ∧ (s.pkt k).desc.length ≤ 256 * (s.pkt k).cells.length ∧ qn = (s.pkt k).desc.queue ∧ (s.pending.foldl State.queueAhead s).queue qn = s.queue qn ∧ s.buf.arrivals = [] ∧ (s.pkt k).untrusted = true :=
  ⟨3, { packet := 9, busy := true, decided := true }, 9, 7, ((((up.setPkt 9 { live := true, bytes := List.replicate 60 0, cells := [77], desc := { queue := 7, length := 60 }, untrusted := true }).setQueue 7 { state := .opened }).setNode (nodeKey 4 7) { live := true, parentLevel := 0, parent := 5 }).setWriter 3 { packet := 9, busy := true, decided := true }).setPort 5 { personality := .ethernet, state := .up }, by decide⟩

theorem witness_QueuesComplete_enqueue_closed : ∃ (requester : Nat) (w : Writer) (k qn : Nat) (s : State), w = s.writer requester ∧ w.busy = true ∧ w.decided = true ∧ k = w.packet ∧ (s.pkt k).live = true ∧ (s.pkt k).desc.length ≤ 256 * (s.pkt k).cells.length ∧ qn = (s.pkt k).desc.queue ∧ (s.pending.foldl State.queueAhead s).queue qn = s.queue qn ∧ s.buf.arrivals = [] ∧ (s.pkt k).untrusted = false ∧ (s.queue qn).state = .closed :=
  ⟨3, { packet := 9, busy := true, decided := true }, 9, 7, ((((up.setPkt 9 { live := true, bytes := List.replicate 60 0, cells := [77], desc := { queue := 7, length := 60 } }).setQueue 7 {  }).setNode (nodeKey 4 7) { live := true, parentLevel := 0, parent := 5 }).setWriter 3 { packet := 9, busy := true, decided := true }).setPort 5 { personality := .ethernet, state := .up }, by decide⟩

theorem witness_QueuesComplete_enqueue_any : ∃ (requester : Nat) (w : Writer) (k qn : Nat) (p : Packet) (s : State), w = s.writer requester ∧ w.busy = true ∧ w.decided = true ∧ k = w.packet ∧ (s.pkt k).live = true ∧ (s.pkt k).desc.length ≤ 256 * (s.pkt k).cells.length ∧ qn = (s.pkt k).desc.queue ∧ p = s.pkt k :=
  ⟨3, { packet := 9, busy := true, decided := true }, 9, 7, (((((up.setPkt 9 { live := true, bytes := List.replicate 60 0, cells := [77], desc := { queue := 7, length := 60 } }).setQueue 7 { state := .opened }).setNode (nodeKey 4 7) { live := true, parentLevel := 0, parent := 5 }).setWriter 3 { packet := 9, busy := true, decided := true }).setPort 5 { personality := .ethernet, state := .up }).pkt 9, ((((up.setPkt 9 { live := true, bytes := List.replicate 60 0, cells := [77], desc := { queue := 7, length := 60 } }).setQueue 7 { state := .opened }).setNode (nodeKey 4 7) { live := true, parentLevel := 0, parent := 5 }).setWriter 3 { packet := 9, busy := true, decided := true }).setPort 5 { personality := .ethernet, state := .up }, by decide⟩

theorem witness_QueuesComplete_enqueue_waits : ∃ (requester : Nat) (w : Writer) (s : State), w = s.writer requester ∧ (w.busy = false ∨ w.decided = false ∨ (s.pkt w.packet).live = false ∨ 256 * (s.pkt w.packet).cells.length < (s.pkt w.packet).desc.length) :=
  ⟨3, {}, up, by decide⟩

theorem witness_QueuesComplete_depthSnapshot_every : ∃ (s : State), canon {} s.tm.queues = true :=
  ⟨up.setQueue 7 { state := .opened, depth := 5 }, by decide⟩

theorem witness_QueuesComplete_tokenRefill_every : ∃ (s : State), canon {} s.tm.nodes = true ∧ canon {} s.pol.policers = true :=
  ⟨up.setNode 9 { live := true, cir := 1000000, cbs := 100 }, by decide⟩

theorem witness_QueuesComplete_depthSnapshot : ∃ (q : Nat) (x : Queue) (s : State), s.tm.queues = [(q, x)] :=
  ⟨7, { state := .opened, depth := 5 }, up.setQueue 7 { state := .opened, depth := 5 }, by decide⟩

theorem witness_QueuesComplete_tokenRefill : ∃ (k : Nat) (n : Node) (s : State), s.tm.nodes = [(k, n)] ∧ s.pol.policers = [] :=
  ⟨9, { live := true, cir := 1000000, cbs := 100 }, { up.setNode 9 { live := true, cir := 1000000, cbs := 100 } with now := 400000 }, by decide⟩

theorem witness_QueuesComplete_schedSelect : ∃ (node : Nat) (k : Nat) (path : List (Nat × Nat)) (q p : Nat) (s : State), node < 192 ∧ s.writtenNow = false ∧ k = s.sliceOf node ∧ s.selectedNow k = false ∧ s.rootSchedulable node = true ∧ s.isOut 8 k = false ∧ s.yields node = false ∧ (s.tm.selections.filter fun x => x.slice = k).length < 150 ∧ (descend (State.queueReady node) 5 (nodeKey 0 node) s).map (fun y => y.1) = some path ∧ path.getLast? = some (q, p) :=
  ⟨5, 0, [(nodeKey 4 7, 1)], nodeKey 4 7, 1, { ((((((up.setPort 5 { personality := .ethernet, state := .up }).setNode (nodeKey 0 5) { pir := 0xFFFFFFFF, rings := [(10, [nodeKey 4 7])] }).setNode (nodeKey 4 7) { live := true, parentLevel := 0, parent := 5, priority := 2, weight := 1, pir := 0xFFFFFFFF }).setQueue 7 { state := .opened, packets := [9] }).setPkt 9 { live := true, bytes := List.replicate 60 0, desc := { queue := 7, length := 60 } })) with now := 8 }, by decide +kernel⟩

theorem witness_QueuesComplete_schedSelect_order : ∃ (node : Nat) (a c p : Nat) (l : List (Nat × Nat)) (s : State), node < 192 ∧ s.writtenNow = false ∧ a = nodeKey 0 node ∧ s.selectedNow (s.sliceOf node) = false ∧ s.rootSchedulable node = true ∧ s.isOut 8 (s.sliceOf node) = false ∧ s.yields node = false ∧ (s.tm.selections.filter fun x => x.slice = s.sliceOf node).length < 150 ∧ (descend (State.queueReady node) 5 a s).map (fun y => y.1) = some ((c, p) :: l) ∧
      (∀ d, d ∈ s.children a → (s.node d).priority < 8 ∧ d ∈ look (s.node a).rings (s.node d).priority [] ∧ d ∈ look (s.node a).rings (8 + (s.node d).priority) []) :=
  ⟨5, nodeKey 0 5, nodeKey 4 7, 1, [], { ((((((up.setPort 5 { personality := .ethernet, state := .up }).setNode (nodeKey 0 5) { pir := 0xFFFFFFFF, rings := [(2, [nodeKey 4 7]), (10, [nodeKey 4 7])] }).setNode (nodeKey 4 7) { live := true, parentLevel := 0, parent := 5, priority := 2, weight := 1, pir := 0xFFFFFFFF }).setQueue 7 { state := .opened, packets := [9] }).setPkt 9 { live := true, bytes := List.replicate 60 0, desc := { queue := 7, length := 60 } })) with now := 8 }, by decide +kernel⟩

theorem witness_QueuesComplete_schedSelect_none : ∃ (node : Nat) (s : State), 192 ≤ node ∨ s.asBefore.rootSchedulable node = false ∨ s.isOut 8 (s.sliceOf node) = true ∨ s.asBefore.yields node = true ∨ s.selectedNow (s.sliceOf node) = true ∨ 150 ≤ (s.tm.selections.filter fun x => x.slice = s.sliceOf node).length :=
  ⟨5, up, by decide⟩

theorem witness_QueuesComplete_schedSelect_failed : ∃ (node : Nat) (s : State), s.isOut 8 (s.sliceOf node) = true :=
  ⟨5, { { ((((((up.setPort 5 { personality := .ethernet, state := .up }).setNode (nodeKey 0 5) { pir := 0xFFFFFFFF, rings := [(10, [nodeKey 4 7])] }).setNode (nodeKey 4 7) { live := true, parentLevel := 0, parent := 5, priority := 2, weight := 1, pir := 0xFFFFFFFF }).setQueue 7 { state := .opened, packets := [9] }).setPkt 9 { live := true, bytes := List.replicate 60 0, desc := { queue := 7, length := 60 } })) with now := 8 } with units := { up.units with out := [(8 * 65536, true)] } }, by decide⟩

theorem witness_QueuesComplete_selectionComplete : ∃ (slice : Nat) (x : Selection) (q k : Nat) (l : List Nat) (c p : Nat) (s : State), s.tm.selections = [x] ∧ x.slice = slice ∧ x.queue = q ∧ (s.queue q).packets = k :: l ∧ k ∉ l ∧ x.path = [(c, p)] ∧ c = nodeKey 4 q ∧ q < 2 ^ 20 ∧ x.node < 128 ∧ p < 2 ∧ s.overSojourn q k = false ∧ s.canIssue false (portEntry x.node) = true ∧ (s.pkt k).cells = [] ∧ l ≠ [] :=
  ⟨0, { slice := 0, node := 5, path := [(nodeKey 4 7, 1)], queue := 7 }, 7, 9, [10], nodeKey 4 7, 1, (let s := { ((((((up.setPort 5 { personality := .ethernet, state := .up }).setNode (nodeKey 0 5) { pir := 0xFFFFFFFF, rings := [(10, [nodeKey 4 7])] }).setNode (nodeKey 4 7) { live := true, parentLevel := 0, parent := 5, priority := 2, weight := 1, pir := 0xFFFFFFFF }).setQueue 7 { state := .opened, packets := [9] }).setPkt 9 { live := true, bytes := List.replicate 60 0, desc := { queue := 7, length := 60 } })) with now := 8 }; { s with tm := { s.tm with selections := [{ slice := 0, node := 5, path := [(nodeKey 4 7, 1)], queue := 7 }] } }).setQueue 7 { state := .opened, packets := [9, 10] }, by decide⟩

theorem witness_QueuesComplete_selectionComplete_sojourn : ∃ (slice : Nat) (x : Selection) (q k : Nat) (l : List Nat) (c p : Nat) (s : State), s.tm.selections = [x] ∧ x.slice = slice ∧ x.queue = q ∧ (s.queue q).packets = k :: l ∧ k ∉ l ∧ x.path = [(c, p)] ∧ c = nodeKey 4 q ∧ q < 2 ^ 20 ∧ x.node < 128 ∧ p < 2 ∧ s.overSojourn q k = true :=
  ⟨0, { slice := 0, node := 5, path := [(nodeKey 4 7, 1)], queue := 7 }, 7, 9, [10], nodeKey 4 7, 1, { (let s := { ((((((up.setPort 5 { personality := .ethernet, state := .up }).setNode (nodeKey 0 5) { pir := 0xFFFFFFFF, rings := [(10, [nodeKey 4 7])] }).setNode (nodeKey 4 7) { live := true, parentLevel := 0, parent := 5, priority := 2, weight := 1, pir := 0xFFFFFFFF }).setQueue 7 { state := .opened, packets := [9] }).setPkt 9 { live := true, bytes := List.replicate 60 0, desc := { queue := 7, length := 60 } })) with now := 8 }; { s with tm := { s.tm with selections := [{ slice := 0, node := 5, path := [(nodeKey 4 7, 1)], queue := 7 }] } }).setQueue 7 { state := .opened, packets := [9, 10], sojournUs := 1 } with now := us 1 }, by decide⟩

theorem witness_QueuesComplete_selectionComplete_any : ∃ (slice : Nat) (x : Selection) (k : Nat) (l : List Nat) (s : State), s.tm.selections.find? (fun x => x.slice = slice) = some x ∧ (s.queue x.queue).packets = k :: l ∧ s.overSojourn x.queue k = false ∧ (128 ≤ x.node ∨ s.canIssue false (portEntry x.node) = true) :=
  ⟨0, { slice := 0, node := 5, path := [(nodeKey 4 7, 1)], queue := 7 }, 9, [10], (let s := { ((((((up.setPort 5 { personality := .ethernet, state := .up }).setNode (nodeKey 0 5) { pir := 0xFFFFFFFF, rings := [(10, [nodeKey 4 7])] }).setNode (nodeKey 4 7) { live := true, parentLevel := 0, parent := 5, priority := 2, weight := 1, pir := 0xFFFFFFFF }).setQueue 7 { state := .opened, packets := [9] }).setPkt 9 { live := true, bytes := List.replicate 60 0, desc := { queue := 7, length := 60 } })) with now := 8 }; { s with tm := { s.tm with selections := [{ slice := 0, node := 5, path := [(nodeKey 4 7, 1)], queue := 7 }] } }).setQueue 7 { state := .opened, packets := [9, 10] }, by decide⟩

theorem witness_QueuesComplete_selectionComplete_waits : ∃ (slice : Nat) (x : Selection) (k : Nat) (l : List Nat) (s : State), s.tm.selections.find? (fun x => x.slice = slice) = some x ∧ (s.queue x.queue).packets = k :: l ∧ s.overSojourn x.queue k = false ∧ x.node < 128 ∧ s.canIssue false (portEntry x.node) = false :=
  ⟨0, { slice := 0, node := 5, path := [(nodeKey 4 7, 1)], queue := 7 }, 9, [10], { ((let s := { ((((((up.setPort 5 { personality := .ethernet, state := .up }).setNode (nodeKey 0 5) { pir := 0xFFFFFFFF, rings := [(10, [nodeKey 4 7])] }).setNode (nodeKey 4 7) { live := true, parentLevel := 0, parent := 5, priority := 2, weight := 1, pir := 0xFFFFFFFF }).setQueue 7 { state := .opened, packets := [9] }).setPkt 9 { live := true, bytes := List.replicate 60 0, desc := { queue := 7, length := 60 } })) with now := 8 }; { s with tm := { s.tm with selections := [{ slice := 0, node := 5, path := [(nodeKey 4 7, 1)], queue := 7 }] } }).setQueue 7 { state := .opened, packets := [9, 10] }) with units := { up.units with out := [(3 * 65536 + 5, true)] } }, by decide⟩

theorem witness_QueuesComplete_selectionComplete_emptied : ∃ (slice : Nat) (x : Selection) (s : State), s.tm.selections.find? (fun x => x.slice = slice) = some x ∧ (s.queue x.queue).packets = [] :=
  ⟨0, { slice := 0, node := 5, path := [(nodeKey 4 7, 1)], queue := 7 }, (let s := { ((((((up.setPort 5 { personality := .ethernet, state := .up }).setNode (nodeKey 0 5) { pir := 0xFFFFFFFF, rings := [(10, [nodeKey 4 7])] }).setNode (nodeKey 4 7) { live := true, parentLevel := 0, parent := 5, priority := 2, weight := 1, pir := 0xFFFFFFFF }).setQueue 7 { state := .opened, packets := [9] }).setPkt 9 { live := true, bytes := List.replicate 60 0, desc := { queue := 7, length := 60 } })) with now := 8 }; { s with tm := { s.tm with selections := [{ slice := 0, node := 5, path := [(nodeKey 4 7, 1)], queue := 7 }] } }).setQueue 7 {}, by decide⟩

theorem witness_QueuesComplete_selectionComplete_late : ∃ (slice : Nat) (x : Selection) (k : Nat) (l : List Nat) (s : State), s.tm.selections.find? (fun x => x.slice = slice) = some x ∧ (s.queue x.queue).packets = k :: l ∧ s.overSojourn x.queue k = true :=
  ⟨0, { slice := 0, node := 5, path := [(nodeKey 4 7, 1)], queue := 7 }, 9, [10], { (let s := { ((((((up.setPort 5 { personality := .ethernet, state := .up }).setNode (nodeKey 0 5) { pir := 0xFFFFFFFF, rings := [(10, [nodeKey 4 7])] }).setNode (nodeKey 4 7) { live := true, parentLevel := 0, parent := 5, priority := 2, weight := 1, pir := 0xFFFFFFFF }).setQueue 7 { state := .opened, packets := [9] }).setPkt 9 { live := true, bytes := List.replicate 60 0, desc := { queue := 7, length := 60 } })) with now := 8 }; { s with tm := { s.tm with selections := [{ slice := 0, node := 5, path := [(nodeKey 4 7, 1)], queue := 7 }] } }).setQueue 7 { state := .opened, packets := [9, 10], sojournUs := 1 } with now := us 1 }, by decide⟩

theorem witness_QueuesComplete_selectionComplete_none : ∃ (slice : Nat) (s : State), s.tm.selections.find? (fun x => x.slice = slice) = none :=
  ⟨0, up, by decide⟩

/-! ### PoliceCommandsComplete -/

theorem witness_PoliceCommandsComplete_policerConfig : ∃ (c : Cmd) (k i : Nat) (s : State), ready s c 0x0A00 .any = true ∧ firstErr (policerConfigErrs c s) = none ∧ k = c.u32 16 ∧ ¬ ((s.policer k).cir = c.u32 28 ∧ (s.policer k).rate2 = c.u32 32 ∧ (s.policer k).cbs = c.u32 36 ∧ (s.policer k).size2 = c.u32 40) ∧ c.u8 24 = i ∧ i < 2 :=
  ⟨cm 0xA00 [(16, 4, 70001), (20, 1, 1), (21, 1, 1), (23, 1, 20), (24, 1, 1), (26, 1, 1), (28, 4, 1000000), (32, 4, 2000000), (36, 4, 125000), (40, 4, 250000)], 70001, 1, begun up (cm 0xA00 [(16, 4, 70001), (20, 1, 1), (21, 1, 1), (23, 1, 20), (24, 1, 1), (26, 1, 1), (28, 4, 1000000), (32, 4, 2000000), (36, 4, 125000), (40, 4, 250000)]), by decide⟩

theorem witness_PoliceCommandsComplete_policerConfig_kept : ∃ (c : Cmd) (k : Nat) (p : Policer) (s : State), ready s c 0x0A00 .any = true ∧ firstErr (policerConfigErrs c s) = none ∧ k = c.u32 16 ∧ p = (s.policer k).refill s.tclk ∧ p.cir = c.u32 28 ∧ p.rate2 = c.u32 32 ∧ p.cbs = c.u32 36 ∧ p.size2 = c.u32 40 :=
  ⟨cm 0xA00 [(16, 4, 70001), (20, 1, 1), (21, 1, 1), (23, 1, 20), (24, 1, 0), (26, 1, 1), (28, 4, 1000000), (32, 4, 2000000), (36, 4, 125000), (40, 4, 250000)], 70001, { cir := 1000000, rate2 := 2000000, cbs := 125000, size2 := 250000, tokC := 5, tok2 := 6 }, (begun up (cm 0xA00 [(16, 4, 70001), (20, 1, 1), (21, 1, 1), (23, 1, 20), (24, 1, 0), (26, 1, 1), (28, 4, 1000000), (32, 4, 2000000), (36, 4, 125000), (40, 4, 250000)])).setPolicer 70001 { cir := 1000000, rate2 := 2000000, cbs := 125000, size2 := 250000, tokC := 5, tok2 := 6 }, by decide⟩

theorem witness_PoliceCommandsComplete_policerStats : ∃ (c : Cmd) (x : Policer) (s : State), ready s c 0x0A01 .any = true ∧ c.needReply = none ∧ s.ownErr c 6 (c.u32 16) = none ∧ c.u8 20 ≤ 1 ∧ c.zeros 21 43 = none ∧ x = s.policer (c.u32 16) :=
  ⟨cm 0xA01 [(16, 4, 7), (20, 1, 1)], {}, begun up (cm 0xA01 [(16, 4, 7), (20, 1, 1)]), by decide⟩

theorem witness_PoliceCommandsComplete_congProfile : ∃ (c : Cmd) (id : Nat) (s : State), ready s c 0x0A02 .any = true ∧ firstErr (congProfileErrs c s) = none ∧ c.u8 16 ≠ 2 ∧ id = c.u16 18 :=
  ⟨cm 0xA02 [(16, 1, 0), (18, 2, 12), (20, 1, 2), (21, 1, 4), (22, 2, 1000), (24, 4, 200), (28, 4, 1000), (32, 2, 1024), (36, 4, 4000)], 12, begun up (cm 0xA02 [(16, 1, 0), (18, 2, 12), (20, 1, 2), (21, 1, 4), (22, 2, 1000), (24, 4, 200), (28, 4, 1000), (32, 2, 1024), (36, 4, 4000)]), by decide⟩

theorem witness_PoliceCommandsComplete_congProfile_refused : ∃ (c : Cmd) (s : State), ready s c 0x0A02 .any = true ∧ c.u8 16 = 2 ∧ c.zeros 17 1 = none ∧ c.u16 18 < 4096 ∧ (s.cprofile (c.u16 18)).live = true ∧ (s.cprofile (c.u16 18)).owner = c.domain ∧ c.zeros 20 44 = none ∧ s.profileUsed (c.u16 18) = true :=
  ⟨cm 0xA02 [(16, 1, 2), (18, 2, 12)], ((begun up (cm 0xA02 [(16, 1, 2), (18, 2, 12)])).setCprofile 12 { live := true }).setQueue 5 { slots := [(1, 13)] }, by decide⟩

theorem witness_PoliceCommandsComplete_congProfile_delete : ∃ (c : Cmd) (id : Nat) (s : State), ready s c 0x0A02 .any = true ∧ firstErr (congProfileErrs c s) = none ∧ c.u8 16 = 2 ∧ id = c.u16 18 :=
  ⟨cm 0xA02 [(16, 1, 2), (18, 2, 12)], 12, ((begun up (cm 0xA02 [(16, 1, 2), (18, 2, 12)])).setCprofile 12 { live := true }).setQueue 5 { slots := [(1, 14)] }, by decide⟩

theorem witness_PoliceCommandsComplete_queueCong : ∃ (c : Cmd) (s : State), ready s c 0x0A03 .any = true ∧ s.ownErr c 2 (c.u32 16) = none ∧ 1 ≤ c.u32 20 ∧ s.ownsRange c.domain 2 (c.u32 16) (c.u32 20) = true ∧ (∀ i, i < 4 → c.u16 (24 + 2 * i) = 0xFFFF ∨ ((s.cprofile (c.u16 (24 + 2 * i))).live = true ∧ (s.cprofile (c.u16 (24 + 2 * i))).owner = c.domain)) ∧ c.zeros 34 30 = none :=
  ⟨cm 0xA03 [(16, 4, 6), (20, 4, 3), (24, 2, 0xFFFF), (26, 2, 12), (28, 2, 0xFFFF), (30, 2, 0xFFFF), (32, 2, 500)], (begun up (cm 0xA03 [(16, 4, 6), (20, 4, 3), (24, 2, 0xFFFF), (26, 2, 12), (28, 2, 0xFFFF), (30, 2, 0xFFFF), (32, 2, 500)])).setCprofile 12 { live := true }, by decide⟩

theorem witness_PoliceCommandsComplete_obsSelect : ∃ (c : Cmd) (s : State), ready s c 0x0A04 .any = true ∧ c.u8 16 = 0 ∧ c.zeros 17 3 = none ∧ s.ownErr c 2 (c.u32 20) = none ∧ 1 ≤ c.u32 24 ∧ c.u32 24 ≤ 65536 ∧ s.ownsRange c.domain 2 (c.u32 20) (c.u32 24) = true ∧ c.zeros 28 36 = none ∧ (∀ q, c.u32 20 ≤ q → q < c.u32 20 + c.u32 24 → (s.queue q).selected = false) ∧ s.selectedCount + c.u32 24 ≤ 65536 ∧ (s.selectedOf c.domain).length + c.u32 24 ≤ allowance s.pol.slotAllow c.domain :=
  ⟨cm 0xA04 [(20, 4, 6), (24, 4, 3)], begun up (cm 0xA04 [(20, 4, 6), (24, 4, 3)]), by decide, by decide, by decide, by decide, by decide, by decide, by decide, by decide, fun q _ _ => by rfl, by decide⟩

theorem witness_PoliceCommandsComplete_obsSelect_remove : ∃ (c : Cmd) (s : State), ready s c 0x0A04 .any = true ∧ c.u8 16 = 1 ∧ c.zeros 17 3 = none ∧ s.ownErr c 2 (c.u32 20) = none ∧ 1 ≤ c.u32 24 ∧ c.u32 24 ≤ 65536 ∧ s.ownsRange c.domain 2 (c.u32 20) (c.u32 24) = true ∧ c.zeros 28 36 = none ∧ (rangeOf (c.u32 20) (c.u32 24)).all (fun q => (s.queue q).selected) = true :=
  ⟨cm 0xA04 [(16, 1, 1), (20, 4, 6), (24, 4, 1)], (begun up (cm 0xA04 [(16, 1, 1), (20, 4, 6), (24, 4, 1)])).setQueue 6 { selected := true }, by decide⟩

theorem witness_PoliceCommandsComplete_obsSelect_denied : ∃ (c : Cmd) (s : State), ready s c 0x0A04 .any = true ∧ c.u8 16 ≤ 1 ∧ c.zeros 17 3 = none ∧ s.ownErr c 2 (c.u32 20) = none ∧ 1 ≤ c.u32 24 ∧ c.u32 24 ≤ 65536 ∧ s.ownsRange c.domain 2 (c.u32 20) (c.u32 24) = false :=
  ⟨cm 0xA04 [(20, 4, 1048575), (24, 4, 2)], begun up (cm 0xA04 [(20, 4, 1048575), (24, 4, 2)]), by decide⟩

theorem witness_PoliceCommandsComplete_obsConfig : ∃ (c : Cmd) (x : Observer) (s : State), ready s c 0x0A05 .any = true ∧ c.u8 16 ≤ 1 ∧ 1 ≤ c.u8 17 ∧ c.u8 17 ≤ 8 ∧ c.zeros 18 2 = none ∧ 100 ≤ c.u32 20 ∧ c.u32 20 ≤ 1000000 ∧ c.zeros 24 40 = none ∧ (s.pol.obs.map fun r => r.2.pages).sum - (s.observer c.domain).pages + c.u8 17 ≤ 128 ∧ x = s.observer c.domain :=
  ⟨cm 0xA05 [(16, 1, 1), (17, 1, 2), (20, 4, 1000)], { pages := 1, pos := 9, seq := 8 }, (begun up (cm 0xA05 [(16, 1, 1), (17, 1, 2), (20, 4, 1000)])).setObserver 0 { pages := 1, pos := 9, seq := 8 }, by decide⟩

theorem witness_PoliceCommandsComplete_obsHwm : ∃ (c : Cmd) (s : State), ready s c 0x0A06 .any = true ∧ c.needReply = none ∧ s.ownErr c 2 (c.u32 16) = none ∧ 1 ≤ c.u32 20 ∧ c.u32 20 ≤ 16384 ∧ s.ownsRange c.domain 2 (c.u32 16) (c.u32 20) = true ∧ c.u8 24 = 1 ∧ c.zeros 25 39 = none :=
  ⟨cm 0xA06 [(16, 4, 6), (20, 4, 3), (24, 1, 1)], begun up (cm 0xA06 [(16, 4, 6), (20, 4, 3), (24, 1, 1)]), by decide⟩

theorem witness_PoliceCommandsComplete_obsHwm_kept : ∃ (c : Cmd) (s : State), ready s c 0x0A06 .any = true ∧ c.needReply = none ∧ s.ownErr c 2 (c.u32 16) = none ∧ 1 ≤ c.u32 20 ∧ c.u32 20 ≤ 16384 ∧ s.ownsRange c.domain 2 (c.u32 16) (c.u32 20) = true ∧ c.u8 24 = 0 ∧ c.zeros 25 39 = none :=
  ⟨cm 0xA06 [(16, 4, 6), (20, 4, 3)], begun up (cm 0xA06 [(16, 4, 6), (20, 4, 3)]), by decide⟩

theorem witness_PoliceCommandsComplete_congStats : ∃ (c : Cmd) (s : State), ready s c 0x0A07 .any = true ∧ c.needReply = none ∧ s.ownErr c 2 (c.u32 16) = none ∧ c.u8 20 = 0 ∧ c.zeros 21 43 = none :=
  ⟨cm 0xA07 [(16, 4, 7), (20, 1, 0)], begun up (cm 0xA07 [(16, 4, 7), (20, 1, 0)]), by decide⟩

theorem witness_PoliceCommandsComplete_congStats_clear : ∃ (c : Cmd) (s : State), ready s c 0x0A07 .any = true ∧ c.needReply = none ∧ s.ownErr c 2 (c.u32 16) = none ∧ c.u8 20 = 1 ∧ c.zeros 21 43 = none :=
  ⟨cm 0xA07 [(16, 4, 7), (20, 1, 1)], (begun up (cm 0xA07 [(16, 4, 7), (20, 1, 1)])).setQueue 7 { cong := [(1, 5)] }, by decide⟩

theorem witness_PoliceCommandsComplete_congLimit : ∃ (c : Cmd) (s : State), ready s c 0x0A08 .d0 = true ∧ c.u8 16 < 16 ∧ c.zeros 17 3 = none ∧ c.zeros 28 36 = none :=
  ⟨cm 0xA08 [(16, 1, 3), (20, 4, 10), (24, 4, 20)], begun up (cm 0xA08 [(16, 1, 3), (20, 4, 10), (24, 4, 20)]), by decide⟩

theorem witness_PoliceCommandsComplete_congSeed : ∃ (c : Cmd) (sl : Nat) (s : State), ready s c 0x0A09 .d0 = true ∧ c.host = s.dom.principal ∧ c.zeros 20 44 = none ∧ sl < 32 :=
  ⟨cm 0xA09 [(16, 4, 5)], 5, begun up (cm 0xA09 [(16, 4, 5)]), by decide⟩

theorem witness_PoliceCommandsComplete_obsSamplePass_off : ∃ (domain : Nat) (s : State), (s.observer domain).enable = false ∨ (s.observer domain).pages = 0 ∨ s.now < (s.observer domain).next :=
  ⟨3, up, by decide⟩

theorem witness_PoliceCommandsComplete_obsSamplePass_every : ∃ (domain : Nat) (x : Observer) (n : Nat) (s : State), x = s.observer domain ∧ x.enable = true ∧ 0 < x.pages ∧ x.next ≤ s.now ∧ n = (s.selectedOf domain).length + 1 :=
  ⟨0, { enable := true, pages := 1, periodUs := 100 }, 2, (up.setObserver 0 { enable := true, pages := 1, periodUs := 100 }).setQueue 7 { selected := true, depth := 5 }, by decide⟩

theorem witness_PoliceCommandsComplete_obsSamplePass : ∃ (domain : Nat) (x : Observer) (q : Nat) (s : State), x = s.observer domain ∧ x.enable = true ∧ 0 < x.pages ∧ x.next ≤ s.now ∧ s.selectedOf domain = [q] ∧ (s.queue q).packets = [] :=
  ⟨0, { enable := true, pages := 1, periodUs := 100 }, 7, (up.setObserver 0 { enable := true, pages := 1, periodUs := 100 }).setQueue 7 { selected := true, depth := 5 }, by decide⟩

/-! ### MeteringAndCongestion -/

theorem witness_MeteringAndCongestion_type1 : ∃ (p : Policer) (color b pre t2 tc : Nat), pre = (if p.aware = false ∨ color = 3 then 0 else color) ∧ p.kind = 1 ∧ t2 = (if p.rate2 = unlimited then p.tok2 else p.tok2 - b * 65536) ∧ tc = (if p.cir = unlimited then p.tokC else p.tokC - b * 65536) :=
  ⟨{ kind := 1, cir := 1, rate2 := 2, tok2 := 65536 }, 3, 1, 0, 0, 0, by decide⟩

theorem witness_MeteringAndCongestion_types02 : ∃ (p : Policer) (color b pre r2 t2 tc : Nat), pre = (if p.aware = false ∨ color = 3 then 0 else color) ∧ p.kind ≠ 1 ∧ r2 = (if p.kind = 0 then p.cir else p.rate2) ∧ t2 = (if r2 = unlimited then p.tok2 else p.tok2 - b * 65536) ∧ tc = (if p.cir = unlimited then p.tokC else p.tokC - b * 65536) :=
  ⟨{ kind := 2, cir := 1, rate2 := 2, tok2 := 65536 }, 3, 1, 0, 2, 0, 0, by decide⟩

theorem witness_MeteringAndCongestion_denied : ∃ (s : State) (cls k : Nat) (d : Desc), d = (s.pkt k).desc ∧ d.policed = true ∧ d.mirror = false ∧ d.punt = false ∧ cls ≠ 1 ∧ s.owns d.domain 6 d.policer = true ∧ (s.policerNow d.policer).enable = false :=
  ⟨up.setPkt 9 { live := true, desc := { policed := true, policer := 7 } }, 0, 9, { policed := true, policer := 7 }, by decide⟩

theorem witness_MeteringAndCongestion_skipped : ∃ (s : State) (cls k : Nat), (s.pkt k).desc.policed = false ∨ (s.pkt k).desc.mirror = true ∨ (s.pkt k).desc.punt = true ∨ cls = 1 :=
  ⟨up, 0, 9, by decide⟩

theorem witness_MeteringAndCongestion_profile : ∃ (s : State) (k qn id a d : Nat) (f : CongProfile), qn = (s.pkt k).desc.queue ∧ f = s.profileNow id ∧ (s.queue qn).slot (s.pkt k).desc.color = some id ∧ d = (s.queue qn).depth ∧ a = (s.queue qn).average f s.now d :=
  ⟨((up.setPkt 9 { live := true, desc := { queue := 7 } }).setQueue 7 { slots := [(0, 13)] }).setCprofile 12 { live := true, mode := 1, decayNs := 64 }, 9, 7, 12, 0, 0, { live := true, mode := 1, decayNs := 64 }, by decide⟩

theorem witness_MeteringAndCongestion_noProfile : ∃ (s : State) (k : Nat), (s.queue (s.pkt k).desc.queue).slot (s.pkt k).desc.color = none :=
  ⟨up, 9, by decide⟩

/-! ### FabricCommandsComplete -/

theorem witness_FabricCommandsComplete_fabConfig : ∃ (c : Cmd) (s : State), ready s c 0x0B00 .d0 = true ∧ c.host = s.dom.principal ∧ s.dev.topology = 1 ∧ s.dev.mode = .standby ∧ c.u16 16 < 2048 ∧ c.u8 18 ≤ 1 ∧ c.zeros 19 45 = none :=
  ⟨cm 0xB00 [(16, 2, 12), (18, 1, 1)], { begun up (cm 0xB00 [(16, 2, 12), (18, 1, 1)]) with dev := { up.dev with topology := 1, mode := .standby }, fab := {  } }, by decide⟩

theorem witness_FabricCommandsComplete_fabConfig_wrongMode : ∃ (c : Cmd) (s : State), ready s c 0x0B00 .d0 = true ∧ c.host = s.dom.principal ∧ (s.dev.topology ≠ 1 ∨ s.dev.mode ≠ .standby) :=
  ⟨cm 0xB00 [(16, 2, 12), (18, 1, 1)], { begun up (cm 0xB00 [(16, 2, 12), (18, 1, 1)]) with dev := { up.dev with topology := 1, mode := .service }, fab := { enabled := true, device := 12 } }, by decide⟩

theorem witness_FabricCommandsComplete_fabVoqMap : ∃ (c : Cmd) (s : State), ready s c 0x0B01 .any = true ∧ s.dev.topology = 1 ∧ s.ownErr c 2 (c.u32 16) = none ∧ 1 ≤ c.u32 20 ∧ c.u32 20 ≤ 65536 ∧ s.ownsRange c.domain 2 (c.u32 16) (c.u32 20) = true ∧ (rangeOf (c.u32 16) (c.u32 20)).all s.isVoq = true ∧ c.u16 24 < 2048 ∧ c.zeros 26 2 = none ∧ c.u32 28 + c.u32 20 ≤ 2 ^ 20 ∧ c.zeros 32 32 = none ∧ ((rangeOf (c.u32 16) (c.u32 20)).all fun q => (s.queue q).packets = [] && (s.voq q).balance ≤ 0) = true :=
  ⟨cm 0xB01 [(16, 4, 6), (20, 4, 3), (24, 2, 40), (28, 4, 100)], ((({ begun up (cm 0xB01 [(16, 4, 6), (20, 4, 3), (24, 2, 40), (28, 4, 100)]) with dev := { up.dev with topology := 1, mode := .service }, fab := { enabled := true, device := 12 } }).setNode (nodeKey 4 6) { live := true, parent := 176 }).setNode (nodeKey 4 7) { live := true, parent := 176 }).setNode (nodeKey 4 8) { live := true, parent := 176 }, by decide⟩

theorem witness_FabricCommandsComplete_fabVoqMap_busy : ∃ (c : Cmd) (s : State), ready s c 0x0B01 .any = true ∧ s.dev.topology = 1 ∧ s.ownErr c 2 (c.u32 16) = none ∧ 1 ≤ c.u32 20 ∧ c.u32 20 ≤ 65536 ∧ s.ownsRange c.domain 2 (c.u32 16) (c.u32 20) = true ∧ (rangeOf (c.u32 16) (c.u32 20)).all s.isVoq = true ∧ c.u16 24 < 2048 ∧ c.zeros 26 2 = none ∧ c.u32 28 + c.u32 20 ≤ 2 ^ 20 ∧ c.zeros 32 32 = none ∧ ((rangeOf (c.u32 16) (c.u32 20)).all fun q => (s.queue q).packets = [] && (s.voq q).balance ≤ 0) = false :=
  ⟨cm 0xB01 [(16, 4, 6), (20, 4, 3), (24, 2, 40), (28, 4, 100)], (((({ begun up (cm 0xB01 [(16, 4, 6), (20, 4, 3), (24, 2, 40), (28, 4, 100)]) with dev := { up.dev with topology := 1, mode := .service }, fab := { enabled := true, device := 12 } }).setNode (nodeKey 4 6) { live := true, parent := 176 }).setNode (nodeKey 4 7) { live := true, parent := 176 }).setNode (nodeKey 4 8) { live := true, parent := 176 }).setVoq 7 { mapped := true, balance := 1 }, by decide⟩

theorem witness_FabricCommandsComplete_fabVoqMap_standalone : ∃ (c : Cmd) (s : State), ready s c 0x0B01 .any = true ∧ s.dev.topology ≠ 1 :=
  ⟨cm 0xB01 [(16, 4, 6), (20, 4, 3), (24, 2, 40), (28, 4, 100)], begun up (cm 0xB01 [(16, 4, 6), (20, 4, 3), (24, 2, 40), (28, 4, 100)]), by decide⟩

theorem witness_FabricCommandsComplete_fabPortCredit : ∃ (c : Cmd) (s : State), ready s c 0x0B02 .any = true ∧ s.dev.topology = 1 ∧ s.ownErr c 1 (c.u8 16) = none ∧ (c.u8 17 = 0 ∨ (100 ≤ c.u8 17 ∧ c.u8 17 ≤ 150)) ∧ c.zeros 18 2 = none ∧ 1 ≤ c.u32 20 ∧ c.u32 20 < 2 ^ 28 ∧ c.zeros 24 40 = none :=
  ⟨cm 0xB02 [(16, 1, 5), (17, 1, 105), (20, 4, 1000)], { begun up (cm 0xB02 [(16, 1, 5), (17, 1, 105), (20, 4, 1000)]) with dev := { up.dev with topology := 1, mode := .service }, fab := { enabled := true, device := 12 } }, by decide⟩

theorem witness_FabricCommandsComplete_fabLink : ∃ (c : Cmd) (s : State), ready s c 0x0B03 .d0 = true ∧ s.dev.topology = 1 ∧ c.u8 16 < 192 ∧ c.u8 17 = 1 ∧ c.zeros 18 46 = none ∧ (s.flink (c.u8 16)).work = none :=
  ⟨cm 0xB03 [(16, 1, 77), (17, 1, 1)], ({ begun up (cm 0xB03 [(16, 1, 77), (17, 1, 1)]) with dev := { up.dev with topology := 1, mode := .service }, fab := { enabled := true, device := 12 } }).setFlink 77 { locked := true, robin := true }, by decide⟩

theorem witness_FabricCommandsComplete_fabLink_back : ∃ (c : Cmd) (s : State), ready s c 0x0B03 .d0 = true ∧ s.dev.topology = 1 ∧ c.u8 16 < 192 ∧ c.u8 17 = 0 ∧ c.zeros 18 46 = none ∧ (s.flink (c.u8 16)).work = none ∧ s.isOut 0x0B (c.u8 16) = true ∧ (s.flink (c.u8 16)).laneFailed = false :=
  ⟨cm 0xB03 [(16, 1, 77), (17, 1, 0)], (let s := ({ begun up (cm 0xB03 [(16, 1, 77), (17, 1, 0)]) with dev := { up.dev with topology := 1, mode := .service }, fab := { enabled := true, device := 12 } }).setFlink 77 { commandOut := true }; { s with units := { s.units with out := [(0x0B * 65536 + 77, true)] } }), by decide⟩

theorem witness_FabricCommandsComplete_fabLink_busy : ∃ (c : Cmd) (s : State), ready s c 0x0B03 .d0 = true ∧ s.dev.topology = 1 ∧ c.u8 16 < 192 ∧ c.u8 17 ≤ 1 ∧ c.zeros 18 46 = none ∧ (s.flink (c.u8 16)).work ≠ none :=
  ⟨cm 0xB03 [(16, 1, 77), (17, 1, 1)], ({ begun up (cm 0xB03 [(16, 1, 77), (17, 1, 1)]) with dev := { up.dev with topology := 1, mode := .service }, fab := { enabled := true, device := 12 } }).setFlink 77 { work := some (cm 0xB03 [], 0) }, by decide⟩

theorem witness_FabricCommandsComplete_fabStats : ∃ (c : Cmd) (s : State), ready s c 0x0B04 .d0 = true ∧ c.needReply = none ∧ c.u8 16 ≤ 1 ∧ c.zeros 17 47 = none :=
  ⟨cm 0xB04 [(16, 1, 1)], begun up (cm 0xB04 [(16, 1, 1)]), by decide⟩

/-! ### FabricCellsComplete -/

theorem witness_FabricCellsComplete_fabCellSend_again : ∃ (link : Nat) (x : FabLink) (rdi : Bool) (c : OutCell) (l : List OutCell) (s : State), s.fabRuns = true ∧ x = s.flink link ∧ x.robin = true ∧ rdi = (!x.locked || decide (64 < x.discards s.now)) ∧ s.fab.resend = c :: l :=
  ⟨77, { locked := true, robin := true }, false, { device := 40, seq := 5, link := 3, packet := 9, first := true, last := true, queue := 100, payload := [1, 2] }, [], { up with dev := { up.dev with topology := 1 }, fab := { enabled := true, device := 12, links := [(77, { locked := true, robin := true })], resend := [{ device := 40, seq := 5, link := 3, packet := 9, first := true, last := true, queue := 100, payload := [1, 2] }] } }, by decide⟩

theorem witness_FabricCellsComplete_fabCellSend_data : ∃ (link : Nat) (x : FabLink) (rdi : Bool) (p : OutPacket) (n : Nat) (s : State), s.fabRuns = true ∧ x = s.flink link ∧ x.robin = true ∧ rdi = (!x.locked || decide (64 < x.discards s.now)) ∧ s.fab.resend = [] ∧ s.fab.requests = [] ∧ s.fab.credits = [] ∧ s.fab.sending = [p] ∧ s.unackedTo p.device < 262144 ∧ n = look s.fab.nextSeq p.device 0 :=
  ⟨77, { locked := true, robin := true }, false, { packet := 9, voq := 7, device := 40, queue := 100, first := true, rest := List.replicate 241 3 }, 0, { up with dev := { up.dev with topology := 1 }, fab := { enabled := true, device := 12, links := [(77, { locked := true, robin := true })], sending := [{ packet := 9, voq := 7, device := 40, queue := 100, first := true, rest := List.replicate 241 3 }] } }, by decide +kernel⟩

theorem witness_FabricCellsComplete_fabCellSend_idle : ∃ (link : Nat) (x : FabLink) (rdi : Bool) (s : State), s.fabRuns = true ∧ x = s.flink link ∧ x.robin = true ∧ rdi = (!x.locked || decide (64 < x.discards s.now)) ∧ s.fab.resend = [] ∧ s.fab.requests = [] ∧ s.fab.credits = [] ∧ s.fab.sending = [] :=
  ⟨77, { locked := true, robin := true }, false, { up with dev := { up.dev with topology := 1 }, fab := { enabled := true, device := 12, links := [(77, { locked := true, robin := true })] } }, by decide⟩

theorem witness_FabricCellsComplete_fabCellSend_control : ∃ (link : Nat) (x : FabLink) (rdi : Bool) (r : ReqEntry) (s : State), s.fabRuns = true ∧ x = s.flink link ∧ x.robin = true ∧ rdi = (!x.locked || decide (64 < x.discards s.now)) ∧ s.fab.resend = [] ∧ s.fab.requests = [r] :=
  ⟨77, { locked := true, robin := true }, false, { device := 40, voq := 7, queue := 100, demand := 5, resync := false }, { up with dev := { up.dev with topology := 1 }, fab := { enabled := true, device := 12, links := [(77, { locked := true, robin := true })], requests := [{ device := 40, voq := 7, queue := 100, demand := 5, resync := false }] } }, by decide⟩

theorem witness_FabricCellsComplete_fabCellSend_off : ∃ (link : Nat) (s : State), s.fabRuns = false ∨ ((s.flink link).robin = false ∧ (192 ≤ link ∨ (s.flink link).sends = false)) :=
  ⟨77, up, by decide⟩

theorem witness_FabricCellsComplete_fabCellSend_outIdle : ∃ (link : Nat) (x : FabLink) (rdi : Bool) (s : State), s.fabRuns = true ∧ x = s.flink link ∧ x.robin = false ∧ link < 192 ∧ x.sends = true ∧ rdi = (!x.locked || decide (64 < x.discards s.now)) :=
  ⟨77, { locked := true }, false, { up with dev := { up.dev with topology := 1 }, fab := { enabled := true, device := 12, links := [(77, { locked := true })] } }, by decide⟩

theorem witness_FabricCellsComplete_fabCellSend_anyControl : ∃ (link : Nat) (x : FabLink) (rdi : Bool) (s : State), s.fabRuns = true ∧ x = s.flink link ∧ x.robin = true ∧ rdi = (!x.locked || decide (64 < x.discards s.now)) ∧ s.fab.resend = [] ∧ (s.fab.requests ≠ [] ∨ s.fab.credits ≠ []) :=
  ⟨77, { locked := true, robin := true }, false, { up with dev := { up.dev with topology := 1 }, fab := { enabled := true, device := 12, links := [(77, { locked := true, robin := true })], credits := [(40, 7, 1)] } }, by decide⟩

theorem witness_FabricCellsComplete_fabCellSend_anyData : ∃ (link : Nat) (x : FabLink) (rdi : Bool) (p : OutPacket) (s : State), s.fabRuns = true ∧ x = s.flink link ∧ x.robin = true ∧ rdi = (!x.locked || decide (64 < x.discards s.now)) ∧ s.fab.resend = [] ∧ s.fab.requests = [] ∧ s.fab.credits = [] ∧ s.fab.sending.find? (fun p => s.unackedTo p.device < 262144) = some p :=
  ⟨77, { locked := true, robin := true }, false, { packet := 9, voq := 7, device := 40, queue := 100, first := true, rest := List.replicate 241 3 }, { up with dev := { up.dev with topology := 1 }, fab := { enabled := true, device := 12, links := [(77, { locked := true, robin := true })], sending := [{ packet := 9, voq := 7, device := 40, queue := 100, first := true, rest := List.replicate 241 3 }] } }, by decide +kernel⟩

theorem witness_FabricCellsComplete_fabCellSend_held : ∃ (link : Nat) (x : FabLink) (rdi : Bool) (s : State), s.fabRuns = true ∧ x = s.flink link ∧ x.robin = true ∧ rdi = (!x.locked || decide (64 < x.discards s.now)) ∧ s.fab.resend = [] ∧ s.fab.requests = [] ∧ s.fab.credits = [] ∧ s.fab.sending.find? (fun p => s.unackedTo p.device < 262144) = none :=
  ⟨77, { locked := true, robin := true }, false, { up with dev := { up.dev with topology := 1 }, fab := { enabled := true, device := 12, links := [(77, { locked := true, robin := true })] } }, by decide⟩

theorem witness_FabricCellsComplete_fabCellReceive_fec : ∃ (link : Nat) (cell : Bytes) (fecBad : Bool) (x : FabLink) (s : State), s.fabRuns = true ∧ link < 192 ∧ x = s.flink link ∧ x.locked = true ∧ fecBad = true :=
  ⟨77, [], true, { locked := true }, { up with dev := { up.dev with topology := 1 }, fab := { enabled := true, device := 12, links := [(77, { locked := true })] } }, by decide⟩

theorem witness_FabricCellsComplete_fabCellReceive_crc : ∃ (link : Nat) (cell : Bytes) (fecBad : Bool) (x : FabLink) (s : State), s.fabRuns = true ∧ link < 192 ∧ x = s.flink link ∧ x.locked = true ∧ fecBad = false ∧ crc16 (slice cell 0 14) ≠ beAt cell 14 2 :=
  ⟨77, (List.replicate 14 0 ++ [7, 7]), false, { locked := true }, { up with dev := { up.dev with topology := 1 }, fab := { enabled := true, device := 12, links := [(77, { locked := true })] } }, by decide +kernel⟩

theorem witness_FabricCellsComplete_fabCellReceive_misrouted : ∃ (link : Nat) (cell : Bytes) (fecBad : Bool) (x : FabLink) (s : State), s.fabRuns = true ∧ link < 192 ∧ x = s.flink link ∧ x.locked = true ∧ fecBad = false ∧ crc16 (slice cell 0 14) = beAt cell 14 2 ∧ 1 ≠ byteAt cell 0 / 16 ∧ byteAt cell 0 / 16 < 4 ∧ beAt cell 1 2 % 2048 ≠ s.fab.device :=
  ⟨77, (cellOf 0 1 1 13 40 100 0 68 77 false (List.replicate 68 1)), false, { locked := true }, { up with dev := { up.dev with topology := 1 }, fab := { enabled := true, device := 12, links := [(77, { locked := true })] } }, by decide +kernel⟩

theorem witness_FabricCellsComplete_fabCellReceive_inOrder : ∃ (link : Nat) (cell : Bytes) (fecBad : Bool) (x : FabLink) (d : Nat) (r : RxPair) (k : Nat) (s : State), s.fabRuns = true ∧ link < 192 ∧ x = s.flink link ∧ x.locked = true ∧ fecBad = false ∧ crc16 (slice cell 0 14) = beAt cell 14 2 ∧ byteAt cell 0 / 16 = 0 ∧ beAt cell 1 2 % 2048 = s.fab.device ∧ d = beAt cell 3 2 % 2048 ∧ r = s.rxPair d ∧ beAt cell 8 3 = r.next ∧ r.held = [] ∧ bit (byteAt cell 0) 3 = true ∧ bit (byteAt cell 0) 2 = true ∧ s.buf.arrivals = [] ∧ k = s.nextPkt :=
  ⟨77, (cellOf 0 1 1 12 40 100 0 68 77 false (List.replicate 68 1)), false, { locked := true }, 40, {}, 0, { up with dev := { up.dev with topology := 1 }, fab := { enabled := true, device := 12, links := [(77, { locked := true })] } }, by decide +kernel⟩

theorem witness_FabricCellsComplete_fabCellReceive_duplicate : ∃ (link : Nat) (cell : Bytes) (fecBad : Bool) (x : FabLink) (d : Nat) (r : RxPair) (s : State), s.fabRuns = true ∧ link < 192 ∧ x = s.flink link ∧ x.locked = true ∧ fecBad = false ∧ crc16 (slice cell 0 14) = beAt cell 14 2 ∧ byteAt cell 0 / 16 = 0 ∧ beAt cell 1 2 % 2048 = s.fab.device ∧ d = beAt cell 3 2 % 2048 ∧ r = s.rxPair d ∧ r.held.any (fun h => h.seq = beAt cell 8 3) = true :=
  ⟨77, (cellOf 0 1 1 12 40 100 5 68 77 false (List.replicate 68 1)), false, { locked := true }, 40, { held := [{ seq := 5, first := true, last := true, queue := 100, payload := [] }] }, { up with dev := { up.dev with topology := 1 }, fab := { enabled := true, device := 12, links := [(77, { locked := true })], pairs := [(40, { held := [{ seq := 5, first := true, last := true, queue := 100, payload := [] }] })] } }, by decide +kernel⟩

theorem witness_FabricCellsComplete_fabCellReceive_ack : ∃ (link : Nat) (cell : Bytes) (fecBad : Bool) (x : FabLink) (o : OutCell) (s : State), s.fabRuns = true ∧ link < 192 ∧ x = s.flink link ∧ x.locked = true ∧ fecBad = false ∧ crc16 (slice cell 0 14) = beAt cell 14 2 ∧ byteAt cell 0 / 16 = 3 ∧ beAt cell 1 2 % 2048 = s.fab.device ∧ byteAt cell 11 = 0 ∧ s.fab.unacked = [o] ∧ o.device = beAt cell 3 2 % 2048 ∧ beAt cell 8 3 = o.seq + 1 ∧ s.fab.resend = [] ∧ s.fab.sending = [] :=
  ⟨77, (cellOf 3 0 0 12 40 0 6 0 77 false []), false, { locked := true }, { device := 40, seq := 5, link := 3, packet := 9, first := true, last := true, queue := 100, payload := [1, 2] }, ({ up with dev := { up.dev with topology := 1 }, fab := { enabled := true, device := 12, links := [(77, { locked := true })], unacked := [{ device := 40, seq := 5, link := 3, packet := 9, first := true, last := true, queue := 100, payload := [1, 2] }] } }).setPkt 9 { live := true, cells := [77] }, by decide +kernel⟩

theorem witness_FabricCellsComplete_fabCellReceive_off : ∃ (link : Nat) (cell : Bytes) (fecBad : Bool) (s : State), s.fabRuns = false ∨ 192 ≤ link ∨ (s.flink link).locked = false :=
  ⟨77, [], false, up, by decide⟩

theorem witness_FabricCellsComplete_fabCellReceive_idle : ∃ (link : Nat) (cell : Bytes) (fecBad : Bool) (x : FabLink) (s : State), s.fabRuns = true ∧ link < 192 ∧ x = s.flink link ∧ x.locked = true ∧ fecBad = false ∧ crc16 (slice cell 0 14) = beAt cell 14 2 ∧ byteAt cell 0 / 16 = 1 :=
  ⟨77, (cellOf 1 0 0 0 40 0 0 0 77 false []), false, { locked := true }, { up with dev := { up.dev with topology := 1 }, fab := { enabled := true, device := 12, links := [(77, { locked := true })] } }, by decide +kernel⟩

theorem witness_FabricCellsComplete_fabCellReceive_type : ∃ (link : Nat) (cell : Bytes) (fecBad : Bool) (x : FabLink) (s : State), s.fabRuns = true ∧ link < 192 ∧ x = s.flink link ∧ x.locked = true ∧ fecBad = false ∧ crc16 (slice cell 0 14) = beAt cell 14 2 ∧ 4 ≤ byteAt cell 0 / 16 :=
  ⟨77, (cellOf 4 0 0 0 40 0 0 0 77 false []), false, { locked := true }, { up with dev := { up.dev with topology := 1 }, fab := { enabled := true, device := 12, links := [(77, { locked := true })] } }, by decide +kernel⟩

theorem witness_FabricCellsComplete_fabCellReceive_data : ∃ (link : Nat) (cell : Bytes) (fecBad : Bool) (x : FabLink) (s : State), s.fabRuns = true ∧ link < 192 ∧ x = s.flink link ∧ x.locked = true ∧ fecBad = false ∧ crc16 (slice cell 0 14) = beAt cell 14 2 ∧ byteAt cell 0 / 16 = 0 ∧ beAt cell 1 2 % 2048 = s.fab.device :=
  ⟨77, (cellOf 0 1 1 12 40 100 5 68 77 false (List.replicate 68 1)), false, { locked := true }, { up with dev := { up.dev with topology := 1 }, fab := { enabled := true, device := 12, links := [(77, { locked := true })] } }, by decide +kernel⟩

theorem witness_FabricCellsComplete_fabCellReceive_control : ∃ (link : Nat) (cell : Bytes) (fecBad : Bool) (x : FabLink) (d : Nat) (s : State), s.fabRuns = true ∧ link < 192 ∧ x = s.flink link ∧ x.locked = true ∧ fecBad = false ∧ crc16 (slice cell 0 14) = beAt cell 14 2 ∧ 2 ≤ byteAt cell 0 / 16 ∧ byteAt cell 0 / 16 < 4 ∧ beAt cell 1 2 % 2048 = s.fab.device ∧ d = beAt cell 3 2 % 2048 :=
  ⟨77, (cellOf 3 0 0 12 40 0 6 0 77 false []), false, { locked := true }, 40, { up with dev := { up.dev with topology := 1 }, fab := { enabled := true, device := 12, links := [(77, { locked := true })] } }, by decide +kernel⟩

theorem witness_FabricCellsComplete_fabGapTimeout_early : ∃ (device : Nat) (g : Nat) (s : State), (s.rxPair device).gap = some g ∧ s.now < g + us 64 :=
  ⟨40, 9, { up with now := us 1, fab := { pairs := [(40, { gap := some 9 })] } }, by decide⟩

theorem witness_FabricCellsComplete_fabGapTimeout_any : ∃ (device : Nat) (r : RxPair) (g n : Nat) (s : State), r = s.rxPair device ∧ r.gap = some g ∧ g + us 64 ≤ s.now ∧ n = (r.next + (r.held.map fun c => (c.seq + 2 ^ 24 - r.next) % 2 ^ 24).foldl min (2 ^ 24)) % 2 ^ 24 :=
  ⟨40, { next := 3, held := [{ seq := 5, first := true, last := false, queue := 100, payload := [] }], gap := some 0 }, 0, 5, { up with now := us 64, fab := { pairs := [(40, { next := 3, held := [{ seq := 5, first := true, last := false, queue := 100, payload := [] }], gap := some 0 })] } }, by decide⟩

theorem witness_FabricCellsComplete_fabGapTimeout : ∃ (device : Nat) (r : RxPair) (g : Nat) (h : HeldCell) (s : State), r = s.rxPair device ∧ r.gap = some g ∧ g + us 64 ≤ s.now ∧ r.held = [h] ∧ h.first = false ∧ h.last = true ∧ h.seq < 2 ^ 24 ∧ r.next < 2 ^ 24 ∧ h.seq ≠ r.next :=
  ⟨40, { next := 3, held := [{ seq := 5, first := false, last := true, queue := 100, payload := [] }], gap := some 0 }, 0, { seq := 5, first := false, last := true, queue := 100, payload := [] }, { up with now := us 64, fab := { pairs := [(40, { next := 3, held := [{ seq := 5, first := false, last := true, queue := 100, payload := [] }], gap := some 0 })] } }, by decide⟩

theorem witness_FabricCellsComplete_fabGapTimeout_none : ∃ (device : Nat) (s : State), (s.rxPair device).gap = none :=
  ⟨40, up, by decide⟩

theorem witness_FabricCellsComplete_fabAckTimer_off : ∃ (s : State), s.fabRuns = false :=
  ⟨up, by decide⟩

theorem witness_FabricCellsComplete_fabAckTimer_any : ∃ (s : State), s.fabRuns = true :=
  ⟨{ up with dev := { up.dev with topology := 1 }, fab := { enabled := true, device := 12 } }, by decide⟩

theorem witness_FabricCellsComplete_fabAckTimer : ∃ (d : Nat) (r : RxPair) (s : State), s.fabRuns = true ∧ s.fab.requests = [] ∧ s.fab.credits = [] ∧ s.fab.pairs = [(d, r)] ∧ r.ackDue = true :=
  ⟨40, { ackDue := true }, { up with dev := { up.dev with topology := 1 }, fab := { enabled := true, device := 12, pairs := [(40, { ackDue := true })] } }, by decide⟩

/-! ### FabricCreditAndLinks -/

theorem witness_FabricCreditAndLinks_fabRequestRefresh : ∃ (voq : Nat) (v : Voq) (s : State), v = s.voq voq ∧ v.mapped = true ∧ s.fabRuns = true ∧ 0 < s.voqDemand voq ∧ v.device ≠ s.fab.device ∧ v.lastRequest + us 20 ≤ s.now :=
  ⟨7, { mapped := true, device := 40, dstQueue := 100, balance := -300 }, { ({ up with dev := { up.dev with topology := 1 }, fab := { enabled := true, device := 12, voqs := [(7, { mapped := true, device := 40, dstQueue := 100, balance := -300 })] } }) with now := ms 1 }, by decide⟩

theorem witness_FabricCreditAndLinks_fabRequestRefresh_own : ∃ (voq : Nat) (s : State), (s.voq voq).mapped = true ∧ s.fabRuns = true ∧ 0 < s.voqDemand voq ∧ (s.voq voq).device = s.fab.device ∧ (s.voq voq).lastRequest + us 20 ≤ s.now :=
  ⟨7, { ({ up with dev := { up.dev with topology := 1 }, fab := { enabled := true, device := 12, voqs := [(7, { mapped := true, device := 12, dstQueue := 100, balance := -300 })] } }) with now := ms 1 }, by decide⟩

theorem witness_FabricCreditAndLinks_fabRequestRefresh_none : ∃ (voq : Nat) (s : State), (s.voq voq).mapped = false ∨ s.fabRuns = false ∨ s.voqDemand voq = 0 ∨ s.now < (s.voq voq).lastRequest + us 20 :=
  ⟨7, up, by decide⟩

theorem witness_FabricCreditAndLinks_fabResync_none : ∃ (voq : Nat) (a : Nat) (s : State), (s.voq voq).starvedAt = some a ∧ ((s.voq voq).mapped = false ∨ s.fabRuns = false ∨ s.voqDemand voq = 0 ∨ s.now < a + ms 1) :=
  ⟨7, 0, up.setVoq 7 { starvedAt := some 0 }, by decide⟩

theorem witness_FabricCreditAndLinks_fabResync_own : ∃ (voq : Nat) (v : Voq) (a : Nat) (s : State), v = s.voq voq ∧ v.mapped = true ∧ s.fabRuns = true ∧ 0 < s.voqDemand voq ∧ v.device = s.fab.device ∧ v.starvedAt = some a ∧ a + ms 1 ≤ s.now :=
  ⟨7, { mapped := true, device := 12, dstQueue := 100, balance := -300, starvedAt := some 0 }, 0, { ({ up with dev := { up.dev with topology := 1 }, fab := { enabled := true, device := 12, voqs := [(7, { mapped := true, device := 12, dstQueue := 100, balance := -300, starvedAt := some 0 })] } }) with now := ms 1 }, by decide⟩

theorem witness_FabricCreditAndLinks_fabResync : ∃ (voq : Nat) (v : Voq) (a : Nat) (s : State), v = s.voq voq ∧ v.mapped = true ∧ s.fabRuns = true ∧ 0 < s.voqDemand voq ∧ v.device ≠ s.fab.device ∧ v.starvedAt = some a ∧ a + ms 1 ≤ s.now :=
  ⟨7, { mapped := true, device := 40, dstQueue := 100, balance := -300, starvedAt := some 0 }, 0, { ({ up with dev := { up.dev with topology := 1 }, fab := { enabled := true, device := 12, voqs := [(7, { mapped := true, device := 40, dstQueue := 100, balance := -300, starvedAt := some 0 })] } }) with now := ms 1 }, by decide⟩

theorem witness_FabricCreditAndLinks_fabResync_fed : ∃ (voq : Nat) (s : State), (s.voq voq).starvedAt = none :=
  ⟨7, up, by decide⟩

theorem witness_FabricCreditAndLinks_fabCreditGrant : ∃ (port : Nat) (k : Nat) (d : Demand) (l : List (Nat × Demand)) (s : State), s.fabRuns = true ∧ s.creditRate port ≠ 0 ∧ (s.portCredit port).ready ≤ s.now ∧ s.grantOrder port = (k, d) :: l ∧ k / 2 ^ 20 ≠ s.fab.device ∧ s.fab.credits = [] :=
  ⟨5, (40 * 2 ^ 20 + 7), { queue := 100, demand := 5 }, [], (((({ up with dev := { up.dev with topology := 1 }, fab := { enabled := true, device := 12, portCredit := [(5, { pct := 100, depth := 10 })], demands := [(40 * 2 ^ 20 + 7, { queue := 100, demand := 5 })] } }).setNode (nodeKey 4 100) { live := true, parent := 5 }).setNode (nodeKey 0 5) { pir := 0xFFFFFFFF }).setQueue 100 { state := .opened }).setPort 5 { personality := .ethernet, state := .up, laneCount := 1, laneRate := 3 }, by decide +kernel⟩

theorem witness_FabricCreditAndLinks_fabCreditGrant_own : ∃ (port : Nat) (k : Nat) (d : Demand) (l : List (Nat × Demand)) (s : State), s.fabRuns = true ∧ s.creditRate port ≠ 0 ∧ (s.portCredit port).ready ≤ s.now ∧ s.grantOrder port = (k, d) :: l ∧ k / 2 ^ 20 = s.fab.device ∧ (s.voq (k % 2 ^ 20)).mapped = true :=
  ⟨5, (12 * 2 ^ 20 + 7), { queue := 100, demand := 5 }, [], ((((({ up with dev := { up.dev with topology := 1 }, fab := { enabled := true, device := 12, portCredit := [(5, { pct := 100, depth := 10 })], demands := [(12 * 2 ^ 20 + 7, { queue := 100, demand := 5 })] } }).setNode (nodeKey 4 100) { live := true, parent := 5 }).setNode (nodeKey 0 5) { pir := 0xFFFFFFFF }).setQueue 100 { state := .opened }).setPort 5 { personality := .ethernet, state := .up, laneCount := 1, laneRate := 3 }).setVoq 7 { mapped := true, device := 12 }, by decide +kernel⟩

theorem witness_FabricCreditAndLinks_fabCreditGrant_added : ∃ (port : Nat) (k : Nat) (d : Demand) (l : List (Nat × Demand)) (s : State), s.fabRuns = true ∧ s.creditRate port ≠ 0 ∧ (s.portCredit port).ready ≤ s.now ∧ s.grantOrder port = (k, d) :: l ∧ k / 2 ^ 20 ≠ s.fab.device :=
  ⟨5, (40 * 2 ^ 20 + 7), { queue := 100, demand := 5 }, [], (((({ up with dev := { up.dev with topology := 1 }, fab := { enabled := true, device := 12, credits := [(40, 7, 3)], portCredit := [(5, { pct := 100, depth := 10 })], demands := [(40 * 2 ^ 20 + 7, { queue := 100, demand := 5 })] } }).setNode (nodeKey 4 100) { live := true, parent := 5 }).setNode (nodeKey 0 5) { pir := 0xFFFFFFFF }).setQueue 100 { state := .opened }).setPort 5 { personality := .ethernet, state := .up, laneCount := 1, laneRate := 3 }, by decide +kernel⟩

theorem witness_FabricCreditAndLinks_fabCreditGrant_unmapped : ∃ (port : Nat) (k : Nat) (d : Demand) (l : List (Nat × Demand)) (s : State), s.fabRuns = true ∧ s.creditRate port ≠ 0 ∧ (s.portCredit port).ready ≤ s.now ∧ s.grantOrder port = (k, d) :: l ∧ k / 2 ^ 20 = s.fab.device ∧ (s.voq (k % 2 ^ 20)).mapped = false :=
  ⟨5, (12 * 2 ^ 20 + 7), { queue := 100, demand := 5 }, [], (((({ up with dev := { up.dev with topology := 1 }, fab := { enabled := true, device := 12, portCredit := [(5, { pct := 100, depth := 10 })], demands := [(12 * 2 ^ 20 + 7, { queue := 100, demand := 5 })] } }).setNode (nodeKey 4 100) { live := true, parent := 5 }).setNode (nodeKey 0 5) { pir := 0xFFFFFFFF }).setQueue 100 { state := .opened }).setPort 5 { personality := .ethernet, state := .up, laneCount := 1, laneRate := 3 }, by decide +kernel⟩

theorem witness_FabricCreditAndLinks_fabCreditGrant_none : ∃ (port : Nat) (s : State), s.fabRuns = false ∨ s.creditRate port = 0 ∨ s.now < (s.portCredit port).ready ∨ s.grantOrder port = [] :=
  ⟨5, up, by decide⟩

theorem witness_FabricCreditAndLinks_fabCreditGrant_off : ∃ (port : Nat) (s : State), (s.portCredit port).pct = 0 :=
  ⟨5, up, by decide⟩

theorem witness_FabricCreditAndLinks_fabLaneMarker : ∃ (link : Nat) (m : LaneMarker) (s : State), s.fabRuns = true ∧ link < 192 ∧ m.pattern = 0x39E06CA5D287 ∧ m.laneInv = 255 - m.lane % 256 ∧ m.lineBits = 272000 ∧ (s.flink link).locked = false ∧ 1 ≤ (s.flink link).good :=
  ⟨77, { pattern := 0x39E06CA5D287, lane := 77, laneInv := 178, groupCount := 0, lineBits := 272000, skewNs := 0 }, { up with dev := { up.dev with topology := 1 }, fab := { enabled := true, device := 12, links := [(77, { good := 1 })] } }, by decide⟩

theorem witness_FabricCreditAndLinks_fabLaneMarker_bad : ∃ (link : Nat) (m : LaneMarker) (n : Nat) (s : State), s.fabRuns = true ∧ link < 192 ∧ m.pattern ≠ 0x39E06CA5D287 ∧ (s.flink link).locked = true ∧ (s.flink link).bad = n ∧ n < 4 :=
  ⟨77, { pattern := 7, lane := 77, laneInv := 178, groupCount := 0, lineBits := 272000, skewNs := 0 }, 3, { up with dev := { up.dev with topology := 1 }, fab := { enabled := true, device := 12, links := [(77, { locked := true, bad := 3 })] } }, by decide⟩

theorem witness_FabricCreditAndLinks_fabLaneMarker_off : ∃ (link : Nat) (m : LaneMarker) (s : State), s.fabRuns = false ∨ 192 ≤ link :=
  ⟨77, { pattern := 0x39E06CA5D287, lane := 77, laneInv := 178, groupCount := 0, lineBits := 272000, skewNs := 0 }, up, by decide⟩

theorem witness_FabricCreditAndLinks_fabLaneMarker_any : ∃ (link : Nat) (m : LaneMarker) (x : FabLink) (g : Bool) (n b : Nat) (k : Bool) (s : State), s.fabRuns = true ∧ link < 192 ∧ x = s.flink link ∧ g = decide (m.pattern = 0x39E06CA5D287 ∧ m.laneInv = 255 - m.lane % 256) ∧ n = (if g = false then 0 else if m.lineBits = 272000 then x.good + 1 else 1) ∧ b = (if g = true then 0 else x.bad + 1) ∧ k = (if x.locked = true then decide (b < 4) else decide (2 ≤ n)) :=
  ⟨77, { pattern := 0x39E06CA5D287, lane := 77, laneInv := 178, groupCount := 0, lineBits := 272000, skewNs := 0 }, { good := 1 }, true, 2, 0, true, { up with dev := { up.dev with topology := 1 }, fab := { enabled := true, device := 12, links := [(77, { good := 1 })] } }, by decide⟩

theorem witness_FabricCreditAndLinks_fabLinkFail_any : ∃ (link : Nat) (laneFailed : Bool) (s : State), s.fabRuns = true ∧ link < 192 ∧ (laneFailed = true ∨ (s.flink link).locked = false ∨ 3 ≤ (s.flink link).rdiRun ∨ 64 < (s.flink link).discards s.now) ∧ (s.flink link).robin = true :=
  ⟨77, true, { up with dev := { up.dev with topology := 1 }, fab := { enabled := true, device := 12, links := [(77, { robin := true, locked := true })] } }, by decide⟩

theorem witness_FabricCreditAndLinks_fabLinkFail_outAlready : ∃ (link : Nat) (laneFailed : Bool) (s : State), s.fabRuns = true ∧ link < 192 ∧ (laneFailed = true ∨ (s.flink link).locked = false ∨ 3 ≤ (s.flink link).rdiRun ∨ 64 < (s.flink link).discards s.now) ∧ (s.flink link).robin = false :=
  ⟨77, true, { up with dev := { up.dev with topology := 1 }, fab := { enabled := true, device := 12, links := [(77, { locked := true })] } }, by decide⟩

theorem witness_FabricCreditAndLinks_fabLinkFail_off : ∃ (link : Nat) (laneFailed : Bool) (s : State), s.fabRuns = false ∨ 192 ≤ link :=
  ⟨77, false, up, by decide⟩

theorem witness_FabricCreditAndLinks_fabLinkFail : ∃ (link : Nat) (laneFailed : Bool) (s : State), s.fabRuns = true ∧ link < 192 ∧ laneFailed = false ∧ (s.flink link).locked = false ∧ (s.flink link).robin = true :=
  ⟨77, false, { up with dev := { up.dev with topology := 1 }, fab := { enabled := true, device := 12, links := [(77, { robin := true })] } }, by decide⟩

theorem witness_FabricCreditAndLinks_fabLinkFail_healthy : ∃ (link : Nat) (laneFailed : Bool) (s : State), laneFailed = false ∧ (s.flink link).locked = true ∧ (s.flink link).rdiRun < 3 ∧ (s.flink link).discards s.now ≤ 64 :=
  ⟨77, false, { up with dev := { up.dev with topology := 1 }, fab := { enabled := true, device := 12, links := [(77, { locked := true })] } }, by decide⟩

theorem witness_FabricCreditAndLinks_fabResend : ∃ (link : Nat) (s : State), (s.flink link).resendDue = true ∧ s.fab.resend = [] :=
  ⟨77, { up with dev := { up.dev with topology := 1 }, fab := { enabled := true, device := 12, links := [(77, { resendDue := true })] } }, by decide⟩

theorem witness_FabricCreditAndLinks_fabResend_none : ∃ (link : Nat) (s : State), (s.flink link).resendDue = false :=
  ⟨77, up, by decide⟩

theorem witness_FabricCreditAndLinks_fabResend_any : ∃ (link : Nat) (s : State), (s.flink link).resendDue = true :=
  ⟨77, { up with dev := { up.dev with topology := 1 }, fab := { enabled := true, device := 12, links := [(77, { resendDue := true })] } }, by decide⟩

theorem witness_FabricCreditAndLinks_fabLinkReturn_waits : ∃ (link : Nat) (x : FabLink) (s : State), x = s.flink link ∧ (x.cleanSince = none ∨ s.fabRuns = false ∨ x.robin = true ∨ x.commandOut = true ∨ x.laneFailed = true ∨ x.locked = false ∨ ∃ a, x.cleanSince = some a ∧ s.now < a + ms 10) :=
  ⟨77, {}, up, by decide, .inl (by decide)⟩

theorem witness_FabricCreditAndLinks_fabLinkReturn : ∃ (link : Nat) (x : FabLink) (a : Nat) (s : State), s.fabRuns = true ∧ x = s.flink link ∧ x.cleanSince = some a ∧ x.robin = false ∧ x.commandOut = false ∧ x.laneFailed = false ∧ x.locked = true ∧ a + ms 10 ≤ s.now :=
  ⟨77, { locked := true, cleanSince := some 0 }, 0, { { up with dev := { up.dev with topology := 1 }, fab := { enabled := true, device := 12, links := [(77, { locked := true, cleanSince := some 0 })] } } with now := ms 10 }, by decide⟩

theorem witness_FabricCreditAndLinks_fabLinkMapoutDone : ∃ (link : Nat) (c : Cmd) (a : Nat) (s : State), (s.flink link).work = some (c, a) ∧ s.carried link = 0 :=
  ⟨77, cm 0xB03 [(16, 1, 77), (17, 1, 1)], 0, { up with dev := { up.dev with topology := 1 }, fab := { enabled := true, device := 12, links := [(77, { work := some (cm 0xB03 [(16, 1, 77), (17, 1, 1)], 0) })] } }, by decide⟩

theorem witness_FabricCreditAndLinks_fabLinkMapoutDone_waits : ∃ (link : Nat) (s : State), (s.flink link).work = none ∨ ∃ c a, (s.flink link).work = some (c, a) ∧ s.carried link ≠ 0 ∧ s.now < a + us 100 :=
  ⟨77, up, .inl (by decide)⟩

theorem witness_FabricCreditAndLinks_fabLinkMapoutDone_late : ∃ (link : Nat) (c : Cmd) (a : Nat) (s : State), (s.flink link).work = some (c, a) ∧ s.carried link ≠ 0 ∧ a + us 100 ≤ s.now :=
  ⟨77, cm 0xB03 [(16, 1, 77), (17, 1, 1)], 0, { { up with dev := { up.dev with topology := 1 }, fab := { enabled := true, device := 12, unacked := [{ device := 40, seq := 5, link := 77, packet := 9, first := true, last := true, queue := 100, payload := [1, 2] }], links := [(77, { work := some (cm 0xB03 [(16, 1, 77), (17, 1, 1)], 0) })] } } with now := us 100 }, by decide⟩

/-! ### PonCommandsComplete -/

theorem witness_PonCommandsComplete_ponTreeConfig : ∃ (c : Cmd) (k : Nat) (s : State), ready s c 0x0C00 .any = true ∧ firstErr (ponTreeErrs c s) = none ∧ k = c.u8 16 :=
  ⟨cm 0xC00 [(16, 1, 5), (17, 1, 1), (18, 1, 1), (19, 1, 7), (20, 4, 250000), (25, 1, 20), (28, 4, 1000)], 5, ((begun up (cm 0xC00 [(16, 1, 5), (17, 1, 1), (18, 1, 1), (19, 1, 7), (20, 4, 250000), (25, 1, 20), (28, 4, 1000)])).setPort 5 { personality := .pon, tree := 5, state := .up }).setPonTree 5 { enabled := true, framing := true, teqd := 250000, maxKm := 20 }, by decide⟩

theorem witness_PonCommandsComplete_ponTreeConfig_refused : ∃ (c : Cmd) (i : Nat) (s : State), ready s c 0x0C00 .any = true ∧ s.treeErr c (c.u8 16) = none ∧ c.u8 17 = 1 ∧ c.u8 18 = 0 ∧ 1 ≤ c.u8 19 ∧ 50000 ≤ c.u32 20 ∧ c.u32 20 ≤ 700000 ∧ c.u8 24 = 0 ∧ c.u8 25 = 20 ∧ 232000 ≤ c.u32 20 ∧ c.zeros 26 2 = none ∧ c.u32 28 = 1000 ∧ c.zeros 32 32 = none ∧ s.treeLaneErr (c.u8 16) = none ∧ (s.ponTree (c.u8 16)).teqd ≠ c.u32 20 ∧ (s.onu (c.u8 16) i).state = .operational ∧ i < 256 :=
  ⟨cm 0xC00 [(16, 1, 5), (17, 1, 1), (18, 1, 0), (19, 1, 7), (20, 4, 250000), (25, 1, 20), (28, 4, 1000)], 3, (((begun up (cm 0xC00 [(16, 1, 5), (17, 1, 1), (18, 1, 0), (19, 1, 7), (20, 4, 250000), (25, 1, 20), (28, 4, 1000)])).setPort 5 { personality := .pon, tree := 5, state := .up }).setPonTree 5 { enabled := true, framing := true, teqd := 240000, maxKm := 20 }).setOnu 5 3 { state := .operational }, by decide⟩

theorem witness_PonCommandsComplete_ponBurstProfile : ∃ (c : Cmd) (s : State), ready s c 0x0C01 .any = true ∧ s.treeErr c (c.u8 16) = none ∧ c.u8 17 ≤ 3 ∧ c.u8 18 ≤ 1 ∧ (c.u8 19 = 32 ∨ c.u8 19 = 64) ∧ 64 * upRate (s.ponType (c.u8 16)) ≤ c.u32 20 * 1000000 ∧ c.zeros 32 32 = none ∧ s.treeLaneErr (c.u8 16) = none :=
  ⟨cm 0xC01 [(16, 1, 5), (17, 1, 3), (18, 1, 1), (19, 1, 32), (20, 4, 1593)], ((begun up (cm 0xC01 [(16, 1, 5), (17, 1, 3), (18, 1, 1), (19, 1, 32), (20, 4, 1593)])).setPort 5 { personality := .pon, tree := 5, state := .up }).setPonTree 5 { enabled := true, framing := true, teqd := 250000, maxKm := 20 }, by decide⟩

theorem witness_PonCommandsComplete_ponBurstProfile_short : ∃ (c : Cmd) (s : State), ready s c 0x0C01 .any = true ∧ s.treeErr c (c.u8 16) = none ∧ c.u8 17 ≤ 3 ∧ c.u8 18 ≤ 1 ∧ (c.u8 19 = 32 ∨ c.u8 19 = 64) ∧ c.u32 20 * 1000000 < 64 * upRate (s.ponType (c.u8 16)) :=
  ⟨cm 0xC01 [(16, 1, 5), (17, 1, 3), (18, 1, 1), (19, 1, 32), (20, 4, 1592)], ((begun up (cm 0xC01 [(16, 1, 5), (17, 1, 3), (18, 1, 1), (19, 1, 32), (20, 4, 1592)])).setPort 5 { personality := .pon, tree := 5, state := .up }).setPonTree 5 { enabled := true, framing := true, teqd := 250000, maxKm := 20 }, by decide⟩

theorem witness_PonCommandsComplete_ponOnu_provision : ∃ (c : Cmd) (s : State), ready s c 0x0C02 .any = true ∧ firstErr (ponOnuErrs c s) = none ∧ c.u8 18 = 0 :=
  ⟨cm 0xC02 [(16, 1, 5), (17, 1, 3), (18, 1, 0), (20, 8, 77), (28, 2, 3), (30, 1, 2)], ((begun up (cm 0xC02 [(16, 1, 5), (17, 1, 3), (18, 1, 0), (20, 8, 77), (28, 2, 3), (30, 1, 2)])).setPort 5 { personality := .pon, tree := 5, state := .up }).setPonTree 5 { enabled := true, framing := true, teqd := 250000, maxKm := 20 }, by decide⟩

theorem witness_PonCommandsComplete_ponOnu_remove : ∃ (c : Cmd) (s : State), ready s c 0x0C02 .any = true ∧ firstErr (ponOnuErrs c s) = none ∧ c.u8 18 = 1 :=
  ⟨cm 0xC02 [(16, 1, 5), (17, 1, 3), (18, 1, 1)], (((begun up (cm 0xC02 [(16, 1, 5), (17, 1, 3), (18, 1, 1)])).setPort 5 { personality := .pon, tree := 5, state := .up }).setPonTree 5 { enabled := true, framing := true, teqd := 250000, maxKm := 20 }).setOnu 5 3 { state := .lost, onuId := 3 }, by decide⟩

theorem witness_PonCommandsComplete_ponOnu_release : ∃ (c : Cmd) (s : State), ready s c 0x0C02 .any = true ∧ firstErr (ponOnuErrs c s) = none ∧ c.u8 18 = 2 :=
  ⟨cm 0xC02 [(16, 1, 5), (17, 1, 3), (18, 1, 2)], (((begun up (cm 0xC02 [(16, 1, 5), (17, 1, 3), (18, 1, 2)])).setPort 5 { personality := .pon, tree := 5, state := .up }).setPonTree 5 { enabled := true, framing := true, teqd := 250000, maxKm := 20, sfc := 1 }).setOnu 5 3 { state := .isolated, onuId := 3 }, by decide⟩

theorem witness_PonCommandsComplete_ponOnu_list : ∃ (c : Cmd) (l : List Nat) (s : State), ready s c 0x0C02 .any = true ∧ firstErr (ponOnuErrs c s) = none ∧ c.u8 18 = 3 ∧ l = (s.ponTree (c.u8 16)).discovered :=
  ⟨cm 0xC02 [(16, 1, 5), (17, 1, 3), (18, 1, 3)], [77], ((begun up (cm 0xC02 [(16, 1, 5), (17, 1, 3), (18, 1, 3)])).setPort 5 { personality := .pon, tree := 5, state := .up }).setPonTree 5 { enabled := true, framing := true, teqd := 250000, maxKm := 20, discovered := [77] }, by decide⟩

theorem witness_PonCommandsComplete_ponXgem : ∃ (c : Cmd) (s : State), ready s c 0x0C03 .any = true ∧ c.u8 18 = 0 ∧ s.treeErr c (c.u8 19) = none ∧ c.u16 20 ≤ 65534 ∧ (s.pon.xgems.all fun r => r.1 = c.u16 16 || !r.2.live || r.2.tree ≠ c.u8 19 || r.2.portId ≠ c.u16 20) = true ∧ c.u8 23 < 8 ∧ c.zeros 24 40 = none ∧ s.treeLaneErr (c.u8 19) = none ∧ ((s.xgem (c.u16 16)).live = false ∨ (s.xgem (c.u16 16)).tree = c.u8 19) :=
  ⟨cm 0xC03 [(16, 2, 9), (18, 1, 0), (19, 1, 5), (20, 2, 1021), (22, 1, 3), (23, 1, 1)], ((begun up (cm 0xC03 [(16, 2, 9), (18, 1, 0), (19, 1, 5), (20, 2, 1021), (22, 1, 3), (23, 1, 1)])).setPort 5 { personality := .pon, tree := 5, state := .up }).setPonTree 5 { enabled := true, framing := true, teqd := 250000, maxKm := 20 }, by decide⟩

theorem witness_PonCommandsComplete_ponXgem_clear : ∃ (c : Cmd) (s : State), ready s c 0x0C03 .any = true ∧ c.u8 18 = 1 ∧ s.treeErr c (c.u8 19) = none ∧ c.u8 23 < 8 ∧ c.zeros 24 40 = none ∧ s.treeLaneErr (c.u8 19) = none ∧ (s.xgem (c.u16 16)).live = true ∧ (s.xgem (c.u16 16)).tree = c.u8 19 :=
  ⟨cm 0xC03 [(16, 2, 9), (18, 1, 1), (19, 1, 5)], (((begun up (cm 0xC03 [(16, 2, 9), (18, 1, 1), (19, 1, 5)])).setPort 5 { personality := .pon, tree := 5, state := .up }).setPonTree 5 { enabled := true, framing := true, teqd := 250000, maxKm := 20 }).setXgem 9 { live := true, tree := 5 }, by decide⟩

theorem witness_PonCommandsComplete_ponXgem_missing : ∃ (c : Cmd) (s : State), ready s c 0x0C03 .any = true ∧ c.u8 18 = 1 ∧ s.treeErr c (c.u8 19) = none ∧ c.u8 23 < 8 ∧ c.zeros 24 40 = none ∧ s.treeLaneErr (c.u8 19) = none ∧ ((s.xgem (c.u16 16)).live = false ∨ (s.xgem (c.u16 16)).tree ≠ c.u8 19) :=
  ⟨cm 0xC03 [(16, 2, 9), (18, 1, 1), (19, 1, 5)], ((begun up (cm 0xC03 [(16, 2, 9), (18, 1, 1), (19, 1, 5)])).setPort 5 { personality := .pon, tree := 5, state := .up }).setPonTree 5 { enabled := true, framing := true, teqd := 250000, maxKm := 20 }, by decide⟩

theorem witness_PonCommandsComplete_ponOnuKey : ∃ (c : Cmd) (s : State), ready s c 0x0C04 .any = true ∧ s.treeErr c (c.u8 16) = none ∧ c.u8 18 = 1 ∧ s.ownErr c 8 (c.u32 20) = none ∧ c.zeros 24 40 = none ∧ (s.onu (c.u8 16) (c.u8 17)).state ≠ .empty ∧ c.u8 17 ≠ 0xFF ∧ s.treeLaneErr (c.u8 16) = none ∧ c.u8 19 = 0 :=
  ⟨cm 0xC04 [(16, 1, 5), (17, 1, 3), (18, 1, 1), (19, 1, 0), (20, 4, 9)], (((begun up (cm 0xC04 [(16, 1, 5), (17, 1, 3), (18, 1, 1), (19, 1, 0), (20, 4, 9)])).setPort 5 { personality := .pon, tree := 5, state := .up }).setPonTree 5 { enabled := true, framing := true, teqd := 250000, maxKm := 20 }).setOnu 5 3 { state := .operational }, by decide⟩

theorem witness_PonCommandsComplete_ponOnuKey_activate : ∃ (c : Cmd) (s : State), ready s c 0x0C04 .any = true ∧ s.treeErr c (c.u8 16) = none ∧ c.u8 18 = 1 ∧ s.ownErr c 8 (c.u32 20) = none ∧ c.zeros 24 40 = none ∧ (s.onu (c.u8 16) (c.u8 17)).state ≠ .empty ∧ c.u8 17 ≠ 0xFF ∧ s.treeLaneErr (c.u8 16) = none ∧ c.u8 19 = 1 ∧ (s.onu (c.u8 16) (c.u8 17)).switch = none ∧ (s.onu (c.u8 16) (c.u8 17)).state.answers = true :=
  ⟨cm 0xC04 [(16, 1, 5), (17, 1, 3), (18, 1, 1), (19, 1, 1), (20, 4, 9)], (((begun up (cm 0xC04 [(16, 1, 5), (17, 1, 3), (18, 1, 1), (19, 1, 1), (20, 4, 9)])).setPort 5 { personality := .pon, tree := 5, state := .up }).setPonTree 5 { enabled := true, framing := true, teqd := 250000, maxKm := 20 }).setOnu 5 3 { state := .operational }, by decide⟩

theorem witness_PonCommandsComplete_ponOnuKey_bind : ∃ (c : Cmd) (k : Nat) (s : State), ready s c 0x0C04 .any = true ∧ s.treeErr c (c.u8 16) = none ∧ (c.u8 18 = 1 ∨ c.u8 18 = 2) ∧ s.ownErr c 8 (c.u32 20) = none ∧ c.zeros 24 40 = none ∧ (c.u8 17 = 0xFF ∨ (s.onu (c.u8 16) (c.u8 17)).state ≠ .empty) ∧ s.treeLaneErr (c.u8 16) = none ∧ c.u8 19 = 0 ∧ k = c.u32 20 + 1 :=
  ⟨cm 0xC04 [(16, 1, 5), (17, 1, 255), (18, 1, 2), (19, 1, 0), (20, 4, 9)], 10, ((begun up (cm 0xC04 [(16, 1, 5), (17, 1, 255), (18, 1, 2), (19, 1, 0), (20, 4, 9)])).setPort 5 { personality := .pon, tree := 5, state := .up }).setPonTree 5 { enabled := true, framing := true, teqd := 250000, maxKm := 20 }, by decide⟩

theorem witness_PonCommandsComplete_ponOnuKey_exchange : ∃ (c : Cmd) (n : Nat) (s : State), ready s c 0x0C04 .any = true ∧ s.treeErr c (c.u8 16) = none ∧ (c.u8 18 = 1 ∨ c.u8 18 = 2) ∧ s.ownErr c 8 (c.u32 20) = none ∧ c.zeros 24 40 = none ∧ (c.u8 17 = 0xFF ∨ (s.onu (c.u8 16) (c.u8 17)).state ≠ .empty) ∧ s.treeLaneErr (c.u8 16) = none ∧ c.u8 19 = 1 ∧ (if c.u8 17 = 0xFF then (s.ponTree (c.u8 16)).bcastSwitch = none else (s.onu (c.u8 16) (c.u8 17)).switch = none) ∧ canon {} s.pon.onus = true ∧ n = (s.ponTree (c.u8 16)).sfc + 8 :=
  ⟨cm 0xC04 [(16, 1, 5), (17, 1, 255), (18, 1, 2), (19, 1, 1), (20, 4, 9)], 8, ((begun up (cm 0xC04 [(16, 1, 5), (17, 1, 255), (18, 1, 2), (19, 1, 1), (20, 4, 9)])).setPort 5 { personality := .pon, tree := 5, state := .up }).setPonTree 5 { enabled := true, framing := true, teqd := 250000, maxKm := 20 }, by decide⟩

theorem witness_PonCommandsComplete_ponOmciSend : ∃ (c : Cmd) (b : BufRead) (s : State), ready s c 0x0C05 .any = true ∧ c.bufferErr = none ∧ 8 ≤ c.u32 24 ∧ c.u32 24 ≤ 1980 ∧ s.treeErr c (c.u8 28) = none ∧ c.zeros 30 34 = none ∧ (s.onu (c.u8 28) (c.u8 29)).state ≠ .empty ∧ (s.ponTree (c.u8 28)).omciOut.length < 64 ∧ s.treeLaneErr (c.u8 28) = none ∧ b.err = none :=
  ⟨cm 0xC05 [(16, 8, 0x4000), (24, 4, 8), (28, 1, 5), (29, 1, 3)], .data (List.replicate 8 0), (((begun up (cm 0xC05 [(16, 8, 0x4000), (24, 4, 8), (28, 1, 5), (29, 1, 3)])).setPort 5 { personality := .pon, tree := 5, state := .up }).setPonTree 5 { enabled := true, framing := true, teqd := 250000, maxKm := 20 }).setOnu 5 3 { state := .operational }, by decide⟩

theorem witness_PonCommandsComplete_ponTod : ∃ (c : Cmd) (s : State), ready s c 0x0C06 .any = true ∧ c.needReply = none ∧ s.treeErr c (c.u8 16) = none ∧ c.zeros 17 47 = none ∧ s.treeLaneErr (c.u8 16) = none :=
  ⟨cm 0xC06 [(16, 1, 5)], ((begun up (cm 0xC06 [(16, 1, 5)])).setPort 5 { personality := .pon, tree := 5, state := .up }).setPonTree 5 { enabled := true, framing := true, teqd := 250000, maxKm := 20 }, by decide⟩

theorem witness_PonCommandsComplete_ponStats : ∃ (c : Cmd) (x : PonTree) (s : State), ready s c 0x0C07 .any = true ∧ c.needReply = none ∧ s.treeErr c (c.u8 16) = none ∧ c.u8 17 ≤ 1 ∧ c.zeros 18 46 = none ∧ s.treeLaneErr (c.u8 16) = none ∧ x = s.ponTree (c.u8 16) :=
  ⟨cm 0xC07 [(16, 1, 5), (17, 1, 1)], { enabled := true, framing := true, teqd := 250000, maxKm := 20 }, ((begun up (cm 0xC07 [(16, 1, 5), (17, 1, 1)])).setPort 5 { personality := .pon, tree := 5, state := .up }).setPonTree 5 { enabled := true, framing := true, teqd := 250000, maxKm := 20 }, by decide⟩

/-! ### PonTreesComplete -/

theorem witness_PonTreesComplete_ponDsFrame : ∃ (tree : Nat) (x : PonTree) (s : State), tree < 48 ∧ s.canFrame tree = true ∧ x = s.ponTree tree ∧ x.maps = [] ∧ x.energyNow = false ∧ x.bcastSwitch = none ∧ s.onusOf tree = [] ∧ x.omciOut = [] :=
  ⟨5, { enabled := true, framing := true, teqd := 250000, maxKm := 20 }, ((up.setPort 5 { personality := .pon, tree := 5, state := .up }).setPonTree 5 { enabled := true, framing := true, teqd := 250000, maxKm := 20 }), by decide⟩

theorem witness_PonTreesComplete_ponDsFrame_any : ∃ (tree : Nat) (x : PonTree) (s : State), tree < 48 ∧ s.canFrame tree = true ∧ x = s.ponTree tree :=
  ⟨5, { enabled := true, framing := true, teqd := 250000, maxKm := 20, omciOut := [(3, [])] }, ((up.setPort 5 { personality := .pon, tree := 5, state := .up }).setPonTree 5 { enabled := true, framing := true, teqd := 250000, maxKm := 20, omciOut := [(3, [])] }), by decide⟩

theorem witness_PonTreesComplete_ponDsFrame_noTree : ∃ (tree : Nat) (s : State), 48 ≤ tree :=
  ⟨48, up, by decide⟩

theorem witness_PonTreesComplete_ponDsFrame_dark : ∃ (tree : Nat) (s : State), s.canFrame tree = false :=
  ⟨5, up, by decide⟩

theorem witness_PonTreesComplete_ponBurstReceive_accepted : ∃ (tree : Nat) (b : Burst) (w : GrantWindow) (i : Nat) (s : State), b.bitErrors ≤ 3 ∧ s.frames tree = true ∧ b.badCodewords = 0 ∧ b.allocs = [] ∧ (s.ponTree tree).windows = [w] ∧ i = w.burst.onu ∧ w.holds (s.ponType tree) b.arrival = true ∧ b.onuId = some (s.onu tree i).onuId ∧ (s.onu tree i).state = .ranging ∧ (s.onu tree i).rangeSent = true ∧ (s.onu tree i).offsets = [] :=
  ⟨5, { arrival := 8978930, bitErrors := 3, onuId := some 3, badCodewords := 0, allocs := [] }, { number := 4, frame := 2, burst := { onu := 3, allocs := [] }, expected := 9000000 }, 3, ((up.setPort 5 { personality := .pon, tree := 5, state := .up }).setPonTree 5 { enabled := true, framing := true, teqd := 250000, maxKm := 20, windows := [{ number := 4, frame := 2, burst := { onu := 3, allocs := [] }, expected := 9000000 }] }).setOnu 5 3 { state := .ranging, onuId := 3, rangeSent := true, missed := 5 }, by decide⟩

theorem witness_PonTreesComplete_ponBurstReceive_candidate : ∃ (tree : Nat) (b : Burst) (w : GrantWindow) (i id j n : Nat) (s : State), b.bitErrors ≤ 3 ∧ s.frames tree = true ∧ b.badCodewords = 0 ∧ b.allocs = [] ∧ (s.ponTree tree).windows = [w] ∧ i = w.burst.onu ∧ w.holds (s.ponType tree) b.arrival = false ∧ (s.ponTree tree).quiet = [] ∧ b.onuId = some id ∧ s.onuById tree id = some j ∧ (s.onu tree j).state = .operational ∧ n = (s.lastSecond (s.onu tree j).candidates).length + 1 ∧ n < (s.ponTree tree).rogueLimit :=
  ⟨5, { arrival := 9084280, bitErrors := 3, onuId := some 3, badCodewords := 0, allocs := [] }, { number := 4, frame := 2, burst := { onu := 3, allocs := [] }, expected := 9000000 }, 3, 3, 3, 1, ((up.setPort 5 { personality := .pon, tree := 5, state := .up }).setPonTree 5 { enabled := true, framing := true, teqd := 250000, maxKm := 20, windows := [{ number := 4, frame := 2, burst := { onu := 3, allocs := [] }, expected := 9000000 }] }).setOnu 5 3 { state := .operational, onuId := 3 }, by decide⟩

theorem witness_PonTreesComplete_ponBurstReceive_isolated : ∃ (tree : Nat) (b : Burst) (w : GrantWindow) (i id j n : Nat) (v : Bool) (s : State), b.bitErrors ≤ 3 ∧ s.frames tree = true ∧ b.badCodewords = 0 ∧ b.allocs = [] ∧ (s.ponTree tree).windows = [w] ∧ i = w.burst.onu ∧ w.holds (s.ponType tree) b.arrival = false ∧ (s.ponTree tree).quiet = [] ∧ b.onuId = some id ∧ s.onuById tree id = some j ∧ (s.onu tree j).state = .operational ∧ n = (s.lastSecond (s.onu tree j).candidates).length + 1 ∧ (s.ponTree tree).rogueLimit ≤ n ∧ (s.ponTree tree).rogueManual = v :=
  ⟨5, { arrival := 9084280, bitErrors := 3, onuId := some 3, badCodewords := 0, allocs := [] }, { number := 4, frame := 2, burst := { onu := 3, allocs := [] }, expected := 9000000 }, 3, 3, 3, 4, false, ((up.setPort 5 { personality := .pon, tree := 5, state := .up }).setPonTree 5 { enabled := true, framing := true, teqd := 250000, maxKm := 20, windows := [{ number := 4, frame := 2, burst := { onu := 3, allocs := [] }, expected := 9000000 }] }).setOnu 5 3 { state := .operational, onuId := 3, candidates := [0, 0, 0] }, by decide⟩

theorem witness_PonTreesComplete_ponBurstReceive_unheard : ∃ (tree : Nat) (b : Burst) (s : State), 3 < b.bitErrors ∨ s.frames tree = false :=
  ⟨5, { arrival := 0, bitErrors := 3, onuId := some 3, badCodewords := 0, allocs := [] }, up, by decide⟩

theorem witness_PonTreesComplete_ponBurstReceive_inWindow : ∃ (tree : Nat) (b : Burst) (hit : List GrantWindow) (w : GrantWindow) (s : State), b.bitErrors ≤ 3 ∧ s.frames tree = true ∧ hit = (s.ponTree tree).windows.filter (fun w => w.holds (s.ponType tree) b.arrival) ∧ earliest hit = some w ∧ b.onuId = some (s.onu tree w.burst.onu).onuId ∧ (s.onu tree w.burst.onu).state ≠ .empty :=
  ⟨5, { arrival := 8978930, bitErrors := 3, onuId := some 3, badCodewords := 0, allocs := [] }, [{ number := 4, frame := 2, burst := { onu := 3, allocs := [] }, expected := 9000000 }], { number := 4, frame := 2, burst := { onu := 3, allocs := [] }, expected := 9000000 }, ((up.setPort 5 { personality := .pon, tree := 5, state := .up }).setPonTree 5 { enabled := true, framing := true, teqd := 250000, maxKm := 20, windows := [{ number := 4, frame := 2, burst := { onu := 3, allocs := [] }, expected := 9000000 }] }).setOnu 5 3 { state := .operational, onuId := 3 }, by decide⟩

theorem witness_PonTreesComplete_ponBurstReceive_foreign : ∃ (tree : Nat) (b : Burst) (hit : List GrantWindow) (w : GrantWindow) (s : State), b.bitErrors ≤ 3 ∧ s.frames tree = true ∧ hit = (s.ponTree tree).windows.filter (fun w => w.holds (s.ponType tree) b.arrival) ∧ earliest hit = some w ∧ ¬ (b.onuId = some (s.onu tree w.burst.onu).onuId ∧ (s.onu tree w.burst.onu).state ≠ .empty) :=
  ⟨5, { arrival := 8978930, bitErrors := 3, onuId := some 9, badCodewords := 0, allocs := [] }, [{ number := 4, frame := 2, burst := { onu := 3, allocs := [] }, expected := 9000000 }], { number := 4, frame := 2, burst := { onu := 3, allocs := [] }, expected := 9000000 }, ((up.setPort 5 { personality := .pon, tree := 5, state := .up }).setPonTree 5 { enabled := true, framing := true, teqd := 250000, maxKm := 20, windows := [{ number := 4, frame := 2, burst := { onu := 3, allocs := [] }, expected := 9000000 }] }).setOnu 5 3 { state := .operational, onuId := 3 }, by decide⟩

theorem witness_PonTreesComplete_ponBurstReceive_ranging : ∃ (tree : Nat) (b : Burst) (lo hi i : Nat) (s : State), b.bitErrors ≤ 3 ∧ s.frames tree = true ∧ (s.ponTree tree).windows.filter (fun w => w.holds (s.ponType tree) b.arrival) = [] ∧ (s.ponTree tree).quiet = [(lo, hi, some i)] ∧ lo ≤ b.arrival ∧ b.arrival < hi ∧ b.onuId = some (s.onu tree i).onuId ∧ (s.onu tree i).state = .ranging ∧ (s.onu tree i).rangeSent = false :=
  ⟨5, { arrival := 900, bitErrors := 3, onuId := some 3, badCodewords := 0, allocs := [] }, 0, 1000, 3, ((up.setPort 5 { personality := .pon, tree := 5, state := .up }).setPonTree 5 { enabled := true, framing := true, teqd := 250000, maxKm := 20, quiet := [(0, 1000, some 3)] }).setOnu 5 3 { state := .ranging, onuId := 3 }, by decide⟩

theorem witness_PonTreesComplete_ponBurstReceive_outside : ∃ (tree : Nat) (b : Burst) (s : State), b.bitErrors ≤ 3 ∧ s.frames tree = true ∧ (s.ponTree tree).windows.filter (fun w => w.holds (s.ponType tree) b.arrival) = [] ∧ (s.ponTree tree).quiet.all (fun q => !(decide (q.1 ≤ b.arrival) && decide (b.arrival < q.2.1))) = true :=
  ⟨5, { arrival := 900, bitErrors := 3, onuId := some 3, badCodewords := 0, allocs := [] }, ((up.setPort 5 { personality := .pon, tree := 5, state := .up }).setPonTree 5 { enabled := true, framing := true, teqd := 250000, maxKm := 20 }), by decide⟩

theorem witness_PonTreesComplete_ponWindowClose_any : ∃ (tree : Nat) (window : Nat) (w : GrantWindow) (s : State), (s.ponTree tree).windows.find? (fun w => w.number = window) = some w ∧ w.expected + bitTimes (s.ponType tree) 32 ≤ s.time16 :=
  ⟨5, 4, { number := 4, frame := 2, burst := { onu := 3, allocs := [] }, expected := 0 }, { ((up.setPort 5 { personality := .pon, tree := 5, state := .up }).setPonTree 5 { enabled := true, framing := true, teqd := 250000, maxKm := 20, windows := [{ number := 4, frame := 2, burst := { onu := 3, allocs := [] }, expected := 0 }] }) with now := 6000 }, by decide⟩

theorem witness_PonTreesComplete_ponWindowClose_waits : ∃ (tree : Nat) (window : Nat) (s : State), (s.ponTree tree).windows.find? (fun w => w.number = window) = none ∨ ∃ w, (s.ponTree tree).windows.find? (fun w => w.number = window) = some w ∧ s.time16 < w.expected + bitTimes (s.ponType tree) 32 :=
  ⟨5, 4, up, .inl (by decide)⟩

theorem witness_PonTreesComplete_ponWindowClose : ∃ (tree : Nat) (window : Nat) (w : GrantWindow) (i m : Nat) (s : State), (s.ponTree tree).windows = [w] ∧ w.number = window ∧ w.expected + bitTimes (s.ponType tree) 32 ≤ s.time16 ∧ w.burst.allocs = [] ∧ i = w.burst.onu ∧ (s.onu tree i).state = .operational ∧ (s.onu tree i).missed = m :=
  ⟨5, 4, { number := 4, frame := 2, burst := { onu := 3, allocs := [] }, expected := 0 }, 3, 7, { ((up.setPort 5 { personality := .pon, tree := 5, state := .up }).setPonTree 5 { enabled := true, framing := true, teqd := 250000, maxKm := 20, windows := [{ number := 4, frame := 2, burst := { onu := 3, allocs := [] }, expected := 0 }] }) with now := 6000 }.setOnu 5 3 { state := .operational, missed := 7 }, by decide⟩

theorem witness_PonTreesComplete_ponWindowClose_gone : ∃ (tree : Nat) (window : Nat) (s : State), (s.ponTree tree).windows = [] :=
  ⟨5, 4, up, by decide⟩

theorem witness_PonTreesComplete_ponEnergyDetect : ∃ (tree : Nat) (ns : Nat) (s : State), 64 ≤ ns ∧ s.frames tree = true ∧ (s.ponTree tree).windows = [] ∧ (s.ponTree tree).quiet = [] :=
  ⟨5, 64, ((up.setPort 5 { personality := .pon, tree := 5, state := .up }).setPonTree 5 { enabled := true, framing := true, teqd := 250000, maxKm := 20 }), by decide⟩

theorem witness_PonTreesComplete_ponEnergyDetect_any : ∃ (tree : Nat) (ns : Nat) (s : State), 64 ≤ ns ∧ s.frames tree = true ∧ ((s.ponTree tree).windows.any (fun w => w.holds (s.ponType tree) s.time16) || (s.ponTree tree).quiet.any (fun q => q.1 ≤ s.time16 && s.time16 < q.2.1)) = false :=
  ⟨5, 64, ((up.setPort 5 { personality := .pon, tree := 5, state := .up }).setPonTree 5 { enabled := true, framing := true, teqd := 250000, maxKm := 20, search := some (3, 9, false) }), by decide⟩

theorem witness_PonTreesComplete_ponEnergyDetect_granted : ∃ (tree : Nat) (ns : Nat) (s : State), s.frames tree = false ∨ ((s.ponTree tree).windows.any (fun w => w.holds (s.ponType tree) s.time16) || (s.ponTree tree).quiet.any (fun q => q.1 ≤ s.time16 && s.time16 < q.2.1)) = true :=
  ⟨5, 64, up, by decide⟩

theorem witness_PonTreesComplete_ponEnergyDetect_short : ∃ (tree : Nat) (ns : Nat) (s : State), ns < 64 :=
  ⟨5, 63, ((up.setPort 5 { personality := .pon, tree := 5, state := .up }).setPonTree 5 { enabled := true, framing := true, teqd := 250000, maxKm := 20 }), by decide⟩

theorem witness_PonTreesComplete_ponSerialNumber : ∃ (tree : Nat) (serial : Nat) (a b i : Nat) (o : Onu) (s : State), s.frames tree = true ∧ (s.ponTree tree).quiet = [(a, b, none)] ∧ a ≤ s.time16 ∧ s.time16 < b ∧ s.onusOf tree = [(i, o)] ∧ o = s.onu tree i ∧ o.serial = serial ∧ o.state = .provisioned ∧ (s.ponTree tree).rangeDue = [] :=
  ⟨5, 77, 0, 9, 3, { state := .provisioned, serial := 77 }, ((up.setPort 5 { personality := .pon, tree := 5, state := .up }).setPonTree 5 { enabled := true, framing := true, teqd := 250000, maxKm := 20, quiet := [(0, 9, none)] }).setOnu 5 3 { state := .provisioned, serial := 77 }, by decide⟩

theorem witness_PonTreesComplete_ponSerialNumber_unknown : ∃ (tree : Nat) (serial : Nat) (a b : Nat) (s : State), s.frames tree = true ∧ (s.ponTree tree).quiet = [(a, b, none)] ∧ a ≤ s.time16 ∧ s.time16 < b ∧ s.onusOf tree = [] ∧ (s.ponTree tree).discovered.length ≤ 16 ∧ serial ∉ (s.ponTree tree).discovered :=
  ⟨5, 77, 0, 9, ((up.setPort 5 { personality := .pon, tree := 5, state := .up }).setPonTree 5 { enabled := true, framing := true, teqd := 250000, maxKm := 20, quiet := [(0, 9, none)] }), by decide⟩

theorem witness_PonTreesComplete_ponSerialNumber_noWindow : ∃ (tree : Nat) (serial : Nat) (s : State), s.frames tree = false ∨ ((s.ponTree tree).quiet.any fun q => q.1 ≤ s.time16 && s.time16 < q.2.1 && q.2.2 = none) = false :=
  ⟨5, 77, up, by decide⟩

theorem witness_PonTreesComplete_ponSerialNumber_known : ∃ (tree : Nat) (serial : Nat) (i : Nat) (o : Onu) (s : State), s.frames tree = true ∧ ((s.ponTree tree).quiet.any fun q => q.1 ≤ s.time16 && s.time16 < q.2.1 && q.2.2 = none) = true ∧ (s.onusOf tree).find? (fun r => r.2.serial = serial) = some (i, o) ∧ (o.state = .provisioned ∨ o.state = .lost) :=
  ⟨5, 77, 3, { state := .lost, serial := 77 }, ((up.setPort 5 { personality := .pon, tree := 5, state := .up }).setPonTree 5 { enabled := true, framing := true, teqd := 250000, maxKm := 20, quiet := [(0, 9, none)] }).setOnu 5 3 { state := .lost, serial := 77 }, by decide⟩

theorem witness_PonTreesComplete_ponSerialNumber_other : ∃ (tree : Nat) (serial : Nat) (i : Nat) (o : Onu) (s : State), s.frames tree = true ∧ ((s.ponTree tree).quiet.any fun q => q.1 ≤ s.time16 && s.time16 < q.2.1 && q.2.2 = none) = true ∧ (s.onusOf tree).find? (fun r => r.2.serial = serial) = some (i, o) ∧ o.state ≠ .provisioned ∧ o.state ≠ .lost :=
  ⟨5, 77, 3, { state := .isolated, serial := 77 }, ((up.setPort 5 { personality := .pon, tree := 5, state := .up }).setPonTree 5 { enabled := true, framing := true, teqd := 250000, maxKm := 20, quiet := [(0, 9, none)] }).setOnu 5 3 { state := .isolated, serial := 77 }, by decide⟩

theorem witness_PonTreesComplete_ponSerialNumber_listed : ∃ (tree : Nat) (serial : Nat) (l : List Nat) (s : State), s.frames tree = true ∧ ((s.ponTree tree).quiet.any fun q => q.1 ≤ s.time16 && s.time16 < q.2.1 && q.2.2 = none) = true ∧ (s.onusOf tree).find? (fun r => r.2.serial = serial) = none ∧ l = (s.ponTree tree).discovered.erase serial ++ [serial] :=
  ⟨5, 77, [7, 77], ((up.setPort 5 { personality := .pon, tree := 5, state := .up }).setPonTree 5 { enabled := true, framing := true, teqd := 250000, maxKm := 20, quiet := [(0, 9, none)], discovered := [77, 7] }), by decide⟩

theorem witness_PonTreesComplete_ponRangingTimeout_waits : ∃ (tree : Nat) (onu : Nat) (s : State), (decide ((s.onu tree onu).state ≠ .ranging) || (s.onu tree onu).rangeSent || decide ((s.onu tree onu).attempts = 0) || (s.ponTree tree).rangeDue.contains onu || (decide ((s.ponTree tree).quietLeft ≠ 0) && decide ((s.ponTree tree).quietFor = some onu)) || (s.ponTree tree).quiet.any (fun q => q.2.2 = some onu && s.time16 < q.2.1) || (s.ponTree tree).maps.any (fun m => m.quiet ≠ 0 && m.quietFor = some onu)) = true :=
  ⟨5, 3, up, by decide⟩

theorem witness_PonTreesComplete_ponRangingTimeout_any : ∃ (tree : Nat) (onu : Nat) (s : State), (decide ((s.onu tree onu).state ≠ .ranging) || (s.onu tree onu).rangeSent || decide ((s.onu tree onu).attempts = 0) || (s.ponTree tree).rangeDue.contains onu || (decide ((s.ponTree tree).quietLeft ≠ 0) && decide ((s.ponTree tree).quietFor = some onu)) || (s.ponTree tree).quiet.any (fun q => q.2.2 = some onu && s.time16 < q.2.1) || (s.ponTree tree).maps.any (fun m => m.quiet ≠ 0 && m.quietFor = some onu)) = false :=
  ⟨5, 3, ((up.setPort 5 { personality := .pon, tree := 5, state := .up }).setPonTree 5 { enabled := true, framing := true, teqd := 250000, maxKm := 20 }).setOnu 5 3 { state := .ranging, attempts := 2 }, by decide⟩

theorem witness_PonTreesComplete_ponRangingTimeout : ∃ (tree : Nat) (onu : Nat) (n : Nat) (s : State), (s.onu tree onu).state = .ranging ∧ (s.onu tree onu).rangeSent = false ∧ (s.onu tree onu).attempts = n ∧ (s.ponTree tree).rangeDue = [] ∧ (s.ponTree tree).quiet = [] ∧ (s.ponTree tree).quietLeft = 0 ∧ (s.ponTree tree).maps = [] ∧ n = 3 :=
  ⟨5, 3, 3, ((up.setPort 5 { personality := .pon, tree := 5, state := .up }).setPonTree 5 { enabled := true, framing := true, teqd := 250000, maxKm := 20 }).setOnu 5 3 { state := .ranging, attempts := 3 }, by decide⟩

theorem witness_PonTreesComplete_ponRangingTimeout_again : ∃ (tree : Nat) (onu : Nat) (n : Nat) (s : State), (s.onu tree onu).state = .ranging ∧ (s.onu tree onu).rangeSent = false ∧ (s.onu tree onu).attempts = n ∧ (s.ponTree tree).rangeDue = [] ∧ (s.ponTree tree).quiet = [] ∧ (s.ponTree tree).quietLeft = 0 ∧ (s.ponTree tree).maps = [] ∧ 0 < n ∧ n < 3 :=
  ⟨5, 3, 2, ((up.setPort 5 { personality := .pon, tree := 5, state := .up }).setPonTree 5 { enabled := true, framing := true, teqd := 250000, maxKm := 20 }).setOnu 5 3 { state := .ranging, attempts := 2 }, by decide⟩

theorem witness_PonTreesComplete_ponRogueSearchStep : ∃ (tree : Nat) (i e : Nat) (s : State), (s.ponTree tree).rogueManual = false ∧ (s.ponTree tree).search = some (i, e, false) ∧ e ≤ (s.ponTree tree).sfc ∧ (s.onu tree i).state = .operational :=
  ⟨5, 3, 0, ((up.setPort 5 { personality := .pon, tree := 5, state := .up }).setPonTree 5 { enabled := true, framing := true, teqd := 250000, maxKm := 20, search := some (3, 0, false) }).setOnu 5 3 { state := .operational }, by decide⟩

theorem witness_PonTreesComplete_ponRogueSearchStep_next : ∃ (tree : Nat) (i e j : Nat) (s : State), (s.ponTree tree).rogueManual = false ∧ (s.ponTree tree).search = some (i, e, true) ∧ e ≤ (s.ponTree tree).sfc ∧ s.nextSuspect tree (i + 1) = some j :=
  ⟨5, 3, 0, 7, ((up.setPort 5 { personality := .pon, tree := 5, state := .up }).setPonTree 5 { enabled := true, framing := true, teqd := 250000, maxKm := 20, search := some (3, 0, true) }).setOnu 5 7 { state := .operational }, by decide⟩

theorem witness_PonTreesComplete_ponRogueSearchStep_waits : ∃ (tree : Nat) (s : State), (s.ponTree tree).search = none ∨ ∃ i e h, (s.ponTree tree).search = some (i, e, h) ∧ (s.ponTree tree).sfc < e :=
  ⟨5, up, .inl (by decide)⟩

theorem witness_PonTreesComplete_ponRogueSearchStep_found : ∃ (tree : Nat) (i e : Nat) (v : Bool) (s : State), (s.ponTree tree).rogueManual = false ∧ (s.ponTree tree).search = some (i, e, false) ∧ e ≤ (s.ponTree tree).sfc ∧ v = decide ((s.onu tree i).state = .operational ∨ (s.onu tree i).state = .lost) ∧ v = true :=
  ⟨5, 3, 0, true, ((up.setPort 5 { personality := .pon, tree := 5, state := .up }).setPonTree 5 { enabled := true, framing := true, teqd := 250000, maxKm := 20, search := some (3, 0, false) }).setOnu 5 3 { state := .lost }, by decide⟩

theorem witness_PonTreesComplete_ponRogueSearchStep_manual : ∃ (tree : Nat) (i e : Nat) (h : Bool) (s : State), (s.ponTree tree).rogueManual = true ∧ (s.ponTree tree).search = some (i, e, h) ∧ e ≤ (s.ponTree tree).sfc :=
  ⟨5, 3, 0, false, ((up.setPort 5 { personality := .pon, tree := 5, state := .up }).setPonTree 5 { enabled := true, framing := true, teqd := 250000, maxKm := 20, rogueManual := true, search := some (3, 0, false) }).setOnu 5 3 { state := .lost }, by decide⟩

theorem witness_PonTreesComplete_ponRogueSearchStep_goesOn : ∃ (tree : Nat) (i e : Nat) (h v : Bool) (s : State), (s.ponTree tree).rogueManual = false ∧ (s.ponTree tree).search = some (i, e, h) ∧ e ≤ (s.ponTree tree).sfc ∧ v = decide ((s.onu tree i).state = .operational ∨ (s.onu tree i).state = .lost) ∧ (v = false ∨ h = true) :=
  ⟨5, 3, 0, true, true, ((up.setPort 5 { personality := .pon, tree := 5, state := .up }).setPonTree 5 { enabled := true, framing := true, teqd := 250000, maxKm := 20, search := some (3, 0, true) }).setOnu 5 3 { state := .lost }, by decide⟩

theorem witness_PonTreesComplete_ponOmciReceive_refused : ∃ (tree : Nat) (onu : Nat) (msg : Bytes) (s : State), s.frames tree = false ∨ (s.onu tree onu).state = .empty ∨ msg.length < 8 ∨ 1980 < msg.length :=
  ⟨5, 3, [], up, by decide⟩

theorem witness_PonTreesComplete_ponOmciReceive : ∃ (tree : Nat) (onu : Nat) (msg : Bytes) (v : Bool) (s : State), s.frames tree = true ∧ (s.onu tree onu).state ≠ .empty ∧ 8 ≤ msg.length ∧ msg.length ≤ 1980 ∧ look (s.ponTree tree).omciUnread ((s.ponTree tree).omciSeq % 16384) false = v :=
  ⟨5, 3, List.replicate 8 0, false, ((up.setPort 5 { personality := .pon, tree := 5, state := .up }).setPonTree 5 { enabled := true, framing := true, teqd := 250000, maxKm := 20 }).setOnu 5 3 { state := .operational }, by decide +kernel⟩

theorem witness_PonTreesComplete_ponChannelFail : ∃ (tree : Nat) (p : Nat) (s : State), tree < 48 ∧ s.isOut 0x0D tree = false ∧ s.treePort tree = some p ∧ (s.port p).state = .up :=
  ⟨5, 5, ((up.setPort 5 { personality := .pon, tree := 5, state := .up }).setPonTree 5 { enabled := true, framing := true, teqd := 250000, maxKm := 20 }), by decide⟩

theorem witness_PonTreesComplete_ponChannelFail_any : ∃ (tree : Nat) (s : State), tree < 48 ∧ s.isOut 0x0D tree = false :=
  ⟨5, ((up.setPort 5 { personality := .pon, tree := 5, state := .up }).setPonTree 5 { enabled := true, framing := true, teqd := 250000, maxKm := 20 }), by decide⟩

theorem witness_PonTreesComplete_ponChannelFail_out : ∃ (tree : Nat) (s : State), 48 ≤ tree ∨ s.isOut 0x0D tree = true :=
  ⟨48, up, by decide⟩

/-! ### GrantsComplete -/

theorem witness_GrantsComplete_grantSnapshot : ∃ (tree : Nat) (n : Nat) (s : State), tree < 48 ∧ (s.ponTree tree).enabled = true ∧ (s.ponTree tree).maps = [] ∧ (s.ponTree tree).groups = [] ∧ (s.ponTree tree).sfc = n ∧ s.entriesOf tree = [] ∧ (s.ponTree tree).ploam = [] ∧ (s.ponTree tree).quietLeft = 0 ∧ (s.ponTree tree).rangeDue = [] ∧ (s.ponTree tree).discoveryMs = 0 :=
  ⟨5, 0, ((up.setPort 5 { personality := .pon, tree := 5, state := .up }).setPonTree 5 { enabled := true, framing := true, teqd := 250000, maxKm := 20 }), by decide +kernel⟩

theorem witness_GrantsComplete_grantSnapshot_computes : ∃ (tree : Nat) (l : List GrantMap) (n : Nat) (s : State), tree < 48 ∧ (s.ponTree tree).enabled = true ∧ (s.ponTree tree).maps.any (fun m => m.frame = (s.ponTree tree).sfc + 2) = false ∧ l = (s.ponTree tree).maps ∧ n = (s.ponTree tree).sfc :=
  ⟨5, [{ frame := 1, ready := false, bursts := [], quiet := 0, quietFor := none, quietNew := false, free := 0, caps := [], refused := 0, trimCapped := false, bufCapped := false, changes := [] }], 0, ((up.setPort 5 { personality := .pon, tree := 5, state := .up }).setPonTree 5 { enabled := true, framing := true, teqd := 250000, maxKm := 20, maps := [{ frame := 1, ready := false, bursts := [], quiet := 0, quietFor := none, quietNew := false, free := 0, caps := [], refused := 0, trimCapped := false, bufCapped := false, changes := [] }] }), by decide⟩

theorem witness_GrantsComplete_grantSnapshot_again : ∃ (tree : Nat) (s : State), tree < 48 ∧ (s.ponTree tree).enabled = true ∧ (s.ponTree tree).maps.any (fun m => m.frame = (s.ponTree tree).sfc + 2) = true :=
  ⟨5, ((up.setPort 5 { personality := .pon, tree := 5, state := .up }).setPonTree 5 { enabled := true, framing := true, teqd := 250000, maxKm := 20, maps := [{ frame := 2, ready := false, bursts := [], quiet := 0, quietFor := none, quietNew := false, free := 0, caps := [], refused := 0, trimCapped := false, bufCapped := false, changes := [] }] }), by decide⟩

theorem witness_GrantsComplete_grantSnapshot_noTree : ∃ (tree : Nat) (s : State), 48 ≤ tree :=
  ⟨48, up, by decide⟩

theorem witness_GrantsComplete_grantSnapshot_off : ∃ (tree : Nat) (s : State), (s.ponTree tree).enabled = false :=
  ⟨5, up, by decide⟩

theorem witness_GrantsComplete_grantSnapshot_trim : ∃ (tree : Nat) (m : GrantMap) (y : GrantGroup) (so : Nat) (s : State), tree < 48 ∧ (s.ponTree tree).enabled = true ∧ (s.ponTree tree).maps = [m] ∧ m.frame ≠ (s.ponTree tree).sfc + 2 ∧ (s.ponTree tree).groups = [(0, y)] ∧ y.live = true ∧ y.trim = true ∧ so = s.groupSojourn y :=
  ⟨5, { frame := 1, ready := true, bursts := [], quiet := 0, quietFor := none, quietNew := false, free := 0, caps := [], refused := 0, trimCapped := false, bufCapped := false, changes := [] }, { live := true, trim := true, onUs := 1000, offUs := 500, shareMin := 32, fMin := 64, step := 16, cut := 16 }, 0, ((up.setPort 5 { personality := .pon, tree := 5, state := .up }).setPonTree 5 { enabled := true, framing := true, teqd := 250000, maxKm := 20, groups := [(0, { live := true, trim := true, onUs := 1000, offUs := 500, shareMin := 32, fMin := 64, step := 16, cut := 16 })], maps := [{ frame := 1, ready := true, bursts := [], quiet := 0, quietFor := none, quietNew := false, free := 0, caps := [], refused := 0, trimCapped := false, bufCapped := false, changes := [] }] }), by decide +kernel⟩

theorem witness_GrantsComplete_grantMapReady : ∃ (tree : Nat) (x : PonTree) (m : GrantMap) (b : MapBurst) (e a n : Nat) (s : State), x = s.ponTree tree ∧ x.maps = [m] ∧ m.ready = false ∧ x.sfc < m.frame ∧ m.changes = [] ∧ m.bursts = [b] ∧ b.allocs = [(some e, a, n)] :=
  ⟨5, { enabled := true, framing := true, teqd := 250000, maxKm := 20, maps := [{ frame := 2, ready := false, bursts := [{ onu := 3, allocs := [(some 7, 1021, 500)] }], quiet := 0, quietFor := none, quietNew := false, free := 9, caps := [], refused := 0, trimCapped := true, bufCapped := false, changes := [] }] }, { frame := 2, ready := false, bursts := [{ onu := 3, allocs := [(some 7, 1021, 500)] }], quiet := 0, quietFor := none, quietNew := false, free := 9, caps := [], refused := 0, trimCapped := true, bufCapped := false, changes := [] }, { onu := 3, allocs := [(some 7, 1021, 500)] }, 7, 1021, 500, ((up.setPort 5 { personality := .pon, tree := 5, state := .up }).setPonTree 5 { enabled := true, framing := true, teqd := 250000, maxKm := 20, maps := [{ frame := 2, ready := false, bursts := [{ onu := 3, allocs := [(some 7, 1021, 500)] }], quiet := 0, quietFor := none, quietNew := false, free := 9, caps := [], refused := 0, trimCapped := true, bufCapped := false, changes := [] }] }), by decide⟩

theorem witness_GrantsComplete_grantMapReady_any : ∃ (tree : Nat) (x : PonTree) (m : GrantMap) (s : State), x = s.ponTree tree ∧ x.maps.find? (fun m => !m.ready && x.sfc < m.frame) = some m :=
  ⟨5, { enabled := true, framing := true, teqd := 250000, maxKm := 20, maps := [{ frame := 2, ready := false, bursts := [{ onu := 3, allocs := [(some 7, 1021, 500)] }], quiet := 0, quietFor := none, quietNew := false, free := 9, caps := [], refused := 0, trimCapped := true, bufCapped := false, changes := [] }] }, { frame := 2, ready := false, bursts := [{ onu := 3, allocs := [(some 7, 1021, 500)] }], quiet := 0, quietFor := none, quietNew := false, free := 9, caps := [], refused := 0, trimCapped := true, bufCapped := false, changes := [] }, ((up.setPort 5 { personality := .pon, tree := 5, state := .up }).setPonTree 5 { enabled := true, framing := true, teqd := 250000, maxKm := 20, maps := [{ frame := 2, ready := false, bursts := [{ onu := 3, allocs := [(some 7, 1021, 500)] }], quiet := 0, quietFor := none, quietNew := false, free := 9, caps := [], refused := 0, trimCapped := true, bufCapped := false, changes := [] }] }), by decide⟩

theorem witness_GrantsComplete_grantMapReady_nothing : ∃ (tree : Nat) (s : State), (s.ponTree tree).maps.find? (fun m => !m.ready && (s.ponTree tree).sfc < m.frame) = none :=
  ⟨5, up, by decide⟩

theorem witness_GrantsComplete_grantMapReady_none : ∃ (tree : Nat) (s : State), (s.ponTree tree).maps = [] :=
  ⟨5, up, by decide⟩

theorem witness_GrantsComplete_grantShareInterval : ∃ (e : Nat) (x : GrantEntry) (l : List (List Nat)) (n g : Nat) (s : State), s.pon.entries = [(e, x)] ∧ x.live = true ∧ (x.learned = [] ∨ x.learnedAt ≠ s.tclk) ∧ l = x.buckets.take 10 ∧ l ≠ [] ∧ n = (l.map fun b => (b[0]?).getD 0).sum ∧ g < 8 :=
  ⟨7, { live := true, buckets := [[100, 50, 0, 0, 0, 0, 0, 0, 0]] }, [[100, 50, 0, 0, 0, 0, 0, 0, 0]], 100, 0, { up with pon := { entries := [(7, { live := true, buckets := [[100, 50, 0, 0, 0, 0, 0, 0, 0]] })] } }, by decide⟩

theorem witness_GrantsComplete_grantShareInterval_every : ∃ (s : State), canon {} s.pon.entries = true :=
  ⟨{ up with pon := { entries := [(7, { live := true, buckets := [[100, 50, 0, 0, 0, 0, 0, 0, 0]] })] } }, by decide⟩

theorem witness_GrantsComplete_grantTreeConfig : ∃ (c : Cmd) (k : Nat) (s : State), ready s c 0x0C08 .any = true ∧ s.treeErr c (c.u8 16) = none ∧ c.u8 17 ≤ 2 ∧ 64 ≤ c.u16 18 ∧ c.u16 18 ≤ 16384 ∧ 16 ≤ c.u16 20 ∧ c.u16 20 ≤ 1023 ∧ c.zeros 22 42 = none ∧ s.treeLaneErr (c.u8 16) = none ∧ k = c.u8 16 :=
  ⟨cm 0xC08 [(16, 1, 5), (17, 1, 1), (18, 2, 4096), (20, 2, 100)], 5, ((begun up (cm 0xC08 [(16, 1, 5), (17, 1, 1), (18, 2, 4096), (20, 2, 100)])).setPort 5 { personality := .pon, tree := 5, state := .up }).setPonTree 5 { enabled := true, framing := true, teqd := 250000, maxKm := 20 }, by decide⟩

theorem witness_GrantsComplete_grantAlloc : ∃ (c : Cmd) (s : State), ready s c 0x0C09 .any = true ∧ c.u16 16 < 32768 ∧ s.treeErr c (c.u8 19) = none ∧ s.treeLaneErr (c.u8 19) = none ∧ c.u8 18 = 0 ∧ firstErr (grantSetErrs c s) = none :=
  ⟨cm 0xC09 [(16, 2, 7), (18, 1, 0), (19, 1, 5), (20, 1, 3), (22, 2, 1021), (24, 4, 9), (28, 4, 100)], ((((begun up (cm 0xC09 [(16, 2, 7), (18, 1, 0), (19, 1, 5), (20, 1, 3), (22, 2, 1021), (24, 4, 9), (28, 4, 100)])).setPort 5 { personality := .pon, tree := 5, state := .up }).setPonTree 5 { enabled := true, framing := true, teqd := 250000, maxKm := 20 }).setOnu 5 3 { state := .operational }).setNode (nodeKey 4 9) { live := true, parent := 133, cir := 1000 }, by decide⟩

theorem witness_GrantsComplete_grantAlloc_clear : ∃ (c : Cmd) (s : State), ready s c 0x0C09 .any = true ∧ c.u16 16 < 32768 ∧ s.treeErr c (c.u8 19) = none ∧ s.treeLaneErr (c.u8 19) = none ∧ c.u8 18 = 1 ∧ (s.grantEntry (c.u16 16)).live = true ∧ (s.grantEntry (c.u16 16)).tree = c.u8 19 :=
  ⟨cm 0xC09 [(16, 2, 7), (18, 1, 1), (19, 1, 5)], (((begun up (cm 0xC09 [(16, 2, 7), (18, 1, 1), (19, 1, 5)])).setPort 5 { personality := .pon, tree := 5, state := .up }).setPonTree 5 { enabled := true, framing := true, teqd := 250000, maxKm := 20 }).setGrantEntry 7 { live := true, tree := 5 }, by decide⟩

theorem witness_GrantsComplete_grantAlloc_missing : ∃ (c : Cmd) (s : State), ready s c 0x0C09 .any = true ∧ c.u16 16 < 32768 ∧ s.treeErr c (c.u8 19) = none ∧ s.treeLaneErr (c.u8 19) = none ∧ c.u8 18 = 1 ∧ ((s.grantEntry (c.u16 16)).live = false ∨ (s.grantEntry (c.u16 16)).tree ≠ c.u8 19) :=
  ⟨cm 0xC09 [(16, 2, 7), (18, 1, 1), (19, 1, 5)], ((begun up (cm 0xC09 [(16, 2, 7), (18, 1, 1), (19, 1, 5)])).setPort 5 { personality := .pon, tree := 5, state := .up }).setPonTree 5 { enabled := true, framing := true, teqd := 250000, maxKm := 20 }, by decide⟩

theorem witness_GrantsComplete_grantGroup : ∃ (c : Cmd) (k g : Nat) (s : State), ready s c 0x0C0A .any = true ∧ s.treeErr c (c.u8 16) = none ∧ c.u8 17 ≤ 7 ∧ c.u8 18 = 0 ∧ firstErr (groupSetErrs c s) = none ∧ s.treeLaneErr (c.u8 16) = none ∧ k = c.u8 16 ∧ g = c.u8 17 :=
  ⟨cm 0xC0A [(16, 1, 5), (17, 1, 0), (19, 1, 1), (20, 2, 1000), (22, 2, 500), (24, 1, 32), (25, 1, 64), (26, 1, 16), (32, 8, 33554432)], 5, 0, ((begun up (cm 0xC0A [(16, 1, 5), (17, 1, 0), (19, 1, 1), (20, 2, 1000), (22, 2, 500), (24, 1, 32), (25, 1, 64), (26, 1, 16), (32, 8, 33554432)])).setPort 5 { personality := .pon, tree := 5, state := .up }).setPonTree 5 { enabled := true, framing := true, teqd := 250000, maxKm := 20 }, by decide⟩

theorem witness_GrantsComplete_grantGroup_clear : ∃ (c : Cmd) (k g : Nat) (s : State), ready s c 0x0C0A .any = true ∧ s.treeErr c (c.u8 16) = none ∧ c.u8 17 ≤ 7 ∧ c.u8 18 = 1 ∧ s.treeLaneErr (c.u8 16) = none ∧ k = c.u8 16 ∧ g = c.u8 17 ∧ ((s.ponTree k).group g).live = true :=
  ⟨cm 0xC0A [(16, 1, 5), (17, 1, 2), (18, 1, 1)], 5, 2, (((begun up (cm 0xC0A [(16, 1, 5), (17, 1, 2), (18, 1, 1)])).setPort 5 { personality := .pon, tree := 5, state := .up }).setPonTree 5 { enabled := true, framing := true, teqd := 250000, maxKm := 20 }).setPonTree 5 { enabled := true, groups := [(2, { live := true })] }, by decide⟩

theorem witness_GrantsComplete_grantGroup_missing : ∃ (c : Cmd) (s : State), ready s c 0x0C0A .any = true ∧ s.treeErr c (c.u8 16) = none ∧ c.u8 17 ≤ 7 ∧ c.u8 18 = 1 ∧ ((s.ponTree (c.u8 16)).group (c.u8 17)).live = false :=
  ⟨cm 0xC0A [(16, 1, 5), (17, 1, 2), (18, 1, 1)], ((begun up (cm 0xC0A [(16, 1, 5), (17, 1, 2), (18, 1, 1)])).setPort 5 { personality := .pon, tree := 5, state := .up }).setPonTree 5 { enabled := true, framing := true, teqd := 250000, maxKm := 20 }, by decide⟩

theorem witness_GrantsComplete_grantQuery : ∃ (c : Cmd) (x : GrantEntry) (s : State), ready s c 0x0C0B .any = true ∧ c.needReply = none ∧ c.u16 16 < 32768 ∧ c.zeros 18 46 = none ∧ x = s.grantEntry (c.u16 16) ∧ x.live = true ∧ s.treeErr c x.tree = none ∧ s.treeLaneErr x.tree = none :=
  ⟨cm 0xC0B [(16, 2, 7)], { live := true, tree := 5 }, (((begun up (cm 0xC0B [(16, 2, 7)])).setPort 5 { personality := .pon, tree := 5, state := .up }).setPonTree 5 { enabled := true, framing := true, teqd := 250000, maxKm := 20 }).setGrantEntry 7 { live := true, tree := 5 }, by decide⟩

theorem witness_GrantsComplete_grantStats : ∃ (c : Cmd) (x : PonTree) (s : State), ready s c 0x0C0C .any = true ∧ c.needReply = none ∧ s.treeErr c (c.u8 16) = none ∧ c.u8 17 ≤ 1 ∧ c.zeros 18 46 = none ∧ s.treeLaneErr (c.u8 16) = none ∧ x = s.ponTree (c.u8 16) :=
  ⟨cm 0xC0C [(16, 1, 5), (17, 1, 1)], { enabled := true, framing := true, teqd := 250000, maxKm := 20 }, ((begun up (cm 0xC0C [(16, 1, 5), (17, 1, 1)])).setPort 5 { personality := .pon, tree := 5, state := .up }).setPonTree 5 { enabled := true, framing := true, teqd := 250000, maxKm := 20 }, by decide⟩

theorem witness_GrantsComplete_cap : ∃ (s : State) (t peak g share : Nat) (e : GrantEntry) (y : GrantGroup), g < 8 ∧ y = (s.ponTree t).group g ∧ (e.shares[g]?).getD 0 = share ∧ y.live = true ∧ y.trim = true ∧ 0 < y.cut ∧ y.shareMin ≤ share ∧ (∀ i, i < 8 → i ≠ g → ((s.ponTree t).group i).cut = 0) ∧ s.bufferCaps e = false ∧ s.peakBytes e = some peak :=
  ⟨((up.setPonTree 4 { enabled := true, groups := [(0, { live := true, trim := true, shareMin := 32, cut := 16 })] }).setNode (nodeKey 4 9) { live := true, cir := 1000000, pir := 10000000 }), 4, 156250, 0, 192, { live := true, queue := 9, shares := [192] }, { live := true, trim := true, shareMin := 32, cut := 16 }, by decide⟩

/-! ### CipherCommandsComplete -/

theorem witness_CipherCommandsComplete_macsecSa : ∃ (c : Cmd) (s : State), ready s c 0x0D00 .any = true ∧ firstErr (macsecSaErrs c s) = none ∧ c.u8 18 = 0 :=
  ⟨cm 0xD00 [(16, 2, 700), (19, 1, 1), (20, 1, 5), (21, 1, 2), (22, 1, 0), (23, 1, 9), (24, 4, 9), (28, 4, 64), (32, 8, 77), (40, 8, 5)], ((keyed (begun up (cm 0xD00 [(16, 2, 700), (19, 1, 1), (20, 1, 5), (21, 1, 2), (22, 1, 0), (23, 1, 9), (24, 4, 9), (28, 4, 64), (32, 8, 77), (40, 8, 5)]))).setPort 5 { personality := .ethernet, state := .up, enable := true, firstLane := 0, laneCount := 1, laneRate := 3 }), by decide⟩

theorem witness_CipherCommandsComplete_macsecSa_width : ∃ (c : Cmd) (s : State), ready s c 0x0D00 .any = true ∧ c.u16 16 < 16384 ∧ c.u8 19 ≤ 1 ∧ (s.macSa (c.u16 16)).live = false ∧ c.u8 18 = 0 ∧ c.u8 20 < 128 ∧ s.ownErr c 1 (c.u8 20) = none ∧ (s.port (c.u8 20)).personality = .ethernet ∧ c.u8 21 ≤ 3 ∧ c.u8 22 ≤ 3 ∧ c.u8 23 < 32 ∧ bits (c.u8 23) 2 1 ≤ 2 ∧ s.ownErr c 8 (c.u32 24) = none ∧ (s.key (c.u32 24)).kind ≠ 0 ∧ (s.key (c.u32 24)).kind ≠ (if c.u8 22 % 2 = 1 then 2 else 1) :=
  ⟨cm 0xD00 [(16, 2, 700), (19, 1, 1), (20, 1, 5), (21, 1, 2), (22, 1, 1), (23, 1, 9), (24, 4, 9), (28, 4, 64), (32, 8, 77), (40, 8, 5)], ((keyed (begun up (cm 0xD00 [(16, 2, 700), (19, 1, 1), (20, 1, 5), (21, 1, 2), (22, 1, 1), (23, 1, 9), (24, 4, 9), (28, 4, 64), (32, 8, 77), (40, 8, 5)]))).setPort 5 { personality := .ethernet, state := .up, enable := true, firstLane := 0, laneCount := 1, laneRate := 3 }), by decide⟩

theorem witness_CipherCommandsComplete_macsecSa_noKey : ∃ (c : Cmd) (s : State), ready s c 0x0D00 .any = true ∧ c.u16 16 < 16384 ∧ c.u8 19 ≤ 1 ∧ (s.macSa (c.u16 16)).live = false ∧ c.u8 18 = 0 ∧ c.u8 20 < 128 ∧ s.ownErr c 1 (c.u8 20) = none ∧ (s.port (c.u8 20)).personality = .ethernet ∧ c.u8 21 ≤ 3 ∧ c.u8 22 ≤ 3 ∧ c.u8 23 < 32 ∧ bits (c.u8 23) 2 1 ≤ 2 ∧ s.ownErr c 8 (c.u32 24) = none ∧ (s.key (c.u32 24)).kind = 0 :=
  ⟨cm 0xD00 [(16, 2, 700), (19, 1, 1), (20, 1, 5), (21, 1, 2), (22, 1, 0), (23, 1, 9), (24, 4, 8), (28, 4, 64), (32, 8, 77), (40, 8, 5)], ((keyed (begun up (cm 0xD00 [(16, 2, 700), (19, 1, 1), (20, 1, 5), (21, 1, 2), (22, 1, 0), (23, 1, 9), (24, 4, 8), (28, 4, 64), (32, 8, 77), (40, 8, 5)]))).setPort 5 { personality := .ethernet, state := .up, enable := true, firstLane := 0, laneCount := 1, laneRate := 3 }), by decide⟩

theorem witness_CipherCommandsComplete_macsecSa_taken : ∃ (c : Cmd) (s : State), ready s c 0x0D00 .any = true ∧ c.u16 16 < 16384 ∧ c.u8 19 ≤ 1 ∧ c.u8 18 = 0 ∧ (s.macSa (c.u16 16)).live = true ∧ s.ownErr c 1 (s.macSa (c.u16 16)).port = none :=
  ⟨cm 0xD00 [(16, 2, 700), (19, 1, 1), (20, 1, 5), (21, 1, 2), (22, 1, 0), (23, 1, 9), (24, 4, 9), (28, 4, 64), (32, 8, 77), (40, 8, 5)], ((keyed (begun up (cm 0xD00 [(16, 2, 700), (19, 1, 1), (20, 1, 5), (21, 1, 2), (22, 1, 0), (23, 1, 9), (24, 4, 9), (28, 4, 64), (32, 8, 77), (40, 8, 5)]))).setPort 5 { personality := .ethernet, state := .up, enable := true, firstLane := 0, laneCount := 1, laneRate := 3 }).setMacSa 700 { live := true, port := 5 }, by decide⟩

theorem witness_CipherCommandsComplete_macsecSa_delete : ∃ (c : Cmd) (x : MacSa) (s : State), ready s c 0x0D00 .any = true ∧ c.u16 16 < 16384 ∧ c.u8 19 ≤ 1 ∧ c.u8 23 < 32 ∧ s.busyErr c = none ∧ (s.macSa (c.u16 16)).live = true ∧ s.ownErr c 1 (s.macSa (c.u16 16)).port = none ∧ s.portLanesErr (s.macSa (c.u16 16)).port = none ∧ x = s.macSa (c.u16 16) ∧ c.u8 18 = 1 :=
  ⟨cm 0xD00 [(16, 2, 700), (18, 1, 1), (40, 8, 5)], { live := true, port := 5 }, ((keyed (begun up (cm 0xD00 [(16, 2, 700), (18, 1, 1), (40, 8, 5)]))).setPort 5 { personality := .ethernet, state := .up, enable := true, firstLane := 0, laneCount := 1, laneRate := 3 }).setMacSa 700 { live := true, port := 5 }, by decide⟩

theorem witness_CipherCommandsComplete_macsecSa_setPn : ∃ (c : Cmd) (x : MacSa) (s : State), ready s c 0x0D00 .any = true ∧ c.u16 16 < 16384 ∧ c.u8 19 ≤ 1 ∧ c.u8 23 < 32 ∧ s.busyErr c = none ∧ (s.macSa (c.u16 16)).live = true ∧ s.ownErr c 1 (s.macSa (c.u16 16)).port = none ∧ s.portLanesErr (s.macSa (c.u16 16)).port = none ∧ x = s.macSa (c.u16 16) ∧ c.u8 18 = 2 :=
  ⟨cm 0xD00 [(16, 2, 700), (18, 1, 2), (40, 8, 5)], { live := true, port := 5 }, ((keyed (begun up (cm 0xD00 [(16, 2, 700), (18, 1, 2), (40, 8, 5)]))).setPort 5 { personality := .ethernet, state := .up, enable := true, firstLane := 0, laneCount := 1, laneRate := 3 }).setMacSa 700 { live := true, port := 5 }, by decide⟩

theorem witness_CipherCommandsComplete_macsecSa_activate : ∃ (c : Cmd) (x : MacSa) (s : State), ready s c 0x0D00 .any = true ∧ c.u16 16 < 16384 ∧ c.u8 19 ≤ 1 ∧ c.u8 23 < 32 ∧ s.busyErr c = none ∧ (s.macSa (c.u16 16)).live = true ∧ s.ownErr c 1 (s.macSa (c.u16 16)).port = none ∧ s.portLanesErr (s.macSa (c.u16 16)).port = none ∧ x = s.macSa (c.u16 16) ∧ c.u8 18 = 3 ∧ x.receive = false :=
  ⟨cm 0xD00 [(16, 2, 700), (18, 1, 3), (40, 8, 5)], { live := true, port := 5, an := 2 }, ((keyed (begun up (cm 0xD00 [(16, 2, 700), (18, 1, 3), (40, 8, 5)]))).setPort 5 { personality := .ethernet, state := .up, enable := true, firstLane := 0, laneCount := 1, laneRate := 3 }).setMacSa 700 { live := true, port := 5, an := 2 }, by decide⟩

theorem witness_CipherCommandsComplete_macsecSa_missing : ∃ (c : Cmd) (s : State), ready s c 0x0D00 .any = true ∧ c.u16 16 < 16384 ∧ c.u8 19 ≤ 1 ∧ c.u8 23 < 32 ∧ 1 ≤ c.u8 18 ∧ c.u8 18 ≤ 3 ∧ (s.macSa (c.u16 16)).live = false :=
  ⟨cm 0xD00 [(16, 2, 700), (18, 1, 3), (40, 8, 5)], ((keyed (begun up (cm 0xD00 [(16, 2, 700), (18, 1, 3), (40, 8, 5)]))).setPort 5 { personality := .ethernet, state := .up, enable := true, firstLane := 0, laneCount := 1, laneRate := 3 }), by decide⟩

theorem witness_CipherCommandsComplete_macsecSa_any : ∃ (c : Cmd) (s : State), ready s c 0x0D00 .any = true ∧ firstErr (macsecSaErrs c s) = none :=
  ⟨cm 0xD00 [(16, 2, 700), (19, 1, 1), (20, 1, 5), (21, 1, 2), (22, 1, 0), (23, 1, 9), (24, 4, 9), (28, 4, 64), (32, 8, 77), (40, 8, 5)], ((keyed (begun up (cm 0xD00 [(16, 2, 700), (19, 1, 1), (20, 1, 5), (21, 1, 2), (22, 1, 0), (23, 1, 9), (24, 4, 9), (28, 4, 64), (32, 8, 77), (40, 8, 5)]))).setPort 5 { personality := .ethernet, state := .up, enable := true, firstLane := 0, laneCount := 1, laneRate := 3 }), by decide⟩

theorem witness_CipherCommandsComplete_macsecPort : ∃ (c : Cmd) (u : Nat) (s : State), ready s c 0x0D01 .any = true ∧ c.u8 16 < 128 ∧ s.ownErr c 1 (c.u8 16) = none ∧ (s.port (c.u8 16)).personality = .ethernet ∧ c.u8 17 = 1 ∧ (c.u8 18 = 1 ∨ c.u8 18 = 2) ∧ c.zeros 19 45 = none ∧ s.portLanesErr (c.u8 16) = none ∧ (s.cport (c.u8 16)).tx = false ∧ s.pipeFor (c.u8 16) false = some u ∧ s.cipher.replacing = [] :=
  ⟨cm 0xD01 [(16, 1, 5), (17, 1, 1), (18, 1, 2)], 32, ((keyed (begun up (cm 0xD01 [(16, 1, 5), (17, 1, 1), (18, 1, 2)]))).setPort 5 { personality := .ethernet, state := .up, enable := true, firstLane := 0, laneCount := 1, laneRate := 3 }), by decide⟩

theorem witness_CipherCommandsComplete_macsecPort_full : ∃ (c : Cmd) (s : State), ready s c 0x0D01 .any = true ∧ c.u8 16 < 128 ∧ s.ownErr c 1 (c.u8 16) = none ∧ (s.port (c.u8 16)).personality = .ethernet ∧ c.u8 17 = 1 ∧ (c.u8 18 = 1 ∨ c.u8 18 = 2) ∧ c.zeros 19 45 = none ∧ s.portLanesErr (c.u8 16) = none ∧ (s.cport (c.u8 16)).tx = false ∧ s.pipeFor (c.u8 16) false = none :=
  ⟨cm 0xD01 [(16, 1, 5), (17, 1, 1), (18, 1, 2)], (let s := ((keyed (begun up (cm 0xD01 [(16, 1, 5), (17, 1, 1), (18, 1, 2)]))).setPort 5 { personality := .ethernet, state := .up, enable := true, firstLane := 0, laneCount := 1, laneRate := 3 }); { s with units := { s.units with out := (List.range 32).map fun i => (0x0C * 65536 + 32 + i, true) } }), by decide +kernel⟩

theorem witness_CipherCommandsComplete_macsecPort_any : ∃ (c : Cmd) (s : State), ready s c 0x0D01 .any = true ∧ c.u8 16 < 128 ∧ s.ownErr c 1 (c.u8 16) = none ∧ (s.port (c.u8 16)).personality = .ethernet ∧ c.u8 17 < 4 ∧ (c.u8 18 = 1 ∨ c.u8 18 = 2) ∧ c.zeros 19 45 = none ∧ s.portLanesErr (c.u8 16) = none ∧ ((s.macsecDir (c.u8 16) false (bit (c.u8 17) 0)).bind (fun z => z.macsecDir (c.u8 16) true (bit (c.u8 17) 1))).isSome = true :=
  ⟨cm 0xD01 [(16, 1, 5), (17, 1, 3), (18, 1, 2)], ((keyed (begun up (cm 0xD01 [(16, 1, 5), (17, 1, 3), (18, 1, 2)]))).setPort 5 { personality := .ethernet, state := .up, enable := true, firstLane := 0, laneCount := 1, laneRate := 3 }), by decide +kernel⟩

theorem witness_CipherCommandsComplete_macsecPort_noRoom : ∃ (c : Cmd) (s : State), ready s c 0x0D01 .any = true ∧ c.u8 16 < 128 ∧ s.ownErr c 1 (c.u8 16) = none ∧ (s.port (c.u8 16)).personality = .ethernet ∧ c.u8 17 < 4 ∧ (c.u8 18 = 1 ∨ c.u8 18 = 2) ∧ c.zeros 19 45 = none ∧ s.portLanesErr (c.u8 16) = none ∧ ((s.macsecDir (c.u8 16) false (bit (c.u8 17) 0)).bind (fun z => z.macsecDir (c.u8 16) true (bit (c.u8 17) 1))).isSome = false :=
  ⟨cm 0xD01 [(16, 1, 5), (17, 1, 3), (18, 1, 2)], (let s := ((keyed (begun up (cm 0xD01 [(16, 1, 5), (17, 1, 3), (18, 1, 2)]))).setPort 5 { personality := .ethernet, state := .up, enable := true, firstLane := 0, laneCount := 1, laneRate := 3 }); { s with units := { s.units with out := (List.range 32).map fun i => (0x0C * 65536 + 32 + i, true) } }), by decide +kernel⟩

theorem witness_CipherCommandsComplete_tunnelSa : ∃ (c : Cmd) (s : State), ready s c 0x0D02 .any = true ∧ firstErr (tunnelSaErrs c s) = none ∧ c.u8 18 = 0 :=
  ⟨cm 0xD02 [(16, 2, 700), (18, 1, 0), (19, 1, 1), (21, 1, 3), (22, 2, 4096), (24, 4, 9), (28, 4, 0x1234), (32, 4, 55), (40, 8, 5)], ((keyed (begun up (cm 0xD02 [(16, 2, 700), (18, 1, 0), (19, 1, 1), (21, 1, 3), (22, 2, 4096), (24, 4, 9), (28, 4, 0x1234), (32, 4, 55), (40, 8, 5)]))).setPort 5 { personality := .ethernet, state := .up, enable := true, firstLane := 0, laneCount := 1, laneRate := 3 }), by decide⟩

theorem witness_CipherCommandsComplete_tunnelSa_delete : ∃ (c : Cmd) (x : TunSa) (s : State), ready s c 0x0D02 .any = true ∧ firstErr (tunnelSaErrs c s) = none ∧ x = s.tunSa (c.u16 16) ∧ c.u8 18 = 1 :=
  ⟨cm 0xD02 [(16, 2, 700), (18, 1, 1), (19, 1, 1), (21, 1, 3), (22, 2, 4096), (24, 4, 9), (28, 4, 0x1234), (32, 4, 55), (40, 8, 5)], { live := true }, ((keyed (begun up (cm 0xD02 [(16, 2, 700), (18, 1, 1), (19, 1, 1), (21, 1, 3), (22, 2, 4096), (24, 4, 9), (28, 4, 0x1234), (32, 4, 55), (40, 8, 5)]))).setPort 5 { personality := .ethernet, state := .up, enable := true, firstLane := 0, laneCount := 1, laneRate := 3 }).setTunSa 700 { live := true }, by decide⟩

theorem witness_CipherCommandsComplete_tunnelSa_sequence : ∃ (c : Cmd) (x : TunSa) (s : State), ready s c 0x0D02 .any = true ∧ firstErr (tunnelSaErrs c s) = none ∧ x = s.tunSa (c.u16 16) ∧ c.u8 18 = 2 :=
  ⟨cm 0xD02 [(16, 2, 700), (18, 1, 2), (19, 1, 1), (21, 1, 3), (22, 2, 4096), (24, 4, 9), (28, 4, 0x1234), (32, 4, 55), (40, 8, 5)], { live := true }, ((keyed (begun up (cm 0xD02 [(16, 2, 700), (18, 1, 2), (19, 1, 1), (21, 1, 3), (22, 2, 4096), (24, 4, 9), (28, 4, 0x1234), (32, 4, 55), (40, 8, 5)]))).setPort 5 { personality := .ethernet, state := .up, enable := true, firstLane := 0, laneCount := 1, laneRate := 3 }).setTunSa 700 { live := true }, by decide⟩

theorem witness_CipherCommandsComplete_ciphStats : ∃ (c : Cmd) (k : Nat) (s : State), ready s c 0x0D03 .any = true ∧ c.needReply = none ∧ c.zeros 17 1 = none ∧ c.u8 20 = 0 ∧ c.zeros 21 43 = none ∧ k = c.u16 18 ∧ c.u8 16 = 0 ∧ k < 16384 ∧ (s.macSa k).live = true ∧ s.ownErr c 1 (s.macSa k).port = none :=
  ⟨cm 0xD03 [(16, 1, 0), (18, 2, 700)], 700, ((keyed (begun up (cm 0xD03 [(16, 1, 0), (18, 2, 700)]))).setPort 5 { personality := .ethernet, state := .up, enable := true, firstLane := 0, laneCount := 1, laneRate := 3 }).setMacSa 700 { live := true, port := 5 }, by decide⟩

theorem witness_CipherCommandsComplete_ciphStats_tunnel : ∃ (c : Cmd) (k : Nat) (s : State), ready s c 0x0D03 .any = true ∧ c.needReply = none ∧ c.zeros 17 1 = none ∧ c.u8 20 = 0 ∧ c.zeros 21 43 = none ∧ k = c.u16 18 ∧ c.u8 16 = 1 ∧ k < 32768 ∧ (s.tunSa k).live = true ∧ (s.tunSa k).domain = c.domain :=
  ⟨cm 0xD03 [(16, 1, 1), (18, 2, 700)], 700, ((keyed (begun up (cm 0xD03 [(16, 1, 1), (18, 2, 700)]))).setPort 5 { personality := .ethernet, state := .up, enable := true, firstLane := 0, laneCount := 1, laneRate := 3 }).setTunSa 700 { live := true }, by decide⟩

theorem witness_CipherCommandsComplete_ciphStats_port : ∃ (c : Cmd) (k : Nat) (s : State), ready s c 0x0D03 .any = true ∧ c.needReply = none ∧ c.zeros 17 1 = none ∧ c.u8 20 = 0 ∧ c.zeros 21 43 = none ∧ k = c.u16 18 ∧ c.u8 16 = 2 ∧ k < 128 ∧ s.ownErr c 1 k = none :=
  ⟨cm 0xD03 [(16, 1, 2), (18, 2, 5)], 5, ((keyed (begun up (cm 0xD03 [(16, 1, 2), (18, 2, 5)]))).setPort 5 { personality := .ethernet, state := .up, enable := true, firstLane := 0, laneCount := 1, laneRate := 3 }), by decide⟩

theorem witness_CipherCommandsComplete_ciphStats_any : ∃ (c : Cmd) (k : Nat) (s : State), ready s c 0x0D03 .any = true ∧ c.needReply = none ∧ c.zeros 17 1 = none ∧ c.u8 20 ≤ 1 ∧ c.zeros 21 43 = none ∧ c.u8 16 ≤ 2 ∧ k = c.u16 18 ∧
      (if c.u8 16 = 0 then k < 16384 ∧ (s.macSa k).live = true ∧ s.ownErr c 1 (s.macSa k).port = none else if c.u8 16 = 1 then k < 32768 ∧ (s.tunSa k).live = true ∧ (s.tunSa k).domain = c.domain else k < 128 ∧ s.ownErr c 1 k = none) :=
  ⟨cm 0xD03 [(16, 1, 1), (18, 2, 700), (20, 1, 1)], 700, ((keyed (begun up (cm 0xD03 [(16, 1, 1), (18, 2, 700), (20, 1, 1)]))).setPort 5 { personality := .ethernet, state := .up, enable := true, firstLane := 0, laneCount := 1, laneRate := 3 }).setTunSa 700 { live := true }, by decide⟩

/-! ### CipherEnginesComplete -/

theorem witness_CipherEnginesComplete_macsecVerdict : ∃ (th : ThreadId) (good : Bool) (k a : Nat) (x : MacSa) (s : State), s.disagreesNow th = false ∧ s.macWritten a = false ∧ (s.thread th).pass = some k ∧ (s.pkt k).sa = some a ∧ (s.pkt k).verdict = none ∧ x = s.macSa a ∧ x.live = true ∧ x.seen = true ∧ (s.thread th).waiting = .none ∧ (s.thread th).spec.heldFault = none ∧ good = true :=
  ⟨th0, true, 9, 700, { live := true, receive := true, pn := 5, seen := true }, ((busy fun x => { x with state := .run }).setPkt 9 { live := true, inPass := true, cluster := 3, bytes := List.replicate 64 0, sa := some 700, pn := 8 }).setMacSa 700 { live := true, receive := true, pn := 5, seen := true }, by decide⟩

theorem witness_CipherEnginesComplete_macsecVerdict_failed : ∃ (th : ThreadId) (good : Bool) (k a : Nat) (x : MacSa) (v : Bool) (s : State), s.disagreesNow th = false ∧ s.macWritten a = false ∧ (s.thread th).pass = some k ∧ (s.pkt k).sa = some a ∧ (s.pkt k).verdict = none ∧ x = s.macSa a ∧ x.live = true ∧ x.seen = true ∧ (s.thread th).waiting = .none ∧ (s.thread th).spec.heldFault = none ∧ good = false ∧ (s.pkt k).checkPass = v :=
  ⟨th0, false, 9, 700, { live := true, receive := true, pn := 5, seen := true }, false, ((busy fun x => { x with state := .run }).setPkt 9 { live := true, inPass := true, cluster := 3, bytes := List.replicate 64 0, sa := some 700, pn := 8 }).setMacSa 700 { live := true, receive := true, pn := 5, seen := true }, by decide⟩

theorem witness_CipherEnginesComplete_macsecVerdict_disagrees : ∃ (th : ThreadId) (good : Bool) (s : State), s.disagreesNow th = true :=
  ⟨th0, true, { busy (fun x => { x with state := .run }) with pending := [.cipherDisagree 0 3 (.rx th0)] }, by decide +kernel⟩

theorem witness_CipherEnginesComplete_macsecVerdict_idle : ∃ (th : ThreadId) (good : Bool) (s : State), (s.thread th).pass = none :=
  ⟨th0, true, up, by decide⟩

theorem witness_CipherEnginesComplete_macsecVerdict_given : ∃ (th : ThreadId) (good : Bool) (k : Nat) (s : State), (s.thread th).pass = some k ∧ ((s.pkt k).sa = none ∨ (s.pkt k).verdict ≠ none) :=
  ⟨th0, true, 9, ((busy fun x => { x with state := .run }).setPkt 9 { live := true, inPass := true, cluster := 3, bytes := List.replicate 64 0, pn := 8 }).setMacSa 700 { live := true, receive := true, pn := 5, seen := true }, by decide⟩

theorem witness_CipherEnginesComplete_macsecVerdict_any : ∃ (th : ThreadId) (good : Bool) (k a : Nat) (x : MacSa) (s : State), s.disagreesNow th = false ∧ s.macWritten a = false ∧ (s.thread th).pass = some k ∧ (s.pkt k).sa = some a ∧ (s.pkt k).verdict = none ∧ x = s.macSa a :=
  ⟨th0, true, 9, 700, { live := true, receive := true, pn := 5 }, ((busy fun x => { x with state := .run }).setPkt 9 { live := true, inPass := true, cluster := 3, bytes := List.replicate 64 0, sa := some 700, pn := 8 }).setMacSa 700 { live := true, receive := true, pn := 5 }, by decide⟩

theorem witness_CipherEnginesComplete_tunnelCipher_denied : ∃ (pipe : Nat) (k : Nat) (l : List Nat) (off sa : Nat) (x : TunSa) (s : State), s.tunnelQueue pipe = k :: l ∧ tunnelRef ((s.pkt k).desc.meta2 % 2 ^ 31) = some (off, sa) ∧ x = s.tunSa sa ∧ (x.live = false ∨ x.domain ≠ (s.pkt k).desc.domain) :=
  ⟨68, 9, [], 0, 700, { live := true, domain := 3 }, (let s := (up.setPkt 9 { live := true, inPass := true, bytes := List.replicate 60 0x40, desc := { meta2 := 2147484348, length := 60 } }).setTunSa 700 { live := true, domain := 3 }; { s with cipher := { s.cipher with queues := [(68, [9])] } }), by decide⟩

theorem witness_CipherEnginesComplete_tunnelCipher_invalid : ∃ (pipe : Nat) (k : Nat) (l : List Nat) (off sa : Nat) (x : TunSa) (s : State), s.tunnelQueue pipe = k :: l ∧ tunnelRef ((s.pkt k).desc.meta2 % 2 ^ 31) = some (off, sa) ∧ x = s.tunSa sa ∧ x.live = true ∧ x.domain = (s.pkt k).desc.domain ∧ x.invalid = true ∧ (s.pkt k).egress = false :=
  ⟨68, 9, [], 0, 700, { live := true, invalid := true }, (let s := (up.setPkt 9 { live := true, inPass := true, bytes := List.replicate 60 0x40, desc := { meta2 := 2147484348, length := 60 } }).setTunSa 700 { live := true, invalid := true }; { s with cipher := { s.cipher with queues := [(68, [9])] } }), by decide⟩

theorem witness_CipherEnginesComplete_tunnelCipher_outbound : ∃ (pipe : Nat) (k : Nat) (l : List Nat) (off sa : Nat) (x : TunSa) (s : State), s.tunnelQueue pipe = k :: l ∧ tunnelRef ((s.pkt k).desc.meta2 % 2 ^ 31) = some (off, sa) ∧ x = s.tunSa sa ∧ x.live = true ∧ x.domain = (s.pkt k).desc.domain ∧ x.invalid = false ∧ x.inbound = false ∧ s.tunWritten sa = false ∧ x.tunnel = true ∧ x.seq < 2 ^ 31 ∧ (s.pkt k).bytes.length + 37 ≤ 10368 ∧ (s.pkt k).desc.ipOffset = 0xFFFF ∧ off ≤ (s.pkt k).bytes.length :=
  ⟨68, 9, [], 0, 700, { live := true, tunnel := true, seq := 5, spi := 0x1234 }, (let s := (up.setPkt 9 { live := true, inPass := true, bytes := List.replicate 60 0x40, desc := { meta2 := 2147484348, length := 60 } }).setTunSa 700 { live := true, tunnel := true, seq := 5, spi := 0x1234 }; { s with cipher := { s.cipher with queues := [(68, [9])] } }), by decide +kernel⟩

theorem witness_CipherEnginesComplete_tunnelCipher_noRef : ∃ (pipe : Nat) (k : Nat) (l : List Nat) (s : State), s.tunnelQueue pipe = k :: l ∧ tunnelRef ((s.pkt k).desc.meta2 % 2 ^ 31) = none :=
  ⟨68, 9, [], (let s := (up.setPkt 9 { live := true, inPass := true, bytes := List.replicate 60 0x40, desc := { meta2 := 32768, length := 60 } }).setTunSa 700 { live := true }; { s with cipher := { s.cipher with queues := [(68, [9])] } }), by decide⟩

theorem witness_CipherEnginesComplete_tunnelCipher_any : ∃ (pipe : Nat) (k : Nat) (l : List Nat) (off sa : Nat) (x : TunSa) (s : State), s.tunnelQueue pipe = k :: l ∧ tunnelRef ((s.pkt k).desc.meta2 % 2 ^ 31) = some (off, sa) ∧ x = s.tunSa sa ∧ x.live = true ∧ x.domain = (s.pkt k).desc.domain :=
  ⟨68, 9, [], 0, 700, { live := true, inbound := true }, (let s := (up.setPkt 9 { live := true, inPass := true, bytes := List.replicate 60 0x40, desc := { meta2 := 2147484348, length := 60 } }).setTunSa 700 { live := true, inbound := true }; { s with cipher := { s.cipher with queues := [(68, [9])] } }), by decide⟩

theorem witness_CipherEnginesComplete_tunnelCipher_empty : ∃ (pipe : Nat) (s : State), s.tunnelQueue pipe = [] :=
  ⟨68, up, by decide⟩

theorem witness_CipherEnginesComplete_cipherDisagree : ∃ (unit : Nat) (w : DisagreeAt) (x : CipherUnit) (n : Nat) (s : State), unit < 132 ∧ s.isOut 0x0C unit = false ∧ w = .pon 5 false ∧ x = s.cunit unit ∧ n = ((s.now :: x.last).filter fun i => s.now < i + ms 1000).length ∧ n < 3 :=
  ⟨80, .pon 5 false, {}, 1, up, by decide⟩

theorem witness_CipherEnginesComplete_cipherDisagree_third : ∃ (unit : Nat) (w : DisagreeAt) (s : State), unit < 132 ∧ s.isOut 0x0C unit = false ∧ w = .pon 5 false ∧ ((s.now :: (s.cunit unit).last).filter fun i => s.now < i + ms 1000).length = 3 :=
  ⟨80, .pon 5 false, up.setCunit 80 { last := [0, 0] }, by decide⟩

theorem witness_CipherEnginesComplete_cipherDisagree_out : ∃ (unit : Nat) (w : DisagreeAt) (s : State), 132 ≤ unit ∨ s.isOut 0x0C unit = true :=
  ⟨132, .pon 5 false, up, by decide⟩

theorem witness_CipherEnginesComplete_cipherDisagree_any : ∃ (unit : Nat) (w : DisagreeAt) (x : CipherUnit) (n : Nat) (s : State), unit < 132 ∧ s.isOut 0x0C unit = false ∧ x = s.cunit unit ∧ n = ((s.now :: x.last).filter fun i => s.now < i + ms 1000).length :=
  ⟨33, .tx 5 true, {}, 1, up, by decide⟩

theorem witness_CipherEnginesComplete_cipherKat_none : ∃ (unit : Nat) (pass : Bool) (s : State), (s.cunit unit).testing = false :=
  ⟨80, true, up, by decide⟩

theorem witness_CipherEnginesComplete_cipherKat_any : ∃ (unit : Nat) (pass : Bool) (s : State), (s.cunit unit).testing = true :=
  ⟨5, false, up.setCunit 5 { testing := true }, by decide⟩

theorem witness_CipherEnginesComplete_cipherKat : ∃ (unit : Nat) (pass : Bool) (s : State), (s.cunit unit).testing = true ∧ s.isOut 0x0C unit = false ∧ 72 ≤ unit :=
  ⟨80, false, up.setCunit 80 { testing := true }, by decide⟩

theorem witness_CipherEnginesComplete_cipherReplace : ∃ (unit : Nat) (p u : Nat) (s : State), unit < 64 ∧ s.isOut 0x0C unit = true ∧ s.cipher.replacing = [(2 * p, true)] ∧ s.pipeFor p false = some u ∧ (s.port p).conds = [] :=
  ⟨40, 5, 32, { up.setPort 5 { personality := .ethernet, state := .up, laneCount := 1, laneRate := 3 } with units := { up.units with out := [(0x0C * 65536 + 40, true)] }, cipher := { ports := [(5, { tx := true })], replacing := [(10, true)] } }, by decide⟩

theorem witness_CipherEnginesComplete_cipherReplace_any : ∃ (unit : Nat) (s : State), unit < 64 ∧ s.isOut 0x0C unit = true :=
  ⟨40, { up with units := { up.units with out := [(0x0C * 65536 + 40, true)] } }, by decide⟩

theorem witness_CipherEnginesComplete_cipherReplace_noPorts : ∃ (unit : Nat) (s : State), 64 ≤ unit :=
  ⟨64, up, by decide⟩

theorem witness_CipherEnginesComplete_cipherReplace_healthy : ∃ (unit : Nat) (s : State), s.isOut 0x0C unit = false :=
  ⟨40, up, by decide⟩

theorem witness_CipherEnginesComplete_ciphFaultLogRead : ∃ (r : RegRead) (n v : Nat) (s : State), r.addr = 0x02402000 ∧ r.size = 4 ∧ s.answers r.host = true ∧ n = s.cipher.logMark.seen s.kclk s.cipher.logCount ∧ v = 2 ^ 31 * b2n s.cipher.logValid + 65536 * s.cipher.logUnit + n :=
  ⟨{ host := 0, addr := 0x02402000, size := 4 }, 0, 0, up, by decide⟩

theorem witness_CipherEnginesComplete_ciphFaultLogRead_part : ∃ (r : RegRead) (n v : Nat) (s : State), r.addr / 4 = 0x00900800 ∧ s.answers r.host = true ∧ n = s.cipher.logMark.seen s.kclk s.cipher.logCount ∧ v = 2 ^ 31 * b2n s.cipher.logValid + 65536 * s.cipher.logUnit + n :=
  ⟨{ host := 0, addr := 0x02402002, size := 2 }, 0, 0, up, by decide⟩

theorem witness_CipherEnginesComplete_ciphFaultLogRead_elsewhere : ∃ (r : RegRead) (s : State), s.answers r.host = false ∨ readHits r 0x02402000 = false :=
  ⟨{ host := 0, addr := 0x10, size := 4 }, up, by decide⟩

/-! ### TimeComplete -/

theorem witness_TimeComplete_timeNsRead : ∃ (r : RegRead) (s : State), s.answers r.host = true ∧ r.addr = 0x02600000 ∧ r.size = 4 :=
  ⟨{ host := 0, addr := 0x02600000, size := 4 }, up, by decide⟩

theorem witness_TimeComplete_timeNsRead_part : ∃ (r : RegRead) (s : State), s.answers r.host = true ∧ r.addr / 4 = 0x00980000 :=
  ⟨{ host := 0, addr := 0x02600003, size := 1 }, up, by decide⟩

theorem witness_TimeComplete_timeNsRead_elsewhere : ∃ (r : RegRead) (s : State), s.answers r.host = false ∨ readHits r 0x02600000 = false :=
  ⟨{ host := 0, addr := 0x10, size := 4 }, up, by decide⟩

theorem witness_TimeComplete_timeStep : ∃ (c : Cmd) (v : Nat) (s : State), ready s c 0x0E00 .d0 = true ∧ c.u8 16 ≤ 1 ∧ c.zeros 17 3 = none ∧ (c.u8 16 = 0 ∨ c.u32 34 ≤ 999999999) ∧ c.zeros 40 24 = none ∧ s.time.armed = true ∧ v = (if c.u8 16 = 0 then (((s.timeNow : Int) + c.i64 20 * 2 ^ 24) % (2 ^ 48 * second : Int)).toNat else timeOf c.params 12) :=
  ⟨cm 0xE00 [(20, 8, 163840000000)], 2748779069440000000, begun up (cm 0xE00 [(20, 8, 163840000000)]), by decide⟩

theorem witness_TimeComplete_timeStep_disarmed : ∃ (c : Cmd) (s : State), ready s c 0x0E00 .d0 = true ∧ c.u8 16 ≤ 1 ∧ c.zeros 17 3 = none ∧ (c.u8 16 = 0 ∨ c.u32 34 ≤ 999999999) ∧ c.zeros 40 24 = none ∧ s.time.armed = false :=
  ⟨cm 0xE00 [(20, 8, 163840000000)], { begun up (cm 0xE00 [(20, 8, 163840000000)]) with time := { armed := false } }, by decide⟩

theorem witness_TimeComplete_timeArm : ∃ (c : Cmd) (s : State), ready s c 0x0E01 .d0 = true ∧ c.zeros 16 48 = none ∧ (s.time.stepCycle = none ∨ ∃ k, s.time.stepCycle = some k ∧ k + 1000000000 ≤ s.now / 6) :=
  ⟨cm 0xE01 [], begun up (cm 0xE01 []), by decide, by decide, Or.inl rfl⟩

theorem witness_TimeComplete_timeArm_early : ∃ (c : Cmd) (k : Nat) (s : State), ready s c 0x0E01 .d0 = true ∧ c.zeros 16 48 = none ∧ s.time.stepCycle = some k ∧ s.now / 6 < k + 1000000000 :=
  ⟨cm 0xE01 [], 0, { begun up (cm 0xE01 []) with time := { stepCycle := some 0 } }, by decide⟩

theorem witness_TimeComplete_timeRate : ∃ (c : Cmd) (s : State), ready s c 0x0E02 .d0 = true ∧ -1099511627 ≤ c.i32 16 ∧ c.i32 16 ≤ 1099511627 ∧ c.zeros 20 44 = none :=
  ⟨cm 0xE02 [(16, 4, 4294967291)], begun up (cm 0xE02 [(16, 4, 4294967291)]), by decide⟩

theorem witness_TimeComplete_timeSlew : ∃ (c : Cmd) (s : State), ready s c 0x0E03 .d0 = true ∧ (c.i64 16).natAbs ≤ 65536000000000 ∧ c.i64 16 ≠ 0 ∧ 1 ≤ c.u8 24 ∧ c.u8 24 ≤ 200 ∧ c.zeros 25 39 = none :=
  ⟨cm 0xE03 [(16, 8, 18446744073709551000), (24, 1, 200)], begun up (cm 0xE03 [(16, 8, 18446744073709551000), (24, 1, 200)]), by decide⟩

theorem witness_TimeComplete_slewComplete : ∃ (s : State), s.time.slewLeft ≠ 0 ∧ s.timeBase.slewLeft = 0 :=
  ⟨{ up with now := 60, time := { slewLeft := 5, slewRate := 100 } }, by decide⟩

theorem witness_TimeComplete_slewComplete_slewing : ∃ (s : State), s.timeBase.slewLeft ≠ 0 :=
  ⟨{ up with now := 60, time := { slewLeft := 500000, slewRate := 100 } }, by decide⟩

theorem witness_TimeComplete_timeSlew_ends : ∃ (c : Cmd) (s : State), ready s c 0x0E03 .d0 = true ∧ c.i64 16 = 0 ∧ 1 ≤ c.u8 24 ∧ c.u8 24 ≤ 200 ∧ c.zeros 25 39 = none :=
  ⟨cm 0xE03 [(24, 1, 200)], begun up (cm 0xE03 [(24, 1, 200)]), by decide⟩

theorem witness_TimeComplete_slewComplete_none : ∃ (s : State), s.time.slewLeft = 0 :=
  ⟨up, by decide⟩

theorem witness_TimeComplete_timePulse : ∃ (c : Cmd) (p : Pulse) (s : State), ready s c 0x0E04 .d0 = true ∧ firstErr (timePulseErrs c) = none ∧ p = (s.fireDue (c.u8 16)).time.pulse (c.u8 16) :=
  ⟨cm 0xE04 [(16, 1, 2), (17, 1, 1), (20, 6, 1000), (32, 4, 1000000000), (36, 4, 100000000)], {}, begun up (cm 0xE04 [(16, 1, 2), (17, 1, 1), (20, 6, 1000), (32, 4, 1000000000), (36, 4, 100000000)]), by decide⟩

theorem witness_TimeComplete_pulseFire : ∃ (out : Nat) (p : Pulse) (n : Nat) (s : State), p = s.time.pulse out ∧ p.next = some n ∧ p.enabled = true ∧ p.setCycle ≠ some (s.now / 6) ∧ n ≤ s.timeNow :=
  ⟨0, { enabled := true, periodNs := 1000, widthNs := 8, next := some 0, missed := true }, 0, { up with time := { pulses := [(0, { enabled := true, periodNs := 1000, widthNs := 8, next := some 0, missed := true })] } }, by decide⟩

theorem witness_TimeComplete_pulseFire_waits : ∃ (out : Nat) (n : Nat) (s : State), (s.time.pulse out).next = some n ∧ ((s.time.pulse out).enabled = false ∨ (s.time.pulse out).setCycle = some (s.now / 6) ∨ s.timeNow < n) :=
  ⟨0, 0, { up with time := { pulses := [(0, { next := some 0 })] } }, by decide⟩

theorem witness_TimeComplete_pulseEnd_idle : ∃ (out : Nat) (s : State), (s.time.pulse out).firing = none :=
  ⟨0, up, by decide⟩

theorem witness_TimeComplete_pulseFire_none : ∃ (out : Nat) (s : State), (s.time.pulse out).next = none :=
  ⟨0, up, by decide⟩

theorem witness_TimeComplete_pulseEnd : ∃ (out : Nat) (f : Firing) (s : State), (s.time.pulse out).firing = some f ∧ f.ends ≤ s.now / 6 :=
  ⟨0, { ends := 0, polarity := 1 }, { up with time := { pulses := [(0, { firing := some { ends := 0, polarity := 1 } })] } }, by decide⟩

theorem witness_TimeComplete_pulseEnd_wide : ∃ (out : Nat) (f : Firing) (s : State), (s.time.pulse out).firing = some f ∧ s.now / 6 < f.ends :=
  ⟨0, { ends := 1, polarity := 1 }, { up with time := { pulses := [(0, { firing := some { ends := 1, polarity := 1 } })] } }, by decide⟩

theorem witness_TimeComplete_timeInEdge : ∃ (input : Nat) (rising : Bool) (heldNs : Nat) (p : Capture) (s : State), input < 2 ∧ p = s.input input ∧ bit p.edge (if rising = true then 0 else 1) = true ∧ 10 ≤ heldNs ∧ p.last = none ∧ p.queue.length < 16 :=
  ⟨1, true, 10, { edge := 1 }, up.setInput 1 { edge := 1 }, by decide⟩

theorem witness_TimeComplete_timeInEdge_later : ∃ (input : Nat) (rising : Bool) (heldNs : Nat) (p : Capture) (l : Nat) (s : State), input < 2 ∧ p = s.input input ∧ bit p.edge (if rising = true then 0 else 1) = true ∧ 10 ≤ heldNs ∧ p.last = some l ∧ l + ns 100 ≤ s.now ∧ p.queue.length < 16 :=
  ⟨1, true, 10, { edge := 1, last := some 0 }, 0, { up with now := 600 }.setInput 1 { edge := 1, last := some 0 }, by decide⟩

theorem witness_TimeComplete_timeInEdge_full : ∃ (input : Nat) (rising : Bool) (heldNs : Nat) (p : Capture) (s : State), input < 2 ∧ p = s.input input ∧ bit p.edge (if rising = true then 0 else 1) = true ∧ 10 ≤ heldNs ∧ (∀ l, p.last = some l → l + ns 100 ≤ s.now) ∧ 16 ≤ p.queue.length :=
  ⟨1, true, 10, { edge := 1, queue := List.replicate 16 (0, 1) }, up.setInput 1 { edge := 1, queue := List.replicate 16 (0, 1) }, by decide, by decide, by decide, by decide, (fun _ h => nomatch h), by decide⟩

theorem witness_TimeComplete_timeInEdge_noInput : ∃ (input : Nat) (rising : Bool) (heldNs : Nat) (s : State), 2 ≤ input :=
  ⟨2, true, 10, up, by decide⟩

theorem witness_TimeComplete_timeInEdge_lost : ∃ (input : Nat) (rising : Bool) (heldNs : Nat) (p : Capture) (s : State), input < 2 ∧ p = s.input input ∧ bit p.edge (if rising = true then 0 else 1) = true ∧ 10 ≤ heldNs ∧ ((∃ l, p.last = some l ∧ s.now < l + ns 100) ∨ (p.last = none ∧ 16 ≤ p.queue.length)) :=
  ⟨1, true, 10, { edge := 1, last := some 0 }, up.setInput 1 { edge := 1, last := some 0 }, by decide, by decide, by decide, by decide, Or.inl ⟨0, by decide, by decide⟩⟩

theorem witness_TimeComplete_timeInEdge_ignored : ∃ (input : Nat) (rising : Bool) (heldNs : Nat) (s : State), heldNs < 10 ∨ bit (s.input input).edge (if rising = true then 0 else 1) = false :=
  ⟨1, true, 9, up, by decide⟩

theorem witness_TimeComplete_timeCapture : ∃ (c : Cmd) (p : Capture) (s : State), ready s c 0x0E05 .d0 = true ∧ c.u8 16 ≤ 1 ∧ c.u8 18 ≤ 3 ∧ c.zeros 19 45 = none ∧ p = s.input (c.u8 16) ∧ c.u8 17 = 0 :=
  ⟨cm 0xE05 [(16, 1, 1), (17, 1, 0), (18, 1, 3)], {}, begun up (cm 0xE05 [(16, 1, 1), (17, 1, 0), (18, 1, 3)]), by decide⟩

theorem witness_TimeComplete_timeCapture_read : ∃ (c : Cmd) (p : Capture) (s : State), ready s c 0x0E05 .d0 = true ∧ c.u8 16 ≤ 1 ∧ c.u8 18 ≤ 3 ∧ c.zeros 19 45 = none ∧ p = s.input (c.u8 16) ∧ c.u8 17 = 1 ∧ c.needReply = none :=
  ⟨cm 0xE05 [(16, 1, 1), (17, 1, 1), (18, 1, 3)], { queue := [(5, 1)] }, (begun up (cm 0xE05 [(16, 1, 1), (17, 1, 1), (18, 1, 3)])).setInput 1 { queue := [(5, 1)] }, by decide⟩

theorem witness_TimeComplete_timeTsRead : ∃ (c : Cmd) (p : PortTime) (b : Bytes) (s : State), ready s c 0x0E06 .any = true ∧ c.needReply = none ∧ s.ownErr c 1 (c.u8 16) = none ∧ 1 ≤ c.u8 17 ∧ c.u8 17 ≤ 16 ∧ c.zeros 18 46 = none ∧ p = s.portTime (c.u8 16) ∧ b = (p.queue.take (c.u8 17)).flatMap TsRecord.bytes :=
  ⟨cm 0xE06 [(16, 1, 5), (17, 1, 2)], {}, [], begun up (cm 0xE06 [(16, 1, 5), (17, 1, 2)]), by decide⟩

theorem witness_TimeComplete_timePortAdj : ∃ (c : Cmd) (p : PortTime) (s : State), ready s c 0x0E07 .any = true ∧ s.ownErr c 1 (c.u8 16) = none ∧ c.zeros 17 3 = none ∧ (c.i32 20).natAbs ≤ 655360000 ∧ (c.i32 24).natAbs ≤ 655360000 ∧ c.zeros 28 36 = none ∧ p = s.portTime (c.u8 16) :=
  ⟨cm 0xE07 [(16, 1, 5), (20, 4, 65536), (24, 4, 4294901760)], {}, begun up (cm 0xE07 [(16, 1, 5), (20, 4, 65536), (24, 4, 4294901760)]), by decide⟩

/-! ### DramControllersComplete -/

theorem witness_DramControllersComplete_dramArbitrate : ∃ (stack : Nat) (pc : Nat) (err : Option EccError) (x : Stack) (p : Pseudo) (b : Nat) (l : List Nat) (s : State), stack < 10 ∧ pc < 64 ∧ s.stackCode stack = 1 ∧ x = s.stack stack ∧ p = x.pc pc ∧ p.forced = b :: l :=
  ⟨4, 6, none, ({ state := .active, low := 0 } : Stack).setPc 6 { forced := [3] }, { forced := [3] }, 3, [], (up.setStack 4 (({ state := .active, low := 0 } : Stack).setPc 6 { forced := [3] })), by decide⟩

theorem witness_DramControllersComplete_dramArbitrate_burst : ∃ (stack : Nat) (pc : Nat) (err : Option EccError) (x : Stack) (p : Pseudo) (q : DramReq) (l : List DramReq) (s : State), stack < 10 ∧ pc < 64 ∧ s.stackCode stack = 1 ∧ x = s.stack stack ∧ p = x.pc pc ∧ err = none ∧ p.forced = [] ∧ q.rt = true ∧ p.waiting = q :: l ∧ (s.beLow stack pc = false ∨ ∀ r ∈ l, r.rt = true) :=
  ⟨4, 6, none, ({ state := .active, low := 0 } : Stack).setPc 6 { waiting := [{ rt := true, requester := 0, bank := 1, row := 9, bytes := 64, cell := none, packet := 0 }, { rt := false, requester := 1, bank := 2, row := 9, bytes := 64, cell := none, packet := 0 }], beDone := [(0, 4000)] }, { waiting := [{ rt := true, requester := 0, bank := 1, row := 9, bytes := 64, cell := none, packet := 0 }, { rt := false, requester := 1, bank := 2, row := 9, bytes := 64, cell := none, packet := 0 }], beDone := [(0, 4000)] }, { rt := true, requester := 0, bank := 1, row := 9, bytes := 64, cell := none, packet := 0 }, [{ rt := false, requester := 1, bank := 2, row := 9, bytes := 64, cell := none, packet := 0 }], (up.setStack 4 (({ state := .active, low := 0 } : Stack).setPc 6 { waiting := [{ rt := true, requester := 0, bank := 1, row := 9, bytes := 64, cell := none, packet := 0 }, { rt := false, requester := 1, bank := 2, row := 9, bytes := 64, cell := none, packet := 0 }], beDone := [(0, 4000)] })), by decide, by decide, by decide, by decide, by decide, by decide, by decide, by decide, by decide, Or.inl (by decide)⟩

theorem witness_DramControllersComplete_dramArbitrate_share : ∃ (stack : Nat) (pc : Nat) (err : Option EccError) (x : Stack) (p : Pseudo) (q r : DramReq) (s : State), stack < 10 ∧ pc < 64 ∧ s.stackCode stack = 1 ∧ x = s.stack stack ∧ p = x.pc pc ∧ err = none ∧ p.forced = [] ∧ s.beLow stack pc = true ∧ p.waiting = [q, r] ∧ q.rt = true ∧ r.rt = false ∧ r.requester < 4 ∧ s.heldBack stack pc r = false :=
  ⟨4, 6, none, ({ state := .active, low := 0 } : Stack).setPc 6 { waiting := [{ rt := true, requester := 0, bank := 1, row := 9, bytes := 64, cell := none, packet := 0 }, { rt := false, requester := 1, bank := 2, row := 9, bytes := 64, cell := none, packet := 0 }] }, { waiting := [{ rt := true, requester := 0, bank := 1, row := 9, bytes := 64, cell := none, packet := 0 }, { rt := false, requester := 1, bank := 2, row := 9, bytes := 64, cell := none, packet := 0 }] }, { rt := true, requester := 0, bank := 1, row := 9, bytes := 64, cell := none, packet := 0 }, { rt := false, requester := 1, bank := 2, row := 9, bytes := 64, cell := none, packet := 0 }, (up.setStack 4 (({ state := .active, low := 0 } : Stack).setPc 6 { waiting := [{ rt := true, requester := 0, bank := 1, row := 9, bytes := 64, cell := none, packet := 0 }, { rt := false, requester := 1, bank := 2, row := 9, bytes := 64, cell := none, packet := 0 }] })), by decide⟩

theorem witness_DramControllersComplete_dramArbitrate_any : ∃ (stack : Nat) (pc : Nat) (err : Option EccError) (s : State), stack < 10 ∧ pc < 64 ∧ s.stackCode stack = 1 :=
  ⟨4, 6, none, (up.setStack 4 (({ state := .active, low := 0 } : Stack).setPc 6 { waiting := [{ rt := true, requester := 0, bank := 1, row := 9, bytes := 64, cell := none, packet := 0 }, { rt := false, requester := 1, bank := 2, row := 9, bytes := 64, cell := none, packet := 0 }], beDone := [(0, 4000)] })), by decide⟩

theorem witness_DramControllersComplete_dramArbitrate_none : ∃ (stack : Nat) (pc : Nat) (err : Option EccError) (s : State), 10 ≤ stack ∨ 64 ≤ pc ∨ s.stackCode stack ≠ 1 :=
  ⟨10, 6, none, up, by decide⟩

theorem witness_DramControllersComplete_dramArbitrate_repays : ∃ (stack : Nat) (pc : Nat) (err : Option EccError) (x : Stack) (p : Pseudo) (b n : Nat) (l : Sparse Nat) (s : State), stack < 10 ∧ pc < 64 ∧ s.stackCode stack = 1 ∧ x = s.stack stack ∧ p = x.pc pc ∧ p.forced = [] ∧ p.waiting = [] ∧ p.postponed = (b, n) :: l :=
  ⟨4, 6, none, ({ state := .active, low := 0 } : Stack).setPc 6 { postponed := [(3, 2)] }, { postponed := [(3, 2)] }, 3, 2, [], (up.setStack 4 (({ state := .active, low := 0 } : Stack).setPc 6 { postponed := [(3, 2)] })), by decide⟩

theorem witness_DramControllersComplete_dramArbitrate_error : ∃ (stack : Nat) (pc : Nat) (err : Option EccError) (x : Stack) (p : Pseudo) (q : DramReq) (e : EccError) (s : State), stack < 10 ∧ pc < 64 ∧ s.stackCode stack = 1 ∧ x = s.stack stack ∧ p = x.pc pc ∧ err = some e ∧ e.uncorrectable = true ∧ p.forced = [] ∧ q.rt = true ∧ q.packet = 0 ∧ p.waiting = [q] :=
  ⟨4, 6, some { uncorrectable := true, channel := 3, pc := 1, bank := 7, row := 99 }, ({ state := .active, low := 0 } : Stack).setPc 6 { waiting := [{ rt := true, requester := 0, bank := 1, row := 9, bytes := 64, cell := none, packet := 0 }] }, { waiting := [{ rt := true, requester := 0, bank := 1, row := 9, bytes := 64, cell := none, packet := 0 }] }, { rt := true, requester := 0, bank := 1, row := 9, bytes := 64, cell := none, packet := 0 }, { uncorrectable := true, channel := 3, pc := 1, bank := 7, row := 99 }, (up.setStack 4 (({ state := .active, low := 0 } : Stack).setPc 6 { waiting := [{ rt := true, requester := 0, bank := 1, row := 9, bytes := 64, cell := none, packet := 0 }] })), by decide⟩

theorem witness_DramControllersComplete_dramRefreshDue : ∃ (stack : Nat) (pc : Nat) (bank : Nat) (x : Stack) (p : Pseudo) (s : State), stack < 10 ∧ pc < 64 ∧ bank < 32 ∧ s.stackCode stack = 1 ∧ x = s.stack stack ∧ p = x.pc pc ∧ p.waiting.any (fun q => q.rt && decide (q.bank = bank)) = true ∧ look p.postponed bank 0 < 8 :=
  ⟨4, 6, 1, ({ state := .active, low := 0 } : Stack).setPc 6 { waiting := [{ rt := true, requester := 0, bank := 1, row := 9, bytes := 64, cell := none, packet := 0 }], postponed := [(1, 7)] }, { waiting := [{ rt := true, requester := 0, bank := 1, row := 9, bytes := 64, cell := none, packet := 0 }], postponed := [(1, 7)] }, (up.setStack 4 (({ state := .active, low := 0 } : Stack).setPc 6 { waiting := [{ rt := true, requester := 0, bank := 1, row := 9, bytes := 64, cell := none, packet := 0 }], postponed := [(1, 7)] })), by decide⟩

theorem witness_DramControllersComplete_dramRefreshDue_force : ∃ (stack : Nat) (pc : Nat) (bank : Nat) (x : Stack) (p : Pseudo) (s : State), stack < 10 ∧ pc < 64 ∧ bank < 32 ∧ s.stackCode stack = 1 ∧ x = s.stack stack ∧ p = x.pc pc ∧ p.waiting.any (fun q => q.rt && decide (q.bank = bank)) = true ∧ 8 ≤ look p.postponed bank 0 ∧ p.forced.contains bank = false :=
  ⟨4, 6, 1, ({ state := .active, low := 0 } : Stack).setPc 6 { waiting := [{ rt := true, requester := 0, bank := 1, row := 9, bytes := 64, cell := none, packet := 0 }], postponed := [(1, 8)] }, { waiting := [{ rt := true, requester := 0, bank := 1, row := 9, bytes := 64, cell := none, packet := 0 }], postponed := [(1, 8)] }, (up.setStack 4 (({ state := .active, low := 0 } : Stack).setPc 6 { waiting := [{ rt := true, requester := 0, bank := 1, row := 9, bytes := 64, cell := none, packet := 0 }], postponed := [(1, 8)] })), by decide⟩

theorem witness_DramControllersComplete_dramRefreshDue_atOnce : ∃ (stack : Nat) (pc : Nat) (bank : Nat) (s : State), 10 ≤ stack ∨ 64 ≤ pc ∨ 32 ≤ bank ∨ s.stackCode stack ≠ 1 ∨ ((s.stack stack).pc pc).waiting.any (fun q => q.rt && decide (q.bank = bank)) = false :=
  ⟨4, 6, 1, up, by decide⟩

theorem witness_DramControllersComplete_dramRefreshDue_forced : ∃ (stack : Nat) (pc : Nat) (bank : Nat) (x : Stack) (p : Pseudo) (s : State), stack < 10 ∧ pc < 64 ∧ bank < 32 ∧ s.stackCode stack = 1 ∧ x = s.stack stack ∧ p = x.pc pc ∧ p.waiting.any (fun q => q.rt && decide (q.bank = bank)) = true ∧ 8 ≤ look p.postponed bank 0 ∧ p.forced.contains bank = true :=
  ⟨4, 6, 1, ({ state := .active, low := 0 } : Stack).setPc 6 { waiting := [{ rt := true, requester := 0, bank := 1, row := 9, bytes := 64, cell := none, packet := 0 }], postponed := [(1, 8)], forced := [1] }, { waiting := [{ rt := true, requester := 0, bank := 1, row := 9, bytes := 64, cell := none, packet := 0 }], postponed := [(1, 8)], forced := [1] }, (up.setStack 4 (({ state := .active, low := 0 } : Stack).setPc 6 { waiting := [{ rt := true, requester := 0, bank := 1, row := 9, bytes := 64, cell := none, packet := 0 }], postponed := [(1, 8)], forced := [1] })), by decide⟩

theorem witness_DramControllersComplete_dramRefreshDue_free : ∃ (stack : Nat) (pc : Nat) (bank : Nat) (p : Pseudo) (s : State), (s.stack stack).pc pc = p ∧ p.waiting = [] :=
  ⟨4, 6, 1, {}, up, by decide⟩

theorem witness_DramControllersComplete_dramDisturbWindow : ∃ (stack : Nat) (s : State), stack < 10 :=
  ⟨4, (up.setStack 4 { rows := [(3, [{ row := 1, by_ := [(0, 2)] }])] }), by decide⟩

theorem witness_DramControllersComplete_dramDisturbWindow_none : ∃ (stack : Nat) (s : State), 10 ≤ stack :=
  ⟨10, up, by decide⟩

theorem witness_DramControllersComplete_dramThrottleExpire_any : ∃ (stack : Nat) (pc : Nat) (bank : Nat) (x : Stack) (s : State), x = s.stack stack :=
  ⟨4, 1, 3, { state := .active, throttled := [(141, 6, 0)] }, (up.setStack 4 { state := .active, throttled := [(141, 6, 0)] }), by decide⟩

theorem witness_DramControllersComplete_dramThrottleExpire : ∃ (stack : Nat) (pc : Nat) (bank : Nat) (s : State), (∀ r ∈ (s.stack stack).throttled, r.1 / 4 = pc * 32 + bank) ∧ (∀ r ∈ (s.stack stack).throttled, r.2.1 ≤ s.now) :=
  ⟨4, 1, 3, ({ up with now := 6 }.setStack 4 { throttled := [(141, 6, 0)] }), by decide⟩

theorem witness_DramControllersComplete_dramThrottleExpire_holds : ∃ (stack : Nat) (pc : Nat) (bank : Nat) (r : Nat × Nat × Nat) (s : State), r ∈ (s.stack stack).throttled ∧ (r.1 / 4 ≠ pc * 32 + bank ∨ s.now < r.2.1) :=
  ⟨4, 1, 3, (141, 6, 0), (up.setStack 4 { throttled := [(141, 6, 0)] }), by decide, Or.inr (by decide)⟩

theorem witness_DramControllersComplete_dramSelfRefreshEnter : ∃ (stack : Nat) (x : Stack) (s : State), stack < 10 ∧ s.stackCode stack = 1 ∧ x = s.stack stack ∧ x.idleUs ≠ 0 ∧ x.wanted = false ∧ x.lastRequest + us x.idleUs ≤ s.now :=
  ⟨4, { state := .active, idleUs := 2 }, { up with now := us 2 }.setStack 4 { state := .active, idleUs := 2 }, by decide⟩

theorem witness_DramControllersComplete_dramSelfRefreshEnter_stays : ∃ (stack : Nat) (s : State), 10 ≤ stack ∨ s.stackCode stack ≠ 1 ∨ (s.stack stack).idleUs = 0 ∨ (s.stack stack).wanted = true ∨ s.now < (s.stack stack).lastRequest + us (s.stack stack).idleUs :=
  ⟨10, up, by decide⟩

theorem witness_DramControllersComplete_dramSelfRefreshExit_awake : ∃ (stack : Nat) (s : State), s.stackCode stack ≠ 2 :=
  ⟨4, up, by decide⟩

theorem witness_DramControllersComplete_dramSelfRefreshEnter_off : ∃ (stack : Nat) (s : State), (s.stack stack).idleUs = 0 :=
  ⟨4, up, by decide⟩

theorem witness_DramControllersComplete_dramSelfRefreshExit : ∃ (stack : Nat) (s : State), s.stackCode stack = 2 ∧ (s.stack stack).wanted = true :=
  ⟨4, up.setStack 4 (({ state := .selfRefresh } : Stack).setPc 6 { waiting := [{ rt := true, requester := 0, bank := 1, row := 9, bytes := 64, cell := none, packet := 0 }] }), by decide⟩

theorem witness_DramControllersComplete_dramSelfRefreshExit_asleep : ∃ (stack : Nat) (s : State), (s.stack stack).wanted = false :=
  ⟨4, up, by decide⟩

theorem witness_DramControllersComplete_dramSpillInterval_entry : ∃ (stack : Nat) (x : Stack) (s : State), 4 ≤ stack ∧ stack < 10 ∧ s.isOut 9 stack = false ∧ x = s.stack stack ∧ x.mode = 0 ∧ x.state = .active ∧ x.economy = false ∧ 999 ≤ x.low ∧ x.spill < 102400000 :=
  ⟨4, { state := .active, low := 999 }, (up.setStack 4 { state := .active, low := 999 }), by decide⟩

theorem witness_DramControllersComplete_dramSpillInterval_return : ∃ (stack : Nat) (x : Stack) (s : State), 4 ≤ stack ∧ stack < 10 ∧ s.isOut 9 stack = false ∧ x = s.stack stack ∧ x.mode = 0 ∧ x.state = .active ∧ x.economy = true ∧ 409600000 ≤ x.spill :=
  ⟨4, { state := .active, economy := true, spill := 409600000 }, (up.setStack 4 { state := .active, economy := true, spill := 409600000 }), by decide⟩

theorem witness_DramControllersComplete_dramSpillInterval_steady : ∃ (stack : Nat) (x : Stack) (s : State), 4 ≤ stack ∧ stack < 10 ∧ s.isOut 9 stack = false ∧ x = s.stack stack ∧ x.state = .active ∧ (x.mode ≠ 0 ∨ (x.economy = true ∧ x.spill < 409600000) ∨ (x.economy = false ∧ (102400000 ≤ x.spill ∨ x.low < 999))) :=
  ⟨4, { state := .active, low := 998 }, (up.setStack 4 { state := .active, low := 998 }), by decide, by decide, by decide, by decide, by decide, Or.inr (Or.inr ⟨by decide, Or.inr (by decide)⟩)⟩

theorem witness_DramControllersComplete_dramSpillInterval_any : ∃ (stack : Nat) (x : Stack) (n : Nat) (e : Bool) (s : State), 4 ≤ stack ∧ stack < 10 ∧ s.isOut 9 stack = false ∧ x = s.stack stack ∧ n = (if x.mode = 0 ∧ x.spill < 102400000 then x.low + 1 else 0) ∧ e = (if x.state = .changing then x.goal else x.economy) :=
  ⟨4, { state := .changing, goal := true }, 1, true, (up.setStack 4 { state := .changing, goal := true }), by decide⟩

theorem witness_DramControllersComplete_dramSpillInterval_none : ∃ (stack : Nat) (s : State), stack < 4 ∨ 10 ≤ stack ∨ s.isOut 9 stack = true :=
  ⟨3, up, by decide⟩

theorem witness_DramControllersComplete_dramOppointChange : ∃ (stack : Nat) (x : Stack) (e : Bool) (s : State), 4 ≤ stack ∧ stack < 10 ∧ (s.stackCode stack = 1 ∨ s.stackCode stack = 2) ∧ x = s.stack stack ∧ x.due = some e ∧ e ≠ x.economy :=
  ⟨4, { state := .active, due := some true }, true, (up.setStack 4 { state := .active, due := some true }), by decide, by decide, Or.inl (by decide), by decide⟩

theorem witness_DramControllersComplete_dramOppointChange_there : ∃ (stack : Nat) (x : Stack) (e : Bool) (s : State), 4 ≤ stack ∧ stack < 10 ∧ (s.stackCode stack = 1 ∨ s.stackCode stack = 2) ∧ x = s.stack stack ∧ x.due = some e ∧ e = x.economy :=
  ⟨4, { state := .active, economy := true, due := some true }, true, (up.setStack 4 { state := .active, economy := true, due := some true }), by decide, by decide, Or.inl (by decide), by decide⟩

theorem witness_DramControllersComplete_dramOppointChange_not : ∃ (stack : Nat) (s : State), stack < 4 ∨ 10 ≤ stack ∨ (s.stackCode stack ≠ 1 ∧ s.stackCode stack ≠ 2) :=
  ⟨3, up, by decide⟩

theorem witness_DramControllersComplete_dramOppoint_noStack : ∃ (stack : Nat) (s : State), 10 ≤ stack :=
  ⟨10, up, by decide⟩

theorem witness_DramControllersComplete_dramPatrolScrub_out : ∃ (stack : Nat) (err : Option EccError) (s : State), 10 ≤ stack ∨ s.isOut 9 stack = true :=
  ⟨10, none, up, by decide⟩

theorem witness_DramControllersComplete_dramOppointChange_none : ∃ (stack : Nat) (s : State), (s.stack stack).due = none :=
  ⟨4, up, by decide⟩

theorem witness_DramControllersComplete_dramOppoint : ∃ (stack : Nat) (x : Stack) (s : State), stack < 10 ∧ s.stackCode stack = 3 ∧ x = s.stack stack :=
  ⟨4, { state := .changing, goal := true }, (up.setStack 4 { state := .changing, goal := true }), by decide⟩

theorem witness_DramControllersComplete_dramOppoint_idle : ∃ (stack : Nat) (s : State), s.stackCode stack ≠ 3 :=
  ⟨4, up, by decide⟩

theorem witness_DramControllersComplete_dramPatrolScrub : ∃ (stack : Nat) (err : Option EccError) (x : Stack) (e : EccError) (s : State), stack < 10 ∧ s.isOut 9 stack = false ∧ x = s.stack stack ∧ err = some e ∧ e.uncorrectable = true :=
  ⟨4, some { uncorrectable := true, channel := 3, pc := 1, bank := 7, row := 99 }, { state := .active }, { uncorrectable := true, channel := 3, pc := 1, bank := 7, row := 99 }, (up.setStack 4 { state := .active }), by decide⟩

theorem witness_DramControllersComplete_dramPatrolScrub_corrected : ∃ (stack : Nat) (err : Option EccError) (x : Stack) (e : EccError) (s : State), stack < 10 ∧ s.isOut 9 stack = false ∧ x = s.stack stack ∧ err = some e ∧ e.uncorrectable = false :=
  ⟨4, some { uncorrectable := false, channel := 3, pc := 1, bank := 7, row := 99 }, { state := .active }, { uncorrectable := false, channel := 3, pc := 1, bank := 7, row := 99 }, (up.setStack 4 { state := .active }), by decide⟩

theorem witness_DramControllersComplete_dramPatrolScrub_clean : ∃ (stack : Nat) (err : Option EccError) (s : State), err = none :=
  ⟨4, none, up, by decide⟩

theorem witness_DramControllersComplete_dramStackFail : ∃ (stack : Nat) (cause : Nat) (s : State), stack < 10 ∧ (cause = 2 ∨ cause = 3 ∨ (cause = 0 ∧ 64 < ((s.stack stack).uncorrAt.filter fun u => decide (s.now < u + ms 1000)).length) ∨ (cause = 1 ∧ ∃ c, c < 32 ∧ 1024 < ((s.stack stack).corrAt.filter fun r => decide (r.1 = c) && decide (s.now < r.2 + ms 1000)).length)) ∧ s.isOut 9 stack = false :=
  ⟨4, 2, (up.setStack 4 { state := .active }), by decide, Or.inl rfl, by decide⟩

theorem witness_DramControllersComplete_dramStackFail_out : ∃ (stack : Nat) (cause : Nat) (s : State), 10 ≤ stack ∨ (s.isOut 9 stack = true ∧ ∀ p, p < 1024 → (s.farPage p).stack = stack → (s.farPage p).lost = true) :=
  ⟨10, 2, up, Or.inl (by decide)⟩

theorem witness_DramControllersComplete_dramStackFail_again : ∃ (stack : Nat) (cause : Nat) (p : Nat) (s : State), stack < 10 ∧ cause = 2 ∧ s.isOut 9 stack = true ∧ p < 1024 ∧ (s.farPage p).stack = stack ∧ (s.farPage p).lost = false :=
  ⟨4, 2, 0, up.markOut 9 4, by decide⟩

theorem witness_DramControllersComplete_dramStackFail_bound : ∃ (stack : Nat) (cause : Nat) (s : State), 3 < cause ∨ (cause = 0 ∧ (s.stack stack).uncorrAt = []) ∨ (cause = 1 ∧ (s.stack stack).corrAt = []) :=
  ⟨4, 4, up, Or.inl (by decide)⟩

theorem witness_DramControllersComplete_dramErrCountRead : ∃ (r : RegRead) (n : Nat) (x : Stack) (v : Nat) (s : State), n < 10 ∧ r.addr = 0x02800008 + n * 0x40000 ∧ r.size = 4 ∧ s.answers r.host = true ∧ s.holds r.host 0 = true ∧ x = s.stack n ∧ v = 65536 * x.uncorrMark.seen s.kclk x.rcUncorr + x.corrMark.seen s.kclk x.rcCorr :=
  ⟨{ host := 0, addr := 0x02900008, size := 4 }, 4, { rcCorr := 3, corrMark := { cycle := 9 } }, 3, up.setStack 4 { rcCorr := 3, corrMark := { cycle := 9 } }, by decide⟩

theorem witness_DramControllersComplete_dramErrCountRead_part : ∃ (r : RegRead) (n : Nat) (x : Stack) (v : Nat) (s : State), n < 10 ∧ r.addr / 4 = 0x00A00002 + n * 0x10000 ∧ s.answers r.host = true ∧ s.holds r.host 0 = true ∧ x = s.stack n ∧ v = 65536 * x.uncorrMark.seen s.kclk x.rcUncorr + x.corrMark.seen s.kclk x.rcCorr :=
  ⟨{ host := 0, addr := 0x02900008, size := 2 }, 4, { rcCorr := 3, corrMark := { cycle := 9 } }, 3, up.setStack 4 { rcCorr := 3, corrMark := { cycle := 9 } }, by decide⟩

theorem witness_DramControllersComplete_dramErrCountRead_other : ∃ (r : RegRead) (n : Nat) (s : State), n < 10 ∧ r.addr = 0x02800008 + n * 0x40000 ∧ r.size = 4 ∧ s.answers r.host = true ∧ s.holds r.host 0 = false :=
  ⟨{ host := 1, addr := 0x02900008, size := 4 }, 4, up.setHostPort 1 { link := true, cxl := true }, by decide⟩

theorem witness_DramControllersComplete_dramErrCountRead_elsewhere : ∃ (r : RegRead) (s : State), s.answers r.host = false ∨ r.addr < 0x02800000 ∨ 0x02A80000 ≤ r.addr ∨ readHits r (0x02800008 + (r.addr - 0x02800000) / 0x40000 * 0x40000) = false :=
  ⟨{ host := 0, addr := 0x10, size := 4 }, up, by decide⟩

/-! ### DramCommandsComplete -/

theorem witness_DramCommandsComplete_dramQuery : ∃ (c : Cmd) (x : Stack) (s : State), ready s c 0x0F00 .d0 = true ∧ c.needReply = none ∧ c.u8 16 < 10 ∧ c.zeros 17 47 = none ∧ x = s.stack (c.u8 16) :=
  ⟨cm 0xF00 [(16, 1, 4)], { state := .active, maxPost := 3 }, (begun up (cm 0xF00 [(16, 1, 4)])).setStack 4 { state := .active, maxPost := 3 }, by decide⟩

theorem witness_DramCommandsComplete_dramMap : ∃ (c : Cmd) (s : State), ready s c 0x0F01 .d0 = true ∧ c.u8 16 < 10 ∧ c.zeros 17 3 = none ∧ firstErr (maskErrs c) = none ∧ c.zeros 53 11 = none :=
  ⟨cm 0xF01 [(16, 1, 4), (23, 3, 131071)], begun up (cm 0xF01 [(16, 1, 4), (23, 3, 131071)]), by decide⟩

theorem witness_DramCommandsComplete_dramMap_all : ∃ (c : Cmd) (n : Nat) (s : State), ready s c 0x0F01 .d0 = true ∧ c.u8 16 = 0xFF ∧ c.zeros 17 3 = none ∧ firstErr (maskErrs c) = none ∧ c.zeros 53 11 = none ∧ n < 10 :=
  ⟨cm 0xF01 [(16, 1, 255), (23, 3, 131071)], 9, begun up (cm 0xF01 [(16, 1, 255), (23, 3, 131071)]), by decide⟩

theorem witness_DramCommandsComplete_dramPower : ∃ (c : Cmd) (x : Stack) (s : State), ready s c 0x0F02 .d0 = true ∧ c.zeros 18 2 = none ∧ c.zeros 24 40 = none ∧ c.u8 16 < 10 ∧ c.u8 17 ≤ 2 ∧ (c.u8 17 = 0 ∨ 4 ≤ c.u8 16) ∧ (c.u32 20 = 0 ∨ (2 ≤ c.u32 20 ∧ c.u32 20 ≤ 1000000)) ∧ x = s.stack (c.u8 16) :=
  ⟨cm 0xF02 [(16, 1, 4), (17, 1, 2), (20, 4, 100)], { state := .active }, (begun up (cm 0xF02 [(16, 1, 4), (17, 1, 2), (20, 4, 100)])).setStack 4 { state := .active }, by decide, by decide, by decide, by decide, by decide, Or.inr (by decide), Or.inr (by decide), by decide⟩

theorem witness_DramCommandsComplete_dramPower_all : ∃ (c : Cmd) (n : Nat) (x : Stack) (s : State), ready s c 0x0F02 .d0 = true ∧ c.zeros 18 2 = none ∧ c.zeros 24 40 = none ∧ c.u8 16 = 0xFF ∧ c.u8 17 ≤ 2 ∧ (c.u32 20 = 0 ∨ (2 ≤ c.u32 20 ∧ c.u32 20 ≤ 1000000)) ∧ n < 10 ∧ x = s.stack n :=
  ⟨cm 0xF02 [(16, 1, 255), (17, 1, 2), (20, 4, 100)], 5, { state := .active }, (begun up (cm 0xF02 [(16, 1, 255), (17, 1, 2), (20, 4, 100)])).setStack 5 { state := .active }, by decide, by decide, by decide, by decide, by decide, Or.inr (by decide), by decide⟩

theorem witness_DramCommandsComplete_dramPower_near : ∃ (c : Cmd) (s : State), ready s c 0x0F02 .d0 = true ∧ c.zeros 18 2 = none ∧ c.zeros 24 40 = none ∧ c.u8 16 < 4 ∧ c.u8 17 = 1 :=
  ⟨cm 0xF02 [(16, 1, 3), (17, 1, 1)], begun up (cm 0xF02 [(16, 1, 3), (17, 1, 1)]), by decide⟩

theorem witness_DramCommandsComplete_dramTrain_retrain : ∃ (c : Cmd) (counts : List Nat) (n : Nat) (s : State), ready s c 0x0F03 .d0 = true ∧ n = c.u8 16 ∧ n < 10 ∧ c.zeros 19 1 = none ∧ c.zeros 24 40 = none ∧ (s.stack n).work = none ∧ c.u8 17 = 0 ∧ s.isOut 9 n = true :=
  ⟨cm 0xF03 [(16, 1, 4), (17, 1, 0), (20, 4, 5)], [], 4, { begun up (cm 0xF03 [(16, 1, 4), (17, 1, 0), (20, 4, 5)]) with units := { out := [(589828, true)] } }, by decide⟩

theorem witness_DramCommandsComplete_dramTrain_out : ∃ (c : Cmd) (counts : List Nat) (n : Nat) (s : State), ready s c 0x0F03 .d0 = true ∧ n = c.u8 16 ∧ n < 10 ∧ c.zeros 19 1 = none ∧ c.zeros 24 40 = none ∧ (s.stack n).work = none ∧ c.u8 17 = 1 ∧ s.healthy 9 n = true ∧ s.lastFarStack n = false ∧ (∀ p, p < 1024 → (s.farPage p).stack ≠ n ∨ (s.farPage p).lost = true) :=
  ⟨cm 0xF03 [(16, 1, 0), (17, 1, 1), (20, 4, 5)], [], 0, begun up (cm 0xF03 [(16, 1, 0), (17, 1, 1), (20, 4, 5)]), by decide +kernel⟩

theorem witness_DramCommandsComplete_dramTrain_plan : ∃ (c : Cmd) (counts : List Nat) (n p : Nat) (s : State), ready s c 0x0F03 .d0 = true ∧ n = c.u8 16 ∧ n < 10 ∧ c.zeros 19 1 = none ∧ c.zeros 24 40 = none ∧ (s.stack n).work = none ∧ c.u8 17 = 1 ∧ s.healthy 9 n = true ∧ s.lastFarStack n = false ∧ p < 1024 ∧ (s.farPage p).stack = n ∧ (s.farPage p).lost = false :=
  ⟨cm 0xF03 [(16, 1, 4), (17, 1, 1), (20, 4, 5)], [], 4, 0, begun up (cm 0xF03 [(16, 1, 4), (17, 1, 1), (20, 4, 5)]), by decide +kernel⟩

theorem witness_DramCommandsComplete_dramTrain_pattern : ∃ (c : Cmd) (counts : List Nat) (n : Nat) (s : State), ready s c 0x0F03 .d0 = true ∧ n = c.u8 16 ∧ n < 10 ∧ c.zeros 19 1 = none ∧ c.zeros 24 40 = none ∧ (s.stack n).work = none ∧ c.u8 17 = 2 ∧ c.needReply = none ∧ c.u8 18 ≤ 5 ∧ s.isOut 9 n = true :=
  ⟨cm 0xF03 [(16, 1, 4), (17, 1, 2), (20, 4, 5)], [7], 4, { begun up (cm 0xF03 [(16, 1, 4), (17, 1, 2), (20, 4, 5)]) with units := { out := [(589828, true)] } }, by decide⟩

theorem witness_DramCommandsComplete_dramTrain_busy : ∃ (c : Cmd) (counts : List Nat) (n : Nat) (s : State), ready s c 0x0F03 .d0 = true ∧ n = c.u8 16 ∧ n < 10 ∧ c.zeros 19 1 = none ∧ c.zeros 24 40 = none ∧ (s.stack n).work ≠ none ∧ c.u8 17 ≤ 2 ∧ (c.u8 17 = 2 → c.needReply = none ∧ c.u8 18 ≤ 5) :=
  ⟨cm 0xF03 [(16, 1, 4), (17, 1, 1), (20, 4, 5)], [], 4, (begun up (cm 0xF03 [(16, 1, 4), (17, 1, 1), (20, 4, 5)])).setStack 4 { work := some (cm 0xF03 [(16, 1, 4), (17, 1, 1), (20, 4, 5)], true) }, by decide⟩

theorem witness_DramCommandsComplete_dramTrain_last : ∃ (c : Cmd) (counts : List Nat) (n : Nat) (s : State), ready s c 0x0F03 .d0 = true ∧ n = c.u8 16 ∧ n < 10 ∧ c.zeros 19 1 = none ∧ c.zeros 24 40 = none ∧ (s.stack n).work = none ∧ c.u8 17 = 1 ∧ s.healthy 9 n = true ∧ s.lastFarStack n = true :=
  ⟨cm 0xF03 [(16, 1, 4), (17, 1, 1), (20, 4, 5)], [], 4, { begun up (cm 0xF03 [(16, 1, 4), (17, 1, 1), (20, 4, 5)]) with units := { out := [(589829, true), (589830, true), (589831, true), (589832, true), (589833, true)] }, buf := { pools := [(3, { enabled := true, far := 1 })] } }, by decide⟩

theorem witness_DramCommandsComplete_dramDisturb : ∃ (c : Cmd) (s : State), ready s c 0x0F04 .d0 = true ∧ c.u8 16 < 10 ∧ c.zeros 17 3 = none ∧ 1024 ≤ c.u16 20 ∧ c.zeros 22 2 = none ∧ 10 ≤ c.u32 24 ∧ c.u32 24 ≤ 100000 ∧ c.zeros 28 36 = none :=
  ⟨cm 0xF04 [(16, 1, 4), (20, 2, 65535), (24, 4, 100000)], begun up (cm 0xF04 [(16, 1, 4), (20, 2, 65535), (24, 4, 100000)]), by decide⟩

theorem witness_DramCommandsComplete_dramDisturb_all : ∃ (c : Cmd) (n : Nat) (s : State), ready s c 0x0F04 .d0 = true ∧ c.u8 16 = 0xFF ∧ c.zeros 17 3 = none ∧ 1024 ≤ c.u16 20 ∧ c.zeros 22 2 = none ∧ 10 ≤ c.u32 24 ∧ c.u32 24 ≤ 100000 ∧ c.zeros 28 36 = none ∧ n < 10 :=
  ⟨cm 0xF04 [(16, 1, 255), (20, 2, 65535), (24, 4, 100000)], 5, begun up (cm 0xF04 [(16, 1, 255), (20, 2, 65535), (24, 4, 100000)]), by decide⟩

/-! ### LanternAndLogComplete -/

theorem witness_LanternAndLogComplete_lantCntLoRead : ∃ (r : RegRead) (i : Nat) (s : State), i < 3584 ∧ r.addr = 0x02C00000 + 8 * i ∧ r.size = 4 ∧ s.answers r.host = true ∧ s.holds r.host (s.owner 5 (lantGroup i)) = true :=
  ⟨{ host := 0, addr := 0x02C00050, size := 4 }, 10, { up with lant := [(10, { value := 2 ^ 40 + 5 })] }, by decide⟩

theorem witness_LanternAndLogComplete_lantCntLoRead_part : ∃ (r : RegRead) (i : Nat) (s : State), i < 3584 ∧ r.addr / 4 = 0x00B00000 + 2 * i ∧ s.answers r.host = true ∧ s.lantReads r.host i = true :=
  ⟨{ host := 0, addr := 0x02C00052, size := 2 }, 10, { up with lant := [(10, { value := 2 ^ 40 + 5 })] }, by decide⟩

theorem witness_LanternAndLogComplete_lantCntLoRead_other : ∃ (r : RegRead) (i : Nat) (s : State), i < 3584 ∧ r.addr = 0x02C00000 + 8 * i ∧ r.size = 4 ∧ s.answers r.host = true ∧ s.holds r.host (s.owner 5 (lantGroup i)) = false ∧ s.dom.session = none :=
  ⟨{ host := 1, addr := 0x02C00050, size := 4 }, 10, up.setHostPort 1 { link := true, cxl := true }, by decide⟩

theorem witness_LanternAndLogComplete_lantCntLoRead_notHeld : ∃ (r : RegRead) (i : Nat) (s : State), i < 3584 ∧ r.addr / 4 = 0x00B00000 + 2 * i ∧ s.answers r.host = true ∧ s.lantReads r.host i = false :=
  ⟨{ host := 1, addr := 0x02C00050, size := 4 }, 10, up.setHostPort 1 { link := true, cxl := true }, by decide⟩

theorem witness_LanternAndLogComplete_lantCntLoRead_elsewhere : ∃ (r : RegRead) (s : State), s.answers r.host = false ∨ r.addr < 0x02C00000 ∨ 0x02C07000 ≤ r.addr ∨ readHits r (0x02C00000 + 8 * ((r.addr - 0x02C00000) / 8)) = false :=
  ⟨{ host := 0, addr := 0x10, size := 4 }, up, by decide⟩

theorem witness_LanternAndLogComplete_lantRead : ∃ (c : Cmd) (s : State), ready s c 0x1000 .any = true ∧ c.needReply = none ∧ s.ownErr c 5 (c.u8 16) = none ∧ c.u8 17 ≤ 1 ∧ c.zeros 18 46 = none :=
  ⟨cm 0x1000 [(16, 1, 130), (17, 1, 1)], begun up (cm 0x1000 [(16, 1, 130), (17, 1, 1)]), by decide⟩

theorem witness_LanternAndLogComplete_lantMode : ∃ (c : Cmd) (s : State), ready s c 0x1001 .any = true ∧ s.ownErr c 5 (lantGroup (c.u16 16)) = none ∧ 2560 ≤ c.u16 16 ∧ c.u16 16 ≤ 3423 ∧ lantReserved (c.u16 16) = false ∧ c.u8 18 ≤ 1 ∧ c.zeros 19 45 = none :=
  ⟨cm 0x1001 [(16, 2, 2560), (18, 1, 1)], begun up (cm 0x1001 [(16, 2, 2560), (18, 1, 1)]), by decide⟩

theorem witness_LanternAndLogComplete_lantMode_beyond : ∃ (c : Cmd) (s : State), ready s c 0x1001 .any = true ∧ 3583 < c.u16 16 :=
  ⟨cm 0x1001 [(16, 2, 3584), (18, 1, 1)], begun up (cm 0x1001 [(16, 2, 3584), (18, 1, 1)]), by decide⟩

theorem witness_LanternAndLogComplete_lantMode_denied : ∃ (c : Cmd) (s : State), ready s c 0x1001 .any = true ∧ c.u16 16 ≤ 3583 ∧ s.ownErr c 5 (lantGroup (c.u16 16)) ≠ none :=
  ⟨cm 0x1001 [(16, 2, 100), (18, 1, 1)], { begun up (cm 0x1001 [(16, 2, 100), (18, 1, 1)]) with dom := { up.dom with owner := [(5 * 2 ^ 24 + 6, 3)] } }, by decide⟩

theorem witness_LanternAndLogComplete_lantMode_plain : ∃ (c : Cmd) (s : State), ready s c 0x1001 .any = true ∧ c.u16 16 ≤ 3583 ∧ s.ownErr c 5 (lantGroup (c.u16 16)) = none ∧ (c.u16 16 < 2560 ∨ 3423 < c.u16 16 ∨ lantReserved (c.u16 16) = true) :=
  ⟨cm 0x1001 [(16, 2, 100), (18, 1, 1)], begun up (cm 0x1001 [(16, 2, 100), (18, 1, 1)]), by decide, by decide, by decide, Or.inl (by decide)⟩

theorem witness_LanternAndLogComplete_faultLogRead : ∃ (c : Cmd) (l : List Rec) (s : State), ready s c 0x1100 .any = true ∧ c.needReply = none ∧ 1 ≤ c.u8 20 ∧ c.u8 20 ≤ 32 ∧ c.zeros 21 43 = none ∧ l = (s.units.log.filter fun r => c.u32 16 ≤ r.seq && (c.domain = 0 || bit r.mask c.domain)).take (c.u8 20) :=
  ⟨cm 0x1100 [(16, 4, 5), (20, 1, 32)], [{ seq := 6, time := 0, kind := 4, severity := 2, unit := 21, cause := 0, action := 2, mask := 0xFFFF, lost := 412, recoveryUs := 3, planned := false, acked := false, late := false }], { begun up (cm 0x1100 [(16, 4, 5), (20, 1, 32)]) with units := { log := [{ seq := 6, time := 0, kind := 4, severity := 2, unit := 21, cause := 0, action := 2, mask := 0xFFFF, lost := 412, recoveryUs := 3, planned := false, acked := false, late := false }], lastSeq := 6 } }, by decide⟩

theorem witness_LanternAndLogComplete_faultAck : ∃ (c : Cmd) (s : State), ready s c 0x1102 .d0 = true ∧ c.host = s.dom.principal ∧ c.u32 16 ≤ s.units.lastSeq ∧ c.zeros 20 44 = none :=
  ⟨cm 0x1102 [(16, 4, 6)], { begun up (cm 0x1102 [(16, 4, 6)]) with units := { log := [{ seq := 6, time := 0, kind := 4, severity := 2, unit := 21, cause := 0, action := 2, mask := 0xFFFF, lost := 412, recoveryUs := 3, planned := false, acked := false, late := false }], lastSeq := 6 } }, by decide⟩

theorem witness_LanternAndLogComplete_faultAck_beyond : ∃ (c : Cmd) (s : State), ready s c 0x1102 .d0 = true ∧ c.host = s.dom.principal ∧ s.units.lastSeq < c.u32 16 :=
  ⟨cm 0x1102 [(16, 4, 6)], begun up (cm 0x1102 [(16, 4, 6)]), by decide⟩

theorem witness_LanternAndLogComplete_faultAck_denied : ∃ (c : Cmd) (s : State), ready s c 0x1102 .d0 = true ∧ c.host ≠ s.dom.principal :=
  ⟨cm 0x1102 [(16, 4, 6)], { begun up (cm 0x1102 [(16, 4, 6)]) with dom := { up.dom with principal := 1 } }, by decide⟩

theorem witness_LanternAndLogComplete_faultConfig : ∃ (c : Cmd) (s : State), ready s c 0x1103 .d0 = true ∧ c.host = s.dom.principal ∧ c.u8 16 ≤ 3 ∧ c.zeros 17 47 = none :=
  ⟨cm 0x1103 [(16, 1, 3)], begun up (cm 0x1103 [(16, 1, 3)]), by decide⟩

theorem witness_LanternAndLogComplete_faultConfig_denied : ∃ (c : Cmd) (s : State), ready s c 0x1103 .d0 = true ∧ c.host ≠ s.dom.principal :=
  ⟨cm 0x1103 [(16, 1, 3)], { begun up (cm 0x1103 [(16, 1, 3)]) with dom := { up.dom with principal := 1 } }, by decide⟩

/-! ### UnitsComplete -/

theorem witness_UnitsComplete_sliceFail : ∃ (slice : Nat) (j : Nat) (s : State), slice < 32 ∧ s.isOut 8 slice = false ∧ j < 32 ∧ j ≠ slice ∧ s.healthy 8 j = true :=
  ⟨2, 3, (up.setPort 5 { personality := .ethernet, firstLane := 16, state := .up }), by decide⟩

theorem witness_UnitsComplete_sliceFail_none : ∃ (slice : Nat) (s : State), 32 ≤ slice ∨ s.isOut 8 slice = true :=
  ⟨32, up, Or.inl (by decide)⟩

theorem witness_UnitsComplete_sliceNodeMove : ∃ (node : Nat) (w : UnitWork) (j : Nat) (s : State), node < 192 ∧ s.rootExists node = true ∧ s.workOf 8 (s.sliceOf node) = some w ∧ w.ret = false ∧ s.backlogged (nodeKey 0 node) = false ∧ s.leastSlice (s.sliceOf node) = some j :=
  ⟨5, { cmd := cm 0x1101 [], ret := false, since := 0 }, 0, { (up.setPort 5 { personality := .ethernet, firstLane := 16, state := .up }) with units := { work := [(524290, { cmd := cm 0x1101 [], ret := false, since := 0 })] } }, by decide⟩

theorem witness_UnitsComplete_sliceNodeMove_stays : ∃ (node : Nat) (s : State), 192 ≤ node ∨ s.rootExists node = false ∨ (s.workOf 8 (s.sliceOf node)).any (fun w => !w.ret) = false ∨ s.backlogged (nodeKey 0 node) = true ∨ s.leastSlice (s.sliceOf node) = none :=
  ⟨192, up, Or.inl (by decide)⟩

theorem witness_UnitsComplete_sliceNodeMove_waits : ∃ (node : Nat) (s : State), s.backlogged (nodeKey 0 node) = true ∨ s.workOf 8 (s.sliceOf node) = none :=
  ⟨5, up, Or.inr (by decide)⟩

theorem witness_UnitsComplete_basecampCoreFail : ∃ (core : Nat) (tags : List Nat) (x : Started) (s : State), core < 4 ∧ s.isOut 1 core = false ∧ s.countOut 1 ≠ 3 ∧ s.fw.handover = none ∧ s.host.started = [x] ∧ x.working = false ∧ tags.contains x.cmd.tag = true :=
  ⟨2, [7], { cmd := cm 0xF00 [], mode := .service, held := true }, begun up (cm 0xF00 []), by decide⟩

theorem witness_UnitsComplete_basecampCoreFail_others : ∃ (core : Nat) (tags : List Nat) (s : State), core < 4 ∧ s.isOut 1 core = false ∧ s.countOut 1 ≠ 3 ∧ s.fw.handover = none ∧ (∀ x ∈ s.host.started, x.working = true ∨ tags.contains x.cmd.tag = false) :=
  ⟨2, [], up, by decide⟩

theorem witness_UnitsComplete_basecampCoreFail_any : ∃ (core : Nat) (tags : List Nat) (s : State), core < 4 ∧ s.isOut 1 core = false ∧ s.countOut 1 ≠ 3 :=
  ⟨2, [7], up, by decide⟩

theorem witness_UnitsComplete_basecampCoreFail_out : ∃ (core : Nat) (tags : List Nat) (s : State), 4 ≤ core ∨ s.isOut 1 core = true :=
  ⟨4, [], up, by decide⟩

theorem witness_UnitsComplete_basecampCoreFail_last : ∃ (core : Nat) (tags : List Nat) (s : State), core < 4 ∧ s.isOut 1 core = false ∧ s.countOut 1 = 3 :=
  ⟨2, [], { up with units := { out := [(65536, true), (65537, true), (65539, true)] } }, by decide⟩

theorem witness_UnitsComplete_tableBankFail : ∃ (bank : Nat) (tables : List Nat) (s : State), bank < 16 ∧ s.isOut 5 bank = false :=
  ⟨3, [7], (up.setTable 7 { live := true, bankMiss := false }), by decide⟩

theorem witness_UnitsComplete_tableBankFail_out : ∃ (bank : Nat) (tables : List Nat) (s : State), 16 ≤ bank ∨ (s.isOut 5 bank = true ∧ s.missingParts true = []) :=
  ⟨16, [7], up, Or.inl (by decide)⟩

theorem witness_UnitsComplete_tableBankFail_again : ∃ (bank : Nat) (tables : List Nat) (s : State), bank < 16 ∧ s.isOut 5 bank = true ∧ s.missingParts true ≠ [] :=
  ⟨3, [7], (up.setTable 7 { live := true, bankMiss := true }).markOut 5 3, by decide⟩

theorem witness_UnitsComplete_tableBankRebuilt_none : ∃ (bank : Nat) (missing : List Nat) (k : Nat) (s : State), s.isOut 5 bank = true ∧ (s.table k).live = false :=
  ⟨3, [], 7, up.markOut 5 3, by decide⟩

theorem witness_UnitsComplete_tableBankRebuilt_tree : ∃ (bank : Nat) (missing : List Nat) (k : Nat) (s : State), s.isOut 5 bank = true ∧ k < 1024 ∧ (s.tree k).bankMiss = true ∧ (s.tree k).bankLost = false :=
  ⟨3, [], 7, { (up.setTree 7 { live := true, bankMiss := true }) with units := { up.units with out := [(5 * 65536 + 3, true)] } }, by decide⟩

theorem witness_UnitsComplete_tableBankRebuilt : ∃ (bank : Nat) (missing : List Nat) (k : Nat) (s : State), s.isOut 5 bank = true ∧ k < 1024 ∧ (s.table k).live = true ∧ (s.table k).bankMiss = true ∧ (s.table k).bankLost = false :=
  ⟨3, [], 7, (up.setTable 7 { live := true, bankMiss := true }).markOut 5 3, by decide⟩

theorem witness_UnitsComplete_tableBankRebuilt_in : ∃ (bank : Nat) (missing : List Nat) (s : State), s.isOut 5 bank = false :=
  ⟨3, [], up, by decide⟩

theorem witness_UnitsComplete_assocBlockFail : ∃ (block : Nat) (s : State), block < 32 ∧ s.isOut 6 block = false ∧ s.arrayOf block = none :=
  ⟨9, up, by decide⟩

theorem witness_UnitsComplete_assocBlockFail_array : ∃ (block : Nat) (k : Nat) (s : State), block < 32 ∧ s.isOut 6 block = false ∧ s.arrayOf block = some k ∧ (s.array k).work = none :=
  ⟨9, 1, up.setArray 1 { live := true, first := 9, count := 1 }, by decide⟩

theorem witness_UnitsComplete_assocBlockFail_ends : ∃ (block : Nat) (k : Nat) (s : State), block < 32 ∧ s.isOut 6 block = false ∧ s.arrayOf block = some k :=
  ⟨9, 1, up.setArray 1 { live := true, first := 9, count := 1 }, by decide⟩

theorem witness_UnitsComplete_assocBlockFail_none : ∃ (block : Nat) (s : State), 32 ≤ block ∨ s.isOut 6 block = true :=
  ⟨32, up, Or.inl (by decide)⟩

theorem witness_UnitsComplete_nearBankFail : ∃ (bank : Nat) (s : State), bank < 8 ∧ s.isOut 7 bank = false ∧ s.inWork 7 bank = false :=
  ⟨3, up, by decide⟩

theorem witness_UnitsComplete_nearBankFail_any : ∃ (bank : Nat) (s : State), bank < 8 ∧ s.isOut 7 bank = false :=
  ⟨3, up, by decide⟩

theorem witness_UnitsComplete_nearBankFail_out : ∃ (bank : Nat) (s : State), 8 ≤ bank ∨ s.isOut 7 bank = true :=
  ⟨8, up, by decide⟩

theorem witness_UnitsComplete_nearBankDrained : ∃ (bank : Nat) (w : UnitWork) (s : State), s.workOf 7 bank = some w ∧ s.inWork 7 bank = true ∧ s.bankFree bank = true :=
  ⟨3, { cmd := cm 0x1101 [(16, 1, 7), (17, 1, 0), (18, 2, 3)], ret := false, since := 0 }, { atWork up (cm 0x1101 [(16, 1, 7), (17, 1, 0), (18, 2, 3)]) with units := { work := [(458755, { cmd := cm 0x1101 [(16, 1, 7), (17, 1, 0), (18, 2, 3)], ret := false, since := 0 })] } }, by decide⟩

theorem witness_UnitsComplete_nearBankDrained_waits : ∃ (bank : Nat) (s : State), s.inWork 7 bank = false ∨ s.bankFree bank = false :=
  ⟨3, up, Or.inl (by decide)⟩

theorem witness_UnitsComplete_unitMap : ∃ (c : Cmd) (selfTest : List Nat) (k n : Nat) (s : State), ready s c 0x1101 .d0 = true ∧ c.host = s.dom.principal ∧ k = c.u8 16 ∧ n = c.u16 18 ∧ n < unitCount k ∧ c.zeros 20 44 = none ∧ s.unitBusy k n = false ∧ c.u8 17 = 0 ∧ s.healthy k n = true ∧ (s.markOut k n).serviceable = true ∧ (k = 1 ∨ (k = 7 ∧ s.bankFree n = true)) :=
  ⟨cm 0x1101 [(16, 1, 1), (17, 1, 0), (18, 2, 2)], [], 1, 2, begun up (cm 0x1101 [(16, 1, 1), (17, 1, 0), (18, 2, 2)]), by decide, by decide, by decide, by decide, by decide, by decide, by decide, by decide, by decide, by decide, Or.inl rfl⟩

theorem witness_UnitsComplete_unitMap_cluster : ∃ (c : Cmd) (selfTest : List Nat) (k n : Nat) (s : State), ready s c 0x1101 .d0 = true ∧ c.host = s.dom.principal ∧ k = c.u8 16 ∧ n = c.u16 18 ∧ n < unitCount k ∧ c.zeros 20 44 = none ∧ s.unitBusy k n = false ∧ c.u8 17 = 0 ∧ s.healthy k n = true ∧ (s.markOut k n).serviceable = true ∧ k = 4 :=
  ⟨cm 0x1101 [(16, 1, 4), (17, 1, 0), (18, 2, 21)], [], 4, 21, begun up (cm 0x1101 [(16, 1, 4), (17, 1, 0), (18, 2, 21)]), by decide +kernel⟩

theorem witness_UnitsComplete_unitMap_later : ∃ (c : Cmd) (selfTest : List Nat) (k n : Nat) (s : State), ready s c 0x1101 .d0 = true ∧ c.host = s.dom.principal ∧ k = c.u8 16 ∧ n = c.u16 18 ∧ n < unitCount k ∧ c.zeros 20 44 = none ∧ s.unitBusy k n = false ∧ c.u8 17 = 0 ∧ s.healthy k n = true ∧ (s.markOut k n).serviceable = true ∧ (k = 7 ∧ s.bankFree n = false ∨ k = 8 ∧ s.sliceNodes n ≠ []) :=
  ⟨cm 0x1101 [(16, 1, 8), (17, 1, 0), (18, 2, 2)], [], 8, 2, begun (up.setPort 5 { personality := .ethernet, firstLane := 16, state := .up }) (cm 0x1101 [(16, 1, 8), (17, 1, 0), (18, 2, 2)]), by decide, by decide, by decide, by decide, by decide, by decide, by decide, by decide, by decide, by decide, Or.inr (by decide +kernel)⟩

theorem witness_UnitsComplete_unitMap_refused : ∃ (c : Cmd) (selfTest : List Nat) (k n : Nat) (s : State), ready s c 0x1101 .d0 = true ∧ c.host = s.dom.principal ∧ k = c.u8 16 ∧ n = c.u16 18 ∧ n < unitCount k ∧ c.zeros 20 44 = none ∧ s.unitBusy k n = false ∧ 3 ≤ k ∧ k ≤ 13 ∧ k ≠ 11 ∧ c.u8 17 = 0 ∧ s.healthy k n = true ∧ (s.markOut k n).serviceable = false :=
  ⟨cm 0x1101 [(16, 1, 7), (17, 1, 0), (18, 2, 3)], [], 7, 3, { begun up (cm 0x1101 [(16, 1, 7), (17, 1, 0), (18, 2, 3)]) with units := { out := [(458752, true), (458753, true), (458754, true), (458756, true), (458757, true), (458758, true), (458759, true)] } }, by decide⟩

theorem witness_UnitsComplete_unitMap_busy : ∃ (c : Cmd) (selfTest : List Nat) (k n : Nat) (s : State), ready s c 0x1101 .d0 = true ∧ c.host = s.dom.principal ∧ k = c.u8 16 ∧ n = c.u16 18 ∧ (k = 1 ∨ (3 ≤ k ∧ k ≤ 13 ∧ k ≠ 11)) ∧ c.u8 17 ≤ 1 ∧ n < unitCount k ∧ c.zeros 20 44 = none ∧ s.unitBusy k n = true :=
  ⟨cm 0x1101 [(16, 1, 7), (17, 1, 0), (18, 2, 3)], [], 7, 3, { begun up (cm 0x1101 [(16, 1, 7), (17, 1, 0), (18, 2, 3)]) with units := { work := [(458755, { cmd := cm 0x1101 [(16, 1, 7), (17, 1, 0), (18, 2, 3)], ret := false, since := 0 })] } }, by decide, by decide, by decide, by decide, Or.inr (by decide), by decide⟩

theorem witness_UnitsComplete_unitMap_denied : ∃ (c : Cmd) (selfTest : List Nat) (s : State), ready s c 0x1101 .d0 = true ∧ c.host ≠ s.dom.principal :=
  ⟨cm 0x1101 [(16, 1, 7), (17, 1, 0), (18, 2, 3)], [], { begun up (cm 0x1101 [(16, 1, 7), (17, 1, 0), (18, 2, 3)]) with dom := { up.dom with principal := 1 } }, by decide⟩

theorem witness_UnitsComplete_unitMap_returns : ∃ (c : Cmd) (selfTest : List Nat) (k n : Nat) (s : State), ready s c 0x1101 .d0 = true ∧ c.host = s.dom.principal ∧ k = c.u8 16 ∧ n = c.u16 18 ∧ n < unitCount k ∧ c.zeros 20 44 = none ∧ s.unitBusy k n = false ∧ c.u8 17 = 1 ∧ s.isOut k n = true ∧ (k = 1 ∨ k = 7 ∨ k = 4) ∧ selfTest = [] :=
  ⟨cm 0x1101 [(16, 1, 1), (17, 1, 1), (18, 2, 2)], [], 1, 2, { begun up (cm 0x1101 [(16, 1, 1), (17, 1, 1), (18, 2, 2)]) with dev := { up.dev with mode := .degraded }, units := { out := [(65538, true)], lastSeq := 4 } }, by decide, by decide, by decide, by decide, by decide, by decide, by decide, by decide, by decide, Or.inl rfl, rfl⟩

theorem witness_UnitsComplete_unitMap_selfTest : ∃ (c : Cmd) (selfTest : List Nat) (k n : Nat) (s : State), ready s c 0x1101 .d0 = true ∧ c.host = s.dom.principal ∧ k = c.u8 16 ∧ n = c.u16 18 ∧ n < unitCount k ∧ c.zeros 20 44 = none ∧ s.unitBusy k n = false ∧ c.u8 17 = 1 ∧ s.isOut k n = true ∧ (k = 1 ∨ (3 ≤ k ∧ k ≤ 9) ∨ k = 12 ∨ k = 13) ∧ selfTest ≠ [] :=
  ⟨cm 0x1101 [(16, 1, 4), (17, 1, 1), (18, 2, 21)], [0], 4, 21, { begun up (cm 0x1101 [(16, 1, 4), (17, 1, 1), (18, 2, 21)]) with dev := { up.dev with mode := .degraded }, units := { out := [(262165, true)], lastSeq := 4 } }, by decide, by decide, by decide, by decide, by decide, by decide, by decide, by decide, by decide, Or.inr (Or.inl (by decide)), by decide⟩

theorem witness_UnitsComplete_clusterDrained : ∃ (cluster : Nat) (w : UnitWork) (s : State), s.workOf 4 cluster = some w ∧ w.ret = false ∧ s.isOut 4 cluster = false ∧ s.clusterIdle cluster = true ∧ s.fw.handover = none :=
  ⟨21, { cmd := cm 0x1101 [(16, 1, 4), (17, 1, 0), (18, 2, 21)], ret := false, since := 0 }, { atWork up (cm 0x1101 [(16, 1, 4), (17, 1, 0), (18, 2, 21)]) with units := { work := [(262165, { cmd := cm 0x1101 [(16, 1, 4), (17, 1, 0), (18, 2, 21)], ret := false, since := 0 })] } }, by decide +kernel⟩

theorem witness_UnitsComplete_unitMap_out : ∃ (c : Cmd) (selfTest : List Nat) (k n : Nat) (s : State), ready s c 0x1101 .d0 = true ∧ c.host = s.dom.principal ∧ k = c.u8 16 ∧ n = c.u16 18 ∧ (k = 1 ∨ (3 ≤ k ∧ k ≤ 13)) ∧ n < unitCount k ∧ c.zeros 20 44 = none ∧ (k = 11 → s.dev.topology = 1) ∧ s.unitBusy k n = false ∧ c.u8 17 = 0 ∧ s.healthy k n = true ∧ (s.markOut k n).serviceable = true ∧ (k = 9 → s.lastFarStack n = false) :=
  ⟨cm 0x1101 [(16, 1, 12), (17, 1, 0), (18, 2, 5)], [], 12, 5, begun up (cm 0x1101 [(16, 1, 12), (17, 1, 0), (18, 2, 5)]), by decide, by decide, by decide, by decide, Or.inr (by decide), by decide, by decide, by decide, by decide, by decide, by decide, by decide, fun h => absurd h (by decide)⟩

theorem witness_UnitsComplete_unitMap_back : ∃ (c : Cmd) (selfTest : List Nat) (k n : Nat) (s : State), ready s c 0x1101 .d0 = true ∧ c.host = s.dom.principal ∧ k = c.u8 16 ∧ n = c.u16 18 ∧ (k = 1 ∨ (3 ≤ k ∧ k ≤ 13)) ∧ n < unitCount k ∧ c.zeros 20 44 = none ∧ (k = 11 → s.dev.topology = 1) ∧ s.unitBusy k n = false ∧ c.u8 17 = 1 ∧ s.isOut k n = true ∧ ¬ (k = 10 ∧ (s.lane n).quadOut = true) ∧ selfTest = [] :=
  ⟨cm 0x1101 [(16, 1, 12), (17, 1, 1), (18, 2, 5)], [], 12, 5, { begun up (cm 0x1101 [(16, 1, 12), (17, 1, 1), (18, 2, 5)]) with dev := { up.dev with mode := .degraded }, units := { out := [(786437, true)], lastSeq := 4 } }, by decide, by decide, by decide, by decide, Or.inr (by decide), by decide, by decide, by decide, by decide, by decide, by decide, by decide, rfl⟩

theorem witness_UnitsComplete_unitMap_fails : ∃ (c : Cmd) (selfTest : List Nat) (k n : Nat) (s : State), ready s c 0x1101 .d0 = true ∧ c.host = s.dom.principal ∧ k = c.u8 16 ∧ n = c.u16 18 ∧ (k = 1 ∨ (3 ≤ k ∧ k ≤ 13)) ∧ n < unitCount k ∧ c.zeros 20 44 = none ∧ (k = 11 → s.dev.topology = 1) ∧ s.unitBusy k n = false ∧ c.u8 17 = 1 ∧ s.isOut k n = true ∧ (if (k = 10 ∧ (s.lane n).quadOut = true) then selfTest.contains 4 = true else selfTest ≠ []) :=
  ⟨cm 0x1101 [(16, 1, 10), (17, 1, 1), (18, 2, 5)], [1, 4], 10, 5, { begun up (cm 0x1101 [(16, 1, 10), (17, 1, 1), (18, 2, 5)]) with dev := { up.dev with mode := .degraded }, ports := (up.setLane 5 { quadOut := true }).ports, units := { out := [(655365, true)], lastSeq := 4 } }, by decide, by decide, by decide, by decide, Or.inr (by decide), by decide⟩

theorem witness_UnitsComplete_unitMap_quad : ∃ (c : Cmd) (selfTest : List Nat) (k n : Nat) (s : State), ready s c 0x1101 .d0 = true ∧ c.host = s.dom.principal ∧ k = c.u8 16 ∧ n = c.u16 18 ∧ (k = 1 ∨ (3 ≤ k ∧ k ≤ 13)) ∧ n < unitCount k ∧ c.zeros 20 44 = none ∧ (k = 11 → s.dev.topology = 1) ∧ s.unitBusy k n = false ∧ k = 10 ∧ c.u8 17 = 1 ∧ s.isOut k n = true ∧ (s.lane n).quadOut = true ∧ selfTest.contains 4 = false :=
  ⟨cm 0x1101 [(16, 1, 10), (17, 1, 1), (18, 2, 5)], [1], 10, 5, { begun up (cm 0x1101 [(16, 1, 10), (17, 1, 1), (18, 2, 5)]) with dev := { up.dev with mode := .degraded }, ports := (up.setLane 5 { quadOut := true }).ports, units := { out := [(655365, true)], lastSeq := 4 } }, by decide, by decide, by decide, by decide, Or.inr (by decide), by decide⟩

theorem witness_UnitsComplete_clusterDrained_failed : ∃ (cluster : Nat) (w : UnitWork) (s : State), s.workOf 4 cluster = some w ∧ w.ret = false ∧ s.isOut 4 cluster = true :=
  ⟨21, { cmd := cm 0x1101 [(16, 1, 4), (17, 1, 0), (18, 2, 21)], ret := false, since := 0 }, { atWork up (cm 0x1101 [(16, 1, 4), (17, 1, 0), (18, 2, 21)]) with units := { out := [(262165, true)], work := [(262165, { cmd := cm 0x1101 [(16, 1, 4), (17, 1, 0), (18, 2, 21)], ret := false, since := 0 })] } }, by decide⟩

theorem witness_UnitsComplete_clusterDrained_any : ∃ (cluster : Nat) (w : UnitWork) (s : State), s.workOf 4 cluster = some w ∧ w.ret = false ∧ s.isOut 4 cluster = false ∧ s.clusterIdle cluster = true :=
  ⟨21, { cmd := cm 0x1101 [(16, 1, 4), (17, 1, 0), (18, 2, 21)], ret := false, since := 0 }, { atWork up (cm 0x1101 [(16, 1, 4), (17, 1, 0), (18, 2, 21)]) with units := { work := [(262165, { cmd := cm 0x1101 [(16, 1, 4), (17, 1, 0), (18, 2, 21)], ret := false, since := 0 })] } }, by decide +kernel⟩

theorem witness_UnitsComplete_clusterDrained_none : ∃ (cluster : Nat) (s : State), (s.workOf 4 cluster).any (fun w => !w.ret) = false :=
  ⟨21, up, by decide⟩

theorem witness_UnitsComplete_clusterDrained_waits : ∃ (cluster : Nat) (s : State), s.workOf 4 cluster = none ∨ (s.isOut 4 cluster = false ∧ s.clusterIdle cluster = false) :=
  ⟨21, up, Or.inl (by decide)⟩

theorem witness_UnitsComplete_unitMapTimeout : ∃ (kind : Nat) (number : Nat) (w : UnitWork) (s : State), (kind = 4 ∨ kind = 7 ∨ kind = 8) ∧ s.workOf kind number = some w ∧ w.ret = false ∧ w.since + ms 100 ≤ s.now :=
  ⟨7, 3, { cmd := cm 0x1101 [(16, 1, 7), (17, 1, 0), (18, 2, 3)], ret := false, since := 0 }, { atWork up (cm 0x1101 [(16, 1, 7), (17, 1, 0), (18, 2, 3)]) with now := ms 100, units := { work := [(458755, { cmd := cm 0x1101 [(16, 1, 7), (17, 1, 0), (18, 2, 3)], ret := false, since := 0 })] } }, Or.inr (Or.inl rfl), by decide⟩

theorem witness_UnitsComplete_unitMapTimeout_any : ∃ (kind : Nat) (number : Nat) (w : UnitWork) (s : State), s.workOf kind number = some w ∧ w.ret = false ∧ w.since + ms 100 ≤ s.now ∧ (kind = 4 ∨ kind = 7 ∨ kind = 8) :=
  ⟨4, 21, { cmd := cm 0x1101 [(16, 1, 4), (17, 1, 0), (18, 2, 21)], ret := false, since := 0 }, { atWork up (cm 0x1101 [(16, 1, 4), (17, 1, 0), (18, 2, 21)]) with now := ms 100, units := { work := [(262165, { cmd := cm 0x1101 [(16, 1, 4), (17, 1, 0), (18, 2, 21)], ret := false, since := 0 })] } }, by decide⟩

theorem witness_UnitsComplete_unitMapTimeout_none : ∃ (kind : Nat) (number : Nat) (s : State), s.workOf kind number = none ∨ (kind ≠ 4 ∧ kind ≠ 7 ∧ kind ≠ 8) ∨ (s.workOf kind number).any (fun w => w.ret) = true :=
  ⟨7, 3, up, by decide⟩

theorem witness_UnitsComplete_unitMapTimeout_early : ∃ (kind : Nat) (number : Nat) (w : UnitWork) (s : State), s.workOf kind number = some w ∧ s.now < w.since + ms 100 :=
  ⟨7, 3, { cmd := cm 0x1101 [(16, 1, 7), (17, 1, 0), (18, 2, 3)], ret := false, since := 0 }, { atWork up (cm 0x1101 [(16, 1, 7), (17, 1, 0), (18, 2, 3)]) with units := { work := [(458755, { cmd := cm 0x1101 [(16, 1, 7), (17, 1, 0), (18, 2, 3)], ret := false, since := 0 })] } }, by decide⟩

/-! ### DeliveryComplete -/

theorem witness_DeliveryComplete_fwDeliver_open : ∃ (c : Cmd) (b : BufRead) (n : Nat) (s : State), ready s c 0x1200 .d0 = true ∧ c.host = s.dom.principal ∧ c.bufferErr = none ∧ (c.u8 28 = 1 ∨ c.u8 28 = 2) ∧ c.u8 29 = 0 ∧ c.zeros 30 2 = none ∧ c.zeros 40 24 = none ∧ s.fw.delivery = none ∧ s.fw.handover = none ∧ s.target (c.u8 28) = some n ∧ c.u32 32 = 0 ∧ 8192 ≤ c.u32 24 ∧ b.err = none :=
  ⟨cm 0x1200 [(16, 8, 0x4000), (24, 4, 8192), (28, 1, 1), (29, 1, 0), (32, 4, 0), (36, 4, 77)], .data [], 1, { begun up (cm 0x1200 [(16, 8, 0x4000), (24, 4, 8192), (28, 1, 1), (29, 1, 0), (32, 4, 0), (36, 4, 77)]) with dev := { up.dev with mode := .service }, fw := {  } }, by decide, by decide, by decide, Or.inl rfl, by decide⟩

theorem witness_DeliveryComplete_fwDeliver_next : ∃ (c : Cmd) (b : BufRead) (d : Delivery) (s : State), ready s c 0x1200 .d0 = true ∧ c.host = s.dom.principal ∧ c.bufferErr = none ∧ (c.u8 28 = 1 ∨ c.u8 28 = 2) ∧ c.u8 29 = 0 ∧ c.zeros 30 2 = none ∧ c.zeros 40 24 = none ∧ s.fw.delivery = some d ∧ d.session = c.u32 36 ∧ d.port = none ∧ d.imageType = c.u8 28 ∧ d.chunk = none ∧ d.verifying = false ∧ c.u32 32 = d.committed ∧ 1 ≤ c.u32 24 ∧ d.committed ≠ 0 ∧ d.committed + c.u32 24 ≤ d.total ∧ b.err = none :=
  ⟨cm 0x1200 [(16, 8, 0x4000), (24, 4, 8), (28, 1, 1), (29, 1, 0), (32, 4, 8192), (36, 4, 77)], .data [], { session := 77, imageType := 1, port := none, data := [], committed := 8192, total := 8200, verifying := false, chunk := none, cmd := none, macs := [] }, { begun up (cm 0x1200 [(16, 8, 0x4000), (24, 4, 8), (28, 1, 1), (29, 1, 0), (32, 4, 8192), (36, 4, 77)]) with dev := { up.dev with mode := .service }, fw := { delivery := some { session := 77, imageType := 1, port := none, data := [], committed := 8192, total := 8200, verifying := false, chunk := none, cmd := none, macs := [] } } }, by decide, by decide, by decide, Or.inl rfl, by decide⟩

theorem witness_DeliveryComplete_fwDeliver_offset : ∃ (c : Cmd) (b : BufRead) (d : Delivery) (s : State), ready s c 0x1200 .d0 = true ∧ c.host = s.dom.principal ∧ c.bufferErr = none ∧ (c.u8 28 = 1 ∨ c.u8 28 = 2) ∧ c.u8 29 = 0 ∧ c.zeros 30 2 = none ∧ c.zeros 40 24 = none ∧ s.fw.delivery = some d ∧ d.session = c.u32 36 ∧ d.port = none ∧ d.imageType = c.u8 28 ∧ c.u32 32 ≠ d.committed :=
  ⟨cm 0x1200 [(16, 8, 0x4000), (24, 4, 8), (28, 1, 1), (29, 1, 0), (32, 4, 8000), (36, 4, 77)], .data [], { session := 77, imageType := 1, port := none, data := [], committed := 8192, total := 8200, verifying := false, chunk := none, cmd := none, macs := [] }, { begun up (cm 0x1200 [(16, 8, 0x4000), (24, 4, 8), (28, 1, 1), (29, 1, 0), (32, 4, 8000), (36, 4, 77)]) with dev := { up.dev with mode := .service }, fw := { delivery := some { session := 77, imageType := 1, port := none, data := [], committed := 8192, total := 8200, verifying := false, chunk := none, cmd := none, macs := [] } } }, by decide, by decide, by decide, Or.inl rfl, by decide⟩

theorem witness_DeliveryComplete_fwDeliver_busy : ∃ (c : Cmd) (b : BufRead) (d : Delivery) (s : State), ready s c 0x1200 .d0 = true ∧ c.host = s.dom.principal ∧ c.bufferErr = none ∧ (c.u8 28 = 1 ∨ c.u8 28 = 2) ∧ c.u8 29 = 0 ∧ c.zeros 30 2 = none ∧ c.zeros 40 24 = none ∧ s.fw.delivery = some d ∧ (d.session ≠ c.u32 36 ∨ d.port ≠ none) :=
  ⟨cm 0x1200 [(16, 8, 0x4000), (24, 4, 8192), (28, 1, 1), (29, 1, 0), (32, 4, 0), (36, 4, 77)], .data [], { session := 78, imageType := 1, port := none, data := [], committed := 8192, total := 8200, verifying := false, chunk := none, cmd := none, macs := [] }, { begun up (cm 0x1200 [(16, 8, 0x4000), (24, 4, 8192), (28, 1, 1), (29, 1, 0), (32, 4, 0), (36, 4, 77)]) with dev := { up.dev with mode := .service }, fw := { delivery := some { session := 78, imageType := 1, port := none, data := [], committed := 8192, total := 8200, verifying := false, chunk := none, cmd := none, macs := [] } } }, by decide, by decide, by decide, Or.inl (by decide), by decide, by decide, by decide, by decide, Or.inl (by decide)⟩

theorem witness_DeliveryComplete_fwDeliver_abort : ∃ (c : Cmd) (b : BufRead) (d : Delivery) (s : State), ready s c 0x1200 .d0 = true ∧ c.host = s.dom.principal ∧ (c.u8 28 = 1 ∨ c.u8 28 = 2) ∧ c.u8 29 = 1 ∧ c.zeros 30 2 = none ∧ c.zeros 40 24 = none ∧ s.fw.delivery = some d ∧ d.session = c.u32 36 ∧ d.port = none ∧ d.imageType = c.u8 28 ∧ d.chunk = none ∧ (s.slot (c.u8 28) 1).state = .receiving ∧ (s.slot (c.u8 28) 0).state ≠ .receiving :=
  ⟨cm 0x1200 [(16, 8, 0x4000), (24, 4, 0), (28, 1, 1), (29, 1, 1), (32, 4, 0), (36, 4, 77)], .failed, { session := 77, imageType := 1, port := none, data := [], committed := 8192, total := 8200, verifying := false, chunk := none, cmd := none, macs := [] }, { begun up (cm 0x1200 [(16, 8, 0x4000), (24, 4, 0), (28, 1, 1), (29, 1, 1), (32, 4, 0), (36, 4, 77)]) with dev := { up.dev with mode := .service }, fw := { delivery := some { session := 77, imageType := 1, port := none, data := [], committed := 8192, total := 8200, verifying := false, chunk := none, cmd := none, macs := [] }, slots := [(1, { state := .receiving })] } }, by decide, by decide, Or.inl (by decide), by decide⟩

theorem witness_DeliveryComplete_fwDeliver_abortAny : ∃ (c : Cmd) (b : BufRead) (d : Delivery) (s : State), ready s c 0x1200 .d0 = true ∧ c.host = s.dom.principal ∧ (c.u8 28 = 1 ∨ c.u8 28 = 2) ∧ c.u8 29 = 1 ∧ c.zeros 30 2 = none ∧ c.zeros 40 24 = none ∧ s.fw.delivery = some d ∧ d.session = c.u32 36 ∧ d.imageType = c.u8 28 ∧ d.chunk = none :=
  ⟨cm 0x1200 [(16, 8, 0x4000), (24, 4, 0), (28, 1, 1), (29, 1, 1), (32, 4, 0), (36, 4, 77)], .failed, { session := 77, imageType := 1, port := some 4, data := [], committed := 8192, total := 8200, verifying := false, chunk := none, cmd := none, macs := [] }, { begun up (cm 0x1200 [(16, 8, 0x4000), (24, 4, 0), (28, 1, 1), (29, 1, 1), (32, 4, 0), (36, 4, 77)]) with dev := { up.dev with mode := .service }, fw := { delivery := some { session := 77, imageType := 1, port := some 4, data := [], committed := 8192, total := 8200, verifying := false, chunk := none, cmd := none, macs := [] }, slots := [(1, { state := .receiving })] } }, by decide, by decide, Or.inl (by decide), by decide⟩

theorem witness_DeliveryComplete_fwDeliver_abortBusy : ∃ (c : Cmd) (b : BufRead) (d : Delivery) (s : State), ready s c 0x1200 .d0 = true ∧ c.host = s.dom.principal ∧ (c.u8 28 = 1 ∨ c.u8 28 = 2) ∧ c.u8 29 = 1 ∧ c.zeros 30 2 = none ∧ c.zeros 40 24 = none ∧ s.fw.delivery = some d ∧ d.session = c.u32 36 ∧ d.imageType = c.u8 28 ∧ d.chunk ≠ none :=
  ⟨cm 0x1200 [(16, 8, 0x4000), (24, 4, 0), (28, 1, 1), (29, 1, 1), (32, 4, 0), (36, 4, 77)], .failed, { session := 77, imageType := 1, port := none, data := [], committed := 8192, total := 8200, verifying := false, chunk := some [], cmd := none, macs := [] }, { begun up (cm 0x1200 [(16, 8, 0x4000), (24, 4, 0), (28, 1, 1), (29, 1, 1), (32, 4, 0), (36, 4, 77)]) with dev := { up.dev with mode := .service }, fw := { delivery := some { session := 77, imageType := 1, port := none, data := [], committed := 8192, total := 8200, verifying := false, chunk := some [], cmd := none, macs := [] }, slots := [(1, { state := .receiving })] } }, by decide, by decide, Or.inl (by decide), by decide⟩

theorem witness_DeliveryComplete_fwDeliver_abortOther : ∃ (c : Cmd) (b : BufRead) (s : State), ready s c 0x1200 .d0 = true ∧ c.host = s.dom.principal ∧ (c.u8 28 = 1 ∨ c.u8 28 = 2) ∧ c.u8 29 = 1 ∧ c.zeros 30 2 = none ∧ c.zeros 40 24 = none ∧ (∀ d, s.fw.delivery = some d → d.session ≠ c.u32 36 ∨ d.imageType ≠ c.u8 28) :=
  ⟨cm 0x1200 [(16, 8, 0x4000), (24, 4, 0), (28, 1, 1), (29, 1, 1), (32, 4, 0), (36, 4, 77)], .failed, { begun up (cm 0x1200 [(16, 8, 0x4000), (24, 4, 0), (28, 1, 1), (29, 1, 1), (32, 4, 0), (36, 4, 77)]) with dev := { up.dev with mode := .service }, fw := {  } }, by decide, by decide, Or.inl (by decide), by decide, by decide, by decide, (fun _ h => nomatch h)⟩

theorem witness_DeliveryComplete_fwDeliver_short : ∃ (c : Cmd) (b : BufRead) (n : Nat) (s : State), ready s c 0x1200 .d0 = true ∧ c.host = s.dom.principal ∧ c.bufferErr = none ∧ (c.u8 28 = 1 ∨ c.u8 28 = 2) ∧ c.u8 29 = 0 ∧ c.zeros 30 2 = none ∧ c.zeros 40 24 = none ∧ s.fw.delivery = none ∧ s.fw.handover = none ∧ s.target (c.u8 28) = some n ∧ c.u32 32 = 0 ∧ c.u32 24 < 8192 :=
  ⟨cm 0x1200 [(16, 8, 0x4000), (24, 4, 100), (28, 1, 1), (29, 1, 0), (32, 4, 0), (36, 4, 77)], .data [], 1, { begun up (cm 0x1200 [(16, 8, 0x4000), (24, 4, 100), (28, 1, 1), (29, 1, 0), (32, 4, 0), (36, 4, 77)]) with dev := { up.dev with mode := .service }, fw := {  } }, by decide, by decide, by decide, Or.inl rfl, by decide⟩

theorem witness_DeliveryComplete_fwDeliver_noTarget : ∃ (c : Cmd) (b : BufRead) (s : State), ready s c 0x1200 .d0 = true ∧ c.host = s.dom.principal ∧ c.bufferErr = none ∧ (c.u8 28 = 1 ∨ c.u8 28 = 2) ∧ c.u8 29 = 0 ∧ c.zeros 30 2 = none ∧ c.zeros 40 24 = none ∧ s.fw.delivery = none ∧ c.u32 32 = 0 ∧ (s.fw.handover ≠ none ∨ s.target (c.u8 28) = none) :=
  ⟨cm 0x1200 [(16, 8, 0x4000), (24, 4, 8192), (28, 1, 1), (29, 1, 0), (32, 4, 0), (36, 4, 77)], .data [], { begun up (cm 0x1200 [(16, 8, 0x4000), (24, 4, 8192), (28, 1, 1), (29, 1, 0), (32, 4, 0), (36, 4, 77)]) with dev := { up.dev with mode := .service }, fw := { running := [(1, 1)] } }, by decide, by decide, by decide, Or.inl (by decide), by decide, by decide, by decide, by decide, by decide, Or.inr (by decide)⟩

theorem witness_DeliveryComplete_fwDeliver_anew : ∃ (c : Cmd) (b : BufRead) (d : Delivery) (s : State), ready s c 0x1200 .d0 = true ∧ c.host = s.dom.principal ∧ c.bufferErr = none ∧ (c.u8 28 = 1 ∨ c.u8 28 = 2) ∧ c.u8 29 = 0 ∧ c.zeros 30 2 = none ∧ c.zeros 40 24 = none ∧ s.fw.delivery = some d ∧ d.session = c.u32 36 ∧ d.port = none ∧ d.imageType = c.u8 28 ∧ d.chunk = none ∧ d.verifying = false ∧ d.committed = 0 ∧ d.total = 0 ∧ c.u32 32 = 0 ∧ 8192 ≤ c.u32 24 ∧ b.err = none :=
  ⟨cm 0x1200 [(16, 8, 0x4000), (24, 4, 8192), (28, 1, 1), (29, 1, 0), (32, 4, 0), (36, 4, 77)], .data [], { session := 77, imageType := 1, port := none, data := [], committed := 0, total := 0, verifying := false, chunk := none, cmd := none, macs := [] }, { begun up (cm 0x1200 [(16, 8, 0x4000), (24, 4, 8192), (28, 1, 1), (29, 1, 0), (32, 4, 0), (36, 4, 77)]) with dev := { up.dev with mode := .service }, fw := { delivery := some { session := 77, imageType := 1, port := none, data := [], committed := 0, total := 0, verifying := false, chunk := none, cmd := none, macs := [] } } }, by decide, by decide, by decide, Or.inl rfl, by decide⟩

theorem witness_DeliveryComplete_fwDeliver_writing : ∃ (c : Cmd) (b : BufRead) (d : Delivery) (s : State), ready s c 0x1200 .d0 = true ∧ c.host = s.dom.principal ∧ c.bufferErr = none ∧ (c.u8 28 = 1 ∨ c.u8 28 = 2) ∧ c.u8 29 = 0 ∧ c.zeros 30 2 = none ∧ c.zeros 40 24 = none ∧ s.fw.delivery = some d ∧ d.session = c.u32 36 ∧ d.port = none ∧ d.imageType = c.u8 28 ∧ c.u32 32 = d.committed ∧ (d.committed ≠ 0 ∧ (d.chunk ≠ none ∨ d.verifying = true)) :=
  ⟨cm 0x1200 [(16, 8, 0x4000), (24, 4, 8), (28, 1, 1), (29, 1, 0), (32, 4, 8192), (36, 4, 77)], .data [], { session := 77, imageType := 1, port := none, data := [], committed := 8192, total := 8200, verifying := false, chunk := some [], cmd := none, macs := [] }, { begun up (cm 0x1200 [(16, 8, 0x4000), (24, 4, 8), (28, 1, 1), (29, 1, 0), (32, 4, 8192), (36, 4, 77)]) with dev := { up.dev with mode := .service }, fw := { delivery := some { session := 77, imageType := 1, port := none, data := [], committed := 8192, total := 8200, verifying := false, chunk := some [], cmd := none, macs := [] } } }, by decide, by decide, by decide, Or.inl rfl, by decide, by decide, by decide, by decide, by decide, by decide, by decide, by decide, ⟨by decide, Or.inl (by decide)⟩⟩

theorem witness_DeliveryComplete_fwDeliver_beyond : ∃ (c : Cmd) (b : BufRead) (d : Delivery) (s : State), ready s c 0x1200 .d0 = true ∧ c.host = s.dom.principal ∧ c.bufferErr = none ∧ (c.u8 28 = 1 ∨ c.u8 28 = 2) ∧ c.u8 29 = 0 ∧ c.zeros 30 2 = none ∧ c.zeros 40 24 = none ∧ s.fw.delivery = some d ∧ d.session = c.u32 36 ∧ d.port = none ∧ d.imageType = c.u8 28 ∧ d.chunk = none ∧ d.verifying = false ∧ c.u32 32 = d.committed ∧ d.committed ≠ 0 ∧ (c.u32 24 = 0 ∨ d.total ≠ 0 ∧ d.total < d.committed + c.u32 24) :=
  ⟨cm 0x1200 [(16, 8, 0x4000), (24, 4, 9), (28, 1, 1), (29, 1, 0), (32, 4, 8192), (36, 4, 77)], .data [], { session := 77, imageType := 1, port := none, data := [], committed := 8192, total := 8200, verifying := false, chunk := none, cmd := none, macs := [] }, { begun up (cm 0x1200 [(16, 8, 0x4000), (24, 4, 9), (28, 1, 1), (29, 1, 0), (32, 4, 8192), (36, 4, 77)]) with dev := { up.dev with mode := .service }, fw := { delivery := some { session := 77, imageType := 1, port := none, data := [], committed := 8192, total := 8200, verifying := false, chunk := none, cmd := none, macs := [] } } }, by decide, by decide, by decide, Or.inl rfl, by decide, by decide, by decide, by decide, by decide, by decide, by decide, by decide, by decide, by decide, by decide, Or.inr (by decide)⟩

theorem witness_DeliveryComplete_fwHeaderVerified : ∃ (d : Delivery) (b : Bytes) (s : State), s.fw.delivery = some d ∧ d.chunk = some b ∧ d.verifying = true ∧ (s.slot d.imageType 0).state ≠ .receiving ∧ (s.slot d.imageType 1).state = .receiving ∧ d.cmd = none ∧ d.port = none :=
  ⟨{ session := 77, imageType := 1, port := none, data := [], committed := 0, total := 0, verifying := true, chunk := some [], cmd := none, macs := [] }, [], { up with fw := { delivery := some { session := 77, imageType := 1, port := none, data := [], committed := 0, total := 0, verifying := true, chunk := some [], cmd := none, macs := [] }, slots := [(1, { state := .receiving })] } }, by decide⟩

theorem witness_DeliveryComplete_fwHeaderVerified_fails : ∃ (d : Delivery) (b : Bytes) (e : Err) (s : State), s.fw.delivery = some d ∧ d.chunk = some b ∧ d.verifying = true ∧ s.imageErr d.imageType (imageOf b) = some e :=
  ⟨{ session := 77, imageType := 1, port := none, data := [], committed := 0, total := 0, verifying := true, chunk := some [], cmd := none, macs := [] }, [], { status := .version }, { up with fw := { delivery := some { session := 77, imageType := 1, port := none, data := [], committed := 0, total := 0, verifying := true, chunk := some [], cmd := none, macs := [] }, slots := [(1, { state := .receiving })] } }, by decide⟩

theorem witness_DeliveryComplete_fwHeaderVerified_passes : ∃ (d : Delivery) (b : Bytes) (s : State), s.fw.delivery = some d ∧ d.chunk = some b ∧ d.verifying = true :=
  ⟨{ session := 77, imageType := 1, port := none, data := [], committed := 0, total := 0, verifying := true, chunk := some [], cmd := none, macs := [] }, [], { up with fw := { delivery := some { session := 77, imageType := 1, port := none, data := [], committed := 0, total := 0, verifying := true, chunk := some [], cmd := none, macs := [] }, slots := [(1, { state := .receiving })] } }, by decide⟩

theorem witness_DeliveryComplete_fwHeaderVerified_idle : ∃ (d : Delivery) (s : State), s.fw.delivery = some d ∧ (d.chunk = none ∨ d.verifying = false) :=
  ⟨{ session := 77, imageType := 1, port := none, data := [], committed := 8192, total := 8200, verifying := false, chunk := none, cmd := none, macs := [] }, { up with fw := { delivery := some { session := 77, imageType := 1, port := none, data := [], committed := 8192, total := 8200, verifying := false, chunk := none, cmd := none, macs := [] } } }, by decide, Or.inl (by decide)⟩

theorem witness_DeliveryComplete_fwHeaderVerified_none : ∃ (s : State), s.fw.delivery = none :=
  ⟨up, by decide⟩

theorem witness_DeliveryComplete_fwChunkWritten : ∃ (d : Delivery) (b : Bytes) (c : Cmd) (s : State), s.fw.delivery = some d ∧ d.chunk = some b ∧ d.verifying = false ∧ d.cmd = some c ∧ d.port = none ∧ d.committed + b.length < d.total :=
  ⟨{ session := 77, imageType := 1, port := none, data := [], committed := 8192, total := 8200, verifying := false, chunk := some [1, 2, 3, 4], cmd := some (cm 0x1200 [(16, 8, 0x4000), (24, 4, 8), (28, 1, 1), (29, 1, 0), (32, 4, 8192), (36, 4, 77)]), macs := [] }, [1, 2, 3, 4], cm 0x1200 [(16, 8, 0x4000), (24, 4, 8), (28, 1, 1), (29, 1, 0), (32, 4, 8192), (36, 4, 77)], { atWork up (cm 0x1200 [(16, 8, 0x4000), (24, 4, 8), (28, 1, 1), (29, 1, 0), (32, 4, 8192), (36, 4, 77)]) with fw := { delivery := some { session := 77, imageType := 1, port := none, data := [], committed := 8192, total := 8200, verifying := false, chunk := some [1, 2, 3, 4], cmd := some (cm 0x1200 [(16, 8, 0x4000), (24, 4, 8), (28, 1, 1), (29, 1, 0), (32, 4, 8192), (36, 4, 77)]), macs := [] } } }, by decide⟩

theorem witness_DeliveryComplete_fwChunkWritten_more : ∃ (d : Delivery) (b : Bytes) (d1 : Delivery) (s : State), s.fw.delivery = some d ∧ d.chunk = some b ∧ d.verifying = false ∧ d1 = { d with data := d.data ++ b, committed := d.committed + b.length, chunk := none } ∧ d1.committed < d1.total :=
  ⟨{ session := 77, imageType := 1, port := none, data := [], committed := 8192, total := 8200, verifying := false, chunk := some [1, 2, 3, 4], cmd := none, macs := [] }, [1, 2, 3, 4], { session := 77, imageType := 1, port := none, data := [1, 2, 3, 4], committed := 8196, total := 8200, verifying := false, chunk := none, cmd := none, macs := [] }, { up with fw := { delivery := some { session := 77, imageType := 1, port := none, data := [], committed := 8192, total := 8200, verifying := false, chunk := some [1, 2, 3, 4], cmd := none, macs := [] } } }, by decide⟩

theorem witness_DeliveryComplete_fwChunkWritten_idle : ∃ (s : State), s.fw.delivery = none ∨ (∃ d, s.fw.delivery = some d ∧ (d.chunk = none ∨ d.verifying = true)) :=
  ⟨up, Or.inl (by decide)⟩

theorem witness_DeliveryComplete_fwChunkWritten_last : ∃ (d : Delivery) (b : Bytes) (s : State), s.fw.delivery = some d ∧ d.chunk = some b ∧ d.verifying = false ∧ d.cmd = none ∧ d.port = none ∧ d.total ≤ d.committed + b.length ∧ s.dev.mode ≠ .safe ∧ (s.slot d.imageType 0).state ≠ .receiving ∧ (s.slot d.imageType 1).state = .receiving :=
  ⟨{ session := 77, imageType := 1, port := none, data := [], committed := 8192, total := 8200, verifying := false, chunk := some [1, 2, 3, 4, 5, 6, 7, 8], cmd := none, macs := [] }, [1, 2, 3, 4, 5, 6, 7, 8], { up with fw := { delivery := some { session := 77, imageType := 1, port := none, data := [], committed := 8192, total := 8200, verifying := false, chunk := some [1, 2, 3, 4, 5, 6, 7, 8], cmd := none, macs := [] }, slots := [(1, { state := .receiving })] } }, by decide⟩

theorem witness_DeliveryComplete_fwChunkWritten_final : ∃ (d : Delivery) (b : Bytes) (d1 : Delivery) (ok : Bool) (s : State), s.fw.delivery = some d ∧ d.chunk = some b ∧ d.verifying = false ∧ d1 = { d with data := d.data ++ b, committed := d.committed + b.length, chunk := none } ∧ d1.total ≤ d1.committed ∧ ok = (payloadOk d1.data && (d1.imageType ≠ 2 || profileFits (d1.data.drop 8192))) :=
  ⟨{ session := 77, imageType := 1, port := none, data := [], committed := 8192, total := 8192, verifying := false, chunk := some [], cmd := none, macs := [] }, [], { session := 77, imageType := 1, port := none, data := [], committed := 8192, total := 8192, verifying := false, chunk := none, cmd := none, macs := [] }, _, { up with fw := { delivery := some { session := 77, imageType := 1, port := none, data := [], committed := 8192, total := 8192, verifying := false, chunk := some [], cmd := none, macs := [] } } }, by decide, by decide, by decide, by decide, by decide, rfl⟩

theorem witness_DeliveryComplete_inbandFwFrame_query : ∃ (port : Nat) (frame : Bytes) (n : Nat) (s : State), (s.port port).state = .up ∧ bit s.fw.inband port = true ∧ beAt frame 12 2 = 0x88B5 ∧ beAt frame 14 2 = 0x5546 ∧ s.dev.mode ≠ .safe ∧ s.dev.mode ≠ .calibrate ∧ look s.fw.inbandRate port (0, 0) = (s.now / ms 1000, n) ∧ n < 10000 ∧ byteAt frame 16 = 2 :=
  ⟨5, List.replicate 12 0 ++ [0x88, 0xB5, 0x55, 0x46, 2, 1, 0, 0, 0, 77, 0, 0, 0, 0, 32, 0, 0, 0] ++ List.replicate 0 7, 0, { (up.setPort 5 { personality := .ethernet, state := .up, cfg := { maxFrame := 9216 } }) with fw := { inband := 32 } }, by decide⟩

theorem witness_DeliveryComplete_inbandFwFrame_chunk : ∃ (port : Nat) (frame : Bytes) (n k : Nat) (s : State), (s.port port).state = .up ∧ bit s.fw.inband port = true ∧ beAt frame 12 2 = 0x88B5 ∧ beAt frame 14 2 = 0x5546 ∧ s.dev.mode ≠ .safe ∧ s.dev.mode ≠ .calibrate ∧ look s.fw.inbandRate port (0, 0) = (s.now / ms 1000, n) ∧ n < 10000 ∧ byteAt frame 16 = 1 ∧ (byteAt frame 17 = 1 ∨ byteAt frame 17 = 2) ∧ s.fw.delivery = none ∧ s.fw.handover = none ∧ s.target (byteAt frame 17) = some k ∧ beAt frame 22 4 = 0 ∧ beAt frame 26 2 = 8192 ∧ 8226 ≤ (s.port port).cfg.maxFrame ∧ 8222 ≤ frame.length :=
  ⟨5, List.replicate 12 0 ++ [0x88, 0xB5, 0x55, 0x46, 1, 1, 0, 0, 0, 77, 0, 0, 0, 0, 32, 0, 0, 0] ++ List.replicate 8192 7, 0, 1, { (up.setPort 5 { personality := .ethernet, state := .up, cfg := { maxFrame := 9216 } }) with fw := { inband := 32 } }, by decide, by decide, by decide, by decide, by decide, by decide, by decide, by decide, by decide, Or.inl (by decide), by decide, by decide, by decide, by decide, by decide, by decide, by simp only [List.length_append, List.length_replicate]; decide⟩

theorem witness_DeliveryComplete_inbandFwFrame_excess : ∃ (port : Nat) (frame : Bytes) (n : Nat) (s : State), (s.port port).state = .up ∧ bit s.fw.inband port = true ∧ beAt frame 12 2 = 0x88B5 ∧ beAt frame 14 2 = 0x5546 ∧ s.dev.mode ≠ .safe ∧ s.dev.mode ≠ .calibrate ∧ look s.fw.inbandRate port (0, 0) = (s.now / ms 1000, n) ∧ 10000 ≤ n :=
  ⟨5, List.replicate 12 0 ++ [0x88, 0xB5, 0x55, 0x46, 2, 1, 0, 0, 0, 77, 0, 0, 0, 0, 32, 0, 0, 0] ++ List.replicate 0 7, 10000, { (up.setPort 5 { personality := .ethernet, state := .up, cfg := { maxFrame := 9216 } }) with fw := { inband := 32, inbandRate := [(5, 0, 10000)] } }, by decide⟩

theorem witness_DeliveryComplete_inbandFwFrame_taken : ∃ (port : Nat) (frame : Bytes) (n : Nat) (s : State), (s.port port).state = .up ∧ s.isInband port frame = true ∧ s.dev.mode ≠ .safe ∧ s.dev.mode ≠ .calibrate ∧ n = (if (look s.fw.inbandRate port (0, 0)).1 = s.now / ms 1000 then (look s.fw.inbandRate port (0, 0)).2 else 0) ∧ n < 10000 :=
  ⟨5, List.replicate 12 0 ++ [0x88, 0xB5, 0x55, 0x46, 3, 1, 0, 0, 0, 77, 0, 0, 0, 0, 32, 0, 0, 0] ++ List.replicate 0 7, 0, { (up.setPort 5 { personality := .ethernet, state := .up, cfg := { maxFrame := 9216 } }) with fw := { inband := 32 } }, by decide⟩

theorem witness_DeliveryComplete_inbandFwFrame_over : ∃ (port : Nat) (frame : Bytes) (n : Nat) (s : State), (s.port port).state = .up ∧ s.isInband port frame = true ∧ s.dev.mode ≠ .safe ∧ s.dev.mode ≠ .calibrate ∧ n = (if (look s.fw.inbandRate port (0, 0)).1 = s.now / ms 1000 then (look s.fw.inbandRate port (0, 0)).2 else 0) ∧ 10000 ≤ n :=
  ⟨5, List.replicate 12 0 ++ [0x88, 0xB5, 0x55, 0x46, 3, 1, 0, 0, 0, 77, 0, 0, 0, 0, 32, 0, 0, 0] ++ List.replicate 0 7, 10000, { (up.setPort 5 { personality := .ethernet, state := .up, cfg := { maxFrame := 9216 } }) with fw := { inband := 32, inbandRate := [(5, 0, 10000)] } }, by decide⟩

theorem witness_DeliveryComplete_inbandFwFrame_notTaken : ∃ (port : Nat) (frame : Bytes) (s : State), s.isInband port frame = false ∨ (s.port port).state ≠ .up ∨ s.dev.mode = .safe ∨ s.dev.mode = .calibrate :=
  ⟨5, [], up, Or.inl (by decide)⟩

theorem witness_DeliveryComplete_inbandFwFrame_other : ∃ (port : Nat) (frame : Bytes) (s : State), bit s.fw.inband port = false :=
  ⟨5, [], up, by decide⟩

theorem witness_DeliveryComplete_engProfileLoad : ∃ (c : Cmd) (b : BufRead) (n : Nat) (s : State), ready s c 0x0700 .d0 = true ∧ firstErr (profileErrs c b s) = none ∧ c.u8 36 = 0 ∧ s.target 2 = some n :=
  ⟨cm 0x700 [(16, 8, 0x4000), (24, 4, 8), (32, 4, 0), (36, 1, 0)], .data [1, 2, 3, 4, 5, 6, 7, 8], 1, begun up (cm 0x700 [(16, 8, 0x4000), (24, 4, 8), (32, 4, 0), (36, 1, 0)]), by decide⟩

theorem witness_DeliveryComplete_engProfileLoad_fails : ∃ (c : Cmd) (b : BufRead) (e : Err) (s : State), ready s c 0x0700 .d0 = true ∧ firstErr (profileErrs c b s) = some e :=
  ⟨cm 0x700 [(16, 8, 0x4000), (24, 4, 8), (32, 4, 4), (36, 1, 0)], .data [], { status := .invalidParam, detail := 0x01000020 }, begun up (cm 0x700 [(16, 8, 0x4000), (24, 4, 8), (32, 4, 4), (36, 1, 0)]), by decide⟩

theorem witness_DeliveryComplete_engProfileLoad_last : ∃ (c : Cmd) (b : BufRead) (n : Nat) (w : Bytes) (s : State), ready s c 0x0700 .d0 = true ∧ bit (c.u8 36) 0 = true ∧ s.target 2 = some n ∧ w = (if c.u32 32 = 0 then [] else s.eng.staged) ++ b.bytes c ∧ s.dev.mode ≠ .standby :=
  ⟨cm 0x700 [(16, 8, 0x4000), (24, 4, 8), (32, 4, 0), (36, 1, 1)], .data [1, 2, 3, 4, 5, 6, 7, 8], 1, [1, 2, 3, 4, 5, 6, 7, 8], begun up (cm 0x700 [(16, 8, 0x4000), (24, 4, 8), (32, 4, 0), (36, 1, 1)]), by decide⟩

theorem witness_DeliveryComplete_engProfileLoad_standby : ∃ (c : Cmd) (b : BufRead) (n : Nat) (w : Bytes) (s : State), ready s c 0x0700 .d0 = true ∧ bit (c.u8 36) 0 = true ∧ s.target 2 = some n ∧ w = (if c.u32 32 = 0 then [] else s.eng.staged) ++ b.bytes c ∧ s.dev.mode = .standby :=
  ⟨cm 0x700 [(16, 8, 0x4000), (24, 4, 8), (32, 4, 0), (36, 1, 1)], .data [1, 2, 3, 4, 5, 6, 7, 8], 1, [1, 2, 3, 4, 5, 6, 7, 8], { begun up (cm 0x700 [(16, 8, 0x4000), (24, 4, 8), (32, 4, 0), (36, 1, 1)]) with dev := { up.dev with mode := .standby }, fw := {  } }, by decide⟩

/-! ### FirmwareComplete -/

theorem witness_FirmwareComplete_fwActivate_firmware : ∃ (c : Cmd) (n : Nat) (i : Image) (s : State), ready s c 0x1202 .d0 = true ∧ c.host = s.dom.principal ∧ c.zeros 17 3 = none ∧ c.u32 20 ≤ 86400 ∧ c.zeros 24 40 = none ∧ s.fw.handover = none ∧ s.dev.hold = none ∧ n ≤ 1 ∧ (s.slot (c.u8 16) n).state = .verified ∧ (s.slot (c.u8 16) (1 - n)).state ≠ .verified ∧ (s.slot (c.u8 16) n).image = some i ∧ c.u8 16 = 1 ∧ s.floor 1 ≤ i.security :=
  ⟨cm 0x1202 [(16, 1, 1), (20, 4, 3600)], 1, { magicOk := true, format := 1, imageType := 1, part := 0x5140, stepping := 0xB0, binding := 0, unitId := 0, version := 7, security := 255, signer := 0, configFormat := 1, minConfigFormat := 1, ucodeInterface := 1, payloadLength := 4, signaturesOk := true, hashOk := true }, { begun up (cm 0x1202 [(16, 1, 1), (20, 4, 3600)]) with dev := { up.dev with mode := .service }, fw := { slots := [(1, { state := .verified, image := some { magicOk := true, format := 1, imageType := 1, part := 0x5140, stepping := 0xB0, binding := 0, unitId := 0, version := 7, security := 255, signer := 0, configFormat := 1, minConfigFormat := 1, ucodeInterface := 1, payloadLength := 4, signaturesOk := true, hashOk := true } })] } }, by decide, by decide, by decide, by decide, by decide, of_decide_eq_true rfl, by decide, by decide, by decide, by decide, by decide, of_decide_eq_true rfl, (by have := (Config.fusedFloor 1).isLt; simp [State.floor, look]; omega)⟩

theorem witness_FirmwareComplete_fwActivate_profile : ∃ (c : Cmd) (n : Nat) (i : Image) (k : Nat) (s : State), ready s c 0x1202 .d0 = true ∧ c.host = s.dom.principal ∧ c.zeros 17 3 = none ∧ c.u32 20 ≤ 86400 ∧ c.zeros 24 40 = none ∧ s.fw.handover = none ∧ s.dev.hold = none ∧ n ≤ 1 ∧ (s.slot (c.u8 16) n).state = .verified ∧ (s.slot (c.u8 16) (1 - n)).state ≠ .verified ∧ (s.slot (c.u8 16) n).image = some i ∧ c.u8 16 = 2 ∧ s.dev.mode = .standby ∧ k < 32 ∧ (∀ j, j < k → s.healthy 4 j = false) ∧ s.healthy 4 k = true ∧ s.floor 2 ≤ i.security :=
  ⟨cm 0x1202 [(16, 1, 2)], 1, { magicOk := true, format := 1, imageType := 1, part := 0x5140, stepping := 0xB0, binding := 0, unitId := 0, version := 7, security := 255, signer := 0, configFormat := 1, minConfigFormat := 1, ucodeInterface := 1, payloadLength := 4, signaturesOk := true, hashOk := true }, 0, { begun up (cm 0x1202 [(16, 1, 2)]) with dev := { up.dev with mode := .standby }, fw := { slots := [(3, { state := .verified, image := some { magicOk := true, format := 1, imageType := 1, part := 0x5140, stepping := 0xB0, binding := 0, unitId := 0, version := 7, security := 255, signer := 0, configFormat := 1, minConfigFormat := 1, ucodeInterface := 1, payloadLength := 4, signaturesOk := true, hashOk := true } })] } }, by decide, by decide, by decide, by decide, by decide, of_decide_eq_true rfl, by decide, by decide, by decide, by decide, by decide, of_decide_eq_true rfl, by decide, by decide, by decide, by decide, (by have := (Config.fusedFloor 2).isLt; simp [State.floor, look]; omega)⟩

theorem witness_FirmwareComplete_fwActivate_floor : ∃ (c : Cmd) (n : Nat) (i : Image) (s : State), ready s c 0x1202 .d0 = true ∧ c.host = s.dom.principal ∧ c.zeros 17 3 = none ∧ c.u32 20 ≤ 86400 ∧ c.zeros 24 40 = none ∧ s.fw.handover = none ∧ s.dev.hold = none ∧ n ≤ 1 ∧ (s.slot (c.u8 16) n).state = .verified ∧ (s.slot (c.u8 16) (1 - n)).state ≠ .verified ∧ (s.slot (c.u8 16) n).image = some i ∧ (c.u8 16 = 1 ∨ c.u8 16 = 2) ∧ i.security < s.floor (c.u8 16) :=
  ⟨cm 0x1202 [(16, 1, 1), (20, 4, 3600)], 1, { magicOk := true, format := 1, imageType := 1, part := 0x5140, stepping := 0xB0, binding := 0, unitId := 0, version := 7, security := 4, signer := 0, configFormat := 1, minConfigFormat := 1, ucodeInterface := 1, payloadLength := 4, signaturesOk := true, hashOk := true }, { begun up (cm 0x1202 [(16, 1, 1), (20, 4, 3600)]) with dev := { up.dev with mode := .service }, fw := { slots := [(1, { state := .verified, image := some { magicOk := true, format := 1, imageType := 1, part := 0x5140, stepping := 0xB0, binding := 0, unitId := 0, version := 7, security := 4, signer := 0, configFormat := 1, minConfigFormat := 1, ucodeInterface := 1, payloadLength := 4, signaturesOk := true, hashOk := true } })], floors := [(1, 5)] } }, by decide, by decide, by decide, by decide, by decide, by decide, by decide, by decide, by decide, by decide, by decide, Or.inl (by decide), Nat.lt_of_lt_of_le (by decide) (Nat.le_max_left _ _)⟩

theorem witness_FirmwareComplete_fwActivate_begins : ∃ (c : Cmd) (o : Option Nat) (s : State), ready s c 0x1202 .d0 = true ∧ c.host = s.dom.principal ∧ (c.u8 16 = 1 ∨ c.u8 16 = 2) ∧ c.zeros 17 3 = none ∧ c.u32 20 ≤ 86400 ∧ c.zeros 24 40 = none ∧ o = (List.range 2).find? (fun n => decide ((s.slot (c.u8 16) n).state = .verified)) ∧ firstErr (handoverErrs s c o) = none :=
  ⟨cm 0x1202 [(16, 1, 1), (20, 4, 3600)], some 1, { begun up (cm 0x1202 [(16, 1, 1), (20, 4, 3600)]) with dev := { up.dev with mode := .service }, fw := { slots := [(1, { state := .verified, image := some { magicOk := true, format := 1, imageType := 1, part := 0x5140, stepping := 0xB0, binding := 0, unitId := 0, version := 7, security := 255, signer := 0, configFormat := 1, minConfigFormat := 1, ucodeInterface := 1, payloadLength := 4, signaturesOk := true, hashOk := true } })] } }, by decide, by decide, Or.inl (by decide), by decide, by decide, by decide, by decide, (by have h : (cm 0x1202 [(16, 1, 1), (20, 4, 3600)]).u8 16 = 1 := (by decide); have := (Config.fusedFloor 1).isLt; have hf : State.floor ({ begun up (cm 0x1202 [(16, 1, 1), (20, 4, 3600)]) with dev := { up.dev with mode := .service }, fw := { slots := [(1, { state := .verified, image := some { magicOk := true, format := 1, imageType := 1, part := 0x5140, stepping := 0xB0, binding := 0, unitId := 0, version := 7, security := 255, signer := 0, configFormat := 1, minConfigFormat := 1, ucodeInterface := 1, payloadLength := 4, signaturesOk := true, hashOk := true } })] } }) 1 ≤ 255 := (by simp [State.floor, look]; omega); have hs : State.slot ({ begun up (cm 0x1202 [(16, 1, 1), (20, 4, 3600)]) with dev := { up.dev with mode := .service }, fw := { slots := [(1, { state := .verified, image := some { magicOk := true, format := 1, imageType := 1, part := 0x5140, stepping := 0xB0, binding := 0, unitId := 0, version := 7, security := 255, signer := 0, configFormat := 1, minConfigFormat := 1, ucodeInterface := 1, payloadLength := 4, signaturesOk := true, hashOk := true } })] } }) 1 1 = { state := .verified, image := some { magicOk := true, format := 1, imageType := 1, part := 0x5140, stepping := 0xB0, binding := 0, unitId := 0, version := 7, security := 255, signer := 0, configFormat := 1, minConfigFormat := 1, ucodeInterface := 1, payloadLength := 4, signaturesOk := true, hashOk := true } } := (by decide); simp [handoverErrs, firstErr, need, at_, h, hs, hf]; decide)⟩

theorem witness_FirmwareComplete_fwActivate_fails : ∃ (c : Cmd) (e : Err) (o : Option Nat) (s : State), ready s c 0x1202 .d0 = true ∧ c.host = s.dom.principal ∧ (c.u8 16 = 1 ∨ c.u8 16 = 2) ∧ c.zeros 17 3 = none ∧ c.u32 20 ≤ 86400 ∧ c.zeros 24 40 = none ∧ o = (List.range 2).find? (fun n => decide ((s.slot (c.u8 16) n).state = .verified)) ∧ firstErr (handoverErrs s c o) = some e :=
  ⟨cm 0x1202 [(16, 1, 1), (20, 4, 3600)], { status := .invalidParam, detail := 0x01000010 }, none, { begun up (cm 0x1202 [(16, 1, 1), (20, 4, 3600)]) with dev := { up.dev with mode := .service }, fw := {  } }, by decide, by decide, Or.inl (by decide), by decide⟩

theorem witness_FirmwareComplete_handoverQuiesced : ∃ (h : Handover) (s : State), s.fw.handover = some h ∧ h.imageType = 1 ∧ h.phase < 3 :=
  ⟨{ cmd := none, imageType := 1, slot := 1, phase := 1, cluster := 0, since := 0, fromStandby := false, commitS := 3600, rollback := false, expired := false }, { up with dev := { up.dev with mode := .handover }, fw := { handover := some { cmd := none, imageType := 1, slot := 1, phase := 1, cluster := 0, since := 0, fromStandby := false, commitS := 3600, rollback := false, expired := false } } }, by decide⟩

theorem witness_FirmwareComplete_handoverQuiesced_none : ∃ (s : State), s.fw.handover = none :=
  ⟨up, by decide⟩

theorem witness_FirmwareComplete_fwHandover : ∃ (h : Handover) (s : State), s.fw.handover = some h ∧ h.imageType = 1 ∧ h.phase = 3 ∧ h.rollback = false ∧ s.dev.mode = .handover :=
  ⟨{ cmd := none, imageType := 1, slot := 1, phase := 3, cluster := 0, since := 0, fromStandby := false, commitS := 3600, rollback := false, expired := false }, { up with dev := { up.dev with mode := .handover }, fw := { handover := some { cmd := none, imageType := 1, slot := 1, phase := 3, cluster := 0, since := 0, fromStandby := false, commitS := 3600, rollback := false, expired := false }, slots := [(1, { state := .verified, image := some { magicOk := true, format := 1, imageType := 1, part := 0x5140, stepping := 0xB0, binding := 0, unitId := 0, version := 7, security := 255, signer := 0, configFormat := 1, minConfigFormat := 1, ucodeInterface := 1, payloadLength := 4, signaturesOk := true, hashOk := true } })] } }, by decide⟩

theorem witness_FirmwareComplete_fwHandover_rollback : ∃ (h : Handover) (s : State), s.fw.handover = some h ∧ h.imageType = 1 ∧ h.phase = 3 ∧ h.rollback = true ∧ s.dev.mode = .handover ∧ (s.slot 1 (s.running 1)).state = .trial ∧ h.slot ≠ s.running 1 ∧ h.slot ≤ 1 ∧ s.running 1 ≤ 1 :=
  ⟨{ cmd := none, imageType := 1, slot := 1, phase := 3, cluster := 0, since := 0, fromStandby := false, commitS := 3600, rollback := true, expired := false }, { up with dev := { up.dev with mode := .handover }, fw := { handover := some { cmd := none, imageType := 1, slot := 1, phase := 3, cluster := 0, since := 0, fromStandby := false, commitS := 3600, rollback := true, expired := false }, slots := [(0, { state := .trial }), (1, { state := .good })] } }, by decide⟩

theorem witness_FirmwareComplete_handoverQuiesced_past : ∃ (h : Handover) (s : State), s.fw.handover = some h ∧ (h.imageType ≠ 1 ∨ 3 ≤ h.phase) :=
  ⟨{ cmd := none, imageType := 1, slot := 1, phase := 3, cluster := 0, since := 0, fromStandby := false, commitS := 3600, rollback := false, expired := false }, { up with dev := { up.dev with mode := .handover }, fw := { handover := some { cmd := none, imageType := 1, slot := 1, phase := 3, cluster := 0, since := 0, fromStandby := false, commitS := 3600, rollback := false, expired := false } } }, by decide, Or.inr (by decide)⟩

theorem witness_FirmwareComplete_fwHandover_any : ∃ (h : Handover) (s : State), s.fw.handover = some h ∧ h.imageType = 1 ∧ h.phase = 3 :=
  ⟨{ cmd := none, imageType := 1, slot := 1, phase := 3, cluster := 0, since := 0, fromStandby := false, commitS := 3600, rollback := false, expired := false }, { up with dev := { up.dev with mode := .handover }, fw := { handover := some { cmd := none, imageType := 1, slot := 1, phase := 3, cluster := 0, since := 0, fromStandby := false, commitS := 3600, rollback := false, expired := false }, slots := [(1, { state := .verified, image := some { magicOk := true, format := 1, imageType := 1, part := 0x5140, stepping := 0xB0, binding := 0, unitId := 0, version := 7, security := 255, signer := 0, configFormat := 1, minConfigFormat := 1, ucodeInterface := 1, payloadLength := 4, signaturesOk := true, hashOk := true } })] } }, by decide⟩

theorem witness_FirmwareComplete_fwHandover_early : ∃ (h : Handover) (s : State), s.fw.handover = some h ∧ (h.imageType ≠ 1 ∨ h.phase ≠ 3) :=
  ⟨{ cmd := none, imageType := 1, slot := 1, phase := 1, cluster := 0, since := 0, fromStandby := false, commitS := 3600, rollback := false, expired := false }, { up with dev := { up.dev with mode := .handover }, fw := { handover := some { cmd := none, imageType := 1, slot := 1, phase := 1, cluster := 0, since := 0, fromStandby := false, commitS := 3600, rollback := false, expired := false } } }, by decide, Or.inr (by decide)⟩

theorem witness_FirmwareComplete_handoverHealthTimeout_any : ∃ (h : Handover) (s : State), s.fw.handover = some h ∧ h.imageType = 1 ∧ h.phase = 3 :=
  ⟨{ cmd := none, imageType := 1, slot := 1, phase := 3, cluster := 0, since := 0, fromStandby := false, commitS := 3600, rollback := false, expired := false }, { up with dev := { up.dev with mode := .handover }, fw := { handover := some { cmd := none, imageType := 1, slot := 1, phase := 3, cluster := 0, since := 0, fromStandby := false, commitS := 3600, rollback := false, expired := false }, slots := [(1, { state := .verified, image := some { magicOk := true, format := 1, imageType := 1, part := 0x5140, stepping := 0xB0, binding := 0, unitId := 0, version := 7, security := 255, signer := 0, configFormat := 1, minConfigFormat := 1, ucodeInterface := 1, payloadLength := 4, signaturesOk := true, hashOk := true } })] } }, by decide⟩

theorem witness_FirmwareComplete_handoverHealthTimeout_early : ∃ (h : Handover) (s : State), s.fw.handover = some h ∧ (h.imageType ≠ 1 ∨ h.phase ≠ 3) :=
  ⟨{ cmd := none, imageType := 1, slot := 1, phase := 1, cluster := 0, since := 0, fromStandby := false, commitS := 3600, rollback := false, expired := false }, { up with dev := { up.dev with mode := .handover }, fw := { handover := some { cmd := none, imageType := 1, slot := 1, phase := 1, cluster := 0, since := 0, fromStandby := false, commitS := 3600, rollback := false, expired := false } } }, by decide, Or.inr (by decide)⟩

theorem witness_FirmwareComplete_fwHandover_none : ∃ (s : State), s.fw.handover = none :=
  ⟨up, by decide⟩

theorem witness_FirmwareComplete_handoverHealthTimeout : ∃ (h : Handover) (s : State), s.fw.handover = some h ∧ h.imageType = 1 ∧ h.phase = 3 ∧ h.rollback = false ∧ s.dev.mode = .handover :=
  ⟨{ cmd := none, imageType := 1, slot := 1, phase := 3, cluster := 0, since := 0, fromStandby := false, commitS := 3600, rollback := false, expired := false }, { up with dev := { up.dev with mode := .handover }, fw := { handover := some { cmd := none, imageType := 1, slot := 1, phase := 3, cluster := 0, since := 0, fromStandby := false, commitS := 3600, rollback := false, expired := false }, slots := [(1, { state := .verified, image := some { magicOk := true, format := 1, imageType := 1, part := 0x5140, stepping := 0xB0, binding := 0, unitId := 0, version := 7, security := 255, signer := 0, configFormat := 1, minConfigFormat := 1, ucodeInterface := 1, payloadLength := 4, signaturesOk := true, hashOk := true } })] } }, by decide⟩

theorem witness_FirmwareComplete_handoverHealthTimeout_none : ∃ (s : State), s.fw.handover = none :=
  ⟨up, by decide⟩

theorem witness_FirmwareComplete_profileClusterSwap : ∃ (cluster : Nat) (h : Handover) (p : Profile) (k : Nat) (s : State), s.fw.handover = some h ∧ s.eng.ready = some p ∧ h.imageType = 2 ∧ h.phase = 4 ∧ h.cluster = cluster ∧ s.healthy 4 cluster = true ∧ s.clusterIdle cluster = true ∧ h.entries = [] ∧ s.clusterFrom (cluster + 1) = some k :=
  ⟨3, { cmd := none, imageType := 2, slot := 1, phase := 4, cluster := 3, since := 0, fromStandby := false, commitS := 3600, rollback := false, expired := false }, { seq := 2, version := 7, security := 0, image := [], residents := [], doorbell := 0, layout := [] }, 4, { up with dev := { up.dev with mode := .handover }, fw := { handover := some { cmd := none, imageType := 2, slot := 1, phase := 4, cluster := 3, since := 0, fromStandby := false, commitS := 3600, rollback := false, expired := false } }, eng := { ready := some { seq := 2, version := 7, security := 0, image := [], residents := [], doorbell := 0, layout := [] } } }, by decide +kernel⟩

theorem witness_FirmwareComplete_profileClusterSwap_last : ∃ (cluster : Nat) (h : Handover) (p : Profile) (s : State), s.fw.handover = some h ∧ s.eng.ready = some p ∧ h.imageType = 2 ∧ h.phase = 4 ∧ h.cluster = cluster ∧ s.healthy 4 cluster = true ∧ s.clusterIdle cluster = true ∧ h.entries = [] ∧ s.clusterFrom (cluster + 1) = none ∧ h.rollback = false ∧ s.dev.mode = .handover :=
  ⟨31, { cmd := none, imageType := 2, slot := 1, phase := 4, cluster := 31, since := 0, fromStandby := false, commitS := 3600, rollback := false, expired := false }, { seq := 2, version := 7, security := 0, image := [], residents := [], doorbell := 0, layout := [] }, { up with dev := { up.dev with mode := .handover }, fw := { handover := some { cmd := none, imageType := 2, slot := 1, phase := 4, cluster := 31, since := 0, fromStandby := false, commitS := 3600, rollback := false, expired := false } }, eng := { ready := some { seq := 2, version := 7, security := 0, image := [], residents := [], doorbell := 0, layout := [] } } }, by decide +kernel⟩

theorem witness_FirmwareComplete_profileClusterSwap_waits : ∃ (cluster : Nat) (h : Handover) (p : Profile) (s : State), s.fw.handover = some h ∧ s.eng.ready = some p ∧ h.imageType = 2 ∧ h.phase = 4 ∧ h.cluster = cluster ∧ s.healthy 4 cluster = true ∧ s.clusterIdle cluster = false :=
  ⟨3, { cmd := none, imageType := 2, slot := 1, phase := 4, cluster := 3, since := 0, fromStandby := false, commitS := 3600, rollback := false, expired := false }, { seq := 2, version := 7, security := 0, image := [], residents := [], doorbell := 0, layout := [] }, { { up with dev := { up.dev with mode := .handover }, fw := { handover := some { cmd := none, imageType := 2, slot := 1, phase := 4, cluster := 3, since := 0, fromStandby := false, commitS := 3600, rollback := false, expired := false } }, eng := { ready := some { seq := 2, version := 7, security := 0, image := [], residents := [], doorbell := 0, layout := [] } } } with pkts := [(9, { inPass := true, cluster := 3 })] }, by decide⟩

theorem witness_FirmwareComplete_profileClusterSwap_onward : ∃ (cluster : Nat) (h : Handover) (p : Profile) (z : State) (k : Nat) (s : State), s.fw.handover = some h ∧ s.eng.ready = some p ∧ h.imageType = 2 ∧ h.phase = 4 ∧ h.cluster = cluster ∧ (s.healthy 4 cluster = true → s.clusterIdle cluster = true) ∧ z = (if s.healthy 4 cluster = true then each (fun i s => State.moveSteer s i cluster true) h.entries (State.loadCluster p cluster s) else s) ∧ z.clusterFrom (cluster + 1) = some k :=
  ⟨3, { cmd := none, imageType := 2, slot := 1, phase := 4, cluster := 3, since := 0, fromStandby := false, commitS := 3600, rollback := false, expired := false, entries := [] }, { seq := 2, version := 7, security := 0, image := [], residents := [], doorbell := 0, layout := [] }, { up with dev := { up.dev with mode := .handover }, fw := { handover := some { cmd := none, imageType := 2, slot := 1, phase := 4, cluster := 3, since := 0, fromStandby := false, commitS := 3600, rollback := false, expired := false, entries := [] } }, eng := { ready := some { seq := 2, version := 7, security := 0, image := [], residents := [], doorbell := 0, layout := [] } }, units := { up.units with out := [(262147, true)] } }, 4, { up with dev := { up.dev with mode := .handover }, fw := { handover := some { cmd := none, imageType := 2, slot := 1, phase := 4, cluster := 3, since := 0, fromStandby := false, commitS := 3600, rollback := false, expired := false, entries := [] } }, eng := { ready := some { seq := 2, version := 7, security := 0, image := [], residents := [], doorbell := 0, layout := [] } }, units := { up.units with out := [(262147, true)] } }, by decide, by decide, by decide, by decide, by decide, by decide, rfl, by decide +kernel⟩

theorem witness_FirmwareComplete_profileClusterSwap_ends : ∃ (cluster : Nat) (h : Handover) (p : Profile) (z : State) (s : State), s.fw.handover = some h ∧ s.eng.ready = some p ∧ h.imageType = 2 ∧ h.phase = 4 ∧ h.cluster = cluster ∧ (s.healthy 4 cluster = true → s.clusterIdle cluster = true) ∧ z = (if s.healthy 4 cluster = true then each (fun i s => State.moveSteer s i cluster true) h.entries (State.loadCluster p cluster s) else s) ∧ z.clusterFrom (cluster + 1) = none :=
  ⟨31, { cmd := none, imageType := 2, slot := 1, phase := 4, cluster := 31, since := 0, fromStandby := false, commitS := 3600, rollback := false, expired := false, entries := [] }, { seq := 2, version := 7, security := 0, image := [], residents := [], doorbell := 0, layout := [] }, { up with dev := { up.dev with mode := .handover }, fw := { handover := some { cmd := none, imageType := 2, slot := 1, phase := 4, cluster := 31, since := 0, fromStandby := false, commitS := 3600, rollback := false, expired := false, entries := [] } }, eng := { ready := some { seq := 2, version := 7, security := 0, image := [], residents := [], doorbell := 0, layout := [] } }, units := { up.units with out := [(262175, true)] } }, { up with dev := { up.dev with mode := .handover }, fw := { handover := some { cmd := none, imageType := 2, slot := 1, phase := 4, cluster := 31, since := 0, fromStandby := false, commitS := 3600, rollback := false, expired := false, entries := [] } }, eng := { ready := some { seq := 2, version := 7, security := 0, image := [], residents := [], doorbell := 0, layout := [] } }, units := { up.units with out := [(262175, true)] } }, by decide, by decide, by decide, by decide, by decide, by decide, rfl, by decide +kernel⟩

theorem witness_FirmwareComplete_profileClusterSwap_other : ∃ (cluster : Nat) (s : State), s.fw.handover = none ∨ s.eng.ready = none ∨ (∃ h, s.fw.handover = some h ∧ (h.imageType ≠ 2 ∨ h.phase ≠ 4 ∨ h.cluster ≠ cluster)) :=
  ⟨3, up, Or.inl (by decide)⟩

theorem witness_FirmwareComplete_trialExpire_any : ∃ (imageType : Nat) (k n d : Nat) (s : State), s.fw.trials.find? (fun r => decide (r.1 = imageType)) = some (k, { slot := n, deadline := some d }) ∧ d ≤ s.now ∧ s.fw.handover = none ∧ s.dev.hold.any (fun h => h.mode.isSome) = false ∧ (s.slot imageType (1 - s.running imageType)).state = .good ∧ (s.dev.mode = .standby ∨ s.dev.mode = .service ∨ s.dev.mode = .degraded) :=
  ⟨2, 2, 0, 0, { up with fw := { trials := [(2, { slot := 0, deadline := some 0 })], slots := [(2, { state := .trial }), (3, { state := .good })] } }, by decide, by decide, by decide, by decide, by decide, Or.inr (by decide)⟩

theorem witness_FirmwareComplete_trialExpire_none : ∃ (imageType : Nat) (s : State), (s.fw.trials.find? (fun r => decide (r.1 = imageType)) = none) ∨ s.fw.handover ≠ none ∨ s.dev.hold.any (fun h => h.mode.isSome) = true ∨ (s.slot imageType (1 - s.running imageType)).state ≠ .good ∨ s.dev.mode = .safe ∨ s.dev.mode = .calibrate ∨ s.dev.mode = .handover :=
  ⟨1, up, Or.inl (by decide)⟩

theorem witness_FirmwareComplete_trialExpire_early : ∃ (imageType : Nat) (k n d : Nat) (s : State), s.fw.trials.find? (fun r => decide (r.1 = imageType)) = some (k, { slot := n, deadline := some d }) ∧ s.now < d :=
  ⟨1, 1, 0, 5, { up with fw := { trials := [(1, { slot := 0, deadline := some 5 })] } }, by decide⟩

theorem witness_FirmwareComplete_trialExpire : ∃ (imageType : Nat) (k n d : Nat) (s : State), imageType = 1 ∧ s.fw.trials.find? (fun r => decide (r.1 = imageType)) = some (k, { slot := n, deadline := some d }) ∧ d ≤ s.now ∧ s.fw.handover = none ∧ s.dev.hold = none ∧ (s.slot 1 (1 - s.running 1)).state = .good ∧ s.dev.mode = .service :=
  ⟨1, 1, 0, 0, { up with fw := { trials := [(1, { slot := 0, deadline := some 0 })], slots := [(0, { state := .trial }), (1, { state := .good })] } }, by decide⟩

theorem witness_FirmwareComplete_trialExpire_unlimited : ∃ (imageType : Nat) (k n : Nat) (s : State), s.fw.trials.find? (fun r => decide (r.1 = imageType)) = some (k, { slot := n, deadline := none }) :=
  ⟨1, 1, 0, { up with fw := { trials := [(1, { slot := 0, deadline := none })] } }, by decide⟩

theorem witness_FirmwareComplete_fwCommit : ∃ (c : Cmd) (n : Nat) (s : State), ready s c 0x1203 .d0 = true ∧ c.host = s.dom.principal ∧ (c.u8 16 = 1 ∨ c.u8 16 = 2) ∧ c.zeros 17 47 = none ∧ s.fw.handover = none ∧ n ≤ 1 ∧ (s.slot (c.u8 16) n).state = .trial ∧ (s.slot (c.u8 16) (1 - n)).state ≠ .trial :=
  ⟨cm 0x1203 [(16, 1, 1)], 1, { begun up (cm 0x1203 [(16, 1, 1)]) with dev := { up.dev with mode := .service }, fw := { slots := [(0, { state := .good }), (1, { state := .trial })], running := [(1, 1)] } }, by decide, by decide, Or.inl (by decide), by decide⟩

theorem witness_FirmwareComplete_fwCommit_none : ∃ (c : Cmd) (s : State), ready s c 0x1203 .d0 = true ∧ c.host = s.dom.principal ∧ (c.u8 16 = 1 ∨ c.u8 16 = 2) ∧ c.zeros 17 47 = none ∧ s.fw.handover = none ∧ (s.slot (c.u8 16) 0).state ≠ .trial ∧ (s.slot (c.u8 16) 1).state ≠ .trial :=
  ⟨cm 0x1203 [(16, 1, 1)], { begun up (cm 0x1203 [(16, 1, 1)]) with dev := { up.dev with mode := .service }, fw := {  } }, by decide, by decide, Or.inl (by decide), by decide⟩

theorem witness_FirmwareComplete_fwCommit_any : ∃ (c : Cmd) (n : Nat) (s : State), ready s c 0x1203 .d0 = true ∧ c.host = s.dom.principal ∧ (c.u8 16 = 1 ∨ c.u8 16 = 2) ∧ c.zeros 17 47 = none ∧ s.fw.handover = none ∧ (List.range 2).find? (fun n => decide ((s.slot (c.u8 16) n).state = .trial)) = some n :=
  ⟨cm 0x1203 [(16, 1, 1)], 1, { begun up (cm 0x1203 [(16, 1, 1)]) with dev := { up.dev with mode := .service }, fw := { slots := [(0, { state := .good }), (1, { state := .trial })], running := [(1, 1)] } }, by decide, by decide, Or.inl (by decide), by decide⟩

theorem witness_FirmwareComplete_fwCommit_busy : ∃ (c : Cmd) (s : State), ready s c 0x1203 .d0 = true ∧ c.host = s.dom.principal ∧ (c.u8 16 = 1 ∨ c.u8 16 = 2) ∧ c.zeros 17 47 = none ∧ s.fw.handover ≠ none :=
  ⟨cm 0x1203 [(16, 1, 1)], { begun up (cm 0x1203 [(16, 1, 1)]) with dev := { up.dev with mode := .handover }, fw := { handover := some { cmd := none, imageType := 1, slot := 1, phase := 1, cluster := 0, since := 0, fromStandby := false, commitS := 3600, rollback := false, expired := false } } }, by decide, by decide, Or.inl (by decide), by decide⟩

theorem witness_FirmwareComplete_fwRollback : ∃ (c : Cmd) (n : Nat) (i : Image) (s : State), ready s c 0x1204 .d0 = true ∧ c.host = s.dom.principal ∧ c.u8 16 = 1 ∧ c.zeros 17 47 = none ∧ s.fw.handover = none ∧ s.dev.hold = none ∧ n = 1 - s.running 1 ∧ (s.slot 1 n).state = .good ∧ (s.slot 1 n).image = some i ∧ s.floor 1 ≤ i.security :=
  ⟨cm 0x1204 [(16, 1, 1)], 1, { magicOk := true, format := 1, imageType := 1, part := 0x5140, stepping := 0xB0, binding := 0, unitId := 0, version := 7, security := 255, signer := 0, configFormat := 1, minConfigFormat := 1, ucodeInterface := 1, payloadLength := 4, signaturesOk := true, hashOk := true }, { begun up (cm 0x1204 [(16, 1, 1)]) with dev := { up.dev with mode := .service }, fw := { slots := [(1, { state := .good, image := some { magicOk := true, format := 1, imageType := 1, part := 0x5140, stepping := 0xB0, binding := 0, unitId := 0, version := 7, security := 255, signer := 0, configFormat := 1, minConfigFormat := 1, ucodeInterface := 1, payloadLength := 4, signaturesOk := true, hashOk := true } })] } }, by decide, by decide, by decide, by decide, by decide, by decide, by decide, by decide, by decide, (by have := (Config.fusedFloor 1).isLt; simp [State.floor, look]; omega)⟩

theorem witness_FirmwareComplete_fwRollback_begins : ∃ (c : Cmd) (o : Option Nat) (s : State), ready s c 0x1204 .d0 = true ∧ c.host = s.dom.principal ∧ (c.u8 16 = 1 ∨ c.u8 16 = 2) ∧ c.zeros 17 47 = none ∧ o = (if (s.slot (c.u8 16) (1 - s.running (c.u8 16))).state = .good then some (1 - s.running (c.u8 16)) else none) ∧ firstErr (handoverErrs s c o) = none :=
  ⟨cm 0x1204 [(16, 1, 1)], some 1, { begun up (cm 0x1204 [(16, 1, 1)]) with dev := { up.dev with mode := .service }, fw := { slots := [(1, { state := .good, image := some { magicOk := true, format := 1, imageType := 1, part := 0x5140, stepping := 0xB0, binding := 0, unitId := 0, version := 7, security := 255, signer := 0, configFormat := 1, minConfigFormat := 1, ucodeInterface := 1, payloadLength := 4, signaturesOk := true, hashOk := true } })] } }, by decide, by decide, Or.inl (by decide), by decide, by decide, (by have h : (cm 0x1204 [(16, 1, 1)]).u8 16 = 1 := (by decide); have := (Config.fusedFloor 1).isLt; have hf : State.floor ({ begun up (cm 0x1204 [(16, 1, 1)]) with dev := { up.dev with mode := .service }, fw := { slots := [(1, { state := .good, image := some { magicOk := true, format := 1, imageType := 1, part := 0x5140, stepping := 0xB0, binding := 0, unitId := 0, version := 7, security := 255, signer := 0, configFormat := 1, minConfigFormat := 1, ucodeInterface := 1, payloadLength := 4, signaturesOk := true, hashOk := true } })] } }) 1 ≤ 255 := (by simp [State.floor, look]; omega); have hs : State.slot ({ begun up (cm 0x1204 [(16, 1, 1)]) with dev := { up.dev with mode := .service }, fw := { slots := [(1, { state := .good, image := some { magicOk := true, format := 1, imageType := 1, part := 0x5140, stepping := 0xB0, binding := 0, unitId := 0, version := 7, security := 255, signer := 0, configFormat := 1, minConfigFormat := 1, ucodeInterface := 1, payloadLength := 4, signaturesOk := true, hashOk := true } })] } }) 1 1 = { state := .good, image := some { magicOk := true, format := 1, imageType := 1, part := 0x5140, stepping := 0xB0, binding := 0, unitId := 0, version := 7, security := 255, signer := 0, configFormat := 1, minConfigFormat := 1, ucodeInterface := 1, payloadLength := 4, signaturesOk := true, hashOk := true } } := (by decide); simp [handoverErrs, firstErr, need, at_, h, hs, hf]; decide)⟩

theorem witness_FirmwareComplete_fwRollback_fails : ∃ (c : Cmd) (e : Err) (o : Option Nat) (s : State), ready s c 0x1204 .d0 = true ∧ c.host = s.dom.principal ∧ (c.u8 16 = 1 ∨ c.u8 16 = 2) ∧ c.zeros 17 47 = none ∧ o = (if (s.slot (c.u8 16) (1 - s.running (c.u8 16))).state = .good then some (1 - s.running (c.u8 16)) else none) ∧ firstErr (handoverErrs s c o) = some e :=
  ⟨cm 0x1204 [(16, 1, 1)], { status := .invalidParam, detail := 0x01000010 }, none, { begun up (cm 0x1204 [(16, 1, 1)]) with dev := { up.dev with mode := .service }, fw := {  } }, by decide, by decide, Or.inl (by decide), by decide⟩

theorem witness_FirmwareComplete_fwRollback_busy : ∃ (c : Cmd) (s : State), ready s c 0x1204 .d0 = true ∧ c.host = s.dom.principal ∧ (c.u8 16 = 1 ∨ c.u8 16 = 2) ∧ c.zeros 17 47 = none ∧ s.fw.handover ≠ none :=
  ⟨cm 0x1204 [(16, 1, 1)], { begun up (cm 0x1204 [(16, 1, 1)]) with dev := { up.dev with mode := .handover }, fw := { handover := some { cmd := none, imageType := 1, slot := 1, phase := 1, cluster := 0, since := 0, fromStandby := false, commitS := 3600, rollback := false, expired := false } } }, by decide, by decide, Or.inl (by decide), by decide⟩

theorem witness_FirmwareComplete_fwFloor : ∃ (c : Cmd) (i : Image) (s : State), ready s c 0x1205 .d0 = true ∧ c.host = s.dom.principal ∧ c.u8 16 = 1 ∧ s.floor 1 ≤ c.u8 17 ∧ c.zeros 18 46 = none ∧ (s.slot 1 (s.running 1)).state = .good ∧ (s.slot 1 (s.running 1)).image = some i ∧ c.u8 17 ≤ i.security :=
  ⟨cm 0x1205 [(16, 1, 1), (17, 1, 255)], { magicOk := true, format := 1, imageType := 1, part := 0x5140, stepping := 0xB0, binding := 0, unitId := 0, version := 7, security := 255, signer := 0, configFormat := 1, minConfigFormat := 1, ucodeInterface := 1, payloadLength := 4, signaturesOk := true, hashOk := true }, { begun up (cm 0x1205 [(16, 1, 1), (17, 1, 255)]) with dev := { up.dev with mode := .service }, fw := { slots := [(0, { state := .good, image := some { magicOk := true, format := 1, imageType := 1, part := 0x5140, stepping := 0xB0, binding := 0, unitId := 0, version := 7, security := 255, signer := 0, configFormat := 1, minConfigFormat := 1, ucodeInterface := 1, payloadLength := 4, signaturesOk := true, hashOk := true } })] } }, by decide, by decide, by decide, (by have := (Config.fusedFloor 1).isLt; have h : (cm 0x1205 [(16, 1, 1), (17, 1, 255)]).u8 17 = 255 := (by decide); rw [h]; simp [State.floor, look]; omega), by decide⟩

theorem witness_FirmwareComplete_fwFloor_any : ∃ (c : Cmd) (x : Slot) (i : Image) (s : State), ready s c 0x1205 .d0 = true ∧ c.host = s.dom.principal ∧ (c.u8 16 = 1 ∨ c.u8 16 = 2) ∧ s.floor (c.u8 16) ≤ c.u8 17 ∧ c.zeros 18 46 = none ∧ x = s.slot (c.u8 16) (s.running (c.u8 16)) ∧ x.state = .good ∧ x.image = some i ∧ c.u8 17 ≤ i.security :=
  ⟨cm 0x1205 [(16, 1, 2), (17, 1, 255)], _, { magicOk := true, format := 1, imageType := 1, part := 0x5140, stepping := 0xB0, binding := 0, unitId := 0, version := 7, security := 255, signer := 0, configFormat := 1, minConfigFormat := 1, ucodeInterface := 1, payloadLength := 4, signaturesOk := true, hashOk := true }, { begun up (cm 0x1205 [(16, 1, 2), (17, 1, 255)]) with dev := { up.dev with mode := .service }, fw := { slots := [(2, { state := .good, image := some { magicOk := true, format := 1, imageType := 1, part := 0x5140, stepping := 0xB0, binding := 0, unitId := 0, version := 7, security := 255, signer := 0, configFormat := 1, minConfigFormat := 1, ucodeInterface := 1, payloadLength := 4, signaturesOk := true, hashOk := true } })] } }, by decide, by decide, Or.inr (by decide), (by have := (Config.fusedFloor 2).isLt; have h : (cm 0x1205 [(16, 1, 2), (17, 1, 255)]).u8 17 = 255 := (by decide); have h2 : (cm 0x1205 [(16, 1, 2), (17, 1, 255)]).u8 16 = 2 := (by decide); rw [h, h2]; simp [State.floor, look]; omega), by decide, rfl, by decide⟩

theorem witness_FirmwareComplete_fwFloor_refused : ∃ (c : Cmd) (x : Slot) (s : State), ready s c 0x1205 .d0 = true ∧ c.host = s.dom.principal ∧ (c.u8 16 = 1 ∨ c.u8 16 = 2) ∧ s.floor (c.u8 16) ≤ c.u8 17 ∧ c.zeros 18 46 = none ∧ x = s.slot (c.u8 16) (s.running (c.u8 16)) ∧ (x.state ≠ .good ∨ (∀ i, x.image = some i → i.security < c.u8 17)) :=
  ⟨cm 0x1205 [(16, 1, 2), (17, 1, 255)], _, { begun up (cm 0x1205 [(16, 1, 2), (17, 1, 255)]) with dev := { up.dev with mode := .service }, fw := {  } }, by decide, by decide, Or.inr (by decide), (by have := (Config.fusedFloor 2).isLt; have h : (cm 0x1205 [(16, 1, 2), (17, 1, 255)]).u8 17 = 255 := (by decide); have h2 : (cm 0x1205 [(16, 1, 2), (17, 1, 255)]).u8 16 = 2 := (by decide); rw [h, h2]; simp [State.floor, look]; omega), by decide, rfl, Or.inl (by decide)⟩

theorem witness_FirmwareComplete_fwFloor_trial : ∃ (c : Cmd) (s : State), ready s c 0x1205 .d0 = true ∧ c.host = s.dom.principal ∧ c.u8 16 = 1 ∧ s.floor 1 ≤ c.u8 17 ∧ c.zeros 18 46 = none ∧ (s.slot 1 (s.running 1)).state ≠ .good :=
  ⟨cm 0x1205 [(16, 1, 1), (17, 1, 255)], { begun up (cm 0x1205 [(16, 1, 1), (17, 1, 255)]) with dev := { up.dev with mode := .service }, fw := { slots := [(0, { state := .trial, image := some { magicOk := true, format := 1, imageType := 1, part := 0x5140, stepping := 0xB0, binding := 0, unitId := 0, version := 7, security := 255, signer := 0, configFormat := 1, minConfigFormat := 1, ucodeInterface := 1, payloadLength := 4, signaturesOk := true, hashOk := true } })] } }, by decide, by decide, by decide, (by have := (Config.fusedFloor 1).isLt; have h : (cm 0x1205 [(16, 1, 1), (17, 1, 255)]).u8 17 = 255 := (by decide); rw [h]; simp [State.floor, look]; omega), by decide⟩

theorem witness_FirmwareComplete_fwInband : ∃ (c : Cmd) (s : State), ready s c 0x1206 .d0 = true ∧ c.host = s.dom.principal ∧ c.zeros 32 32 = none :=
  ⟨cm 0x1206 [(16, 8, 32)], { begun up (cm 0x1206 [(16, 8, 32)]) with dev := { up.dev with mode := .service }, fw := {  } }, by decide⟩

theorem witness_FirmwareComplete_fwConfigSave : ∃ (c : Cmd) (x y : ConfCopy) (s : State), ready s c 0x1207 .d0 = true ∧ c.host = s.dom.principal ∧ c.zeros 16 48 = none ∧ s.fw.copies = [(0, x), (1, y)] ∧ x.crcOk = true ∧ y.crcOk = true ∧ x.seq ≤ y.seq :=
  ⟨cm 0x1207 [], { format := 1, seq := 4, crcOk := true, conf := {} }, { format := 1, seq := 5, crcOk := true, conf := {} }, { begun up (cm 0x1207 []) with dev := { up.dev with mode := .service }, fw := { copies := [(0, { format := 1, seq := 4, crcOk := true, conf := {} }), (1, { format := 1, seq := 5, crcOk := true, conf := {} })] } }, by decide⟩

theorem witness_FirmwareComplete_fwConfigSave_first : ∃ (c : Cmd) (s : State), ready s c 0x1207 .d0 = true ∧ c.host = s.dom.principal ∧ c.zeros 16 48 = none ∧ s.fw.copies = [] :=
  ⟨cm 0x1207 [], { begun up (cm 0x1207 []) with dev := { up.dev with mode := .service }, fw := {  } }, by decide⟩

theorem witness_FirmwareComplete_fwConfigSave_any : ∃ (c : Cmd) (k : Nat) (s : State), ready s c 0x1207 .d0 = true ∧ c.host = s.dom.principal ∧ c.zeros 16 48 = none ∧ k = (if s.copySeq 0 ≤ s.copySeq 1 then 0 else 1) :=
  ⟨cm 0x1207 [], 0, { begun up (cm 0x1207 []) with dev := { up.dev with mode := .service }, fw := {  } }, by decide⟩

theorem witness_FirmwareComplete_fwStatus : ∃ (c : Cmd) (s : State), ready s c 0x1201 .d0 = true ∧ c.host = s.dom.principal ∧ c.needReply = none ∧ c.zeros 16 48 = none :=
  ⟨cm 0x1201 [], { begun up (cm 0x1201 []) with dev := { up.dev with mode := .service }, fw := {  } }, by decide⟩

/-! ### StepRunsFront -/

theorem witness_StepRunsFront_front : ∃ (c : Instr) (rest : List Instr) (s : State), s.pending = c :: rest :=
  ⟨.standbyEntry 0, [], { State.reset with pending := [.standbyEntry 0] }, rfl⟩

theorem witness_StepRunsFront_idle : ∃ (s : State), s.pending = [] :=
  ⟨State.reset, rfl⟩

/-! ### ResetsLeaveD0 -/

theorem witness_ResetsLeaveD0_powerOnReset : ∃ (straps : Straps) (s : State), True :=
  ⟨{ bootMode := 0, topoSel := 0, principalSel := 1 }, up, by decide⟩

theorem witness_ResetsLeaveD0_pinReset : ∃ (lowNs : Nat) (straps : Straps) (s : State), 10000 ≤ lowNs ∧ s.dev.thermTrip = false :=
  ⟨10000, { bootMode := 0, topoSel := 0, principalSel := 1 }, up, by decide⟩

theorem witness_ResetsLeaveD0_devResetFull : ∃ (host : Nat) (value : Nat) (s : State), s.resetWrite host value 1 = true :=
  ⟨0, 0x0A5A0001, up, by decide⟩

theorem witness_ResetsLeaveD0_devResetDataPlane : ∃ (host : Nat) (value : Nat) (s : State), True :=
  ⟨0, 0x0A5A0002, up, by decide⟩

/-! ### InvariantsAtReset -/

/-! ### DomainsKept -/

theorem witness_DomainsKept_step : ∃ (s s' : State), DomainsOk s ∧ step s = .next s' :=
  ⟨{ State.reset with pending := [.standbyEntry 0] }, _, ⟨by decide, fun d h hd => (by rcases d with _ | d <;> cases hd <;> exact ⟨rfl, by decide⟩), by decide, by decide, by decide, by decide⟩, rfl⟩

/-! ### LogKept -/

theorem witness_LogKept_step : ∃ (s s' : State), LogOk s ∧ step s = .next s' :=
  ⟨{ State.reset with pending := [.standbyEntry 0] }, _, ⟨by decide, by decide, by decide, fun i => by simp [State.counter, State.reset, look]⟩, rfl⟩

/-! ### ChecksAnswer -/

theorem witness_ChecksAnswer_frame : ∃ (i : Instr) (t code : Nat) (c : Cmd) (s : State) (x : Started) (e : Err), i.command = some (t, code, c) ∧ (s.at_ t).startedAs c = some x ∧ c.opcode = code ∧ x.working = false ∧ (s.at_ t).basecampUp = true ∧ ((s.at_ t).waits c && !x.busy) = false ∧ (0x0502 ≤ code → code ≤ 0x0508 → (s.at_ t).tables.dma = none) ∧ frameErr x c .any = some e :=
  ⟨.nop 0 (cm 0 []), 0, 0, cm 0 [], { begun up (cm 0 []) with host := { started := [{ cmd := cm 0 [], mode := .service, held := false }] } }, { cmd := cm 0 [], mode := .service, held := false }, denied, rfl, by decide⟩

theorem witness_ChecksAnswer_idle : ∃ (i : Instr) (t code : Nat) (c : Cmd) (s : State), i.command = some (t, code, c) ∧ (s.at_ t).startedAs c = none :=
  ⟨.nop 0 (cm 0 []), 0, 0, cm 0 [], up, rfl, by decide⟩

/-! ### RowsKeepOtherParts -/

theorem witness_RowsKeepOtherParts_frame : ∃ (i : Instr) (p : Part) (s s' : State), partOf i = some p ∧ exec i s = .next s' :=
  ⟨.standbyEntry 0, .dev, State.reset, _, rfl, rfl⟩

/-! ### FaultLogSecrecy -/

theorem witness_FaultLogSecrecy_faultLogRead_d0 : ∃ (c : Cmd) (s : State), ready s c 0x1100 .any = true ∧ c.needReply = none ∧ 1 ≤ c.u8 20 ∧ c.u8 20 ≤ 32 ∧ c.zeros 21 43 = none ∧ c.domain = 0 :=
  ⟨cm 0x1100 [(16, 4, 5), (20, 1, 32)], begun up (cm 0x1100 [(16, 4, 5), (20, 1, 32)]), by decide⟩

theorem witness_FaultLogSecrecy_faultLogRead_others : ∃ (c : Cmd) (s : State), ready s c 0x1100 .any = true ∧ c.needReply = none ∧ 1 ≤ c.u8 20 ∧ c.u8 20 ≤ 32 ∧ c.zeros 21 43 = none ∧ c.domain ≠ 0 :=
  ⟨{ cm 0x1100 [(16, 4, 5), (20, 1, 32)] with domByte := 3 }, begun up { cm 0x1100 [(16, 4, 5), (20, 1, 32)] with domByte := 3 }, by decide⟩

theorem witness_FaultLogSecrecy_same : ∃ (t : Nat) (c : Cmd) (s1 s2 : State), ready (s1.at_ t) c 0x1100 .any = true ∧ c.needReply = none ∧ 1 ≤ c.u8 20 ∧ c.u8 20 ≤ 32 ∧ c.zeros 21 43 = none ∧ ready (s2.at_ t) c 0x1100 .any = true ∧ (s1.units.log.filter fun r => c.domain = 0 || bit r.mask c.domain) = (s2.units.log.filter fun r => c.domain = 0 || bit r.mask c.domain) ∧ s1.units.lastSeq = s2.units.lastSeq ∧ s1.units.log.length = s2.units.log.length :=
  ⟨0, cm 0x1100 [(16, 4, 5), (20, 1, 32)], begun up (cm 0x1100 [(16, 4, 5), (20, 1, 32)]), begun up (cm 0x1100 [(16, 4, 5), (20, 1, 32)]), by decide, by decide, by decide, by decide, by decide, by decide, rfl, rfl, rfl⟩

end Sys2Proof.Tests
end

section
/-! SUPPORT. Guyline: what each of its operations leaves alone and what a read gives after it (01 R17–R23), and the proof that
Guyline transfers, failures, map-outs and returns complete. -/

namespace Sys2Proof.Machine

/-! ### Folds over a list whose elements are known -/

/-- An invariant that the updates of a fold keep, for the elements of its list, the fold keeps. -/
theorem each_inv_mem {σ β : Type} {f : β → σ → σ} {P : σ → Prop} {l : List β} (h : ∀ a ∈ l, ∀ s, P s → P (f a s)) {s : σ}
    (hs : P s) : P (each f l s) := by
  induction l generalizing s with
  | nil => exact hs
  | cons a t ih => exact ih (fun b hb => h b (List.mem_cons_of_mem _ hb)) (h a List.mem_cons_self s hs)

/-- A fold reaches `P` where one of its updates, that of `b`, brings it about in a state that meets the invariant `I`, and the others
keep it. -/
theorem each_reaches {σ β : Type} {f : β → σ → σ} (I : σ → Prop) {P : σ → Prop} {b : β} {l : List β} (hb : b ∈ l)
    (hI : ∀ a ∈ l, ∀ s, I s → I (f a s)) (hset : ∀ s, I s → P (f b s)) (hkeep : ∀ a ∈ l, ∀ s, I s → P s → P (f a s)) {s : σ}
    (hs : I s) : P (each f l s) := by
  induction l generalizing s with
  | nil => cases hb
  | cons a t ih =>
    have hIt : ∀ c ∈ t, ∀ s, I s → I (f c s) := fun c hc => hI c (List.mem_cons_of_mem _ hc)
    have hkt : ∀ c ∈ t, ∀ s, I s → P s → P (f c s) := fun c hc => hkeep c (List.mem_cons_of_mem _ hc)
    have has := hI a List.mem_cons_self s hs
    rcases List.mem_cons.1 hb with rfl | hb
    · exact (each_inv_mem (P := fun s => I s ∧ P s) (fun c hc s h => ⟨hIt c hc s h.1, hkt c hc s h.1 h.2⟩) ⟨has, hset s hs⟩).2
    · exact ih hb hIt hkt has

/-- A left fold that keeps its choice or takes the element at hand, and takes one where it has none, ends with a choice. -/
theorem foldl_picks {α : Type} {f : Option α → α → Option α} (hf : ∀ b a, f b a = some a ∨ (f b a = b ∧ b ≠ none)) {P : α → Prop}
    {l : List α} {b : Option α} (hl : ∀ a ∈ l, P a) (hb : ∀ a ∈ b, P a) (hne : l ≠ [] ∨ b ≠ none) :
    ∃ a, l.foldl f b = some a ∧ P a := by
  induction l generalizing b with
  | nil =>
    obtain ⟨a, ha⟩ := Option.ne_none_iff_exists'.1 (hne.resolve_left (by simp))
    exact ⟨a, ha, hb a ha⟩
  | cons a t ih =>
    have ht : ∀ c ∈ t, P c := fun c hc => hl c (List.mem_cons_of_mem _ hc)
    rcases hf b a with h | ⟨h, hn⟩
    · exact ih ht (by simpa [h] using hl a List.mem_cons_self) (.inr (by simp [h]))
    · exact ih ht (by simpa [h] using hb) (.inr (by simpa [h] using hn))

/-! ### The frames of the operations -/

theorem State.setGroup_group (s : State) (g : Nat) (x : Group) (j : Nat) :
    (s.setGroup g x).group j = if j = g then x else s.group j := look_put _ _ _ _ _

/-- A count changes no unit, so no group. -/
@[simp] theorem State.count_group (s : State) (i n g : Nat) : (s.count i n).group g = s.group g := by simp [State.group]

@[simp] theorem State.setSteer_rest (s : State) (toT : Bool) (i g : Nat) :
    (s.setSteer toT i g).units.out = s.units.out ∧ (s.setSteer toT i g).units.work = s.units.work ∧
    (s.setSteer toT i g).units.steerStop = s.units.steerStop ∧ (s.setSteer toT i g).units.groups = s.units.groups ∧
    (s.setSteer toT i g).pkts = s.pkts := by
  simp [State.setSteer]

/-- What a rewrite of each entry keeps, the spread of a group's entries keeps. -/
theorem respread_keeps {α : Type} (f : State → α) (hf : ∀ (s : State) (toT : Bool) (i g : Nat), f (s.setSteer toT i g) = f s)
    (s : State) (toT : Bool) (g : Nat) : f (s.respread toT g) = f s := by
  refine (each_keeps _ f (fun i s => ?_) _ _).trans (each_keeps _ f (fun i s => hf s toT i _) _ _)
  split
  · rfl
  · exact hf s toT i _

@[simp] theorem State.respread_rest (s : State) (toT : Bool) (g : Nat) :
    (s.respread toT g).units.out = s.units.out ∧ (s.respread toT g).units.work = s.units.work ∧
    (s.respread toT g).units.groups = s.units.groups ∧ (s.respread toT g).pkts = s.pkts := by
  and_intros
  · exact respread_keeps (fun s => s.units.out) (by simp) s toT g
  · exact respread_keeps (fun s => s.units.work) (by simp) s toT g
  · exact respread_keeps (fun s => s.units.groups) (by simp) s toT g
  · exact respread_keeps (fun s => s.pkts) (by simp) s toT g

/-- What stopping each entry keeps, the stops made again keep. -/
theorem restop_keeps {α : Type} (f : State → α) (hf : ∀ (s : State) (toT : Bool) (i : Nat) (v : Bool), f (s.setStop toT i v) = f s)
    (s : State) : f s.restop = f s :=
  each_keeps _ f (fun toT s => each_keeps _ f (fun i s => hf s toT i _) _ s) _ s

@[simp] theorem State.restop_rest (s : State) :
    s.restop.units.out = s.units.out ∧ s.restop.units.work = s.units.work ∧ s.restop.units.steer = s.units.steer ∧
    s.restop.units.groups = s.units.groups ∧ s.restop.pkts = s.pkts := by
  and_intros
  · exact restop_keeps (fun s => s.units.out) (fun _ _ _ _ => rfl) s
  · exact restop_keeps (fun s => s.units.work) (fun _ _ _ _ => rfl) s
  · exact restop_keeps (fun s => s.units.steer) (fun _ _ _ _ => rfl) s
  · exact restop_keeps (fun s => s.units.groups) (fun _ _ _ _ => rfl) s
  · exact restop_keeps (fun s => s.pkts) (fun _ _ _ _ => rfl) s

@[simp] theorem State.record_guyline (s : State) (kind n severity action cause mask lost : Nat) (planned : Bool) :
    (s.record kind n severity action cause mask lost planned).units.work = s.units.work ∧
    (s.record kind n severity action cause mask lost planned).units.steer = s.units.steer ∧
    (s.record kind n severity action cause mask lost planned).units.groups = s.units.groups := by
  simp [State.record]

@[simp] theorem State.mapOut_guyline (s : State) (kind n cause mask lost : Nat) (planned : Bool) :
    (s.mapOut kind n cause mask lost planned).units.work = s.units.work ∧
    (s.mapOut kind n cause mask lost planned).units.steer = s.units.steer ∧
    (s.mapOut kind n cause mask lost planned).units.groups = s.units.groups := by
  unfold State.mapOut
  split
  · simp
  · simp [State.markOut, Units.mark, Units.switch]

@[simp] theorem State.endWork_rest (s : State) (kind n : Nat) (st : Status) (detail : Nat) :
    (s.endWork kind n st detail).units.out = s.units.out ∧ (s.endWork kind n st detail).units.steer = s.units.steer ∧
    (s.endWork kind n st detail).units.steerStop = s.units.steerStop ∧ (s.endWork kind n st detail).units.groups = s.units.groups ∧
    (s.endWork kind n st detail).pkts = s.pkts := by
  unfold State.endWork
  dsimp only
  split <;> simp

@[simp] theorem State.settleReturn_rest (s : State) (g : Nat) :
    (State.settleReturn g s).units.out = s.units.out ∧ (State.settleReturn g s).units.steer = s.units.steer ∧
    (State.settleReturn g s).units.steerStop = s.units.steerStop ∧ (State.settleReturn g s).units.groups = s.units.groups ∧
    (State.settleReturn g s).pkts = s.pkts := by
  unfold State.settleReturn
  split <;> simp

/-- A group that leaves service: its entries are spread, the stops made again, and the returns that this completes end. -/
theorem groupOut_keeps {α : Type} (f : State → α) (hf : ∀ (s : State) (g : Nat), f (State.settleReturn g s) = f s)
    (s : State) (g lost : Nat) (planned : Bool) :
    f (s.groupOut g lost planned) = f (((s.respread true g).respread false g).mapOut 3 g 0 0xFFFF lost planned).restop :=
  each_keeps _ f (fun g s => hf s g) _ _

@[simp] theorem State.groupOut_groups (s : State) (g lost : Nat) (planned : Bool) :
    (s.groupOut g lost planned).units.groups = s.units.groups :=
  (groupOut_keeps (fun s => s.units.groups) (by simp) s g lost planned).trans (by simp)

@[simp] theorem State.groupOut_pkts (s : State) (g lost : Nat) (planned : Bool) : (s.groupOut g lost planned).pkts = s.pkts :=
  (groupOut_keeps (fun s => s.pkts) (by simp) s g lost planned).trans (by simp)

/-- A read of the list of units that are out. -/
theorem isOut_congr {a b : State} (h : a.units.out = b.units.out) (kind n : Nat) : a.isOut kind n = b.isOut kind n := by
  simp [State.isOut, h]

theorem restop_mapOut_isOut (s : State) (g lost : Nat) (planned : Bool) :
    (s.mapOut 3 g 0 0xFFFF lost planned).restop.isOut 3 g = true :=
  (isOut_congr (State.restop_rest _).1 3 g).trans (mapOut_isOut s 3 g 0 0xFFFF lost planned)

/-- A group that has left service is out (R22, R23). -/
@[simp] theorem groupOut_isOut (s : State) (g lost : Nat) (planned : Bool) : (s.groupOut g lost planned).isOut 3 g = true :=
  (groupOut_keeps (fun s => s.isOut 3 g) (fun s h => isOut_congr (by simp) 3 g) s g lost planned).trans
    (restop_mapOut_isOut _ g lost planned)

/-! ### The steering tables (R19, R22) -/

theorem steerGroup_congr {a b : State} (h : a.units.steer = b.units.steer) (toT : Bool) (i : Nat) :
    a.steerGroup toT i = b.steerGroup toT i := by
  simp only [State.steerGroup, h]

/-- The table that a rewrite of an entry leaves. -/
theorem setSteer_steer (s : State) (toT : Bool) (i g : Nat) :
    (s.setSteer toT i g).units.steer = put s.units.steer (dirOf toT * 64 + i) 0 (if g = i % 16 then 0 else g + 1) := by
  simp [State.setSteer]

/-- A rewritten entry names its new group, and the others of its direction are unchanged. -/
theorem setSteer_steerGroup (s : State) (toT : Bool) (i g j : Nat) :
    (s.setSteer toT i g).steerGroup toT j = if j = i then g else s.steerGroup toT j := by
  unfold State.steerGroup
  rw [setSteer_steer]
  by_cases hj : j = i
  · subst hj
    by_cases hg : g = j % 16 <;> simp [hg]
  · rw [look_put_ne _ (by omega)]
    simp [hj]

theorem dirOf_inj : ∀ {d e : Bool}, dirOf d = dirOf e → d = e := by decide

/-- The key of an entry says its direction and its number. -/
theorem entryKey_inj {d e : Bool} {i j : Nat} (hi : i < 64) (hj : j < 64) (h : dirOf d * 64 + i = dirOf e * 64 + j) :
    d = e ∧ i = j := by
  have hkey : dirOf d = dirOf e ∧ i = j := by omega
  exact ⟨dirOf_inj hkey.1, hkey.2⟩

/-- The other direction is unchanged by a rewrite of an entry. -/
theorem setSteer_steerGroup_other (s : State) {toT d : Bool} (hd : d ≠ toT) {i j : Nat} (hi : i < 64) (hj : j < 64) (g : Nat) :
    (s.setSteer toT i g).steerGroup d j = s.steerGroup d j := by
  unfold State.steerGroup
  rw [setSteer_steer, look_put_ne _ fun h => hd (entryKey_inj hj hi h).1]

theorem mem_entriesNaming {s : State} {toT : Bool} {g i : Nat} : i ∈ s.entriesNaming toT g ↔ i < 64 ∧ s.steerGroup toT i = g := by
  simp [State.entriesNaming]

/-- A healthy group other than `g` exists. -/
def OtherHealthy (g : Nat) (s : State) : Prop := ∃ h, h < 16 ∧ h ≠ g ∧ s.healthy 3 h = true

theorem OtherHealthy.congr {g : Nat} {a b : State} (h : OtherHealthy g a) (e : b.units.out = a.units.out) : OtherHealthy g b := by
  obtain ⟨k, hk, hne, hh⟩ := h
  exact ⟨k, hk, hne, by rwa [State.healthy, isOut_congr e]⟩

/-- Where another group is healthy, one that is not `g` takes an entry. -/
theorem leastGroup_other {g : Nat} {s : State} (h : OtherHealthy g s) (toT : Bool) : ∃ k, s.leastGroup toT g = some k ∧ k ≠ g := by
  obtain ⟨k, hk, hne, hh⟩ := h
  refine foldl_picks (P := (· ≠ g)) (fun b a => ?_) (fun a ha => ?_) (by simp) (.inl (List.ne_nil_of_mem (a := k) ?_))
  · cases b with
    | none => exact .inl rfl
    | some x =>
      dsimp only
      split
      · exact .inl rfl
      · exact .inr ⟨rfl, by simp⟩
  · simp only [List.mem_filter, Bool.and_eq_true, decide_eq_true_eq] at ha
    exact ha.2.2
  · simp [hk, hh, hne]

/-- A rewrite of an entry to a group other than `g` gives `g` no entry. -/
theorem setSteer_avoids {s : State} {toT : Bool} {g i j x : Nat} (hx : x ≠ g) (h : s.steerGroup toT i ≠ g) :
    (s.setSteer toT j x).steerGroup toT i ≠ g := by
  rw [setSteer_steerGroup]
  split
  · exact hx
  · exact h

section
variable {f : Nat → State → State} {toT : Bool} {g : Nat} {l : List Nat} {s : State}
  (hf : ∀ j ∈ l, ∀ z, OtherHealthy g z → ∃ x, x ≠ g ∧ f j z = z.setSteer toT j x)
include hf

theorem rewrite_otherHealthy : ∀ j ∈ l, ∀ z, OtherHealthy g z → OtherHealthy g (f j z) := by
  intro j hj z hz
  obtain ⟨x, -, e⟩ := hf j hj z hz
  exact hz.congr (by rw [e]; exact (z.setSteer_rest toT j x).1)

/-- Rewrites of entries to groups other than `g` leave `g` without an entry that they reach or that it did not hold. -/
theorem rewrites_avoid {i : Nat} (hs : OtherHealthy g s) (h : i ∈ l ∨ s.steerGroup toT i ≠ g) :
    (each f l s).steerGroup toT i ≠ g := by
  have hI := rewrite_otherHealthy hf
  have hkeep : ∀ j ∈ l, ∀ z, OtherHealthy g z → z.steerGroup toT i ≠ g → (f j z).steerGroup toT i ≠ g := by
    intro j hj z hz hne
    obtain ⟨x, hx, e⟩ := hf j hj z hz
    exact e ▸ setSteer_avoids hx hne
  rcases h with hi | hne
  · refine each_reaches (OtherHealthy g) hi hI (fun z hz => ?_) hkeep hs
    obtain ⟨x, hx, e⟩ := hf i hi z hz
    rw [e, setSteer_steerGroup, if_pos rfl]
    exact hx
  · exact (each_inv_mem (P := fun z => OtherHealthy g z ∧ z.steerGroup toT i ≠ g)
      (fun j hj z hz => ⟨hI j hj z hz.1, hkeep j hj z hz.1 hz.2⟩) ⟨hs, hne⟩).2

end

@[simp] theorem State.setSteer_homeGood (s : State) (toT : Bool) (i x : Nat) : (s.setSteer toT i x).homeGood = s.homeGood := by
  funext g j
  simp [State.homeGood, State.healthy, State.isOut]

/-- After the spread no entry of its direction names the group, where another is healthy: those with a good home name it, the others
the group that `leastGroup` gives (R22). -/
theorem respread_avoids {g : Nat} {s : State} (h : OtherHealthy g s) (toT : Bool) {i : Nat} (hi : i < 64) :
    (s.respread toT g).steerGroup toT i ≠ g := by
  have hhome : ∀ j ∈ (s.entriesNaming toT g).filter (s.homeGood g), ∀ z, OtherHealthy g z →
      ∃ x, x ≠ g ∧ State.setSteer z toT j (j % 16) = z.setSteer toT j x := by
    intro j hj z _
    have hgood := (List.mem_filter.1 hj).2
    simp only [State.homeGood, Bool.and_eq_true, decide_eq_true_eq] at hgood
    exact ⟨j % 16, hgood.1, rfl⟩
  refine rewrites_avoid (fun j _ z hz => ?_) (each_inv_mem (rewrite_otherHealthy hhome) h) ?_
  · obtain ⟨k, hk, hne⟩ := leastGroup_other hz toT
    exact ⟨k, hne, by simp only [hk]⟩
  · by_cases hname : s.steerGroup toT i = g
    · have hmem := mem_entriesNaming.2 ⟨hi, hname⟩
      by_cases hgood : s.homeGood g i = true
      · exact .inr (rewrites_avoid hhome h (.inl (List.mem_filter.2 ⟨hmem, hgood⟩)))
      · refine .inl (List.mem_filter.2 ⟨hmem, ?_⟩)
        rw [each_keeps _ State.homeGood (fun j z => z.setSteer_homeGood toT j (j % 16)) _ s]
        simpa using hgood
    · exact .inr (rewrites_avoid hhome h (.inr hname))

/-- The spread in one direction leaves the other alone. -/
theorem respread_other (s : State) {toT d : Bool} (hd : d ≠ toT) (g : Nat) {i : Nat} (hi : i < 64) :
    (s.respread toT g).steerGroup d i = s.steerGroup d i := by
  have hlt : ∀ {p : Nat → Bool} {j : Nat}, j ∈ (s.entriesNaming toT g).filter p → j < 64 := fun hj =>
    (mem_entriesNaming.1 (List.mem_filter.1 hj).1).1
  unfold State.respread
  refine each_inv_mem (P := fun z : State => z.steerGroup d i = s.steerGroup d i) (fun j hj z hz => ?_) ?_
  · split
    · exact hz
    · exact (setSteer_steerGroup_other z hd (hlt hj) hi _).trans hz
  · exact each_inv_mem (fun j hj z hz => (setSteer_steerGroup_other z hd (hlt hj) hi _).trans hz) rfl

/-- No entry of either direction names a group that has left service, where another is healthy (R22). -/
theorem groupOut_steerGroup {g : Nat} {s : State} (h : OtherHealthy g s) (lost : Nat) (planned toT : Bool) {i : Nat} (hi : i < 64) :
    (s.groupOut g lost planned).steerGroup toT i ≠ g := by
  have hspread : (s.groupOut g lost planned).steerGroup toT i = ((s.respread true g).respread false g).steerGroup toT i :=
    (groupOut_keeps (fun z => z.steerGroup toT i) (fun z k => steerGroup_congr (by simp) toT i) s g lost planned).trans
      (steerGroup_congr (by simp) toT i)
  rw [hspread]
  cases toT with
  | true =>
    rw [respread_other _ (by decide) g hi]
    exact respread_avoids h true hi
  | false => exact respread_avoids (h.congr (s.respread_rest true g).1) false hi

/-! ### Stopped entries (R23) -/

/-- Whether an entry must be stopped does not rest on what is stopped. -/
theorem setStop_mustStop (s : State) (d : Bool) (j : Nat) (v : Bool) (toT : Bool) (i : Nat) :
    (s.setStop d j v).mustStop toT i = s.mustStop toT i := rfl

theorem setStop_stopped (s : State) {d toT : Bool} {i j : Nat} (hj : j < 64) (hi : i < 64) (v : Bool) :
    (s.setStop d j v).stopped toT i = if d = toT ∧ j = i then v else s.stopped toT i := by
  refine (look_put _ _ _ _ _).trans ?_
  by_cases h : d = toT ∧ j = i
  · simp [h]
  · rw [if_neg h, if_neg fun e => h ?_]
    · rfl
    · obtain ⟨hd, hij⟩ := entryKey_inj hi hj e
      exact ⟨hd.symm, hij.symm⟩

/-- One entry stopped or resumed as it must be: the stop of any entry that was right stays right. -/
theorem setStop_mustStop_stopped {s : State} {d toT : Bool} {i j : Nat} (hj : j < 64) (hi : i < 64)
    (h : (d = toT ∧ j = i) ∨ s.stopped toT i = s.mustStop toT i) :
    (s.setStop d j (s.mustStop d j)).stopped toT i = s.mustStop toT i := by
  rw [setStop_stopped s hj hi]
  split
  · next e => rw [e.1, e.2]
  · next e => exact h.resolve_left e

theorem stopEntries_mustStop (s : State) (d : Bool) (l : List Nat) (toT : Bool) (i : Nat) :
    (each (fun j z => State.setStop z d j (z.mustStop d j)) l s).mustStop toT i = s.mustStop toT i :=
  each_keeps _ (fun z => z.mustStop toT i) (fun j z => setStop_mustStop z d j _ toT i) l s

/-- The stops of one direction made again: its entries are stopped where they must be, and an entry of the other that was right stays
right. -/
theorem stopEntries_stopped {s : State} {d toT : Bool} {i : Nat} {l : List Nat} (hl : ∀ j ∈ l, j < 64) (hi : i ∈ l)
    (h : d = toT ∨ s.stopped toT i = s.mustStop toT i) :
    (each (fun j z => State.setStop z d j (z.mustStop d j)) l s).stopped toT i = s.mustStop toT i := by
  have hkeep : ∀ j ∈ l, ∀ z : State, z.mustStop toT i = s.mustStop toT i → z.stopped toT i = s.mustStop toT i →
      (z.setStop d j (z.mustStop d j)).stopped toT i = s.mustStop toT i := fun j hj z hz hst =>
    (setStop_mustStop_stopped (hl j hj) (hl i hi) (.inr (hst.trans hz.symm))).trans hz
  rcases h with rfl | h
  · exact each_reaches (fun z => z.mustStop d i = s.mustStop d i) hi (fun j _ z hz => (setStop_mustStop z d j _ d i).trans hz)
      (fun z hz => (setStop_mustStop_stopped (hl i hi) (hl i hi) (.inl ⟨rfl, rfl⟩)).trans hz) hkeep rfl
  · exact (each_inv_mem (P := fun z => z.mustStop toT i = s.mustStop toT i ∧ z.stopped toT i = s.mustStop toT i)
      (fun j hj z h => ⟨(setStop_mustStop z d j _ toT i).trans h.1, hkeep j hj z h.1 h.2⟩) ⟨rfl, h⟩).2

/-- Once the stops are made again, an entry is stopped exactly where it must be. -/
theorem restop_stopped (s : State) (toT : Bool) {i : Nat} (hi : i < 64) : s.restop.stopped toT i = s.mustStop toT i := by
  have hl : ∀ j ∈ List.range 64, j < 64 := fun j hj => List.mem_range.1 hj
  have hmem := List.mem_range.2 hi
  unfold State.restop
  simp only [each_cons, each_nil]
  rw [stopEntries_stopped hl hmem, stopEntries_mustStop]
  cases toT with
  | true => exact .inr ((stopEntries_stopped hl hmem (.inl rfl)).trans (stopEntries_mustStop _ _ _ _ _).symm)
  | false => exact .inl rfl

/-! ### Work on a unit (R23) -/

/-- Dropping the rows of one number leaves the first row of another. -/
theorem find?_drop_ne {α : Type} (m : Sparse α) {k j : Nat} (h : j ≠ k) :
    (drop m k).find? (fun r => r.1 == j) = m.find? (fun r => r.1 == j) := by
  induction m with
  | nil => rfl
  | cons r t ih =>
    obtain ⟨i, a⟩ := r
    by_cases hi : i = k
    · simp [drop, hi, ih, Ne.symm h]
    · simp [drop, hi, ih, List.find?_cons]

/-- Work that ends is answered, and the units that are out stay as they are. -/
theorem endWork_of_workOf {s : State} {kind n : Nat} {w : UnitWork} (h : s.workOf kind n = some w) (st : Status) (detail : Nat) :
    ∃ x : State, s.endWork kind n st detail = x.answer w.cmd st detail 0 [] ∧ x.units.out = s.units.out := by
  obtain ⟨r, hr, rfl⟩ := Option.map_eq_some_iff.1 h
  simp only [State.endWork, hr]
  exact ⟨_, rfl, rfl⟩

/-- The end of one unit's work leaves the work of another of its kind. -/
theorem endWork_workOf (s : State) (kind : Nat) {n k : Nat} (h : k ≠ n) (st : Status) (detail : Nat) :
    (s.endWork kind n st detail).workOf kind k = s.workOf kind k := by
  unfold State.endWork
  dsimp only
  split
  · rfl
  · simp only [State.workOf, State.answer_rest]
    rw [find?_drop_ne _ (by omega)]

/-- The map-out of a group out of service is still in progress after a return that completes. -/
theorem settleReturn_workOf {s : State} {g : Nat} (hout : s.isOut 3 g = true) (h : Nat) :
    (State.settleReturn h s).workOf 3 g = s.workOf 3 g := by
  unfold State.settleReturn
  split
  · next hc =>
    refine endWork_workOf s 3 (fun e => ?_) .ok 0
    subst e
    simp [State.healthy, hout] at hc
  · rfl

theorem workOf_congr {a b : State} (h : a.units.work = b.units.work) (kind n : Nat) : a.workOf kind n = b.workOf kind n := by
  simp only [State.workOf, h]

/-- A group that leaves service keeps its own map-out in progress, which the row ends. -/
theorem groupOut_workOf (s : State) (g lost : Nat) (planned : Bool) : (s.groupOut g lost planned).workOf 3 g = s.workOf 3 g := by
  refine (each_inv State.settleReturn (fun z => z.isOut 3 g = true ∧ z.workOf 3 g = s.workOf 3 g) (fun h z hz => ?_) _ _ ⟨?_, ?_⟩).2
  · exact ⟨(isOut_congr (by simp) 3 g).trans hz.1, (settleReturn_workOf hz.1 h).trans hz.2⟩
  · exact restop_mapOut_isOut _ g lost planned
  · exact workOf_congr (by simp) 3 g

/-! ### Arrival (R17, R20, R21) -/

/-- The idle writers take what waits: a writer's load is in the buffer. -/
theorem loadWriters_units (cls : Nat) (l : List (Nat × Nat)) (s : State) : (loadWriters cls l s).units = s.units := by
  induction l generalizing s with
  | nil => rfl
  | cons r t ih =>
    obtain ⟨c, k⟩ := r
    unfold loadWriters
    split
    · split
      · exact ih _
      · exact ih _
    · exact ih _

/-- A packet that reaches the T die's writers leaves the groups alone. -/
theorem toWriter_group (s : State) (cls k g : Nat) : (s.toWriter cls k).group g = s.group g := by
  have h : (s.toWriter cls k).units = s.units := loadWriters_units cls _ _
  simp only [State.group, h]

/-- A transfer of a direction is due on a group that serves: it is the oldest, and left 8 ns ago or more; `l` are the others. -/
structure Due (s : State) (toT : Bool) (group : Nat) (y : Transfer) (l : List Transfer) : Prop where
  out : s.isOut 3 group = false
  failed : (s.group group).failed = false
  oldest : takeTransfer toT (s.group group).flight = some (y, l)
  time : y.issued + ns 8 ≤ s.now

theorem Due.notEarly {s : State} {toT : Bool} {group : Nat} {y : Transfer} {l : List Transfer} (h : Due s toT group y l) :
    ¬ s.now < y.issued + ns 8 := Nat.not_lt.2 h.time

section
variable {t : Nat} {toT : Bool} {group : Nat} {y : Transfer} {l : List Transfer} {s : State} (h : Due (s.at_ t) toT group y l)
include h

/-- A good CRC: the transfer leaves its group and is delivered. -/
theorem exec_guylineDeliver_good : exec (.guylineDeliver t toT group true) s =
    .next (((s.at_ t).setGroup group { (s.at_ t).group group with flight := l }).deliver toT y.packet) := by
  simp [exec, execGuylineDeliver, h.out, h.failed, h.oldest, h.notEarly]

/-- A bad CRC after fewer than three replays: the transfer is sent again, and the replay is counted. -/
theorem exec_guylineDeliver_replay (ht : y.tries < 3) : exec (.guylineDeliver t toT group false) s =
    .next (((s.at_ t).setGroup group
      { flight := replaceTransfer y { y with tries := y.tries + 1, issued := (s.at_ t).now } ((s.at_ t).group group).flight,
        replays := ((s.at_ t).group group).replayed (s.at_ t).now,
        failed := decide (16 < (((s.at_ t).group group).replayed (s.at_ t).now).length) }).count (2848 + 2 * group) 1) := by
  have hmin : min (y.tries + 1) 4 = y.tries + 1 := by omega
  simp [exec, execGuylineDeliver, h.out, h.failed, h.oldest, h.notEarly, ht, hmin]

/-- A bad CRC after three replays: the group fails, its transfers still in flight. -/
theorem exec_guylineDeliver_third (ht : 3 ≤ y.tries) : ∃ x : Group, x.failed = true ∧
    exec (.guylineDeliver t toT group false) s = .next ((s.at_ t).setGroup group x) := by
  have hlast : ¬ y.tries < 3 := Nat.not_lt.2 ht
  exact ⟨{ flight := replaceTransfer y { y with tries := min (y.tries + 1) 4, issued := (s.at_ t).now } ((s.at_ t).group group).flight,
           replays := ((s.at_ t).group group).replays, failed := true }, rfl,
    by simp [exec, execGuylineDeliver, h.out, h.failed, h.oldest, h.notEarly, hlast]⟩

end

/-- A group that has failed delivers nothing. -/
theorem exec_guylineDeliver_failed {t : Nat} {toT : Bool} {group : Nat} {crcOk : Bool} {s : State}
    (h : ((s.at_ t).group group).failed = true) : exec (.guylineDeliver t toT group crcOk) s = .next (s.at_ t) := by
  simp only [exec, execGuylineDeliver, h, Bool.or_true, if_true]
  split
  · rfl
  · split <;> rfl

/-- A packet that reaches the F die and has no egress pass to make goes to the end of its port's egress pipe (R264). -/
theorem deliver_toPipe {s : State} {k : Nat} (hl : (s.pkt k).live = true) (hp : (s.pkt k).desc.egressPass = false) :
    s.deliver false k = s.setPipe (s.pkt k).desc.port (s.pipe (s.pkt k).desc.port ++ [k]) := by
  simp [State.deliver, State.toFdie, hl, hp]

/-- A packet that reaches the F die with an egress pass to make waits for it (R262). -/
theorem deliver_toEgressPass {s : State} {k : Nat} (hl : (s.pkt k).live = true) (hp : (s.pkt k).desc.egressPass = true) :
    s.deliver false k =
      ({ s with parse := { s.parse with egressWaiting := s.parse.egressWaiting ++ [k] } }).setPkt k { s.pkt k with egress := true } := by
  simp [State.deliver, State.toFdie, hl, hp]

/-- A packet that reaches the T die waits for a writer of its class (R276). -/
theorem deliver_toWriter {s : State} {k : Nat} (hl : (s.pkt k).live = true) :
    s.deliver true k = s.toWriter (s.classOf (s.pkt k)) k := by
  simp [State.deliver, hl]

/-- A packet that is gone is not live. -/
theorem dropPkt_pkt (s : State) (k j : Nat) : (s.dropPkt k).pkt j = if j = k then {} else s.pkt j := by
  by_cases h : j = k
  · subst h
    simp [State.pkt, State.dropPkt, look_drop_same]
  · simp [State.pkt, State.dropPkt, look_drop_ne _ h, h]

/-- The packets of a list of transfers are gone once each is dropped. -/
theorem dropPkts_not_live {l : List Transfer} {y : Transfer} (hy : y ∈ l) (s : State) :
    ((each (fun (x : Transfer) z => State.dropPkt z x.packet) l s).pkt y.packet).live = false := by
  refine each_reaches (fun _ => True) (P := fun z : State => (z.pkt y.packet).live = false) hy (fun _ _ _ _ => trivial)
    (fun z _ => ?_) (fun x _ z _ hz => ?_) trivial
  · simp [dropPkt_pkt]
  · rw [dropPkt_pkt]
    split
    · rfl
    · exact hz

/-! ### Failure, map-out and return (R22, R23) -/

/-- What is in flight on a group that fails is lost: counted, its packets gone. -/
def State.loseFlight (s : State) (group : Nat) : State :=
  each (fun (y : Transfer) z => State.dropPkt z y.packet) (s.group group).flight
    ((s.count (2849 + 2 * group) (s.group group).flight.length).setGroup group {})

theorem loseFlight_units (s : State) (group : Nat) :
    (s.loseFlight group).units = { s.units with groups := put s.units.groups group {} {} } := by
  refine (each_keeps _ State.units (fun (y : Transfer) z => (State.dropPkt_rest z y.packet).2.2.2.2.1) _ _).trans ?_
  simp [State.setGroup]

theorem loseFlight_group (s : State) (group : Nat) : (s.loseFlight group).group group = {} := by
  simp [State.group, loseFlight_units]

/-- GUYLINE_GROUP_FAILED of a group in service that has failed: its transfers are lost, it leaves service, and its work ends. -/
theorem exec_guylineGroupFailed {t group : Nat} {s : State} (hg : group < 16) (hout : (s.at_ t).isOut 3 group = false)
    (hf : ((s.at_ t).group group).failed = true) : ∃ lost detail, exec (.guylineGroupFailed t group) s =
      .next ((((s.at_ t).loseFlight group).groupOut group lost false).endWork 3 group .hwFault detail).restop := by
  have hr : ¬ 16 ≤ group := Nat.not_le.2 hg
  simp only [exec, execGuylineGroupFailed, hout, hf, hr, Bool.false_or, decide_false, Bool.not_true, if_false, Bool.false_eq_true]
  exact ⟨_, _, rfl⟩

/-- GUYLINE_MAPOUT_DRAINED of a group without transfers that is being mapped out: it leaves service, and its work ends. -/
theorem exec_guylineMapoutDrained {t group : Nat} {w : UnitWork} {s : State} (hw : (s.at_ t).workOf 3 group = some w)
    (hret : w.ret = false) (hfl : ((s.at_ t).group group).flight = []) :
    exec (.guylineMapoutDrained t group) s = .next (((s.at_ t).groupOut group 0 true).endWork 3 group .ok 0) := by
  simp [exec, execGuylineMapoutDrained, hw, hret, hfl]

/-- GUYLINE_ENTRY_RETURN of a stopped entry that has no transfer left on the group it names, while its home returns: it names its
home, the stops are made again, and the return ends with its last entry. -/
theorem exec_guylineEntryReturn {t : Nat} {toT : Bool} {idx : Nat} {w : UnitWork} {s : State} (hi : idx < 64)
    (hw : (s.at_ t).workOf 3 (idx % 16) = some w) (hret : w.ret = true) (hout : (s.at_ t).isOut 3 (idx % 16) = false)
    (haway : (s.at_ t).steerGroup toT idx ≠ idx % 16) (hstop : (s.at_ t).stopped toT idx = true)
    (hfl : (((s.at_ t).group ((s.at_ t).steerGroup toT idx)).flight.any fun x => x.toT = toT && x.entry = idx) = false) :
    exec (.guylineEntryReturn t toT idx) s = .next (State.settleReturn (idx % 16) ((s.at_ t).setSteer toT idx (idx % 16)).restop) := by
  have hr : ¬ 64 ≤ idx := Nat.not_le.2 hi
  simp only [exec, execGuylineEntryReturn, hw, hret, hout, haway, hstop, hfl, hr, Option.any_some, decide_false, Bool.not_true,
    Bool.or_false, if_false, Bool.false_eq_true]

/-- An entry that names its home, while that returns, is not stopped. -/
theorem mustStop_home {s : State} {toT : Bool} {i : Nat} {w : UnitWork} (hhome : s.steerGroup toT i = i % 16)
    (hw : s.workOf 3 (i % 16) = some w) (hret : w.ret = true) : s.mustStop toT i = false := by
  simp [State.mustStop, hhome, hw, hret]

theorem stopped_congr {a b : State} (h : a.units.steerStop = b.units.steerStop) (toT : Bool) (i : Nat) :
    a.stopped toT i = b.stopped toT i := by
  simp only [State.stopped, h]

theorem group_congr {a b : State} (h : a.units.groups = b.units.groups) (g : Nat) : a.group g = b.group g := by
  simp only [State.group, h]

theorem pkt_congr {a b : State} (h : a.pkts = b.pkts) (k : Nat) : a.pkt k = b.pkt k := by
  simp only [State.pkt, h]

/-! ### The rows -/

section
variable {t : Nat} {toT : Bool} {group : Nat} {y : Transfer} {l : List Transfer} {s : State}

/-- R17, R264: a packet without an egress pass leaves its group for its port's pipe. -/
theorem guylineDeliver_toPipe (h : Due (s.at_ t) false group y l) (hlive : ((s.at_ t).pkt y.packet).live = true)
    (hpass : ((s.at_ t).pkt y.packet).desc.egressPass = false) :
    ∃ s', exec (.guylineDeliver t false group true) s = .next s' ∧ (s'.group group).flight = l ∧
      s'.pipe ((s.at_ t).pkt y.packet).desc.port = (s.at_ t).pipe ((s.at_ t).pkt y.packet).desc.port ++ [y.packet] ∧
      s'.pkts = (s.at_ t).pkts ∧ ∀ g, g ≠ group → s'.group g = (s.at_ t).group g := by
  refine ⟨_, (exec_guylineDeliver_good h).trans (congrArg _ (deliver_toPipe hlive hpass)), ?_, look_put_same _ _ _ _, rfl, ?_⟩
  · exact congrArg Group.flight ((State.setGroup_group _ group _ group).trans (if_pos rfl))
  · exact fun g hg => (State.setGroup_group _ group _ g).trans (if_neg hg)

/-- R262: a packet with an egress pass leaves its group for that pass. -/
theorem guylineDeliver_toEgressPass (h : Due (s.at_ t) false group y l) (hlive : ((s.at_ t).pkt y.packet).live = true)
    (hpass : ((s.at_ t).pkt y.packet).desc.egressPass = true) :
    ∃ s', exec (.guylineDeliver t false group true) s = .next s' ∧ (s'.group group).flight = l ∧
      s'.parse.egressWaiting = (s.at_ t).parse.egressWaiting ++ [y.packet] ∧
      s'.pkt y.packet = { (s.at_ t).pkt y.packet with egress := true } := by
  refine ⟨_, (exec_guylineDeliver_good h).trans (congrArg _ (deliver_toEgressPass hlive hpass)), ?_, rfl, State.setPkt_same _ _ _⟩
  exact congrArg Group.flight ((State.setGroup_group _ group _ group).trans (if_pos rfl))

/-- R276: a packet leaves its group for the T die's writers of its class. -/
theorem guylineDeliver_toWriter (h : Due (s.at_ t) true group y l) (hlive : ((s.at_ t).pkt y.packet).live = true) :
    ∃ s', exec (.guylineDeliver t true group true) s = .next s' ∧ (s'.group group).flight = l ∧
      ∃ x : State, x.group group = { (s.at_ t).group group with flight := l } ∧
        s' = x.toWriter ((s.at_ t).classOf ((s.at_ t).pkt y.packet)) y.packet := by
  have hgroup := (State.setGroup_group (s.at_ t) group { (s.at_ t).group group with flight := l } group).trans (if_pos rfl)
  refine ⟨_, (exec_guylineDeliver_good h).trans (congrArg _ (deliver_toWriter hlive)), ?_, _, hgroup, rfl⟩
  rw [toWriter_group, hgroup]

/-- R22: what was in flight on a failed group is lost, and no entry names the group where another is healthy. -/
theorem guylineGroupFailed_lost (hg : group < 16) (hout : (s.at_ t).isOut 3 group = false)
    (hf : ((s.at_ t).group group).failed = true) (hother : OtherHealthy group (s.at_ t)) :
    ∃ s', exec (.guylineGroupFailed t group) s = .next s' ∧ (s'.group group).flight = [] ∧ s'.isOut 3 group = true ∧
      (∀ y, y ∈ ((s.at_ t).group group).flight → (s'.pkt y.packet).live = false) ∧
      ∀ i, i < 64 → s'.steerGroup true i ≠ group ∧ s'.steerGroup false i ≠ group := by
  obtain ⟨lost, detail, hexec⟩ := exec_guylineGroupFailed hg hout hf
  have hsteer : ∀ toT i, i < 64 → ((((s.at_ t).loseFlight group).groupOut group lost false).endWork 3 group .hwFault
      detail).restop.steerGroup toT i ≠ group := fun toT i hi => by
    rw [steerGroup_congr (b := ((s.at_ t).loseFlight group).groupOut group lost false) (by simp)]
    exact groupOut_steerGroup (hother.congr (by rw [loseFlight_units])) lost false toT hi
  refine ⟨_, hexec, ?_, ?_, fun y hy => ?_, fun i hi => ⟨hsteer true i hi, hsteer false i hi⟩⟩
  · rw [group_congr (b := (s.at_ t).loseFlight group) (by simp), loseFlight_group]
  · rw [isOut_congr (b := ((s.at_ t).loseFlight group).groupOut group lost false) (by simp), groupOut_isOut]
  · rw [pkt_congr (b := (s.at_ t).loseFlight group) (by simp)]
    exact dropPkts_not_live hy _

/-- R23: a drained map-out takes its group out of service and answers OK. -/
theorem guylineMapoutDrained_answered {w : UnitWork} (hw : (s.at_ t).workOf 3 group = some w) (hret : w.ret = false)
    (hfl : ((s.at_ t).group group).flight = []) :
    ∃ s', exec (.guylineMapoutDrained t group) s = .next s' ∧
      ∃ x : State, s' = x.answer w.cmd .ok 0 0 [] ∧ x.isOut 3 group = true := by
  obtain ⟨x, hx, hxout⟩ := endWork_of_workOf ((groupOut_workOf (s.at_ t) group 0 true).trans hw) .ok 0
  exact ⟨_, exec_guylineMapoutDrained hw hret hfl, x, hx, (isOut_congr hxout 3 group).trans (groupOut_isOut (s.at_ t) group 0 true)⟩

/-- R23: the return of one entry gives it its home, resumes its issuing and rewrites no other entry. -/
theorem guylineEntryReturn_home {idx : Nat} {w : UnitWork} (hi : idx < 64)
    (hw : (s.at_ t).workOf 3 (idx % 16) = some w) (hret : w.ret = true) (hout : (s.at_ t).isOut 3 (idx % 16) = false)
    (haway : (s.at_ t).steerGroup toT idx ≠ idx % 16) (hstop : (s.at_ t).stopped toT idx = true)
    (hfl : (((s.at_ t).group ((s.at_ t).steerGroup toT idx)).flight.any fun x => x.toT = toT && x.entry = idx) = false) :
    ∃ s', exec (.guylineEntryReturn t toT idx) s = .next s' ∧ s'.steerGroup toT idx = idx % 16 ∧ s'.stopped toT idx = false ∧
      ∀ i, i ≠ idx → s'.steerGroup toT i = (s.at_ t).steerGroup toT i := by
  have hsteer : ∀ i, (State.settleReturn (idx % 16) ((s.at_ t).setSteer toT idx (idx % 16)).restop).steerGroup toT i =
      if i = idx then idx % 16 else (s.at_ t).steerGroup toT i := fun i =>
    (steerGroup_congr (by simp) toT i).trans (setSteer_steerGroup _ toT idx (idx % 16) i)
  refine ⟨_, exec_guylineEntryReturn hi hw hret hout haway hstop hfl, ?_, ?_, fun i hne => ?_⟩
  · rw [hsteer, if_pos rfl]
  · rw [stopped_congr (b := ((s.at_ t).setSteer toT idx (idx % 16)).restop) (by simp), restop_stopped _ _ hi]
    refine mustStop_home ?_ ((workOf_congr (State.setSteer_rest _ _ _ _).2.1 3 _).trans hw) hret
    rw [setSteer_steerGroup, if_pos rfl]
  · rw [hsteer, if_neg hne]

end

/-- Settles O33: each clause is its row's rule above. That the oldest transfer of a direction is delivered whatever its entry is the
model's choice (log entry 122): R20 orders the transfers of one entry alone. -/
theorem guylineCompletes : Obligations.GuylineCompletes := by
  unfold Obligations.GuylineCompletes
  refine ⟨?_, ?_, ?_, ?_, ?_, ?_, ?_, ?_, ?_⟩
  · rintro toT group crcOk y l k p t s ⟨hout, hf, htake, htime, rfl, rfl, rfl, hlive, hpass, rfl⟩
    exact guylineDeliver_toPipe ⟨hout, hf, htake, htime⟩ hlive hpass
  · rintro toT group crcOk y l k t s ⟨hout, hf, htake, htime, rfl, rfl, rfl, hlive, hpass⟩
    exact guylineDeliver_toEgressPass ⟨hout, hf, htake, htime⟩ hlive hpass
  · rintro toT group crcOk t s hf
    exact ⟨_, exec_guylineDeliver_failed hf, rfl⟩
  · rintro toT group crcOk y l k t s ⟨hout, hf, htake, htime, rfl, rfl, rfl, hlive⟩
    exact guylineDeliver_toWriter ⟨hout, hf, htake, htime⟩ hlive
  · rintro toT group crcOk y l t s ⟨hout, hf, htake, htime, rfl, htries⟩
    refine ⟨_, exec_guylineDeliver_replay ⟨hout, hf, htake, htime⟩ htries, ?_⟩
    simp [State.setGroup_group]
  · rintro toT group crcOk y l t s ⟨hout, hf, htake, htime, rfl, htries⟩
    obtain ⟨x, hx, hexec⟩ := exec_guylineDeliver_third ⟨hout, hf, htake, htime⟩ htries
    exact ⟨_, hexec, by rw [State.setGroup_group, if_pos rfl, hx], rfl⟩
  · rintro group g t s ⟨hg, hout, hf, hg16, hne, hh⟩
    exact guylineGroupFailed_lost hg hout hf ⟨g, hg16, hne, hh⟩
  · rintro group w t s ⟨hw, hret, hfl⟩
    exact guylineMapoutDrained_answered hw hret hfl
  · rintro toT idx w g t s ⟨hi, hw, hret, hout, rfl, haway, hstop, hfl⟩
    exact guylineEntryReturn_home hi hw hret hout haway hstop hfl

end Sys2Proof.Machine
end


section
/-! SUPPORT. Resets, start-up and MODE_SET: what the boot check, the rows of CALIBRATE, a change of mode and the hold of the data plane
leave (02 R34, R38–R49), the proofs that start-up and MODE_SET complete, and the state in which a data-plane reset leaves a count. -/

namespace Sys2Proof.Machine

/-! ### The step (log entry 3) -/

/-- Settles O53. That an empty queue idles is the model's choice (log entry 3). -/
theorem stepRunsFront : Obligations.StepRunsFront := by
  unfold Obligations.StepRunsFront
  constructor
  · intro c rest s h
    simp only [step, h]
  · intro s h
    simp only [step, h]

/-! ### The mode (R34, R37) -/

/-- A change of mode notes the mode that it leaves and counts (R37). -/
theorem setMode_dev (s : State) (m : Mode) : (s.setMode m).dev =
    if s.dev.mode = m then s.dev
    else { s.dev with mode := m, prevMode := s.dev.mode, modeSeq := (s.dev.modeSeq + 1) % 256 } := by
  unfold State.setMode
  dsimp only
  split <;> simp

theorem setMode_dev_of_ne {s : State} {m : Mode} (h : s.dev.mode ≠ m) : (s.setMode m).dev =
    { s.dev with mode := m, prevMode := s.dev.mode, modeSeq := (s.dev.modeSeq + 1) % 256 } := by
  rw [setMode_dev, if_neg h]

@[simp] theorem setMode_mode (s : State) (m : Mode) : (s.setMode m).dev.mode = m := by
  rw [setMode_dev]
  split
  · assumption
  · rfl

@[simp] theorem setMode_bootDone (s : State) (m : Mode) : (s.setMode m).dev.bootDone = s.dev.bootDone := by
  rw [setMode_dev]
  split <;> rfl

/-! ### The boot check (R42–R46, R448, R451) -/

/-- The header of an image that the boot ROM accepts (R448). -/
structure Acceptable (s : State) (i : Image) : Prop where
  magic : i.magicOk = true
  format : i.format = 1
  signatures : i.signaturesOk = true
  hash : i.hashOk = true
  part : i.part = 0x5140
  stepping : i.stepping = 0xB0
  imageType : i.imageType = 1
  binding : i.binding = 0
  security : s.floor 1 ≤ i.security

theorem bootCode_acceptable {s : State} {i : Image} (h : Acceptable s i) : s.bootCode (some i) = 0 := by
  simp [State.bootCode, h.magic, h.format, h.signatures, h.hash, h.part, h.stepping, h.imageType, h.binding, h.security]

/-- An accepted image in a primary slot 0 that is GOOD boots, whatever the other slot holds (R451). -/
theorem bootFlash_primary {s : State} {b : BootRead} {i : Image} (hp : s.primary 1 = 0) (hg : (s.slot 1 0).state = .good)
    (hb : b.slot0 = some i) (hi : Acceptable s i) : s.bootFlash b = s.bootSlot 0 i := by
  simp [State.bootFlash, State.slotRead, hp, hg, hb, bootCode_acceptable hi]

/-- A slot that starts brings the device to CALIBRATE with the version of its image (R44). -/
theorem bootSlot_calibrate (s : State) (n : Nat) (i : Image) :
    (s.bootSlot n i).dev.mode = .calibrate ∧ (s.bootSlot n i).dev.bootDone = true ∧ (s.bootSlot n i).fw.version = i.version := by
  simp [State.bootSlot, State.startImage]

/-- With every core passing, none is mapped out. -/
theorem coresOut_pass (s : State) : s.coresOut [0, 1, 2, 3] = s := by
  simp [State.coresOut]

/-- What the boot ROM takes from the flash beside the images (R43). -/
def State.withBootRecords (s : State) (b : BootRead) : State :=
  { s with fw := { s.fw with topoRecord := b.topology, prov := b.provisioning } }

/-- The records that a boot takes from the flash bear on no check of an image. -/
theorem Acceptable.withBootRecords {s : State} {i : Image} (h : Acceptable s i) (b : BootRead) :
    Acceptable (s.withBootRecords b) i := { h with }

/-- BOOT_IMAGE_CHECK from flash, with every core passing, in a device that has not booted. -/
theorem exec_bootImageCheck_flash {t : Nat} {b : BootRead} {s : State} (hr : (s.at_ t).dev.inReset = false)
    (hd : (s.at_ t).dev.dead = false) (hm : (s.at_ t).dev.mode = .safe) (hb : (s.at_ t).dev.bootDone = false)
    (he : (s.at_ t).dev.bootError = 0) (hs : (s.at_ t).dev.straps.bootMode = 0) (hf : b.flashOk = true)
    (hc : b.coresOk = [0, 1, 2, 3]) :
    exec (.bootImageCheck t b) s = .next (((s.at_ t).withBootRecords b).bootFlash b) := by
  simp [exec, execBootImageCheck, hr, hd, hm, hb, he, hs, hf, hc, coresOut_pass, State.withBootRecords]

/-! ### The rows of CALIBRATE (R44, R46, R421) -/

/-- GUYLINE_TRAINING_DONE with every group trained. -/
theorem exec_guylineTrainingDone_pass {t : Nat} {s : State} (hs : (s.at_ t).starting = true)
    (hg : (s.at_ t).dev.guylineDone = false) : exec (.guylineTrainingDone t []) s =
    .next { (s.at_ t) with dev := { (s.at_ t).dev with guylineDone := true } } := by
  simp [exec, execGuylineTrainingDone, hs, hg]

/-- SERDES_CALIBRATION_DONE of a quad of network lanes that all pass. -/
theorem exec_serdesCalibrationDone_pass {t quad : Nat} {s : State} (hs : (s.at_ t).starting = true) (hq : quad < 64) :
    exec (.serdesCalibrationDone t false quad []) s = .next ((s.at_ t).quadDone false quad) := by
  have hr : ¬ 64 ≤ quad := Nat.not_le.2 hq
  simp [exec, execSerdesCalibrationDone, hs, hr]

/-- The last of the 64 quads ends the calibration of a topology without fabric lanes. -/
theorem quadDone_serdesDone {s : State} {q : Nat} (ht : s.dev.topology = 0)
    (hl : ∀ k, k < 64 → k ≠ q → look s.dev.serdesQuads k false = true) : (s.quadDone false q).dev.serdesDone = true := by
  have hall : ∀ k, k < 64 → look (put s.dev.serdesQuads q false true) k false = true := fun k hk => by
    rw [look_put]
    split
    · rfl
    · exact hl k hk ‹_›
  simpa [State.quadDone, ht] using hall

/-- A stack whose training has ended in its own row (R421). -/
theorem exec_dramTrainingDone_pass {t n repaired : Nat} {s : State} (h : (s.at_ t).inTraining n = true) :
    exec (.dramTrainingDone t n none repaired) s =
    .next ((s.at_ t).setStack n { (s.at_ t).stack n with trained := true, zeroed := false, repaired := repaired }) := by
  simp [exec, execDramTrainingDone, h]

/-- What follows from the stacks for dram_done changes no stack. -/
theorem settleDram_stack (s : State) (n : Nat) : s.settleDram.stack n = s.stack n := by
  unfold State.settleDram
  dsimp only
  split <;> rfl

/-- STACK_ZEROING_DONE at start-up: the stack serves. -/
theorem exec_stackZeroingDone_calibrate {t n : Nat} {s : State} (hn : n < 10) (ht : ((s.at_ t).stack n).trained = true)
    (hz : ((s.at_ t).stack n).zeroed = false) (hw : ((s.at_ t).stack n).work = none) (hm : (s.at_ t).dev.mode = .calibrate)
    (hh : (s.at_ t).healthy 9 n = true) : exec (.stackZeroingDone t n) s = .next
      ((s.at_ t).setStack n { (s.at_ t).stack n with state := .active, zeroed := true, lastRequest := (s.at_ t).now }).settleDram := by
  have hr : ¬ 10 ≤ n := Nat.not_le.2 hn
  simp [exec, execStackZeroingDone, hr, ht, hz, hw, hm, hh]

/-- TRAINING_TIMEOUT of a Guyline group in service. -/
theorem exec_trainingTimeout_group {t n : Nat} {s : State} (hs : (s.at_ t).starting = true)
    (hg : (s.at_ t).dev.guylineDone = false) (hn : n < 16) (hh : (s.at_ t).healthy 3 n = true) :
    exec (.trainingTimeout t 3 n) s = .next ((s.at_ t).groupOut n 0 false) := by
  simp [exec, execTrainingTimeout, hs, hg, hn, hh]

/-! ### The configuration and STANDBY (R44 steps 10 and 11, R46, R461) -/

/-- The free-cell rings that CONFIG_APPLY builds: in the near buffer, and on the healthy of stacks 4 and 7 (log entry 30). -/
def State.buildRings (s : State) : State :=
  { s with buf := { s.buf with nearRing := { built := true }, farRing := { built := decide (([4, 7].filter fun n => s.healthy 9 n) ≠ []) },
                               farCopies := [4, 7].filter fun n => s.healthy 9 n } }

theorem bestCopy_empty {s : State} (h : s.fw.copies = []) : s.bestCopy = none := by
  simp [State.bestCopy, h]

/-- Without a stored configuration, firmware starts with none: the buffer and the firmware part stay. -/
theorem configStart_empty {s : State} (h : s.fw.copies = []) :
    s.configStart.buf = s.buf ∧ s.configStart.fw = s.fw := by
  simp [State.configStart, bestCopy_empty h]

/-- With no profile in the running slot, start-up loads none. -/
theorem bootProfile_empty {s : State} (h : (s.slot 2 (s.running 2)).state = .empty) : s.bootProfile = s := by
  simp [State.bootProfile, h]

/-- The slots and the running slots are read from the firmware part. -/
theorem runningSlot_congr {a b : State} (h : a.fw = b.fw) (ty : Nat) : a.slot ty (a.running ty) = b.slot ty (b.running ty) := by
  simp only [State.slot, State.running, h]

/-- CONFIG_APPLY at start-up, steps 6 to 9 done, with neither a stored configuration nor a stored profile. -/
theorem exec_configApply_empty {t : Nat} {s : State} (hm : (s.at_ t).dev.mode = .calibrate) (hd : (s.at_ t).dev.dramDone = true)
    (hg : (s.at_ t).dev.guylineDone = true) (hs : (s.at_ t).dev.serdesDone = true) (hc : (s.at_ t).dev.configDone = false)
    (hz : (s.at_ t).dev.zeroing = none) (hcopies : (s.at_ t).fw.copies = [])
    (hslot : ((s.at_ t).slot 2 ((s.at_ t).running 2)).state = .empty) : exec (.configApply t) s =
    .next { (s.at_ t).buildRings.configStart with dev := { (s.at_ t).buildRings.configStart.dev with configDone := true } } := by
  obtain ⟨-, hfw⟩ := configStart_empty (s := (s.at_ t).buildRings) hcopies
  have hbest : (s.at_ t).buildRings.configStart.bestCopy = none := bestCopy_empty (by rw [hfw]; exact hcopies)
  have hprofile : (s.at_ t).buildRings.configStart.bootProfile = (s.at_ t).buildRings.configStart :=
    bootProfile_empty (by rw [runningSlot_congr hfw]; exact hslot)
  have hrun : ¬ ((decide ((s.at_ t).dev.mode ≠ .calibrate) || !(s.at_ t).dev.dramDone || !(s.at_ t).dev.guylineDone ||
      !(s.at_ t).dev.serdesDone || (s.at_ t).dev.configDone) = true) := by simp [hm, hd, hg, hs, hc]
  simp only [State.buildRings] at hbest hprofile ⊢
  simp only [exec, execConfigApply, hz, Option.isSome_none, Bool.false_eq_true, if_false]
  rw [if_neg hrun, hbest, hprofile]

/-- STANDBY_ENTRY at start-up. -/
theorem exec_standbyEntry_startup {t : Nat} {s : State} (hm : (s.at_ t).dev.mode = .calibrate)
    (hc : (s.at_ t).dev.configDone = true) (hz : (s.at_ t).dev.zeroing = none) : exec (.standbyEntry t) s =
    .next (State.setMode { (s.at_ t) with dev := { (s.at_ t).dev with
      startMs := min (((s.at_ t).now - (s.at_ t).dev.startOrigin) / ms 1) 0xFFFF, ready := true, zeroing := none,
      dispatchOff := true, schedOff := true } } .standby) := by
  simp [exec, execStandbyEntry, hm, hc, hz]

theorem starting_of {s : State} (hm : s.dev.mode = .calibrate) (hz : s.dev.zeroing = none) : s.starting = true := by
  simp [State.starting, hm, hz]

/-- Settles O2: each clause is its row's rule above. That the copies of the far ring are those on the healthy of stacks 4 and 7 is the
model's choice (log entry 30). -/
theorem startupCompletes : Obligations.StartupCompletes := by
  unfold Obligations.StartupCompletes
  refine ⟨?_, ?_, ?_, ?_, ?_, ?_, ?_, ?_⟩
  · rintro boot i t s ⟨hr, hd, hm, hb, he, hs, hf, hc, hp, hg, hi,
      hmagic, hformat, hsig, hhash, hpart, hstep, htype, hbind, hsec⟩
    refine ⟨_, exec_bootImageCheck_flash hr hd hm hb he hs hf hc, ?_⟩
    have hok : Acceptable (s.at_ t) i := ⟨hmagic, hformat, hsig, hhash, hpart, hstep, htype, hbind, hsec⟩
    rw [bootFlash_primary (s := (s.at_ t).withBootRecords boot) hp hg hi (hok.withBootRecords boot)]
    exact bootSlot_calibrate _ 0 i
  · rintro _ t s ⟨hm, hz, hg, rfl⟩
    exact ⟨_, exec_guylineTrainingDone_pass (starting_of hm hz) hg, rfl⟩
  · rintro _ quad _ t s ⟨hm, hz, rfl, hq, rfl⟩
    exact ⟨_, exec_serdesCalibrationDone_pass (starting_of hm hz) hq, rfl, rfl, quadDone_serdesDone⟩
  · rintro n _ repaired t s ⟨h, rfl⟩
    exact ⟨_, exec_dramTrainingDone_pass h, rfl⟩
  · rintro n t s ⟨hn, ht, hz, hw, hm, hh⟩
    refine ⟨_, exec_stackZeroingDone_calibrate hn ht hz hw hm hh, ?_⟩
    simp [settleDram_stack]
  · rintro _ n t s ⟨rfl, hm, hz, hg, hn, hh⟩
    exact ⟨_, exec_trainingTimeout_group (starting_of hm hz) hg hn hh, rfl⟩
  · rintro t s ⟨hm, hd, hg, hs, hc, hz, hcopies, hslot⟩
    obtain ⟨hbuf, -⟩ := configStart_empty (s := (s.at_ t).buildRings) hcopies
    exact ⟨_, exec_configApply_empty hm hd hg hs hc hz hcopies hslot, rfl, congrArg Bufs.nearRing hbuf, congrArg Bufs.farCopies hbuf⟩
  · rintro t s ⟨hm, hc, hz⟩
    refine ⟨_, exec_standbyEntry_startup hm hc hz, ?_⟩
    simp [setMode_dev_of_ne, hm]

/-! ### MODE_SET (R34, R38–R41) -/

/-- A MODE_SET that has come to its turn: sent by the principal, reserved bytes 0, and no other waits for a hold. -/
structure ModeSetDue (s : State) (c : Cmd) : Prop where
  ready : ready s c 0x0001 .d0 = true
  principal : c.host = s.dom.principal
  reserved : c.zeros 17 47 = none
  free : (s.dev.hold.any fun h => h.mode.isSome) = false

section
variable {t : Nat} {c : Cmd} {s : State} (h : ModeSetDue (s.at_ t) c)
include h

/-- MODE_SET to SERVICE from STANDBY, the smallest set being met: the data plane resumes. -/
theorem exec_modeSet_release (ht : c.u8 16 = 3) (hm : (s.at_ t).dev.mode = .standby) (hs : (s.at_ t).serviceable = true) :
    exec (.modeSet t c) s = .next ((s.at_ t).release.answer c .ok 0 (s.at_ t).release.dev.mode.code []) := by
  simp only [exec, execModeSet]
  rw [command_ok _ _ _ _ _ _ _ h.ready (by simp [need, at_, ht, hs, h.principal, h.reserved, h.free])]
  simp [ht, hm, Mode.already, Mode.code]

/-- MODE_SET to STANDBY from a mode of service: a hold begins, and the reply waits for its end. -/
theorem exec_modeSet_hold (ht : c.u8 16 = 2) (hm : (s.at_ t).dev.mode = .service ∨ (s.at_ t).dev.mode = .degraded) :
    exec (.modeSet t c) s =
      .next (((s.at_ t).beginHold fun h => { h with mode := some c, deadline := (s.at_ t).now + us 100 }).keepWorking c) := by
  have hup : (s.at_ t).dev.mode ≠ .standby := by rcases hm with hm | hm <;> simp [hm]
  have hto : (s.at_ t).dev.mode.already 2 = false := by rcases hm with hm | hm <;> rw [hm] <;> rfl
  simp only [exec, execModeSet]
  rw [command_ok _ _ _ _ _ _ _ h.ready (by simp [need, at_, ht, hup, h.principal, h.reserved, h.free])]
  simp [ht, hup, hto]

/-- MODE_SET to the mode that the device is in, or to SERVICE from DEGRADED: an answer alone. -/
theorem exec_modeSet_already (ht : c.u8 16 = 2 ∨ c.u8 16 = 3) (hm : (s.at_ t).dev.mode.already (c.u8 16) = true) :
    exec (.modeSet t c) s = .next ((s.at_ t).answer c .ok 0 (s.at_ t).dev.mode.code []) := by
  simp only [exec, execModeSet]
  rw [command_ok _ _ _ _ _ _ _ h.ready (by simp [need, at_, ht, hm, h.principal, h.reserved, h.free])]
  simp [hm]

end

/-- A MODE_SET whose target the device already has (R41). -/
theorem already_of {m : Mode} {target : Nat}
    (h : (target = 2 ∧ m = .standby) ∨ (target = 3 ∧ (m = .service ∨ m = .degraded))) : m.already target = true := by
  rcases h with ⟨rfl, rfl⟩ | ⟨rfl, rfl | rfl⟩ <;> rfl

/-! ### The end of a hold (R38, R108) -/

/-- The data plane has stopped, and no hold is in progress any more. -/
def State.endHold (s : State) : State := { s with dev := { s.dev with schedOff := true, hold := none } }

/-- A hold is over when the data plane is quiet or its 100 µs have passed. -/
theorem hold_over {quiet : Bool} {now deadline : Nat} (h : quiet = true ∨ deadline ≤ now) :
    (!quiet && decide (now < deadline)) = false := by
  rcases h with rfl | h
  · rfl
  · simp [h]

section
variable {t : Nat} {hd : Hold} {s : State} (hh : (s.at_ t).dev.hold = some hd)
include hh

/-- DATA_PLANE_HOLD_DONE of a MODE_SET: the mode is STANDBY and the reply is posted. -/
theorem exec_dataPlaneHoldDone_mode {c : Cmd} (ho : (s.at_ t).quiet = true ∨ hd.deadline ≤ (s.at_ t).now)
    (hc : hd.mode = some c) (hs : hd.scan = none) :
    exec (.dataPlaneHoldDone t) s = .next (((s.at_ t).endHold.setMode .standby).answer c .ok 0 2 []) := by
  simp [exec, execDataPlaneHoldDone, hh, hold_over ho, hc, hs, State.endHold, Mode.code]

/-- DATA_PLANE_HOLD_DONE for an internal-scan session alone: it opens, and the mode stays. -/
theorem exec_dataPlaneHoldDone_scan {x : ScanDue} (ho : (s.at_ t).quiet = true ∨ hd.deadline ≤ (s.at_ t).now)
    (hc : hd.mode = none) (hs : hd.scan = some x) :
    exec (.dataPlaneHoldDone t) s = .next ((s.at_ t).endHold.openScan x) := by
  simp [exec, execDataPlaneHoldDone, hh, hold_over ho, hc, hs, State.endHold]

/-- DATA_PLANE_HOLD_DONE while the data plane still moves packets and the hold has time left. -/
theorem exec_dataPlaneHoldDone_early (hq : (s.at_ t).quiet = false) (ht : (s.at_ t).now < hd.deadline) :
    exec (.dataPlaneHoldDone t) s = .next (s.at_ t) := by
  simp [exec, execDataPlaneHoldDone, hh, hq, ht]

end

/-- DATA_PLANE_HOLD_DONE with no hold in progress. -/
theorem exec_dataPlaneHoldDone_none {t : Nat} {s : State} (hh : (s.at_ t).dev.hold = none) :
    exec (.dataPlaneHoldDone t) s = .next (s.at_ t) := by
  simp [exec, execDataPlaneHoldDone, hh]

/-- Settles O3: each clause is its row's rule above. -/
theorem modeSetCompletes : Obligations.ModeSetCompletes := by
  unfold Obligations.ModeSetCompletes
  refine ⟨?_, ?_, ?_, ?_, ?_, ?_⟩
  · rintro c t s ⟨hr, hp, hz, hf, ht, hm, hs⟩
    exact ⟨_, exec_modeSet_release ⟨hr, hp, hz, hf⟩ ht hm hs, rfl⟩
  · rintro c t s ⟨hr, hp, hz, hf, ht, hm⟩
    exact ⟨_, exec_modeSet_hold ⟨hr, hp, hz, hf⟩ ht hm, rfl⟩
  · rintro c t s ⟨hr, hp, hz, hf, hm⟩
    exact ⟨_, exec_modeSet_already ⟨hr, hp, hz, hf⟩ (hm.imp And.left And.left) (already_of hm), rfl⟩
  · rintro hd c t s ⟨hh, ho, hm, hc, hs⟩
    have hdev := setMode_dev_of_ne (s := (s.at_ t).endHold) hm
    exact ⟨_, exec_dataPlaneHoldDone_mode hh ho hc hs, (s.at_ t).endHold.setMode .standby, setMode_mode _ _,
      congrArg Dev.schedOff hdev, congrArg Dev.hold hdev, congrArg Dev.prevMode hdev, rfl⟩
  · rintro hd x t s ⟨hh, ho, hc, hs⟩
    exact ⟨_, exec_dataPlaneHoldDone_scan hh ho hc hs, rfl⟩
  · rintro t s (hh | ⟨hd, hh, hq, ht⟩)
    · exact ⟨_, exec_dataPlaneHoldDone_none hh, rfl⟩
    · exact ⟨_, exec_dataPlaneHoldDone_early hh hq ht, rfl⟩

/-! ### A data-plane reset with a Guyline group out (R22, R47, R431) -/

/-- A device in DEGRADED service, host 0 the principal with its link trained, and Guyline group 0 mapped out (R22). -/
def groupZeroOut : State :=
  { dev := { mode := .degraded, dispatchOff := false, schedOff := false, ready := true },
    units := { out := [(3 * 65536, true)] },
    host := { ports := [(0, { link := true, cxl := true })] },
    dom := { domains := [(0, { live := true, host := some 0 })] } }

/-- Its data-plane reset puts the steering tables back to their home entries, spreads those of the lost group after the counters are
cleared, and so leaves the 8 rewrites in counter 2,881 (R431). -/
theorem devResetDataPlane_counts_rewrites :
    ∃ s', exec (.devResetDataPlane 0 0 0x0A5A0002) groupZeroOut = .next s' ∧ s'.lant = [(2881, { value := 8 })] :=
  ⟨_, rfl, rfl⟩

/-- Refutes O1: the clause of a data-plane reset says that no Lantern counter is left with a count, but where a Guyline group is out the
reset rewrites its steering entries after it has cleared the counters, and each rewrite counts in counter 2,881. -/
theorem not_resetsComplete : ¬ Obligations.ResetsComplete := by
  unfold Obligations.ResetsComplete
  rintro ⟨-, -, -, -, hreset, -⟩
  obtain ⟨s', hexec, -, -, -, -, -, -, -, -, hlant, -⟩ := hreset 0 0x0A5A0002 0 groupZeroOut (by decide)
  obtain ⟨s'', hrun, hcount⟩ := devResetDataPlane_counts_rewrites
  obtain rfl : s' = s'' := Host.Outcome.next.inj (hexec.symm.trans hrun)
  rw [hcount] at hlant
  exact absurd hlant (by decide)

end Sys2Proof.Machine
end

section
/-! SUPPORT. The frame of a command row (R74): every command row is `State.command` with its own checks and effect, and the proof that a
command which fails the first checks is answered with the first failed one. -/

namespace Sys2Proof.Machine

/-! ### Bulk operations and the buckets they hold (R198) -/

theorem dma_of_lockedBucket {s : State} {k b : Nat} (h : s.lockedBucket k b = true) : s.tables.dma ≠ none := by
  intro hd
  simp [State.lockedBucket, hd] at h

theorem dma_of_keyWaits {s : State} {k key : Nat} (h : s.keyWaits k key = true) : s.tables.dma ≠ none := by
  obtain ⟨b, -, hb⟩ := List.any_eq_true.1 h
  exact dma_of_lockedBucket hb

theorem dma_of_removeWaits {s : State} {k p : Nat} (h : s.removeWaits k p = true) : s.tables.dma ≠ none := by
  obtain ⟨b, -, hb⟩ := List.any_eq_true.1 h
  exact dma_of_lockedBucket hb

theorem dma_of_tableBusy {s : State} {k : Nat} (h : s.tableBusy k = true) : s.tables.dma ≠ none := by
  intro hd
  simp [State.tableBusy, hd] at h

/-! ### Every command row is `State.command` -/

/-- A command row at the instant `t` carries out `State.command`, with the checks and the effect that are its own, or it is a table command
that waits for a bulk operation and changes nothing. -/
def RunsCommand (i : Instr) (t code : Nat) (c : Cmd) (s : State) : Prop :=
  (∃ who errs done res, exec i s = .next ((s.at_ t).command code c who errs done res)) ∨
    (0x0502 ≤ code ∧ code ≤ 0x0508 ∧ (s.at_ t).tables.dma ≠ none ∧ exec i s = .next (s.at_ t))

/-- A table command that waits while `waits` holds. -/
theorem RunsCommand.table {i : Instr} {t code : Nat} {c : Cmd} {s : State} {waits : Prop} [Decidable waits] {who : Who}
    {errs : List (Option Err)} {done : Done} (hlo : 0x0502 ≤ code) (hhi : code ≤ 0x0508) (hw : waits → (s.at_ t).tables.dma ≠ none)
    (h : exec i s = .next (if waits then s.at_ t else (s.at_ t).command code c who errs done)) : RunsCommand i t code c s := by
  by_cases hb : waits
  · exact .inr ⟨hlo, hhi, hw hb, by rw [h, if_pos hb]⟩
  · exact .inl ⟨who, errs, done, 0, by rw [h, if_neg hb]⟩

theorem command_runs {i : Instr} {t code : Nat} {c : Cmd} (h : i.command = some (t, code, c)) (s : State) :
    RunsCommand i t code c s := by
  cases i <;> cases h
  case tableInsert => exact .table (by decide) (by decide) dma_of_keyWaits rfl
  case tableUpdate => exact .table (by decide) (by decide) dma_of_keyWaits rfl
  case tableDelete =>
    refine .table (by decide) (by decide) (fun hw => ?_) rfl
    obtain ⟨p, -, hp⟩ := (Option.any_eq_true _ _).1 hw
    exact dma_of_removeWaits hp
  case tableFlushPort => exact .table (by decide) (by decide) dma_of_tableBusy rfl
  case tableDma => exact .table (by decide) (by decide) Option.isSome_iff_ne_none.1 rfl
  case fwDeliver =>
    by_cases hop : c.u8 29 = 1
    · exact .inl ⟨_, _, _, _, congrArg Host.Outcome.next (if_pos hop)⟩
    · exact .inl ⟨_, _, _, _, congrArg Host.Outcome.next (if_neg hop)⟩
  all_goals exact .inl ⟨_, _, _, _, rfl⟩

/-! ### The first checks (R74 steps 1 to 4) -/

theorem firstErr_append (l m : List (Option Err)) : firstErr (l ++ m) = (firstErr l).or (firstErr m) := by
  induction l with
  | nil => rfl
  | cons e t ih => cases e <;> simp [firstErr, ih]

theorem firstErr_singleton (e : Option Err) : firstErr [e] = e := by cases e <;> rfl

theorem need_eq_some {ok : Bool} {e e' : Err} : need ok e = some e' ↔ ok = false ∧ e' = e := by
  cases ok <;> simp [need, eq_comm]

/-- The checks of the entry's form and of its domain come first, whoever may use the opcode. -/
theorem frameErr_eq (x : Started) (c : Cmd) (who : Who) :
    frameErr x c who = (firstErr [at_ 2 (c.flags < 8), at_ 3 (c.domByte < 16), need x.held denied]).or
      (firstErr [need (who = .any || c.domain = 0) denied, need (modeAccepts x.mode c) { status := .wrongMode }]) :=
  firstErr_append [_, _, _] [_, _]

theorem mem_of_firstErr {l : List (Option Err)} {e : Err} (h : firstErr l = some e) : some e ∈ l := by
  induction l with
  | nil => cases h
  | cons a t ih =>
    cases a with
    | none => exact List.mem_cons_of_mem _ (ih h)
    | some a => exact h ▸ List.mem_cons_self

/-- A DENIED of the first checks has no detail (R78). -/
theorem frameErr_denied {x : Started} {c : Cmd} {who : Who} {e : Err} (h : frameErr x c who = some e) (hd : e.status = .denied) :
    e.detail = 0 := by
  have hmem := mem_of_firstErr h
  simp only [List.mem_cons, List.not_mem_nil, or_false, eq_comm (a := some e), at_, need_eq_some] at hmem
  obtain ⟨-, rfl⟩ | ⟨-, rfl⟩ | ⟨-, rfl⟩ | ⟨-, rfl⟩ | ⟨-, rfl⟩ := hmem
  · cases hd
  · cases hd
  · rfl
  · rfl
  · rfl

/-- Where the opcode is D0's, the first failed check is the one that any domain gets, or, where that is the mode, that the domain is not
D0. -/
theorem frameErr_who {x : Started} {c : Cmd} {e : Err} (who : Who) (h : frameErr x c .any = some e) :
    frameErr x c who = some e ∨ (e.status = .wrongMode ∧ frameErr x c who = some denied) := by
  cases who with
  | any => exact .inl h
  | d0 =>
    rw [frameErr_eq] at h ⊢
    cases hform : firstErr [at_ 2 (c.flags < 8), at_ 3 (c.domByte < 16), need x.held denied] with
    | some a => exact .inl (by rw [hform] at h; exact h)
    | none =>
      have hmode : need (modeAccepts x.mode c) { status := .wrongMode } = some e := by
        rw [hform] at h
        exact (firstErr_singleton _).symm.trans h
      by_cases hd : c.domain = 0
      · exact .inl (by rw [hd, hmode]; rfl)
      · exact .inr ⟨by rw [(need_eq_some.1 hmode).2], by simp [firstErr, need, hd]⟩

/-- The first failed check of a command row is that of `who`, whatever the row's own checks are. -/
theorem command_frameErr {s : State} {code : Nat} {c : Cmd} {who : Who} {errs : List (Option Err)} {done : Done} {res : Nat}
    {x : Started} {e : Err} (hx : s.startedAs c = some x) (hc : c.opcode = code) (hw : x.working = false) (hb : s.basecampUp = true)
    (hq : (s.waits c && !x.busy) = false) (he : frameErr x c who = some e) :
    s.command code c who errs done res = s.answer c e.status e.detail (errResult e res) [] :=
  command_err s code c who errs done res x e hx hc hw hb hq (by rw [he]; rfl)

/-- A command that has not started does nothing (log entries 2 and 34). -/
theorem command_idle {s : State} {code : Nat} {c : Cmd} (who : Who) (errs : List (Option Err)) (done : Done) (res : Nat)
    (hx : s.startedAs c = none) : s.command code c who errs done res = s := by
  simp [State.command, hx]

/-- Settles O58. Every command row runs its command through `State.command`, TABLE_DMA where no bulk operation holds a bucket
(`command_runs`); the failed check of R74 that does not turn on the row comes first, and only the mode's answer turns on it
(`frameErr_who`). That a command that has not started does nothing rests on log entries 2 and 34. -/
theorem checksAnswer : Obligations.ChecksAnswer := by
  unfold Obligations.ChecksAnswer
  refine ⟨?_, ?_⟩
  · intro i t code c s x e hi hx hc hw hb hq hdma he
    obtain ⟨who, errs, done, res, hrun⟩ | ⟨hlo, hhi, hd, -⟩ := command_runs hi s
    · have answered {e' : Err} (h : frameErr x c who = some e') :
          exec i s = .next ((s.at_ t).answer c e'.status e'.detail (errResult e' res) []) := by
        rw [hrun, command_frameErr hx hc hw hb hq h]
      obtain h | ⟨hmode, h⟩ := frameErr_who who he
      · exact ⟨_, _, _, answered h, fun _ => ⟨rfl, rfl⟩, fun hm => .inl hm,
          fun hden => ⟨frameErr_denied he hden, if_pos hden⟩⟩
      · exact ⟨_, _, _, answered h, fun hne => absurd hmode hne, fun _ => .inr rfl, fun _ => ⟨rfl, rfl⟩⟩
    · exact absurd (hdma hlo hhi) hd
  · intro i t code c s hi hx
    obtain ⟨who, errs, done, res, hrun⟩ | ⟨-, -, -, hrun⟩ := command_runs hi s
    · rw [hrun, command_idle who errs done res hx]
    · exact hrun

end Sys2Proof.Machine
end

section
/-! SUPPORT. States that differ in one part alone: what a row keeps of the state beside the part that it acts on. -/

namespace Sys2Proof.Machine

/-- The state beside its instant, its host side and one part: these are put to their first values. -/
def State.beside (p : Part) (s : State) : State :=
  let s := { s with now := 0, host := {} }
  match p with
  | .free => { s with free := 0 }
  | .dev => { s with dev := {} }
  | .units => { s with units := {} }
  | .host => s
  | .dom => { s with dom := {} }
  | .lant => { s with lant := [] }
  | .ports => { s with ports := {} }
  | .eli => { s with eli := {} }
  | .pkts => { s with pkts := [] }
  | .nextPkt => { s with nextPkt := 0 }
  | .parse => { s with parse := {} }
  | .tables => { s with tables := {} }
  | .assoc => { s with assoc := {} }
  | .eng => { s with eng := {} }
  | .scout => { s with scout := {} }
  | .act => { s with act := {} }
  | .buf => { s with buf := {} }
  | .tm => { s with tm := {} }
  | .pol => { s with pol := {} }
  | .fab => { s with fab := {} }
  | .cipher => { s with cipher := {} }
  | .pon => { s with pon := {} }
  | .dram => { s with dram := [] }
  | .fw => { s with fw := {} }
  | .time => { s with time := {} }

theorem beside_pending (p : Part) (s : State) : (s.beside p).pending = s.pending := by cases p <;> rfl

theorem same_beside {p q : Part} (hp : q ≠ p) (hh : q ≠ .host) (s : State) : q.same (s.beside p) s := by
  cases p <;> cases q <;> try contradiction
  all_goals rfl

/-- A part that two states share with a third is the same in both. -/
theorem Part.same_of_same {q : Part} {s s' z : State} (h : q.same z s) (h' : q.same z s') : q.same s s' := by
  cases q <;> exact Eq.trans h' h.symm

/-- Two states that differ at most in the instant, the host side and the part `p`. -/
def Within (p : Part) (s s' : State) : Prop := s'.beside p = s.beside p

namespace Within

variable {p : Part} {s a b : State}

theorem refl (p : Part) (s : State) : Within p s s := rfl

theorem trans (h : Within p s a) (k : Within p a b) : Within p s b := Eq.trans k h

theorem at_ (p : Part) (s : State) (t : Nat) : Within p s (s.at_ t) := by cases p <;> rfl

/-- What changes the host side alone stays within every part. -/
theorem of_onlyHost (h : OnlyHost s a) : Within p s a := by
  rw [h]
  cases p <;> rfl

/-! The last update of a chain writes the part itself. -/

theorem set_host {x : Hosts} (h : Within .host s a) : Within .host s { a with host := x } := h
theorem set_dom {x : Doms} (h : Within .dom s a) : Within .dom s { a with dom := x } := h
theorem set_tables {x : Tables} (h : Within .tables s a) : Within .tables s { a with tables := x } := h
theorem set_assoc {x : Assoc} (h : Within .assoc s a) : Within .assoc s { a with assoc := x } := h
theorem set_scout {x : Scout} (h : Within .scout s a) : Within .scout s { a with scout := x } := h
theorem set_buf {x : Bufs} (h : Within .buf s a) : Within .buf s { a with buf := x } := h
theorem set_tm {x : Tm} (h : Within .tm s a) : Within .tm s { a with tm := x } := h
theorem set_pol {x : Police} (h : Within .pol s a) : Within .pol s { a with pol := x } := h
theorem set_fab {x : Fab} (h : Within .fab s a) : Within .fab s { a with fab := x } := h
theorem set_pon {x : Pon} (h : Within .pon s a) : Within .pon s { a with pon := x } := h
theorem set_time {x : TimeBase} (h : Within .time s a) : Within .time s { a with time := x } := h

/-- The last update of a chain stays within the part, and so do those before it. -/
theorem after (k : Within p a b) (h : Within p s a) : Within p s b := h.trans k

/-- The last update of a chain is one of the host side. -/
theorem host (k : OnlyHost a b) (h : Within p s a) : Within p s b := h.trans (of_onlyHost k)

theorem ite {c : Prop} [Decidable c] (h : Within p s a) (k : Within p s b) : Within p s (if c then a else b) := by
  split
  · exact h
  · exact k

theorem each {α : Type} {f : α → State → State} {l : List α} (hf : ∀ a s, Within p s (f a s)) (h : Within p s a) :
    Within p s (Sys2Proof.each f l a) :=
  h.trans (each_keeps f (State.beside p) hf l a)

theorem done_ite {c : Prop} [Decidable c] {d e : Done} (h : Within p s d.s) (k : Within p s e.s) :
    Within p s (if c then d else e).s := by
  split
  · exact h
  · exact k

/-- A command stays within the part that its effect acts on (R79). -/
theorem command {done : Done} {code : Nat} {c : Cmd} {who : Who} {errs : List (Option Err)} {res : Nat} (hs : Within p s a)
    (hd : Within p s done.s) : Within p s (a.command code c who errs done res) := by
  unfold State.command
  split
  · exact hs
  · refine ite hs ?_
    split
    · exact host (answer_onlyHost _ _ _ _ _ _) hs
    · exact ite (host (keepWorking_onlyHost _ _) hd) (host (answer_onlyHost _ _ _ _ _ _) hd)

/-- What differs within a part is the same in every other part, and the commands that wait stay. -/
theorem same (h : Within p s a) : a.pending = s.pending ∧ ∀ q : Part, q ≠ p → q ≠ .host → q.same s a := by
  refine ⟨?_, fun q hp hh => ?_⟩
  · rw [← beside_pending p a, ← beside_pending p s, h]
  · exact Part.same_of_same (h ▸ same_beside hp hh s) (same_beside hp hh a)

end Within

/-- The row answers a next state that differs from the state before it within `p`. -/
def KeepsBeside (p : Part) (i : Instr) (s : State) : Prop := ∃ s', exec i s = .next s' ∧ Within p s s'

theorem KeepsBeside.of_next {p : Part} {i : Instr} {s s' : State} (h : exec i s = .next s') (k : Within p s s') : KeepsBeside p i s :=
  ⟨s', h, k⟩

/-- A command row whose effect stays within `p`. -/
theorem KeepsBeside.of_command {p : Part} {i : Instr} {t code : Nat} {c : Cmd} {who : Who} {errs : List (Option Err)} {done : Done}
    {res : Nat} {s : State} (h : exec i s = .next ((s.at_ t).command code c who errs done res)) (k : Within p s done.s) :
    KeepsBeside p i s :=
  ⟨_, h, .command (.at_ p s t) k⟩

end Sys2Proof.Machine
end

section
/-! SUPPORT. Which part each shared operation of the rows of one part stays within. -/

namespace Sys2Proof.Machine

/-! ### The host side -/

theorem msixWrite_within (s : State) (h i v : Nat) : Within .host s (s.msixWrite h i v) :=
  .ite rfl (.ite rfl rfl)

theorem regWrite_within (w : RegWrite) (s : State) : Within .host s (s.regWrite w) :=
  .ite rfl (.ite rfl (.ite (msixWrite_within _ _ _ _) rfl))

theorem writeRegion_onlyHost (s : State) (region off : Nat) (b : Bytes) : OnlyHost s (s.writeRegion region off b) :=
  .each (fun i s => s.setRegionWord region (off + 8 * i) (leAt b (8 * i) 8)) (fun _ _ => rfl) _ s

theorem drainEvents_within (h r : Nat) (l : List Event) (s : State) : Within .host s (drainEvents h r l s) := by
  induction l generalizing s with
  | nil => rfl
  | cons e t ih =>
    refine .ite (.after (ih _) rfl) (.ite (.after (ih _) ?_) rfl)
    exact .set_host (.host (postEntry_onlyHost _ _ _ _ _) rfl)

theorem drainQueue_within (s : State) (h : Nat) : Within .host s (s.drainQueue h) := by
  unfold State.drainQueue
  dsimp only
  split
  · rfl
  · refine .ite rfl (.after (drainEvents_within _ _ _ _) (.ite rfl ?_))
    exact .set_host (.host (postEntry_onlyHost _ _ _ _ _) rfl)

/-! ### Domains, the principal and the key lock -/

theorem setMode_within (s : State) (m : Mode) : Within .dev s (s.setMode m) :=
  .ite rfl (.host (eventAll_onlyHost _ _ _ _) rfl)

theorem releaseLock_within (s : State) (q : Nat → Nat → Bool) : Within .dom s (s.releaseLock q) := by
  unfold State.releaseLock
  split
  · exact .ite rfl rfl
  · rfl

theorem moveDomain_within (s : State) (d h : Nat) : Within .dom s (s.moveDomain d h) :=
  .ite rfl (.set_dom (.set_dom (.after (releaseLock_within _ _) rfl)))

theorem principalChange_within (s : State) (h : Nat) (valid : Bool) (reason : Nat) :
    Within .dom s (s.principalChange h valid reason) :=
  .host (eventAll_onlyHost _ _ _ _) rfl

theorem giveOrphans_within (s : State) (h : Nat) : Within .dom s (s.giveOrphans h) :=
  .set_dom (.each (fun _ _ => rfl) rfl)

theorem passOn_within (s : State) (h : Nat) : Within .dom s (s.passOn h) :=
  .after (principalChange_within _ _ _ _) (giveOrphans_within _ _)

theorem handOff_within (s : State) (h : Nat) : Within .dom s (s.handOff h) :=
  .ite (.after (principalChange_within _ _ _ _) (moveDomain_within _ _ _))
    (.after (principalChange_within _ _ _ _) (giveOrphans_within _ _))

theorem unmap_onlyHost (s : State) (q : Nat → WinPage → Bool) : OnlyHost s (s.unmap q) := rfl

theorem losePrincipal_within (s : State) : Within .dom s s.losePrincipal :=
  .set_dom (.each (fun _ _ => rfl) (.host (unmap_onlyHost _ _) (releaseLock_within _ _)))

theorem expireLock_within (s : State) : Within .dom s s.expireLock := by
  unfold State.expireLock
  split
  · exact .ite rfl (.host (event_onlyHost _ _ _ _ _ _) rfl)
  · rfl

theorem claimLock_within (s : State) (h d : Nat) : Within .dom s (s.claimLock h d) := by
  refine .ite rfl ?_
  split
  · rfl
  · exact .ite rfl rfl

theorem freeLock_within (s : State) (h : Nat) : Within .dom s (s.freeLock h) := by
  unfold State.freeLock
  split
  · exact .ite rfl rfl
  · rfl

theorem lockWrite_within (s : State) (h v : Nat) : Within .dom s (s.lockWrite h v) :=
  .ite rfl (.ite (claimLock_within _ _ _) (.ite (freeLock_within _ _) rfl))

theorem endSession_within (s : State) : Within .dom s s.endSession := by
  unfold State.endSession
  split
  · rfl
  · exact .host (eventMask_onlyHost _ _ _ _ _) rfl

/-! ### Ports -/

theorem clearCond_within (s : State) (p k : Nat) : Within .ports s (s.clearCond p k) := .ite rfl rfl

theorem pfcReceive_within (s : State) (port enable : Nat) (quanta : List Nat) :
    Within .ports s (s.pfcReceive port enable quanta) :=
  .ite rfl rfl

/-! ### Forwarding tables -/

theorem setLearnPort_within (s : State) (p : Nat) (x : LearnPort) : Within .tables s (s.setLearnPort p x) :=
  .ite (.host (eventTo_onlyHost _ _ _ _ _) rfl) rfl

theorem recharge_within (s : State) (old new : List TEntry) : Within .tables s (s.recharge old new) :=
  .each (fun _ _ => .ite rfl (setLearnPort_within _ _ _)) rfl

theorem removeEntry_within (s : State) (k p : Nat) : Within .tables s (s.removeEntry k p) :=
  .after (recharge_within _ _ _) rfl

theorem settleDying_within (s : State) (k : Nat) : Within .tables s (s.settleDying k) :=
  .each (fun _ _ => .ite rfl (removeEntry_within _ _ _)) rfl

theorem rewriteEntry_within (s : State) (k p : Nat) (e : TEntry) : Within .tables s (s.rewriteEntry k p e) :=
  .after (recharge_within _ _ _) rfl

theorem destroyTable_within (k : Nat) (s : State) : Within .tables s (s.destroyTable k) :=
  .after (recharge_within _ _ _) rfl

theorem tableWriteDone_within (c : Cmd) (s : State) : Within .tables s (tableWriteDone c s) := by
  unfold tableWriteDone
  dsimp only
  split
  · exact rewriteEntry_within _ _ _ _
  · split <;> rfl

theorem flushKey_within (k key : Nat) (s : State) : Within .tables s (s.flushKey k key) := by
  unfold State.flushKey
  split
  · exact removeEntry_within _ _ _
  · rfl

theorem tableError_within (s : State) (k stack slot bucket : Nat) (repaired : Bool) :
    Within .tables s (s.tableError k stack slot bucket repaired) :=
  .host (eventTo_onlyHost _ _ _ _ _) rfl

theorem applyHit_within (s : State) (h : HitWrite) : Within .tables s (s.applyHit h) := by
  unfold State.applyHit
  dsimp only
  split <;> rfl

theorem ageEntry_within (k p : Nat) (s : State) : Within .tables s (s.ageEntry k p) :=
  .ite rfl (.ite (.ite rfl (.ite rfl rfl)) (.ite (.ite rfl rfl) rfl))

theorem learn_within (s : State) (r : LearnReq) : Within .tables s (s.learn r) := by
  refine .ite rfl ?_
  split
  · exact .ite rfl (.ite (setLearnPort_within _ _ _) (rewriteEntry_within _ _ _ _))
  · refine .ite (setLearnPort_within _ _ _) ?_
    split
    · rfl
    · exact .ite rfl (.after (recharge_within _ _ _) rfl)

theorem loadBucket_within (s : State) (k bucket : Nat) (b : Bytes) : Within .tables s (s.loadBucket k bucket b) :=
  .after (recharge_within _ _ _) (.each (fun _ _ => rfl) rfl)

theorem endDma_within (s : State) (d : TableDma) (st : Status) (detail : Nat) : Within .tables s (s.endDma d st detail) :=
  .host (answer_onlyHost _ _ _ _ _ _) (.after (settleDying_within _ _) rfl)

theorem nextDma_within (s : State) (d : TableDma) : Within .tables s (s.nextDma d) :=
  .ite (endDma_within _ _ _ _) (.after (settleDying_within _ _) rfl)

theorem moveBucket_within (s : State) (d : TableDma) : Within .tables s (s.moveBucket d) := by
  unfold State.moveBucket
  dsimp only
  split
  · exact endDma_within _ _ _ _
  · exact .ite (.ite (.after (nextDma_within _ _) (loadBucket_within _ _ _ _)) (endDma_within _ _ _ _))
      (.after (nextDma_within _ _) rfl)

/-- The checks of a record stand as a variable here: for numbers that are not known, the kernel would not end evaluating them. -/
theorem lpmRun_within (add : Bool) (c : Cmd) (b : Bytes) (l : List Nat) (n : Nat) (s : State) :
    Within .tables s (lpmRun add c b l n s).1 := by
  delta lpmRun lpmRun._f
  obtain ⟨checks, hchecks⟩ : ∃ f, f = routeErrs := ⟨_, rfl⟩
  rw [← hchecks]
  induction l generalizing n s with
  | nil => rfl
  | cons i l ih =>
    dsimp only
    split
    · rfl
    · exact .after (ih _ _) (.each (fun _ _ => rfl) rfl)

/-! ### Associative arrays -/

theorem settleSearches_within (s : State) (k cycle : Nat) : Within .assoc s (s.settleSearches k cycle) := .ite rfl rfl

theorem settleBlock_within (s : State) (b : Nat) : Within .assoc s (s.settleBlock b) := by
  unfold State.settleBlock
  split
  · exact settleSearches_within _ _ _
  · rfl

theorem clearBlocks_within (l : List Nat) (s : State) : Within .assoc s (each State.clearBlock l s) :=
  .each (fun _ _ => rfl) rfl

theorem deleteArray_within (s : State) (k : Nat) (clear : Bool) : Within .assoc s (s.deleteArray k clear) :=
  have h : Within .assoc s ((s.settleSearches k (s.cclk + 2 ^ 40)).setArray k {}) := .set_assoc (settleSearches_within _ _ _)
  .ite (.after (clearBlocks_within _ _) h) h

theorem setValid_within (s : State) (a : AArray) (r : ARecord) (v : Bool) : Within .assoc s (s.setValid a r v) :=
  .each (fun _ _ => rfl) rfl

theorem writeArow_within (s : State) (a : AArray) (r : ARecord) : Within .assoc s (s.writeArow a r) :=
  .each (fun _ _ => rfl) rfl

theorem endUpdate_within (s : State) (k : Nat) (w : AWork) (st : Status) (detail : Nat) :
    Within .assoc s (s.endUpdate k w st detail) :=
  .host (answer_onlyHost _ _ _ _ _ _) rfl

theorem nextRecord_within (s : State) (k : Nat) (w : AWork) : Within .assoc s (s.nextRecord k w) :=
  .ite (endUpdate_within _ _ _ _ _) rfl

theorem updateStep_within (s : State) (k : Nat) (w : AWork) : Within .assoc s (s.updateStep k w) :=
  .ite (endUpdate_within _ _ _ _ _)
    (.ite (.after (nextRecord_within _ _ _) (setValid_within _ _ _ _))
      (.ite (.set_assoc (setValid_within _ _ _ _))
        (.ite (.set_assoc (writeArow_within _ _ _)) (.after (nextRecord_within _ _ _) (setValid_within _ _ _ _)))))

theorem takeSlots_within {s s' : State} {k n : Nat} (h : s.takeSlots k n = some s') : Within .assoc s s' := by
  obtain ⟨-, h⟩ := Option.ite_none_left_eq_some.1 h
  obtain rfl := Option.some.inj h
  exact .set_assoc (settleSearches_within _ _ _)

/-! ### Engines and Scout -/

theorem wake_within (th : ThreadId) (s : State) : Within .eng s (s.wake th) := .ite rfl rfl

theorem wakeCluster_within (s : State) (c : Nat) : Within .eng s (s.wakeCluster c) :=
  .each (fun _ _ => wake_within _ _) rfl

theorem latch_within (s : State) (th : ThreadId) (b : Nat) : Within .eng s (s.latch th b) :=
  .after (wake_within _ _) rfl

theorem quietAt_within (s : State) (c : Nat) : Within .eng s (s.quietAt c) :=
  .ite (.ite rfl rfl) (.ite rfl rfl)

theorem retrySlot_within (th : ThreadId) (s : State) : Within .eng s (s.retrySlot th) := by
  unfold State.retrySlot
  dsimp only
  split
  · exact .ite (.ite rfl rfl) rfl
  · rfl

theorem channelMoved_within (s : State) (c : Nat) : Within .eng s (s.channelMoved c) :=
  .after (wakeCluster_within _ _) (.each (fun _ _ => retrySlot_within _ _) rfl)

theorem scoutDrop_within (s : State) (counted : Bool) (q : Nat → SEntry → Bool) : Within .scout s (s.scoutDrop counted q) :=
  .ite (.each (fun _ _ => rfl) rfl) rfl

theorem moveSegment_within (d g : Nat) (s : State) : Within .scout s (s.moveSegment d g) :=
  .ite rfl (.after (scoutDrop_within _ _ _) rfl)

theorem alarm_onlyHost (k : Nat) (s : State) : OnlyHost s (s.alarm k) := by
  unfold State.alarm
  dsimp only
  split
  · exact eventTo_onlyHost _ _ _ _ _
  · rfl

/-! ### The buffer pool and the queues -/

theorem setFreeRing_within (s : State) (far : Bool) (g : FreeRing) : Within .buf s (s.setFreeRing far g) := .ite rfl rfl

theorem giveRing_within (s : State) (a : Nat) : Within .buf s (s.giveRing a) := setFreeRing_within _ _ _

theorem takeRing_within {s s' : State} {far : Bool} {a : Nat} (h : s.takeRing far = some (a, s')) : Within .buf s s' := by
  unfold State.takeRing at h
  dsimp only at h
  split at h
  · cases h
  · split at h
    · cases h
      exact .set_buf (setFreeRing_within _ _ _)
    · split at h
      · cases h
        exact .set_buf (setFreeRing_within _ _ _)
      · cases h

theorem refillCache_within (k : Nat) (far : Bool) (n : Nat) (s : State) : Within .buf s (refillCache k far n s) := by
  induction n generalizing s with
  | zero => rfl
  | succ n ih =>
    unfold refillCache
    split
    · rfl
    · rename_i h
      exact .after (ih _) (.set_buf (takeRing_within h))

theorem detach_within (s : State) (child : Nat) : Within .tm s (s.detach child) := rfl

theorem setAttachment_within (c : Cmd) (k : Nat) (s : State) : Within .tm s (s.setAttachment c k) :=
  have h {x : Node} {b : Bool} : Within .tm s ((if b then s.detach k else s).setNode k x) := .set_tm (.ite rfl rfl)
  .ite h (.each (fun _ _ => .ite rfl rfl) (.set_tm h))

theorem notePrior_within (s : State) : Within .tm s s.notePrior := .ite rfl rfl

theorem nodeConfigDone_within (c : Cmd) (s : State) : Within .tm s (nodeConfigDone c s) := by
  have attached : Within .tm s (if bit (c.u8 18) 0 then State.setAttachment c (nodeKey (c.u8 16) (c.u32 20)) s else s) :=
    .ite (setAttachment_within _ _ _) rfl
  refine .ite rfl (.ite (.set_tm ?_) ?_) <;> exact .ite (.set_tm attached) attached

theorem queueStateOne_within (op maxCells q : Nat) (s : State) : Within .tm s (queueStateOne op maxCells q s) := by
  unfold queueStateOne
  dsimp only
  split <;> rfl

/-! ### Police and the fabric -/

theorem noteProfile_within (s : State) (id : Nat) : Within .pol s (s.noteProfile id) := .ite rfl rfl

theorem takeRequest_within (s : State) (src : Nat) (r : ReqEntry) : Within .fab s (s.takeRequest src r) := .ite rfl rfl

theorem sendRequest_within (s : State) (q : Nat) (resync : Bool) : Within .fab s (s.sendRequest q resync) :=
  .ite (.after (takeRequest_within _ _ _) rfl) rfl

theorem noteDemand_within (s : State) (q : Nat) : Within .fab s (s.noteDemand q) :=
  .ite rfl (.ite (.after (sendRequest_within _ _ _) rfl) rfl)

theorem takeCredit_within (s : State) (q units : Nat) : Within .fab s (s.takeCredit q units) :=
  .ite (.after (noteDemand_within _ _) rfl) rfl

theorem linkLeaves_within (s : State) (l : Nat) (c : Cmd) : Within .fab s (s.linkLeaves l c) :=
  .host (eventTo_onlyHost _ _ _ _ _) rfl

/-! ### PON trees -/

theorem moveOnu_within (s : State) (t i : Nat) (st : OnuState) : Within .pon s (s.moveOnu t i st) :=
  .ite rfl (.host (eventTo_onlyHost _ _ _ _ _) rfl)

theorem setLos_within (s : State) (t : Nat) (los : Bool) : Within .pon s (s.setLos t los) :=
  .ite rfl (.host (eventTo_onlyHost _ _ _ _ _) rfl)

theorem frameDone_within (s : State) (t f : Nat) : Within .pon s (s.frameDone t f) :=
  .ite rfl (.ite rfl (.ite (.after (setLos_within _ _ _) rfl) rfl))

theorem missWindow_within (t : Nat) (w : GrantWindow) (s : State) : Within .pon s (s.missWindow t w) := by
  refine .after (frameDone_within _ _ _) (.after (.ite (moveOnu_within _ _ _ _) rfl) (.set_pon (.each (fun a s => ?_) rfl)))
  split
  · exact .ite rfl rfl
  · rfl

/-! ### Firmware and time -/

theorem takeChunk_within (s : State) (ty session : Nat) (src : Option Nat) (b : Bytes) (c : Option Cmd) (macs : Bytes) :
    Within .fw s (s.takeChunk ty session src b c macs) := by
  unfold State.takeChunk
  split
  · split <;> rfl
  · rfl

theorem fireDue_within (n : Nat) (s : State) : Within .time s (s.fireDue n) := by
  unfold State.fireDue
  dsimp only
  split
  · rfl
  · exact .ite rfl rfl

theorem stepPulse_within (t n : Nat) (s : State) : Within .time s (s.stepPulse t n) :=
  .ite rfl (.host (eventTo_onlyHost _ _ _ _ _) rfl)

theorem stepTime_within (s : State) (new : Nat) : Within .time s (s.stepTime new) :=
  .host (eventAll_onlyHost _ _ _ _) (.after (.ite (.each (fun _ _ => stepPulse_within _ _ _) rfl) rfl)
    (.set_time (.each (fun _ _ => fireDue_within _ _) rfl)))

end Sys2Proof.Machine
end

section
/-! SUPPORT. The rows of each part (R79 and the chapters of the rows), and the proof that a row leaves every other part as it was. -/

namespace Sys2Proof.Machine

variable {i : Instr} {s : State}

theorem host_rows (hi : partOf i = some .host) : KeepsBeside .host i s := by
  cases i <;> cases hi
  case unknownOpcode => exact .of_next rfl (.ite rfl (.host (answer_onlyHost _ _ _ _ _ _) rfl))
  case registerWrite => exact .of_next rfl (.each (fun _ _ => regWrite_within _ _) rfl)
  case ringEntryFetch t host ring entry =>
    refine .of_next rfl (.ite rfl ?_)
    cases entry with
    | data b => exact .ite rfl rfl
    | failed => rfl
    | slow => rfl
  case hostBufferTimeout t c =>
    refine .of_next rfl ?_
    split
    · exact .ite rfl (.host (answer_onlyHost _ _ _ _ _ _) rfl)
    · rfl
  case eventQueueDrain => exact .of_next rfl (.ite rfl (.after (drainQueue_within _ _) rfl))
  case interruptCoalTimeout => exact .of_next rfl (.ite (.host (signal_onlyHost _ _ _) rfl) rfl)
  case hcmdEvtLostRead | timeNsRead => exact .of_next rfl (.ite (.ite rfl rfl) rfl)
  case lantCntLoRead => exact .of_next rfl (.ite rfl (.ite (.ite rfl rfl) rfl))
  case ringCfgEnable | ringCfgDisable | sqTail | cqHead | hostWriteFailed | ringDrained => exact .of_next rfl (.ite rfl rfl)
  all_goals exact .of_command rfl rfl

theorem dev_rows (hi : partOf i = some .dev) : KeepsBeside .dev i s := by
  cases i <;> cases hi
  case junctionOverMax => exact .of_next rfl rfl
  case standbyEntry => exact .of_next rfl (.ite rfl (.after (setMode_within _ _) rfl))

theorem units_rows (hi : partOf i = some .units) : KeepsBeside .units i s := by
  cases i <;> cases hi
  all_goals exact .of_command rfl rfl

theorem dom_rows (hi : partOf i = some .dom) : KeepsBeside .dom i s := by
  cases i <;> cases hi
  case principalSet =>
    refine .of_command rfl ?_
    dsimp only
    split
    · exact .after (handOff_within _ _) rfl
    · rfl
    · rfl
  case secHeartbeat => exact .of_next rfl (.ite rfl rfl)
  case heartbeatTimeout =>
    refine .of_next rfl (.ite rfl ?_)
    dsimp only
    split
    · exact .after (passOn_within _ _) (.after (losePrincipal_within _) rfl)
    · exact .after (principalChange_within _ _ _ _) (.after (losePrincipal_within _) rfl)
  case principalRecheck =>
    refine .of_next rfl (.ite rfl ?_)
    split
    · exact .after (passOn_within _ _) rfl
    · rfl
  case keyLockClaim =>
    exact .of_next rfl (.each (fun _ _ => .ite (lockWrite_within _ _ _) rfl) (.after (expireLock_within _) rfl))
  case keyLockRelease =>
    have expired (t : Nat) : Within .dom s (s.at_ t).expireLock := .after (expireLock_within _) rfl
    exact .of_next rfl (.ite (.after (lockWrite_within _ _ _) (expired _)) (expired _))
  case keyLockExpired => exact .of_next rfl (.after (expireLock_within _) rfl)
  case debugSessionExpire => exact .of_next rfl (.ite (.after (endSession_within _) rfl) rfl)
  case keyImport => exact .of_command rfl rfl

theorem lant_rows (hi : partOf i = some .lant) : KeepsBeside .lant i s := by
  cases i <;> cases hi
  case lantRead => exact .of_command rfl (.ite (.each (fun _ _ => rfl) rfl) rfl)
  case lantMode => exact .of_command rfl rfl

theorem ports_rows (hi : partOf i = some .ports) : KeepsBeside .ports i s := by
  cases i <;> cases hi
  case laneConfig => exact .of_command rfl rfl
  case portStats => exact .of_command rfl (.ite rfl rfl)
  case linkTrainingRestart | pfcPauseExpire => exact .of_next rfl (.ite rfl rfl)
  case pfcFrameReceive => exact .of_next rfl (.after (pfcReceive_within _ _ _ _) rfl)
  case portConditionCleared t port cond =>
    refine .of_next rfl ?_
    cases cond with
    | signal => exact .after (clearCond_within _ _ _) (.each (fun _ _ => rfl) rfl)
    | alignment => exact .after (clearCond_within _ _ _) (.each (fun _ _ => rfl) rfl)
    | remoteFault => exact .after (clearCond_within _ _ _) rfl

theorem eli_rows (hi : partOf i = some .eli) : KeepsBeside .eli i s := by
  cases i <;> cases hi
  case eliExpressReplace | eliExpressRestore => exact .of_next rfl (.ite (.host (eventTo_onlyHost _ _ _ _ _) rfl) rfl)
  case eliCounters => exact .of_command rfl (.ite rfl rfl)
  all_goals exact .of_command rfl rfl

theorem parse_rows (hi : partOf i = some .parse) : KeepsBeside .parse i s := by
  cases i <;> cases hi
  case classTreeLoad | autoSetLoad => exact .of_command rfl (.done_ite rfl rfl)
  case parseCounters => exact .of_command rfl (.ite rfl rfl)
  all_goals exact .of_command rfl rfl

theorem tables_rows (hi : partOf i = some .tables) : KeepsBeside .tables i s := by
  cases i <;> cases hi
  case tableDestroy => exact .of_command rfl (.after (destroyTable_within _ _) rfl)
  case tableInsert | tableUpdate => exact .of_next rfl (.ite rfl (.command rfl (.after (tableWriteDone_within _ _) rfl)))
  case tableDelete => exact .of_next rfl (.ite rfl (.command rfl (.after (removeEntry_within _ _ _) rfl)))
  case tableFlushPort => exact .of_next rfl (.ite rfl (.command rfl (.each (fun _ _ => flushKey_within _ _ _) rfl)))
  case tableDma => exact .of_next rfl (.ite rfl (.command rfl (.ite rfl rfl)))
  case dmaLockRelease =>
    refine .of_next rfl ?_
    split
    · rfl
    · exact .ite rfl (.ite (.after (moveBucket_within _ _) rfl) (.ite rfl (.ite (.after (endDma_within _ _ _ _) rfl) rfl)))
  case lpmAdd | lpmDelete => exact .of_next rfl (.command rfl (.after (lpmRun_within _ _ _ _ _ _) rfl))
  case learnConfig => exact .of_command rfl (.after (setLearnPort_within _ _ _) rfl)
  case hitWrite =>
    refine .of_next rfl ?_
    split
    · rfl
    · exact .ite rfl (.after (applyHit_within _ _) rfl)
  case learn =>
    refine .of_next rfl ?_
    split
    · rfl
    · exact .ite rfl (.after (learn_within _ _) rfl)
  case ageSweepVisit => exact .of_next rfl (.ite (.each (fun _ _ => ageEntry_within _ _ _) rfl) rfl)
  case conditionalDelete =>
    refine .of_next rfl ?_
    split
    · rfl
    · dsimp only
      split
      · rfl
      · exact .ite rfl (.ite rfl (.set_tables (.after (removeEntry_within _ _ _) rfl)))
  case mirrorRepair => exact .of_next rfl (.ite (.after (tableError_within _ _ _ _ _ _) rfl) rfl)
  case lpmRebuild =>
    refine .of_next rfl ?_
    split
    · rfl
    · exact .ite (.after (tableError_within _ _ _ _ _ _) rfl) rfl
  all_goals exact .of_command rfl rfl

theorem assoc_rows (hi : partOf i = some .assoc) : KeepsBeside .assoc i s := by
  cases i <;> cases hi
  case assocCreate => exact .of_command rfl (.set_assoc (.after (clearBlocks_within _ _) rfl))
  case assocDelete => exact .of_command rfl (.after (deleteArray_within _ _ _) rfl)
  case assocWrite => exact .of_command rfl (.ite rfl rfl)
  case assocUpdateStep =>
    refine .of_next rfl ?_
    split
    · rfl
    · split
      · rfl
      · rename_i h
        exact .after (updateStep_within _ _ _) (.after (takeSlots_within h) rfl)
  case assocGroup => exact .of_command rfl (.set_assoc (.after (settleSearches_within _ _ _) rfl))
  case assocScrub =>
    exact .of_next rfl (.ite (.host (eventTo_onlyHost _ _ _ _ _) (.set_assoc (.set_assoc (.after (settleBlock_within _ _) rfl)))) rfl)
  case assocRowRepair t block row =>
    refine .of_next rfl ?_
    split
    · rename_i s' h
      obtain ⟨-, hgrant⟩ := Option.ite_none_right_eq_some.1 h
      have granted : Within .assoc s s' := by
        split at hgrant
        · obtain rfl := Option.some.inj hgrant
          rfl
        · exact .after (takeSlots_within hgrant) rfl
      exact .host (eventTo_onlyHost _ _ _ _ _) (.set_assoc (.set_assoc granted))
    · rfl

theorem eng_rows (hi : partOf i = some .eng) : KeepsBeside .eng i s := by
  cases i <;> cases hi
  case signalDeliver => exact .of_next rfl (.after (quietAt_within _ _) (.each (fun _ _ => latch_within _ _ _) rfl))
  case timerSet t th delta =>
    refine .of_next rfl (.ite ?_ rfl)
    cases delta <;> rfl
  case timerFire =>
    refine .of_next rfl ?_
    split
    · rfl
    · exact .ite (.after (quietAt_within _ _) (.after (latch_within _ _ _) rfl)) rfl
  case chanVisible => exact .of_next rfl (.ite rfl (.after (quietAt_within _ _) (.after (channelMoved_within _ _) rfl)))
  case yield | yieldExpire | clusterHealthWord => exact .of_next rfl (.ite rfl rfl)
  case threadStopped =>
    exact .of_next rfl (.ite (.after (quietAt_within _ _) (.host (eventTo_onlyHost _ _ _ _ _) rfl)) rfl)
  case engSlotSet => exact .of_command rfl (.each (fun _ _ => rfl) rfl)
  case profileWrite => exact .of_command rfl rfl

theorem scout_rows (hi : partOf i = some .scout) : KeepsBeside .scout i s := by
  cases i <;> cases hi
  case scoutAlarmInterval =>
    exact .of_next rfl (.ite rfl (.set_scout (.each (fun _ _ => .of_onlyHost (alarm_onlyHost _ _)) rfl)))
  case scoutPartition => exact .of_command rfl (.each (fun _ _ => moveSegment_within _ _ _) rfl)
  case scoutConfig => exact .of_command rfl rfl
  case scoutTemplate => exact .of_command rfl (.set_scout (.ite (.after (scoutDrop_within _ _ _) rfl) rfl))
  case scoutInvalidate => exact .of_command rfl (.after (scoutDrop_within _ _ _) rfl)
  case scoutStats => exact .of_command rfl (.ite rfl rfl)

theorem act_rows (hi : partOf i = some .act) : KeepsBeside .act i s := by
  cases i <;> cases hi
  case editStats => exact .of_command rfl (.ite rfl rfl)
  all_goals exact .of_command rfl rfl

theorem buf_rows (hi : partOf i = some .buf) : KeepsBeside .buf i s := by
  cases i <;> cases hi
  case poolCacheRefill =>
    exact .of_next rfl (.ite rfl (.ite (.each (fun _ _ => giveRing_within _ _) rfl)
      (.ite (.after (refillCache_within _ _ _ _) rfl) rfl)))
  case farRingCopyRebuilt | farRingRebuilt =>
    refine .of_next rfl ?_
    split
    · exact .ite rfl rfl
    · rfl
  case bufErrLogRead => exact .of_next rfl (.ite (.ite rfl rfl) rfl)
  case poolConfig => exact .of_command rfl (.ite rfl (.each (fun _ _ => giveRing_within _ _) rfl))
  case accountConfig => exact .of_command rfl rfl
  case bufStats => exact .of_command rfl (.ite rfl (.ite rfl rfl))

theorem tm_rows (hi : partOf i = some .tm) : KeepsBeside .tm i s := by
  cases i <;> cases hi
  case queueBuf | queueCong | obsSelect => exact .of_command rfl (.each (fun _ _ => rfl) rfl)
  case depthSnapshot => exact .of_next rfl (.each (fun _ _ => rfl) rfl)
  case nodeConfig => exact .of_command rfl (.after (nodeConfigDone_within _ _) (.after (notePrior_within _) rfl))
  case queueState => exact .of_command rfl (.each (fun _ _ => queueStateOne_within _ _ _ _) rfl)
  case queueStats => exact .of_command rfl (.ite rfl rfl)
  case schedLimit => exact .of_command rfl rfl
  case obsHwm => exact .of_command rfl (.ite (.each (fun _ _ => rfl) rfl) rfl)

theorem pol_rows (hi : partOf i = some .pol) : KeepsBeside .pol i s := by
  cases i <;> cases hi
  case policerStats => exact .of_command rfl (.ite rfl rfl)
  case congProfile => exact .of_command rfl (.set_pol (.after (noteProfile_within _ _) rfl))
  case obsConfig => exact .of_command rfl (.ite rfl rfl)
  all_goals exact .of_command rfl rfl

theorem fab_rows (hi : partOf i = some .fab) : KeepsBeside .fab i s := by
  cases i <;> cases hi
  case fabLaneMarker => exact .of_next rfl (.ite rfl rfl)
  case fabRequestRefresh => exact .of_next rfl (.ite (.after (sendRequest_within _ _ _) rfl) rfl)
  case fabResync =>
    refine .of_next rfl ?_
    split
    · exact .ite (.after (sendRequest_within _ _ _) rfl) rfl
    · rfl
  case fabCreditGrant =>
    refine .of_next rfl (.ite rfl ?_)
    split
    · rfl
    · exact .ite (.after (takeCredit_within _ _ _) rfl) rfl
  case fabAckTimer => exact .of_next rfl (.ite rfl rfl)
  case fabResend => exact .of_next rfl (.ite rfl rfl)
  case fabVoqMap => exact .of_command rfl (.each (fun _ _ => rfl) rfl)
  case fabLink => exact .of_command rfl (.done_ite (.after (linkLeaves_within _ _ _) rfl) rfl)
  case fabStats => exact .of_command rfl (.ite rfl rfl)
  all_goals exact .of_command rfl rfl

theorem cipher_rows (hi : partOf i = some .cipher) : KeepsBeside .cipher i s := by
  cases i <;> cases hi
  case ciphFaultLogRead => exact .of_next rfl (.ite (.ite rfl rfl) rfl)
  case macsecSa =>
    refine .of_command rfl ?_
    unfold macsecSaDone
    split <;> rfl
  case tunnelSa =>
    refine .of_command rfl ?_
    dsimp only
    split <;> rfl
  case ciphStats =>
    refine .of_command rfl (.ite ?_ rfl)
    dsimp only
    split <;> rfl

theorem pon_rows (hi : partOf i = some .pon) : KeepsBeside .pon i s := by
  cases i <;> cases hi
  case ponWindowClose =>
    refine .of_next rfl ?_
    split
    · rfl
    · exact .ite rfl (.after (missWindow_within _ _ _) rfl)
  case ponEnergyDetect => exact .of_next rfl (.ite rfl rfl)
  case ponRangingTimeout => exact .of_next rfl (.ite rfl (.ite (.after (moveOnu_within _ _ _ _) rfl) rfl))
  case ponOmciReceive =>
    exact .of_next rfl (.ite rfl (.host (eventTo_onlyHost _ _ _ _ _) (.host (writeRegion_onlyHost _ _ _ _)
      (.set_pon (.ite rfl rfl)))))
  case ponXgem => exact .of_command rfl rfl
  case ponOmciSend => exact .of_command rfl rfl
  case ponStats => exact .of_command rfl (.ite rfl rfl)
  case grantShareInterval => exact .of_next rfl (.each (fun _ _ => rfl) rfl)
  case grantGroup => exact .of_command rfl (.ite rfl (.host (eventTo_onlyHost _ _ _ _ _) rfl))
  case grantStats => exact .of_command rfl (.ite rfl rfl)
  all_goals exact .of_command rfl rfl

theorem dram_rows (hi : partOf i = some .dram) : KeepsBeside .dram i s := by
  cases i <;> cases hi
  case dramRefreshDue => exact .of_next rfl (.ite rfl (.ite rfl (.ite rfl rfl)))
  case dramDisturbWindow => exact .of_next rfl (.ite rfl rfl)
  case dramThrottleExpire => exact .of_next rfl rfl
  case dramSpillInterval => exact .of_next rfl (.ite rfl rfl)
  case dramSelfRefreshExit => exact .of_next rfl (.ite rfl rfl)
  case dramOppointChange =>
    refine .of_next rfl (.ite rfl ?_)
    split
    · rfl
    · exact .ite rfl rfl
  case dramErrCountRead => exact .of_next rfl (.ite rfl (.ite (.ite rfl rfl) rfl))
  all_goals exact .of_command rfl (.each (fun _ _ => rfl) rfl)

theorem fw_rows (hi : partOf i = some .fw) : KeepsBeside .fw i s := by
  cases i <;> cases hi
  case fwDeliver =>
    refine .of_next rfl (.ite (.command rfl ?_) (.command rfl (.after (takeChunk_within _ _ _ _ _ _ _) rfl)))
    dsimp only
    split <;> rfl
  case handoverQuiesced =>
    refine .of_next rfl ?_
    split
    · exact .ite rfl rfl
    · rfl
  all_goals exact .of_command rfl rfl

theorem time_rows (hi : partOf i = some .time) : KeepsBeside .time i s := by
  cases i <;> cases hi
  case timeStep =>
    exact .of_command rfl (.after (stepTime_within _ _) rfl)
  case slewComplete => exact .of_next rfl (.ite rfl rfl)
  case timePulse => exact .of_command rfl (.ite (.set_time (.after (fireDue_within _ _) rfl)) (.set_time (.after (fireDue_within _ _) rfl)))
  case pulseFire => exact .of_next rfl (.after (fireDue_within _ _) rfl)
  case pulseEnd =>
    refine .of_next rfl ?_
    split
    · rfl
    · exact .ite rfl rfl
  case timeInEdge =>
    refine .of_next rfl (.ite rfl (.ite rfl (.ite rfl (.ite ?_ rfl))))
    exact .host (eventTo_onlyHost _ _ _ _ _) rfl
  case timeCapture => exact .of_command rfl (.done_ite rfl rfl)
  all_goals exact .of_command rfl rfl

/-- Every row of a part stays within it; no row has the free values, the packets or their numbers for its part. -/
theorem keepsBeside_of_partOf {p : Part} (hi : partOf i = some p) : KeepsBeside p i s := by
  cases p with
  | free | pkts | nextPkt => cases i <;> cases hi
  | dev => exact dev_rows hi
  | units => exact units_rows hi
  | host => exact host_rows hi
  | dom => exact dom_rows hi
  | lant => exact lant_rows hi
  | ports => exact ports_rows hi
  | eli => exact eli_rows hi
  | parse => exact parse_rows hi
  | tables => exact tables_rows hi
  | assoc => exact assoc_rows hi
  | eng => exact eng_rows hi
  | scout => exact scout_rows hi
  | act => exact act_rows hi
  | buf => exact buf_rows hi
  | tm => exact tm_rows hi
  | pol => exact pol_rows hi
  | fab => exact fab_rows hi
  | cipher => exact cipher_rows hi
  | pon => exact pon_rows hi
  | dram => exact dram_rows hi
  | fw => exact fw_rows hi
  | time => exact time_rows hi

/-- Settles O59: the part of the row is what its next state differs in, so every other part is the same. -/
theorem rowsKeepOtherParts : Obligations.RowsKeepOtherParts := by
  unfold Obligations.RowsKeepOtherParts
  intro i p s s' hi hexec
  obtain ⟨z, hz, hwithin⟩ := keepsBeside_of_partOf (s := s) hi
  obtain rfl : z = s' := Host.Outcome.next.inj (hz.symm.trans hexec)
  exact hwithin.same

end Sys2Proof.Machine
end


section
/-! Support for O4. The rows of the device-level commands (R74, R78, R84–R87), of the event queue and the coalescing time (R82, R83), and of
CXL.mem (R61): for each, the next state that `exec` answers in the case a clause of the obligation speaks of. -/

namespace Sys2Proof.Machine

/-! ### Commands -/

section
variable {t : Nat} {c : Cmd} {s : State}

theorem exec_unknownOpcode (ho : knownOpcode c.opcode = false) :
    exec (.unknownOpcode t c) s = .next ((s.at_ t).answer c .invalidParam 0x03000000 0 []) := by
  simp [exec, execUnknownOpcode, ho]

theorem exec_nop_ok (hr : ready (s.at_ t) c 0x0000 .any = true) (he : firstErr [c.zeros 16 48] = none) :
    exec (.nop t c) s = .next ((s.at_ t).answer c .ok 0 0 []) := by
  simp only [exec, execNop]
  rw [command_ok _ _ _ _ _ _ _ hr he]
  rfl

theorem exec_devQuery_ok (hr : ready (s.at_ t) c 0x0002 .any = true) (he : firstErr [c.needReply, c.zeros 16 48] = none) :
    exec (.devQuery t c) s =
      .next ((s.at_ t).answer c .ok 0 64 (devQueryBytes c.host (s.at_ t).fw.version (s.at_ t))) := by
  simp only [exec, execDevQuery]
  rw [command_ok _ _ _ _ _ _ _ hr he]
  rfl

theorem exec_eventConfig_ok (hr : ready (s.at_ t) c 0x0003 .any = true)
    (he : firstErr [at_ 16 (c.u8 16 < 16), c.zeros 17 3, at_ 20 (c.u32 20 < 2 ^ 20), c.zeros 24 40] = none) :
    exec (.eventConfig t c) s = .next (((s.at_ t).setHostPort c.host
      { (s.at_ t).hostPort c.host with eventRing := some (c.u8 16), eventMask := c.u32 20 }).answer c .ok 0 0 []) := by
  simp only [exec, execEventConfig]
  rw [command_ok _ _ _ _ _ _ _ hr he]
  rfl

theorem exec_memWindow_map (hr : ready (s.at_ t) c 0x0004 .any = true) (hcxl : ((s.at_ t).hostPort c.host).cxl = true)
    (hop : c.u8 16 = 0) (hread : c.u8 17 = 0) (hpage : c.u16 18 < 4096) (hheld : (s.at_ t).holdsRegion c.domain (c.u32 20) = true)
    (hin : c.u32 24 < (s.at_ t).regionPages (c.u32 20)) (hz : c.zeros 28 36 = none)
    (hfree : ((s.at_ t).window c.host (c.u16 18)).mapped = false) :
    exec (.memWindow t c) s = .next (((s.at_ t).setWindow c.host (c.u16 18)
      { region := c.u32 20, page := c.u32 24, write := false, domain := c.domain, mapped := true }).answer c .ok 0 0 []) := by
  simp only [exec, execMemWindow]
  rw [command_ok _ _ _ _ _ _ _ hr (by simp [firstErr, need, at_, hcxl, hop, hread, hpage, hheld, hin, hz, hfree])]
  simp only [hop]
  rfl

theorem exec_memWindow_unmap (hr : ready (s.at_ t) c 0x0004 .any = true) (hcxl : ((s.at_ t).hostPort c.host).cxl = true)
    (hop : c.u8 16 = 1) (hread : c.u8 17 = 0) (hpage : c.u16 18 < 4096) (hz : c.zeros 20 44 = none)
    (hmapped : ((s.at_ t).window c.host (c.u16 18)).mapped = true)
    (hdom : ((s.at_ t).window c.host (c.u16 18)).domain = c.domain) :
    exec (.memWindow t c) s = .next (((s.at_ t).setWindow c.host (c.u16 18) {}).answer c .ok 0 0 []) := by
  simp only [exec, execMemWindow]
  rw [command_ok _ _ _ _ _ _ _ hr (by simp [firstErr, need, at_, hcxl, hop, hread, hpage, hz, hmapped, hdom])]
  simp only [hop]
  rfl

theorem exec_hostBufferTimeout {x : Started} (hx : (s.at_ t).startedAs c = some x) (hw : x.working = false)
    (hb : readsBuffer c = true) : exec (.hostBufferTimeout t c) s = .next ((s.at_ t).answer c .timeout 1 0 []) := by
  simp [exec, execHostBufferTimeout, hx, hw, hb]

end

/-! ### Events and interrupts -/

/-- The completion entry that an event of a queue becomes (R82). -/
def Event.entry (e : Event) : Entry := { tag := 0xFFFFFFFF, code := e.code, status := 0, detail := e.detail, result := e.result }

/-- A queue whose one event the host may be told of, with nothing lost: where the event ring has room, its entry is posted and the
queue is empty. -/
theorem State.drainQueue_single {s : State} {h r : Nat} {e : Event} (hring : (s.hostPort h).eventRing = some r)
    (hq : (s.hostPort h).events = [e]) (hlost : (s.hostPort h).lostSince = 0) (hact : (s.ring h r).state = .active)
    (hroom : (s.ring h r).room = true) (hhear : s.mayHear h e.mask = true) :
    s.drainQueue h = (s.postEntry h r e.entry false).setHostPort h
      { (s.postEntry h r e.entry false).hostPort h with events := [] } := by
  simp [State.drainQueue, drainEvents, hring, hq, hlost, hact, hroom, hhear, Event.entry]

theorem State.setHostPort_out (s : State) (h : Nat) (p : HostPort) : (s.setHostPort h p).host.out = s.host.out := rfl

/-- What posting an entry puts outside holds the entry at its place (R63). -/
theorem State.entry_mem_postEntry (s : State) (h r : Nat) (e : Entry) (now : Bool) :
    .entry h ((s.ring h r).cqBase + 16 * (s.ring h r).cqTail) e ∈ (s.postEntry h r e now).host.out := by
  obtain ⟨rest, hout⟩ := postEntry_out s h r e now
  simp [hout]

theorem exec_eventQueueDrain {t host : Nat} {s : State} (hw : (s.at_ t).fwWindow = false) :
    exec (.eventQueueDrain t host) s = .next ((s.at_ t).drainQueue host) := by
  have hw' : s.fwWindow = false := hw
  simp [exec, execEventQueueDrain, hw']

theorem exec_interruptCoalTimeout {t host ring : Nat} {s : State} (hn : ((s.at_ t).ring host ring).unsignalled ≠ 0)
    (hc : ((s.at_ t).ring host ring).coalTime ≠ 0)
    (ht : ((s.at_ t).ring host ring).oldest + us ((s.at_ t).ring host ring).coalTime ≤ (s.at_ t).now) :
    exec (.interruptCoalTimeout t host ring) s = .next ((s.at_ t).signal host ring) := by
  simp [exec, execInterruptCoalTimeout, hn, hc, ht]

/-- A read that hits HCMD_EVT_LOST returns its part of the count, and clears the count where it is aligned (R8, R82). -/
theorem exec_hcmdEvtLostRead {t : Nat} {r : RegRead} {s : State} (hit : r.addr / 4 = 0x00040001)
    (ha : (s.at_ t).answers r.host = true) :
    exec (.hcmdEvtLostRead t r) s =
      let p := (s.at_ t).hostPort r.host
      let v := p.evtMark.seen (s.at_ t).kclk p.evtLost
      let read := (s.at_ t).emit (.read r.host (readPart r v))
      .next (if readAligned r = true then
          read.setHostPort r.host { p with evtLost := p.evtLost - v, evtMark := p.evtMark.cleared (s.at_ t).kclk }
        else read) := by
  have hhit : readHits r 0x00100004 = true := decide_eq_true hit
  simp [exec, execHcmdEvtLostRead, ha, hhit]

theorem readAligned_word {r : RegRead} (ha : r.addr % 4 = 0) (hs : r.size = 4) : readAligned r = true := by
  simp [readAligned, ha, hs]

theorem readPart_word {r : RegRead} (ha : r.addr % 4 = 0) (hs : r.size = 4) (v : Nat) : readPart r v = v % 2 ^ 32 := by
  simp [readPart, ha, hs]

/-! ### CXL.mem -/

section
variable {t host addr : Nat} {s : State}

theorem exec_cxlmemRead_unmapped (ha : (s.at_ t).answers host = true) (hcxl : ((s.at_ t).hostPort host).cxl = true)
    (hr : addr < 2 ^ 37) (hm : ((s.at_ t).window host (addr / 2 ^ 25)).mapped = false) :
    exec (.cxlmemRead t host addr) s = .next ((s.at_ t).emit (.mem host (leBytes 8 0))) := by
  simp only [exec, execCxlmemRead, ha, hcxl, hr, hm]
  rfl

theorem exec_cxlmemRead_mapped (ha : (s.at_ t).answers host = true) (hcxl : ((s.at_ t).hostPort host).cxl = true)
    (hr : addr < 2 ^ 37) (hm : ((s.at_ t).window host (addr / 2 ^ 25)).mapped = true) :
    exec (.cxlmemRead t host addr) s =
      let w := (s.at_ t).window host (addr / 2 ^ 25)
      .next ((((s.at_ t).emit (.mem host (leBytes 8 ((s.at_ t).regionWord w.region (w.offset addr))))).regionRead
        w.region (w.offset addr)).dramAny 64 2) := by
  simp only [exec, execCxlmemRead, ha, hcxl, hr, hm]
  rfl

theorem State.regionRead_host (s : State) (region off : Nat) : (s.regionRead region off).host = s.host := by
  unfold State.regionRead
  split <;> rfl

theorem exec_cxlmemWrite_mapped {data : Bytes} (ha : (s.at_ t).answers host = true)
    (hcxl : ((s.at_ t).hostPort host).cxl = true) (hr : addr < 2 ^ 37)
    (hm : ((s.at_ t).window host (addr / 2 ^ 25)).mapped = true) (hw : ((s.at_ t).window host (addr / 2 ^ 25)).write = true) :
    exec (.cxlmemWrite t host addr data) s =
      let w := (s.at_ t).window host (addr / 2 ^ 25)
      .next (((s.at_ t).setRegionWord w.region (w.offset addr) (leAt data 0 8)).dramAny 64 2) := by
  simp only [exec, execCxlmemWrite, ha, hcxl, hr, hm, hw]
  rfl

theorem State.dramAny_regionWord (s : State) (bytes requester region off : Nat) :
    (s.dramAny bytes requester).regionWord region off = s.regionWord region off := by
  simp [State.regionWord]

theorem State.setRegionWord_same (s : State) (region off v : Nat) :
    (s.setRegionWord region off v).regionWord region off = v :=
  look_put_same _ _ _ _

theorem State.setRegionWord_ne (s : State) {region off region' off' : Nat} (v : Nat)
    (h : region' * 2 ^ 40 + off' / 8 ≠ region * 2 ^ 40 + off / 8) :
    (s.setRegionWord region off v).regionWord region' off' = s.regionWord region' off' :=
  look_put_ne _ h _ _ _

end

/-- Settles O4: each clause is its row's lemma above, the two of HCMD_EVT_LOST one lemma's. -/
theorem deviceCommandsComplete : Obligations.DeviceCommandsComplete := by
  unfold Obligations.DeviceCommandsComplete
  refine ⟨?_, ?_, ?_, ?_, ?_, ?_, ?_, ?_, ?_, ?_, ?_, ?_, ?_, ?_⟩
  · rintro c t s ⟨-, ho⟩
    exact ⟨_, exec_unknownOpcode ho, rfl⟩
  · rintro c t s ⟨hr, he⟩
    exact ⟨_, exec_nop_ok hr he, rfl⟩
  · rintro c t s ⟨hr, he⟩
    exact ⟨_, exec_devQuery_ok hr he, rfl⟩
  · rintro c t s ⟨hr, he⟩
    exact ⟨_, exec_eventConfig_ok hr he, rfl⟩
  · rintro c t s ⟨hr, hcxl, hop, hread, hpage, hheld, hin, hz, hfree⟩
    exact ⟨_, exec_memWindow_map hr hcxl hop hread hpage hheld hin hz hfree, rfl⟩
  · rintro c t s ⟨hr, hcxl, hop, hread, hpage, hz, hmapped, hdom⟩
    exact ⟨_, exec_memWindow_unmap hr hcxl hop hread hpage hz hmapped hdom, rfl⟩
  · rintro c t s ⟨x, hx, hw, hb⟩
    exact ⟨_, exec_hostBufferTimeout hx hw hb, rfl⟩
  · rintro host r e t s ⟨hw, hring, hq, hlost, hact, hroom, hhear⟩
    refine ⟨_, exec_eventQueueDrain hw, ?_⟩
    simp only [State.drainQueue_single hring hq hlost hact hroom hhear, State.setHostPort_same, State.setHostPort_out,
      true_and]
    exact State.entry_mem_postEntry _ host r e.entry false
  · rintro host ring t s ⟨hn, hc, ht⟩
    exact ⟨_, exec_interruptCoalTimeout hn hc ht, rfl⟩
  · rintro r v t s ⟨haddr, hs, ha, rfl⟩
    have haligned : r.addr % 4 = 0 := by omega
    exact ⟨_, exec_hcmdEvtLostRead (by omega) ha, by simp only [readAligned_word haligned hs, readPart_word haligned hs, if_true]⟩
  · rintro r v t s ⟨hit, ha, rfl⟩
    exact ⟨_, exec_hcmdEvtLostRead hit ha, rfl⟩
  · rintro host addr t s ⟨ha, hcxl, hr, hm⟩
    exact ⟨_, exec_cxlmemRead_unmapped ha hcxl hr hm, rfl⟩
  · rintro host addr t s ⟨ha, hcxl, hr, hm⟩
    refine ⟨_, exec_cxlmemRead_mapped ha hcxl hr hm, ?_⟩
    simp only [State.dramAny_rest, State.regionRead_host]
    exact ⟨rfl, rfl⟩
  · rintro host addr data t s ⟨ha, hcxl, hr, hm, hw⟩
    refine ⟨_, exec_cxlmemWrite_mapped ha hcxl hr hm hw, ?_, fun region off hne => ?_⟩
    · rw [State.dramAny_regionWord, State.setRegionWord_same]
    · rw [State.dramAny_regionWord, State.setRegionWord_ne _ _ hne]

end Sys2Proof.Machine
end


section
/-! Support for O5. What a write does to a ring (R65, R66), once for each case of the model's functions on rings; then, for each row
of the ring registers, the next state that `exec` answers. -/

namespace Sys2Proof.Machine

/-! ### The writes of RING_CFG -/

theorem Ring.enableWrite_valid {g : Ring} {v : Nat} (hd : g.state = .disabled) (hv : (g.configure v).valid = true) :
    g.enableWrite v = { g.configure v with
      state := .active, error := 0, sqHead := 0, sqTail := 0, cqTail := 0, cqHead := 0, unsignalled := 0 } := by
  simp [Ring.enableWrite, hd, hv]

theorem Ring.enableWrite_invalid {g : Ring} {v : Nat} (hd : g.state = .disabled) (hv : (g.configure v).valid = false) :
    g.enableWrite v = { g.configure v with error := 1 } := by
  simp [Ring.enableWrite, hd, hv]

theorem Ring.valid_iff (g : Ring) :
    g.valid = true ↔ 4 ≤ g.sizeLog2 ∧ g.sizeLog2 ≤ 12 ∧ g.sqBase ≠ 0 ∧ g.cqBase ≠ 0 ∧ g.shadow ≠ 0 := by
  simp [Ring.valid, and_assoc]

/-- A write that configures the ring leaves its base addresses, so its validity turns on them and on the size written. -/
theorem Ring.configure_valid (g : Ring) (v : Nat) :
    (g.configure v).valid = true ↔
      4 ≤ bits v 27 24 ∧ bits v 27 24 ≤ 12 ∧ g.sqBase ≠ 0 ∧ g.cqBase ≠ 0 ∧ g.shadow ≠ 0 :=
  Ring.valid_iff _

theorem Ring.disableWrite_disabled {g : Ring} {v : Nat} (hd : g.state = .disabled) : g.disableWrite v = g.configure v := by
  simp [Ring.disableWrite, hd]

theorem Ring.disableWrite_drains {g : Ring} {v : Nat} (h : g.state = .active ∨ g.state = .error) :
    g.disableWrite v = { g.leave .draining g.error with enable := false } := by
  rcases h with h | h <;> simp [Ring.disableWrite, h]

/-! ### The doorbells -/

theorem Ring.doorbell_accepts {g set : Ring} {v : Nat} {backwards : Bool} (hd : g.state ≠ .disabled) (hv : v < g.size)
    (hb : backwards = false) : g.doorbell v backwards set = set := by
  simp [Ring.doorbell, hd, Nat.not_le.mpr hv, hb]

theorem Ring.doorbell_outOfRange {g set : Ring} {v : Nat} {backwards : Bool} (ha : g.state = .active) (hv : g.size ≤ v) :
    g.doorbell v backwards set = g.leave .error 2 := by
  simp [Ring.doorbell, ha, hv]

theorem Ring.doorbell_backwards {g set : Ring} {v : Nat} {backwards : Bool} (ha : g.state = .active) (hv : v < g.size)
    (hb : backwards = true) : g.doorbell v backwards set = g.leave .error 3 := by
  simp [Ring.doorbell, ha, Nat.not_le.mpr hv, hb]

/-! ### The base registers -/

theorem Ring.baseWrite_sqBaseLow {g : Ring} {v : Nat} (hd : g.state = .disabled) :
    g.baseWrite 0 v = { g with sqBase := withLow g.sqBase v 0xFFFFF000 } := by
  simp [Ring.baseWrite, hd]

/-- An aligned 32-bit write at the first register of ring `r` (R8, R57). -/
theorem State.regWrite_sqBaseLow {s : State} {h r v : Nat} (hh : h < 4) (hr : r < 16) (hv : v < 2 ^ 32) (ha : s.answers h = true) :
    s.regWrite { host := h, addr := 0x00101000 + 0x40 * r, size := 4, value := v } =
      s.setRing h r ((s.ring h r).baseWrite 0 v) := by
  have haligned : (0x00101000 + 0x40 * r) % 4 = 0 := by omega
  have hring : (0x00101000 + 0x40 * r - 0x00101000) / 0x40 = r := by omega
  have hoff : (0x00101000 + 0x40 * r - 0x00101000) % 0x40 = 0 := by omega
  have hhi : 0x00101000 + 0x40 * r < 0x00101400 := by omega
  unfold State.regWrite
  simp only [haligned, hring, hoff, hhi, Nat.mod_eq_of_lt hv, Nat.not_le.mpr hh, ha]
  simp

theorem claimsOf_singleton {w : RegWrite} (h : w.host < 4) : claimsOf [w] = [w] := by
  have hosts : w.host = 0 ∨ w.host = 1 ∨ w.host = 2 ∨ w.host = 3 := by omega
  rcases hosts with h | h | h | h <;> simp [claimsOf, h]

/-! ### The rows -/

section
variable {t host ring value : Nat} {s : State}

theorem exec_ringCfgEnable (ha : (s.at_ t).answers host = true) (hr : ring < 16) (hb : bit value 31 = true) :
    exec (.ringCfgEnable t host ring value) s =
      .next ((s.at_ t).setRing host ring (((s.at_ t).ring host ring).enableWrite value)) := by
  simp [exec, execRingCfgEnable, ha, hr, hb]

theorem exec_ringCfgDisable (ha : (s.at_ t).answers host = true) (hr : ring < 16) (hb : bit value 31 = false) :
    exec (.ringCfgDisable t host ring value) s =
      .next ((s.at_ t).setRing host ring (((s.at_ t).ring host ring).disableWrite value)) := by
  simp [exec, execRingCfgDisable, ha, hr, hb]

theorem exec_sqTail (ha : (s.at_ t).answers host = true) (hr : ring < 16) :
    exec (.sqTail t host ring value) s =
      .next ((s.at_ t).setRing host ring (((s.at_ t).ring host ring).sqTailWrite value)) := by
  simp [exec, execSqTail, ha, hr]

theorem exec_cqHead (ha : (s.at_ t).answers host = true) (hr : ring < 16) :
    exec (.cqHead t host ring value) s =
      .next ((s.at_ t).setRing host ring (((s.at_ t).ring host ring).cqHeadWrite value)) := by
  simp [exec, execCqHead, ha, hr]

/-- The first step of a fetch whose turn it is: the read of the entry goes outside (R63, R71). -/
def State.entryRead (s : State) (host ring : Nat) : State :=
  (s.tookTurn host ring).emit (.sqRead host ((s.ring host ring).sqBase + 64 * (s.ring host ring).sqHead))

/-- The second step, of an entry that was read: `sq_head` passes it, the shadow follows, a completion entry is reserved (R67, R68). -/
def State.entryTaken (s : State) (host ring : Nat) : State :=
  ((s.entryRead host ring |>.setRing host ring
    { s.ring host ring with sqHead := ((s.ring host ring).sqHead + 1) % (s.ring host ring).size }).writeShadow host ring).reserve
      host ring

/-- A fetch whose turn it is, by what the read of the entry gives. -/
theorem exec_ringEntryFetch {entry : BufRead} (ht : (s.at_ t).turnOf host ring = true) :
    exec (.ringEntryFetch t host ring entry) s = .next (
      match entry with
      | .failed => ((s.at_ t).entryRead host ring).setRing host ring (((s.at_ t).ring host ring).leave .error 4)
      | .slow => (s.at_ t).entryRead host ring
      | .data b =>
        let c := cmdOf host ring b
        let taken := (s.at_ t).entryTaken host ring
        if c.fence && (s.at_ t).startedOn host ring ≠ 0 then
          taken.setRing host ring { taken.ring host ring with fenced := some { cmd := c, mode := (s.at_ t).dev.mode } }
        else taken.startAs c (s.at_ t).dev.mode) := by
  simp only [exec, execRingEntryFetch, ht]
  cases entry <;> rfl

/-- The ring after its entry is taken: one more reservation, and `sq_head` past the entry. -/
theorem State.entryTaken_ring (s : State) (host ring : Nat) :
    (s.entryTaken host ring).ring host ring = { s.ring host ring with
      sqHead := ((s.ring host ring).sqHead + 1) % (s.ring host ring).size,
      reserved := (s.ring host ring).reserved + 1 } := by
  have hring (g : Ring) : (((s.entryRead host ring).setRing host ring g).writeShadow host ring).ring host ring = g :=
    State.setRing_same _ _ _ _
  unfold State.entryTaken State.reserve
  rw [State.setRing_same, hring]

theorem State.setRing_started (s : State) (h r : Nat) (g : Ring) : (s.setRing h r g).host.started = s.host.started := rfl

theorem State.entryTaken_started (s : State) (host ring : Nat) : (s.entryTaken host ring).host.started = s.host.started := rfl

theorem exec_hostWriteFailed (ha : ((s.at_ t).ring host ring).state = .active) :
    exec (.hostWriteFailed t host ring) s =
      .next ((s.at_ t).setRing host ring (((s.at_ t).ring host ring).leave .error 5)) := by
  simp [exec, execHostWriteFailed, ha]

theorem exec_ringDrained (hst : ((s.at_ t).ring host ring).state = .draining ∨ ((s.at_ t).ring host ring).state = .error)
    (hn : (s.at_ t).startedOn host ring = 0) (he : ((s.at_ t).ring host ring).enable = false) :
    exec (.ringDrained t host ring) s =
      .next ((s.at_ t).setRing host ring { (s.at_ t).ring host ring with state := .disabled }) := by
  simp [exec, execRingDrained, hst, hn, he]

theorem exec_registerWrite_sqBaseLow {h r v : Nat} (hh : h < 4) (hr : r < 16) (hv : v < 2 ^ 32)
    (ha : (s.at_ t).answers h = true) :
    exec (.registerWrite t [{ host := h, addr := 0x00101000 + 0x40 * r, size := 4, value := v }]) s =
      .next ((s.at_ t).setRing h r (((s.at_ t).ring h r).baseWrite 0 v)) := by
  simp only [exec, execRegisterWrite]
  rw [claimsOf_singleton (by exact hh), each_cons, each_nil, State.regWrite_sqBaseLow hh hr hv ha]

end

/-- Settles O5. Each row sets the ring to what the model's function on rings gives (the `exec_` lemmas), and each clause is one case of that
function (`Ring.enableWrite_valid`, `Ring.doorbell_backwards`, …). That the error code reads 0 from an enable on and is kept by a
disable and by RING_DRAINED is the model's choice (log entry 55), not the spec's word. -/
theorem ringRegistersComplete : Obligations.RingRegistersComplete := by
  unfold Obligations.RingRegistersComplete
  refine ⟨?_, ?_, ?_, ?_, ?_, ?_, ?_, ?_, ?_, ?_, ?_, ?_, ?_, ?_, ?_⟩
  · rintro host ring value t s ⟨ha, hr, hb, hd, hvalid⟩
    exact ⟨_, exec_ringCfgEnable ha hr hb, by rw [Ring.enableWrite_valid hd ((Ring.configure_valid _ _).mpr hvalid), Ring.configure, hb]⟩
  · rintro host ring value t s ⟨ha, hr, hb, hd, hbad⟩
    have hinvalid : (((s.at_ t).ring host ring).configure value).valid = false := by
      rw [← Bool.not_eq_true, Ring.configure_valid]
      omega
    refine ⟨_, exec_ringCfgEnable ha hr hb, ?_⟩
    simp only [State.setRing_same, Ring.enableWrite_invalid hd hinvalid]
    exact ⟨hd, trivial⟩
  · rintro host ring value t s ⟨ha, hr, hb, hst⟩
    exact ⟨_, exec_ringCfgDisable ha hr hb, by rw [Ring.disableWrite_drains hst]; rfl⟩
  · rintro host ring value t s ⟨ha, hr, hb, hd⟩
    exact ⟨_, exec_ringCfgDisable ha hr hb, by rw [Ring.disableWrite_disabled hd, Ring.configure, hb]⟩
  · rintro host ring value t s ⟨ha, hr, hd, hv, hforward⟩
    exact ⟨_, exec_sqTail ha hr, by
      rw [Ring.sqTailWrite, Ring.doorbell_accepts hd hv (decide_eq_false (Nat.not_lt.mpr hforward))]⟩
  · rintro host ring value t s ⟨ha, hr, hact, hv⟩
    exact ⟨_, exec_sqTail ha hr, by rw [Ring.sqTailWrite, Ring.doorbell_outOfRange hact hv]; rfl⟩
  · rintro host ring value t s ⟨ha, hr, hd, hv, hforward⟩
    exact ⟨_, exec_cqHead ha hr, by
      rw [Ring.cqHeadWrite, Ring.doorbell_accepts hd hv (decide_eq_false (Nat.not_lt.mpr hforward))]⟩
  · rintro host ring value t s ⟨ha, hr, hact, hv, hback⟩
    exact ⟨_, exec_cqHead ha hr, by rw [Ring.cqHeadWrite, Ring.doorbell_backwards hact hv (decide_eq_true hback)]; rfl⟩
  · rintro writes h r v t s ⟨rfl, hh, hr, hv, ha, hd⟩
    exact ⟨_, exec_registerWrite_sqBaseLow hh hr hv ha, by rw [Ring.baseWrite_sqBaseLow hd]; rfl⟩
  · rintro host ring entry b t s ⟨hturn, rfl, hfence⟩
    refine ⟨_, exec_ringEntryFetch hturn, ?_⟩
    simp only [hfence, Bool.false_and]
    rfl
  · rintro host ring entry t s ⟨hturn, rfl⟩
    exact ⟨_, exec_ringEntryFetch hturn, rfl⟩
  · rintro host ring entry b t s ⟨hturn, rfl, hfence, hbusy⟩
    refine ⟨_, exec_ringEntryFetch hturn, ?_⟩
    simp only [hfence, hbusy, ne_eq, not_false_eq_true, decide_true, Bool.and_self, if_true, State.setRing_same,
      State.entryTaken_ring, State.setRing_started, State.entryTaken_started, and_self]
  · rintro host ring entry t s ⟨hturn, rfl⟩
    exact ⟨_, exec_ringEntryFetch hturn, rfl⟩
  · rintro host ring t s hact
    exact ⟨_, exec_hostWriteFailed hact, rfl⟩
  · rintro host ring t s ⟨hst, hidle, hoff⟩
    exact ⟨_, exec_ringDrained hst hidle hoff, rfl⟩

end Sys2Proof.Machine
end


section
/-! SUPPORT for O56, O6 and O54. The realm: the domains, the owners, the principal and the epochs. One lemma per function of the model that
leaves it as it is, in the order of the model's files: the functions that change the realm are few, and are treated after these. -/

namespace Sys2Proof.Machine

-- One thread elaborates: the stack of each counts against the memory that a compile may take.
set_option Elab.async false

/-- What the rules of the domains rest on (R88–R94, R97, R98): the domains and their hosts, the owner of each resource, the principal,
whether it is valid, the domains that wait for a successor, and the epochs. -/
def State.realm (s : State) : Sparse Domain × Sparse Nat × Nat × Bool × List Nat × Sparse Nat :=
  (s.dom.domains, s.dom.owner, s.dom.principal, s.dom.valid, s.dom.orphans, s.fw.epochs)

/-- Two states of one realm. -/
def SameRealm (s s' : State) : Prop := s'.realm = s.realm

namespace SameRealm

variable {s a b : State}

theorem trans (h : SameRealm s a) (k : SameRealm a b) : SameRealm s b := Eq.trans k h

/-- An update of any part but the domains and the flash. -/
theorem set {now free pending dev units host lant ports eli pkts nextPkt parse tables assoc eng scout act buf tm pol fab cipher pon dram
    time} (h : SameRealm s a) :
    SameRealm s
      { now, free, pending, dev, units, host, dom := a.dom, lant, ports, eli, pkts, nextPkt, parse, tables, assoc, eng, scout, act, buf, tm,
        pol, fab, cipher, pon, dram, fw := a.fw, time } := h

/-- An update of the flash that keeps the epochs, with any part but the domains. -/
theorem set_fw {now free pending dev units host lant ports eli pkts nextPkt parse tables assoc eng scout act buf tm pol fab cipher pon
    dram time} {f : Fw} (h : SameRealm s a) (e : f.epochs = a.fw.epochs := by rfl) :
    SameRealm s
      { now, free, pending, dev, units, host, dom := a.dom, lant, ports, eli, pkts, nextPkt, parse, tables, assoc, eng, scout, act, buf, tm,
        pol, fab, cipher, pon, dram, fw := f, time } := by
  unfold SameRealm State.realm at *
  dsimp only
  rw [e]
  exact h

/-- An update of the key lock, the keys, a session, the nonce or the timeout, with any part but the flash. -/
theorem set_dom {now free pending dev units host lant ports eli pkts nextPkt parse tables assoc eng scout act buf tm pol fab cipher pon
    dram time changeSeq timeoutMs successors beat keys ladderOff lock session nonce provisioned} (h : SameRealm s a) :
    SameRealm s
      { now, free, pending, dev, units, host, lant, ports, eli, pkts, nextPkt, parse, tables, assoc, eng, scout, act, buf, tm, pol, fab,
        cipher, pon, dram, fw := a.fw, time,
        dom := { domains := a.dom.domains, owner := a.dom.owner, principal := a.dom.principal, valid := a.dom.valid,
                 orphans := a.dom.orphans, changeSeq, timeoutMs, successors, beat, keys, ladderOff, lock, session, nonce, provisioned } } := h

/-- What differs in one part beside the host side, be it neither the domains nor the flash. -/
theorem within {p : Part} (w : Within p a b) (h : SameRealm s a) (hd : p ≠ .dom := by decide) (hf : p ≠ .fw := by decide) :
    SameRealm s b := by
  have hdom : b.dom = a.dom := w.same.2 .dom hd.symm (by decide)
  have hfw : b.fw = a.fw := w.same.2 .fw hf.symm (by decide)
  unfold SameRealm State.realm at *
  rw [hdom, hfw]
  exact h

theorem host (k : OnlyHost a b) (h : SameRealm s a) : SameRealm s b := by
  rw [k]
  exact h

theorem ite {c : Prop} [Decidable c] (h : SameRealm s a) (k : SameRealm s b) : SameRealm s (if c then a else b) := by
  split
  · exact h
  · exact k

theorem ite_done {c : Prop} [Decidable c] {d e : Done} (h : SameRealm s d.s) (k : SameRealm s e.s) :
    SameRealm s (if c then d else e).s := by
  split
  · exact h
  · exact k

theorem ite_token {c : Prop} [Decidable c] {d e : TokenCheck} (h : SameRealm s d.s) (k : SameRealm s e.s) :
    SameRealm s (if c then d else e).s := by
  split
  · exact h
  · exact k

theorem ite_fst {c : Prop} [Decidable c] {α : Type} {x y : State × α} (h : SameRealm s x.1) (k : SameRealm s y.1) :
    SameRealm s (if c then x else y).1 := by
  split
  · exact h
  · exact k

theorem ite_snd {c : Prop} [Decidable c] {α : Type} {x y : α × State} (h : SameRealm s x.2) (k : SameRealm s y.2) :
    SameRealm s (if c then x else y).2 := by
  split
  · exact h
  · exact k

theorem each {α : Type} {f : α → State → State} {l : List α} (hf : ∀ {x a}, SameRealm s a → SameRealm s (f x a))
    (h : SameRealm s a) : SameRealm s (Sys2Proof.each f l a) :=
  each_inv f (SameRealm s) (fun _ _ => hf) l a h

end SameRealm

variable {s a b : State}

/-! ### The functions of Machine/Ops.lean -/

theorem SameRealm.drawNonce (h : SameRealm s a) : SameRealm s a.drawNonce :=
  h

theorem SameRealm.count {i n} (h : SameRealm s a) : SameRealm s (a.count i n) :=
  .ite h (.ite (.ite h h) h)

theorem SameRealm.dramReq {stack addr bytes rt requester cell packet} (h : SameRealm s a) : SameRealm s
    (a.dramReq stack addr bytes rt requester cell packet) :=
  .ite h h

theorem SameRealm.dramBest {stack bytes requester} (h : SameRealm s a) : SameRealm s (a.dramBest stack bytes requester) :=
  .dramReq h

theorem SameRealm.dramAny {bytes requester} (h : SameRealm s a) : SameRealm s (a.dramAny bytes requester) :=
  .dramBest h

theorem SameRealm.countDomain {d j} (h : SameRealm s a) : SameRealm s (a.countDomain d j) :=
  .count h

theorem SameRealm.ploam {tree onu code value} (h : SameRealm s a) : SameRealm s (a.ploam tree onu code value) :=
  .ite h h

theorem SameRealm.releasePloam (h : SameRealm s a) : SameRealm s a.releasePloam :=
  .each .ploam h

theorem SameRealm.event {code detail result mask dest} (h : SameRealm s a) : SameRealm s (a.event code detail result mask dest) :=
  .each (fun h => .ite (.host (eventHost_onlyHost _ _ _) h) h) h

theorem SameRealm.eventMask {mask code detail result} (h : SameRealm s a) : SameRealm s (a.eventMask mask code detail result) :=
  .event h

theorem SameRealm.eventTo {d code detail result} (h : SameRealm s a) : SameRealm s (a.eventTo d code detail result) :=
  .eventMask h

theorem SameRealm.eventAll {code detail result} (h : SameRealm s a) : SameRealm s (a.eventAll code detail result) :=
  .event h

theorem SameRealm.answer {c st detail result long} (h : SameRealm s a) : SameRealm s (a.answer c st detail result long) := by
  unfold State.answer
  split
  · exact h
  · exact .ite h (.ite h (.host (releaseFence_onlyHost _ _ _) (.host (route_onlyHost _ _ _ _) h)))

/-- A command's checks and its reply leave the realm as it was; only its effect can change it (R79). -/
theorem SameRealm.command {code c who errs done res} (h : SameRealm s a) (hd : SameRealm s done.s) :
    SameRealm s (a.command code c who errs done res) := by
  unfold State.command
  split
  · exact h
  · refine .ite h ?_
    split
    · exact .answer h
    · exact .ite (.host (keepWorking_onlyHost _ _) hd) (.answer hd)

/-- The numbers of a record stand as they are: only the log and the events change. -/
theorem SameRealm.record {kind n severity action cause mask lost planned} (h : SameRealm s a) :
    SameRealm s (a.record kind n severity action cause mask lost planned) := by
  simp only [SameRealm, State.realm, State.record_rest]
  exact h

theorem SameRealm.abandonHandover {st} (h : SameRealm s a) : SameRealm s (a.abandonHandover st) := by
  unfold State.abandonHandover
  split
  · exact h
  · dsimp only
    split
    · exact .eventTo (.releasePloam h)
    · exact .ite (.answer (.set (.eventTo (.releasePloam h)))) (.answer (.set (.eventTo (.releasePloam h))))

theorem SameRealm.afterMapOut (h : SameRealm s a) : SameRealm s a.afterMapOut :=
  .ite (.ite (.ite (.within (setMode_within _ _) h) h) (.abandonHandover (.within (setMode_within _ _) h))) h

theorem SameRealm.afterReturn (h : SameRealm s a) : SameRealm s a.afterReturn :=
  .ite (.within (setMode_within _ _) h) h

theorem SameRealm.mapOut {kind n cause mask lost planned} (h : SameRealm s a) : SameRealm s (a.mapOut kind n cause mask lost planned) :=
  .ite h (.afterMapOut (.record h))

theorem SameRealm.failAgain {kind n cause mask} (h : SameRealm s a) : SameRealm s (a.failAgain kind n cause mask) :=
  .ite (.record h) (.record h)

theorem SameRealm.bringBack {kind n mask planned} (h : SameRealm s a) : SameRealm s (a.bringBack kind n mask planned) :=
  .ite (.afterReturn (.record (.set (.drawNonce h)))) h

/-! ### The functions of Machine/Rings.lean -/

theorem SameRealm.regionRead {region off} (h : SameRealm s a) : SameRealm s (a.regionRead region off) :=
  .ite h h

/-! ### The functions of Machine/Buffer.lean -/

theorem SameRealm.takeRing {far x} (h : SameRealm s a) (e : a.takeRing far = some (x, b)) : SameRealm s b :=
  .within (takeRing_within e) h

theorem SameRealm.takePointer {p far x} (h : SameRealm s a) (e : a.takePointer p far = some (x, b)) : SameRealm s b := by
  unfold State.takePointer at e
  dsimp only at e
  split at e
  · split at e
    · cases e
    · cases e
      exact h
  · exact h.takeRing e

theorem SameRealm.bufError {kind addr} (h : SameRealm s a) : SameRealm s (a.bufError kind addr) :=
  .eventTo h

theorem SameRealm.sendPause {port cls quanta} (h : SameRealm s a) : SameRealm s (a.sendPause port cls quanta) :=
  .ite (by
    dsimp only
    split
    · exact h
    · exact .ite h h) h

theorem SameRealm.updatePause {port cls} (h : SameRealm s a) : SameRealm s (a.updatePause port cls) :=
  .ite h (.sendPause h)

theorem SameRealm.updatePort {port} (h : SameRealm s a) : SameRealm s (a.updatePort port) :=
  .each .updatePause h

theorem SameRealm.updateThreshold {k i} (h : SameRealm s a) : SameRealm s (a.updateThreshold k i) :=
  .ite h (.each .updatePort (.eventTo h))

theorem SameRealm.settlePool {k port} (h : SameRealm s a) : SameRealm s (a.settlePool k port) :=
  .updatePort (.each .updateThreshold h)

theorem SameRealm.grantOf {k far x} (h : SameRealm s a) (e : a.grantOf k far = some (x, b)) : SameRealm s b :=
  h.takePointer (Option.ite_none_right_eq_some.1 e).2

theorem SameRealm.grant {k far x} (h : SameRealm s a) (e : a.grant k far = some (x, b)) : SameRealm s b := by
  unfold State.grant at e
  split at e
  · rename_i hgrant
    cases e
    exact h.grantOf hgrant
  · exact h.grantOf e

theorem SameRealm.charge {x acct ingress bytes} (h : SameRealm s a) : SameRealm s (a.charge x acct ingress bytes) :=
  .settlePool h

theorem SameRealm.givePointer {x k} (h : SameRealm s a) : SameRealm s (a.givePointer x k) :=
  .ite h (.ite (.within (giveRing_within _ _) h) (.ite (.ite h (.within (giveRing_within _ _) h)) (.ite h (.within
    (giveRing_within _ _) h))))

theorem SameRealm.freeNow {x} (h : SameRealm s a) : SameRealm s (a.freeNow x) :=
  .ite (.bufError h) (.ite (.bufError h) (.settlePool (.givePointer h)))

theorem SameRealm.freeCell {x} (h : SameRealm s a) : SameRealm s (a.freeCell x) :=
  .ite h (.freeNow h)

theorem SameRealm.endCycle (h : SameRealm s a) : SameRealm s a.endCycle :=
  .ite h (.each .freeNow h)

theorem SameRealm.discard {k} (h : SameRealm s a) : SameRealm s (a.discard k) :=
  .set (.each .freeCell h)

theorem SameRealm.countAccount {acct ai pi} (h : SameRealm s a) : SameRealm s (a.countAccount acct ai pi) :=
  h

theorem SameRealm.countQuota {acct} (h : SameRealm s a) : SameRealm s (a.countQuota acct) :=
  .ite (.countAccount h) h

theorem SameRealm.countEmpty {acct} (h : SameRealm s a) : SameRealm s (a.countEmpty acct) :=
  .count (.countAccount h)

theorem SameRealm.loadWriters {cls l} (h : SameRealm s a) : SameRealm s (loadWriters cls l a) := by
  induction l generalizing a with
  | nil => exact h
  | cons r _ ih =>
    obtain ⟨c, k⟩ := r
    unfold Machine.loadWriters
    refine .ite ?_ (ih h)
    split
    · exact ih h
    · exact ih h

theorem SameRealm.feedWriters {cls} (h : SameRealm s a) : SameRealm s (a.feedWriters cls) :=
  .loadWriters h

theorem SameRealm.toWriter {cls k} (h : SameRealm s a) : SameRealm s (a.toWriter cls k) :=
  .feedWriters h

theorem SameRealm.link {k x1} (h : SameRealm s a) : SameRealm s (a.link k x1) :=
  .set (by
    dsimp only
    split
    · exact h
    · exact h)

theorem SameRealm.refuse {r k empty} (h : SameRealm s a) : SameRealm s (a.refuse r k empty) :=
  .set (.each (fun h => h) (.set (.ite (.countEmpty h) (.countQuota h))))

theorem SameRealm.returnAside (h : SameRealm s a) : SameRealm s a.returnAside :=
  .each (fun h => .within (giveRing_within _ _) h) h

/-! ### The functions of Machine/Queue.lean -/

theorem SameRealm.settleRing {parent pass cand n r} (h : SameRealm s a) : SameRealm s (settleRing parent pass cand n r a).2 := by
  induction n generalizing a r with
  | zero => exact h
  | succ n ih =>
    cases r with
    | nil => exact h
    | cons c t => exact .ite_snd h (ih h)

theorem SameRealm.pickFrom {leaf k pass l c} (h : SameRealm s a) (e : pickFrom leaf k pass l a = some (c, b)) : SameRealm s b := by
  induction l generalizing a with
  | nil => cases e
  | cons prio t ih =>
    unfold Machine.pickFrom at e
    dsimp only at e
    split at e
    · exact ih h e
    · split at e
      · cases e
      · cases e
        exact .set (.settleRing h)

theorem SameRealm.pick {leaf k c p} (h : SameRealm s a) (e : pick leaf k a = some (c, p, b)) : SameRealm s b := by
  unfold Machine.pick at e
  split at e
  · rename_i hpick
    cases e
    exact h.pickFrom hpick
  · split at e
    · rename_i hpick
      cases e
      exact h.pickFrom hpick
    · cases e

theorem SameRealm.descend {leaf n k l} (h : SameRealm s a) (e : descend leaf n k a = some (l, b)) : SameRealm s b := by
  induction n generalizing a k l with
  | zero => cases e
  | succ n ih =>
    unfold Machine.descend at e
    split at e
    · cases e
      exact h
    · split at e
      · cases e
      · rename_i hpick
        split at e
        · cases e
        · rename_i hrest
          cases e
          exact ih (h.pick hpick) hrest

theorem SameRealm.moveNode {x k rank} (h : SameRealm s a) : SameRealm s (a.moveNode x k rank) :=
  h

theorem SameRealm.asBefore (h : SameRealm s a) : SameRealm s a.asBefore := by
  unfold State.asBefore
  split
  · exact .ite h h
  · exact h

theorem SameRealm.carryRings {l k} (h : SameRealm s a) : SameRealm s (carryRings l k a) := by
  induction l generalizing a k with
  | nil => exact h
  | cons _ _ ih => exact ih h

theorem SameRealm.carryDeficit {k} (h : SameRealm s a) : SameRealm s (a.carryDeficit k a) :=
  h

theorem SameRealm.selectPath {node l} (h : SameRealm s a) (e : a.selectPath node = some (l, b)) : SameRealm s b := by
  unfold State.selectPath at e
  split at e
  · cases e
  · rename_i hpath
    split at e
    · cases e
      exact (SameRealm.asBefore h).descend hpath
    · cases e
      exact .each (fun h => .carryDeficit (k := node) h) (.carryRings h)

theorem SameRealm.clearIdle {k} (h : SameRealm s a) : SameRealm s (a.clearIdle k) :=
  .ite h h

theorem SameRealm.leaveQueue {q k} (h : SameRealm s a) : SameRealm s (a.leaveQueue q k) :=
  .ite (.each .clearIdle h) h

theorem SameRealm.countQueue {q i n} (h : SameRealm s a) : SameRealm s (a.countQueue q i n) :=
  h

theorem SameRealm.dropQueued {q k} (h : SameRealm s a) : SameRealm s (a.dropQueued q k) :=
  .within (noteDemand_within _ _) (.discard (.leaveQueue h))

theorem SameRealm.drainQueueWith {f q} (hf : ∀ {a}, SameRealm s a → SameRealm s (f a)) (h : SameRealm s a) :
    SameRealm s (a.drainQueueWith f q) :=
  .each (fun h => hf (.dropQueued h)) h

theorem SameRealm.downFlush {port} (h : SameRealm s a) : SameRealm s (a.downFlush port) :=
  .ite (.each (fun h => .drainQueueWith (fun h => h) h) h) h

theorem SameRealm.debitWith {f l k} (h : SameRealm s a) : SameRealm s (debitWith f l k a) := by
  induction l generalizing a k with
  | nil => exact h
  | cons _ _ ih => exact ih h

theorem SameRealm.debitPath {len path k} (h : SameRealm s a) : SameRealm s (debitPath len path k a) :=
  .debitWith h

theorem SameRealm.refillNodes (h : SameRealm s a) : SameRealm s a.refillNodes :=
  .each (fun h => h) h

theorem SameRealm.deleteNode {k} (h : SameRealm s a) : SameRealm s (a.deleteNode k) :=
  .set (.within (detach_within _ _) h)

/-! ### The functions of Machine/Ports.lean -/

theorem SameRealm.moveLink {p st cause} (h : SameRealm s a) : SameRealm s (a.moveLink p st cause) :=
  .ite h (.downFlush (.eventTo h))

theorem SameRealm.portFault {p cause} (h : SameRealm s a) : SameRealm s (a.portFault p cause) :=
  .ite (.ite (.moveLink h) h) (by
    split
    · exact h
    · exact .ite (.moveLink h) h
    · exact .moveLink h
    · exact .moveLink h
    · exact .ite (.moveLink h) h)

theorem SameRealm.raiseCond {p k} (h : SameRealm s a) : SameRealm s (a.raiseCond p k) :=
  .ite h (.portFault h)

theorem SameRealm.laneFault {detail mask} (h : SameRealm s a) : SameRealm s (a.laneFault detail mask) :=
  .eventMask h

theorem SameRealm.quadDown {q planned} (h : SameRealm s a) : SameRealm s (a.quadDown q planned) :=
  .each (fun h => by
    split
    · exact .portFault h
    · exact h) (.afterMapOut (.laneFault (.record (.each (fun h => h) h))))

/-! ### The functions of Machine/Tables.lean -/

theorem SameRealm.fillLeaf {d k leaf} (h : SameRealm s a) : SameRealm s (a.fillLeaf d k leaf) :=
  .ite h (.ite h h)

theorem SameRealm.entryError {k e} (h : SameRealm s a) : SameRealm s (a.entryError k e) :=
  .ite h (.ite (.within (tableError_within _ _ _ _ _ _) h) (.ite (.ite (.within (tableError_within _ _ _ _ _ _) h) (.ite (.within
    (tableError_within _ _ _ _ _ _) h) (.within (tableError_within _ _ _ _ _ _) (.within (removeEntry_within _ _ _) h)))) h))

theorem SameRealm.sendLearn {r} (h : SameRealm s a) : SameRealm s (a.sendLearn r) :=
  .ite (.set (.countDomain h)) (.countDomain (.countDomain h))

/-! ### The functions of Machine/Assoc.lean -/

theorem SameRealm.issueSearch {th tag k key} (h : SameRealm s a) : SameRealm s (a.issueSearch th tag k key) :=
  .set (.ite h h)

/-! ### The functions of Machine/Thread.lean -/

theorem SameRealm.setChannel {c ch x} (h : SameRealm s a) : SameRealm s (a.setChannel c ch x) :=
  h

theorem SameRealm.doWait {th mask} (h : SameRealm s a) : SameRealm s (a.doWait th mask) :=
  .within (wake_within _ _) h

theorem SameRealm.touch {k} (h : SameRealm s a) : SameRealm s (a.touch k) :=
  h

theorem SameRealm.ledger {th col n} (h : SameRealm s a) : SameRealm s (a.ledger th col n) :=
  .count h

theorem SameRealm.resolveSlots {th kept} (h : SameRealm s a) : SameRealm s (a.resolveSlots th kept) :=
  .ite (.ledger h) (.count (.ledger h))

theorem SameRealm.startPass {th k} (h : SameRealm s a) : SameRealm s (a.startPass th k) :=
  .within (quietAt_within _ _) (.countDomain h)

theorem SameRealm.setClusterQueue {c egress l} (h : SameRealm s a) : SameRealm s (a.setClusterQueue c egress l) :=
  .ite h h

theorem SameRealm.feed {c} (h : SameRealm s a) : SameRealm s (a.feed c) :=
  .ite h (by
    dsimp only
    split
    · exact .startPass (.setClusterQueue (.ite h h))
    · exact .ite h h)

theorem SameRealm.feedMany {c n} (h : SameRealm s a) : SameRealm s (a.feedMany c n) := by
  induction n generalizing a with
  | zero => exact h
  | succ n ih => exact .ite h (ih (.feed h))

theorem SameRealm.refeed {c} (h : SameRealm s a) : SameRealm s (a.refeed c) :=
  .feedMany h

theorem SameRealm.refeedAll (h : SameRealm s a) : SameRealm s a.refeedAll :=
  .each .refeed h

theorem SameRealm.enterCluster {c k} (h : SameRealm s a) : SameRealm s (a.enterCluster c k) := by
  unfold State.enterCluster
  dsimp only
  split
  · exact .startPass h
  · exact .ite (.setClusterQueue h) (.ite h (.set (.count h)))

theorem SameRealm.leaveBucket {k} (h : SameRealm s a) : SameRealm s (a.leaveBucket k) :=
  h

theorem SameRealm.dropPass {k} (h : SameRealm s a) : SameRealm s (a.dropPass k) :=
  .set (.leaveBucket h)

theorem SameRealm.unstage {th} (h : SameRealm s a) : SameRealm s (a.unstage th) := by
  unfold State.unstage
  dsimp only
  split
  · exact h
  · exact .setChannel h

theorem SameRealm.stageFirst {th ch word value} (h : SameRealm s a) : SameRealm s (a.stageFirst th ch word value) :=
  .ite (.setChannel h) h

theorem SameRealm.retire {th restart} (h : SameRealm s a) : SameRealm s (a.retire th restart) :=
  .refeed h

theorem SameRealm.takeFault {th code detail} (h : SameRealm s a) : SameRealm s (a.takeFault th code detail) :=
  .retire (.ite (.eventTo (.ite (.set (.ite (.countDomain (.countDomain (by
    split
    · exact .dropPass (.within (channelMoved_within _ _) (.unstage h))
    · exact .within (channelMoved_within _ _) (.unstage h)))) (.countDomain (by
      split
      · exact .dropPass (.within (channelMoved_within _ _) (.unstage h))
      · exact .within (channelMoved_within _ _) (.unstage h))))) (.ite (.countDomain (.countDomain (by
      split
      · exact .dropPass (.within (channelMoved_within _ _) (.unstage h))
      · exact .within (channelMoved_within _ _) (.unstage h)))) (.countDomain (by
        split
        · exact .dropPass (.within (channelMoved_within _ _) (.unstage h))
        · exact .within (channelMoved_within _ _) (.unstage h)))))) (.within (wakeCluster_within _ _) (.set (.ite (.set (.ite
            (.countDomain (.countDomain (by
          split
          · exact .dropPass (.within (channelMoved_within _ _) (.unstage h))
          · exact .within (channelMoved_within _ _) (.unstage h)))) (.countDomain (by
            split
            · exact .dropPass (.within (channelMoved_within _ _) (.unstage h))
            · exact .within (channelMoved_within _ _) (.unstage h))))) (.ite (.countDomain (.countDomain (by
            split
            · exact .dropPass (.within (channelMoved_within _ _) (.unstage h))
            · exact .within (channelMoved_within _ _) (.unstage h)))) (.countDomain (by
              split
              · exact .dropPass (.within (channelMoved_within _ _) (.unstage h))
              · exact .within (channelMoved_within _ _) (.unstage h))))))))

theorem SameRealm.noteCompare {th} (h : SameRealm s a) : SameRealm s (a.noteCompare th) := by
  unfold State.noteCompare
  dsimp only
  split
  · exact h
  · exact .ite h h

theorem SameRealm.confirm {th} (h : SameRealm s a) : SameRealm s (a.confirm th) :=
  .set (by
    split
    · exact .touch (.each (fun h => h) (.resolveSlots h))
    · exact .each (fun h => h) (.resolveSlots h))

theorem SameRealm.squash {th} (h : SameRealm s a) : SameRealm s (a.squash th) := by
  unfold State.squash
  dsimp only
  split
  · exact .resolveSlots h
  · split
    · exact .ite (.set (.count (.count (.countDomain (.set (.set (.set (.set (.resolveSlots h))))))))) (.takeFault (.count (.count
        (.countDomain (.set (.set (.set (.set (.resolveSlots h)))))))))
    · exact .count (.count (.countDomain (.set (.set (.set (.set (.resolveSlots h)))))))

theorem SameRealm.stage {th ch word value} (h : SameRealm s a) : SameRealm s (a.stage th ch word value) := by
  unfold State.stage
  dsimp only
  split
  · exact .ite h (.takeFault h)
  · exact .stageFirst h

theorem SameRealm.commit {th} (h : SameRealm s a) : SameRealm s (a.commit th) := by
  unfold State.commit
  dsimp only
  split
  · exact .takeFault h
  · exact .setChannel h

theorem SameRealm.chanRead {th ch} (h : SameRealm s a) : SameRealm s (a.chanRead th ch) := by
  unfold State.chanRead
  dsimp only
  split
  · exact h
  · exact .within (channelMoved_within _ _) (.setChannel h)

theorem SameRealm.localWrite {th w v} (h : SameRealm s a) : SameRealm s (a.localWrite th w v) :=
  h

theorem SameRealm.queueFill {c f} (h : SameRealm s a) : SameRealm s (a.queueFill c f) :=
  .ite h h

theorem SameRealm.passEnd {th e} (h : SameRealm s a) : SameRealm s (a.passEnd th e) := by
  unfold State.passEnd
  dsimp only
  split
  · exact .retire h
  · exact .ite (.takeFault h) (.ite (.retire (.dropPass h)) (by
    split
    · exact .takeFault h
    · exact .retire h))

theorem SameRealm.startDma {th d} (h : SameRealm s a) : SameRealm s (a.startDma th d) :=
  .ite (.takeFault h) h

theorem SameRealm.runOp {th op} (h : SameRealm s a) : SameRealm s (a.runOp th op) := by
  unfold State.runOp
  dsimp only
  split
  · exact h
  · exact h
  · exact .stage h
  · exact .commit h
  · exact .chanRead h
  · exact .ite (.takeFault h) (.takeFault h)
  · exact h
  · exact .startDma h
  · exact .localWrite h
  · exact h
  · exact .sendLearn h
  · split
    · exact h
    · exact h
  · exact .passEnd h

theorem SameRealm.settle {th} (h : SameRealm s a) : SameRealm s (a.settle th) :=
  .ite h (.ite (.passEnd (.set (.ite (.confirm h) (.ite (.resolveSlots h) h)))) (by
    dsimp only
    split
    · exact .takeFault (.set (.ite (.confirm h) (.ite (.resolveSlots h) h)))
    · exact .runOp (.set (.ite (.confirm h) (.ite (.resolveSlots h) h)))
    · exact .set (.ite (.confirm h) (.ite (.resolveSlots h) h))))

theorem SameRealm.fault {th code detail} (h : SameRealm s a) : SameRealm s (a.fault th code detail) :=
  .ite (.ite h (.settle h)) (.takeFault h)

theorem SameRealm.doOp {th op} (h : SameRealm s a) : SameRealm s (a.doOp th op) :=
  .ite (.settle h) (.runOp h)

theorem SameRealm.instr {th f} (hf : ∀ {a}, SameRealm s a → SameRealm s (f a)) (h : SameRealm s a) : SameRealm s (a.instr th f) :=
  .ite (hf h) h

theorem SameRealm.enterHeld {c l} (h : SameRealm s a) : SameRealm s (enterHeld c l a) := by
  induction l generalizing a with
  | nil => exact h
  | cons _ _ ih => exact .ite (.set (ih h)) (ih (.enterCluster h))

theorem SameRealm.releaseHold {i} (h : SameRealm s a) : SameRealm s (a.releaseHold i) :=
  .enterHeld h

theorem SameRealm.releaseFrom {c} (h : SameRealm s a) : SameRealm s (a.releaseFrom c) :=
  .each (fun h => .ite (.releaseHold h) h) h

theorem SameRealm.moveSteer {i c wait} (h : SameRealm s a) : SameRealm s (a.moveSteer i c wait) :=
  .ite h (.ite h (.ite (.releaseHold h) h))

theorem SameRealm.steerAway {c i} (h : SameRealm s a) : SameRealm s (a.steerAway c i) :=
  .ite h (by
    dsimp only
    split
    · exact h
    · exact .moveSteer h)

theorem SameRealm.dropCluster {c} (h : SameRealm s a) : SameRealm s (a.dropCluster c).1 :=
  .set (.setClusterQueue (.setClusterQueue (.each .dropPass h)))

theorem SameRealm.resetCluster {c} (h : SameRealm s a) : SameRealm s (a.resetCluster c) :=
  .set (.set (.each (fun h => .ite (.resolveSlots h) h) h))

theorem SameRealm.startResidents {c} (h : SameRealm s a) : SameRealm s (a.startResidents c) :=
  .ite h (.each (fun h => .ite h h) h)

/-! ### The functions of Machine/Engine.lean -/

theorem SameRealm.dispatch {k hash} (h : SameRealm s a) : SameRealm s (a.dispatch k hash) :=
  .ite h (.ite (.enterCluster h) h)

theorem SameRealm.releaseBucket {c x onward} (ho : ∀ {k a}, SameRealm s a → SameRealm s (onward k a)) (h : SameRealm s a) :
    SameRealm s (a.releaseBucket c x onward) := by
  unfold State.releaseBucket
  split
  · exact h
  · exact .ite h (ho (.ite (.set (.leaveBucket h)) (.leaveBucket h)))

theorem SameRealm.request {th b r} (h : SameRealm s a) : SameRealm s (a.request th b r) := by
  unfold State.request
  dsimp only
  exact .set (.ite (.countDomain h) h)

theorem SameRealm.lookupReads {table key leaves} (h : SameRealm s a) : SameRealm s (a.lookupReads table key leaves) :=
  .ite h (.ite (.each (fun h => .ite h (.dramBest h)) h) (.ite h (.dramBest (.dramBest h))))

theorem SameRealm.respond {th b r} (h : SameRealm s a) : SameRealm s (a.respond th b r) := by
  unfold State.respond
  exact .within (quietAt_within _ _) (.settle (.within (latch_within _ _ _) (.noteCompare h)))

theorem SameRealm.bundle {th op} (h : SameRealm s a) : SameRealm s (a.bundle th op) := by
  unfold State.bundle
  dsimp only
  split
  · exact h
  · exact h
  · exact h
  · exact .ite (.fault h) (.ite (.doOp (.countDomain h)) (.localWrite h))
  · exact .ite (.fault h) (.doOp h)
  · exact .within (wake_within _ _) h
  · exact h
  · exact .doOp h
  · exact .doOp h
  · exact .fault h
  · exact .fault h
  · exact .fault h

theorem SameRealm.idleSlots {c e p n waiting} (h : SameRealm s a) : SameRealm s (a.idleSlots c e p n waiting) := by
  unfold State.idleSlots
  split
  · exact .count h
  · exact .count (.count h)

theorem SameRealm.issueLane {waiting th op} (h : SameRealm s a) : SameRealm s (a.issueLane waiting th op) :=
  .ite (.idleSlots h) (.bundle (.set (.ite h (.ledger h))))

theorem SameRealm.switchSlots {c e} (h : SameRealm s a) : SameRealm s (a.switchSlots c e) :=
  .ite (.refeed h) h

theorem SameRealm.unstated {th} (h : SameRealm s a) : SameRealm s (a.unstated th) :=
  .ite (.within (wake_within _ _) h) h

theorem SameRealm.stall {c} (h : SameRealm s a) : SameRealm s (a.stall c) :=
  .each .steerAway (.eventTo h)

theorem SameRealm.clusterOut {c cause planned} (h : SameRealm s a) : SameRealm s (a.clusterOut c cause planned) :=
  .ite h (.mapOut (.set (.releaseFrom (.each .steerAway (.set (.resetCluster (.dropCluster h)))))))

theorem SameRealm.resume {th step} (h : SameRealm s a) : SameRealm s (a.resume th step) :=
  .settle (.within (retrySlot_within _ _) (.within (wake_within _ _) h))

theorem SameRealm.kill {th} (h : SameRealm s a) : SameRealm s (a.kill th) :=
  .retire (by
    dsimp only
    split
    · exact .set (.dropPass (.within (channelMoved_within _ _) (.unstage (.ite (.resolveSlots h) h))))
    · exact .within (channelMoved_within _ _) (.unstage (.ite (.resolveSlots h) h)))

theorem SameRealm.threadDebugDone {op th} (h : SameRealm s a) : SameRealm s (Machine.threadDebugDone op th a) := by
  unfold Machine.threadDebugDone
  dsimp only
  split
  · exact .ite h h
  · exact .within (quietAt_within _ _) (.resume h)
  · exact .within (quietAt_within _ _) (.kill h)
  · exact .within (quietAt_within _ _) (.resume h)
  · exact h

/-! ### The functions of Machine/Actions.lean -/

theorem SameRealm.sendCopy {p d place x} (h : SameRealm s a) : SameRealm s (a.sendCopy p d place x) :=
  .ite h (.ite h h)

theorem SameRealm.sendCopies {p d k l} (h : SameRealm s a) : SameRealm s (a.sendCopies p d k l) :=
  .each .sendCopy h

theorem SameRealm.afterEdit {k} (h : SameRealm s a) : SameRealm s (a.afterEdit k) :=
  .ite h h

theorem SameRealm.edit {k} (h : SameRealm s a) : SameRealm s (a.edit k) := by
  refine .ite (.dropPass (.countDomain h)) ?_
  generalize a.applyList (a.pkt k) = x
  obtain ⟨b, d, owned⟩ := x
  exact .ite (.dropPass h) (.ite (.dropPass (.set (.ite (.set (.sendCopies h)) (.sendCopies h))))
    (.afterEdit (.set (.ite (.set (.sendCopies h)) (.sendCopies h)))))

/-! ### The functions of Machine/Cipher.lean -/

theorem SameRealm.leaveMac {k x} (h : SameRealm s a) : SameRealm s (a.leaveMac k x) :=
  .ite h h

theorem SameRealm.leaveTun {k x} (h : SameRealm s a) : SameRealm s (a.leaveTun k x) :=
  .ite h h

theorem SameRealm.countMac {k i n} (h : SameRealm s a) : SameRealm s (a.countMac k i n) :=
  .ite h h

theorem SameRealm.countTun {k i n} (h : SameRealm s a) : SameRealm s (a.countTun k i n) :=
  .ite h h

theorem SameRealm.countCport {p i} (h : SameRealm s a) : SameRealm s (a.countCport p i) :=
  h

theorem SameRealm.countBlocks {u n} (h : SameRealm s a) : SameRealm s (a.countBlocks u n) :=
  .count h

theorem SameRealm.macsecOpen {port b} (h : SameRealm s a) : SameRealm s (a.macsecOpen port b).1 := by
  unfold State.macsecOpen
  dsimp only
  split
  · exact .countCport h
  · split
    · exact .countCport h
    · exact .ite_fst (.countMac h) (.countBlocks h)

theorem SameRealm.macsecRx {port b} (h : SameRealm s a) : SameRealm s (a.macsecRx port b).1 :=
  .ite_fst h (.ite_fst (.countCport h) (.ite_fst (.countCport h) (.ite_fst (.macsecOpen h) (.ite_fst (.countCport h) (.countCport h)))))

theorem SameRealm.pnLow {owner sa next tunnel exhausted} (h : SameRealm s a) : SameRealm s (a.pnLow owner sa next tunnel exhausted) :=
  .eventTo h

theorem SameRealm.macsecTx {port b stomp} (h : SameRealm s a) : SameRealm s (a.macsecTx port b stomp).1 :=
  .ite_fst h (.ite_fst (.countCport h) (by
    split
    · exact .countCport h
    · exact .ite_fst (.countCport h) (.ite_fst (.countCport (.ite h (.pnLow (.leaveMac h)))) (.ite (.countMac (.countBlocks (.countMac
        (.countMac (.ite (.pnLow (.leaveMac h)) (.leaveMac h)))))) (.countBlocks (.countMac (.countMac (.ite (.pnLow (.leaveMac h))
          (.leaveMac h)))))))))

theorem SameRealm.espOut {k sa off} (h : SameRealm s a) : SameRealm s (a.espOut k sa off) :=
  .ite (.dropPass (.countTun (.ite h (.pnLow (.leaveTun h))))) (.ite (.dropPass (.set (.ite (.pnLow (.leaveTun (.ite h h))) (.leaveTun
    (.ite h h))))) (.set (.countTun (.countTun (.ite (.pnLow (.leaveTun (.ite h h))) (.leaveTun (.ite h h)))))))

theorem SameRealm.untrust {k sa} (h : SameRealm s a) : SameRealm s (a.untrust k sa) :=
  .ite h (.ite (.dropPass h) (.set (.countTun h)))

theorem SameRealm.espIn {k sa off} (h : SameRealm s a) : SameRealm s (a.espIn k sa off) :=
  .ite (.set (.countTun (.countTun (.leaveTun h)))) (.untrust (.countTun h))

theorem SameRealm.place {port rx} (h : SameRealm s a) (e : a.place port rx = some b) : SameRealm s b := by
  obtain ⟨u, -, rfl⟩ := Option.map_eq_some_iff.1 e
  exact h

theorem SameRealm.placeWaiting (h : SameRealm s a) : SameRealm s a.placeWaiting := by
  refine .each (fun h => ?_) h
  dsimp only
  split
  · exact .raiseCond h
  · rename_i hplace
    exact .ite (.set (h.place hplace)) (.within (clearCond_within _ _ _) (.set (h.place hplace)))

theorem SameRealm.cipherOut {u planned} (h : SameRealm s a) : SameRealm s (a.cipherOut u planned) :=
  .ite h (.ite (.each (fun h => h) (.set (.each (fun h => h) (.eventTo (.mapOut h))))) (.each (fun h => h) (.eventTo (.mapOut h))))

theorem SameRealm.disagree {u} (h : SameRealm s a) : SameRealm s (a.disagree u) :=
  .ite (.cipherOut h) h

theorem SameRealm.disagreeAt {w} (h : SameRealm s a) : SameRealm s (a.disagreeAt w) := by
  unfold State.disagreeAt
  split
  · split
    · exact h
    · dsimp only
      split
      · exact h
      · exact .within (quietAt_within _ _) (.settle (.set (.countMac h)))
  · split
    · exact .countTun h
    · exact .ite (.set (.countTun h)) (.ite (.set (.countTun h)) (.dropPass (.countTun h)))
  · dsimp only
    split
    · exact h
    · exact .ite h (.set (by
      split
      · exact .countMac h
      · exact h))
  · split
    · exact h
    · split
      · exact .ite h h
      · exact h

theorem SameRealm.macsecDir {p rx on} (h : SameRealm s a) (e : a.macsecDir p rx on = some b) : SameRealm s b := by
  unfold State.macsecDir at e
  dsimp only at e
  split at e
  · split at e
    · cases e
      exact h
    · obtain ⟨x, hplace, rfl⟩ := Option.map_eq_some_iff.1 e
      exact .set (h.place hplace)
  · cases e
    exact h

theorem SameRealm.slotGone {slot} (h : SameRealm s a) : SameRealm s (a.slotGone slot) :=
  h

/-! ### The functions of Machine/Eli.lean -/

theorem SameRealm.eliConds {p} (h : SameRealm s a) : SameRealm s (a.eliConds p) :=
  .ite (.ite (.ite h (.ite (.raiseCond h) (.within (clearCond_within _ _ _) h))) (.ite (.raiseCond (.ite h (.ite (.raiseCond h) (.within
    (clearCond_within _ _ _) h)))) (.within (clearCond_within _ _ _) (.ite h (.ite (.raiseCond h) (.within
      (clearCond_within _ _ _) h)))))) (.ite (.raiseCond (.ite (.ite h (.ite (.raiseCond h) (.within (clearCond_within _ _ _) h))) (.ite
        (.raiseCond (.ite h (.ite (.raiseCond h) (.within (clearCond_within _ _ _) h)))) (.within (clearCond_within _ _ _) (.ite h (.ite
          (.raiseCond h) (.within (clearCond_within _ _ _) h))))))) (.within (clearCond_within _ _ _) (.ite (.ite h (.ite (.raiseCond h)
            (.within (clearCond_within _ _ _) h))) (.ite (.raiseCond (.ite h (.ite (.raiseCond h) (.within
              (clearCond_within _ _ _) h)))) (.within (clearCond_within _ _ _) (.ite h (.ite (.raiseCond h) (.within
                (clearCond_within _ _ _) h))))))))

theorem SameRealm.eliSet {p x} (h : SameRealm s a) : SameRealm s (a.eliSet p x) :=
  .ite (.eliConds (.ite h (.eventTo h))) (.ite h (.eventTo h))

theorem SameRealm.setEnable {p on} (h : SameRealm s a) : SameRealm s (a.setEnable p on) :=
  .ite h (.ite (.ite (.portFault (.ite (.eliSet (.moveLink h)) (.moveLink h))) (.ite (.eliSet (.moveLink h)) (.moveLink h)))
    (.moveLink h))

theorem SameRealm.eliRx {p rx} (h : SameRealm s a) : SameRealm s (a.eliRx p rx) :=
  .eliSet h

theorem SameRealm.expressAlarm {k on cause} (h : SameRealm s a) : SameRealm s (a.expressAlarm k on cause) :=
  .eventTo h

theorem SameRealm.expressIn {p frame} (h : SameRealm s a) : SameRealm s (a.expressIn p frame) :=
  .each (fun h => .ite h h) h

theorem SameRealm.expressFrame {p cap zero} (h : SameRealm s a) : SameRealm s (a.expressFrame p cap zero) :=
  .each (fun h => .ite h (.expressAlarm h)) h

theorem SameRealm.eliSwitch {p new safety} (h : SameRealm s a) : SameRealm s (a.eliSwitch p new safety) :=
  .eventTo (.eliSet h)

theorem SameRealm.eliHoldDown {p} (h : SameRealm s a) : SameRealm s (a.eliHoldDown p) :=
  .ite (.eventTo h) h

theorem SameRealm.eliApply {p} (h : SameRealm s a) : SameRealm s (a.eliApply p) :=
  .eliSet h

theorem SameRealm.eliLower {p} (h : SameRealm s a) : SameRealm s (a.eliLower p) :=
  .ite (.eliSwitch (.ite (.eliHoldDown h) h)) h

theorem SameRealm.eliPendingFrame {p} (h : SameRealm s a) : SameRealm s (a.eliPendingFrame p) := by
  unfold State.eliPendingFrame
  dsimp only
  split
  · exact h
  · exact .ite h (.ite h (.ite (.ite (.eliHoldDown h) h) (.set (.eliSwitch (.ite (.eliHoldDown h) h)))))

theorem SameRealm.eliCapacity {p mfas} (h : SameRealm s a) : SameRealm s (a.eliCapacity p mfas) :=
  .ite (.ite (.ite (.eliSwitch h) h) h) (.ite (.eliLower (.set (.ite (.ite (.eliSwitch h) h) h))) (.eliPendingFrame (.ite (.eliSwitch
    (.set (.eliLower (.set (.ite (.ite (.eliSwitch h) h) h))))) (.eliLower (.set (.ite (.ite (.eliSwitch h) h) h))))))

theorem SameRealm.expressOut {p} (h : SameRealm s a) : SameRealm s (a.expressOut p).2 :=
  List.foldlRecOn (motive := fun r : List (Nat × Bytes) × State => SameRealm s r.2) _ _ h fun _ h _ _ => h

theorem SameRealm.eliSend {p mfas} (h : SameRealm s a) : SameRealm s (a.eliSend p mfas) :=
  .set (.eliSet (.expressOut h))

theorem SameRealm.eliPacket {p b} (h : SameRealm s a) : SameRealm s (a.eliPacket p b) :=
  h

/-! ### The functions of Machine/Police.lean -/

theorem SameRealm.countCong {q i} (h : SameRealm s a) : SameRealm s (a.countCong q i) :=
  h

theorem SameRealm.setMetered {k y count} (h : SameRealm s a) : SameRealm s (a.setMetered k y count) :=
  .ite h h

theorem SameRealm.police {cls k} (h : SameRealm s a) : SameRealm s (a.police cls k).1 :=
  .ite_fst h (.ite_fst h (.ite_fst h (.set (.setMetered h))))

theorem SameRealm.drawSlice {sl} (h : SameRealm s a) : SameRealm s (a.drawSlice sl).1 :=
  .set (.ite h h)

theorem SameRealm.congest {k} (h : SameRealm s a) : SameRealm s (a.congest k).1 := by
  unfold State.congest
  dsimp only
  split
  · exact h
  · exact .ite_fst h (.ite_fst (.countCong (.countCong h)) (.ite_fst h
      (.ite_fst (.drawSlice h) (.ite_fst (.countCong (.set (.drawSlice h))) (.countCong (.drawSlice h))))))

theorem SameRealm.sample {d body} (h : SameRealm s a) : SameRealm s (a.sample d body) :=
  .set (.dramReq (.set (.host (writeRegion_onlyHost _ _ _ _) h)))

/-! ### The functions of Machine/Fabric.lean -/

theorem SameRealm.emitCell {link cell} (h : SameRealm s a) : SameRealm s (a.emitCell link cell) :=
  .ite h h

theorem SameRealm.ackTo {d} (h : SameRealm s a) : SameRealm s (a.ackTo d) :=
  h

theorem SameRealm.controlCell {link rdi} (h : SameRealm s a) (e : a.controlCell link rdi = some b) : SameRealm s b := by
  unfold State.controlCell at e
  dsimp only at e
  split at e
  · cases e
    exact .ackTo (.set (.emitCell h))
  · cases e
    exact .ackTo (.set (.emitCell h))
  · cases e

theorem SameRealm.emitData {link rdi c} (h : SameRealm s a) : SameRealm s (a.emitData link rdi c) :=
  .count (.emitCell h)

theorem SameRealm.resendCell {link rdi} (h : SameRealm s a) (e : a.resendCell link rdi = some b) : SameRealm s b := by
  unfold State.resendCell at e
  split at e
  · cases e
  · cases e
    exact .set (.emitData h)

theorem SameRealm.dataCell {link rdi} (h : SameRealm s a) (e : a.dataCell link rdi = some b) : SameRealm s b := by
  unfold State.dataCell at e
  dsimp only at e
  split at e
  · cases e
  · cases e
    exact .within (noteDemand_within _ _) (.set (.emitData h))

theorem SameRealm.fabDeliver {b queue} (h : SameRealm s a) : SameRealm s (a.fabDeliver b queue) :=
  .toWriter h

theorem SameRealm.assembleCell {d c} (h : SameRealm s a) : SameRealm s (a.assembleCell d c) := by
  unfold State.assembleCell
  dsimp only
  split
  · exact .fabDeliver h
  · exact h

theorem SameRealm.drainCells {d n} (h : SameRealm s a) : SameRealm s (drainCells d n a) := by
  induction n generalizing a with
  | zero => exact h
  | succ n ih =>
    unfold Machine.drainCells
    dsimp only
    split
    · exact h
    · exact ih (.assembleCell h)

theorem SameRealm.noteGap {d} (h : SameRealm s a) : SameRealm s (a.noteGap d) :=
  h

theorem SameRealm.fabData {d c} (h : SameRealm s a) : SameRealm s (a.fabData d c) :=
  .ite h (.noteGap (.drainCells h))

theorem SameRealm.releaseSent {ks} (h : SameRealm s a) : SameRealm s (a.releaseSent ks) :=
  .each (fun h => .ite h h) h

theorem SameRealm.takeAck {d ack} (h : SameRealm s a) : SameRealm s (a.takeAck d ack) :=
  .releaseSent h

theorem SameRealm.fabRequests {src b n} (h : SameRealm s a) : SameRealm s (a.fabRequests src b n) :=
  .each (fun h => .within (takeRequest_within _ _ _) h) h

theorem SameRealm.fabCredits {b n} (h : SameRealm s a) : SameRealm s (a.fabCredits b n) :=
  .each (fun h => .within (takeCredit_within _ _ _) h) h

theorem SameRealm.linkEvent {l cause failed} (h : SameRealm s a) : SameRealm s (a.linkEvent l cause failed) :=
  .eventTo h

/-! ### The functions of Machine/TimeBase.lean -/

theorem SameRealm.captureTs {port r} (h : SameRealm s a) : SameRealm s (a.captureTs port r) :=
  .ite h (.ite (.eventTo h) h)

/-! ### The functions of Machine/Ingress.lean -/

theorem SameRealm.countRx {port octets} (h : SameRealm s a) : SameRealm s (a.countRx port octets) :=
  h

theorem SameRealm.rxDrop {port i} (h : SameRealm s a) : SameRealm s (a.rxDrop port i) :=
  h

theorem SameRealm.pfcIn {port b} (h : SameRealm s a) : SameRealm s (a.pfcIn port b) :=
  .within (pfcReceive_within _ _ _ _) h

theorem SameRealm.toTrailhead {port p} (h : SameRealm s a) : SameRealm s (a.toTrailhead port p) :=
  .ite h (.rxDrop h)

theorem SameRealm.frameIn {port octets p} (h : SameRealm s a) : SameRealm s (a.frameIn port octets p) :=
  .toTrailhead (.countRx h)

/-! ### The functions of Machine/Egress.lean -/

theorem SameRealm.transmit {port x stomp} (h : SameRealm s a) : SameRealm s (a.transmit port x stomp) := by
  refine .ite h ?_
  have k := h.macsecTx (port := port) (b := pad60 x) (stomp := stomp)
  generalize a.macsecTx port (pad60 x) stomp = r at k
  obtain ⟨a, _ | y⟩ := r
  · exact k
  · exact .ite (.eliPacket (.ite (.countCport k) k)) (.set (.ite (.countCport k) k))

/-! ### The functions of Machine/Scout.lean -/

theorem SameRealm.scoutAnswer {th hv} (h : SameRealm s a) : SameRealm s (a.scoutAnswer th hv) :=
  .ite h (by
    dsimp only
    split
    · exact h
    · exact .noteCompare h)

theorem SameRealm.applyFill {c f} (h : SameRealm s a) : SameRealm s (a.applyFill c f) := by
  unfold State.applyFill
  dsimp only
  split
  · exact h
  · exact .countDomain (.touch h)

/-! ### The functions of Machine/Firmware.lean -/

theorem SameRealm.bootError {e} (h : SameRealm s a) : SameRealm s (a.bootError e) := h

theorem SameRealm.hostImageFails {e} (h : SameRealm s a) : SameRealm s (a.hostImageFails e) :=
  .ite h h

theorem SameRealm.deliveryEvent {ty ok session} (h : SameRealm s a) : SameRealm s (a.deliveryEvent ty ok session) :=
  .eventTo h

theorem SameRealm.takeChunk {ty session src x c macs} (h : SameRealm s a) : SameRealm s (a.takeChunk ty session src x c macs) := by
  unfold State.takeChunk
  split
  · split
    · exact h
    · exact h
  · exact h

theorem SameRealm.answerChunk {d st detail} (h : SameRealm s a) : SameRealm s (a.answerChunk d st detail) := by
  unfold State.answerChunk
  dsimp only
  split
  · exact .ite (by
    split
    · exact .answer h
    · exact h) (.transmit (by
      split
      · exact .answer h
      · exact h))
  · split
    · exact .answer h
    · exact h

theorem SameRealm.closeDelivery {d x} (h : SameRealm s a) : SameRealm s (a.closeDelivery d x) :=
  h

theorem SameRealm.inbandTake {port x} (h : SameRealm s a) : SameRealm s (a.inbandTake port x) := by
  refine .ite (.transmit h) (.ite h ?_)
  dsimp only
  split
  · exact .transmit h
  · exact .takeChunk h

theorem SameRealm.inband {port b} (h : SameRealm s a) : SameRealm s (a.inband port b) :=
  .ite h (.inbandTake h)

theorem SameRealm.loadCluster {p c} (h : SameRealm s a) : SameRealm s (a.loadCluster p c) :=
  .within (p := .scout) (scoutDrop_within _ _ _)
    (.startResidents (.set (.each (f := fun (r : Nat × Nat × Nat) s => State.setThread s { cluster := c, engine := r.1, thread := r.2.1 }
      { resident := true, entry := r.2.2 }) (fun h => h) (.each (f := fun th s => State.setThread s th {}) (fun h => h) (.resetCluster h)))))

theorem SameRealm.takeTables {p fresh} (h : SameRealm s a) : SameRealm s (a.takeTables p fresh) :=
  h

theorem SameRealm.activateProfile {p} (h : SameRealm s a) : SameRealm s (a.activateProfile p) :=
  .each .loadCluster (.takeTables h)

theorem SameRealm.steerPlanned {c i} (h : SameRealm s a) : SameRealm s (a.steerPlanned c i) :=
  .ite h (by
    split
    · exact h
    · exact .moveSteer h)

theorem SameRealm.beginSwap {x c} (h : SameRealm s a) : SameRealm s (a.beginSwap x c) := by
  unfold State.beginSwap
  generalize (List.range 1024).filter (fun i => a.steer i = c) = es
  have steered : SameRealm s (Sys2Proof.each (State.steerPlanned c) es a) := .each .steerPlanned h
  exact steered

theorem SameRealm.configStart (h : SameRealm s a) : SameRealm s a.configStart := by
  unfold State.configStart
  split
  · exact .eventTo h
  · exact .ite (.eventTo h) h

theorem SameRealm.leaveHandover {x} (h : SameRealm s a) : SameRealm s (a.leaveHandover x) :=
  .within (setMode_within _ _) h

theorem SameRealm.completeHandover {x} (h : SameRealm s a) : SameRealm s (a.completeHandover x) := by
  unfold State.completeHandover
  dsimp only
  split
  · exact .answer (.leaveHandover (.eventTo (by
    split
    · exact .configStart (.set_fw (.releasePloam (.set_fw (.ite (.set_fw (.ite h h)) h))))
    · exact .releasePloam (.set_fw (.ite (.set_fw (.ite h h)) h)))))
  · exact .leaveHandover (.eventTo (by
    split
    · exact .configStart (.set_fw (.releasePloam (.set_fw (.ite (.set_fw (.ite h h)) h))))
    · exact .releasePloam (.set_fw (.ite (.set_fw (.ite h h)) h))))

theorem SameRealm.beginHandover {x} (h : SameRealm s a) : SameRealm s (a.beginHandover x) :=
  .ite (.within (setMode_within _ _) h) (by
    dsimp only
    split
    · exact .beginSwap (.set (.within (setMode_within _ _) h))
    · exact .completeHandover (.takeTables (.set (.within (setMode_within _ _) h))))

/-! ### The functions of Machine/Dram.lean -/

theorem SameRealm.cellAccess {x packet} (h : SameRealm s a) : SameRealm s (a.cellAccess x packet) :=
  .ite h (.each .dramReq h)

theorem SameRealm.eccError {n e} (h : SameRealm s a) : SameRealm s (a.eccError n e) :=
  .ite (.eventTo (.count h)) (.count h)

theorem SameRealm.cellError {x packet} (h : SameRealm s a) : SameRealm s (a.cellError x packet) := by
  unfold State.cellError
  dsimp only
  split
  · exact .bufError h
  · exact .ite (.set (.bufError h)) (.bufError h)

theorem SameRealm.disturb {n pc bank r} (h : SameRealm s a) : SameRealm s (a.disturb n pc bank r) :=
  .eventTo (.count h)

theorem SameRealm.activate {n pc q} (h : SameRealm s a) : SameRealm s (a.activate n pc q) :=
  .ite (.ite h h) (.ite (.disturb (.set (.ite h h))) (.set (.ite h h)))

theorem SameRealm.serveReq {n pc q err} (h : SameRealm s a) : SameRealm s (a.serveReq n pc q err) := by
  unfold State.serveReq
  dsimp only
  split
  · exact .activate (.count h)
  · split
    · exact .ite (.cellError (.eccError (.activate (.count h)))) (.eccError (.activate (.count h)))
    · exact .eccError (.activate (.count h))

theorem SameRealm.serveBe {n pc err} (h : SameRealm s a) (e : a.serveBe n pc err = some b) : SameRealm s b := by
  unfold State.serveBe at e
  dsimp only at e
  split at e
  · cases e
  · split at e
    · cases e
    · cases e
      exact .serveReq h

theorem SameRealm.serveBes {n pc k err} (h : SameRealm s a) : SameRealm s (serveBes n pc k err a) := by
  induction k generalizing a err with
  | zero => exact h
  | succ k ih =>
    unfold Machine.serveBes
    split
    · exact h
    · rename_i hserve
      exact ih (h.serveBe hserve)

theorem SameRealm.repay {n pc} (h : SameRealm s a) : SameRealm s (a.repay n pc) := by
  unfold State.repay
  dsimp only
  split
  · exact .ite h h
  · exact h

theorem SameRealm.arbitrate {n pc err} (h : SameRealm s a) : SameRealm s (a.arbitrate n pc err) := by
  unfold State.arbitrate
  dsimp only
  split
  · exact .count h
  · exact .ite (.serveBes h) (by
    split
    · exact .serveReq h
    · exact .ite (.serveBes h) h)

theorem SameRealm.loseCells {p} (h : SameRealm s a) : SameRealm s (a.loseCells p) :=
  .each (fun h => h) h

theorem SameRealm.endStackWork {n st detail} (h : SameRealm s a) : SameRealm s (a.endStackWork n st detail) := by
  unfold State.endStackWork
  split
  · exact h
  · exact .answer h

theorem SameRealm.stackOut {n cause planned} (h : SameRealm s a) : SameRealm s (a.stackOut n cause planned) :=
  .ite h (by
    dsimp only
    split
    · exact .endStackWork (.set (.eventTo (.mapOut (.set (.ite h (.loseCells h))))))
    · exact .set (.eventTo (.mapOut (.set (.ite h (.loseCells h))))))

theorem SameRealm.stackBack {n} (h : SameRealm s a) : SameRealm s (a.stackBack n) :=
  .returnAside (.eventTo (.bringBack (.set (.ite (.each (fun h => .ite h (.each (fun h => .ite (.within
    (removeEntry_within _ _ _) h) h) h)) h) h))))

theorem SameRealm.beginHold {f} (h : SameRealm s a) : SameRealm s (a.beginHold f) :=
  h

theorem SameRealm.planStackOut {n c} (h : SameRealm s a) : SameRealm s (a.planStackOut n c).1 :=
  .ite_fst h (.stackOut h)

/-! ### The functions of Machine/Pon.lean -/

theorem SameRealm.countPon {t i n} (h : SameRealm s a) : SameRealm s (a.countPon t i n) :=
  h

theorem SameRealm.countGrant {t i n} (h : SameRealm s a) : SameRealm s (a.countGrant t i n) :=
  h

theorem SameRealm.rogueEvent {t onu flags n} (h : SameRealm s a) : SameRealm s (a.rogueEvent t onu flags n) :=
  .eventTo h

theorem SameRealm.isolate {t i flags n} (h : SameRealm s a) : SameRealm s (a.isolate t i flags n) :=
  .rogueEvent (.set (.countPon (.within (moveOnu_within _ _ _ _) h)))

theorem SameRealm.openQuiet {t base m} (h : SameRealm s a) : SameRealm s (a.openQuiet t base m) :=
  .ite h (by
    dsimp only
    split
    · exact .ite h h
    · exact h)

theorem SameRealm.useMap {t m} (h : SameRealm s a) : SameRealm s (a.useMap t m) :=
  .set (.openQuiet h)

theorem SameRealm.switchOnu {t i} (h : SameRealm s a) : SameRealm s (a.switchOnu t i) := by
  unfold State.switchOnu
  dsimp only
  split
  · exact .ite (.answer h) h
  · exact h

theorem SameRealm.switchBcast {t} (h : SameRealm s a) : SameRealm s (a.switchBcast t) := by
  unfold State.switchBcast
  dsimp only
  split
  · exact .ite (.answer h) h
  · exact h

theorem SameRealm.settleKeys {t} (h : SameRealm s a) : SameRealm s (a.settleKeys t) := by
  unfold State.settleKeys
  dsimp only
  split
  · exact .ite (.each (fun h => by
    split
    · exact .ite h h
    · exact h) h) (.set (.each (fun h => by
      split
      · exact .ite h h
      · exact h) h))
  · exact .each (fun h => by
    split
    · exact .ite h h
    · exact h) h

theorem SameRealm.searchFrom {t from_} (h : SameRealm s a) : SameRealm s (a.searchFrom t from_) := by
  unfold State.searchFrom
  dsimp only
  split
  · exact .ploam h
  · exact .rogueEvent h

theorem SameRealm.endEnergy {t} (h : SameRealm s a) : SameRealm s (a.endEnergy t) :=
  .ite h (.ite (.rogueEvent h) (.ite (.searchFrom h) h))

theorem SameRealm.rejectBurst {t b} (h : SameRealm s a) : SameRealm s (a.rejectBurst t b) := by
  unfold State.rejectBurst
  split
  · exact h
  · split
    · exact .ite (.countPon h) (.ite (.rogueEvent (.countPon h)) (.isolate (.ploam (.countPon h))))
    · exact h

theorem SameRealm.sendEqd {t i v} (h : SameRealm s a) : SameRealm s (a.sendEqd t i v) :=
  .ploam h

theorem SameRealm.measure {t i arrival} (h : SameRealm s a) : SameRealm s (a.measure t i arrival) :=
  .sendEqd h

theorem SameRealm.drift {t i off} (h : SameRealm s a) : SameRealm s (a.drift t i off) := by
  unfold State.drift
  dsimp only
  split
  · exact .ite (.sendEqd h) h
  · exact h

theorem SameRealm.xgemIn {t i alloc arrival g} (h : SameRealm s a) : SameRealm s (a.xgemIn t i alloc arrival g) :=
  .ite h (.ite (.countPon h) (by
    dsimp only
    split
    · exact h
    · split
      · exact .rxDrop h
      · exact .ite (.pfcIn h) (.frameIn h)))

theorem SameRealm.xgemsIn {t i alloc arrival l} (h : SameRealm s a) : SameRealm s (a.xgemsIn t i alloc arrival l).1 := by
  induction l generalizing a with
  | nil => exact h
  | cons _ _ ih => exact .ite_fst (.countPon h) (ih (.xgemIn h))

theorem SameRealm.allocIn {t frame w x3} (h : SameRealm s a) : SameRealm s (a.allocIn t frame w x3) := by
  unfold State.allocIn
  split
  · exact .ite h (by
    dsimp only
    split
    · exact .countGrant h
    · exact h)
  · exact h

theorem SameRealm.allocsIn {t i arrival w l} (h : SameRealm s a) : SameRealm s (a.allocsIn t i arrival w l) := by
  induction l generalizing a with
  | nil => exact h
  | cons _ _ ih => exact .ite (ih (.xgemsIn (.allocIn h))) (.xgemsIn (.allocIn h))

theorem SameRealm.acceptBurst {t w b} (h : SameRealm s a) : SameRealm s (a.acceptBurst t w b) :=
  .within (frameDone_within _ _ _) (.settleKeys (.allocsIn (.drift (.ite (.within (moveOnu_within _ _ _ _) (.set (.countPon (.within
    (setLos_within _ _ _) h)))) (.set (.countPon (.within (setLos_within _ _ _) h)))))))

theorem SameRealm.badWords {t n} (h : SameRealm s a) : SameRealm s (a.badWords t n) := by
  unfold State.badWords
  split
  · exact h
  · exact h

theorem SameRealm.removeOnu {t i} (h : SameRealm s a) : SameRealm s (a.removeOnu t i) :=
  .set (.ploam (.within (moveOnu_within _ _ _ _) (by
    split
    · exact .answer h
    · exact h)))

theorem SameRealm.setOnu {t i o} (h : SameRealm s a) : SameRealm s (a.setOnu t i o) :=
  h

theorem SameRealm.ponOnuDone {c} (h : SameRealm s a) : SameRealm s (Machine.ponOnuDone c a) := by
  unfold Machine.ponOnuDone
  dsimp only
  split
  · exact .within (moveOnu_within _ _ _ _) (.setOnu h)
  · exact .removeOnu h
  · exact .ploam (.within (moveOnu_within _ _ _ _) h)
  · exact h

theorem SameRealm.bindKey {t i index slot} (h : SameRealm s a) : SameRealm s (a.bindKey t i index slot) :=
  .ite h h

theorem SameRealm.keyControl {c t i index} (h : SameRealm s a) : SameRealm s (a.keyControl c t i index) :=
  .settleKeys (.ploam (.ite h h))

/-! ### The functions of Machine/Grant.lean -/

theorem SameRealm.snapGroup {t g} (h : SameRealm s a) : SameRealm s (a.snapGroup t g) :=
  .ite h (.ite (.eventTo h) h)

theorem SameRealm.applyChange {c} (h : SameRealm s a) : SameRealm s (a.applyChange c) :=
  .ite h h

theorem SameRealm.entryMapped {m e} (h : SameRealm s a) : SameRealm s (a.entryMapped m e) :=
  h

theorem SameRealm.learnGrant {k} (h : SameRealm s a) : SameRealm s (a.learnGrant k) :=
  .ite h (.ite h (by
    dsimp only
    split
    · exact h
    · split
      · exact h
      · exact h))

/-! ### The functions of Machine/Guyline.lean -/

theorem SameRealm.setSteer {toT i g} (h : SameRealm s a) : SameRealm s (a.setSteer toT i g) :=
  .count h

theorem SameRealm.respread {toT g} (h : SameRealm s a) : SameRealm s (a.respread toT g) :=
  .each (fun h => by
    split
    · exact h
    · exact .setSteer h) (.each .setSteer h)

theorem SameRealm.restop (h : SameRealm s a) : SameRealm s a.restop :=
  .each (fun h => .each (fun h => h) h) h

theorem SameRealm.issue {toT i k} (h : SameRealm s a) : SameRealm s (a.issue toT i k) :=
  h

theorem SameRealm.toFdie {k} (h : SameRealm s a) : SameRealm s (a.toFdie k) :=
  .ite h h

theorem SameRealm.deliver {toT k} (h : SameRealm s a) : SameRealm s (a.deliver toT k) :=
  .ite h (.ite (.toWriter h) (.toFdie h))

theorem SameRealm.endWork {kind n st detail} (h : SameRealm s a) : SameRealm s (a.endWork kind n st detail) := by
  unfold State.endWork
  dsimp only
  split
  · exact h
  · exact .answer h

theorem SameRealm.settleReturn {g} (h : SameRealm s a) : SameRealm s (a.settleReturn g) :=
  .ite (.endWork h) h

theorem SameRealm.groupOut {g lost planned} (h : SameRealm s a) : SameRealm s (a.groupOut g lost planned) :=
  .each .settleReturn (.restop (.mapOut (.respread (.respread h))))

/-! ### The functions of Machine/Path.lean -/

theorem SameRealm.rxDecrypted {port p} (h : SameRealm s a) : SameRealm s (a.rxDecrypted port p) :=
  .ite (.inband h) (.toTrailhead h)

theorem SameRealm.rxGood {port x} (h : SameRealm s a) : SameRealm s (a.rxGood port x) := by
  refine .ite (.rxDrop (.countRx h)) ?_
  have k := (h.countRx (port := port) (octets := x.length + 4)).macsecRx (port := port) (b := x)
  generalize (a.countRx port (x.length + 4)).macsecRx port x = r at k
  obtain ⟨a, _ | _ | _⟩ := r
  · exact k
  · exact .rxDecrypted k
  · exact .rxDecrypted k

theorem SameRealm.macReceive {port f} (h : SameRealm s a) : SameRealm s (a.macReceive port f) :=
  .ite h (by
    split
    · exact .rxDrop h
    · exact .ite (.pfcIn h) (.rxGood h))

theorem SameRealm.onward {k} (h : SameRealm s a) : SameRealm s (a.onward k) :=
  .ite h (.issue (by
    split
    · exact .queueFill h
    · exact h))

theorem SameRealm.takeCells {r k} (h : SameRealm s a) : SameRealm s (a.takeCells r k).1 := by
  have learned : SameRealm s (if writerClass r = 2 then a.learnGrant k else a) := .ite (.learnGrant h) h
  unfold State.takeCells
  dsimp only
  generalize (if writerClass r = 2 then a.learnGrant k else a) = a at learned ⊢
  split
  · exact .countQueue learned
  · have policed := learned.police (cls := writerClass r) (k := k)
    generalize a.police (writerClass r) k = x at policed
    obtain ⟨a, _ | _⟩ := x
    · exact policed
    · exact .congest policed

theorem SameRealm.decideSpill {r k} (h : SameRealm s a) : SameRealm s (a.decideSpill r k) :=
  h

theorem SameRealm.askCell {pool r k} (h : SameRealm s a) : SameRealm s (a.askCell pool r k) := by
  refine .ite (.refuse h) ?_
  split
  · rename_i hgrant
    split
    · exact .bufError (h.grant hgrant)
    · exact .cellAccess (.link (.charge (h.grant hgrant)))
  · exact .refuse h

theorem SameRealm.serveWriter {pool r} (h : SameRealm s a) : SameRealm s (a.serveWriter pool r) := by
  refine .ite h (.ite (.askCell h) ?_)
  have k := h.takeCells (r := r) (k := (a.writer r).packet)
  generalize a.takeCells r (a.writer r).packet = x at k
  obtain ⟨a, _ | _⟩ := x
  · exact .set (.set k)
  · exact .askCell (.decideSpill k)

theorem SameRealm.serveHost {pool x} (h : SameRealm s a) : SameRealm s (a.serveHost pool x) := by
  refine .ite h (.ite ?_ h)
  split
  · rename_i hgrant
    split
    · exact .bufError (h.grant hgrant)
    · exact .charge (h.grant hgrant)
  · exact h

theorem SameRealm.serve {pool reqs r} (h : SameRealm s a) : SameRealm s (a.serve pool reqs r) := by
  unfold State.serve
  split
  · exact h
  · exact .ite (.serveHost h) (.serveWriter h)

theorem SameRealm.putQueue {k} (h : SameRealm s a) : SameRealm s (a.putQueue k) :=
  .within (noteDemand_within _ _) h

theorem SameRealm.dropLost {q k} (h : SameRealm s a) : SameRealm s (a.dropLost q k) :=
  .within (noteDemand_within _ _) (.discard (by
    dsimp only
    split
    · exact h
    · exact h))

theorem SameRealm.toFabric {k qn} (h : SameRealm s a) : SameRealm s (a.toFabric k qn) :=
  .ite (.set (.set (.fabDeliver (.set (.within (noteDemand_within _ _) h))))) (.within (noteDemand_within _ _) h)

theorem SameRealm.toEgress {k x1} (h : SameRealm s a) : SameRealm s (a.toEgress k x1) :=
  .issue h

theorem SameRealm.sendHead {x k} (h : SameRealm s a) : SameRealm s (a.sendHead x k) :=
  .ite (.dropLost (.set (.leaveQueue (.debitPath h)))) (.ite (.toFabric (.each .cellAccess (.set (.leaveQueue (.debitPath h)))))
    (.toEgress (.each .cellAccess (.set (.leaveQueue (.debitPath h))))))

theorem SameRealm.txStamp {port} (h : SameRealm s a) : SameRealm s (a.txStamp port).1 :=
  .ite h h

theorem SameRealm.capturePtp {port o stamp b} (h : SameRealm s a) : SameRealm s (a.capturePtp port o stamp b) :=
  .captureTs h

theorem SameRealm.correct {port p} (h : SameRealm s a) : SameRealm s (a.correct port p).1 := by
  have stamped {c : Prop} [Decidable c] {o : Nat} :
      SameRealm s (if c then (a.txStamp port).1.capturePtp port o (a.txStamp port).2 p.bytes else (a.txStamp port).1) :=
    .ite (.capturePtp (.txStamp h)) (.txStamp h)
  exact .ite_fst h (.ite_fst h (.ite_fst stamped (.ite (.set stamped) stamped)))

theorem SameRealm.transmitPon {port b stomp} (h : SameRealm s a) : SameRealm s (a.transmitPon port b stomp) := by
  unfold State.transmitPon
  dsimp only
  split
  · exact .countPon h
  · exact .set (.ite (.countCport h) h)

theorem SameRealm.send {port b stomp} (h : SameRealm s a) : SameRealm s (a.send port b stomp) :=
  .ite (.transmitPon h) (.transmit h)

/-! ### The functions of Machine/Domains.lean -/

theorem SameRealm.resetRoot {x} (h : SameRealm s a) : SameRealm s (a.resetRoot x) :=
  h

theorem SameRealm.resetLane {l} (h : SameRealm s a) : SameRealm s (a.resetLane l) :=
  h

theorem SameRealm.resetPort {p} (h : SameRealm s a) : SameRealm s (a.resetPort p) :=
  .set_fw (.resetRoot (.set (.within (setLearnPort_within _ _ _) (.set (.each .resetLane (.setEnable (.each (fun h => h) h)))))))

theorem SameRealm.killQueue {q} (h : SameRealm s a) : SameRealm s (a.killQueue q) :=
  .set (.set (.ite (.within (detach_within _ _) (.set (.drainQueueWith (fun h => h) h))) (.set (.drainQueueWith (fun h => h) h))))

theorem SameRealm.resetQueue {q} (h : SameRealm s a) : SameRealm s (a.resetQueue q) :=
  .set (.set (.killQueue h))

theorem SameRealm.finishDma {n} (h : SameRealm s a) : SameRealm s (finishDma n a) := by
  induction n generalizing a with
  | zero => exact h
  | succ n ih =>
    unfold Machine.finishDma
    split
    · exact h
    · exact ih (.within (moveBucket_within _ _) h)

theorem SameRealm.resetTable {k} (h : SameRealm s a) : SameRealm s (a.resetTable k) :=
  .within (destroyTable_within _ _) (by
    split
    · exact .ite (.finishDma h) h
    · exact h)

theorem SameRealm.resetPartition {k} (h : SameRealm s a) : SameRealm s (a.resetPartition k) :=
  .set (.each .resetTable h)

theorem SameRealm.finishUpdates {k n} (h : SameRealm s a) : SameRealm s (finishUpdates k n a) := by
  induction n generalizing a with
  | zero => exact h
  | succ n ih =>
    unfold Machine.finishUpdates
    split
    · exact h
    · exact ih (.within (updateStep_within _ _ _) (.within (settleSearches_within _ _ _) h))

theorem SameRealm.freeBlock {b clear} (h : SameRealm s a) : SameRealm s (a.freeBlock b clear) := by
  unfold State.freeBlock
  split
  · exact h
  · exact .within (deleteArray_within _ _ _) (.finishUpdates h)

theorem SameRealm.resetTree {t} (h : SameRealm s a) : SameRealm s (a.resetTree t) :=
  .set (.resetRoot (.set (.each .removeOnu (by
    split
    · exact .answer h
    · exact h))))

theorem SameRealm.zeroise {k} (h : SameRealm s a) : SameRealm s (a.zeroise k) :=
  .slotGone h

theorem SameRealm.resetResource {type id} (h : SameRealm s a) : SameRealm s (a.resetResource type id) := by
  unfold State.resetResource
  split
  · exact .resetPort h
  · exact .resetQueue h
  · exact .resetPartition h
  · exact .set (.set (.freeBlock h))
  · exact h
  · exact h
  · exact .resetTree h
  · exact .zeroise h
  · exact h

theorem SameRealm.releaseLock {p} (h : SameRealm s a) : SameRealm s (a.releaseLock p) := by
  unfold State.releaseLock
  split
  · exact .ite h h
  · exact h

theorem SameRealm.purgeNode {k} (h : SameRealm s a) : SameRealm s (a.purgeNode k) :=
  .deleteNode (.each (fun h => .ite (.killQueue h) (.within (detach_within _ _) h)) h)

theorem SameRealm.purgeDomain {d} (h : SameRealm s a) : SameRealm s (a.purgeDomain d) :=
  .set (.each (fun h => h) (.each (fun h => .ite (.within (moveSegment_within _ _ _) h) h) (.set (.each .purgeNode h))))

theorem SameRealm.sessionEvent {x on} (h : SameRealm s a) : SameRealm s (a.sessionEvent x on) :=
  .eventMask h

theorem SameRealm.endSession (h : SameRealm s a) : SameRealm s a.endSession := by
  unfold State.endSession
  split
  · exact h
  · exact .sessionEvent h

theorem SameRealm.openSession {x seconds} (h : SameRealm s a) : SameRealm s (a.openSession x seconds) :=
  .sessionEvent (.set_dom (.ite (.each .zeroise h) h))

theorem SameRealm.openScan {x} (h : SameRealm s a) : SameRealm s (a.openScan x) := by
  unfold State.openScan
  dsimp only
  split
  · exact .answer (.openSession h)
  · exact .set (.openSession h)

theorem SameRealm.checkToken {b cmd} (h : SameRealm s a) : SameRealm s (a.checkToken b cmd).s := by
  unfold State.checkToken
  split
  · exact .drawNonce h
  · exact .ite_token (.set (.drawNonce h)) (.openSession (.drawNonce h))

/-! ### The functions of Machine/Startup.lean -/

theorem SameRealm.abortStarted {x} (h : SameRealm s a) : SameRealm s (a.abortStarted x) :=
  .answer h

theorem SameRealm.clearDataPlane (h : SameRealm s a) : SameRealm s a.clearDataPlane :=
  h

theorem SameRealm.resteer {c i} (h : SameRealm s a) : SameRealm s (a.resteer c i) :=
  .ite h (by
    dsimp only
    split
    · exact h
    · exact h)

theorem SameRealm.resteerFrom {c} (h : SameRealm s a) : SameRealm s (a.resteerFrom c) :=
  .each .resteer h

theorem SameRealm.resteerAll (h : SameRealm s a) : SameRealm s a.resteerAll :=
  .each .resteerFrom h

theorem SameRealm.respreadAll (h : SameRealm s a) : SameRealm s a.respreadAll :=
  .each (fun h => .respread (.respread h)) h

theorem SameRealm.settleDram (h : SameRealm s a) : SameRealm s a.settleDram :=
  .ite h h

theorem SameRealm.resetHostPort {x} (h : SameRealm s a) : SameRealm s (a.resetHostPort x) :=
  .drawNonce (.releaseLock (.set (.set (.each (fun h => h) h))))

theorem SameRealm.coresOut {ok} (h : SameRealm s a) : SameRealm s (a.coresOut ok) :=
  .each (fun h => .ite h (.mapOut h)) h

theorem SameRealm.laneFails {fabric l} (h : SameRealm s a) : SameRealm s (a.laneFails fabric l) :=
  .ite (.ite h (.linkEvent (.mapOut h))) (.ite h (.laneFault (.mapOut h)))

theorem SameRealm.quadDone {fabric q} (h : SameRealm s a) : SameRealm s (a.quadDone fabric q) :=
  h

theorem SameRealm.trainFails {n} (h : SameRealm s a) : SameRealm s (a.trainFails n) := by
  unfold State.trainFails
  split
  · exact .endStackWork (.eventTo (.record h))
  · exact .settleDram (.stackOut h)

theorem SameRealm.applyConf {x masks} (h : SameRealm s a) : SameRealm s (a.applyConf x masks) :=
  .set (.each (fun h => .setEnable h) (.each (fun h => h) (.ite (.each (fun h => h) h) h)))

theorem SameRealm.bootProfile (h : SameRealm s a) : SameRealm s a.bootProfile :=
  .ite (.activateProfile h) h

theorem SameRealm.reloadClusters (h : SameRealm s a) : SameRealm s a.reloadClusters := by
  unfold State.reloadClusters
  split
  · exact .each .loadCluster h
  · exact h

theorem SameRealm.release (h : SameRealm s a) : SameRealm s a.release :=
  .refeedAll (.within (setMode_within _ _) h)

/-! ### The functions of Machine/Units.lean -/

theorem SameRealm.refillNode {k} (h : SameRealm s a) : SameRealm s (a.refillNode k) :=
  h

theorem SameRealm.sliceEmpty {k} (h : SameRealm s a) : SameRealm s (a.sliceEmpty k) :=
  .ite (.endWork (.mapOut h)) h

theorem SameRealm.markPart {miss lost p} (h : SameRealm s a) : SameRealm s (a.markPart miss lost p) := by
  unfold State.markPart
  split
  · exact h
  · exact h
  · exact h

theorem SameRealm.failUpdates {k detail n} (h : SameRealm s a) : SameRealm s (failUpdates k detail n a) := by
  induction n generalizing a with
  | zero => exact h
  | succ n ih =>
    unfold Machine.failUpdates
    split
    · exact h
    · exact ih (.within (endUpdate_within _ _ _ _ _) h)

theorem SameRealm.blockOut {b planned} (h : SameRealm s a) : SameRealm s (a.blockOut b planned) := by
  unfold State.blockOut
  dsimp only
  split
  · exact .within (settleBlock_within _ _) (.mapOut h)
  · exact .failUpdates (.within (settleBlock_within _ _) (.mapOut h))

theorem SameRealm.beginWork {kind n c ret} (h : SameRealm s a) : SameRealm s (a.beginWork kind n c ret) :=
  h

theorem SameRealm.planLaneOut {l} (h : SameRealm s a) : SameRealm s (a.planLaneOut l) := by
  unfold State.planLaneOut
  dsimp only
  split
  · exact .portFault (.laneFault (.mapOut h))
  · exact .laneFault (.mapOut h)

theorem SameRealm.channelOut {t} (h : SameRealm s a) : SameRealm s (a.channelOut t) := by
  unfold State.channelOut
  dsimp only
  split
  · exact .portFault (.set (.mapOut h))
  · exact .set (.mapOut h)

theorem SameRealm.bankOut {b} (h : SameRealm s a) : SameRealm s (a.bankOut b) :=
  .mapOut h

theorem SameRealm.nearEmpty {b} (h : SameRealm s a) : SameRealm s (a.nearEmpty b) :=
  .ite (.endWork (.mapOut h)) h

theorem SameRealm.setCluster {c x} (h : SameRealm s a) : SameRealm s (a.setCluster c x) :=
  h

theorem SameRealm.planOut {c kind n} (h : SameRealm s a) : SameRealm s (a.planOut c kind n).1 := by
  unfold State.planOut
  split
  · dsimp only
    exact .mapOut h
  · dsimp only
    exact .restop (.beginWork h)
  · dsimp only
    exact .each .steerPlanned (.setCluster (.beginWork h))
  · dsimp only
    exact .bankOut h
  · dsimp only
    exact .blockOut h
  · exact .ite_fst (.mapOut h) (.beginWork h)
  · exact .ite_fst (.mapOut h) (.beginWork h)
  · exact .planStackOut h
  · dsimp only
    exact .planLaneOut h
  · dsimp only
    exact .within (linkLeaves_within _ _ _) h
  · dsimp only
    exact .cipherOut h
  · dsimp only
    exact .channelOut h
  · exact h

theorem SameRealm.portBack {p} (h : SameRealm s a) : SameRealm s (a.portBack p) :=
  .ite (.moveLink h) h

theorem SameRealm.laneBack {l} (h : SameRealm s a) : SameRealm s (a.laneBack l) := by
  unfold State.laneBack
  split
  · exact .portBack h
  · exact h

theorem SameRealm.markIn {kind n} (h : SameRealm s a) : SameRealm s (a.markIn kind n) :=
  h

theorem SameRealm.quadBack {q fails} (h : SameRealm s a) : SameRealm s (a.quadBack q fails) := by
  unfold State.quadBack
  dsimp only
  have opened : SameRealm s (Sys2Proof.each (fun l s => State.setLane s l { s.lane l with quadOut := false }) (quadLanes q) a) :=
    .each (fun h => h) h
  have back {l : List Nat} : SameRealm s (Sys2Proof.each (fun l s => State.laneBack l (s.markIn 0x0A l)) l
      (Sys2Proof.each (fun l s => State.setLane s l { s.lane l with quadOut := false }) (quadLanes q) a)) :=
    .each (fun h => .laneBack (.markIn h)) opened
  exact .ite back (.afterReturn (.record back))

theorem SameRealm.clusterBack {c} (h : SameRealm s a) : SameRealm s (a.clusterBack c) :=
  .each .moveSteer (.refeed (by
    split
    · exact .loadCluster (.bringBack h)
    · exact .resetCluster (.bringBack h)))

theorem SameRealm.bankBack {b} (h : SameRealm s a) : SameRealm s (a.bankBack b) :=
  .each .markPart (.bringBack h)

theorem SameRealm.blockBack {b} (h : SameRealm s a) : SameRealm s (a.blockBack b) :=
  .each (fun h => h) (.bringBack (.within (settleBlock_within _ _) h))

theorem SameRealm.sliceBack {k} (h : SameRealm s a) : SameRealm s (a.sliceBack k) :=
  .each .moveNode (.bringBack h)

theorem SameRealm.groupBack {n c} (h : SameRealm s a) : SameRealm s (a.groupBack n c).1 :=
  .ite_fst (.bringBack h) (.restop (.beginWork (.bringBack h)))

theorem SameRealm.planBack {c kind n} (h : SameRealm s a) : SameRealm s (a.planBack c kind n).1 := by
  unfold State.planBack
  split
  · exact .groupBack h
  · dsimp only
    exact .clusterBack h
  · dsimp only
    exact .bankBack h
  · dsimp only
    exact .blockBack h
  · dsimp only
    exact .returnAside (.bringBack h)
  · dsimp only
    exact .sliceBack h
  · exact h
  · dsimp only
    exact .laneBack (.bringBack h)
  · exact h
  · dsimp only
    exact .placeWaiting (.bringBack h)
  · dsimp only
    split
    · exact .portBack (.bringBack h)
    · exact .bringBack h
  · dsimp only
    exact .bringBack h

/-! ### The functions of Machine/Debug.lean -/

theorem SameRealm.jtagThread {params} (h : SameRealm s a) : SameRealm s (a.jtagThread params) := by
  unfold State.jtagThread
  dsimp only
  split
  · exact h
  · exact .set (.threadDebugDone h)

theorem SameRealm.jtagDo {i} (h : SameRealm s a) : SameRealm s (a.jtagDo i) := by
  unfold State.jtagDo
  split
  · exact h
  · exact h
  · exact h
  · exact .ite h h
  · exact h
  · exact .ite (.jtagThread h) h
  · exact .ite h h

end Sys2Proof.Machine
end


section
/-! SUPPORT for O56. The rows that have no part of their own and keep the realm: for each, the next state of `exec`, built up by the
functions that its row calls. -/

namespace Sys2Proof.Machine

set_option Elab.async false

variable {s : State}

/-- The row answers a next state of the same realm. -/
def RealmStays (i : Instr) (s : State) : Prop := ∃ s', exec i s = .next s' ∧ SameRealm s s'

theorem RealmStays.next {i : Instr} {s s' : State} (h : exec i s = .next s') (k : SameRealm s s') : RealmStays i s := ⟨s', h, k⟩

theorem SameRealm.at_ {t} : SameRealm s (s.at_ t) := rfl

theorem devResetDataPlane_sameRealm {t host value} : RealmStays (.devResetDataPlane t host value) s :=
  .next rfl (.ite rfl (.settleDram (.drawNonce (.resteerAll (.set (.respreadAll (.clearDataPlane (.abandonHandover (.each .abortStarted
    (.within (setMode_within _ _) rfl))))))))))

theorem hostLinkLoss_sameRealm {t host perst} : RealmStays (.hostLinkLoss t host perst) s :=
  .next rfl (.ite rfl (.mapOut (.resetHostPort rfl)))

theorem hostLinkTrained_sameRealm {t host cxl} : RealmStays (.hostLinkTrained t host cxl) s :=
  .next rfl (.ite rfl (.bringBack rfl))

theorem rootPllLoss_sameRealm {t} : RealmStays (.rootPllLoss t) s :=
  .next rfl rfl

theorem thermalTrip_sameRealm {t tjF tjT} : RealmStays (.thermalTrip t tjF tjT) s :=
  .next rfl (.ite rfl rfl)

theorem guylineTrainingDone_sameRealm {t failed} : RealmStays (.guylineTrainingDone t failed) s :=
  .next rfl (.ite rfl (.set (.each .groupOut rfl)))

theorem serdesCalibrationDone_sameRealm {t fabric quad failed} : RealmStays (.serdesCalibrationDone t fabric quad failed) s :=
  .next rfl (.ite rfl (.quadDone (.each .laneFails rfl)))

theorem dramTrainingDone_sameRealm {t stack failedAt repaired} : RealmStays (.dramTrainingDone t stack failedAt repaired) s :=
  .next rfl (.ite rfl (by
    dsimp only
    split
    · exact .trainFails rfl
    · exact rfl))

theorem trainingTimeout_sameRealm {t kind number} : RealmStays (.trainingTimeout t kind number) s :=
  .next rfl (by
    split
    · exact .ite (.groupOut rfl) rfl
    · exact .ite (.trainFails rfl) rfl
    · exact .ite (.quadDone (.laneFails rfl)) rfl
    · exact .ite (.quadDone (.laneFails rfl)) rfl
    · exact rfl)

theorem stackZeroingDone_sameRealm {t stack} : RealmStays (.stackZeroingDone t stack) s :=
  .next rfl (.ite rfl (by
    split
    · exact .endStackWork (.stackBack rfl)
    · exact .ite (.settleDram rfl) rfl))

theorem configApply_sameRealm {t} : RealmStays (.configApply t) s :=
  .next rfl (.ite rfl (.set (.ite (.reloadClusters (by
    dsimp only
    split
    · exact .set (.applyConf (.configStart rfl))
    · exact .configStart rfl)) (.bootProfile (by
    dsimp only
    split
    · exact .set (.applyConf (.configStart rfl))
    · exact .configStart rfl)))))

theorem modeSet_sameRealm {t c} : RealmStays (.modeSet t c) s :=
  .next rfl (.command .at_ (by
    split
    · exact .at_
    · split
      · dsimp only
        exact .release .at_
      · exact .beginHold .at_))

theorem dataPlaneHoldDone_sameRealm {t} : RealmStays (.dataPlaneHoldDone t) s :=
  .next rfl (by
    dsimp only
    split
    · exact rfl
    · exact .ite rfl (by
      split
      · exact .answer (.within (setMode_within _ _) (by
        split
        · exact .openScan rfl
        · exact rfl))
      · split
        · exact .openScan rfl
        · exact rfl))

theorem cxlmemRead_sameRealm {t host addr} : RealmStays (.cxlmemRead t host addr) s :=
  .next rfl (.ite (.ite (.dramAny (.regionRead rfl)) rfl) rfl)

theorem cxlmemWrite_sameRealm {t host addr data} : RealmStays (.cxlmemWrite t host addr data) s :=
  .next rfl (.ite (.dramAny rfl) rfl)

theorem keyDestroy_sameRealm {t c} : RealmStays (.keyDestroy t c) s :=
  .next rfl (.command rfl (.each .zeroise rfl))

theorem debugAuth_sameRealm {t c b} : RealmStays (.debugAuth t c b) s :=
  .next rfl (.command rfl (.ite_done (by
    split
    · exact .checkToken rfl
    · exact .checkToken rfl) (.endSession rfl)))

theorem jtagToken_sameRealm {t token} : RealmStays (.jtagToken t token) s :=
  .next rfl (.ite rfl (by
    split
    · exact .set (.checkToken rfl)
    · exact .ite (.checkToken rfl) (.set (.checkToken rfl))))

theorem jtagInstruction_sameRealm {t i} : RealmStays (.jtagInstruction t i) s :=
  .next rfl (.jtagDo rfl)

theorem portMap_sameRealm {t c} : RealmStays (.portMap t c) s :=
  .next rfl (.command rfl (.set (.ite rfl rfl)))

theorem portConfig_sameRealm {t c} : RealmStays (.portConfig t c) s := by
  have port (x : Port) : SameRealm s ((s.at_ t).setPort (c.u8 16) x) := rfl
  refine .next rfl (.command .at_ ?_)
  dsimp only
  exact .updatePort (.downFlush (.setEnable (.ite (.within (clearCond_within _ _ _) (port _)) (port _))))

theorem portUp_sameRealm {t port} : RealmStays (.portUp t port) s :=
  .next rfl (.ite (.ite (.portFault (.moveLink rfl)) (.moveLink rfl)) rfl)

theorem laneSignalLoss_sameRealm {t lane alignment} : RealmStays (.laneSignalLoss t lane alignment) s :=
  .next rfl (.ite rfl (by
    dsimp only
    split
    · exact .raiseCond rfl
    · exact rfl))

theorem remoteFaultReceived_sameRealm {t port} : RealmStays (.remoteFaultReceived t port) s :=
  .next rfl (.ite rfl (.raiseCond rfl))

theorem fecDegradeInterval_sameRealm {t port corrected uncorrected} : RealmStays (.fecDegradeInterval t port corrected uncorrected) s :=
  .next rfl (.ite rfl (.ite (.ite (.raiseCond rfl) rfl) (.within (clearCond_within _ _ _) rfl)))

theorem laneFail_sameRealm {t lane} : RealmStays (.laneFail t lane) s :=
  .next rfl (.ite rfl (by
    dsimp only
    split
    · exact .portFault (.laneFault (.mapOut rfl))
    · exact .laneFault (.mapOut rfl)))

theorem quadFail_sameRealm {t quad} : RealmStays (.quadFail t quad) s :=
  .next rfl (.ite rfl (.quadDown rfl))

theorem ethFrameReceive_sameRealm {t port f} : RealmStays (.ethFrameReceive t port f) s :=
  .next rfl (.ite (.macReceive rfl) rfl)

theorem frameTransmit_sameRealm {t port} : RealmStays (.frameTransmit t port) s :=
  .next rfl (by
    dsimp only
    split
    · exact rfl
    · exact .ite rfl (.ite rfl (.send (.correct rfl))))

theorem eliLaneMarker_sameRealm {t port lane m} : RealmStays (.eliLaneMarker t port lane m) s :=
  .next rfl (.ite rfl (.eliSet rfl))

theorem eliFawMatch_sameRealm {t port offset mfas} : RealmStays (.eliFawMatch t port offset mfas) s :=
  .next rfl (.ite (.eliRx rfl) rfl)

theorem eliFrameReceive_sameRealm {t port f} : RealmStays (.eliFrameReceive t port f) s :=
  .next rfl (.ite (.expressIn (.eliSet (.each .macReceive rfl))) rfl)

theorem eliTxFrameStart_sameRealm {t port} : RealmStays (.eliTxFrameStart t port) s :=
  .next rfl (.ite rfl (.eliSend (.eliSet (.expressFrame (.eliCapacity (.ite (.eliApply rfl) rfl))))))

theorem ingressDispatch_sameRealm {t port} : RealmStays (.ingressDispatch t port) s :=
  .next rfl (.ite rfl (by
    dsimp only
    split
    · exact rfl
    · exact .ite (.count (.set (.ite rfl rfl))) (.dispatch (.ite rfl rfl))))

theorem egressDispatch_sameRealm {t port} : RealmStays (.egressDispatch t port) s :=
  .next rfl (.ite rfl (by
    dsimp only
    split
    · exact rfl
    · exact .ite (.dispatch rfl) rfl))

theorem parseComplete_sameRealm {t th} : RealmStays (.parseComplete t th) s :=
  .next rfl (by
    dsimp only
    split
    · exact rfl
    · exact .ite rfl (.ite (.within (quietAt_within _ _) (.retire (.dropPass (.set (.ite rfl rfl))))) (.within (quietAt_within _ _)
        (.set (.set (.ite (.countDomain (.ite rfl rfl)) (.ite rfl rfl)))))))

theorem orderBucketRelease_sameRealm {t cluster bucket} : RealmStays (.orderBucketRelease t cluster bucket) s :=
  .next rfl (by
    dsimp only
    split
    · exact rfl
    · exact .ite rfl (.releaseBucket .onward rfl))

theorem steerHoldDrained_sameRealm {t idx} : RealmStays (.steerHoldDrained t idx) s :=
  .next rfl (.ite (.releaseHold rfl) rfl)

theorem steerHoldTimeout_sameRealm {t idx} : RealmStays (.steerHoldTimeout t idx) s :=
  .next rfl (.ite (.releaseHold rfl) rfl)

theorem lookupIssue_sameRealm {t th tag table key} : RealmStays (.lookupIssue t th tag table key) s :=
  .next rfl (.instr (fun h => .ite h (.request (.ite h (.lookupReads h)))) rfl)

theorem classifyIssue_sameRealm {t th tag tree} : RealmStays (.classifyIssue t th tag tree) s :=
  .next rfl (.instr (fun h => .ite h (.request (.ite (.dramBest h) h))) rfl)

theorem scanIssue_sameRealm {t th set depth} : RealmStays (.scanIssue t th set depth) s :=
  .next rfl (.instr (fun h => .ite h (.request h)) rfl)

theorem assocSearchIssue_sameRealm {t th tag array key} : RealmStays (.assocSearchIssue t th tag array key) s :=
  .next rfl (.instr (fun h => .ite h (.ite (.issueSearch (.countDomain (.request h))) (.request h))) rfl)

theorem lookupResponse_sameRealm {t th tag err} : RealmStays (.lookupResponse t th tag err) s :=
  .next rfl (.ite rfl (by
    have met (e : Option EntryError) (k : Option Nat) (r : Request) : SameRealm s (match e, k with
        | some e, some k => ((s.at_ t).entryError k e, r.meet ((s.at_ t).table k) e)
        | _, _ => (s.at_ t, r)).1 := by
      cases e <;> cases k
      case some.some => exact .entryError rfl
      all_goals exact rfl
    exact .respond (.ite (met _ _ _) (.each (fun h => .fillLeaf h) (met _ _ _)))))

theorem scanResponse_sameRealm {t th} : RealmStays (.scanResponse t th) s :=
  .next rfl (.ite (.respond rfl) rfl)

theorem assocResponse_sameRealm {t th ans} : RealmStays (.assocResponse t th ans) s :=
  .next rfl (.ite rfl (.ite (.respond rfl) (by
    dsimp only
    split
    · exact rfl
    · exact .ite rfl (.respond (.count (.set (.within (settleSearches_within _ _ _) rfl)))))))

theorem assocSearch_sameRealm {t c b} : RealmStays (.assocSearch t c b) s :=
  .next rfl (.command rfl (.set (.count (.countDomain rfl))))

theorem engineIssue_sameRealm {t cluster engine waiting ops} : RealmStays (.engineIssue t cluster engine waiting ops) s :=
  .next rfl (.ite rfl (.within (quietAt_within _ _) (.set (.each .issueLane (.ite (.idleSlots (.each .unstated (.switchSlots rfl)))
    (.each .unstated (.switchSlots rfl)))))))

theorem slotTableSwitch_sameRealm {t cluster engine} : RealmStays (.slotTableSwitch t cluster engine) s :=
  .next rfl (.switchSlots rfl)

theorem wait_sameRealm {t th mask} : RealmStays (.wait t th mask) s :=
  .next rfl (.within (quietAt_within _ _) (.instr (fun h => .ite (.fault h) (.doWait h)) rfl))

theorem signal_sameRealm {t th engine thread sig} : RealmStays (.signal t th engine thread sig) s :=
  .next rfl (.within (quietAt_within _ _) (.instr .doOp rfl))

theorem chanStage_sameRealm {t th channel word value} : RealmStays (.chanStage t th channel word value) s :=
  .next rfl (.within (quietAt_within _ _) (.instr .doOp rfl))

theorem chanCommit_sameRealm {t th} : RealmStays (.chanCommit t th) s :=
  .next rfl (.within (quietAt_within _ _) (.instr .doOp rfl))

theorem chanRead_sameRealm {t th channel} : RealmStays (.chanRead t th channel) s :=
  .next rfl (.within (quietAt_within _ _) (.instr .doOp rfl))

theorem faultRaise_sameRealm {t th code detail} : RealmStays (.faultRaise t th code detail) s :=
  .next rfl (.within (quietAt_within _ _) (.instr .doOp rfl))

theorem faultQueueRead_sameRealm {t cluster} : RealmStays (.faultQueueRead t cluster) s :=
  .next rfl (.instr .doOp rfl)

theorem confirm_sameRealm {t th} : RealmStays (.confirm t th) s :=
  .next rfl (.within (quietAt_within _ _) (.instr .doOp rfl))

theorem packetDma_sameRealm {t th toLocal packetOff localOff len} : RealmStays (.packetDma t th toLocal packetOff localOff len) s :=
  .next rfl (.instr (fun h => .ite (.doOp h) h) rfl)

theorem packetDmaDone_sameRealm {t th} : RealmStays (.packetDmaDone t th) s :=
  .next rfl (by
    dsimp only
    split
    · exact .within (quietAt_within _ _) (.within (latch_within _ _ _) (.ite rfl rfl))
    · exact rfl)

theorem responseTimeout_sameRealm {t th b} : RealmStays (.responseTimeout t th b) s :=
  .next rfl (.ite rfl (.ite rfl (.within (quietAt_within _ _) (.fault rfl))))

theorem passBudgetExceeded_sameRealm {t th} : RealmStays (.passBudgetExceeded t th) s :=
  .next rfl (.ite (.within (quietAt_within _ _) (.fault rfl)) rfl)

theorem passEnd_sameRealm {t th e} : RealmStays (.passEnd t th e) s :=
  .next rfl (.within (quietAt_within _ _) (.instr (fun h => .ite (.retire h) (.doOp h)) rfl))

theorem allwaitDetect_sameRealm {t cluster} : RealmStays (.allwaitDetect t cluster) s :=
  .next rfl (by
    dsimp only
    split
    · exact .within (quietAt_within _ _) rfl
    · exact .ite (.within (quietAt_within _ _) rfl) (.ite (.within (wakeCluster_within _ _) (.set (.ite (.within
        (quietAt_within _ _) rfl) (.set (.within (quietAt_within _ _) rfl))))) (.stall (.ite (.within (quietAt_within _ _) rfl) (.set
          (.within (quietAt_within _ _) rfl))))))

theorem allwaitEscalate_sameRealm {t cluster} : RealmStays (.allwaitEscalate t cluster) s :=
  .next rfl (by
    split
    · exact .ite (.stall (.within (quietAt_within _ _) rfl)) (.within (quietAt_within _ _) rfl)
    · exact .within (quietAt_within _ _) rfl)

theorem clusterStallRecovery_sameRealm {t cluster} : RealmStays (.clusterStallRecovery t cluster) s :=
  .next rfl (.ite rfl (.record (.startResidents (.resetCluster (.drawNonce (.releaseFrom (.each .steerAway (.dropCluster rfl))))))))

theorem clusterFail_sameRealm {t cluster uncorrectable} : RealmStays (.clusterFail t cluster uncorrectable) s :=
  .next rfl (.ite (.ite (.failAgain rfl) (.clusterOut rfl)) rfl)

theorem engProfileLoad_sameRealm {t c b} : RealmStays (.engProfileLoad t c b) s :=
  .next rfl (.command rfl (.ite (.ite (.set_fw (.set_fw (.activateProfile rfl))) rfl) rfl))

theorem engConfig_sameRealm {t c} : RealmStays (.engConfig t c) s :=
  .next rfl (.command rfl (.within (quietAt_within _ _) (.refeed (.within (wakeCluster_within _ _) rfl))))

theorem threadDebug_sameRealm {t c} : RealmStays (.threadDebug t c) s :=
  .next rfl (.command rfl (.threadDebugDone rfl))

theorem scoutDeliver_sameRealm {t th} : RealmStays (.scoutDeliver t th) s :=
  .next rfl (by
    split
    · exact .ite (.within (quietAt_within _ _) (.settle (.scoutAnswer rfl))) rfl
    · exact rfl)

theorem squash_sameRealm {t th} : RealmStays (.squash t th) s :=
  .next rfl (by
    split
    · exact .ite (.within (quietAt_within _ _) (.squash rfl)) rfl
    · exact rfl)

theorem scoutFill_sameRealm {t cluster} : RealmStays (.scoutFill t cluster) s :=
  .next rfl (by
    dsimp only
    split
    · exact rfl
    · exact .applyFill rfl)

theorem editApply_sameRealm {t cluster} : RealmStays (.editApply t cluster) s :=
  .next rfl (by
    dsimp only
    split
    · exact rfl
    · exact .ite (.ite (.afterEdit rfl) rfl) (.ite (.edit rfl) rfl))

theorem tunnelCipher_sameRealm {t pipe} : RealmStays (.tunnelCipher t pipe) s :=
  .next rfl (by
    dsimp only
    split
    · exact rfl
    · split
      · exact .dropPass rfl
      · exact .ite (.dropPass rfl) (.ite (.untrust (.set (.countBlocks rfl))) (.ite (.espIn (.countBlocks rfl)) (.espOut
          (.countBlocks rfl)))))

theorem guylineDeliver_sameRealm {t toT group crcOk} : RealmStays (.guylineDeliver t toT group crcOk) s :=
  .next rfl (.ite rfl (by
    dsimp only
    split
    · exact rfl
    · exact .ite rfl (.ite (.deliver rfl) (.ite (.count rfl) rfl))))

theorem guylineGroupFailed_sameRealm {t group} : RealmStays (.guylineGroupFailed t group) s :=
  .next rfl (.ite rfl (.restop (.endWork (.groupOut (.each (fun h => h) (.set (.count rfl)))))))

theorem guylineMapoutDrained_sameRealm {t group} : RealmStays (.guylineMapoutDrained t group) s :=
  .next rfl (by
    split
    · exact rfl
    · exact .ite rfl (.endWork (.groupOut rfl)))

theorem guylineEntryReturn_sameRealm {t toT idx} : RealmStays (.guylineEntryReturn t toT idx) s :=
  .next rfl (.ite rfl (.settleReturn (.restop (.setSteer rfl))))

theorem cellAllocate_sameRealm {t pool reqs} : RealmStays (.cellAllocate t pool reqs) s :=
  .next rfl (.ite (.endCycle rfl) (.set (.each .feedWriters (.endCycle (.each .freeCell (.set (.each .serve rfl)))))))

theorem cellFree_sameRealm {t cell} : RealmStays (.cellFree t cell) s :=
  .next rfl (.ite (.freeCell rfl) (.ite (.freeCell rfl) rfl))

theorem pfcXoffRefresh_sameRealm {t port cls} : RealmStays (.pfcXoffRefresh t port cls) s :=
  .next rfl (.ite (.sendPause rfl) rfl)

theorem farPageMove_sameRealm {t page} : RealmStays (.farPageMove t page) s :=
  .next rfl (.ite rfl (.ite (.stackOut (.returnAside (by
    split
    · exact rfl
    · exact .set (.loseCells rfl)))) (.returnAside (by
      split
      · exact rfl
      · exact .set (.loseCells rfl)))))

theorem bufReconcile_sameRealm {t} : RealmStays (.bufReconcile t) s :=
  .next rfl (.each .freeCell rfl)

theorem poolThresh_sameRealm {t c} : RealmStays (.poolThresh t c) s :=
  .next rfl (.command rfl (.each .updatePort (.updateThreshold rfl)))

theorem enqueue_sameRealm {t requester} : RealmStays (.enqueue t requester) s :=
  .next rfl (.ite rfl (.feedWriters (.ite (.discard rfl) (.ite (.discard (.countQueue rfl)) (by
    split
    · exact .discard (.rxDrop rfl)
    · exact .putQueue rfl)))))

theorem tokenRefill_sameRealm {t} : RealmStays (.tokenRefill t) s :=
  .next rfl (.each (fun h => h) (.refillNodes rfl))

theorem schedSelect_sameRealm {t node} : RealmStays (.schedSelect t node) s :=
  .next rfl (.ite rfl (by
    dsimp only
    split
    · exact rfl
    · rename_i hpath
      have chosen := SameRealm.selectPath rfl hpath
      split
      · exact chosen
      · exact .count (.set chosen)))

theorem selectionComplete_sameRealm {t slice} : RealmStays (.selectionComplete t slice) s :=
  .next rfl (by
    dsimp only
    split
    · exact rfl
    · split
      · exact rfl
      · exact .ite (.count (.dropQueued (.countCong rfl))) (.ite rfl (.sendHead rfl)))

theorem flushComplete_sameRealm {t c} : RealmStays (.flushComplete t c) s :=
  .next rfl (by
    dsimp only
    split
    · exact rfl
    · exact .ite rfl (.answer (.each (fun h => .ite (.set (.drainQueueWith .countQueue h)) h) rfl)))

theorem sliceFail_sameRealm {t slice} : RealmStays (.sliceFail t slice) s :=
  .next rfl (.ite rfl (.endWork (.mapOut (.set (.each (fun h => by
    split
    · exact .each .refillNode (.moveNode h)
    · exact h) (.set (.each (fun h => .drainQueueWith (fun h => h) h) rfl)))))))

theorem obsSamplePass_sameRealm {t domain} : RealmStays (.obsSamplePass t domain) s :=
  .next rfl (.ite rfl (.ite (.eventTo (.set (.set (.each .sample (.sample rfl))))) (.set (.set (.each .sample (.sample rfl))))))

theorem congStats_sameRealm {t c} : RealmStays (.congStats t c) s :=
  .next rfl (.command rfl (.ite rfl rfl))

theorem fabCellReceive_sameRealm {t link cell fecBad} : RealmStays (.fabCellReceive t link cell fecBad) s :=
  .next rfl (.ite rfl (.ite rfl (.ite rfl (.ite rfl (.ite rfl (.ite rfl (.ite (.fabData rfl) (.ite (.fabRequests (.takeAck rfl))
    (.fabCredits (.takeAck rfl))))))))))

theorem fabCellSend_sameRealm {t link} : RealmStays (.fabCellSend t link) s :=
  .next rfl (.ite .at_ (.ite (.ite (.emitCell .at_) .at_) (by
    split
    · rename_i sent
      exact SameRealm.at_.resendCell sent
    · split
      · rename_i sent
        exact SameRealm.at_.controlCell sent
      · split
        · rename_i sent
          exact SameRealm.at_.dataCell sent
        · exact .emitCell .at_)))

theorem fabGapTimeout_sameRealm {t device} : RealmStays (.fabGapTimeout t device) s :=
  .next rfl (by
    dsimp only
    split
    · exact rfl
    · exact .ite rfl (.noteGap (.drainCells rfl)))

theorem fabLinkFail_sameRealm {t link laneFailed} : RealmStays (.fabLinkFail t link laneFailed) s :=
  .next rfl (by
    dsimp only
    split
    · exact rfl
    · exact .ite rfl (.ite rfl (.mapOut (.linkEvent rfl))))

theorem fabLinkReturn_sameRealm {t link} : RealmStays (.fabLinkReturn t link) s :=
  .next rfl (by
    split
    · exact rfl
    · exact .ite rfl (.bringBack (.linkEvent rfl)))

theorem fabLinkMapoutDone_sameRealm {t link} : RealmStays (.fabLinkMapoutDone t link) s :=
  .next rfl (by
    dsimp only
    split
    · exact rfl
    · exact .ite rfl (.answer (.mapOut rfl)))

theorem ponDsFrame_sameRealm {t tree} : RealmStays (.ponDsFrame t tree) s :=
  .next rfl (.ite rfl (.each (fun h => h) (.set (.ite (.switchBcast (.each .switchOnu (.settleKeys (by
    split
    · exact .ite (.useMap (.endEnergy rfl)) (.set (.endEnergy rfl))
    · exact .set (.countGrant (.endEnergy rfl)))))) (.settleKeys (by
      split
      · exact .ite (.useMap (.endEnergy rfl)) (.set (.endEnergy rfl))
      · exact .set (.countGrant (.endEnergy rfl))))))))

theorem ponBurstReceive_sameRealm {t tree b} : RealmStays (.ponBurstReceive t tree b) s :=
  .next rfl (.ite rfl (by
    dsimp only
    split
    · exact .ite (.acceptBurst (.each (fun h => .within (missWindow_within _ _ _) h) (.badWords rfl))) (.within (frameDone_within _ _ _)
        (.rejectBurst (.set (.each (fun h => .within (missWindow_within _ _ _) h) (.badWords rfl)))))
    · split
      · exact .measure (.badWords rfl)
      · exact .rejectBurst (.badWords rfl)))

theorem ponSerialNumber_sameRealm {t tree serial} : RealmStays (.ponSerialNumber t tree serial) s :=
  .next rfl (.ite rfl (by
    dsimp only
    split
    · exact .ite (.ploam (.within (moveOnu_within _ _ _ _) rfl)) rfl
    · exact .eventTo rfl))

theorem ponRogueSearchStep_sameRealm {t tree} : RealmStays (.ponRogueSearchStep t tree) s :=
  .next rfl (by
    dsimp only
    split
    · exact rfl
    · exact .ite rfl (.ite (.ite (.ploam rfl) rfl) (.ite (.isolate rfl) (.searchFrom (.ite (.ploam rfl) rfl)))))

theorem ponChannelFail_sameRealm {t tree} : RealmStays (.ponChannelFail t tree) s :=
  .next rfl (.ite rfl (by
    dsimp only
    split
    · exact .portFault (.set (.mapOut rfl))
    · exact .set (.mapOut rfl)))

theorem ponTreeConfig_sameRealm {t c} : RealmStays (.ponTreeConfig t c) s :=
  .next rfl (.command rfl (by
    dsimp only
    split
    · exact .moveLink rfl
    · exact rfl))

theorem ponBurstProfile_sameRealm {t c} : RealmStays (.ponBurstProfile t c) s :=
  .next rfl (.command rfl (.ploam rfl))

theorem ponOnu_sameRealm {t c} : RealmStays (.ponOnu t c) s :=
  .next rfl (.command rfl (.ponOnuDone rfl))

theorem ponOnuKey_sameRealm {t c} : RealmStays (.ponOnuKey t c) s :=
  .next rfl (.command rfl (.ite (.keyControl (.bindKey rfl)) (.bindKey rfl)))

theorem grantSnapshot_sameRealm {t tree} : RealmStays (.grantSnapshot t tree) s :=
  .next rfl (.ite rfl (.ite rfl (.set (.each (fun h => h) (.each .snapGroup rfl)))))

theorem grantMapReady_sameRealm {t tree} : RealmStays (.grantMapReady t tree) s :=
  .next rfl (by
    dsimp only
    split
    · exact rfl
    · exact .set (.countGrant (.countGrant (.countGrant (.countGrant (.countGrant (.countGrant (.each .entryMapped (.each
        .applyChange rfl)))))))))

theorem macsecVerdict_sameRealm {t th good} : RealmStays (.macsecVerdict t th good) s :=
  .next rfl (by
    dsimp only
    split
    · exact rfl
    · split
      · exact rfl
      · exact .ite rfl (.within (quietAt_within _ _) (.settle (.ite (.countMac (.countMac (.ite (.leaveMac rfl) rfl))) (.countMac rfl)))))

theorem cipherDisagree_sameRealm {t unit w} : RealmStays (.cipherDisagree t unit w) s :=
  .next rfl (.ite rfl (.disagree (.disagreeAt rfl)))

theorem cipherKat_sameRealm {t unit pass} : RealmStays (.cipherKat t unit pass) s :=
  .next rfl (.ite rfl (.ite rfl (.cipherOut rfl)))

theorem cipherReplace_sameRealm {t unit} : RealmStays (.cipherReplace t unit) s :=
  .next rfl (.ite (.placeWaiting rfl) rfl)

theorem macsecPort_sameRealm {t c} : RealmStays (.macsecPort t c) s := by
  have made {o : Option State} (b : State) (k : o = match (s.at_ t).macsecDir (c.u8 16) false (bit (c.u8 17) 0) with
      | none => none
      | some b => b.macsecDir (c.u8 16) true (bit (c.u8 17) 1)) (e : o = some b) : SameRealm s b := by
    split at k
    · cases k.symm.trans e
    · rename_i out
      exact (SameRealm.macsecDir rfl out).macsecDir (k.symm.trans e)
  have port : SameRealm s (match (match (s.at_ t).macsecDir (c.u8 16) false (bit (c.u8 17) 0) with
      | none => none
      | some b => b.macsecDir (c.u8 16) true (bit (c.u8 17) 1)) with
      | none => s.at_ t
      | some b => b.setCport (c.u8 16) { b.cport (c.u8 16) with validate := c.u8 18 }) := by
    split
    · exact rfl
    · rename_i e
      exact .set (made _ rfl e)
  exact .next rfl (.command rfl (.ite port (.within (clearCond_within _ _ _) port)))

theorem dramArbitrate_sameRealm {t stack pc err} : RealmStays (.dramArbitrate t stack pc err) s :=
  .next rfl (.ite rfl (.arbitrate (.repay rfl)))

theorem dramSelfRefreshEnter_sameRealm {t stack} : RealmStays (.dramSelfRefreshEnter t stack) s :=
  .next rfl (.ite rfl (.count rfl))

theorem dramOppoint_sameRealm {t stack} : RealmStays (.dramOppoint t stack) s :=
  .next rfl (.ite rfl (.eventTo (.returnAside (.count (.count rfl)))))

theorem dramPatrolScrub_sameRealm {t stack err} : RealmStays (.dramPatrolScrub t stack err) s :=
  .next rfl (by
    split
    · exact rfl
    · exact .ite rfl (.eccError rfl))

theorem dramStackFail_sameRealm {t stack cause} : RealmStays (.dramStackFail t stack cause) s :=
  .next rfl (.ite rfl (.ite (.ite (.failAgain rfl) rfl) (.stackOut rfl)))

theorem dramQuery_sameRealm {t c} : RealmStays (.dramQuery t c) s :=
  .next rfl (.command rfl rfl)

theorem dramTrain_sameRealm {t c counts} : RealmStays (.dramTrain t c counts) s :=
  .next rfl (.command .at_ (by
    split
    · exact rfl
    · dsimp only
      exact .planStackOut .at_
    · exact .at_))

theorem basecampCoreFail_sameRealm {t core tags} : RealmStays (.basecampCoreFail t core tags) s :=
  .next rfl (.ite rfl (.ite (.record rfl) (.each (fun h => .ite (.answer h) h) (.mapOut rfl))))

theorem tableBankFail_sameRealm {t bank tables} : RealmStays (.tableBankFail t bank tables) s :=
  .next rfl (.ite rfl (.ite (.ite rfl (.failAgain rfl)) (.mapOut (.each .markPart rfl))))

theorem tableBankRebuilt_sameRealm {t bank missing} : RealmStays (.tableBankRebuilt t bank missing) s :=
  .next rfl (.ite (.each .markPart rfl) rfl)

theorem assocBlockFail_sameRealm {t block} : RealmStays (.assocBlockFail t block) s :=
  .next rfl (.ite rfl (.blockOut rfl))

theorem nearBankFail_sameRealm {t bank} : RealmStays (.nearBankFail t bank) s :=
  .next rfl (.ite rfl (.endWork (.mapOut (.loseCells rfl))))

theorem unitMap_sameRealm {t c selfTest} : RealmStays (.unitMap t c selfTest) s :=
  .next rfl (.command rfl (.ite_done (.planOut rfl) (.ite_done (.record rfl) (.ite_done (.quadBack rfl) (.planBack rfl)))))

theorem clusterDrained_sameRealm {t cluster} : RealmStays (.clusterDrained t cluster) s :=
  .next rfl (.ite rfl (.ite (.endWork rfl) (.ite (.endWork (.clusterOut rfl)) rfl)))

theorem nearBankDrained_sameRealm {t bank} : RealmStays (.nearBankDrained t bank) s :=
  .next rfl (.ite (.nearEmpty rfl) rfl)

theorem sliceNodeMove_sameRealm {t node} : RealmStays (.sliceNodeMove t node) s :=
  .next rfl (.ite rfl (by
    split
    · exact .sliceEmpty (.moveNode rfl)
    · exact rfl))

theorem unitMapTimeout_sameRealm {t kind number} : RealmStays (.unitMapTimeout t kind number) s :=
  .next rfl (by
    dsimp only
    split
    · exact rfl
    · exact .ite rfl (.ite (.set (.endWork rfl)) (.ite (.returnAside (.endWork rfl)) (.endWork rfl))))

theorem fwHeaderVerified_sameRealm {t} : RealmStays (.fwHeaderVerified t) s :=
  .next rfl (by
    dsimp only
    split
    · exact rfl
    · split
      · exact rfl
      · exact .ite rfl (by
        split
        · exact .hostImageFails (.closeDelivery (.answerChunk rfl))
        · exact .ite (.hostImageFails (.closeDelivery (.answerChunk rfl))) rfl))

theorem inbandFwFrame_sameRealm {t port frame} : RealmStays (.inbandFwFrame t port frame) s :=
  .next rfl (.ite (.inband rfl) rfl)

theorem fwActivate_sameRealm {t c} : RealmStays (.fwActivate t c) s :=
  .next rfl (.command rfl (.beginHandover (.host (keepWorking_onlyHost _ _) rfl)))

theorem fwHandover_sameRealm {t} : RealmStays (.fwHandover t) s :=
  .next rfl (by
    split
    · exact .ite (.completeHandover rfl) rfl
    · exact rfl)

theorem handoverHealthTimeout_sameRealm {t} : RealmStays (.handoverHealthTimeout t) s :=
  .next rfl (by
    split
    · exact .ite (.leaveHandover (.abandonHandover rfl)) rfl
    · exact rfl)

theorem profileClusterSwap_sameRealm {t cluster} : RealmStays (.profileClusterSwap t cluster) s :=
  .next rfl (by
    dsimp only
    split
    · exact .ite rfl (.ite rfl (by
      split
      · exact .beginSwap (.ite (.each .moveSteer (.loadCluster rfl)) rfl)
      · exact .completeHandover (.set (.takeTables (.ite (.each .moveSteer (.loadCluster rfl)) rfl)))))
    · exact rfl)

theorem trialExpire_sameRealm {t imageType} : RealmStays (.trialExpire t imageType) s :=
  .next rfl (by
    dsimp only
    split
    · exact .ite rfl (.beginHandover rfl)
    · exact rfl)

theorem fwRollback_sameRealm {t c} : RealmStays (.fwRollback t c) s :=
  .next rfl (.command rfl (.beginHandover (.host (keepWorking_onlyHost _ _) rfl)))

theorem eliFawNotFound_sameRealm {t port offset} : RealmStays (.eliFawNotFound t port offset) s :=
  .next rfl (.ite rfl (.ite (.ite (.eliRx rfl) rfl) (.eliRx rfl)))

theorem trailheadSteerRebalance_sameRealm {t idx cluster} : RealmStays (.trailheadSteerRebalance t idx cluster) s :=
  .next rfl (.ite (.moveSteer rfl) rfl)

end Sys2Proof.Machine
end


section
/-! SUPPORT for O56. The steps that change the realm keep what R88, R93, R97 and R98 say of the domains. -/

namespace Sys2Proof.Machine

set_option Elab.async false

variable {s a : State}

/-! ### What DomainsOk speaks of -/

/-- The domains and the principal are the same in both states; the owners and the epochs may differ. -/
def SameDomains (s s' : State) : Prop :=
  (s'.dom.domains, s'.dom.principal, s'.dom.valid, s'.dom.orphans) = (s.dom.domains, s.dom.principal, s.dom.valid, s.dom.orphans)

theorem SameRealm.eqs (h : SameRealm s a) :
    a.dom.domains = s.dom.domains ∧ a.dom.owner = s.dom.owner ∧ a.dom.principal = s.dom.principal ∧ a.dom.valid = s.dom.valid ∧
      a.dom.orphans = s.dom.orphans ∧ a.fw.epochs = s.fw.epochs := by
  simpa only [SameRealm, State.realm, Prod.mk.injEq] using h

theorem SameRealm.sameDomains (h : SameRealm s a) : SameDomains s a := by
  obtain ⟨hdomains, -, hprincipal, hvalid, horphans, -⟩ := h.eqs
  simp only [SameDomains, hdomains, hprincipal, hvalid, horphans]

theorem SameRealm.domain_eq (h : SameRealm s a) (e : Nat) : a.domain e = s.domain e := by
  obtain ⟨hdomains, -⟩ := h.eqs
  rw [State.domain, hdomains, State.domain]

theorem SameRealm.owner_eq (h : SameRealm s a) : a.dom.owner = s.dom.owner := by
  obtain ⟨-, howner, -⟩ := h.eqs
  exact howner

theorem SameRealm.epochs_eq (h : SameRealm s a) : a.fw.epochs = s.fw.epochs := by
  obtain ⟨-, -, -, -, -, hepochs⟩ := h.eqs
  exact hepochs

theorem SameDomains.eqs (h : SameDomains s a) :
    a.dom.domains = s.dom.domains ∧ a.dom.principal = s.dom.principal ∧ a.dom.valid = s.dom.valid ∧ a.dom.orphans = s.dom.orphans := by
  simpa only [SameDomains, Prod.mk.injEq] using h

/-- Pages that are unmapped are of the host side. -/
theorem SameRealm.unmap {p} (h : SameRealm s a) : SameRealm s (a.unmap p) := h

theorem SameDomains.trans {b : State} (h : SameDomains s a) (k : SameDomains a b) : SameDomains s b := Eq.trans k h

theorem DomainsOk.of_same (h : DomainsOk s) (k : SameDomains s a) : DomainsOk a := by
  obtain ⟨hdomains, hprincipal, hvalid, horphans⟩ := k.eqs
  unfold DomainsOk State.domain
  rw [hdomains, hprincipal, hvalid, horphans]
  exact h

theorem DomainsOk.of_realm (h : DomainsOk s) (k : SameRealm s a) : DomainsOk a := h.of_same k.sameDomains

theorem need_eq_none {ok : Bool} {e : Err} : need ok e = none ↔ ok = true := by
  cases ok <;> simp [need]

/-- A command keeps DomainsOk where the state of its effect has it whenever its checks pass. -/
theorem DomainsOk.command {code c who errs done res} (h : DomainsOk s) (hd : firstErr errs = none → DomainsOk done.s) :
    DomainsOk (s.command code c who errs done res) := by
  unfold State.command
  split
  · exact h
  · split
    · exact h
    · split
      · exact h.of_realm (.answer rfl)
      · rename_i he
        have hdone := hd ((firstErr_none _ _).1 he).2
        split
        · exact hdone.of_realm (.host (keepWorking_onlyHost _ _) rfl)
        · exact hdone.of_realm (.answer rfl)

/-! ### Domains set and moved (R88, R94) -/

theorem State.domain_setDomain (s : State) (d e : Nat) (x : Domain) : (s.setDomain d x).domain e = if e = d then x else s.domain e :=
  look_put _ _ _ _ _

/-- Only domain `d`, which is not D0, may differ: DomainsOk holds after where `x`, the domain that it becomes, exists if it has a host or
is among the orphans, and no other domain has joined or left the orphans. -/
theorem DomainsOk.change {d x} (h : DomainsOk s) (hd : d ≠ 0) (hx : ∀ m, x.host = some m → x.live = true ∧ m < 4)
    (hdomain : ∀ e, a.domain e = if e = d then x else s.domain e) (hprincipal : a.dom.principal = s.dom.principal)
    (hvalid : a.dom.valid = s.dom.valid) (horphan : d ∈ a.dom.orphans → x.live = true)
    (hothers : ∀ e, e ≠ d → (e ∈ a.dom.orphans ↔ e ∈ s.dom.orphans)) : DomainsOk a := by
  obtain ⟨hzero, hheld, hfour, hprin, hexist, hlost⟩ := h
  unfold DomainsOk
  rw [hprincipal, hvalid, hdomain 0, if_neg hd.symm]
  refine ⟨hzero, fun e m he => ?_, hfour, hprin, fun e he => ?_, fun hn => (hothers 0 hd.symm).2 (hlost hn)⟩
  · rw [hdomain] at he ⊢
    split at he
    · rw [if_pos ‹_›]
      exact hx m he
    · rw [if_neg ‹_›]
      exact hheld e m he
  · rw [hdomain]
    split
    · subst e
      exact horphan he
    · exact hexist e ((hothers e ‹_›).1 he)

/-- DOMAIN_SET op 0: a domain other than D0 is made, held by one of the four hosts. -/
theorem DomainsOk.create {d k} (h : DomainsOk s) (hd : d ≠ 0) (hk : k < 4) :
    DomainsOk (s.setDomain d { live := true, host := some k }) :=
  h.change hd (fun m e => ⟨rfl, by cases e; exact hk⟩) (s.domain_setDomain d · _) rfl rfl (fun _ => rfl) fun _ _ => .rfl

/-- The key under which `dom.owner` holds a resource. -/
def ownerKey (type id : Nat) : Nat := type * 2 ^ 24 + id

/-- Beside the owner, a resource that passes changes nothing of the realm. -/
theorem State.assign_eq (type dest : Nat) (clear : Bool) (id : Nat) (s : State) : ∃ a, SameRealm s a ∧ State.assign type dest clear id s =
    { a with dom := { a.dom with owner := put a.dom.owner (ownerKey type id) 0 dest } } := by
  have reset : SameRealm s (if clear then s.resetResource type id
      else if type = 4 && decide (s.owner type id ≠ dest) then s.freeBlock id false
      else if type = 8 && decide (s.owner type id ≠ dest) then s.zeroise id
      else s) := .ite (.resetResource rfl) (.ite (.freeBlock rfl) (.ite (.zeroise rfl) rfl))
  exact ⟨_, .ite (.unmap reset) reset, rfl⟩

/-- A resource that passes to a domain changes its owner, and no domain. -/
theorem assign_sameDomains (type dest : Nat) (clear : Bool) (id : Nat) (s : State) : SameDomains s (State.assign type dest clear id s) := by
  obtain ⟨a, ha, he⟩ := s.assign_eq type dest clear id
  rw [he]
  exact ha.sameDomains

theorem each_sameDomains {α : Type} {f : α → State → State} (hf : ∀ x s, SameDomains s (f x s)) (l : List α) (s : State) :
    SameDomains s (each f l s) :=
  each_inv f (SameDomains s) (fun x a h => h.trans (hf x a)) l s rfl

/-- What a destroyed domain held has gone back to D0. -/
def State.reclaimed (s : State) (d : Nat) : State :=
  each (fun (r : Nat × Nat) s => State.assign r.1 0 true r.2 s) ((s.purgeDomain d).resourcesOf d) (s.purgeDomain d)

/-- Its pages are unmapped too, and its lock is released; the domain itself still stands. -/
def State.returned (s : State) (d : Nat) : State :=
  ((s.reclaimed d).unmap fun _ w => w.domain = d || w.region = obsRegion d).releaseLock fun _ x => x = d

theorem State.returned_realm (s : State) (d : Nat) : SameRealm (s.reclaimed d) (s.returned d) := .releaseLock (.unmap rfl)

theorem State.destroyDomain_eq (s : State) (d : Nat) :
    s.destroyDomain d = ({ s.returned d with
      fw := { (s.returned d).fw with epochs := put (s.returned d).fw.epochs d 0 ((look (s.returned d).fw.epochs d 0 + 1) % 2 ^ 32) },
      dom := { (s.returned d).dom with orphans := (s.returned d).dom.orphans.filter (· ≠ d) } } : State).setDomain d {} := by
  unfold State.destroyDomain State.returned State.reclaimed
  rfl

theorem State.returned_sameDomains (s : State) (d : Nat) : SameDomains s (s.returned d) := by
  have purged : SameDomains s (s.purgeDomain d) := (SameRealm.purgeDomain rfl).sameDomains
  have assigned : SameDomains (s.purgeDomain d) (s.reclaimed d) :=
    each_sameDomains (fun (r : Nat × Nat) s => assign_sameDomains r.1 0 true r.2 s) _ _
  exact (purged.trans assigned).trans (s.returned_realm d).sameDomains

/-- DOMAIN_SET op 1 (R94): what a destroyed domain held goes, then the domain. -/
theorem DomainsOk.destroyDomain {d} (h : DomainsOk s) (hd : d ≠ 0) : DomainsOk (s.destroyDomain d) := by
  rw [State.destroyDomain_eq]
  have returned := h.of_same (s.returned_sameDomains d)
  generalize s.returned d = a at returned
  refine returned.change hd (x := {}) nofun (fun e => State.domain_setDomain _ d e {}) rfl rfl (fun h => ?_) fun e he => ?_
  · simp [State.setDomain] at h
  · simp [State.setDomain, he]

/-- Before it moves, the pages of a domain are unmapped and its lock is released. -/
def State.detached (s : State) (d : Nat) : State := (s.unmap fun _ w => w.domain = d).releaseLock fun _ x => x = d

theorem State.detached_realm (s : State) (d : Nat) : SameRealm s (s.detached d) := .releaseLock (.unmap rfl)

theorem State.moveDomain_same {d k : Nat} (h : (s.domain d).host = some k) : s.moveDomain d k = s := by
  unfold State.moveDomain
  exact if_pos h

/-- A domain that goes to another host is an orphan no more. -/
theorem State.moveDomain_other {d k : Nat} (h : (s.domain d).host ≠ some k) :
    s.moveDomain d k = { (s.detached d).setDomain d { s.domain d with host := some k } with
      dom := { ((s.detached d).setDomain d { s.domain d with host := some k }).dom with
        orphans := (s.detached d).dom.orphans.filter (· ≠ d) } } := by
  unfold State.moveDomain
  exact if_neg h

theorem State.domain_moveDomain (s : State) (d k e : Nat) :
    (s.moveDomain d k).domain e = if e = d then { s.domain d with host := some k } else s.domain e := by
  by_cases held : (s.domain d).host = some k
  · rw [State.moveDomain_same held, ← held]
    split
    · rw [‹e = d›]
    · rfl
  · rw [State.moveDomain_other held, ← (s.detached_realm d).domain_eq e]
    exact (s.detached d).domain_setDomain d e _

/-- A domain that moves leaves the orphans; the principal and the other orphans stay. -/
theorem State.moveDomain_rest (s : State) (d k : Nat) :
    (s.moveDomain d k).dom.principal = s.dom.principal ∧ (s.moveDomain d k).dom.valid = s.dom.valid ∧
      ∀ e, e ≠ d → (e ∈ (s.moveDomain d k).dom.orphans ↔ e ∈ s.dom.orphans) := by
  by_cases held : (s.domain d).host = some k
  · rw [State.moveDomain_same held]
    exact ⟨rfl, rfl, fun _ _ => .rfl⟩
  · obtain ⟨-, hprincipal, hvalid, horphans⟩ := (s.detached_realm d).sameDomains.eqs
    rw [State.moveDomain_other held]
    refine ⟨hprincipal, hvalid, fun e he => ?_⟩
    rw [List.mem_filter, horphans, decide_eq_true_eq]
    exact and_iff_left he

/-- DOMAIN_SET op 2 (R94): a domain other than D0 that exists passes to one of the four hosts. -/
theorem DomainsOk.moveDomain {d k} (h : DomainsOk s) (hd : d ≠ 0) (hlive : (s.domain d).live = true) (hk : k < 4) :
    DomainsOk (s.moveDomain d k) := by
  obtain ⟨hprincipal, hvalid, hothers⟩ := s.moveDomain_rest d k
  exact h.change hd (x := { s.domain d with host := some k }) (fun m e => ⟨hlive, by cases e; exact hk⟩) (s.domain_moveDomain d k)
    hprincipal hvalid (fun _ => hlive) hothers

/-! ### The principal (R96–R99) -/

/-- The fold that gives each domain of a list to a host, or to none. -/
def State.setHosts (s : State) (l : List Nat) (m : Option Nat) : State :=
  each (fun d s => State.setDomain s d { s.domain d with host := m }) l s

theorem State.domain_setHosts (s : State) (l : List Nat) (m : Option Nat) (e : Nat) :
    (s.setHosts l m).domain e = if e ∈ l then { s.domain e with host := m } else s.domain e := by
  induction l generalizing s with
  | nil => rfl
  | cons d t ih =>
    rw [State.setHosts, each_cons]
    refine (ih _).trans ?_
    rw [State.domain_setDomain]
    by_cases he : e = d
    · simp [he]
    · simp [he]

theorem State.setHosts_rest (s : State) (l : List Nat) (m : Option Nat) :
    (s.setHosts l m).dom = { s.dom with domains := (s.setHosts l m).dom.domains } := by
  induction l generalizing s with
  | nil => rfl
  | cons d t ih => exact (ih (s.setDomain d { s.domain d with host := m })).trans rfl

/-- R97: the principal and its validity are set; change_seq and the timer are of no domain. -/
theorem DomainsOk.principalChange {k v reason} (hzero : (s.domain 0).live = true)
    (hheld : ∀ d h, (s.domain d).host = some h → (s.domain d).live = true ∧ h < 4) (hk : k < 4)
    (hprincipal : v = true → (s.domain 0).host = some k) (hexist : ∀ d ∈ s.dom.orphans, (s.domain d).live = true)
    (hlost : v = false → 0 ∈ s.dom.orphans) : DomainsOk (s.principalChange k v reason) := by
  have changed : DomainsOk { s with dom := { s.dom with principal := k, valid := v } } := ⟨hzero, hheld, hk, hprincipal, hexist, hlost⟩
  exact changed.of_realm (.eventAll rfl)

/-- The domains that wait for a successor, D0 among them, are held by it, and it is the principal (R97, R98). -/
theorem DomainsOk.passOrphans {k reason} (hzero : (s.domain 0).live = true)
    (hheld : ∀ d h, (s.domain d).host = some h → (s.domain d).live = true ∧ h < 4) (hk : k < 4)
    (hexist : ∀ d ∈ s.dom.orphans, (s.domain d).live = true) (hd0 : 0 ∈ s.dom.orphans) :
    DomainsOk ((s.giveOrphans k).principalChange k true reason) := by
  have given (e : Nat) : (s.giveOrphans k).domain e = if e ∈ s.dom.orphans then { s.domain e with host := some k } else s.domain e :=
    s.domain_setHosts s.dom.orphans (some k) e
  refine .principalChange ?_ (fun e m he => ?_) hk (fun _ => ?_) (fun e he => nomatch he) nofun
  · rw [given, if_pos hd0]
    exact hzero
  · rw [given] at he ⊢
    split at he
    · cases he
      rw [if_pos ‹_›]
      exact ⟨hexist e ‹_›, hk⟩
    · rw [if_neg ‹_›]
      exact hheld e m he
  · rw [given, if_pos hd0]

/-- PRINCIPAL_SET op 0 (R99): D0 alone moves to the host; after a loss the domains that wait go along (R98). -/
theorem DomainsOk.handOff {k} (h : DomainsOk s) (hk : k < 4) : DomainsOk (s.handOff k) := by
  obtain ⟨hzero, hheld, -, -, hexist, hlost⟩ := h
  unfold State.handOff
  split
  · have moved := s.domain_moveDomain 0 k
    obtain ⟨-, -, hothers⟩ := s.moveDomain_rest 0 k
    refine .principalChange ?_ (fun e m he => ?_) hk (fun _ => ?_) (fun e he => ?_) nofun
    · rw [moved]
      exact hzero
    · rw [moved] at he ⊢
      split at he
      · cases he
        rw [if_pos ‹_›]
        exact ⟨hzero, hk⟩
      · rw [if_neg ‹_›]
        exact hheld e m he
    · rw [moved, if_pos rfl]
    · rw [moved]
      split
      · exact hzero
      · exact hexist e ((hothers e ‹_›).1 he)
  · rename_i hv
    exact .passOrphans hzero hheld hk hexist (hlost (Bool.eq_false_iff.2 hv))

/-- The domains that the principal holds. -/
def State.leaving (s : State) : List Nat := (List.range 16).filter fun d => s.holds s.dom.principal d

theorem State.mem_leaving {s : State} {d : Nat} :
    d ∈ s.leaving ↔ d < 16 ∧ (s.domain d).live = true ∧ (s.domain d).host = some s.dom.principal := by
  simp [State.leaving, State.holds]

/-- The lock of the principal is released, and its pages of the domains that leave it are unmapped. -/
def State.unseated (s : State) : State :=
  (s.releaseLock fun h _ => h = s.dom.principal).unmap fun h w => h = s.dom.principal && s.leaving.contains w.domain

theorem State.unseated_realm (s : State) : SameRealm s s.unseated := .unmap (.releaseLock rfl)

/-- Of a lost principal, the domains that it holds lose their host and wait. -/
theorem State.losePrincipal_eq (s : State) : s.losePrincipal =
    { s.unseated.setHosts s.leaving none with dom := { (s.unseated.setHosts s.leaving none).dom with orphans := s.leaving } } := rfl

theorem State.domain_losePrincipal (s : State) (e : Nat) :
    s.losePrincipal.domain e = if e ∈ s.leaving then { s.domain e with host := none } else s.domain e := by
  rw [State.losePrincipal_eq, ← s.unseated_realm.domain_eq]
  exact s.unseated.domain_setHosts s.leaving none e

theorem State.losePrincipal_rest (s : State) :
    s.losePrincipal.dom.orphans = s.leaving ∧ s.losePrincipal.dom.principal = s.dom.principal := by
  obtain ⟨-, -, hprincipal, -⟩ := s.unseated_realm.eqs
  rw [State.losePrincipal_eq]
  exact ⟨rfl, (congrArg Doms.principal (s.unseated.setHosts_rest s.leaving none)).trans hprincipal⟩

/-- The host that succeeds is one of the four (R97). -/
theorem successor_lt {k : Nat} (hk : s.successor = some k) : k < 4 := by
  have hk := List.find?_some hk
  simp only [Bool.and_eq_true, decide_eq_true_eq] at hk
  obtain ⟨⟨hfour, -⟩, -⟩ := hk
  exact hfour

/-- HEARTBEAT_TIMEOUT of a principal that has run out of time (R97, R98). -/
theorem DomainsOk.succeed (h : DomainsOk s) (hv : s.dom.valid = true) :
    DomainsOk (match s.losePrincipal.successor with
      | some k => s.losePrincipal.passOn k
      | none => s.losePrincipal.principalChange s.losePrincipal.dom.principal false 1) := by
  obtain ⟨hzero, hheld, hfour, hprincipal, hexist, -⟩ := h
  obtain ⟨horphans, hsame⟩ := s.losePrincipal_rest
  have lost := s.domain_losePrincipal
  have hd0 : 0 ∈ s.losePrincipal.dom.orphans := by
    rw [horphans, State.mem_leaving]
    exact ⟨by decide, hzero, hprincipal hv⟩
  have live (e : Nat) : (s.losePrincipal.domain e).live = (s.domain e).live := by
    rw [lost]
    split <;> rfl
  have held (e m : Nat) (he : (s.losePrincipal.domain e).host = some m) : (s.losePrincipal.domain e).live = true ∧ m < 4 := by
    rw [live]
    rw [lost] at he
    split at he
    · cases he
    · exact hheld e m he
  have waiting : ∀ e ∈ s.losePrincipal.dom.orphans, (s.losePrincipal.domain e).live = true := fun e he => by
    rw [live]
    exact (State.mem_leaving.1 (horphans ▸ he)).2.1
  split
  · rename_i k hk
    exact .passOrphans ((live 0).trans hzero) held (successor_lt hk) waiting hd0
  · exact .principalChange ((live 0).trans hzero) held (hsame ▸ hfour) nofun waiting fun _ => hd0

/-! ### Resets and the boot (R89) -/

theorem DomainsOk.of_onlyD0 {k} (hk : k < 4) (hdomains : s.dom.domains = [(0, { live := true, host := some k })])
    (hprincipal : s.dom.principal = k) (hvalid : s.dom.valid = true) (horphans : s.dom.orphans = []) : DomainsOk s := by
  unfold DomainsOk State.domain
  rw [hdomains, hprincipal, hvalid, horphans]
  refine ⟨rfl, fun d h hd => ?_, hk, fun _ => rfl, nofun, nofun⟩
  by_cases h0 : 0 = d
  · subst h0
    cases hd
    exact ⟨rfl, hk⟩
  · simp [look, h0] at hd

theorem DomainsOk.strapped (s : State) (x : Straps) : DomainsOk (s.strapped x) :=
  .of_onlyD0 (Nat.mod_lt _ (by decide)) rfl rfl rfl rfl

theorem DomainsOk.restart (s : State) (log links ladder : Bool) : DomainsOk (s.restart log links ladder) :=
  (DomainsOk.strapped _ s.endSession.dev.straps).of_realm (.drawNonce rfl)

/-- The provisioning record names the principal, and D0 is its (R97). -/
theorem DomainsOk.provision {k} (h : DomainsOk s) (hk : k < 4)
    (hdomain : ∀ e, a.domain e = if e = 0 then { live := true, host := some k } else s.domain e) (hprincipal : a.dom.principal = k)
    (hvalid : a.dom.valid = s.dom.valid) (horphans : a.dom.orphans = s.dom.orphans) : DomainsOk a := by
  obtain ⟨-, hheld, -, -, hexist, hlost⟩ := h
  unfold DomainsOk
  rw [hprincipal, hvalid, horphans, hdomain 0, if_pos rfl]
  refine ⟨rfl, fun e m he => ?_, hk, fun _ => rfl, fun e he => ?_, hlost⟩
  · rw [hdomain] at he ⊢
    split at he
    · cases he
      rw [if_pos ‹_›]
      exact ⟨rfl, hk⟩
    · rw [if_neg ‹_›]
      exact hheld e m he
  · rw [hdomain]
    split
    · rfl
    · exact hexist e he

theorem DomainsOk.startImage {n i} (h : DomainsOk s) : DomainsOk (s.startImage n i) := by
  unfold State.startImage
  refine DomainsOk.of_realm ?_ (.within (setMode_within _ _) rfl)
  split
  · rename_i p _
    exact h.provision (Nat.mod_lt p.principal (by decide))
      (fun e => look_put s.dom.domains 0 e {} { live := true, host := some (p.principal % 4) }) rfl rfl rfl
  · exact h

theorem DomainsOk.bootSlot {n i} (h : DomainsOk s) : DomainsOk (s.bootSlot n i) :=
  .startImage (h.of_realm (.set_fw rfl rfl))

theorem DomainsOk.bootFlash {b} (h : DomainsOk s) : DomainsOk (s.bootFlash b) := by
  unfold State.bootFlash
  dsimp only
  split
  · exact h.bootSlot
  · exact h.bootSlot
  · exact h.of_realm (.bootError rfl)

/-! ### The rows that change the realm -/

/-- The row answers a next state that has what DomainsOk says. -/
def DomainsStay (i : Instr) (s : State) : Prop := ∃ s', exec i s = .next s' ∧ DomainsOk s'

theorem DomainsStay.next {i : Instr} {s' : State} (h : exec i s = .next s') (k : DomainsOk s') : DomainsStay i s := ⟨s', h, k⟩

theorem DomainsStay.of_realm {i : Instr} (h : DomainsOk s) (k : RealmStays i s) : DomainsStay i s := by
  obtain ⟨s', hexec, hrealm⟩ := k
  exact .next hexec (h.of_realm hrealm)

theorem powerOnReset_domainsStay {t straps} : DomainsStay (.powerOnReset t straps) s :=
  .next rfl ((DomainsOk.strapped _ _).of_realm (.set rfl))

section
variable (h : DomainsOk s)
include h

theorem DomainsOk.at_ (t : Nat) : DomainsOk (s.at_ t) := h.of_realm .at_

theorem DomainsOk.ite {c : Prop} [Decidable c] (k : DomainsOk a) : DomainsOk (if c then s else a) := by
  split
  · exact h
  · exact k

theorem pinReset_domainsStay {t lowNs straps} : DomainsStay (.pinReset t lowNs straps) s :=
  .next rfl ((h.at_ t).ite ((DomainsOk.strapped _ straps).of_realm (.set rfl)))

theorem devResetFull_domainsStay {t host value} : DomainsStay (.devResetFull t host value) s :=
  .next rfl (.ite (.restart _ _ _ _) (h.at_ t))

theorem supplyFault_domainsStay {t rail outNs outOfOrder} : DomainsStay (.supplyFault t rail outNs outOfOrder) s :=
  .next rfl ((h.at_ t).ite ((DomainsOk.restart _ false false false).of_realm (.set rfl)))

theorem resetNRisingEdge_domainsStay {t straps} : DomainsStay (.resetNRisingEdge t straps) s :=
  .next rfl ((h.at_ t).ite ((DomainsOk.strapped _ straps).of_realm (.set rfl)))

theorem bootImageCheck_domainsStay {t boot} : DomainsStay (.bootImageCheck t boot) s := by
  refine .next rfl ((h.at_ t).ite (.ite ((h.at_ t).of_realm (.bootError rfl)) ?_))
  have read : SameRealm s (if boot.flashOk then { (s.at_ t).coresOut boot.coresOk with
      fw := { ((s.at_ t).coresOut boot.coresOk).fw with topoRecord := boot.topology, prov := boot.provisioning } }
      else (s.at_ t).coresOut boot.coresOk) := .ite (.set_fw (.coresOut .at_) rfl) (.coresOut .at_)
  have checked := h.of_realm read
  dsimp only
  split
  · exact checked.of_realm (.bootError rfl)
  · exact checked
  · exact .ite checked.bootFlash (checked.of_realm (.bootError rfl))

/-- A delivery that is complete starts its image in SAFE mode (R459, R460). -/
theorem fwChunkWritten_domainsStay {t} : DomainsStay (.fwChunkWritten t) s := by
  refine .next rfl ?_
  have hat := h.at_ t
  generalize s.at_ t = a at hat
  split
  · exact hat
  · rename_i d _
    split
    · exact hat
    · rename_i b _
      refine hat.ite ?_
      extract_lets d1 flash a1 ok i n a2 a3 a4
      have k1 : SameRealm a a1 := .set_fw rfl rfl
      have k4 : SameRealm a a4 := .deliveryEvent (.closeDelivery (.answerChunk k1))
      have started : DomainsOk { a4 with dev := { a4.dev with startOrigin := a4.now } } := hat.of_realm (.set k4)
      exact .ite (hat.of_realm (.answerChunk k1)) (.ite (hat.of_realm (.hostImageFails k4)) (.ite started.startImage (hat.of_realm k4)))

/-- DOMAIN_SET (R88, R93, R94): its checks let it name no domain but one of 1 to 15, and no host but one of the four. -/
theorem domainSet_domainsStay {t c} : DomainsStay (.domainSet t c) s := by
  refine .next rfl ((h.at_ t).command fun he => ?_)
  simp only [firstErr_none, at_, need_eq_none, Bool.and_eq_true, decide_eq_true_eq] at he
  obtain ⟨-, hop, ⟨⟨hd, -⟩, hlive⟩, hhost, -⟩ := he
  have hd : c.u8 17 ≠ 0 := Nat.ne_of_gt hd
  dsimp only
  split
  · exact (h.at_ t).create hd (by simpa [*] using hhost)
  · exact (h.at_ t).destroyDomain hd
  · rename_i h0 h1
    rw [if_neg h1, decide_eq_true_eq] at hhost
    exact (h.at_ t).moveDomain hd (hlive.trans (decide_eq_true h0)) hhost

/-- RESOURCE_ASSIGN (R91, R93) gives resources to domains, and no domain to a host. -/
theorem resourceAssign_domainsStay {t c} : DomainsStay (.resourceAssign t c) s :=
  .next rfl ((h.at_ t).command fun _ =>
    (h.at_ t).of_same (each_sameDomains (fun id a => assign_sameDomains (c.u8 16) (c.u8 17) (c.u8 18 = 1) id a) _ _))

/-! ### The rows of the domains -/

theorem secHeartbeat_domainsStay {t host value} : DomainsStay (.secHeartbeat t host value) s :=
  .next rfl (.ite ((h.at_ t).of_realm (.set_dom rfl)) (h.at_ t))

/-- PRINCIPAL_SET (R96, R99): its checks let it hand D0 to one of the four hosts. -/
theorem principalSet_domainsStay {t c} : DomainsStay (.principalSet t c) s := by
  refine .next rfl ((h.at_ t).command fun he => ?_)
  simp only [List.cons_append, List.nil_append, firstErr_none, at_, need_eq_none] at he
  obtain ⟨-, -, hhost, -⟩ := he
  dsimp only
  split
  · rename_i hop
    simp only [hop, if_true, Bool.and_eq_true, decide_eq_true_eq] at hhost
    exact (h.at_ t).handOff hhost.1
  · exact (h.at_ t).of_realm (.set_dom rfl)
  · exact (h.at_ t).of_realm (.set_dom rfl)

theorem heartbeatTimeout_domainsStay {t} : DomainsStay (.heartbeatTimeout t) s := by
  refine .next rfl ?_
  dsimp only
  split
  · exact h.at_ t
  · rename_i hc
    simp only [Bool.or_eq_true, not_or] at hc
    obtain ⟨⟨⟨hvalid, -⟩, -⟩, -⟩ := hc
    exact (h.at_ t).succeed (by simpa using hvalid)

theorem principalRecheck_domainsStay {t} : DomainsStay (.principalRecheck t) s := by
  refine .next rfl ?_
  have hat := h.at_ t
  generalize s.at_ t = a at hat
  split
  · exact hat
  · rename_i hc
    simp only [Bool.or_eq_true, not_or] at hc
    obtain ⟨⟨⟨hlost, -⟩, -⟩, -⟩ := hc
    obtain ⟨hzero, hheld, -, -, hexist, hd0⟩ := id hat
    split
    · exact .passOrphans hzero hheld (successor_lt ‹_›) hexist (hd0 (Bool.eq_false_iff.2 hlost))
    · exact hat.of_realm (.set_dom rfl)

theorem DomainsOk.expireLock : DomainsOk s.expireLock := by
  unfold State.expireLock
  split
  · exact h.ite (h.of_realm (.event (.set_dom rfl)))
  · exact h

theorem DomainsOk.keyResult {k v} : DomainsOk (s.keyResult k v) := h.of_realm (.set rfl)

theorem DomainsOk.lockWrite {k v} : DomainsOk (s.lockWrite k v) := by
  have taken {x} : DomainsOk { s with dom := { s.dom with lock := x } } := h.of_realm (.set_dom rfl)
  refine h.ite (.ite ?_ (.ite ?_ h))
  · unfold State.claimLock
    refine .ite h.keyResult ?_
    split
    · exact taken.keyResult
    · exact .ite taken.keyResult h.keyResult
  · unfold State.freeLock
    split
    · exact .ite taken.keyResult h.keyResult
    · exact h.keyResult

theorem keyLockClaim_domainsStay {t writes} : DomainsStay (.keyLockClaim t writes) s :=
  .next rfl (each_inv _ DomainsOk (fun _ _ k => k.lockWrite.ite k) _ _ (h.at_ t).expireLock)

theorem keyLockRelease_domainsStay {t host value} : DomainsStay (.keyLockRelease t host value) s :=
  .next rfl ((h.at_ t).expireLock.lockWrite.ite (h.at_ t).expireLock)

theorem keyLockExpired_domainsStay {t} : DomainsStay (.keyLockExpired t) s := .next rfl (h.at_ t).expireLock

theorem keyImport_domainsStay {t c b} : DomainsStay (.keyImport t c b) s :=
  .next rfl ((h.at_ t).command fun _ => (h.at_ t).of_realm (.set_dom rfl))

theorem debugSessionExpire_domainsStay {t} : DomainsStay (.debugSessionExpire t) s :=
  .next rfl (.ite ((h.at_ t).of_realm (.endSession rfl)) (h.at_ t))

/-! ### Every row -/

/-- A row of another part (R78). -/
theorem DomainsStay.of_partOf {i : Instr} {p : Part} (hi : partOf i = some p) (hp : p ≠ .dom) : DomainsStay i s := by
  obtain ⟨s', hexec, hwithin⟩ := keepsBeside_of_partOf (s := s) hi
  have hdom : s'.dom = s.dom := hwithin.same.2 .dom hp.symm (by decide)
  exact .next hexec (h.of_same (by rw [SameDomains, hdom]))

theorem domainsStay (i : Instr) : DomainsStay i s := by
  cases i
  case powerOnReset => exact powerOnReset_domainsStay
  case pinReset => exact pinReset_domainsStay h
  case devResetFull => exact devResetFull_domainsStay h
  case supplyFault => exact supplyFault_domainsStay h
  case resetNRisingEdge => exact resetNRisingEdge_domainsStay h
  case bootImageCheck => exact bootImageCheck_domainsStay h
  case fwChunkWritten => exact fwChunkWritten_domainsStay h
  case domainSet => exact domainSet_domainsStay h
  case resourceAssign => exact resourceAssign_domainsStay h
  case secHeartbeat => exact secHeartbeat_domainsStay h
  case principalSet => exact principalSet_domainsStay h
  case heartbeatTimeout => exact heartbeatTimeout_domainsStay h
  case principalRecheck => exact principalRecheck_domainsStay h
  case keyLockClaim => exact keyLockClaim_domainsStay h
  case keyLockRelease => exact keyLockRelease_domainsStay h
  case keyLockExpired => exact keyLockExpired_domainsStay h
  case keyImport => exact keyImport_domainsStay h
  case debugSessionExpire => exact debugSessionExpire_domainsStay h
  case devResetDataPlane => exact .of_realm h devResetDataPlane_sameRealm
  case hostLinkLoss => exact .of_realm h hostLinkLoss_sameRealm
  case hostLinkTrained => exact .of_realm h hostLinkTrained_sameRealm
  case rootPllLoss => exact .of_realm h rootPllLoss_sameRealm
  case thermalTrip => exact .of_realm h thermalTrip_sameRealm
  case guylineTrainingDone => exact .of_realm h guylineTrainingDone_sameRealm
  case serdesCalibrationDone => exact .of_realm h serdesCalibrationDone_sameRealm
  case dramTrainingDone => exact .of_realm h dramTrainingDone_sameRealm
  case trainingTimeout => exact .of_realm h trainingTimeout_sameRealm
  case stackZeroingDone => exact .of_realm h stackZeroingDone_sameRealm
  case configApply => exact .of_realm h configApply_sameRealm
  case modeSet => exact .of_realm h modeSet_sameRealm
  case dataPlaneHoldDone => exact .of_realm h dataPlaneHoldDone_sameRealm
  case cxlmemRead => exact .of_realm h cxlmemRead_sameRealm
  case cxlmemWrite => exact .of_realm h cxlmemWrite_sameRealm
  case keyDestroy => exact .of_realm h keyDestroy_sameRealm
  case debugAuth => exact .of_realm h debugAuth_sameRealm
  case jtagToken => exact .of_realm h jtagToken_sameRealm
  case jtagInstruction => exact .of_realm h jtagInstruction_sameRealm
  case portMap => exact .of_realm h portMap_sameRealm
  case portConfig => exact .of_realm h portConfig_sameRealm
  case portUp => exact .of_realm h portUp_sameRealm
  case laneSignalLoss => exact .of_realm h laneSignalLoss_sameRealm
  case remoteFaultReceived => exact .of_realm h remoteFaultReceived_sameRealm
  case fecDegradeInterval => exact .of_realm h fecDegradeInterval_sameRealm
  case laneFail => exact .of_realm h laneFail_sameRealm
  case quadFail => exact .of_realm h quadFail_sameRealm
  case ethFrameReceive => exact .of_realm h ethFrameReceive_sameRealm
  case frameTransmit => exact .of_realm h frameTransmit_sameRealm
  case eliLaneMarker => exact .of_realm h eliLaneMarker_sameRealm
  case eliFawMatch => exact .of_realm h eliFawMatch_sameRealm
  case eliFrameReceive => exact .of_realm h eliFrameReceive_sameRealm
  case eliTxFrameStart => exact .of_realm h eliTxFrameStart_sameRealm
  case ingressDispatch => exact .of_realm h ingressDispatch_sameRealm
  case egressDispatch => exact .of_realm h egressDispatch_sameRealm
  case parseComplete => exact .of_realm h parseComplete_sameRealm
  case orderBucketRelease => exact .of_realm h orderBucketRelease_sameRealm
  case steerHoldDrained => exact .of_realm h steerHoldDrained_sameRealm
  case steerHoldTimeout => exact .of_realm h steerHoldTimeout_sameRealm
  case lookupIssue => exact .of_realm h lookupIssue_sameRealm
  case classifyIssue => exact .of_realm h classifyIssue_sameRealm
  case scanIssue => exact .of_realm h scanIssue_sameRealm
  case assocSearchIssue => exact .of_realm h assocSearchIssue_sameRealm
  case lookupResponse => exact .of_realm h lookupResponse_sameRealm
  case scanResponse => exact .of_realm h scanResponse_sameRealm
  case assocResponse => exact .of_realm h assocResponse_sameRealm
  case assocSearch => exact .of_realm h assocSearch_sameRealm
  case engineIssue => exact .of_realm h engineIssue_sameRealm
  case slotTableSwitch => exact .of_realm h slotTableSwitch_sameRealm
  case wait => exact .of_realm h wait_sameRealm
  case signal => exact .of_realm h signal_sameRealm
  case chanStage => exact .of_realm h chanStage_sameRealm
  case chanCommit => exact .of_realm h chanCommit_sameRealm
  case chanRead => exact .of_realm h chanRead_sameRealm
  case faultRaise => exact .of_realm h faultRaise_sameRealm
  case faultQueueRead => exact .of_realm h faultQueueRead_sameRealm
  case confirm => exact .of_realm h confirm_sameRealm
  case packetDma => exact .of_realm h packetDma_sameRealm
  case packetDmaDone => exact .of_realm h packetDmaDone_sameRealm
  case responseTimeout => exact .of_realm h responseTimeout_sameRealm
  case passBudgetExceeded => exact .of_realm h passBudgetExceeded_sameRealm
  case passEnd => exact .of_realm h passEnd_sameRealm
  case allwaitDetect => exact .of_realm h allwaitDetect_sameRealm
  case allwaitEscalate => exact .of_realm h allwaitEscalate_sameRealm
  case clusterStallRecovery => exact .of_realm h clusterStallRecovery_sameRealm
  case clusterFail => exact .of_realm h clusterFail_sameRealm
  case engProfileLoad => exact .of_realm h engProfileLoad_sameRealm
  case engConfig => exact .of_realm h engConfig_sameRealm
  case threadDebug => exact .of_realm h threadDebug_sameRealm
  case scoutDeliver => exact .of_realm h scoutDeliver_sameRealm
  case squash => exact .of_realm h squash_sameRealm
  case scoutFill => exact .of_realm h scoutFill_sameRealm
  case editApply => exact .of_realm h editApply_sameRealm
  case tunnelCipher => exact .of_realm h tunnelCipher_sameRealm
  case guylineDeliver => exact .of_realm h guylineDeliver_sameRealm
  case guylineGroupFailed => exact .of_realm h guylineGroupFailed_sameRealm
  case guylineMapoutDrained => exact .of_realm h guylineMapoutDrained_sameRealm
  case guylineEntryReturn => exact .of_realm h guylineEntryReturn_sameRealm
  case cellAllocate => exact .of_realm h cellAllocate_sameRealm
  case cellFree => exact .of_realm h cellFree_sameRealm
  case pfcXoffRefresh => exact .of_realm h pfcXoffRefresh_sameRealm
  case farPageMove => exact .of_realm h farPageMove_sameRealm
  case bufReconcile => exact .of_realm h bufReconcile_sameRealm
  case poolThresh => exact .of_realm h poolThresh_sameRealm
  case enqueue => exact .of_realm h enqueue_sameRealm
  case tokenRefill => exact .of_realm h tokenRefill_sameRealm
  case schedSelect => exact .of_realm h schedSelect_sameRealm
  case selectionComplete => exact .of_realm h selectionComplete_sameRealm
  case flushComplete => exact .of_realm h flushComplete_sameRealm
  case sliceFail => exact .of_realm h sliceFail_sameRealm
  case obsSamplePass => exact .of_realm h obsSamplePass_sameRealm
  case congStats => exact .of_realm h congStats_sameRealm
  case fabCellReceive => exact .of_realm h fabCellReceive_sameRealm
  case fabCellSend => exact .of_realm h fabCellSend_sameRealm
  case fabGapTimeout => exact .of_realm h fabGapTimeout_sameRealm
  case fabLinkFail => exact .of_realm h fabLinkFail_sameRealm
  case fabLinkReturn => exact .of_realm h fabLinkReturn_sameRealm
  case fabLinkMapoutDone => exact .of_realm h fabLinkMapoutDone_sameRealm
  case ponDsFrame => exact .of_realm h ponDsFrame_sameRealm
  case ponBurstReceive => exact .of_realm h ponBurstReceive_sameRealm
  case ponSerialNumber => exact .of_realm h ponSerialNumber_sameRealm
  case ponRogueSearchStep => exact .of_realm h ponRogueSearchStep_sameRealm
  case ponChannelFail => exact .of_realm h ponChannelFail_sameRealm
  case ponTreeConfig => exact .of_realm h ponTreeConfig_sameRealm
  case ponBurstProfile => exact .of_realm h ponBurstProfile_sameRealm
  case ponOnu => exact .of_realm h ponOnu_sameRealm
  case ponOnuKey => exact .of_realm h ponOnuKey_sameRealm
  case grantSnapshot => exact .of_realm h grantSnapshot_sameRealm
  case grantMapReady => exact .of_realm h grantMapReady_sameRealm
  case macsecVerdict => exact .of_realm h macsecVerdict_sameRealm
  case cipherDisagree => exact .of_realm h cipherDisagree_sameRealm
  case cipherKat => exact .of_realm h cipherKat_sameRealm
  case cipherReplace => exact .of_realm h cipherReplace_sameRealm
  case macsecPort => exact .of_realm h macsecPort_sameRealm
  case dramArbitrate => exact .of_realm h dramArbitrate_sameRealm
  case dramSelfRefreshEnter => exact .of_realm h dramSelfRefreshEnter_sameRealm
  case dramOppoint => exact .of_realm h dramOppoint_sameRealm
  case dramPatrolScrub => exact .of_realm h dramPatrolScrub_sameRealm
  case dramStackFail => exact .of_realm h dramStackFail_sameRealm
  case dramQuery => exact .of_realm h dramQuery_sameRealm
  case dramTrain => exact .of_realm h dramTrain_sameRealm
  case basecampCoreFail => exact .of_realm h basecampCoreFail_sameRealm
  case tableBankFail => exact .of_realm h tableBankFail_sameRealm
  case tableBankRebuilt => exact .of_realm h tableBankRebuilt_sameRealm
  case assocBlockFail => exact .of_realm h assocBlockFail_sameRealm
  case nearBankFail => exact .of_realm h nearBankFail_sameRealm
  case unitMap => exact .of_realm h unitMap_sameRealm
  case clusterDrained => exact .of_realm h clusterDrained_sameRealm
  case nearBankDrained => exact .of_realm h nearBankDrained_sameRealm
  case sliceNodeMove => exact .of_realm h sliceNodeMove_sameRealm
  case unitMapTimeout => exact .of_realm h unitMapTimeout_sameRealm
  case fwHeaderVerified => exact .of_realm h fwHeaderVerified_sameRealm
  case inbandFwFrame => exact .of_realm h inbandFwFrame_sameRealm
  case fwActivate => exact .of_realm h fwActivate_sameRealm
  case fwHandover => exact .of_realm h fwHandover_sameRealm
  case handoverHealthTimeout => exact .of_realm h handoverHealthTimeout_sameRealm
  case profileClusterSwap => exact .of_realm h profileClusterSwap_sameRealm
  case trialExpire => exact .of_realm h trialExpire_sameRealm
  case fwRollback => exact .of_realm h fwRollback_sameRealm
  case eliFawNotFound => exact .of_realm h eliFawNotFound_sameRealm
  case trailheadSteerRebalance => exact .of_realm h trailheadSteerRebalance_sameRealm
  all_goals exact .of_partOf h rfl (by decide)

end

/-- Settles O56. A row that changes neither the domains nor the principal keeps what is said of them (`DomainsOk.of_same`): every row of a
part other than theirs (`keepsBeside_of_partOf`), and of the rest every row but the resets, the boot, DOMAIN_SET, RESOURCE_ASSIGN, the
succession and the key lock, which are taken one by one. -/
theorem domainsKept : Obligations.DomainsKept := by
  unfold Obligations.DomainsKept
  intro s s' h hstep
  unfold step at hstep
  split at hstep
  · cases hstep
    exact h
  · rename_i c rest _
    have hfront : DomainsOk { s with pending := rest } := h.of_realm (.set rfl)
    obtain ⟨a, hexec, hok⟩ := domainsStay hfront c
    obtain rfl : a = s' := Host.Outcome.next.inj (hexec.symm.trans hstep)
    exact hok

end Sys2Proof.Machine
end


section
/-! SUPPORT for O54 and O55. The domains after a reset (R88, R89, R444). -/

namespace Sys2Proof.Machine

set_option Elab.async false

variable {s : State}

theorem OnlyD0.of_reset {x : Domain} (hdomains : s.dom.domains = [(0, x)]) (hlive : x.live = true) (howner : s.dom.owner = []) :
    OnlyD0 s := by
  unfold OnlyD0 State.domain State.owner
  rw [hdomains, howner]
  refine ⟨hlive, fun d hd => ?_, fun _ _ => rfl⟩
  simp [look, hd.symm]

theorem OnlyD0.restart_strapped (s : State) (log links ladder : Bool) (x : Straps) : OnlyD0 ((s.restart log links ladder).strapped x) :=
  .of_reset rfl rfl rfl

theorem OnlyD0.restart (s : State) (log links ladder : Bool) : OnlyD0 (s.restart log links ladder) := .of_reset rfl rfl rfl

/-- Settles O54: `State.restart` leaves no domain but D0 and no owner but D0, and a data-plane reset keeps the realm. -/
theorem resetsLeaveD0 : Obligations.ResetsLeaveD0 := by
  unfold Obligations.ResetsLeaveD0
  refine ⟨fun straps t s _ => ?_, fun lowNs straps t s hp => ?_, fun host value t s hw => ?_, fun host value t s _ => ?_⟩
  · exact ⟨_, rfl, OnlyD0.restart_strapped (s.at_ t) false false false straps⟩
  · obtain ⟨hlow, htrip⟩ := hp
    refine ⟨_, rfl, ?_⟩
    rw [if_neg (by simp [htrip, Nat.not_lt.2 hlow])]
    exact OnlyD0.restart_strapped (s.at_ t) true false true straps
  · refine ⟨_, rfl, ?_⟩
    rw [if_pos hw]
    exact .restart _ true true true
  · obtain ⟨s', hexec, hrealm⟩ := devResetDataPlane_sameRealm (s := s) (t := t) (host := host) (value := value)
    obtain ⟨hdomains, howner, -⟩ := hrealm.eqs
    exact ⟨s', hexec, hdomains, howner⟩

/-- Settles O55: only D0 exists, held by H0, which is the principal; the log is empty and every counter is 0. -/
theorem invariantsAtReset : Obligations.InvariantsAtReset := by
  unfold Obligations.InvariantsAtReset
  refine ⟨.of_onlyD0 (by decide) rfl rfl rfl rfl, ?_⟩
  exact ⟨Nat.zero_le _, Nat.zero_le _, rfl, fun _ => Nat.two_pow_pos 56⟩

end Sys2Proof.Machine
end


section
/-! SUPPORT for O8. The key lock (R103, R104): the operations on it, one lemma per case. -/

namespace Sys2Proof.Machine

set_option Elab.async false

variable {s : State}

/-! ### The lock's time -/

theorem State.expireLock_free (h : s.dom.lock = none) : s.expireLock = s := by
  unfold State.expireLock
  rw [h]

theorem State.expireLock_running {l : KeyLock} (h : s.dom.lock = some l) (hl : s.now < l.deadline) : s.expireLock = s := by
  unfold State.expireLock
  rw [h]
  exact if_pos hl

/-- A lock that is free or whose time runs is as it was at the instant of the row. -/
theorem State.expireLock_of_all (h : ∀ l, s.dom.lock = some l → s.now < l.deadline) : s.expireLock = s := by
  cases hl : s.dom.lock with
  | none => exact State.expireLock_free hl
  | some l => exact State.expireLock_running hl (h l hl)

theorem State.expireLock_over {l : KeyLock} (h : s.dom.lock = some l) (hl : l.deadline ≤ s.now) :
    s.expireLock = { s with dom := { s.dom with lock := none } }.event 0x01F2 l.domain 0 0 fun h => h = l.host := by
  unfold State.expireLock
  rw [h]
  exact if_neg (Nat.not_lt.2 hl)

theorem State.lockNow_free (h : s.dom.lock = none) : s.lockNow = none := by rw [State.lockNow, h, Option.filter_none]

theorem State.lockNow_running {l : KeyLock} (h : s.dom.lock = some l) (hl : s.now < l.deadline) : s.lockNow = some l := by
  rw [State.lockNow, h, Option.filter_some_pos (by simpa using hl)]

/-! ### Claims (R103) -/

/-- The lock is `h`'s under the domain `d` for 10 ms. -/
def State.takeLock (s : State) (h d : Nat) : State :=
  { s with dom := { s.dom with lock := some { host := h, domain := d, deadline := s.now + ms 10 } } }.keyResult h 0

theorem State.claimLock_denied {h d : Nat} (hh : s.holds h d = false) : s.claimLock h d = s.keyResult h 0x02 := by
  simp [State.claimLock, hh]

theorem State.claimLock_free {h d : Nat} (hh : s.holds h d = true) (hl : s.dom.lock = none) : s.claimLock h d = s.takeLock h d := by
  simp [State.claimLock, hh, State.lockNow_free hl, State.takeLock]

theorem State.claimLock_renew {h d : Nat} {l : KeyLock} (hh : s.holds h d = true) (hl : s.dom.lock = some l) (hn : s.now < l.deadline)
    (hhost : l.host = h) (hdomain : l.domain = d) : s.claimLock h d = s.takeLock h d := by
  simp [State.claimLock, hh, State.lockNow_running hl hn, State.takeLock, hhost, hdomain]

theorem State.claimLock_locked {h d : Nat} {l : KeyLock} (hh : s.holds h d = true) (hl : s.dom.lock = some l) (hn : s.now < l.deadline)
    (hother : l.host ≠ h ∨ l.domain ≠ d) : s.claimLock h d = s.keyResult h 0x0A := by
  have hne : ¬(l.host = h ∧ l.domain = d) := fun ⟨e, f⟩ => hother.elim (· e) (· f)
  simp [State.claimLock, hh, State.lockNow_running hl hn, hne]

/-- The write that claims the lock for host `h` under domain `d`. -/
def claimWrite (h d : Nat) : RegWrite := { host := h, addr := 0x00200010, size := 4, value := 0x40000000 + d }

/-- Op 0b01 in bits 31:30, the domain in bits 3:0. -/
theorem State.lockWrite_claim {h d : Nat} (ha : s.answers h = true) (hd : d < 16) : s.lockWrite h (0x40000000 + d) = s.claimLock h d := by
  have op : bits (0x40000000 + d) 31 30 = 1 := by
    unfold bits
    omega
  have domain : (0x40000000 + d) % 16 = d := by omega
  simp [State.lockWrite, ha, op, domain]

theorem exec_keyLockClaim (t : Nat) (writes : List RegWrite) (s : State) :
    exec (.keyLockClaim t writes) s = .next (each (fun w s => if w.addr = 0x00200010 && w.size = 4 then s.lockWrite w.host w.value else s)
      (claimsOf writes) (s.at_ t).expireLock) := rfl

/-- One claim, of a lock that is free or whose time runs. -/
theorem exec_keyLockClaim_one {t h d : Nat} (hh : h < 4) (hd : d < 16) (ha : (s.at_ t).answers h = true)
    (hl : ∀ l, (s.at_ t).dom.lock = some l → (s.at_ t).now < l.deadline) :
    exec (.keyLockClaim t [claimWrite h d]) s = .next ((s.at_ t).claimLock h d) := by
  rw [exec_keyLockClaim, claimsOf_singleton (show (claimWrite h d).host < 4 from hh), State.expireLock_of_all hl, each_cons, each_nil]
  exact congrArg _ ((if_pos (by rfl)).trans (State.lockWrite_claim ha hd))

/-- Two writes of one cycle are taken in the order of their hosts (R59). -/
theorem claimsOf_pair {v w : RegWrite} (h : w.host < v.host) (hv : v.host < 4) : claimsOf [v, w] = [w, v] := by
  have hosts : (w.host = 0 ∧ v.host = 1) ∨ (w.host = 0 ∧ v.host = 2) ∨ (w.host = 0 ∧ v.host = 3) ∨ (w.host = 1 ∧ v.host = 2) ∨
      (w.host = 1 ∧ v.host = 3) ∨ (w.host = 2 ∧ v.host = 3) := by omega
  rcases hosts with ⟨h, k⟩ | ⟨h, k⟩ | ⟨h, k⟩ | ⟨h, k⟩ | ⟨h, k⟩ | ⟨h, k⟩ <;> simp [claimsOf, h, k]

theorem exec_keyLockClaim_pair {t h d k f : Nat} (hk : k < h) (hh : h < 4) (hd : d < 16) (hf : f < 16)
    (ha : (s.at_ t).answers h = true) (hb : (s.at_ t).answers k = true) (hl : (s.at_ t).dom.lock = none)
    (hheld : (s.at_ t).holds h d = true) (kheld : (s.at_ t).holds k f = true) :
    exec (.keyLockClaim t [claimWrite h d, claimWrite k f]) s = .next (((s.at_ t).takeLock k f).keyResult h 0x0A) := by
  rw [exec_keyLockClaim, claimsOf_pair (v := claimWrite h d) (w := claimWrite k f) hk hh, State.expireLock_free hl]
  generalize s.at_ t = a at *
  have first : a.lockWrite k (0x40000000 + f) = a.takeLock k f := (State.lockWrite_claim hb hf).trans (State.claimLock_free kheld hl)
  have answers : (a.takeLock k f).answers h = true := by
    unfold State.answers State.takeLock State.keyResult
    rw [State.setHostPort_hostPort, if_neg (Nat.ne_of_gt hk)]
    exact ha
  have second : (a.takeLock k f).lockWrite h (0x40000000 + d) = (a.takeLock k f).keyResult h 0x0A :=
    (State.lockWrite_claim answers hd).trans
      (State.claimLock_locked (l := { host := k, domain := f, deadline := a.now + ms 10 }) hheld rfl
        (Nat.lt_add_of_pos_right (by decide)) (.inl (Nat.ne_of_lt hk)))
  rw [each_cons, each_cons, each_nil]
  show Host.Outcome.next ((a.lockWrite k (0x40000000 + f)).lockWrite h (0x40000000 + d)) = _
  rw [first, second]

/-! ### Releases (R104) -/

theorem State.lockWrite_release {h v : Nat} (ha : s.answers h = true) (hv : bits v 31 30 = 2) : s.lockWrite h v = s.freeLock h := by
  simp [State.lockWrite, ha, hv]

theorem State.freeLock_holder {h : Nat} {l : KeyLock} (hl : s.dom.lock = some l) (hh : l.host = h) :
    s.freeLock h = { s with dom := { s.dom with lock := none } }.keyResult h 0 := by
  simp [State.freeLock, hl, hh]

theorem State.freeLock_other {h : Nat} {l : KeyLock} (hl : s.dom.lock = some l) (hh : l.host ≠ h) : s.freeLock h = s.keyResult h 0x0A := by
  simp [State.freeLock, hl, hh]

theorem exec_keyLockRelease_running {t host value : Nat} {l : KeyLock} (ha : (s.at_ t).answers host = true) (hv : bits value 31 30 = 2)
    (hl : (s.at_ t).dom.lock = some l) (hn : (s.at_ t).now < l.deadline) :
    exec (.keyLockRelease t host value) s = .next ((s.at_ t).freeLock host) := by
  have row : exec (.keyLockRelease t host value) s =
      .next (if bits value 31 30 = 2 then (s.at_ t).expireLock.lockWrite host value else (s.at_ t).expireLock) := rfl
  rw [row, State.expireLock_running hl hn, if_pos hv, State.lockWrite_release ha hv]

/-- Settles O8, each clause by the case of the claim, the release or the expiry that it speaks of. -/
theorem keyLockCompletes : Obligations.KeyLockCompletes := by
  unfold Obligations.KeyLockCompletes
  refine ⟨?denied, ?free, ?renewed, ?locked, ?pair, ?released, ?kept, ?expired⟩
  case denied =>
    rintro writes h d t s ⟨ha, hh, hd, rfl, hl, hheld⟩
    exact ⟨_, exec_keyLockClaim_one hh hd ha hl, State.claimLock_denied hheld⟩
  case free =>
    rintro writes h d t s ⟨ha, hh, hd, rfl, hl, hheld⟩
    exact ⟨_, exec_keyLockClaim_one hh hd ha (by simp [hl]), State.claimLock_free hheld hl⟩
  case renewed =>
    rintro writes h d l t s ⟨ha, hh, hd, rfl, hl, hn, hhost, hdomain, hheld⟩
    exact ⟨_, exec_keyLockClaim_one hh hd ha (by simpa [hl] using hn), State.claimLock_renew hheld hl hn hhost hdomain⟩
  case locked =>
    rintro writes h d l t s ⟨ha, hh, hd, rfl, hl, hn, hother, hheld⟩
    exact ⟨_, exec_keyLockClaim_one hh hd ha (by simpa [hl] using hn), State.claimLock_locked hheld hl hn hother⟩
  case pair =>
    rintro writes h d k f t s ⟨rfl, hk, hh, hd, hf, ha, hb, hl, hheld, kheld⟩
    refine ⟨_, exec_keyLockClaim_pair hk hh hd hf ha hb hl hheld kheld, rfl, ?_, ?_⟩
    · rw [State.keyResult, State.setHostPort_same]
    · rw [State.keyResult, State.setHostPort_hostPort, if_neg (Nat.ne_of_lt hk), State.takeLock, State.keyResult,
        State.setHostPort_same]
  case released =>
    rintro host value l t s ⟨ha, hv, hl, hn, hh⟩
    exact ⟨_, exec_keyLockRelease_running ha hv hl hn, State.freeLock_holder hl hh⟩
  case kept =>
    rintro host value l t s ⟨ha, hv, hl, hn, hh⟩
    exact ⟨_, exec_keyLockRelease_running ha hv hl hn, State.freeLock_other hl hh⟩
  case expired =>
    rintro l t s ⟨hl, hn⟩
    exact ⟨_, rfl, State.expireLock_over hl hn⟩

end Sys2Proof.Machine
end


section
/-! SUPPORT for O9. The key opcodes (R100–R103): their checks, and the slots that they change. -/

namespace Sys2Proof.Machine

set_option Elab.async false

variable {s : State} {t : Nat} {c : Cmd}

/-- A command that is ready and fails a check of its row is answered with the first failed one. -/
theorem command_refused {code : Nat} {who : Who} {errs : List (Option Err)} {e : Err} (done : Done) (res : Nat)
    (hr : ready s c code who = true) (he : firstErr errs = some e) :
    s.command code c who errs done res = s.answer c e.status e.detail (errResult e res) [] := by
  unfold ready at hr
  split at hr
  · cases hr
  · rename_i x hx
    simp only [Bool.and_eq_true, decide_eq_true_eq, Bool.not_eq_true', Option.isNone_iff_eq_none] at hr
    obtain ⟨⟨⟨⟨hcode, hworking⟩, hbasecamp⟩, hwaits⟩, hframe⟩ := hr
    exact command_err s code c who errs done res x e hx hcode hworking hbasecamp hwaits (by rw [hframe]; exact he)

/-! ### The checks -/

theorem firstErr_append_none {l m : List (Option Err)} (hl : firstErr l = none) : firstErr (l ++ m) = firstErr m := by
  rw [firstErr_append, hl, Option.none_or]

theorem firstErr_append_some {l : List (Option Err)} {e : Err} (m : List (Option Err)) (hl : firstErr l = some e) :
    firstErr (l ++ m) = some e := by
  rw [firstErr_append, hl, Option.some_or]

theorem State.locks_of_lockNow (h : ∃ l, s.lockNow = some l ∧ l.host = c.host ∧ l.domain = c.domain) : s.locks c = true := by
  obtain ⟨l, hl, hhost, hdomain⟩ := h
  simp [State.locks, hl, hhost, hdomain]

theorem State.keyErrs_ok {first count : Nat} (ho : s.ownsRange c.domain 8 first (max 1 count) = true)
    (hl : ∃ l, s.lockNow = some l ∧ l.host = c.host ∧ l.domain = c.domain) : firstErr (s.keyErrs c first count) = none := by
  simp [State.keyErrs, need, ho, State.locks_of_lockNow hl]

theorem State.keyErrs_denied {first count : Nat} (ho : s.ownsRange c.domain 8 first (max 1 count) = false) :
    firstErr (s.keyErrs c first count) = some denied := by
  simp [State.keyErrs, need, ho, firstErr]

theorem State.keyErrs_locked {first count : Nat} (ho : s.ownsRange c.domain 8 first (max 1 count) = true) (hl : s.locks c = false)
    (hs : (s.startedAs c).any (fun x => x.locked) = false) : firstErr (s.keyErrs c first count) = some { status := .locked } := by
  simp [State.keyErrs, need, ho, hl, hs, firstErr]

/-- The last check of a blob is that it unwraps (R101). -/
theorem State.blobErrs_eq (s : State) (c : Cmd) (b : Bytes) : s.blobErrs c b =
    (s.blobErrs c b).dropLast ++ [img (if c.u8 32 = 2 then 16 else 104) (s.unwrap c b).isSome] := by
  have last {l : List (Option Err)} {x y : Option Err} : l ++ [x, y] = (l ++ [x, y]).dropLast ++ [y] := by
    rw [List.append_cons, List.dropLast_concat]
  unfold State.blobErrs
  simp only
  exact last

/-- The checks of KEY_IMPORT. -/
def keyImportErrs (s : State) (c : Cmd) (b : BufRead) : List (Option Err) :=
  s.keyErrs c (c.u32 28) 1 ++
    [c.bufferErr, at_ 24 (c.u32 24 = 144 || c.u32 24 = 56), at_ 32 (if c.u32 24 = 144 then c.u8 32 = 1 else c.u8 32 = 2), c.zeros 33 31,
     b.err] ++ s.blobErrs c (b.bytes c)

/-- With the slot owned, the lock held and the blob well-formed, KEY_IMPORT turns on whether the blob unwraps. -/
theorem keyImport_errs {b : BufRead} (ho : s.ownsRange c.domain 8 (c.u32 28) 1 = true)
    (hl : ∃ l, s.lockNow = some l ∧ l.host = c.host ∧ l.domain = c.domain) (hb : c.bufferErr = none)
    (hsize : c.u32 24 = 144 ∧ c.u8 32 = 1 ∨ c.u32 24 = 56 ∧ c.u8 32 = 2) (hz : c.zeros 33 31 = none) (hr : b.err = none)
    (hblob : firstErr (s.blobErrs c (b.bytes c)).dropLast = none) :
    firstErr (keyImportErrs s c b) = img (if c.u8 32 = 2 then 16 else 104) (s.unwrap c (b.bytes c)).isSome := by
  rw [keyImportErrs, List.append_assoc, firstErr_append_none (State.keyErrs_ok ho hl), firstErr_append_none, State.blobErrs_eq,
    firstErr_append_none hblob, firstErr_singleton]
  rcases hsize with ⟨hn, hk⟩ | ⟨hn, hk⟩ <;> simp [hb, hz, hr, at_, need, hn, hk]

/-! ### The slots -/

theorem mem_rangeOf {first count a : Nat} : a ∈ rangeOf first count ↔ first ≤ a ∧ a < first + count := by
  simp only [rangeOf, List.mem_map, List.mem_range]
  refine ⟨fun ⟨i, hi, ha⟩ => by omega, fun ⟨hf, ha⟩ => ⟨a - first, by omega, by omega⟩⟩

theorem State.zeroise_key (s : State) (k a : Nat) : (s.zeroise k).key a = if a = k then {} else s.key a :=
  look_put s.dom.keys k a {} {}

theorem each_zeroise_key (l : List Nat) (s : State) (a : Nat) : (each State.zeroise l s).key a = if a ∈ l then {} else s.key a := by
  induction l generalizing s with
  | nil => rfl
  | cons k l ih =>
    rw [each_cons, ih, State.zeroise_key]
    by_cases h : a = k <;> simp [h]

/-- A key is stored in a slot. -/
def State.putKey (s : State) (slot : Nat) (x : Key) : State := { s with dom := { s.dom with keys := put s.dom.keys slot {} x } }

theorem State.putKey_key (s : State) (slot : Nat) (x : Key) (a : Nat) : (s.putKey slot x).key a = if a = slot then x else s.key a :=
  look_put s.dom.keys slot a {} x

/-! ### The rows -/

theorem exec_keyImport_unwraps {b : BufRead} {k : Nat} (hr : ready (s.at_ t) c 0x0111 .any = true)
    (he : firstErr (keyImportErrs (s.at_ t) c b) = none) (hk : (s.at_ t).unwrap c (b.bytes c) = some k) :
    exec (.keyImport t c b) s =
      .next (((s.at_ t).putKey (c.u32 28) { kind := byteAt (b.bytes c) 2, key := k }).answer c .ok 0 0 []) := by
  refine congrArg Host.Outcome.next ((command_ok _ _ _ _ _ _ _ hr he).trans ?_)
  simp only [hk, Option.getD_some]
  rfl

theorem exec_keyImport_failed {b : BufRead} {e : Err} (hr : ready (s.at_ t) c 0x0111 .any = true)
    (he : firstErr (keyImportErrs (s.at_ t) c b) = some e) :
    exec (.keyImport t c b) s = .next ((s.at_ t).answer c e.status e.detail (errResult e 0) []) :=
  congrArg Host.Outcome.next (command_refused _ _ hr he)

theorem exec_keyImport_refused {b : BufRead} {e : Err} (hr : ready (s.at_ t) c 0x0111 .any = true)
    (he : firstErr ((s.at_ t).keyErrs c (c.u32 28) 1) = some e) :
    exec (.keyImport t c b) s = .next ((s.at_ t).answer c e.status e.detail (errResult e 0) []) :=
  exec_keyImport_failed hr (by rw [keyImportErrs, List.append_assoc]; exact firstErr_append_some _ he)

/-- What KEY_EXPORT checks beside the reply address. -/
theorem exec_keyExport_refused {e : Err} (hr : ready (s.at_ t) c 0x0112 .any = true) (hn : c.needReply = none)
    (he : firstErr ((s.at_ t).keyErrs c (c.u32 16) 1) = some e) :
    exec (.keyExport t c) s = .next ((s.at_ t).answer c e.status e.detail (errResult e 0) []) := by
  refine congrArg Host.Outcome.next (command_refused _ _ hr ?_)
  rw [List.cons_append, hn]
  exact firstErr_append_some _ he

theorem exec_keyDestroy_ok (hr : ready (s.at_ t) c 0x0113 .any = true)
    (he : firstErr ((s.at_ t).keyErrs c (c.u32 16) (c.u32 20) ++ [at_ 20 (1 ≤ c.u32 20 && c.u32 20 ≤ 65536), c.zeros 24 40]) = none) :
    exec (.keyDestroy t c) s =
      .next ((each State.zeroise (rangeOf (c.u32 16) (c.u32 20)) (s.at_ t)).answer c .ok 0 (c.u32 20) []) :=
  congrArg Host.Outcome.next (command_ok _ _ _ _ _ _ _ hr he)

theorem exec_keyDestroy_refused {e : Err} (hr : ready (s.at_ t) c 0x0113 .any = true)
    (he : firstErr ((s.at_ t).keyErrs c (c.u32 16) (c.u32 20)) = some e) :
    exec (.keyDestroy t c) s = .next ((s.at_ t).answer c e.status e.detail (errResult e 0) []) :=
  congrArg Host.Outcome.next (command_refused _ _ hr (firstErr_append_some _ he))

/-- Settles O9. The two checks of `State.keyErrs` decide between DENIED, LOCKED and the effect. -/
theorem keyCommandsComplete : Obligations.KeyCommandsComplete := by
  unfold Obligations.KeyCommandsComplete
  refine ⟨?info, ?import_, ?export_, ?destroy, ?importDenied, ?importLocked, ?exportDenied, ?exportLocked, ?destroyDenied, ?destroyLocked⟩
  case info =>
    rintro c t s ⟨hr, he⟩
    exact ⟨_, rfl, command_ok _ _ _ _ _ _ _ hr he⟩
  case import_ =>
    rintro c b t s ⟨hr, ho, hl, hb, hsize, hz, hread, hblob⟩
    have he := keyImport_errs ho hl hb hsize hz hread hblob
    cases hk : (s.at_ t).unwrap c (b.bytes c) with
    | some k =>
      rw [hk] at he
      refine ⟨_, exec_keyImport_unwraps hr he hk, fun k' hk' => ?_, fun hn => nomatch hk.symm.trans hn⟩
      obtain rfl : k = k' := Option.some.inj (hk.symm.trans hk')
      exact ⟨_, State.putKey_key _ _ _, rfl, rfl⟩
    | none =>
      rw [hk] at he
      refine ⟨_, exec_keyImport_failed hr he, fun k hk' => (nomatch hk.symm.trans hk'), fun _ => ?_⟩
      split <;> rfl
  case export_ =>
    rintro c h t s ⟨hr, hn, ho, hl, hz, rfl, hkind⟩
    refine ⟨_, rfl, command_ok _ _ _ _ _ _ _ hr ?_⟩
    rw [List.cons_append, hn, firstErr_cons_none, firstErr_append_none (State.keyErrs_ok ho hl)]
    simp [hz, need, hkind]
  case destroy =>
    rintro c t s ⟨hr, hpos, ho, hl, hcount, hz⟩
    have he : firstErr ((s.at_ t).keyErrs c (c.u32 16) (c.u32 20) ++ [at_ 20 (1 ≤ c.u32 20 && c.u32 20 ≤ 65536), c.zeros 24 40]) =
        none := by
      rw [firstErr_append_none (State.keyErrs_ok (by rwa [Nat.max_eq_right hpos]) hl)]
      simp [hz, at_, need, hpos, hcount]
    refine ⟨_, exec_keyDestroy_ok hr he, _, fun a => ?_, rfl⟩
    rw [each_zeroise_key]
    simp only [mem_rangeOf]
  case importDenied =>
    rintro c b t s ⟨hr, ho⟩
    exact ⟨_, exec_keyImport_refused hr (State.keyErrs_denied ho), rfl⟩
  case importLocked =>
    rintro c b t s ⟨hr, ho, hl, hs⟩
    exact ⟨_, exec_keyImport_refused hr (State.keyErrs_locked ho hl hs), rfl⟩
  case exportDenied =>
    rintro c t s ⟨hr, hn, ho⟩
    exact ⟨_, exec_keyExport_refused hr hn (State.keyErrs_denied ho), rfl⟩
  case exportLocked =>
    rintro c t s ⟨hr, hn, ho, hl, hs⟩
    exact ⟨_, exec_keyExport_refused hr hn (State.keyErrs_locked ho hl hs), rfl⟩
  case destroyDenied =>
    rintro c t s ⟨hr, ho⟩
    exact ⟨_, exec_keyDestroy_refused hr (State.keyErrs_denied ho), rfl⟩
  case destroyLocked =>
    rintro c t s ⟨hr, ho, hl, hs⟩
    exact ⟨_, exec_keyDestroy_refused hr (State.keyErrs_locked ho hl hs), rfl⟩

end Sys2Proof.Machine
end


section
/-! SUPPORT for O10. Debug sessions (R105–R108): a token that is checked, a session that opens and one that ends. -/

namespace Sys2Proof.Machine

set_option Elab.async false

variable {s : State} {t : Nat} {c : Cmd}

/-! ### Sessions -/

/-- DEBUG_SESSION goes to hosts, so it changes the host side alone. -/
theorem sessionEvent_onlyHost (s : State) (x : Session) (on : Bool) : OnlyHost s (s.sessionEvent x on) := eventMask_onlyHost _ _ _ _ _

theorem State.sessionEvent_dom (s : State) (x : Session) (on : Bool) : (s.sessionEvent x on).dom = s.dom := by
  rw [sessionEvent_onlyHost s x on]

/-- A session that is not of an internal scan opens: the nonce and the keys stay. -/
theorem State.openSession_dom {x : Session} {seconds : Nat} (hx : bit x.scope 4 = false) :
    (s.openSession x seconds).dom = { s.dom with session := some { x with deadline := s.now + ms (1000 * seconds) } } := by
  simp [State.openSession, hx, State.sessionEvent_dom]

theorem State.endSession_open {x : Session} (h : s.dom.session = some x) :
    s.endSession = { s with dom := { s.dom with session := none } }.sessionEvent x false := by
  simp only [State.endSession, h]

theorem State.endSession_session (s : State) : s.endSession.dom.session = none := by
  unfold State.endSession
  split
  · assumption
  · rw [State.sessionEvent_dom]

/-! ### Tokens -/

/-- The session that a token asks for. -/
def sessionOf (viaHost : Bool) (b : Bytes) : Session :=
  { viaHost := viaHost, signer := byteAt b 1, scope := leAt b 2 2, mask := leAt b 4 2, deadline := 0 }

/-- The internal scan that waits for the data plane to stop. -/
def scanOf (cmd : Option Cmd) (b : Bytes) : ScanDue := { cmd := cmd, session := sessionOf cmd.isSome b, seconds := leAt b 6 2 }

theorem State.checkToken_err {b : Bytes} {cmd : Option Cmd} {e : Err} (h : firstErr (s.tokenErrs b) = some e) :
    s.checkToken b cmd = { s := s.drawNonce, err := some e } := by
  simp only [State.checkToken, h]

/-- A token that passes every check opens its session, unless it is of an internal scan and the data plane runs. -/
theorem State.checkToken_opens {b : Bytes} {cmd : Option Cmd} (h : firstErr (s.tokenErrs b) = none)
    (hs : (bit (leAt b 2 2) 4 && s.dataPlaneOn) = false) :
    s.checkToken b cmd = { s := s.drawNonce.openSession (sessionOf cmd.isSome b) (leAt b 6 2) } := by
  have hs : (bit (leAt b 2 2) 4 && s.drawNonce.dataPlaneOn) = false := hs
  simp only [State.checkToken, h, hs]
  rfl

theorem State.checkToken_waits {b : Bytes} {cmd : Option Cmd} (h : firstErr (s.tokenErrs b) = none)
    (hs : bit (leAt b 2 2) 4 = true) (hd : s.dataPlaneOn = true) :
    s.checkToken b cmd =
      { s := s.drawNonce.beginHold fun h => { h with scan := some (scanOf cmd b) }, later := true } := by
  have hd : s.drawNonce.dataPlaneOn = true := hd
  simp only [State.checkToken, h, hs, hd]
  rfl

/-- The session that opens beside an internal scan, its nonce and its keys. -/
theorem State.openSession_token {viaHost : Bool} {b : Bytes} (hb : bit (leAt b 2 2) 4 = false) :
    (s.drawNonce.openSession (sessionOf viaHost b) (leAt b 6 2)).dom =
      { s.drawNonce.dom with session := some { sessionOf viaHost b with deadline := s.now + ms (1000 * leAt b 6 2) } } :=
  State.openSession_dom hb

/-! ### DEBUG_AUTH and JTAG_TOKEN -/

/-- DEBUG_AUTH op 0 that passes its row's checks does what its token says. -/
theorem exec_debugAuth_token {b : BufRead} (hr : ready (s.at_ t) c 0x0120 .d0 = true) (hhost : c.host = (s.at_ t).dom.principal)
    (hz : c.zeros 29 35 = none) (hop : c.u8 28 = 0) (hbuf : c.bufferErr = none) (hsize : c.u32 24 = 128)
    (hbusy : (s.at_ t).sessionBusy = false) (hread : b.err = none) :
    exec (.debugAuth t c b) s = .next (match (s.at_ t).checkToken (b.bytes c) (some c) with
      | { s := a, err := some e, .. } => a.answer c e.status e.detail 0 []
      | { s := a, err := none, later } => if later then a.keepWorking c else a.answer c .ok 0 0 []) := by
  refine congrArg Host.Outcome.next ((command_ok _ _ _ _ _ _ _ hr ?_).trans ?_)
  · simp [need, at_, hhost, hz, hop, hbuf, hsize, hbusy, hread]
  · simp only [hop, if_true]
    generalize (s.at_ t).checkToken (b.bytes c) (some c) = r
    obtain ⟨a, _ | e, later⟩ := r <;> rfl

theorem exec_debugAuth_close {b : BufRead} (hr : ready (s.at_ t) c 0x0120 .d0 = true) (hhost : c.host = (s.at_ t).dom.principal)
    (hz : c.zeros 29 35 = none) (hop : c.u8 28 = 1) :
    exec (.debugAuth t c b) s = .next ((s.at_ t).endSession.answer c .ok 0 0 []) := by
  refine congrArg Host.Outcome.next ((command_ok _ _ _ _ _ _ _ hr ?_).trans ?_)
  · simp [need, at_, hhost, hz, hop]
  · simp [hop]

theorem exec_jtagToken (t : Nat) (token : Bytes) (s : State) : exec (.jtagToken t token) s =
    .next (if (s.at_ t).sessionBusy then (s.at_ t).emit (.jtag Status.busy.code)
      else match (s.at_ t).checkToken token none with
        | { s := a, err := some e, .. } => a.emit (.jtag e.status.code)
        | { s := a, err := none, later } => if later then a else a.emit (.jtag 0)) := by
  refine congrArg Host.Outcome.next ?_
  generalize (s.at_ t).checkToken token none = r
  obtain ⟨a, _ | e, later⟩ := r <;> rfl

/-- Settles O10: a token takes one of the three ways of `State.checkToken`; the rest are the cases of `State.jtagDo` and `State.endSession`.
JTAG register reads and writes without effect, and the free value of IDCODE and SAMPLE, rest on log entry 44. -/
theorem debugCompletes : Obligations.DebugCompletes := by
  unfold Obligations.DebugCompletes
  refine ⟨?auth, ?close, ?busy, ?token, ?bypass, ?shut, ?regRead, ?thread, ?idcode, ?regWrite, ?expire⟩
  case auth =>
    rintro c b t s ⟨hr, hhost, hz, hop, hbuf, hsize, hbusy, hread⟩
    refine ⟨_, exec_debugAuth_token hr hhost hz hop hbuf hsize hbusy hread, fun he hs => ?_, fun he hs => ⟨fun hd => ?_, fun hd => ?_⟩,
      fun e he => ?_⟩
    · rw [State.checkToken_opens he (by rw [hs]; rfl)]
      refine ⟨_, ?_, ?_, ?_, rfl⟩ <;> rw [State.openSession_token hs] <;> rfl
    · rw [State.checkToken_opens he (by rw [hd, Bool.and_false])]
      rfl
    · rw [State.checkToken_waits he hs hd]
      rfl
    · rw [State.checkToken_err he]
  case close =>
    rintro c b x t s ⟨hr, hhost, hz, hop, hx⟩
    exact ⟨_, exec_debugAuth_close hr hhost hz hop, _, State.endSession_session _, State.endSession_open hx, rfl⟩
  case busy =>
    intro token t s hbusy
    exact ⟨_, exec_jtagToken t token s, if_pos hbusy⟩
  case token =>
    intro token t s hbusy
    refine ⟨_, exec_jtagToken t token s, ?_⟩
    rw [hbusy, if_neg Bool.false_ne_true]
    refine ⟨fun he hs => ?_, fun he hs hd => ?_, fun e he => ?_⟩
    · rw [State.checkToken_opens he (by rw [hs]; rfl)]
      have opened := State.openSession_token (s := s.at_ t) (viaHost := false) hs
      exact ⟨congrArg Doms.session opened, (congrArg Doms.keys opened :)⟩
    · rw [State.checkToken_waits he hs hd]
      rfl
    · rw [State.checkToken_err he]
  case bypass =>
    rintro j t s rfl
    exact ⟨_, rfl, rfl⟩
  case shut =>
    rintro j n p t s ⟨rfl | rfl, hopen⟩
    · exact ⟨_, rfl, if_neg (by rw [hopen]; exact Bool.false_ne_true)⟩
    · exact ⟨_, rfl, if_neg (by rw [hopen]; exact Bool.false_ne_true)⟩
  case regRead =>
    rintro j a t s ⟨rfl, hgranted⟩
    exact ⟨_, rfl, if_pos hgranted⟩
  case thread =>
    rintro j p t s ⟨rfl, hopen⟩
    exact ⟨_, rfl, if_pos hopen⟩
  case idcode =>
    rintro j t s (rfl | rfl)
    · exact ⟨_, rfl, rfl⟩
    · exact ⟨_, rfl, rfl⟩
  case regWrite =>
    rintro j a v t s rfl
    exact ⟨_, rfl, rfl⟩
  case expire =>
    rintro x t s ⟨hx, hdue⟩
    have due : exec (.debugSessionExpire t) s = .next (s.at_ t).endSession := congrArg Host.Outcome.next (if_pos (by simpa [hx] using hdue))
    exact ⟨_, due, State.endSession_session _, State.endSession_open hx⟩

end Sys2Proof.Machine
end


section
/-! SUPPORT for O7. Principal succession (R96–R99): what the operations on the principal leave of the domains' part. -/

namespace Sys2Proof.Machine

set_option Elab.async false

variable {s : State} {t : Nat} {c : Cmd}

/-! ### The operations -/

theorem State.principalChange_dom (s : State) (k : Nat) (v : Bool) (reason : Nat) : (s.principalChange k v reason).dom =
    { s.dom with principal := k, valid := v, changeSeq := (s.dom.changeSeq + 1) % 256, beat := s.now } := by
  unfold State.principalChange
  rw [eventAll_onlyHost]

theorem State.domain_principalChange (s : State) (k : Nat) (v : Bool) (reason e : Nat) :
    (s.principalChange k v reason).domain e = s.domain e := by
  rw [State.domain, State.principalChange_dom]
  rfl

theorem State.answer_dom (s : State) (c : Cmd) (st : Status) (detail result : Nat) (long : Bytes) :
    (s.answer c st detail result long).dom = s.dom := by
  rw [answer_onlyHost]

theorem State.domain_giveOrphans (s : State) (k e : Nat) :
    (s.giveOrphans k).domain e = if e ∈ s.dom.orphans then { s.domain e with host := some k } else s.domain e :=
  s.domain_setHosts s.dom.orphans (some k) e

theorem State.setHosts_host (s : State) (l : List Nat) (m : Option Nat) : (s.setHosts l m).host = s.host :=
  each_keeps (fun d s => State.setDomain s d { s.domain d with host := m }) State.host (fun _ _ => rfl) l s

theorem State.giveOrphans_dom (s : State) (k : Nat) :
    (s.giveOrphans k).dom = { s.dom with domains := (s.giveOrphans k).dom.domains, orphans := [] } :=
  congrArg (fun d : Doms => { d with orphans := [] }) (s.setHosts_rest s.dom.orphans (some k))

theorem State.releaseLock_dom (s : State) (p : Nat → Nat → Bool) :
    (s.releaseLock p).dom = { s.dom with lock := (s.releaseLock p).dom.lock } := by
  unfold State.releaseLock
  split
  · split <;> rfl
  · rfl

theorem State.releaseLock_rest (s : State) (p : Nat → Nat → Bool) :
    (s.releaseLock p).now = s.now ∧ (s.releaseLock p).host = s.host ∧ (s.releaseLock p).fw = s.fw := by
  unfold State.releaseLock
  split
  · split <;> exact ⟨rfl, rfl, rfl⟩
  · exact ⟨rfl, rfl, rfl⟩

/-- A lock that is left is not one that `p` names. -/
theorem State.releaseLock_lock {p : Nat → Nat → Bool} {l : KeyLock} (h : (s.releaseLock p).dom.lock = some l) :
    p l.host l.domain = false := by
  unfold State.releaseLock at h
  split at h
  · rename_i m hm
    split at h
    · cases h
    · rename_i hp
      obtain rfl : m = l := Option.some.inj (hm.symm.trans h)
      exact Bool.eq_false_iff.2 hp
  · rename_i hm
    exact nomatch hm.symm.trans h

theorem State.moveDomain_dom (s : State) (d k : Nat) : (s.moveDomain d k).dom =
    { s.dom with domains := (s.moveDomain d k).dom.domains, orphans := (s.moveDomain d k).dom.orphans,
                 lock := (s.moveDomain d k).dom.lock } := by
  by_cases h : (s.domain d).host = some k
  · rw [State.moveDomain_same h]
  · rw [State.moveDomain_other h]
    simp only [State.setDomain, State.detached]
    rw [State.releaseLock_dom]
    rfl

theorem State.moveDomain_now (s : State) (d k : Nat) : (s.moveDomain d k).now = s.now := by
  by_cases h : (s.domain d).host = some k
  · rw [State.moveDomain_same h]
  · rw [State.moveDomain_other h]
    exact ((s.unmap fun _ w => w.domain = d).releaseLock_rest _).1

/-! ### A lost principal -/

theorem State.losePrincipal_dom (s : State) : s.losePrincipal.dom =
    { s.dom with domains := s.losePrincipal.dom.domains, orphans := s.leaving,
                 lock := (s.releaseLock fun h _ => h = s.dom.principal).dom.lock } := by
  have hosts := s.unseated.setHosts_rest s.leaving none
  have lock := s.releaseLock_dom fun h _ => h = s.dom.principal
  refine (congrArg (fun d : Doms => { d with orphans := s.leaving }) hosts).trans ?_
  exact congrArg (fun d : Doms => { d with domains := s.losePrincipal.dom.domains, orphans := s.leaving }) lock

theorem State.losePrincipal_hostPort (s : State) (k : Nat) : s.losePrincipal.hostPort k = s.hostPort k := by
  have ports : s.losePrincipal.host.ports = s.unseated.host.ports := congrArg Hosts.ports (s.unseated.setHosts_host s.leaving none)
  obtain ⟨-, hhost, -⟩ := s.releaseLock_rest fun h _ => h = s.dom.principal
  exact congrArg (look · k {}) (ports.trans (congrArg Hosts.ports hhost :))

/-- The first listed host with a trained link that is not the principal. -/
theorem State.successor_eq_some {k : Nat} (hk : k < 4) (hne : k ≠ s.dom.principal) (hlink : (s.hostPort k).link = true)
    (hl : ∃ a b, s.dom.successors = a ++ k :: b ∧ ∀ j, j ∈ a → j = s.dom.principal ∨ (s.hostPort j).link = false) :
    s.successor = some k := by
  obtain ⟨a, b, hab, ha⟩ := hl
  rw [State.successor, hab, List.find?_append, List.find?_eq_none.2, Option.none_or, List.find?_cons_of_pos]
  · simp [hk, hne, hlink]
  · intro j hj
    rcases ha j hj with h | h <;> simp [h]

theorem State.successor_eq_none (h : s.dom.successors.all (fun h => h = s.dom.principal || !(s.hostPort h).link) = true) :
    s.successor = none := by
  rw [State.successor, List.find?_eq_none]
  intro j hj
  have hj := List.all_eq_true.1 h j hj
  rcases Bool.or_eq_true_iff.1 hj with hp | hl
  · simp [of_decide_eq_true hp]
  · simp [(Bool.not_eq_true' _).mp hl]

theorem State.losePrincipal_successor (s : State) : s.losePrincipal.successor = s.successor := by
  unfold State.successor
  rw [State.losePrincipal_dom]
  simp only [State.losePrincipal_hostPort]

/-! ### The domains after a succession -/

theorem State.passOn_dom (s : State) (k reason : Nat) : ((s.giveOrphans k).principalChange k true reason).dom =
    { s.dom with domains := (s.giveOrphans k).dom.domains, orphans := [], principal := k, valid := true,
                 changeSeq := (s.dom.changeSeq + 1) % 256, beat := (s.giveOrphans k).now } := by
  rw [State.principalChange_dom, State.giveOrphans_dom]

theorem State.domain_passOn (s : State) (k reason e : Nat) : ((s.giveOrphans k).principalChange k true reason).domain e =
    if e ∈ s.dom.orphans then { s.domain e with host := some k } else s.domain e := by
  rw [State.domain_principalChange, State.domain_giveOrphans]

theorem State.domain_succeed (s : State) (k e : Nat) : (s.losePrincipal.passOn k).domain e =
    if e ∈ s.leaving then { s.domain e with host := some k } else s.domain e := by
  rw [State.passOn, State.domain_passOn, State.domain_losePrincipal, s.losePrincipal_rest.1]
  split <;> rfl

/-- The domains below 16 that the principal does not hold are not the ones that leave it. -/
theorem State.holds_of_not_leaving {d : Nat} (hd : d < 16) (h : d ∉ s.leaving) : s.holds s.dom.principal d = false := by
  rw [State.mem_leaving] at h
  rw [Bool.eq_false_iff]
  intro hheld
  simp only [State.holds, Bool.and_eq_true, beq_iff_eq] at hheld
  exact h ⟨hd, hheld⟩

/-- R97: the successor holds what the principal held, and the principal holds nothing. -/
theorem State.holds_succeed {k d : Nat} (hk : k ≠ s.dom.principal) (hd : d < 16) :
    (s.holds s.dom.principal d = true → (s.losePrincipal.passOn k).holds k d = true) ∧
      (s.losePrincipal.passOn k).holds s.dom.principal d = false := by
  unfold State.holds
  rw [State.domain_succeed]
  by_cases hl : d ∈ s.leaving
  · rw [if_pos hl]
    obtain ⟨-, hlive, -⟩ := State.mem_leaving.1 hl
    simp [hlive, hk]
  · rw [if_neg hl]
    have hn := State.holds_of_not_leaving hd hl
    exact ⟨fun h => absurd (h.symm.trans hn) (by decide), hn⟩

/-- R98: with no successor the domains of the principal are held by none. -/
theorem State.holds_lost {d : Nat} (hd : d < 16) (h k reason : Nat) (v : Bool) :
    (s.losePrincipal.principalChange k v reason).holds h d = (s.holds h d && !s.holds s.dom.principal d) := by
  unfold State.holds
  rw [State.domain_principalChange, State.domain_losePrincipal]
  by_cases hl : d ∈ s.leaving
  · rw [if_pos hl]
    obtain ⟨-, hlive, hhost⟩ := State.mem_leaving.1 hl
    simp [hlive, hhost]
  · rw [if_neg hl]
    have hn : s.holds s.dom.principal d = false := State.holds_of_not_leaving hd hl
    unfold State.holds at hn
    rw [hn, Bool.not_false, Bool.and_true]

/-- The lock that is left after the loss is not the old principal's. -/
theorem State.losePrincipal_lock {l : KeyLock} (h : s.losePrincipal.dom.lock = some l) : l.host ≠ s.dom.principal := by
  rw [State.losePrincipal_dom] at h
  exact of_decide_eq_false (State.releaseLock_lock h)

/-! ### The rows -/

theorem exec_heartbeatTimeout_due (hb : (s.at_ t).pending.any (s.at_ t).restartsBeat = false) (hv : (s.at_ t).dom.valid = true)
    (hm : (s.at_ t).dom.timeoutMs ≠ 0) (hn : (s.at_ t).dom.beat + ms (s.at_ t).dom.timeoutMs ≤ (s.at_ t).now) :
    exec (.heartbeatTimeout t) s = .next (match (s.at_ t).losePrincipal.successor with
      | some h => (s.at_ t).losePrincipal.passOn h
      | none => (s.at_ t).losePrincipal.principalChange (s.at_ t).losePrincipal.dom.principal false 1) := by
  refine congrArg Host.Outcome.next (if_neg ?_)
  simp [hb, hv, hm, Nat.not_lt.2 hn]

theorem exec_principalRecheck_due (hv : (s.at_ t).dom.valid = false) (hs : (s.at_ t).dom.successors ≠ [])
    (hm : (s.at_ t).dom.timeoutMs ≠ 0) (hn : (s.at_ t).dom.beat + ms (s.at_ t).dom.timeoutMs ≤ (s.at_ t).now) :
    exec (.principalRecheck t) s = .next (match (s.at_ t).successor with
      | some h => (s.at_ t).passOn h
      | none => { s.at_ t with dom := { (s.at_ t).dom with beat := (s.at_ t).now } }) := by
  refine congrArg Host.Outcome.next (if_neg ?_)
  simp [hs, hv, hm, Nat.not_lt.2 hn]

/-- PRINCIPAL_SET that passes every check of its row, for each of its three forms. -/
theorem exec_principalSet_ok (hr : ready (s.at_ t) c 0x0102 .d0 = true) (hhost : c.host = (s.at_ t).dom.principal)
    (hop : c.u8 16 ≤ 2) (hto : (if c.u8 16 = 0 then c.u8 17 < 4 && c.u8 17 ≠ c.host else c.u8 17 = 0) = true)
    (hlist : firstErr (if c.u8 16 = 1 then successorErrs c else [c.zeros 18 3]) = none) (hz : c.zeros 21 3 = none)
    (hms : (if c.u8 16 = 2 then at_ 24 (c.u32 24 = 0 || (10 ≤ c.u32 24 && c.u32 24 ≤ 10000)) else c.zeros 24 4) = none)
    (hz' : c.zeros 28 36 = none) (hlink : c.u8 16 = 0 → ((s.at_ t).hostPort (c.u8 17)).link = true) :
    exec (.principalSet t c) s = .next ((match c.u8 16 with
        | 0 => (s.at_ t).handOff (c.u8 17)
        | 1 => { s.at_ t with dom := { (s.at_ t).dom with successors := successorsOf c } }
        | _ => { s.at_ t with dom := { (s.at_ t).dom with timeoutMs := c.u32 24, beat := (s.at_ t).now } } : State).answer c .ok 0 0 []) := by
  refine congrArg Host.Outcome.next (command_ok _ _ _ _ _ _ _ hr ?_)
  rw [List.append_assoc, firstErr_append_none, firstErr_append_none hlist]
  · simpa [hz, hms, hz', need] using hlink
  · simp only [firstErr_none, firstErr_nil, at_, need_eq_none]
    exact ⟨decide_eq_true hhost, decide_eq_true hop, hto, trivial⟩

/-- Settles O7. The domains after each move are read off `State.domain_moveDomain`, `State.domain_passOn`, `State.domain_succeed` and
`State.domain_losePrincipal`. That a hand-off with no valid principal passes all the waiting domains rests on log entry 39. -/
theorem successionCompletes : Obligations.SuccessionCompletes := by
  unfold Obligations.SuccessionCompletes
  refine ⟨?handOff, ?handOffLost, ?list, ?timeout, ?beat, ?succeeds, ?restarted, ?lost, ?found, ?waits⟩
  case handOff =>
    rintro c t s ⟨hr, hhost, hz, hz', hop, hlt, hne, hz18, hz24, hlink, -, hv⟩
    have row := exec_principalSet_ok hr hhost (by simp [hop]) (by simp [hop, hlt, hne]) (by simp [hop, hz18]) hz (by simp [hop, hz24]) hz'
      fun _ => hlink
    simp only [hop] at row
    have change : (s.at_ t).handOff (c.u8 17) = ((s.at_ t).moveDomain 0 (c.u8 17)).principalChange (c.u8 17) true 0 := if_pos hv
    refine ⟨_, row, _, ?_, ?_, ?_, ?_, ?_, fun d hd => ?_, rfl⟩ <;> rw [change]
    · rw [State.principalChange_dom]
    · rw [State.principalChange_dom]
    · rw [State.domain_principalChange, State.domain_moveDomain, if_pos rfl]
    · rw [State.principalChange_dom, State.moveDomain_dom]
    · rw [State.principalChange_dom, State.moveDomain_now]
    · rw [State.domain_principalChange, State.domain_moveDomain, if_neg hd]
  case handOffLost =>
    rintro c t s ⟨hr, hhost, hz, hz', hop, hlt, hne, hz18, hz24, hlink, hv⟩
    have row := exec_principalSet_ok hr hhost (by simp [hop]) (by simp [hop, hlt, hne]) (by simp [hop, hz18]) hz (by simp [hop, hz24]) hz'
      fun _ => hlink
    simp only [hop] at row
    have change : (s.at_ t).handOff (c.u8 17) = ((s.at_ t).giveOrphans (c.u8 17)).principalChange (c.u8 17) true 0 :=
      if_neg (by rw [hv]; exact Bool.false_ne_true)
    have domains (e : Nat) : (((s.at_ t).handOff (c.u8 17)).answer c .ok 0 0 []).domain e =
        if e ∈ (s.at_ t).dom.orphans then { (s.at_ t).domain e with host := some (c.u8 17) } else (s.at_ t).domain e := by
      rw [State.domain, State.answer_dom, change]
      exact State.domain_passOn _ _ _ _
    refine ⟨_, row, ?_, ?_, ?_, fun d hd => ?_, fun d hd => ?_⟩
    · rw [State.answer_dom, change, State.passOn_dom]
    · rw [State.answer_dom, change, State.passOn_dom]
    · rw [State.answer_dom, change, State.passOn_dom]
    · rw [domains, if_pos hd]
    · rw [domains, if_neg hd]
  case list =>
    rintro c t s ⟨hr, hhost, hz, hz', hop, hto, hlist, hz24⟩
    have row := exec_principalSet_ok hr hhost (by simp [hop]) (by simp [hop, hto]) (by simp [hop, hlist]) hz (by simp [hop, hz24]) hz'
      (by simp [hop])
    simp only [hop] at row
    exact ⟨_, row, rfl⟩
  case timeout =>
    rintro c t s ⟨hr, hhost, hz, hz', hop, hto, hz18, hms⟩
    have row := exec_principalSet_ok hr hhost (by simp [hop]) (by simp [hop, hto]) (by simp [hop, hz18]) hz
      (by simpa [hop, at_, need_eq_none] using hms) hz' (by simp [hop])
    simp only [hop] at row
    exact ⟨_, row, rfl⟩
  case beat =>
    rintro host value t s ⟨ha, hv, rfl⟩
    exact ⟨_, rfl, if_pos (by simp [ha, hv])⟩
  case succeeds =>
    rintro h t s ⟨hb, hv, hm, hn, hk, hne, hlink, hlist⟩
    have row := exec_heartbeatTimeout_due hb hv hm hn
    rw [State.losePrincipal_successor, State.successor_eq_some hk hne hlink hlist] at row
    have after := (s.at_ t).losePrincipal.passOn_dom h 1
    have before := (s.at_ t).losePrincipal_dom
    refine ⟨_, row, congrArg Doms.principal after, congrArg Doms.valid after, ?_, congrArg Doms.orphans after,
      fun d hd => (State.holds_succeed hne hd).1, fun d hd => (State.holds_succeed hne hd).2, fun l hl => ?_⟩
    · exact (congrArg Doms.changeSeq after).trans (by rw [before])
    · exact State.losePrincipal_lock ((congrArg Doms.lock after).symm.trans hl)
  case restarted =>
    intro t s hb
    exact ⟨_, rfl, if_pos (by rw [hb, Bool.or_true])⟩
  case lost =>
    rintro t s ⟨hb, hv, hm, hn, hnone⟩
    have row := exec_heartbeatTimeout_due hb hv hm hn
    rw [State.losePrincipal_successor, State.successor_eq_none hnone] at row
    have after := (s.at_ t).losePrincipal.principalChange_dom (s.at_ t).losePrincipal.dom.principal false 1
    have before := (s.at_ t).losePrincipal_dom
    refine ⟨_, row, ?_, congrArg Doms.valid after, ?_, fun h d hd => State.holds_lost hd _ _ _ _, ?_⟩
    · exact (congrArg Doms.principal after).trans (by rw [before])
    · exact (congrArg Doms.changeSeq after).trans (by rw [before])
    · exact (congrArg Doms.orphans after).trans (by rw [before]; rfl)
  case found =>
    rintro h t s ⟨hv, hs, hm, hn, hk, hne, hlink, hlist⟩
    have row := exec_principalRecheck_due hv hs hm hn
    rw [State.successor_eq_some hk hne hlink hlist] at row
    have after := (s.at_ t).passOn_dom h 1
    have domains := (s.at_ t).domain_passOn h 1
    refine ⟨_, row, congrArg Doms.principal after, congrArg Doms.valid after, congrArg Doms.changeSeq after, congrArg Doms.orphans after,
      fun d hd => ?_, fun d hd => ?_⟩
    · exact (congrArg Domain.host (domains d)).trans (by rw [if_pos hd])
    · exact (domains d).trans (if_neg hd)
  case waits =>
    rintro t s ⟨hv, hs, hm, hn, hnone⟩
    have row := exec_principalRecheck_due hv hs hm hn
    rw [State.successor_eq_none hnone] at row
    exact ⟨_, row, rfl⟩

end Sys2Proof.Machine
end


section
/-! SUPPORT for O6. Domains and resources (R88–R94): what passes with a resource, and what a destroyed or moved domain leaves. -/

namespace Sys2Proof.Machine

set_option Elab.async false

variable {s : State} {t : Nat} {c : Cmd}

/-! ### Rows of a sparse map -/

theorem mem_of_look {α : Type} {m : Sparse α} {k : Nat} {d v : α} (h : look m k d = v) (hv : v ≠ d) : (k, v) ∈ m := by
  induction m with
  | nil => exact absurd h.symm hv
  | cons r m ih =>
    obtain ⟨i, a⟩ := r
    unfold look at h
    split at h
    · rename_i hi
      rw [hi, h]
      exact List.mem_cons_self
    · exact List.mem_cons_of_mem _ (ih h)

theorem look_keepRows {α : Type} (m : Sparse α) (p : Nat → α → Bool) (k : Nat) (d : α) :
    look (keepRows m p) k d = d ∨ p k (look (keepRows m p) k d) = true := by
  induction m with
  | nil => exact .inl rfl
  | cons r m ih =>
    obtain ⟨i, a⟩ := r
    by_cases hp : p i a = true
    · rw [keepRows, List.filter_cons_of_pos (p := fun r : Nat × α => p r.1 r.2) hp]
      unfold look
      split
      · rename_i hi
        exact .inr (hi ▸ hp)
      · exact ih
    · rw [keepRows, List.filter_cons_of_neg (p := fun r : Nat × α => p r.1 r.2) hp]
      exact ih

/-! ### A resource passes to a domain (R93) -/

theorem State.assign_owner (type dest : Nat) (clear : Bool) (id : Nat) (s : State) (k : Nat) :
    look (State.assign type dest clear id s).dom.owner k 0 = if k = ownerKey type id then dest else look s.dom.owner k 0 := by
  obtain ⟨a, ha, he⟩ := s.assign_eq type dest clear id
  rw [he, ← ha.owner_eq]
  exact look_put a.dom.owner (ownerKey type id) k 0 dest

theorem State.assign_epochs (type dest : Nat) (clear : Bool) (id : Nat) (s : State) :
    (State.assign type dest clear id s).fw.epochs = s.fw.epochs := by
  obtain ⟨a, ha, he⟩ := s.assign_eq type dest clear id
  rw [he]
  exact ha.epochs_eq

/-- Resources that pass one after the other to a domain are all its. -/
theorem each_assign_owner (dest : Nat) (clear : Bool) (l : List (Nat × Nat)) (s : State) (k : Nat) :
    look (each (fun r s => State.assign r.1 dest clear r.2 s) l s).dom.owner k 0 =
      if k ∈ l.map (fun r => ownerKey r.1 r.2) then dest else look s.dom.owner k 0 := by
  induction l generalizing s with
  | nil => rfl
  | cons r l ih =>
    rw [each_cons, ih, State.assign_owner, List.map_cons]
    by_cases h : k = ownerKey r.1 r.2
    · rw [if_pos h, ite_self, if_pos (h ▸ List.mem_cons_self)]
    · rw [if_neg h]
      simp only [List.mem_cons, h, false_or]

theorem each_map {α β σ : Type} (f : β → σ → σ) (g : α → β) (l : List α) (s : σ) :
    each f (l.map g) s = each (fun a => f (g a)) l s := by
  induction l generalizing s with
  | nil => rfl
  | cons a l ih => exact ih _

theorem mem_ownerKeys {type first count k : Nat} :
    k ∈ ((rangeOf first count).map fun id => (type, id)).map (fun r => ownerKey r.1 r.2) ↔
      ∃ id, (first ≤ id ∧ id < first + count) ∧ ownerKey type id = k := by
  simp only [List.map_map, List.mem_map, mem_rangeOf, Function.comp]

/-- A range of resources that passes to a domain is its, and no other resource changes owner. -/
theorem each_assign_range_owner (type dest : Nat) (clear : Bool) (first count : Nat) (s : State) (k : Nat) :
    ((∃ id, (first ≤ id ∧ id < first + count) ∧ ownerKey type id = k) →
      look (each (State.assign type dest clear) (rangeOf first count) s).dom.owner k 0 = dest) ∧
    ((¬∃ id, (first ≤ id ∧ id < first + count) ∧ ownerKey type id = k) →
      look (each (State.assign type dest clear) (rangeOf first count) s).dom.owner k 0 = look s.dom.owner k 0) := by
  have pairs := each_map (fun (r : Nat × Nat) s => State.assign r.1 dest clear r.2 s) (fun id => (type, id)) (rangeOf first count) s
  have owners := each_assign_owner dest clear ((rangeOf first count).map fun id => (type, id)) s k
  rw [pairs] at owners
  exact ⟨fun h => owners.trans (if_pos (mem_ownerKeys.2 h)), fun h => owners.trans (if_neg (mt mem_ownerKeys.1 h))⟩

/-- A port, queue, partition or policer that passes as it is keeps all but its owner. -/
theorem State.assign_plain {type : Nat} (h : type ≠ 4 ∧ type ≠ 7 ∧ type ≠ 8) (dest id : Nat) (s : State) :
    State.assign type dest false id s = { s with dom := { s.dom with owner := put s.dom.owner (ownerKey type id) 0 dest } } := by
  obtain ⟨h4, h7, h8⟩ := h
  simp [State.assign, h4, h7, h8, ownerKey]

theorem each_assign_plain {type : Nat} (h : type ≠ 4 ∧ type ≠ 7 ∧ type ≠ 8) (dest : Nat) (l : List Nat) (s : State) :
    each (State.assign type dest false) l s =
      { s with dom := { s.dom with owner := (each (State.assign type dest false) l s).dom.owner } } := by
  induction l generalizing s with
  | nil => rfl
  | cons id l ih =>
    rw [each_cons]
    refine (ih _).trans ?_
    rw [State.assign_plain h]

/-- A key slot that changes owner is zeroised (R93). -/
theorem State.assign_slot_key {dest id : Nat} (h : s.owner 8 id ≠ dest) (a : Nat) :
    (State.assign 8 dest false id s).key a = if a = id then {} else s.key a := by
  have moved : State.assign 8 dest false id s =
      { s.zeroise id with dom := { (s.zeroise id).dom with owner := put (s.zeroise id).dom.owner (ownerKey 8 id) 0 dest } } := by
    simp [State.assign, h, ownerKey]
  rw [moved]
  exact s.zeroise_key id a

/-! ### A destroyed domain (R94) -/

theorem State.mem_resourcesOf_key {d k : Nat} (h : look s.dom.owner k 0 = d) (hd : d ≠ 0) :
    k ∈ (s.resourcesOf d).map fun r => ownerKey r.1 r.2 := by
  have row := mem_of_look h hd
  refine List.mem_map.2 ⟨(k / 2 ^ 24, k % 2 ^ 24), List.mem_map.2 ⟨(k, d), List.mem_filter.2 ⟨row, by simp⟩, rfl⟩, ?_⟩
  exact Nat.div_add_mod' k (2 ^ 24)

theorem State.returned_owner {d : Nat} (hd : d ≠ 0) (k : Nat) : look (s.returned d).dom.owner k 0 ≠ d := by
  rw [(s.returned_realm d).owner_eq, State.reclaimed, each_assign_owner]
  split
  · exact hd.symm
  · rename_i hk
    exact fun h => hk (State.mem_resourcesOf_key h hd)

theorem State.returned_epochs (s : State) (d : Nat) : (s.returned d).fw.epochs = s.fw.epochs := by
  have purged : SameRealm s (s.purgeDomain d) := .purgeDomain rfl
  rw [(s.returned_realm d).epochs_eq, ← purged.epochs_eq, State.reclaimed]
  generalize s.purgeDomain d = a
  exact each_keeps (fun (r : Nat × Nat) s => State.assign r.1 0 true r.2 s) (fun s => s.fw.epochs)
    (fun r a => a.assign_epochs r.1 0 true r.2) _ _

theorem State.unmap_window {p : Nat → WinPage → Bool} {h page : Nat} (hm : ((s.unmap p).window h page).mapped = true) :
    p ((h * 4096 + page) / 4096) ((s.unmap p).window h page) = false := by
  rcases look_keepRows s.host.windows (fun k w => !p (k / 4096) w) (h * 4096 + page) {} with free | kept
  · exact absurd ((congrArg WinPage.mapped free).symm.trans hm) (by decide)
  · exact (Bool.not_eq_true' _).mp kept

theorem State.returned_window {d h page : Nat} (hm : ((s.returned d).window h page).mapped = true) :
    ((s.returned d).window h page).domain ≠ d := by
  unfold State.window State.returned at hm ⊢
  generalize s.reclaimed d = a at hm ⊢
  rw [(State.releaseLock_rest _ _).2.1] at hm ⊢
  have outside := State.unmap_window (p := fun _ w => w.domain = d || w.region = obsRegion d) hm
  rw [Bool.or_eq_false_iff] at outside
  exact of_decide_eq_false outside.1

theorem State.returned_lock {d : Nat} {l : KeyLock} (h : (s.returned d).dom.lock = some l) : l.domain ≠ d := by
  unfold State.returned at h
  exact of_decide_eq_false (State.releaseLock_lock h)

/-- What a destroyed domain leaves: no domain, no page, no lock, no resource, and the next epoch (R90, R94). -/
theorem State.destroyDomain_leaves {d : Nat} (hd : d ≠ 0) :
    ((s.destroyDomain d).domain d).live = false ∧ ((s.destroyDomain d).domain d).host = none ∧
      look (s.destroyDomain d).fw.epochs d 0 = (look s.fw.epochs d 0 + 1) % 2 ^ 32 ∧
      (∀ h p, ((s.destroyDomain d).window h p).mapped = true → ((s.destroyDomain d).window h p).domain ≠ d) ∧
      (∀ l, (s.destroyDomain d).dom.lock = some l → l.domain ≠ d) ∧ ∀ ty id, (s.destroyDomain d).owner ty id ≠ d := by
  have epochs := s.returned_epochs d
  have window (h page : Nat) := State.returned_window (s := s) (d := d) (h := h) (page := page)
  have lock (l : KeyLock) := State.returned_lock (s := s) (d := d) (l := l)
  have owner := State.returned_owner (s := s) hd
  rw [State.destroyDomain_eq, ← epochs]
  generalize s.returned d = a at *
  refine ⟨?_, ?_, look_put_same _ _ _ _, window, lock, fun ty id => owner (ownerKey ty id)⟩
  · rw [State.domain_setDomain, if_pos rfl]
  · rw [State.domain_setDomain, if_pos rfl]

/-! ### A moved domain (R94) -/

theorem State.moveDomain_lock {d k : Nat} (h : (s.domain d).host ≠ some k) {l : KeyLock} (hl : (s.moveDomain d k).dom.lock = some l) :
    l.domain ≠ d := by
  rw [State.moveDomain_other h] at hl
  exact of_decide_eq_false (State.releaseLock_lock hl)

/-! ### The rows -/

theorem exec_domainSet_ok (hr : ready (s.at_ t) c 0x0100 .d0 = true) (hhost : c.host = (s.at_ t).dom.principal)
    (hlow : 1 ≤ c.u8 17) (hhigh : c.u8 17 < 16) (hz : c.zeros 19 45 = none) (hop : c.u8 16 ≤ 2)
    (hlive : ((s.at_ t).domain (c.u8 17)).live = decide (c.u8 16 ≠ 0)) (hto : (if c.u8 16 = 1 then c.u8 18 = 0 else c.u8 18 < 4)) :
    exec (.domainSet t c) s = .next ((match c.u8 16 with
      | 0 => (s.at_ t).setDomain (c.u8 17) { live := true, host := some (c.u8 18) }
      | 1 => (s.at_ t).destroyDomain (c.u8 17)
      | _ => (s.at_ t).moveDomain (c.u8 17) (c.u8 18) : State).answer c .ok 0 0 []) := by
  refine congrArg Host.Outcome.next (command_ok _ _ _ _ _ _ _ hr ?_)
  simp only [firstErr_none, firstErr_nil, at_, need_eq_none]
  refine ⟨decide_eq_true hhost, decide_eq_true hop, ?_, ?_, hz, trivial⟩
  · simp [hlow, hhigh, hlive]
  · split <;> simp_all

theorem exec_resourceAssign_ok (hr : ready (s.at_ t) c 0x0101 .d0 = true) (he : firstErr (resourceAssignErrs c (s.at_ t)) = none) :
    exec (.resourceAssign t c) s = .next ((each (State.assign (c.u8 16) (c.u8 17) (c.u8 18 = 1)) (rangeOf (c.u32 20) (c.u32 24))
      (s.at_ t)).answer c .ok 0 0 []) :=
  congrArg Host.Outcome.next (command_ok _ _ _ _ _ _ _ hr he)

/-- The checks of RESOURCE_ASSIGN with `clear` 0 over a type other than the counter groups. -/
theorem resourceAssignErrs_ok (hhost : c.host = s.dom.principal) (hd : c.u8 17 < 16) (hlive : (s.domain (c.u8 17)).live = true)
    (hclear : c.u8 18 = 0) (hz : c.zeros 19 1 = none) (hcount : 1 ≤ c.u32 24) (hrange : c.u32 20 + c.u32 24 ≤ resourceRange (c.u8 16))
    (hz' : c.zeros 28 36 = none) (hlow : 1 ≤ c.u8 16) (hhigh : c.u8 16 ≤ 8) (hgroup : c.u8 16 ≠ 5) :
    firstErr (resourceAssignErrs c s) = none := by
  have hfirst : c.u32 20 < resourceRange (c.u8 16) := by omega
  simp [resourceAssignErrs, at_, need, hhost, hd, hlive, hclear, hz, hcount, hrange, hz', hlow, hhigh, hgroup, hfirst]

theorem resourceRange_le (type : Nat) : resourceRange type ≤ 2 ^ 24 := by
  unfold resourceRange
  split <;> decide

/-- Within the ranges of the identifiers a resource has a key of its own. -/
theorem ownerKey_inj {a b i j : Nat} (hi : i < 2 ^ 24) (hj : j < 2 ^ 24) : ownerKey a i = ownerKey b j ↔ a = b ∧ i = j := by
  unfold ownerKey
  omega

/-- Settles O6: DOMAIN_SET by what each of its three operations leaves, RESOURCE_ASSIGN by the owner that each assignment sets. -/
theorem domainCommandsComplete : Obligations.DomainCommandsComplete := by
  unfold Obligations.DomainCommandsComplete
  refine ⟨?create, ?destroy, ?move, ?stay, ?assign, ?plain, ?slot⟩
  case create =>
    rintro c t s ⟨hr, hhost, hlow, hhigh, hz, hop, hlive, hto⟩
    have row := exec_domainSet_ok hr hhost hlow hhigh hz (by simp [hop]) (by simp [hop, hlive]) (by simp [hop, hto])
    simp only [hop] at row
    exact ⟨_, row, rfl⟩
  case destroy =>
    rintro c t s ⟨hr, hhost, hlow, hhigh, hz, hop, hlive, hto⟩
    have row := exec_domainSet_ok hr hhost hlow hhigh hz (by simp [hop]) (by simp [hop, hlive]) (by simp [hop, hto])
    simp only [hop] at row
    exact ⟨_, row, rfl, State.destroyDomain_leaves (Nat.ne_of_gt hlow)⟩
  case move =>
    rintro c t s ⟨hr, hhost, hlow, hhigh, hz, hop, hlive, hto, hother⟩
    have row := exec_domainSet_ok hr hhost hlow hhigh hz (by simp [hop]) (by simp [hop, hlive]) (by simp [hop, hto])
    simp only [hop] at row
    have moved := (s.at_ t).domain_moveDomain (c.u8 17) (c.u8 18)
    refine ⟨_, row, rfl, (moved _).trans (if_pos rfl), fun d hd => (moved d).trans (if_neg hd), ?_, fun l => State.moveDomain_lock hother⟩
    exact (congrArg Doms.owner ((s.at_ t).moveDomain_dom (c.u8 17) (c.u8 18)) :)
  case stay =>
    rintro c t s ⟨hr, hhost, hlow, hhigh, hz, hop, hlive, hto, hsame⟩
    have row := exec_domainSet_ok hr hhost hlow hhigh hz (by simp [hop]) (by simp [hop, hlive]) (by simp [hop, hto])
    simp only [hop] at row
    exact ⟨_, row, by rw [State.moveDomain_same hsame]⟩
  case assign =>
    rintro c t s ⟨hr, he⟩
    refine ⟨_, exec_resourceAssign_ok hr he, rfl, fun id hlow hhigh => ?_⟩
    exact (each_assign_range_owner _ _ _ _ _ _ _).1 ⟨id, ⟨hlow, hhigh⟩, rfl⟩
  case plain =>
    rintro c t s ⟨hr, hhost, hd, hlive, hclear, hz, hcount, hrange, hz', htype⟩
    have he := resourceAssignErrs_ok hhost hd hlive hclear hz hcount hrange hz' (by omega) (by omega) (by omega)
    have row := exec_resourceAssign_ok hr he
    simp only [hclear] at row
    refine ⟨_, row, _, fun ty id hid => ?_, each_assign_plain (by omega) _ _ _, rfl⟩
    obtain ⟨passed, kept⟩ := each_assign_range_owner (c.u8 16) (c.u8 17) false (c.u32 20) (c.u32 24) (s.at_ t) (ownerKey ty id)
    have bound := resourceRange_le (c.u8 16)
    split
    · rename_i h
      obtain ⟨rfl, hid⟩ := h
      exact passed ⟨id, hid, rfl⟩
    · rename_i h
      refine kept fun ⟨i, hi, hk⟩ => h ?_
      obtain ⟨hty, rfl⟩ := (ownerKey_inj (by omega) hid).1 hk
      exact ⟨hty.symm, hi⟩
  case slot =>
    rintro c t s ⟨hr, hhost, hd, hlive, hclear, hz, hcount, hrange, hz', htype, hone, hother⟩
    have he := resourceAssignErrs_ok hhost hd hlive hclear hz hcount hrange hz' (by omega) (by omega) (by omega)
    have row := exec_resourceAssign_ok hr he
    have keys := State.assign_slot_key hother
    have owner := (s.at_ t).assign_owner 8 (c.u8 17) false (c.u32 20) (ownerKey 8 (c.u32 20))
    rw [htype, hclear, hone] at row
    refine ⟨_, row, State.assign 8 (c.u8 17) false (c.u32 20) (s.at_ t), owner.trans (if_pos rfl), ?_,
      fun a ha => (keys a).trans (if_neg ha), rfl⟩
    rw [keys, if_pos rfl]

end Sys2Proof.Machine
end


section
/-! SUPPORT for O11 and O12. Link states (R118): what a move of a port and the drain of its queues (R121) leave of the ports, the lanes and
the units. -/

namespace Sys2Proof.Machine

set_option Elab.async false

/-- A port without its counts of PFC frames sent (9) and packets flushed (13), which a drain of queues can raise (R127). -/
def Port.link (x : Port) : Port × (Nat → Nat) :=
  ({ x with counters := [] }, fun i => if i = 9 ∨ i = 13 then 0 else look x.counters i 0)

theorem Port.link_bump (x : Port) {i : Nat} (h : i = 9 ∨ i = 13) (n : Nat) :
    Port.link { x with counters := bump x.counters i n } = x.link := by
  refine congrArg (Prod.mk _) (funext fun j => ?_)
  by_cases hj : j = 9 ∨ j = 13
  · simp only [if_pos hj]
  · have hne : j ≠ i := by omega
    simp only [if_neg hj, bump, look_put_ne _ hne]

/-- Two states with the same units, the same lanes, and the same ports but for the counts that a drain can raise. -/
def SameLinks (s s' : State) : Prop :=
  s'.units = s.units ∧ s'.ports.lane = s.ports.lane ∧ ∀ p, (s'.port p).link = (s.port p).link

variable {s a b : State}

namespace SameLinks

theorem refl (s : State) : SameLinks s s := ⟨rfl, rfl, fun _ => rfl⟩

theorem trans (h : SameLinks s a) (k : SameLinks a b) : SameLinks s b :=
  ⟨k.1.trans h.1, k.2.1.trans h.2.1, fun p => (k.2.2 p).trans (h.2.2 p)⟩

/-- What is the same in the units and the ports is the same here. -/
theorem of_eq (hu : b.units = a.units) (hp : b.ports = a.ports) (h : SameLinks s a) : SameLinks s b :=
  h.trans ⟨hu, congrArg Ports.lane hp, fun p => congrArg (fun m => (look m.port p {}).link) hp⟩

/-- An update of any part but the units and the ports. -/
theorem set {now free pending dev host dom lant eli pkts nextPkt parse tables assoc eng scout act buf tm pol fab cipher pon dram fw time}
    (h : SameLinks s a) :
    SameLinks s
      { now, free, pending, dev, units := a.units, host, dom, lant, ports := a.ports, eli, pkts, nextPkt, parse, tables, assoc, eng, scout,
        act, buf, tm, pol, fab, cipher, pon, dram, fw, time } := h

/-- What differs in one part beside the host side, be it neither the units nor the ports. -/
theorem within {p : Part} (w : Within p a b) (h : SameLinks s a) (hu : p ≠ .units := by decide) (hp : p ≠ .ports := by decide) :
    SameLinks s b :=
  .of_eq (w.same.2 .units hu.symm (by decide)) (w.same.2 .ports hp.symm (by decide)) h

/-- An update of a port in those counts alone. -/
theorem setPort {p : Nat} {x : Port} (e : x.link = (a.port p).link) (h : SameLinks s a) : SameLinks s (a.setPort p x) := by
  refine h.trans ⟨rfl, rfl, fun j => ?_⟩
  rw [State.setPort_port]
  split
  · rename_i hj
    rw [hj, e]
  · rfl

theorem ite {c : Prop} [Decidable c] (h : SameLinks s a) (k : SameLinks s b) : SameLinks s (if c then a else b) := by
  split
  · exact h
  · exact k

theorem each {α : Type} {f : α → State → State} {l : List α} (hf : ∀ {x a}, SameLinks s a → SameLinks s (f x a))
    (h : SameLinks s a) : SameLinks s (Sys2Proof.each f l a) :=
  each_inv f (SameLinks s) (fun _ _ => hf) l a h

/-- A port in two such states. -/
theorem port_eq (h : SameLinks s a) (p : Nat) : ∃ n, a.port p = { s.port p with counters := n } ∧
    ∀ i, i ≠ 9 → i ≠ 13 → look n i 0 = look (s.port p).counters i 0 := by
  obtain ⟨-, -, hport⟩ := h
  have rest := congrArg Prod.fst (hport p)
  refine ⟨(a.port p).counters, congrArg (fun x : Port => { x with counters := (a.port p).counters }) rest, fun i h9 h13 => ?_⟩
  simpa [Port.link, h9, h13] using congrFun (congrArg Prod.snd (hport p)) i

/-! The functions of Machine/Ops.lean, Machine/Buffer.lean and Machine/Queue.lean that a drain runs. -/

theorem eventTo {d code detail result} (h : SameLinks s a) : SameLinks s (a.eventTo d code detail result) :=
  .of_eq (by simp) (by simp) h

theorem sendPause {port cls quanta} (h : SameLinks s a) : SameLinks s (a.sendPause port cls quanta) := by
  have sent := h.setPort (Port.link_bump (a.port port) (.inl rfl) 1)
  refine .ite ?_ h
  dsimp only
  split
  · exact sent
  · exact .ite sent sent

theorem updatePause {port cls} (h : SameLinks s a) : SameLinks s (a.updatePause port cls) :=
  .ite h (.sendPause h)

theorem updatePort {port} (h : SameLinks s a) : SameLinks s (a.updatePort port) :=
  .each .updatePause h

theorem updateThreshold {k i} (h : SameLinks s a) : SameLinks s (a.updateThreshold k i) :=
  .ite h (.each .updatePort (.eventTo h))

theorem settlePool {k port} (h : SameLinks s a) : SameLinks s (a.settlePool k port) :=
  .updatePort (.each .updateThreshold h)

theorem givePointer {x k} (h : SameLinks s a) : SameLinks s (a.givePointer x k) :=
  have given := h.within (giveRing_within a x)
  .ite h (.ite given (.ite (.ite h given) (.ite h given)))

theorem freeNow {x} (h : SameLinks s a) : SameLinks s (a.freeNow x) :=
  .ite (.eventTo h) (.ite (.eventTo h) (.settlePool (.givePointer h)))

theorem freeCell {x} (h : SameLinks s a) : SameLinks s (a.freeCell x) :=
  .ite h (.freeNow h)

theorem discard {k} (h : SameLinks s a) : SameLinks s (a.discard k) :=
  .set (.each .freeCell h)

theorem leaveQueue {q k} (h : SameLinks s a) : SameLinks s (a.leaveQueue q k) :=
  .ite (.each (fun h => .ite h h) h) h

theorem dropQueued {q k} (h : SameLinks s a) : SameLinks s (a.dropQueued q k) :=
  .within (noteDemand_within _ _) (.discard (.leaveQueue h))

/-- A drain of a port's queues (R121) leaves the links. -/
theorem downFlush {port} (h : SameLinks s a) : SameLinks s (a.downFlush port) := by
  have counted {b : State} (h : SameLinks s b) := h.setPort (Port.link_bump (b.port port) (.inr rfl) 1)
  exact .ite (.each (fun h => .each (fun h => counted (.dropQueued h)) h) h) h

end SameLinks

/-- Two states with the same units and the same lanes. -/
def SameLanes (s s' : State) : Prop := s'.units = s.units ∧ s'.ports.lane = s.ports.lane

namespace SameLanes

theorem refl (s : State) : SameLanes s s := ⟨rfl, rfl⟩

theorem trans (h : SameLanes s a) (k : SameLanes a b) : SameLanes s b := ⟨k.1.trans h.1, k.2.trans h.2⟩

theorem ite {c : Prop} [Decidable c] (h : SameLanes s a) (k : SameLanes s b) : SameLanes s (if c then a else b) := by
  split
  · exact h
  · exact k

theorem isOut (h : SameLanes s a) (kind n : Nat) : a.isOut kind n = s.isOut kind n :=
  congrArg (fun u : Units => look u.out (kind * 65536 + n) false) h.1

theorem lane (h : SameLanes s a) (l : Nat) : a.lane l = s.lane l := congrArg (fun m : Sparse Lane => look m l {}) h.2

end SameLanes

/-! ### A move of a port (R118) -/

/-- A port in the link state that it moves to. -/
def Port.moved (x : Port) (st : LinkState) (cause : Nat) : Port :=
  { x with state := st, cause := cause, counters := if x.state = .up then bump x.counters 12 1 else x.counters }

variable {p cause k : Nat} {st : LinkState}

theorem State.moveLink_links (hne : ¬ ((s.port p).state = st ∧ (s.port p).cause = cause)) :
    SameLinks (s.setPort p ((s.port p).moved st cause)) (s.moveLink p st cause) := by
  unfold State.moveLink
  rw [if_neg (by simpa using hne)]
  exact .downFlush (.eventTo (.refl _))

/-- A port that moves is in the state that it moves to, whether or not it was there already; beside its counts nothing else changes. -/
theorem State.moveLink_port (s : State) (p : Nat) (st : LinkState) (cause : Nat) :
    ∃ n, (s.moveLink p st cause).port p = { s.port p with state := st, cause := cause, counters := n } := by
  by_cases h : (s.port p).state = st ∧ (s.port p).cause = cause
  · have stays : s.moveLink p st cause = s := if_pos (by simpa using h)
    obtain ⟨rfl, rfl⟩ := h
    exact ⟨_, congrArg (State.port · p) stays⟩
  · obtain ⟨n, hport, -⟩ := (State.moveLink_links h).port_eq p
    exact ⟨n, by rw [hport, State.setPort_same]; rfl⟩

theorem State.moveLink_state (s : State) (p : Nat) (st : LinkState) (cause : Nat) :
    ((s.moveLink p st cause).port p).state = st ∧ ((s.moveLink p st cause).port p).cause = cause := by
  obtain ⟨n, hport⟩ := s.moveLink_port p st cause
  rw [hport]
  exact ⟨rfl, rfl⟩

/-- A move of a port leaves the units and the lanes. -/
theorem State.moveLink_lanes (s : State) (p : Nat) (st : LinkState) (cause : Nat) : SameLanes s (s.moveLink p st cause) := by
  by_cases h : (s.port p).state = st ∧ (s.port p).cause = cause
  · have stays : s.moveLink p st cause = s := if_pos (by simpa using h)
    rw [stays]
    exact .refl s
  · obtain ⟨hunits, hlane, -⟩ := State.moveLink_links h
    exact ⟨hunits, hlane⟩

/-- A port that leaves UP: the move counts at 12, and every count but those of a drain stays. -/
theorem State.moveLink_from_up (hup : (s.port p).state = .up) (hst : st ≠ .up) :
    ∃ n, (s.moveLink p st cause).port p = { s.port p with state := st, cause := cause, counters := n } ∧
      look n 12 0 = (look (s.port p).counters 12 0 + 1) % 2 ^ 64 ∧
      ∀ i, i ≠ 9 → i ≠ 12 → i ≠ 13 → look n i 0 = look (s.port p).counters i 0 := by
  have moves : ¬ ((s.port p).state = st ∧ (s.port p).cause = cause) := fun h => hst (h.1.symm.trans hup)
  obtain ⟨n, hport, hcount⟩ := (State.moveLink_links moves).port_eq p
  rw [State.setPort_same] at hport hcount
  have counts (i : Nat) (h9 : i ≠ 9) (h13 : i ≠ 13) : look n i 0 = look (bump (s.port p).counters 12 1) i 0 :=
    (hcount i h9 h13).trans (by rw [Port.moved, if_pos hup])
  refine ⟨n, hport, (counts 12 (by decide) (by decide)).trans (look_put_same _ _ _ _), fun i h9 h12 h13 => ?_⟩
  exact (counts i h9 h13).trans (look_put_ne _ h12 _ _ _)

/-! ### Faults (R118, R120) -/

theorem State.portFault_local (hup : (s.port p).state = .up) (hc : cause ≠ 4) :
    s.portFault p cause = s.moveLink p .faultLocal cause := by
  simp [State.portFault, hup, hc]

theorem State.portFault_remote (hup : (s.port p).state = .up) : s.portFault p 4 = s.moveLink p .faultRemote 4 := by
  simp [State.portFault, hup]

/-- A failed lane puts its port in FAULT_LOCAL, from there too. -/
theorem State.portFault_lane (h : (s.port p).state = .up ∨ (s.port p).state = .training ∨ (s.port p).state = .faultLocal) :
    s.portFault p 3 = s.moveLink p .faultLocal 3 := by
  rcases h with h | h | h <;> simp [State.portFault, h]

/-- In TRAINING only a failed lane is a fault. -/
theorem State.portFault_training (h : (s.port p).state = .training) (hc : cause ≠ 3) : s.portFault p cause = s := by
  simp [State.portFault, h, hc]

/-- A fault of a port leaves the units and the lanes. -/
theorem State.portFault_lanes (s : State) (p cause : Nat) : SameLanes s (s.portFault p cause) := by
  have moved (st : LinkState) (c : Nat) := s.moveLink_lanes p st c
  refine .ite (.ite (moved _ _) (.refl s)) ?_
  split
  · exact .refl s
  · exact .ite (moved _ _) (.refl s)
  · exact moved _ _
  · exact moved _ _
  · exact .ite (moved _ _) (.refl s)

/-- A port where a condition is present. -/
def Port.withCond (x : Port) (k : Nat) : Port := if x.conds.contains k then x else { x with conds := x.conds ++ [k] }

theorem Port.withCond_eq (x : Port) (k : Nat) : ∃ l, x.withCond k = { x with conds := l } := by
  unfold Port.withCond
  split
  · exact ⟨x.conds, rfl⟩
  · exact ⟨_, rfl⟩

theorem State.raiseCond_pon (h : (s.port p).personality = .pon) : s.raiseCond p k = s := if_pos h

theorem State.raiseCond_eq (h : (s.port p).personality ≠ .pon) :
    s.raiseCond p k = (s.setPort p ((s.port p).withCond k)).portFault p (condCause k) := if_neg h

theorem State.raiseCond_lanes (s : State) (p k : Nat) : SameLanes s (s.raiseCond p k) :=
  .ite (.refl s) (.trans ⟨rfl, rfl⟩ (State.portFault_lanes _ _ _))

/-- A condition takes an UP port to FAULT_LOCAL. -/
theorem State.raiseCond_up (hpon : (s.port p).personality ≠ .pon) (hup : (s.port p).state = .up) (hk : condCause k ≠ 4) :
    ∃ n, (s.raiseCond p k).port p = { s.port p with
        state := .faultLocal, cause := condCause k, conds := ((s.port p).withCond k).conds, counters := n } ∧
      look n 12 0 = (look (s.port p).counters 12 0 + 1) % 2 ^ 64 ∧
      ∀ i, i ≠ 9 → i ≠ 12 → i ≠ 13 → look n i 0 = look (s.port p).counters i 0 := by
  obtain ⟨l, hl⟩ := (s.port p).withCond_eq k
  have hup' : ((s.setPort p ((s.port p).withCond k)).port p).state = .up := by rw [State.setPort_same, hl]; exact hup
  rw [State.raiseCond_eq hpon, State.portFault_local hup' hk]
  have moved := State.moveLink_from_up (cause := condCause k) hup' (st := .faultLocal) (by decide)
  rw [State.setPort_same, hl] at moved
  rw [hl]
  exact moved

/-- A Remote Fault takes an UP port to FAULT_REMOTE. -/
theorem State.raiseCond_remote (hpon : (s.port p).personality ≠ .pon) (hup : (s.port p).state = .up) :
    ((s.raiseCond p 4).port p).state = .faultRemote ∧ ((s.raiseCond p 4).port p).cause = 4 := by
  obtain ⟨l, hl⟩ := (s.port p).withCond_eq 4
  have hup' : ((s.setPort p ((s.port p).withCond 4)).port p).state = .up := by rw [State.setPort_same, hl]; exact hup
  rw [State.raiseCond_eq hpon]
  change ((State.portFault _ p 4).port p).state = _ ∧ ((State.portFault _ p 4).port p).cause = _
  rw [State.portFault_remote hup']
  exact State.moveLink_state _ _ _ _

end Sys2Proof.Machine
end


section
/-! SUPPORT for O11. The port commands (R124–R127): what each leaves of the ports. -/

namespace Sys2Proof.Machine

set_option Elab.async false

variable {s : State} {t p : Nat} {c : Cmd}

/-! ### PORT_MAP (R124) -/

theorem Port.bind_free (x : Port) (h : c.u8 17 = 0) : x.bind c =
    { x with personality := .none, firstLane := 0, laneCount := 0, laneRate := 0, fec := 0, tree := 0, ponType := 0, conds := [] } :=
  if_pos h

theorem Port.bind_bound (x : Port) (h : c.u8 17 ≠ 0) : x.bind c =
    { x with personality := personalityOf (c.u8 17), firstLane := c.u8 18, laneCount := c.u8 19, laneRate := c.u8 20, fec := c.u8 21,
             tree := c.u8 22, ponType := c.u8 23, conds := [] } :=
  if_neg h

/-- A port that PORT_MAP has bound or freed, with the conditions that its lanes show. -/
def Port.mapped (x : Port) (c : Cmd) (s : State) : Port := { x.bind c with conds := s.laneConds (x.bind c) }

theorem exec_portMap (hr : ready (s.at_ t) c 0x0200 .d0 = true) (he : firstErr (portMapErrs c (s.at_ t)) = none) :
    ∃ s', exec (.portMap t c) s = .next s' ∧ ∀ p, s'.port p = if p = c.u8 16 then ((s.at_ t).port (c.u8 16)).mapped c (s.at_ t)
      else (s.at_ t).port p := by
  refine ⟨_, congrArg Host.Outcome.next (command_ok _ _ _ _ _ _ _ hr he), fun p => ?_⟩
  refine Eq.trans (congrArg (fun x : Ports => look x.port p {}) ?_) (State.setPort_port _ _ _ _)
  dsimp only
  rw [if_neg (by decide)]
  simp only [State.answer_rest, State.rehome_ports]
  split
  · rfl
  · rfl

/-! ### PORT_CONFIG (R125) -/

/-- The conditions of a port move, with the instant from which up_hold_ms counts, and nothing else of it, of the units, or of the time. -/
def CondsMoved (p : Nat) (s s' : State) : Prop :=
  s'.units = s.units ∧ s'.now = s.now ∧ ∃ l n, s'.port p = { s.port p with conds := l, clearSince := n }

namespace CondsMoved

variable {a : State} {k : Nat}

theorem refl (p : Nat) (s : State) : CondsMoved p s s := ⟨rfl, rfl, _, _, rfl⟩

theorem trans {b : State} (h : CondsMoved p s a) (h' : CondsMoved p a b) : CondsMoved p s b := by
  obtain ⟨hunits, hnow, l, n, hport⟩ := h
  obtain ⟨hunits', hnow', l', n', hport'⟩ := h'
  exact ⟨hunits'.trans hunits, hnow'.trans hnow, l', n', by rw [hport', hport]⟩

theorem of_eq {b : State} (hu : b.units = a.units) (hn : b.now = a.now) (hp : b.ports = a.ports) (h : CondsMoved p s a) :
    CondsMoved p s b :=
  h.trans ⟨hu, hn, _, _, congrArg (fun x : Ports => look x.port p {}) hp⟩

theorem ite {b : State} {c : Prop} [Decidable c] (h : CondsMoved p s a) (h' : CondsMoved p s b) : CondsMoved p s (if c then a else b) := by
  split
  · exact h
  · exact h'

theorem clearCond (h : CondsMoved p s a) : CondsMoved p s (a.clearCond p k) :=
  h.trans (.ite ⟨rfl, rfl, _, _, State.setPort_same _ _ _⟩ (.refl p a))

/-- In TRAINING a condition is noted and moves nothing, but for a failed lane. -/
theorem raiseCond (hst : (s.port p).state = .training) (hk : condCause k ≠ 3) (h : CondsMoved p s a) :
    CondsMoved p s (a.raiseCond p k) := by
  have hst' : (a.port p).state = .training := by
    obtain ⟨-, -, l, n, hport⟩ := h
    rw [hport]
    exact hst
  refine h.trans (.ite (.refl p a) ?_)
  obtain ⟨l, hl⟩ := (a.port p).withCond_eq k
  have noted : ((a.setPort p ((a.port p).withCond k)).port p).state = .training := by
    rw [State.setPort_same, hl]
    exact hst'
  change CondsMoved p a ((a.setPort p ((a.port p).withCond k)).portFault p (condCause k))
  rw [State.portFault_training noted hk]
  exact ⟨rfl, rfl, l, (a.port p).clearSince, (State.setPort_same _ _ _).trans hl⟩

/-- A condition of a port in TRAINING follows a defect. -/
theorem follow {b : Bool} (hst : (s.port p).state = .training) (hk : condCause k ≠ 3) (h : CondsMoved p s a) :
    CondsMoved p s (if b = (a.port p).conds.contains k then a else if b = true then a.raiseCond p k else a.clearCond p k) :=
  .ite h (.ite (h.raiseCond hst hk) h.clearCond)

/-- The defects of an ELI port in TRAINING leave it there (R139). -/
theorem eliSet (x : Eli) (hst : (s.port p).state = .training) : CondsMoved p s (s.eliSet p x) := by
  have set (y : Eli) : CondsMoved p s (s.setEli p y) := .of_eq rfl rfl rfl (.refl p s)
  have posted (y : Eli) : CondsMoved p s (if (s.eliPort p).defects = y.defects then s.setEli p y
      else (s.setEli p y).eventTo ((s.setEli p y).owner 1 p) 0x03F1 (p + 256 * y.defects) 0) :=
    .ite (set y) (.of_eq (by simp) (by simp) (by simp) (set y))
  exact .ite (.follow hst (by decide) (.follow hst (by decide) (.follow hst (by decide) (posted _)))) (posted _)

end CondsMoved

/-- What of a port its lanes in service depend on: the lanes, the personality and the tree (R120, R349). -/
def Port.binding (x : Port) : List Nat × Personality × Nat := (x.lanes, x.personality, x.tree)

theorem laneDown_congr {a b : State} (hu : b.units = a.units) (hp : (b.port p).binding = (a.port p).binding) :
    b.laneDown p = a.laneDown p := by
  have hlanes : (b.port p).lanes = (a.port p).lanes := congrArg Prod.fst hp
  have hpers : (b.port p).personality = (a.port p).personality := congrArg (fun r => r.2.1) hp
  have htree : (b.port p).tree = (a.port p).tree := congrArg (fun r => r.2.2) hp
  simp only [State.laneDown, State.isOut, hu, hlanes, hpers, htree]

/-- The move of setEnable: the port is enabled and trains, and an ELI receiver begins anew. -/
def State.trained (s : State) (p : Nat) : State :=
  let b := (s.setPort p { s.port p with enable := true, trainStart := s.now, clearSince := s.now }).moveLink p .training 0
  if (s.port p).personality = .eli then b.eliSet p (b.eliPort p).restart else b

theorem State.trained_port (s : State) (p : Nat) : (s.trained p).units = s.units ∧
    ∃ l n cs, (s.trained p).port p = { s.port p with
      enable := true, state := .training, cause := 0, trainStart := s.now, conds := l, clearSince := n, counters := cs } := by
  unfold State.trained
  generalize ha : s.setPort p { s.port p with enable := true, trainStart := s.now, clearSince := s.now } = a
  have hunits : a.units = s.units := by rw [← ha]; rfl
  have hport : a.port p = { s.port p with enable := true, trainStart := s.now, clearSince := s.now } := by
    rw [← ha, State.setPort_same]
  obtain ⟨cs, hmoved⟩ := a.moveLink_port p .training 0
  obtain ⟨munits, -, l, n, hconds⟩ : CondsMoved p (a.moveLink p .training 0) (if (s.port p).personality = .eli then
      (a.moveLink p .training 0).eliSet p ((a.moveLink p .training 0).eliPort p).restart else a.moveLink p .training 0) :=
    .ite (.eliSet _ (a.moveLink_state p .training 0).1) (.refl _ _)
  exact ⟨(munits.trans (a.moveLink_lanes p .training 0).1).trans hunits, l, n, cs, by rw [hconds, hmoved, hport]⟩

/-- A port that is enabled with its lanes in service trains (R118). -/
theorem State.setEnable_on (hoff : (s.port p).enable = false) (hdown : s.laneDown p = false) : s.setEnable p true = s.trained p := by
  obtain ⟨hunits, l, n, cs, hport⟩ := s.trained_port p
  have down : (s.trained p).laneDown p = false := (laneDown_congr hunits (by rw [hport]; rfl)).trans hdown
  have stays : ¬ (s.trained p).laneDown p = true := by rw [down]; decide
  exact (if_neg (by simp [hoff])).trans ((if_pos rfl).trans (if_neg stays))

/-- An UP port that is disabled goes to DISABLED, which counts (R118). -/
theorem State.setEnable_off (hon : (s.port p).enable = true) (hup : (s.port p).state = .up) :
    ((s.setEnable p false).port p).state = .disabled ∧ ((s.setEnable p false).port p).enable = false ∧
      look ((s.setEnable p false).port p).counters 12 0 = (look (s.port p).counters 12 0 + 1) % 2 ^ 64 := by
  have off : s.setEnable p false = (s.setPort p { s.port p with
      enable := false, berAlarm := false, conds := (s.port p).conds.filter fun k => k < 5 || k = 7 }).moveLink p .disabled 0 :=
    (if_neg (by simp [hon])).trans (if_neg (by decide))
  obtain ⟨n, hport, hcount, -⟩ := State.moveLink_from_up (s := s.setPort p { s.port p with
    enable := false, berAlarm := false, conds := (s.port p).conds.filter fun k => k < 5 || k = 7 }) (p := p) (cause := 0)
    (st := .disabled) (by rw [State.setPort_same]; exact hup) (by decide)
  rw [State.setPort_same] at hport hcount
  rw [off, hport]
  exact ⟨rfl, rfl, hcount⟩

/-- The settings that PORT_CONFIG stores; a port with no limit has no FEC condition (R125). -/
def State.configured (s : State) (c : Cmd) : State :=
  let s1 := s.setPort (c.u8 16) { s.port (c.u8 16) with cfg := portCfgOf c }
  if c.u32 28 = 0 then s1.clearCond (c.u8 16) 5 else s1

theorem State.configured_port (s : State) (c : Cmd) : (s.configured c).units = s.units ∧ (s.configured c).now = s.now ∧
    ∃ l n, (s.configured c).port (c.u8 16) = { s.port (c.u8 16) with cfg := portCfgOf c, conds := l, clearSince := n } := by
  obtain ⟨hunits, hnow, l, n, hport⟩ : CondsMoved (c.u8 16) (s.setPort (c.u8 16) { s.port (c.u8 16) with cfg := portCfgOf c })
      (s.configured c) := .ite (.clearCond (.refl _ _)) (.refl _ _)
  exact ⟨hunits, hnow, l, n, by rw [hport, State.setPort_same]⟩

theorem exec_portConfig (hr : ready (s.at_ t) c 0x0201 .any = true) (he : firstErr (portConfigErrs c (s.at_ t)) = none) :
    exec (.portConfig t c) s = .next ((State.updatePort (c.u8 16)
      ((((s.at_ t).configured c).setEnable (c.u8 16) (decide (c.u8 17 = 1))).downFlush (c.u8 16))).answer c .ok 0 0 []) := by
  refine Eq.trans (congrArg Host.Outcome.next (command_ok _ _ _ _ _ _ _ hr he)) ?_
  dsimp only
  rw [if_neg Bool.false_ne_true]
  rfl

/-- What PORT_CONFIG's last steps leave of a port: all but the counts of PFC frames and of flushed packets. -/
theorem State.settled_links (s : State) (p : Nat) (c : Cmd) :
    SameLinks s ((State.updatePort p (s.downFlush p)).answer c .ok 0 0 []) :=
  .of_eq (a := State.updatePort p (s.downFlush p)) (by simp) (by simp) (.updatePort (.downFlush (.refl s)))

/-! ### PORT_STATS (R127) -/

theorem bit_zero_eq {n : Nat} (h : n ≤ 1) : bit n 0 = decide (n = 1) := by
  obtain rfl | rfl : n = 0 ∨ n = 1 := by omega
  · rfl
  · rfl

/-- Settles O11: each row by the state that it answers; PORT_CONFIG through the move of the port that it enables or disables. -/
theorem portCommandsComplete : Obligations.PortCommandsComplete := by
  unfold Obligations.PortCommandsComplete
  refine ⟨?bind, ?free, ?enable, ?disable, ?lane, ?stats⟩
  case bind =>
    rintro c t s ⟨hr, he, hbind⟩
    obtain ⟨s', row, hport⟩ := exec_portMap hr he
    refine ⟨s', row, ?_⟩
    dsimp only
    rw [hport (c.u8 16), if_pos rfl, Port.mapped, Port.bind_bound _ hbind]
    exact ⟨rfl, rfl, rfl, rfl, rfl, rfl, rfl, rfl, fun p hp => (hport p).trans (if_neg hp)⟩
  case free =>
    rintro c t s ⟨hr, he, hfree⟩
    obtain ⟨s', row, hport⟩ := exec_portMap hr he
    refine ⟨s', row, ?_⟩
    dsimp only
    rw [hport (c.u8 16), if_pos rfl, Port.mapped, Port.bind_free _ hfree]
    exact ⟨rfl, rfl, fun p hp => (hport p).trans (if_neg hp)⟩
  case enable =>
    rintro c t s ⟨hr, he, -, hon, hoff, hst, hdown⟩
    obtain ⟨hunits, hnow, l, n, hcfg⟩ := (s.at_ t).configured_port c
    have down : ((s.at_ t).configured c).laneDown (c.u8 16) = false :=
      (laneDown_congr hunits (by rw [hcfg]; rfl)).trans hdown
    obtain ⟨-, l', n', cs, htrained⟩ := ((s.at_ t).configured c).trained_port (c.u8 16)
    refine ⟨_, exec_portConfig hr he, ?_⟩
    dsimp only
    rw [decide_eq_true hon, State.setEnable_on (by rw [hcfg]; exact hoff) down]
    obtain ⟨cs', hport, -⟩ := (State.settled_links _ _ c).port_eq (c.u8 16)
    rw [hport, htrained, hcfg, hnow]
    exact ⟨rfl, rfl, rfl, rfl, rfl⟩
  case disable =>
    rintro c t s ⟨hr, he, -, hoff, hon, hup⟩
    obtain ⟨-, -, l, n, hcfg⟩ := (s.at_ t).configured_port c
    obtain ⟨hst, hen, hcount⟩ := State.setEnable_off (s := (s.at_ t).configured c) (p := c.u8 16) (by rw [hcfg]; exact hon)
      (by rw [hcfg]; exact hup)
    refine ⟨_, exec_portConfig hr he, ?_⟩
    dsimp only
    rw [decide_eq_false (by omega : ¬ c.u8 17 = 1)]
    obtain ⟨cs, hport, hkept⟩ := (State.settled_links _ _ c).port_eq (c.u8 16)
    rw [hport]
    refine ⟨hst, hen, (hkept 12 (by decide) (by decide)).trans (hcount.trans ?_)⟩
    rw [hcfg]
  case lane =>
    rintro c t s ⟨hr, hinv, htaps, hz, hlane⟩
    refine ⟨_, congrArg Host.Outcome.next (command_ok _ _ _ _ _ _ _ hr ?_), rfl⟩
    simp [at_, need, hinv, htaps, hz, hlane]
  case stats =>
    rintro c t s ⟨hr, hreply, hown, hop, hz⟩
    refine ⟨_, congrArg Host.Outcome.next (command_ok _ _ _ _ _ _ _ hr ?_), ?_⟩
    · simp [State.ownErr, at_, need, hreply, hown, hop, hz]
    · simp only [bit_zero_eq hop, decide_eq_true_eq]
      rfl

end Sys2Proof.Machine
end


section
/-! SUPPORT for O12. Link states (R118, R120, R122, R123) and PFC receipt (R117): for each row, the next state that `exec` answers. -/

namespace Sys2Proof.Machine

set_option Elab.async false

variable {s : State} {t port p lane quad enable cls corrected uncorrected : Nat} {quanta : List Nat} {alignment : Bool}

/-! ### Ports that come up and ports in training -/

theorem exec_portUp (hst : ((s.at_ t).port port).state = .training ∨ ((s.at_ t).port port).state = .faultLocal ∨
      ((s.at_ t).port port).state = .faultRemote) (hclear : (s.at_ t).portClear port = true) :
    exec (.portUp t port) s = .next (if ((s.at_ t).port port).farFault = true then ((s.at_ t).moveLink port .up 0).portFault port 4
      else (s.at_ t).moveLink port .up 0) :=
  congrArg Host.Outcome.next (if_pos (by simpa [hclear, or_assoc] using hst))

theorem exec_linkTrainingRestart (hst : ((s.at_ t).port port).state = .training) (hlt : ((s.at_ t).port port).cfg.linkTraining = true)
    (hdue : ((s.at_ t).port port).trainStart + ms 1000 ≤ (s.at_ t).now) :
    exec (.linkTrainingRestart t port) s = .next ((s.at_ t).setPort port { (s.at_ t).port port with
      trainStart := (s.at_ t).now, counters := bump ((s.at_ t).port port).counters 14 1 }) :=
  congrArg Host.Outcome.next (if_pos (by simp [hst, hlt, hdue]))

/-! ### Conditions that arise and clear -/

theorem exec_laneSignalLoss (hlane : lane < 256) (hport : (s.at_ t).portOfLane lane = some p) :
    exec (.laneSignalLoss t lane alignment) s = .next (((s.at_ t).setLane lane (if alignment = true then
      { (s.at_ t).lane lane with alignLost := true } else { (s.at_ t).lane lane with signalLost := true })).raiseCond p
        (if alignment = true then 2 else 1)) := by
  have found (x : Lane) : ((s.at_ t).setLane lane x).portOfLane lane = some p := hport
  refine congrArg Host.Outcome.next ((if_neg (Nat.not_le.2 hlane)).trans ?_)
  dsimp only
  rw [found]

theorem exec_remoteFaultReceived (hport : ((s.at_ t).port port).personality ≠ .none) :
    exec (.remoteFaultReceived t port) s = .next ((s.at_ t).raiseCond port 4) :=
  congrArg Host.Outcome.next (if_neg hport)

/-- A port after the codewords of an interval. -/
def Port.measured (x : Port) (alarm : Bool) (corrected uncorrected : Nat) : Port :=
  { x with berAlarm := alarm, counters := bump (bump x.counters 10 corrected) 11 uncorrected }

theorem exec_fecDegradeInterval_bad (hport : ((s.at_ t).port port).personality ≠ .none) (hup : ((s.at_ t).port port).state = .up)
    (hlimit : ((s.at_ t).port port).cfg.fecDegradeCw ≠ 0) (hbad : ((s.at_ t).port port).cfg.fecDegradeCw < uncorrected) :
    exec (.fecDegradeInterval t port corrected uncorrected) s = .next
      (((s.at_ t).setPort port (((s.at_ t).port port).measured true corrected uncorrected)).raiseCond port 5) := by
  have bad : (decide (((s.at_ t).port port).cfg.fecDegradeCw ≠ 0) &&
      decide (((s.at_ t).port port).cfg.fecDegradeCw < uncorrected)) = true := by
    simp [hlimit, hbad]
  refine congrArg Host.Outcome.next ((if_neg hport).trans ?_)
  dsimp only
  rw [bad, if_pos rfl, if_pos (by simp [hup])]
  rfl

theorem exec_fecDegradeInterval_ok (hport : ((s.at_ t).port port).personality ≠ .none)
    (hok : uncorrected ≤ ((s.at_ t).port port).cfg.fecDegradeCw) :
    exec (.fecDegradeInterval t port corrected uncorrected) s = .next
      (((s.at_ t).setPort port (((s.at_ t).port port).measured false corrected uncorrected)).clearCond port 5) := by
  have good : (decide (((s.at_ t).port port).cfg.fecDegradeCw ≠ 0) &&
      decide (((s.at_ t).port port).cfg.fecDegradeCw < uncorrected)) = false := by
    simp [Nat.not_lt.2 hok]
  refine congrArg Host.Outcome.next ((if_neg hport).trans ?_)
  dsimp only
  rw [good, if_neg (by decide)]
  rfl

/-- The last condition of a port clears: up_hold_ms counts from now where it held the port. -/
theorem State.clearCond_last {k : Nat} (hconds : (s.port p).conds = [k]) (hholds : (s.port p).state = .faultLocal → condCause k ≠ 4) :
    s.clearCond p k = s.setPort p { s.port p with conds := [], clearSince := s.now } := by
  have holding : (s.port p).holding.contains k = true := by
    unfold Port.holding
    split
    · rename_i h
      simp [hconds, hholds h]
    · simp [hconds]
  have present : (s.port p).conds.contains k = true := by simp [hconds]
  refine (if_pos present).trans ?_
  simp only [holding, if_true, hconds, List.erase_cons_head]

/-! ### Failed lanes and quads (R122, R123) -/

/-- The port of a lane that is out faults. -/
def State.portLosesLane (l : Nat) (s : State) : State :=
  match s.portOfLane l with
  | some p => s.portFault p 3
  | none => s

theorem State.portLosesLane_some (h : s.portOfLane lane = some p) : s.portLosesLane lane = s.portFault p 3 := by
  rw [State.portLosesLane, h]

/-- A lane fails: it is mapped out, and LANE_FAULT is posted. -/
def State.laneLost (s : State) (lane : Nat) : State :=
  (s.mapOut 0x0A lane 0 (s.laneMask lane) 0).laneFault lane (s.laneMask lane)

theorem State.laneLost_ports (s : State) (lane : Nat) : (s.laneLost lane).ports = s.ports := by
  simp [State.laneLost, State.laneFault]

theorem State.laneLost_isOut (s : State) (lane : Nat) : (s.laneLost lane).isOut 0x0A lane = true := by
  refine (isOut_congr ?_ _ _).trans (mapOut_isOut s 0x0A lane 0 (s.laneMask lane) 0 false)
  simp [State.laneLost, State.laneFault]

theorem exec_laneFail (hlane : lane < 256) (hin : (s.at_ t).isOut 0x0A lane = false) (hport : (s.at_ t).portOfLane lane = some p) :
    exec (.laneFail t lane) s = .next (((s.at_ t).laneLost lane).portFault p 3) := by
  have found : ((s.at_ t).laneLost lane).portOfLane lane = some p := by
    unfold State.portOfLane at hport ⊢
    rw [State.laneLost_ports, hport]
  exact congrArg Host.Outcome.next ((if_neg (by simp [hlane, hin])).trans (State.portLosesLane_some found))

/-- A lane is mapped out with its quad. -/
def State.laneOut (l : Nat) (s : State) : State := (s.markOut 0x0A l).setLane l { s.lane l with quadOut := true }

theorem State.laneOut_isOut (s : State) (l j : Nat) : (s.laneOut l).isOut 0x0A j = (decide (j = l) || s.isOut 0x0A j) := by
  refine (look_put s.units.out (0x0A * 65536 + l) (0x0A * 65536 + j) false true).trans ?_
  by_cases h : j = l
  · rw [if_pos (by omega), decide_eq_true h, Bool.true_or]
  · rw [if_neg (by omega), decide_eq_false h, Bool.false_or]
    rfl

theorem State.laneOut_quadOut (s : State) (l j : Nat) : ((s.laneOut l).lane j).quadOut = (decide (j = l) || (s.lane j).quadOut) := by
  have row : (s.laneOut l).lane j = if j = l then { s.lane l with quadOut := true } else s.lane j := State.setLane_lane _ _ _ _
  rw [row]
  by_cases h : j = l
  · rw [if_pos h, decide_eq_true h, Bool.true_or]
  · rw [if_neg h, decide_eq_false h, Bool.false_or]

/-- Each lane of a list that is mapped out with its quad is out. -/
theorem each_laneOut (ls : List Nat) (s : State) {j : Nat} (h : j ∈ ls ∨ (s.isOut 0x0A j = true ∧ (s.lane j).quadOut = true)) :
    (each State.laneOut ls s).isOut 0x0A j = true ∧ ((each State.laneOut ls s).lane j).quadOut = true := by
  induction ls generalizing s with
  | nil => simpa using h
  | cons l ls ih =>
    refine ih (s.laneOut l) ?_
    rw [State.laneOut_isOut, State.laneOut_quadOut]
    rcases h with h | ⟨hout, hquad⟩
    · rcases List.mem_cons.1 h with rfl | h
      · simp
      · exact .inl h
    · simp [hout, hquad]

theorem each_portLosesLane_lanes (ls : List Nat) (s : State) : SameLanes s (each State.portLosesLane ls s) := by
  refine each_inv _ (SameLanes s) (fun l a h => ?_) ls s (.refl s)
  unfold State.portLosesLane
  split
  · exact h.trans (a.portFault_lanes _ _)
  · exact h

/-- The record and the events of a map-out and what it does to the mode leave the unit lists and the lanes. -/
theorem afterRecord_lanes (s : State) (n severity action mask detail lmask : Nat) (planned : Bool) :
    let z := ((s.record 0x0A n severity action 0 mask 0 planned).laneFault detail lmask).afterMapOut
    z.units.out = s.units.out ∧ z.ports.lane = s.ports.lane := by
  simp [State.laneFault]

/-- A quad that is mapped out takes its four lanes out (R123). -/
theorem State.quadDown_out (s : State) (q : Nat) (planned : Bool) {l : Nat} (h : l ∈ quadLanes q) :
    (s.quadDown q planned).isOut 0x0A l = true ∧ ((s.quadDown q planned).lane l).quadOut = true := by
  obtain ⟨hout, hquad⟩ := each_laneOut (quadLanes q) s (.inl h)
  generalize hz : each State.laneOut (quadLanes q) s = z at hout hquad
  have down : ∃ severity action mask, s.quadDown q planned = each State.portLosesLane (quadLanes q)
      (((z.record 0x0A (4 * q) severity action 0 mask 0 planned).laneFault (4 * q + 256) mask).afterMapOut) := by
    subst hz
    exact ⟨_, _, _, rfl⟩
  obtain ⟨severity, action, mask, hdown⟩ := down
  obtain ⟨units, lanes⟩ := afterRecord_lanes z (4 * q) severity action mask (4 * q + 256) mask planned
  have faults := each_portLosesLane_lanes (quadLanes q)
    (((z.record 0x0A (4 * q) severity action 0 mask 0 planned).laneFault (4 * q + 256) mask).afterMapOut)
  rw [hdown, faults.isOut, faults.lane, isOut_congr units, State.lane, lanes]
  exact ⟨hout, hquad⟩

/-! ### PFC receipt (R117) -/

/-- When the pause of a class ends that a PFC frame asks for. -/
def Port.pauseEnd (x : Port) (now : Nat) (quanta : List Nat) (k : Nat) : Nat :=
  if (quanta[k]?).getD 0 = 0 then 0 else now + x.pauseTime ((quanta[k]?).getD 0)

theorem Port.look_pause (x : Port) (now enable : Nat) (quanta : List Nat) (c k : Nat) (m : Sparse Nat) :
    look (x.pause now enable quanta c m) k 0 =
      if k = c ∧ (bit enable k && bit x.cfg.pfcRx k) = true then x.pauseEnd now quanta k else look m k 0 := by
  unfold Port.pause
  by_cases hk : k = c
  · subst hk
    by_cases hb : (bit enable k && bit x.cfg.pfcRx k) = true
    · rw [if_pos hb, if_pos ⟨rfl, hb⟩]
      exact look_put_same _ _ _ _
    · rw [if_neg hb, if_neg fun h => hb h.2]
  · rw [if_neg (c := k = c ∧ _) fun h => hk h.1]
    split
    · exact look_put_ne _ hk _ _ _
    · rfl

/-- A PFC frame pauses the classes of a list that it and the port enable, and no other. -/
theorem Port.look_each_pause (x : Port) (now enable : Nat) (quanta : List Nat) (l : List Nat) (k : Nat) (m : Sparse Nat) :
    look (each (x.pause now enable quanta) l m) k 0 =
      if k ∈ l ∧ (bit enable k && bit x.cfg.pfcRx k) = true then x.pauseEnd now quanta k else look m k 0 := by
  induction l generalizing m with
  | nil => simp
  | cons c l ih =>
    rw [each_cons, ih, Port.look_pause]
    by_cases hb : (bit enable k && bit x.cfg.pfcRx k) = true
    · by_cases hl : k ∈ l
      · simp only [hb, hl, List.mem_cons, or_true, and_true, if_true]
      · simp only [hb, hl, List.mem_cons, or_false, and_true, if_false]
    · simp only [hb, Bool.false_eq_true, and_false, if_false]

theorem State.pfcReceive_down (h : (s.port port).state ≠ .up) : s.pfcReceive port enable quanta = s :=
  if_pos (by simp [h])

theorem State.pfcReceive_ethernet (hup : (s.port port).state = .up) (heth : (s.port port).personality = .ethernet) :
    s.pfcReceive port enable quanta = s.setPort port { s.port port with
      counters := bump (s.port port).counters 5 1,
      paused := each ((s.port port).pause s.now enable quanta) (List.range 8) (s.port port).paused } := by
  refine (if_neg (by simp [hup, heth])).trans ?_
  dsimp only
  rw [if_pos heth]
  rfl

theorem exec_pfcPauseExpire (hdue : look ((s.at_ t).port port).paused cls 0 ≤ (s.at_ t).now) :
    exec (.pfcPauseExpire t port cls) s = .next ((s.at_ t).setPort port { (s.at_ t).port port with
      paused := put ((s.at_ t).port port).paused cls 0 0 }) :=
  congrArg Host.Outcome.next (if_pos hdue)

/-- Settles O12: each row by the next state that it answers, and what a move of a port leaves. -/
theorem portLinkCompletes : Obligations.PortLinkCompletes := by
  unfold Obligations.PortLinkCompletes
  refine ⟨?up, ?upFar, ?restart, ?signal, ?ponSignal, ?remote, ?bad, ?good, ?cleared, ?lane, ?quad, ?pfc, ?pfcDown, ?expire⟩
  case up =>
    rintro port t s ⟨hst, hclear, hfar⟩
    refine ⟨_, (exec_portUp hst hclear).trans (congrArg Host.Outcome.next (if_neg (by simp [hfar]))), State.moveLink_state _ _ _ _⟩
  case upFar =>
    rintro port t s ⟨hst, hclear, hfar⟩
    refine ⟨_, (exec_portUp (.inr (.inl hst)) hclear).trans (congrArg Host.Outcome.next (if_pos hfar)), ?_⟩
    dsimp only
    rw [State.portFault_remote ((s.at_ t).moveLink_state port .up 0).1]
    exact State.moveLink_state _ _ _ _
  case restart =>
    rintro port t s ⟨hst, hlt, hdue⟩
    exact ⟨_, exec_linkTrainingRestart hst hlt hdue, rfl⟩
  case signal =>
    rintro lane alignment p t s ⟨hlane, rfl, hport, hpon, hup, -, hconds⟩
    refine ⟨_, exec_laneSignalLoss hlane hport, ?_⟩
    have lanes := State.raiseCond_lanes ((s.at_ t).setLane lane { (s.at_ t).lane lane with signalLost := true }) p 1
    obtain ⟨n, hmoved, hcount, -⟩ := State.raiseCond_up (s := (s.at_ t).setLane lane { (s.at_ t).lane lane with signalLost := true })
      (k := 1) hpon hup (by decide)
    have conds : (((s.at_ t).port p).withCond 1).conds = [1] := by simp [Port.withCond, hconds]
    refine ⟨?_, ?_⟩
    · exact congrArg Lane.signalLost ((lanes.lane lane).trans (State.setLane_same _ _ _))
    · refine hmoved ▸ ⟨rfl, rfl, conds, hcount⟩
  case ponSignal =>
    rintro lane alignment p t s ⟨hlane, hport, hpon⟩
    refine ⟨_, exec_laneSignalLoss hlane hport, ?_⟩
    dsimp only
    rw [State.raiseCond_pon (s := State.setLane _ _ _) hpon]
    exact ⟨rfl, rfl⟩
  case remote =>
    rintro port t s ⟨heth, hup, -⟩
    exact ⟨_, exec_remoteFaultReceived (by simp [heth]), State.raiseCond_remote (by simp [heth]) hup⟩
  case bad =>
    rintro port corrected uncorrected t s ⟨heth, hup, hlimit, hbad, -⟩
    refine ⟨_, exec_fecDegradeInterval_bad (by simp [heth]) hup hlimit hbad, ?_⟩
    obtain ⟨n, hmoved, -, hcount⟩ := State.raiseCond_up
      (s := (s.at_ t).setPort port (((s.at_ t).port port).measured true corrected uncorrected)) (p := port) (k := 5)
      (by simp [Port.measured, heth]) (by simp [Port.measured, hup]) (by decide)
    rw [State.setPort_same] at hmoved hcount
    rw [hmoved]
    refine ⟨rfl, rfl, rfl, (hcount 11 (by decide) (by decide) (by decide)).trans ?_⟩
    simp [Port.measured, bump, look_put]
  case good =>
    rintro port corrected uncorrected t s ⟨heth, hok, hconds⟩
    refine ⟨_, exec_fecDegradeInterval_ok (by simp [heth]) hok, ?_⟩
    dsimp only
    rw [State.clearCond_last (by rw [State.setPort_same]; exact hconds) (fun _ => by decide)]
    simp [Port.measured]
  case cleared =>
    rintro port cond t s ⟨rfl, hconds, hst⟩
    refine ⟨_, rfl, ?_⟩
    dsimp only
    rw [State.clearCond_last hconds (fun h => absurd h hst)]
    simp
  case lane =>
    rintro lane p t s ⟨hlane, hin, hport, hst, -⟩
    refine ⟨_, exec_laneFail hlane hin hport, ?_⟩
    have same : ((s.at_ t).laneLost lane).port p = (s.at_ t).port p :=
      congrArg (fun x : Ports => look x.port p {}) (State.laneLost_ports _ _)
    refine ⟨((State.portFault_lanes _ _ _).isOut _ _).trans (State.laneLost_isOut _ _), ?_⟩
    rw [State.portFault_lane (by rwa [same])]
    exact State.moveLink_state _ _ _ _
  case quad =>
    rintro quad t s ⟨hquad, hin⟩
    refine ⟨_, congrArg Host.Outcome.next (if_neg (by simp [hquad, hin])), fun l hlow hhigh => ?_⟩
    exact State.quadDown_out _ _ _ (by simp [quadLanes]; omega)
  case pfc =>
    rintro port enable quanta t s ⟨hup, heth⟩
    refine ⟨_, congrArg Host.Outcome.next (State.pfcReceive_ethernet hup heth), ?_, fun k hk => ?_⟩
    · rw [State.setPort_same]
      exact look_put_same _ _ _ _
    · rw [State.setPort_same]
      refine (Port.look_each_pause _ _ _ _ _ _ _).trans ?_
      simp [hk, Port.pauseEnd]
  case pfcDown =>
    rintro port enable quanta t s hst
    exact ⟨_, rfl, State.pfcReceive_down hst⟩
  case expire =>
    rintro port cls t s hdue
    refine ⟨_, exec_pfcPauseExpire hdue, ?_⟩
    dsimp only
    rw [State.setPort_same]
    exact ⟨look_put_same ((s.at_ t).port port).paused cls 0 0, rfl⟩

end Sys2Proof.Machine
end


section
/-! SUPPORT for O32. A frame that leaves an Ethernet port without a correction (R262, R400), and the packet for which the obligation's clause on
corrections asks another frame: its offset is 0xFFFF, which names no correctionField, and its bytes reach past that offset. -/

namespace Sys2Proof.Machine

set_option Elab.async false

variable {s : State} {t port k : Nat} {l : List Nat}

/-! ### Transmission without a correction -/

/-- A frame on an UP Ethernet port that does not encrypt leaves padded, with its FCS. -/
theorem State.transmit_plain (b : Bytes) (hup : (s.port port).state = .up) (heth : (s.port port).personality = .ethernet)
    (htx : (s.cport port).tx = false) :
    (s.transmit port b false).host.out = s.host.out ++ [.frame port (pad60 b ++ leBytes 4 (crc32 (pad60 b)))] := by
  have plain : s.macsecTx port (pad60 b) false = (s, some (pad60 b)) := if_pos (by simp [htx])
  have notEli : (s.port port).personality ≠ .eli := by simp [heth]
  unfold State.transmit
  rw [if_neg (by simp [hup]), plain]
  dsimp only
  rw [if_neg notEli, if_neg Bool.false_ne_true]
  rfl

/-- A frame whose descriptor offset is 0xFFFF is not touched (R400). -/
theorem State.correct_none (p : Packet) (h : p.desc.ptpOffset = 0xFFFF) : s.correct port p = (s, p.bytes) := if_pos h

/-- The oldest packet of an UP Ethernet port leaves as it is, padded, where its descriptor asks for no correction. -/
theorem exec_frameTransmit_uncorrected (hpipe : (s.at_ t).pipe port = k :: l) (hlive : ((s.at_ t).pkt k).live = true)
    (hup : ((s.at_ t).port port).state = .up) (heth : ((s.at_ t).port port).personality = .ethernet)
    (htx : ((s.at_ t).cport port).tx = false) (hstomp : ((s.at_ t).pkt k).stomp = false)
    (hoffset : ((s.at_ t).pkt k).desc.ptpOffset = 0xFFFF) :
    ∃ s', exec (.frameTransmit t port) s = .next s' ∧ s'.host.out = (s.at_ t).host.out ++
      [.frame port (pad60 ((s.at_ t).pkt k).bytes ++ leBytes 4 (crc32 (pad60 ((s.at_ t).pkt k).bytes)))] := by
  have notPon : ((s.at_ t).port port).personality ≠ .pon := by simp [heth]
  have row : exec (.frameTransmit t port) s =
      .next ((((s.at_ t).setPipe port l).dropPkt k).transmit port ((s.at_ t).pkt k).bytes false) := by
    refine congrArg Host.Outcome.next ?_
    dsimp only
    rw [hpipe]
    dsimp only
    rw [if_neg (by simp [hlive, heth]), if_neg (by simp [hup, heth, State.waitsCore]), State.correct_none _ hoffset, hstomp]
    exact if_neg notPon
  exact ⟨_, row, State.transmit_plain _ hup heth htx⟩

/-! ### Bytes -/

theorem pad60_of_length {b : Bytes} (h : 60 ≤ b.length) : pad60 b = b := by
  rw [pad60, Nat.sub_eq_zero_of_le h, List.replicate_zero, List.append_nil]

theorem length_leBytes (n v : Nat) : (leBytes n v).length = n := by
  induction n generalizing v with
  | zero => rfl
  | succ n ih => exact congrArg (· + 1) (ih _)

theorem beAt_replicate_zero (len i n : Nat) : beAt (List.replicate len (0 : Byte)) i n = 0 := by
  induction n generalizing i with
  | zero => rfl
  | succ n ih =>
    have byte : byteAt (List.replicate len (0 : Byte)) i = 0 := by
      unfold byteAt
      by_cases hi : i < len
      · simp [hi]
      · simp [hi]
    rw [beAt, byte, ih, Nat.zero_mul]

/-- Bytes that other bytes laid over them leave as they were hold those bytes there. -/
theorem take_drop_of_overlay_eq {b d : Bytes} {i : Nat} (hfit : i ≤ b.length) (h : b = overlay b i d) : (b.drop i).take d.length = d := by
  have len : (b.take i).length = i := List.length_take.trans (Nat.min_eq_left hfit)
  rw [h, overlay, List.append_assoc, List.drop_append_of_le_length (by omega), List.drop_of_length_le (by omega), List.nil_append,
    List.take_left']
  rfl

/-! ### The counterexample -/

/-- Zeros, 8 of them from offset 0xFFFF on. -/
def longFrame : Bytes := List.replicate 65543 0

theorem length_longFrame : longFrame.length = 65543 := List.length_replicate

theorem longFrame_fits : 0xFFFF + 8 ≤ longFrame.length := Nat.le_of_eq length_longFrame.symm

/-- A packet of these bytes, its descriptor's offset 0xFFFF as at reset, in the pipe of an UP Ethernet port; TIME is 2^−16 ns past
the packet's ingress stamp. -/
def longPacketState : State :=
  (({ State.reset with time := { value := 2 ^ 24 } }.setPort 0 { personality := .ethernet, state := .up }).setPkt 9
    { live := true, bytes := longFrame }).setPipe 0 [9]

theorem longPacketState_pkt : (longPacketState.at_ 0).pkt 9 = { live := true, bytes := longFrame } :=
  look_put_same ([] : Sparse Packet) 9 {} { live := true, bytes := longFrame }

theorem longPacketState_port : (longPacketState.at_ 0).port 0 = { personality := .ethernet, state := .up } :=
  look_put_same ([] : Sparse Port) 0 {} { personality := .ethernet, state := .up }

theorem longPacketState_pipe : (longPacketState.at_ 0).pipe 0 = [9] := look_put_same ([] : Sparse (List Nat)) 0 [] [9]

theorem longPacketState_cport : ((longPacketState.at_ 0).cport 0).tx = false := rfl

theorem longPacketState_residence : (1 : Int) = ((((longPacketState.at_ 0).timeNow : Int) +
    ((longPacketState.at_ 0).portTime 0).txAdj * 2 ^ 24).toNat / 2 ^ 24 : Nat) - ((0 : Nat) / 2 ^ 24 : Nat) := by
  decide

/-- The model sends the packet as it is. -/
theorem longPacketState_sends : ∃ s', exec (.frameTransmit 0 0) longPacketState = .next s' ∧
    s'.host.out = (longPacketState.at_ 0).host.out ++ [.frame 0 (longFrame ++ leBytes 4 (crc32 longFrame))] := by
  have padded : pad60 longFrame = longFrame := pad60_of_length (by rw [length_longFrame]; decide)
  have sends := exec_frameTransmit_uncorrected longPacketState_pipe (by rw [longPacketState_pkt]) (by rw [longPacketState_port])
    (by rw [longPacketState_port]) longPacketState_cport (by rw [longPacketState_pkt]) (by rw [longPacketState_pkt])
  rwa [longPacketState_pkt, padded] at sends

/-- The correctionField of the packet and its residence add up to 1. -/
theorem longFrame_field : (1 : Int) = signed 64 (beAt longFrame 0xFFFF 8) + 1 := by
  rw [longFrame, beAt_replicate_zero]
  decide

/-- Refutes O32: its clause on corrections leaves the offset 0xFFFF in, which R400 has for none. A packet of 65,543 bytes has 8 bytes from
there on; the model sends it as it is, and the clause asks for the residence in those bytes. -/
theorem not_framesComplete : ¬ Obligations.FramesComplete := by
  unfold Obligations.FramesComplete
  rintro ⟨-, -, -, -, -, -, -, -, -, -, corrected, -, -⟩
  obtain ⟨s', row, hout⟩ := longPacketState_sends
  obtain ⟨s'', row', hout', -⟩ := corrected 0 9 [] 0xFFFF 1 1 (overlay longFrame 0xFFFF (beBytes 8 (unsigned 64 1))) 0 longPacketState
    ⟨longPacketState_pipe, by rw [longPacketState_pkt], by rw [longPacketState_port], by rw [longPacketState_port], longPacketState_cport,
      by rw [longPacketState_pkt], by rw [longPacketState_pkt], by rw [longPacketState_pkt],
      by rw [longPacketState_pkt, length_longFrame]; decide, by decide, by rw [longPacketState_pkt]; exact longFrame_fits, rfl, by decide,
      by decide, by rw [longPacketState_pkt]; exact longPacketState_residence, by rw [longPacketState_pkt]; exact longFrame_field,
      by decide, by rw [longPacketState_pkt]⟩
  obtain rfl : s' = s'' := Host.Outcome.next.inj (row.symm.trans row')
  have frames := List.append_cancel_left (hout.symm.trans hout')
  have bytes : longFrame = overlay longFrame 0xFFFF (beBytes 8 (unsigned 64 1)) := by
    simp only [List.cons.injEq, Out.frame.injEq, and_true, true_and] at frames
    exact List.append_inj_left' frames (by rw [length_leBytes, length_leBytes])
  have field := take_drop_of_overlay_eq (by rw [length_longFrame]; decide) bytes
  rw [longFrame, List.drop_replicate, List.take_replicate] at field
  exact absurd field (by decide)

end Sys2Proof.Machine
end


section
/-! SUPPORT for O13. The ELI commands. -/

namespace Sys2Proof.Machine

set_option Elab.async false

variable {s : State} {t : Nat} {c : Cmd}

theorem exec_eliConfig (hr : ready (s.at_ t) c 0x0300 .any = true) (hport : firstErr (eliPortErrs c (s.at_ t) 16) = none)
    (hfollow : c.u8 17 ≤ 1) (hmin : 1 ≤ c.u8 18) (hcaps : c.u8 18 ≤ c.u8 19) (hmax : c.u8 19 ≤ 128) (hfixed : 1 ≤ c.u8 20)
    (hfixed' : c.u8 20 ≤ 128) (hz : c.zeros 21 43 = none) (hlane : eliLaneErr (s.at_ t) (c.u8 16) = none) :
    exec (.eliConfig t c) s = .next (((s.at_ t).setEli (c.u8 16) { (s.at_ t).eliPort (c.u8 16) with
      nextCfg := some { follow := c.u8 17 = 1, capMin := c.u8 18, capMax := c.u8 19, fixedCap := c.u8 20 } }).answer c .ok 0 0 []) := by
  refine congrArg Host.Outcome.next (command_ok _ _ _ _ _ _ _ hr ?_)
  rw [firstErr_append_none hport]
  simp [at_, need, hfollow, hmin, hcaps, hmax, Nat.le_trans hcaps hmax, hfixed, hfixed', hz, hlane]

/-- Rows written one after the other, each with its own value. -/
theorem look_foldl_put (f : Nat → Nat) (l : List Nat) (m : Sparse Nat) (k : Nat) :
    look (l.foldl (fun m i => put m i 0 (f i)) m) k 0 = if k ∈ l then f k else look m k 0 := by
  induction l generalizing m with
  | nil => simp
  | cons i l ih =>
    rw [List.foldl_cons, ih, look_put]
    by_cases hk : k = i
    · simp [hk]
    · simp [hk]

theorem look_slotTable (c : Cmd) {i : Nat} (h : i < 128) : look (slotTable c) i 0 = slotType c i :=
  (look_foldl_put _ _ _ _).trans (if_pos (List.mem_range.2 h))

theorem exec_eliSlotmap (hr : ready (s.at_ t) c 0x0301 .any = true) (hport : firstErr (eliPortErrs c (s.at_ t) 16) = none)
    (hz : c.zeros 17 3 = none) (hslots : firstOf (fun i => at_ (20 + i / 4) (slotType c i = 3 || !(s.at_ t).slotInGroup (c.u8 16) i))
      (List.range 128) = none) (hz' : c.zeros 52 12 = none) (hlane : eliLaneErr (s.at_ t) (c.u8 16) = none) :
    exec (.eliSlotmap t c) s = .next (((s.at_ t).setEli (c.u8 16) { (s.at_ t).eliPort (c.u8 16) with
      nextTypes := some (slotTable c), nextRx := some (slotTable c) }).answer c .ok 0 0 []) := by
  refine congrArg Host.Outcome.next (command_ok _ _ _ _ _ _ _ hr ?_)
  rw [firstErr_append_none hport]
  simp only [firstErr_none, firstErr_nil, and_true]
  exact ⟨hz, hslots, hz', hlane⟩

theorem exec_eliExpress (hr : ready (s.at_ t) c 0x0302 .any = true) (he : firstErr (expressErrs c (s.at_ t)) = none) :
    exec (.eliExpress t c) s = .next (((s.at_ t).setExpress (c.u8 19 * 128 + c.u8 17) (if c.u8 16 = 0 then
      { live := true, src := c.u8 18, srcFirst := c.u8 20, dstFirst := c.u8 21, count := c.u8 22 } else {})).answer c .ok 0 0 []) :=
  congrArg Host.Outcome.next (command_ok _ _ _ _ _ _ _ hr he)

theorem exec_eliCounters (hr : ready (s.at_ t) c 0x0303 .any = true) (hreply : c.needReply = none)
    (hport : firstErr (eliPortErrs c (s.at_ t) 16) = none) (hop : c.u8 17 ≤ 1) (hz : c.zeros 18 46 = none)
    (hlane : eliLaneErr (s.at_ t) (c.u8 16) = none) :
    exec (.eliCounters t c) s = .next ((if c.u8 17 = 1 then (s.at_ t).setEli (c.u8 16) { (s.at_ t).eliPort (c.u8 16) with counters := [] }
      else s.at_ t).answer c .ok 0 64 (counterBytes ((s.at_ t).eliPort (c.u8 16)).counters 8)) := by
  refine congrArg Host.Outcome.next ((command_ok _ _ _ _ _ _ _ hr ?_).trans ?_)
  · rw [List.append_assoc, List.singleton_append, hreply, firstErr_cons_none, firstErr_append_none hport]
    simp [at_, need, hop, hz, hlane]
  · simp only [bit_zero_eq hop, decide_eq_true_eq]
    rfl

/-- Settles O13: each clause is its row's rule above. -/
theorem eliCommandsComplete : Obligations.EliCommandsComplete := by
  unfold Obligations.EliCommandsComplete
  refine ⟨?config, ?slotmap, ?create, ?delete, ?counters⟩
  case config =>
    rintro c t s ⟨hr, hport, hfollow, hmin, hcaps, hmax, hfixed, hfixed', hz, hlane⟩
    exact ⟨_, exec_eliConfig hr hport hfollow hmin hcaps hmax hfixed hfixed' hz hlane, rfl⟩
  case slotmap =>
    rintro c t s ⟨hr, hport, hz, hslots, hz', hlane⟩
    exact ⟨_, exec_eliSlotmap hr hport hz hslots hz' hlane, slotTable c, fun i hi => look_slotTable c hi, rfl⟩
  case create =>
    rintro c t s ⟨hr, he, hop⟩
    exact ⟨_, exec_eliExpress hr he, by rw [if_pos hop]⟩
  case delete =>
    rintro c t s ⟨hr, he, hop⟩
    exact ⟨_, exec_eliExpress hr he, by rw [if_neg (by omega)]⟩
  case counters =>
    rintro c t s ⟨hr, hreply, hport, hop, hz, hlane⟩
    exact ⟨_, exec_eliCounters hr hreply hport hop hz hlane, rfl⟩

end Sys2Proof.Machine
end


section
/-! SUPPORT for O14. ELI ports and the lanes of ports: what events, moves of a port and the drain of its queues leave, and what setting an
ELI port makes of it. -/

namespace Sys2Proof.Machine

set_option Elab.async false

/-- Two states with the same ELI ports, and with every port on the same lanes. -/
def SameLine (s s' : State) : Prop :=
  ∀ p, s'.eliPort p = s.eliPort p ∧ (s'.port p).firstLane = (s.port p).firstLane

variable {s a b : State}

namespace SameLine

theorem refl (s : State) : SameLine s s := fun _ => ⟨rfl, rfl⟩

theorem trans (h : SameLine s a) (k : SameLine a b) : SameLine s b :=
  fun p => ⟨(k p).1.trans (h p).1, (k p).2.trans (h p).2⟩

theorem eliPort (h : SameLine s a) (p : Nat) : a.eliPort p = s.eliPort p := (h p).1

theorem firstLane (h : SameLine s a) (p : Nat) : (a.port p).firstLane = (s.port p).firstLane := (h p).2

/-- What is the same in the ELI ports and the ports is the same here. -/
theorem of_eq (he : b.eli.port = a.eli.port) (hp : b.ports = a.ports) (h : SameLine s a) : SameLine s b :=
  h.trans fun p => ⟨congrArg (fun m => look m p ({} : Eli)) he, congrArg (fun m => (look m.port p {}).firstLane) hp⟩

/-- An update of any part but the ELI ports and the ports. -/
theorem set {now free pending dev units host dom lant pkts nextPkt parse tables assoc eng scout act buf tm pol fab cipher pon dram fw time}
    {express : Sparse Express} (h : SameLine s a) :
    SameLine s
      { now, free, pending, dev, units, host, dom, lant, ports := a.ports, eli := { port := a.eli.port, express }, pkts, nextPkt, parse,
        tables, assoc, eng, scout, act, buf, tm, pol, fab, cipher, pon, dram, fw, time } := h

/-- What differs in one part beside the host side, be it neither the ELI ports nor the ports. -/
theorem within {p : Part} (w : Within p a b) (h : SameLine s a) (he : p ≠ .eli := by decide) (hp : p ≠ .ports := by decide) :
    SameLine s b :=
  .of_eq (congrArg Elis.port (w.same.2 .eli he.symm (by decide))) (w.same.2 .ports hp.symm (by decide)) h

/-- An update of a port that leaves its lanes. -/
theorem setPort {p : Nat} {x : Port} (e : x.firstLane = (a.port p).firstLane) (h : SameLine s a) : SameLine s (a.setPort p x) := by
  refine h.trans fun j => ⟨rfl, ?_⟩
  rw [State.setPort_port]
  split
  · rename_i hj
    rw [hj, e]
  · rfl

/-- The same update of an ELI port in two such states. -/
theorem setEli (h : SameLine s a) (p : Nat) (x : Eli) : SameLine (s.setEli p x) (a.setEli p x) := by
  intro j
  rw [State.setEli_eliPort, State.setEli_eliPort, h.eliPort]
  exact ⟨rfl, h.firstLane j⟩

/-- Of two updates of an ELI port the later one stays. -/
theorem setEli_twice (s : State) (p : Nat) (x y : Eli) : SameLine (s.setEli p y) ((s.setEli p x).setEli p y) := by
  intro j
  simp only [State.setEli_eliPort]
  split
  · exact ⟨rfl, rfl⟩
  · exact ⟨rfl, rfl⟩

theorem ite {c : Prop} [Decidable c] (h : SameLine s a) (k : SameLine s b) : SameLine s (if c then a else b) := by
  split
  · exact h
  · exact k

theorem each {α : Type} {f : α → State → State} {l : List α} (hf : ∀ {x a}, SameLine s a → SameLine s (f x a))
    (h : SameLine s a) : SameLine s (Sys2Proof.each f l a) :=
  each_inv f (SameLine s) (fun _ _ => hf) l a h

/-! The functions of Machine/Ops.lean, Machine/Buffer.lean and Machine/Queue.lean that a drain of queues runs. -/

theorem eventTo {d code detail result} (h : SameLine s a) : SameLine s (a.eventTo d code detail result) :=
  .of_eq (by simp) (by simp) h

theorem sendPause {port cls quanta} (h : SameLine s a) : SameLine s (a.sendPause port cls quanta) := by
  have sent : SameLine s (a.setPort port { a.port port with counters := bump (a.port port).counters 9 1 }) := h.setPort rfl
  refine .ite ?_ h
  dsimp only
  split
  · exact sent
  · exact .ite sent sent

theorem updatePause {port cls} (h : SameLine s a) : SameLine s (a.updatePause port cls) :=
  .ite h (.sendPause h)

theorem updatePort {port} (h : SameLine s a) : SameLine s (a.updatePort port) :=
  .each .updatePause h

theorem updateThreshold {k i} (h : SameLine s a) : SameLine s (a.updateThreshold k i) :=
  .ite h (.each .updatePort (.eventTo h))

theorem settlePool {k port} (h : SameLine s a) : SameLine s (a.settlePool k port) :=
  .updatePort (.each .updateThreshold h)

theorem givePointer {x k} (h : SameLine s a) : SameLine s (a.givePointer x k) :=
  have given := h.within (giveRing_within a x)
  .ite h (.ite given (.ite (.ite h given) (.ite h given)))

theorem freeNow {x} (h : SameLine s a) : SameLine s (a.freeNow x) :=
  .ite (.eventTo h) (.ite (.eventTo h) (.settlePool (.givePointer h)))

theorem freeCell {x} (h : SameLine s a) : SameLine s (a.freeCell x) :=
  .ite h (.freeNow h)

theorem discard {k} (h : SameLine s a) : SameLine s (a.discard k) :=
  .set (.each .freeCell h)

theorem leaveQueue {q k} (h : SameLine s a) : SameLine s (a.leaveQueue q k) :=
  .ite (.each (fun h => .ite h h) h) h

theorem dropQueued {q k} (h : SameLine s a) : SameLine s (a.dropQueued q k) :=
  .within (noteDemand_within _ _) (.discard (.leaveQueue h))

theorem downFlush {port} (h : SameLine s a) : SameLine s (a.downFlush port) := by
  have counted {b : State} (h : SameLine s b) :
      SameLine s (b.setPort port { b.port port with counters := bump (b.port port).counters 13 1 }) := h.setPort rfl
  exact .ite (.each (fun h => .each (fun h => counted (.dropQueued h)) h) h) h

/-! The functions of Machine/Ports.lean and Machine/Eli.lean. -/

theorem moveLink {p st cause} (h : SameLine s a) : SameLine s (a.moveLink p st cause) :=
  .ite h (.downFlush (.eventTo (.setPort rfl h)))

theorem portFault {p cause} (h : SameLine s a) : SameLine s (a.portFault p cause) := by
  refine .ite (.ite (.moveLink h) h) ?_
  split
  · exact h
  · exact .ite (.moveLink h) h
  · exact .moveLink h
  · exact .moveLink h
  · exact .ite (.moveLink h) h

theorem raiseCond {p k} (h : SameLine s a) : SameLine s (a.raiseCond p k) := by
  obtain ⟨l, hl⟩ := (a.port p).withCond_eq k
  have noted : SameLine s (a.setPort p ((a.port p).withCond k)) := h.setPort (by rw [hl])
  exact .ite h (.portFault noted)

theorem clearCond {p k} (h : SameLine s a) : SameLine s (a.clearCond p k) :=
  .ite (.setPort rfl h) h

/-- A condition of a port follows a defect. -/
theorem follow {p k} {d : Bool} (h : SameLine s a) :
    SameLine s (if d = (a.port p).conds.contains k then a else if d = true then a.raiseCond p k else a.clearCond p k) :=
  .ite h (.ite (.raiseCond h) (.clearCond h))

theorem eliConds {p} (h : SameLine s a) : SameLine s (a.eliConds p) :=
  .follow (.follow (.follow h))

theorem expressAlarm {k on cause} (h : SameLine s a) : SameLine s (a.expressAlarm k on cause) :=
  .eventTo h

theorem expressFrame {p cap zero} (h : SameLine s a) : SameLine s (a.expressFrame p cap zero) :=
  .each (fun h => .ite (.set h) (.expressAlarm (.set h))) h

theorem expressIn {p frame} (h : SameLine s a) : SameLine s (a.expressIn p frame) :=
  .each (fun h => .ite h (.set h)) h

theorem expressOut {p} (h : SameLine s a) : SameLine s (a.expressOut p).2 :=
  List.foldlRecOn (motive := fun r : List (Nat × Bytes) × State => SameLine s r.2) _ _ h fun _ h _ _ => h

end SameLine

/-! ### An ELI port that is set (R139, R146) -/

/-- An ELI port whose dLOL and dLOF have cleared: the first switch is due (R146). -/
def Eli.cleared (x old : Eli) : Eli :=
  if (!x.rx.lol && !x.rx.lof) && (old.rx.lol || old.rx.lof) then { x with tx := { x.tx with firstDue := true } } else x

theorem Eli.cleared_eq (x old : Eli) : ∃ d, x.cleared old = { x with tx := { x.tx with firstDue := d } } := by
  unfold Eli.cleared
  split
  · exact ⟨true, rfl⟩
  · exact ⟨x.tx.firstDue, rfl⟩

/-- A receiver that stays as it was clears no defect. -/
theorem Eli.cleared_same {x old : Eli} (h : x.rx = old.rx) : x.cleared old = x := by
  rw [Eli.cleared, h]
  cases old.rx.lol <;> cases old.rx.lof <;> rfl

variable {p : Nat}

/-- What follows from a port's defects leaves it as it was set. -/
theorem State.eliSet_line (s : State) (p : Nat) (x : Eli) : SameLine (s.setEli p (x.cleared (s.eliPort p))) (s.eliSet p x) := by
  have posted (y : Eli) : SameLine (s.setEli p y) (if (s.eliPort p).defects = y.defects then s.setEli p y
      else (s.setEli p y).eventTo ((s.setEli p y).owner 1 p) 0x03F1 (p + 256 * y.defects) 0) :=
    .ite (.refl _) (.eventTo (.refl _))
  exact .ite (.eliConds (posted _)) (posted _)

theorem State.eliSet_eliPort (s : State) (p : Nat) (x : Eli) : (s.eliSet p x).eliPort p = x.cleared (s.eliPort p) :=
  ((s.eliSet_line p x).eliPort p).trans (State.setEli_same _ _ _)

/-- A port that is set with its receiver as it was. -/
theorem State.eliSet_tx {x : Eli} (h : x.rx = (s.eliPort p).rx) : SameLine (s.setEli p x) (s.eliSet p x) := by
  have line := s.eliSet_line p x
  rwa [Eli.cleared_same h] at line

end Sys2Proof.Machine
end


section
/-! SUPPORT for O14. The receive direction of an ELI port (R130, R133, R138) and the express groups (R152). -/

namespace Sys2Proof.Machine

set_option Elab.async false

variable {s : State} {t p port lane offset mfas dst group : Nat} {m : LaneMarker} {f : EliFrame}

theorem State.eliOn_of (hpers : (s.port p).personality = .eli) (hen : (s.port p).enable = true) : s.eliOn p = true := by
  simp [State.eliOn, hpers, hen]

/-! ### Lane markers (R130) -/

/-- The second good marker of a lane in a row, where it is due, locks the lane. -/
theorem EliLane.marker_locks (l : EliLane) (now : Nat) (hpattern : m.pattern = 0xC61F935A2D78) (hlane : m.lane + m.laneInv = 255)
    (hline : m.lineBits = 136000) (hgood : l.good ≠ 0) : l.marker m now =
      { l with locked := true, good := 1, bad := 0, lane := m.lane, groupCount := m.groupCount, skewNs := m.skewNs, markAt := now } := by
  have good : goodMarker m = true := by simp [goodMarker, lmPattern, hpattern, hlane]
  rw [EliLane.marker, if_pos (by simp [good, hline])]
  simp [hgood, hline]

theorem exec_eliLaneMarker (hon : (s.at_ t).eliOn port = true) (hlane : lane < 8) :
    ∃ s', exec (.eliLaneMarker t port lane m) s = .next s' ∧ (s'.eliPort port).rx.lanes =
      put ((s.at_ t).eliPort port).rx.lanes lane {}
        ((look ((s.at_ t).eliPort port).rx.lanes lane {}).marker m (s.at_ t).now) := by
  refine ⟨_, congrArg Host.Outcome.next (if_neg (by simp [hon, hlane])), ?_⟩
  dsimp only
  rw [State.eliSet_eliPort]
  obtain ⟨d, hd⟩ := Eli.cleared_eq _ _
  rw [hd]

/-! ### Frame alignment (R138) -/

/-- A change of the receiver: the receiver, and an entry into HUNT counted. -/
theorem State.eliRx_eliPort (s : State) (p : Nat) (rx : EliRx) : ((s.eliRx p rx).eliPort p).rx = rx ∧
    ((s.eliRx p rx).eliPort p).counters =
      if ((s.eliPort p).rx.inFrame && !rx.inFrame) = true then bump (s.eliPort p).counters 2 1 else (s.eliPort p).counters := by
  unfold State.eliRx
  rw [State.eliSet_eliPort]
  obtain ⟨d, hd⟩ := Eli.cleared_eq _ _
  rw [hd]
  exact ⟨rfl, rfl⟩

/-- The third match of a candidate in a row, with MFAS counting up, is IN_FRAME. -/
theorem EliRx.faw_third {x : EliRx} {k : Nat} {a b : List EliCand} (hhunt : x.inFrame = false)
    (hcands : x.cands = a ++ { offset := offset, count := 2, mfas := k } :: b) (hfirst : ∀ c, c ∈ a → c.offset ≠ offset)
    (hmfas : mfas = (k + 1) % 256) : x.faw offset mfas =
      { x with inFrame := true, lof := false, cands := [], badCount := 0, nextMfas := (mfas + 1) % 256, offset := offset } := by
  have found : x.cands.find? (fun c => decide (c.offset = offset)) = some { offset := offset, count := 2, mfas := k } := by
    rw [hcands, List.find?_append, List.find?_eq_none.2 (by simpa using hfirst), Option.none_or, List.find?_cons_of_pos (by simp)]
  rw [EliRx.faw, hhunt, if_neg Bool.false_ne_true, found]
  simp [hmfas]

theorem exec_eliFawMatch (hon : (s.at_ t).eliOn port = true) : exec (.eliFawMatch t port offset mfas) s =
    .next ((s.at_ t).eliRx port (((s.at_ t).eliPort port).rx.faw offset mfas)) :=
  congrArg Host.Outcome.next (if_pos hon)

/-- The fifth bad frame position in a row is HUNT. -/
theorem EliRx.badFrame_fifth {x : EliRx} (h : x.badCount = 4) :
    x.badFrame = EliRx.hunt { x with badCount := x.badCount + 1, nextMfas := (x.nextMfas + 1) % 256 } :=
  if_pos (by simp [h])

theorem EliRx.badFrame_early {x : EliRx} (h : x.badCount < 4) :
    x.badFrame = { x with badCount := x.badCount + 1, nextMfas := (x.nextMfas + 1) % 256 } :=
  if_neg (Nat.not_le.2 (Nat.succ_lt_succ h))

theorem exec_eliFawNotFound (hon : (s.at_ t).eliOn port = true) (hin : ((s.at_ t).eliPort port).rx.inFrame = true)
    (hoffset : offset = ((s.at_ t).eliPort port).rx.offset) : exec (.eliFawNotFound t port offset) s =
      .next ((s.at_ t).eliRx port ((s.at_ t).eliPort port).rx.badFrame) :=
  congrArg Host.Outcome.next ((if_neg (by simp [hon])).trans ((if_pos hin).trans (if_pos hoffset)))

/-! ### Received frames (R133, R139, R142, R145) -/

/-- What a receiver has of the last good frame's capacities, and its alignment. -/
def EliRx.seen (x : EliRx) : Nat × Nat × Bool := (x.frameCap, x.modemCap, x.inFrame)

/-- What a bad frame leaves of a port, with its count of bad frames. -/
def Eli.kept (x : Eli) : (Nat × Nat × Bool) × Option EliPending × Nat := (x.rx.seen, x.tx.pending, look x.counters 1 0)

theorem Eli.kept_bump (x : Eli) (rx : EliRx) (n : Nat) (h : rx.seen = x.rx.seen) :
    Eli.kept { x with rx := rx, counters := bump x.counters 7 n } = x.kept := by
  unfold Eli.kept bump
  rw [h, look_put_ne _ (by decide)]

theorem Eli.multiframe_kept (x : Eli) : x.multiframe.kept = x.kept := by
  unfold Eli.multiframe
  cases x.nextRx <;> rfl

theorem Eli.multiframeEnd_kept (x : Eli) : x.multiframeEnd.kept = x.kept := by
  unfold Eli.multiframeEnd
  dsimp only
  generalize (if (x.rx.lowAll && decide (x.rx.lowFrames ≠ 0)) = true then x.rx.lowMulti + 1 else 0) = n
  split <;> rfl

theorem Eli.checkTests_kept (x : Eli) (frame : Bytes) : (x.checkTests frame).kept = x.kept :=
  List.foldlRecOn (motive := fun y : Eli => y.kept = x.kept) _ _ rfl fun y h _ _ => (y.kept_bump _ _ rfl).trans h

theorem Eli.slotsIn_kept (x : Eli) (frame : Bytes) : (x.slotsIn frame).1.kept = x.kept :=
  (Eli.checkTests_kept _ _).trans (Eli.kept_bump _ _ _ rfl)

theorem EliRx.slmFrame_seen (x : EliRx) (types : Sparse Nat) (mfas label : Nat) : (x.slmFrame types mfas label).seen = x.seen := by
  unfold EliRx.slmFrame
  dsimp only
  repeat' split
  all_goals rfl

theorem EliRx.announce_seen (x : EliRx) (next left : Nat) : (x.announce next left).seen = x.seen := by
  unfold EliRx.announce
  split <;> rfl

theorem Eli.accept_rx (x : Eli) (next k : Nat) : (x.accept next k).rx = x.rx := by
  unfold Eli.accept
  dsimp only
  repeat' split
  all_goals rfl

/-- A good overhead sets FRAME_CAP and CAP_NOW. -/
theorem Eli.goodFrame_seen (x : Eli) (o : Bytes) (mfas : Nat) :
    (x.goodFrame o mfas).rx.seen = (byteAt o 9, byteAt o 10, x.rx.inFrame) := by
  unfold Eli.goodFrame
  dsimp only
  split
  · rw [Eli.accept_rx, EliRx.announce_seen, EliRx.slmFrame_seen]
    rfl
  · rw [EliRx.announce_seen, EliRx.slmFrame_seen]
    rfl

/-- A frame after its overhead: its slots and the end of its multiframe leave what `Eli.kept` has. -/
theorem Eli.frameEnd_kept (x : Eli) (frame : Bytes) (c : Prop) [Decidable c] :
    (if c then (x.slotsIn frame).1.multiframeEnd else (x.slotsIn frame).1).kept = x.kept := by
  split
  · exact (Eli.multiframeEnd_kept _).trans (x.slotsIn_kept frame)
  · exact x.slotsIn_kept frame

theorem Eli.frameBegin_kept (x : Eli) (c : Prop) [Decidable c] : (if c then x.multiframe else x).kept = x.kept := by
  split
  · exact x.multiframe_kept
  · rfl

theorem Eli.frame_good (x : Eli) (f : EliFrame) (h : goodOverhead ((framePlain f).take 64) = true) :
    (x.frame f).1.rx.seen = (byteAt ((framePlain f).take 64) 9, byteAt ((framePlain f).take 64) 10, x.rx.inFrame) := by
  unfold Eli.frame
  dsimp only
  rw [if_pos h]
  refine (congrArg Prod.fst (Eli.frameEnd_kept _ _ _)).trans ?_
  refine (Eli.goodFrame_seen _ _ _).trans ?_
  exact congrArg (fun k => (_, _, k.1.2.2)) (x.frameBegin_kept ((x.rx.nextMfas + 255) % 256 = 0))

theorem Eli.frame_bad (x : Eli) (f : EliFrame) (h : goodOverhead ((framePlain f).take 64) = false) :
    (x.frame f).1.kept = (x.rx.seen, x.tx.pending, (look x.counters 1 0 + 1) % 2 ^ 64) := by
  unfold Eli.frame
  dsimp only
  rw [h, if_neg Bool.false_ne_true]
  refine (Eli.frameEnd_kept _ _ _).trans ?_
  have begun := x.frameBegin_kept ((x.rx.nextMfas + 255) % 256 = 0)
  generalize (if (x.rx.nextMfas + 255) % 256 = 0 then x.multiframe else x) = y at begun
  refine Eq.trans ?_ (congrArg (fun k => (k.1, k.2.1, (k.2.2 + 1) % 2 ^ 64)) begun)
  exact congrArg (fun n => (y.rx.seen, y.tx.pending, n)) (look_put_same _ _ _ _)

theorem exec_eliFrameReceive (hon : (s.at_ t).eliOn port = true) (hin : ((s.at_ t).eliPort port).rx.inFrame = true) :
    ∃ s' d, exec (.eliFrameReceive t port f) s = .next s' ∧ s'.eliPort port = { (((s.at_ t).eliPort port).frame f).1 with
      tx := { (((s.at_ t).eliPort port).frame f).1.tx with firstDue := d } } := by
  generalize hr : ((s.at_ t).eliPort port).frame f = r
  have row : exec (.eliFrameReceive t port f) s = .next
      (((each (fun p s => State.macReceive s port (macFrame p)) r.2 (s.at_ t)).eliSet port r.1).expressIn port (framePlain f)) := by
    subst hr
    exact congrArg Host.Outcome.next (if_pos (by simp [hon, hin]))
  have fed (a : State) : (a.expressIn port (framePlain f)).eliPort port = a.eliPort port :=
    (SameLine.expressIn (.refl a)).eliPort port
  obtain ⟨d, hd⟩ := r.1.cleared_eq ((each (fun p s => State.macReceive s port (macFrame p)) r.2 (s.at_ t)).eliPort port)
  exact ⟨_, d, row, (fed _).trans ((State.eliSet_eliPort _ _ _).trans hd)⟩

/-! ### Express groups (R152) -/

theorem exec_eliExpressReplace {g : Express} (hg : (s.at_ t).express (dst * 128 + group) = g) (hgroup : group < 128)
    (hlive : g.live = true) (hplain : g.replaced = false) (hbad : (s.at_ t).expressBad g = true) :
    exec (.eliExpressReplace t dst group) s = .next (((s.at_ t).setExpress (dst * 128 + group)
      { g with replaced := true, store := [], running := false, mid := false }).expressAlarm (dst * 128 + group) 1 0) := by
  subst hg
  exact congrArg Host.Outcome.next (if_pos (by simp [hgroup, hlive, hplain, hbad]))

theorem exec_eliExpressRestore {g : Express} (hg : (s.at_ t).express (dst * 128 + group) = g) (hgroup : group < 128)
    (hlive : g.live = true) (hreplaced : g.replaced = true) (hgood : (s.at_ t).expressBad g = false)
    (hstore : g.active = false ∨ g.lost = true ∨ slotBlks * g.count ≤ g.store.length) :
    exec (.eliExpressRestore t dst group) s = .next (((s.at_ t).setExpress (dst * 128 + group)
      { g with replaced := false }).expressAlarm (dst * 128 + group) 0 0) := by
  subst hg
  exact congrArg Host.Outcome.next (if_pos (by simp [hgroup, hlive, hreplaced, hgood, or_assoc, hstore]))

end Sys2Proof.Machine
end


section
/-! SUPPORT for O14. The capacity of an ELI port at a transmit frame (R136, R142–R147). -/

namespace Sys2Proof.Machine

set_option Elab.async false

variable {s : State} {p r new : Nat}

/-! ### A switch and a hold-down (R144, R147) -/

/-- An ELI port that switches to a capacity. -/
def Eli.switched (x : Eli) (new : Nat) : Eli :=
  { x with counters := bump x.counters 3 1,
           tx := { x.tx with cap := new, sinceSwitch := 0, capLow := new < x.cfg.capMin || (slotsBelow x.types 1 new).length = 0 } }

theorem State.eliSwitch_line (s : State) (p new : Nat) (safety : Bool) :
    SameLine (s.setEli p ((s.eliPort p).switched new)) (s.eliSwitch p new safety) :=
  .eventTo (.trans (.setEli (.set (.refl s)) _ _) (State.eliSet_tx (s := State.setNode _ _ _) rfl))

/-- An ELI port with one more hold-down event. -/
def Eli.heldDown (x : Eli) (l : List Nat) : Eli := { x with counters := bump x.counters 6 1, tx := { x.tx with holdDowns := l } }

theorem State.eliHoldDown_line (s : State) (p : Nat) : ∃ l, SameLine (s.setEli p ((s.eliPort p).heldDown l)) (s.eliHoldDown p) :=
  ⟨_, .ite (.eventTo (.refl _)) (.refl _)⟩

/-! ### What waits for MFAS 0 (R137, R147) -/

/-- A frame with MFAS 0 for which no table and no fields wait moves at most the mark of a low capacity. -/
theorem State.eliApply_line (htypes : (s.eliPort p).nextTypes = none) (hcfg : (s.eliPort p).nextCfg = none) :
    ∃ low, SameLine (s.setEli p { s.eliPort p with tx := { (s.eliPort p).tx with capLow := low } }) (s.eliApply p) := by
  unfold State.eliApply
  simp only [htypes, hcfg]
  exact ⟨_, .trans (.setEli (.set (.refl s)) _ _) (State.eliSet_tx (s := State.setNode _ _ _) rfl)⟩

theorem State.eliLower_within (h : (s.eliPort p).tx.cap ≤ (s.eliPort p).cfg.capMax) : s.eliLower p = s :=
  if_neg (Nat.not_lt.2 h)

/-! ### The pending change (R142, R144, R147) -/

/-- A port counts the multiframes since its last switch, up to 255. -/
def Eli.counted (x : Eli) : Eli := { x with tx := { x.tx with sinceSwitch := min (x.tx.sinceSwitch + 1) 255 } }

/-- A port whose pending change is `c`. -/
def Eli.withPending (x : Eli) (c : Option EliPending) : Eli := { x with tx := { x.tx with pending := c } }

/-- The countdown of a pending change to a capacity ends with this frame, and nothing else is due: the receiver has no defect, cap_max lies
at or above both capacities, and neither a safety switch nor the first one waits. -/
structure PendingDue (x : Eli) (r new : Nat) : Prop where
  cap : x.tx.cap ≤ x.cfg.capMax
  inFrame : x.rx.inFrame = true
  lol : x.rx.lol = false
  lof : x.rx.lof = false
  safety : x.tx.safetyDue = false
  first : x.tx.firstDue = false
  follow : x.cfg.follow = false
  pending : x.tx.pending = some { raw := r, cap := new, left := 1 }
  max : new ≤ x.cfg.capMax

theorem PendingDue.counted {x : Eli} (h : PendingDue x r new) : PendingDue x.counted r new :=
  ⟨h.cap, h.inFrame, h.lol, h.lof, h.safety, h.first, h.follow, h.pending, h.max⟩

/-- A change whose countdown ends is applied once four multiframes have passed since the last switch. -/
theorem State.eliPendingFrame_switch (h : PendingDue (s.eliPort p) r new) (hnew : new ≠ (s.eliPort p).tx.cap)
    (hsince : 4 ≤ (s.eliPort p).tx.sinceSwitch) :
    ∃ c, SameLine (s.setEli p ((((s.eliPort p).withPending c).switched new).withPending none)) (s.eliPendingFrame p) := by
  generalize hx : s.eliPort p = x at *
  refine ⟨some { raw := r, cap := new, left := 0 }, ?_⟩
  generalize ha : s.setEli p (x.withPending (some { raw := r, cap := new, left := 0 })) = a
  have port : a.eliPort p = x.withPending (some { raw := r, cap := new, left := 0 }) := by rw [← ha, State.setEli_same]
  have line := a.eliSwitch_line p new false
  rw [port] at line
  have row : s.eliPendingFrame p = (a.eliSwitch p new false).setEli p (((a.eliSwitch p new false).eliPort p).withPending none) := by
    unfold State.eliPendingFrame
    simp [hx, h.pending, h.follow, Nat.min_eq_right h.max, hnew, Nat.not_lt.2 hsince, ← ha, Eli.withPending]
  rw [row, line.eliPort p, State.setEli_same]
  have later (y z : Eli) : SameLine (s.setEli p z) ((a.setEli p y).setEli p z) :=
    ha ▸ .trans (.setEli_twice s p _ z) (.setEli_twice _ p y z)
  exact (later _ _).trans (line.setEli p _)

/-- Within four multiframes of the last switch a rise waits, and is a hold-down event. -/
theorem State.eliPendingFrame_deferred (h : PendingDue (s.eliPort p) r new) (hnew : (s.eliPort p).tx.cap < new)
    (hsince : (s.eliPort p).tx.sinceSwitch < 4) :
    ∃ l, SameLine (s.setEli p (((s.eliPort p).withPending (some { raw := r, cap := new, left := 0 })).heldDown l))
      (s.eliPendingFrame p) := by
  generalize hx : s.eliPort p = x at *
  generalize ha : s.setEli p (x.withPending (some { raw := r, cap := new, left := 0 })) = a
  have port : a.eliPort p = x.withPending (some { raw := r, cap := new, left := 0 }) := by rw [← ha, State.setEli_same]
  obtain ⟨l, line⟩ := a.eliHoldDown_line p
  rw [port] at line
  have row : s.eliPendingFrame p = a.eliHoldDown p := by
    unfold State.eliPendingFrame
    simp [hx, h.pending, h.follow, Nat.min_eq_right h.max, Nat.ne_of_gt hnew, hnew, hsince, ← ha, Eli.withPending]
  rw [row]
  exact ⟨l, .trans (ha ▸ SameLine.setEli_twice s p _ _) line⟩

/-! ### The capacity's part of a frame start (R145, R146) -/

/-- The receiver holds the capacity: dLOL, dLOF or HUNT. -/
def EliRx.holds (x : EliRx) : Bool := x.lol || x.lof || !x.inFrame

/-- What a frame with MFAS 0 does to the capacity: a lower cap_max, and unless the receiver holds it the first switch after IN_FRAME and the
pending change. -/
def State.eliZeroFrame (s : State) (p : Nat) (held : Bool) : State :=
  let s := (s.setEli p (s.eliPort p).counted).eliLower p
  if held then s
  else
    let y := s.eliPort p
    let s := if y.tx.firstDue then
        (s.setEli p { y with tx := { y.tx with firstDue := false } }).eliSwitch p (min y.rx.modemCap y.cfg.capMax) false
      else s
    s.eliPendingFrame p

theorem State.eliCapacity_calm (mfas : Nat) (h : ((s.eliPort p).tx.safetyDue && !(s.eliPort p).rx.holds) = false) :
    s.eliCapacity p mfas = if mfas ≠ 0 then s else s.eliZeroFrame p (s.eliPort p).rx.holds := by
  unfold EliRx.holds at h
  unfold State.eliCapacity
  dsimp only
  rw [h, if_neg Bool.false_ne_true]
  rfl

/-- Off MFAS 0 nothing changes where no safety switch is due. -/
theorem State.eliCapacity_within {mfas : Nat} (hmfas : mfas ≠ 0) (hsafety : (s.eliPort p).tx.safetyDue = false) :
    s.eliCapacity p mfas = s :=
  (State.eliCapacity_calm mfas (by rw [hsafety, Bool.false_and])).trans (if_pos hmfas)

theorem State.eliLower_counted (h : (s.eliPort p).tx.cap ≤ (s.eliPort p).cfg.capMax) :
    (s.setEli p (s.eliPort p).counted).eliLower p = s.setEli p (s.eliPort p).counted :=
  State.eliLower_within (by rw [State.setEli_same]; exact h)

/-- While dLOL or dLOF holds the capacity is kept. -/
theorem State.eliCapacity_held (mfas : Nat) (hcap : (s.eliPort p).tx.cap ≤ (s.eliPort p).cfg.capMax)
    (hheld : (s.eliPort p).rx.lol = true ∨ (s.eliPort p).rx.lof = true) :
    s.eliCapacity p mfas = s ∨ s.eliCapacity p mfas = s.setEli p (s.eliPort p).counted := by
  have held : (s.eliPort p).rx.holds = true := by
    rcases hheld with h | h <;> simp [EliRx.holds, h]
  rw [State.eliCapacity_calm mfas (by rw [held, Bool.not_true, Bool.and_false]), held]
  by_cases hmfas : mfas ≠ 0
  · exact .inl (if_pos hmfas)
  · exact .inr ((if_neg hmfas).trans (State.eliLower_counted hcap))

/-- At MFAS 0, with nothing else due, the capacity is left to the pending change. -/
theorem State.eliCapacity_pending (h : PendingDue (s.eliPort p) r new) :
    s.eliCapacity p 0 = (s.setEli p (s.eliPort p).counted).eliPendingFrame p := by
  have free : (s.eliPort p).rx.holds = false := by simp [EliRx.holds, h.lol, h.lof, h.inFrame]
  rw [State.eliCapacity_calm 0 (by rw [h.safety, Bool.false_and]), free, if_neg (by decide), State.eliZeroFrame,
    State.eliLower_counted h.cap, State.setEli_same]
  exact (if_neg Bool.false_ne_true).trans (congrArg (State.eliPendingFrame · p) (if_neg (by rw [h.counted.first]; decide)))

theorem State.eliCapacity_switch (h : PendingDue (s.eliPort p) r new) (hnew : new ≠ (s.eliPort p).tx.cap)
    (hsince : 3 ≤ (s.eliPort p).tx.sinceSwitch) :
    ∃ c, (s.eliCapacity p 0).eliPort p = (((s.eliPort p).counted.withPending c).switched new).withPending none := by
  have counted : (s.setEli p (s.eliPort p).counted).eliPort p = (s.eliPort p).counted := State.setEli_same _ _ _
  have since : 4 ≤ (s.eliPort p).counted.tx.sinceSwitch := Nat.le_min.2 ⟨Nat.succ_le_succ hsince, by decide⟩
  obtain ⟨c, line⟩ := State.eliPendingFrame_switch (s := s.setEli p (s.eliPort p).counted) (p := p) (r := r) (new := new)
    (by rw [counted]; exact h.counted) (by rw [counted]; exact hnew) (by rw [counted]; exact since)
  rw [counted] at line
  exact ⟨c, by rw [State.eliCapacity_pending h, line.eliPort, State.setEli_same]⟩

theorem State.eliCapacity_deferred (h : PendingDue (s.eliPort p) r new) (hnew : (s.eliPort p).tx.cap < new)
    (hsince : (s.eliPort p).tx.sinceSwitch < 3) : ∃ l, (s.eliCapacity p 0).eliPort p =
      ((s.eliPort p).counted.withPending (some { raw := r, cap := new, left := 0 })).heldDown l := by
  have counted : (s.setEli p (s.eliPort p).counted).eliPort p = (s.eliPort p).counted := State.setEli_same _ _ _
  have since : (s.eliPort p).counted.tx.sinceSwitch < 4 := Nat.lt_of_le_of_lt (Nat.min_le_left _ _) (Nat.succ_lt_succ hsince)
  obtain ⟨l, line⟩ := State.eliPendingFrame_deferred (s := s.setEli p (s.eliPort p).counted) (p := p) (r := r) (new := new)
    (by rw [counted]; exact h.counted) (by rw [counted]; exact hnew) (by rw [counted]; exact since)
  rw [counted] at line
  exact ⟨l, by rw [State.eliCapacity_pending h, line.eliPort, State.setEli_same]⟩

end Sys2Proof.Machine
end


section
/-! SUPPORT for O14. The frame that an ELI port sends (R129, R131–R134): its length, its alignment word, and what it leaves of the
transmitter. -/

namespace Sys2Proof.Machine

set_option Elab.async false

variable {s : State} {p : Nat}

/-! ### Lengths -/

theorem length_beBytes (n v : Nat) : (beBytes n v).length = n := by
  rw [beBytes, List.length_reverse, length_leBytes]

theorem length_slotBytes (l : List Blk) : (slotBytes l).length = 1000 := length_beBytes _ _

theorem length_prbs31Add (b : Bytes) (g : Nat) : (prbs31Add g b).length = b.length := by
  induction b generalizing g with
  | nil => rfl
  | cons x b ih => rw [prbs31Add, List.length_cons, ih, List.length_cons]

theorem length_scramble (b : Bytes) : (scramble b).length = b.length := by
  rw [scramble, List.length_append, length_prbs31Add, ← List.length_append, List.take_append_drop]

/-- The scrambler leaves the alignment word (R132). -/
theorem take_scramble {b : Bytes} (h : 7 ≤ b.length) : (scramble b).take 6 = b.take 6 := by
  rw [scramble, List.take_append_of_le_length (by rw [List.length_take]; omega), List.take_take, Nat.min_eq_left (by decide)]

theorem State.eliOverhead_eq (s : State) (p mfas : Nat) :
    ∃ l : Bytes, l.length = 58 ∧ s.eliOverhead p mfas = beBytes 6 0xE71CD9264BB4 ++ l := by
  unfold State.eliOverhead
  dsimp only
  exact ⟨_, by simp only [List.length_append, length_leBytes, length_beBytes], List.append_assoc _ _ _⟩

/-- The content of each EXPRESS slot fills it. -/
theorem State.expressOut_slots (s : State) (p : Nat) : ∀ r ∈ (s.expressOut p).1, r.2.length = 1000 :=
  List.foldlRecOn (motive := fun a : List (Nat × Bytes) × State => ∀ r ∈ a.1, r.2.length = 1000) _ _ (by simp) fun a h g _ r hr => by
    rcases List.mem_append.1 hr with hr | hr
    · exact h r hr
    · obtain ⟨i, -, rfl⟩ := List.mem_map.1 hr
      dsimp only
      exact length_slotBytes _

/-! ### The slots of a frame (R134) -/

/-- A transmitter beside its buffer and its test generators. -/
def EliTx.head (x : EliTx) : EliTx := { x with blocks := [], prbs := [] }

theorem EliTx.local_head (x : EliTx) (sends : LineSignal) (n : Nat) : (x.local_ sends n).2.head = x.head := by
  cases sends <;> rfl

theorem EliTx.length_test (x : EliTx) (i : Nat) : (x.test i).1.length = 1000 := by
  unfold EliTx.test
  dsimp only
  rw [length_beBytes]

theorem EliTx.test_head (x : EliTx) (i : Nat) : (x.test i).2.head = x.head := by
  unfold EliTx.test
  dsimp only [EliTx.head]

section
variable {types : Sparse Nat} {cap : Nat} {express : List (Nat × Bytes)} (hexpress : ∀ r ∈ express, r.2.length = 1000)
include hexpress

/-- A slot is 1,000 bytes behind the bytes so far, and takes of the transmitter only blocks and test bits. -/
theorem EliTx.slot_appends (a : Bytes × List Blk × EliTx) (i : Nat) :
    ∃ z : Bytes, z.length = 1000 ∧ (EliTx.slot types cap express a i).1 = a.1 ++ z ∧
      (EliTx.slot types cap express a i).2.2.head = a.2.2.head := by
  unfold EliTx.slot
  split
  · exact ⟨_, List.length_replicate, rfl, rfl⟩
  · exact ⟨_, length_slotBytes _, rfl, rfl⟩
  · exact ⟨_, EliTx.length_test a.2.2 i, rfl, EliTx.test_head a.2.2 i⟩
  · split
    · rename_i hfind
      exact ⟨_, hexpress _ (List.mem_of_find?_eq_some hfind), rfl, rfl⟩
    · exact ⟨_, List.length_replicate, rfl, rfl⟩

theorem EliTx.slots_append (l : List Nat) (a : Bytes × List Blk × EliTx) :
    ∃ z : Bytes, z.length = 1000 * l.length ∧ (l.foldl (EliTx.slot types cap express) a).1 = a.1 ++ z ∧
      (l.foldl (EliTx.slot types cap express) a).2.2.head = a.2.2.head := by
  induction l generalizing a with
  | nil => exact ⟨[], rfl, (List.append_nil _).symm, rfl⟩
  | cons i l ih =>
    obtain ⟨y, hy, hbytes, htx⟩ := EliTx.slot_appends (types := types) (cap := cap) hexpress a i
    obtain ⟨z, hz, hbytes', htx'⟩ := ih (EliTx.slot types cap express a i)
    refine ⟨y ++ z, ?_, ?_, htx'.trans htx⟩
    · rw [List.length_append, hy, hz, List.length_cons]
      omega
    · rw [List.foldl_cons, hbytes', hbytes, List.append_assoc]

end

/-! ### A frame that leaves -/

/-- An ELI port when a frame has left. -/
def Eli.sent (x : Eli) (z : EliTx) (mfas bip : Nat) : Eli :=
  { x with tx := { z with mfas := (mfas + 1) % 256, groupCount := (x.tx.groupCount + 1) % 65536, bip := bip } }

/-- A frame of 128,064 bytes leaves over the port's lanes, and MFAS counts up. -/
theorem State.eliSend_frame (s : State) (p mfas : Nat) : ∃ (z : EliTx) (bip : Nat) (frame : Bytes), z.head = (s.eliPort p).tx.head ∧
    (s.eliSend p mfas).eliPort p = (s.eliPort p).sent z mfas bip ∧
    frame.length = 128064 ∧ frame.take 6 = beBytes 6 0xE71CD9264BB4 ∧
    .eli p (frameLanes (s.port p).firstLane (s.eliPort p).tx.groupCount frame) ∈ (s.eliSend p mfas).host.out := by
  have line : SameLine s (s.expressOut p).2 := .expressOut (.refl s)
  have full := s.expressOut_slots p
  obtain ⟨o, ho, hover⟩ := s.eliOverhead_eq p mfas
  unfold State.eliSend
  dsimp only
  generalize s.expressOut p = e at line full
  generalize hl : (e.2.eliPort p).tx.local_ (e.2.port p).state.sends
    (slotBlks * (slotsBelow (e.2.eliPort p).types 1 (e.2.eliPort p).tx.frameCap).length) = l
  obtain ⟨z, hz, hbytes, htx⟩ := EliTx.slots_append (types := (e.2.eliPort p).types) (cap := (e.2.eliPort p).tx.frameCap) full
    (List.range 128) (s.eliOverhead p mfas, l.1, l.2)
  generalize (List.range 128).foldl (EliTx.slot (e.2.eliPort p).types (e.2.eliPort p).tx.frameCap e.1)
    (s.eliOverhead p mfas, l.1, l.2) = r at hbytes htx
  have sent := State.eliSet_tx (s := e.2) (p := p) (x := (e.2.eliPort p).sent r.2.2 mfas (bip8 ((scramble r.1).drop 64))) rfl
  have length : r.1.length = 128064 := by
    rw [hbytes, hover, List.length_append, List.length_append, length_beBytes, ho, hz, List.length_range]
  refine ⟨r.2.2, bip8 ((scramble r.1).drop 64), scramble r.1, ?_, ?_, (length_scramble _).trans length, ?_, ?_⟩
  · rw [htx, ← hl, EliTx.local_head, line.eliPort]
  · exact (sent.eliPort p).trans ((State.setEli_same _ _ _).trans (by rw [line.eliPort]))
  · rw [take_scramble (by omega), hbytes, hover, List.append_assoc, List.take_append_of_le_length (Nat.le_of_eq (length_beBytes _ _).symm),
      List.take_of_length_le (Nat.le_of_eq (length_beBytes _ _))]
  · refine List.mem_append_right _ (List.mem_singleton.2 ?_)
    rw [← line.firstLane p, ← line.eliPort p]
    exact congrArg (fun n => Out.eli p (frameLanes n _ _)) (sent.firstLane p).symm

/-- The groups of a port and its backward defect, as a frame is about to leave. -/
def State.eliFramed (s : State) (p mfas : Nat) : State :=
  let s := s.expressFrame p (s.eliPort p).tx.cap (mfas = 0)
  let x := s.eliPort p
  s.eliSet p { x with tx := { x.tx with bdi := x.rx.lol || x.rx.lof || s.laneDown p } }

theorem State.eliFramed_line (s : State) (p mfas : Nat) : ∃ d, SameLine (s.setEli p { s.eliPort p with tx := { (s.eliPort p).tx with
    bdi := (s.eliPort p).rx.lol || (s.eliPort p).rx.lof || d } }) (s.eliFramed p mfas) := by
  unfold State.eliFramed
  dsimp only
  have line : SameLine s (s.expressFrame p (s.eliPort p).tx.cap (mfas = 0)) := .expressFrame (.refl s)
  generalize s.expressFrame p (s.eliPort p).tx.cap (mfas = 0) = a at line
  rw [← line.eliPort p]
  exact ⟨a.laneDown p, (line.setEli p _).trans (State.eliSet_tx rfl)⟩

/-- What a frame that leaves does to an ELI port. -/
structure FrameLeaves (mfas : Nat) (x y : Eli) : Prop where
  counters : y.counters = x.counters
  cap : y.tx.cap = x.tx.cap
  pending : y.tx.pending = x.tx.pending
  since : y.tx.sinceSwitch = x.tx.sinceSwitch
  mfas : y.tx.mfas = (mfas + 1) % 256
  bdi : x.rx.lol = true ∨ x.rx.lof = true → y.tx.bdi = true

/-- The last part of a transmit frame start. -/
theorem State.eliFramed_leaves (s : State) (p mfas : Nat) :
    FrameLeaves mfas (s.eliPort p) (((s.eliFramed p mfas).eliSend p mfas).eliPort p) ∧
    ∃ frame : Bytes, frame.length = 128064 ∧ frame.take 6 = beBytes 6 0xE71CD9264BB4 ∧
      .eli p (frameLanes (s.port p).firstLane (s.eliPort p).tx.groupCount frame) ∈ ((s.eliFramed p mfas).eliSend p mfas).host.out := by
  obtain ⟨d, line⟩ := s.eliFramed_line p mfas
  obtain ⟨z, bip, frame, hz, hport, hlength, hfaw, hout⟩ := (s.eliFramed p mfas).eliSend_frame p mfas
  rw [line.eliPort, State.setEli_same] at hz hport hout
  rw [line.firstLane] at hout
  refine ⟨?_, frame, hlength, hfaw, hout⟩
  rw [hport]
  exact {
    counters := rfl
    cap := (congrArg EliTx.cap hz :)
    pending := (congrArg EliTx.pending hz :)
    since := (congrArg EliTx.sinceSwitch hz :)
    mfas := rfl
    bdi := fun h => (congrArg EliTx.bdi hz :).trans (by rcases h with h | h <;> simp [EliTx.head, h]) }

end Sys2Proof.Machine
end


section
/-! SUPPORT for O14. A transmit frame start (R140, R147, R148), and the obligation. -/

namespace Sys2Proof.Machine

set_option Elab.async false

variable {s : State} {t p port r new : Nat}

/-- A transmit frame of an enabled port: what waits for MFAS 0, the capacity, the groups, the frame. -/
theorem exec_eliTxFrameStart {mfas : Nat} (hon : (s.at_ t).eliOn port = true) (hmfas : ((s.at_ t).eliPort port).tx.mfas = mfas) :
    exec (.eliTxFrameStart t port) s = .next ((((if mfas = 0 then (s.at_ t).eliApply port else s.at_ t).eliCapacity port mfas).eliFramed
      port mfas).eliSend port mfas) := by
  subst hmfas
  exact congrArg Host.Outcome.next (if_neg (by simp [hon]))

theorem PendingDue.lowered {x : Eli} {low : Bool} (h : PendingDue x r new) :
    PendingDue { x with tx := { x.tx with capLow := low } } r new :=
  ⟨h.cap, h.inFrame, h.lol, h.lof, h.safety, h.first, h.follow, h.pending, h.max⟩

/-- A port at MFAS 0 for which no slot table and no fields wait. -/
theorem State.eliApply_eliPort (htypes : (s.eliPort p).nextTypes = none) (hcfg : (s.eliPort p).nextCfg = none) :
    ∃ low, (s.eliApply p).eliPort p = { s.eliPort p with tx := { (s.eliPort p).tx with capLow := low } } := by
  obtain ⟨low, line⟩ := State.eliApply_line htypes hcfg
  exact ⟨low, (line.eliPort p).trans (State.setEli_same _ _ _)⟩

section
variable (hon : (s.at_ t).eliOn port = true) (hmfas : ((s.at_ t).eliPort port).tx.mfas = 0)
  (htypes : ((s.at_ t).eliPort port).nextTypes = none) (hcfg : ((s.at_ t).eliPort port).nextCfg = none)
  (h : PendingDue ((s.at_ t).eliPort port) r new)
include hon hmfas htypes hcfg h

/-- A change that is due is applied in the frame with MFAS 0. -/
theorem eliTxFrameStart_switch (hnew : new ≠ ((s.at_ t).eliPort port).tx.cap) (hsince : 3 ≤ ((s.at_ t).eliPort port).tx.sinceSwitch) :
    ∃ s' x, exec (.eliTxFrameStart t port) s = .next s' ∧ FrameLeaves 0 ((Eli.switched x new).withPending none) (s'.eliPort port) ∧
      x.counters = ((s.at_ t).eliPort port).counters := by
  obtain ⟨low, hport⟩ := State.eliApply_eliPort htypes hcfg
  obtain ⟨c, hcapacity⟩ := State.eliCapacity_switch (s := (s.at_ t).eliApply port) (p := port) (r := r) (new := new)
    (by rw [hport]; exact h.lowered) (by rw [hport]; exact hnew) (by rw [hport]; exact hsince)
  obtain ⟨leaves, -⟩ := (((s.at_ t).eliApply port).eliCapacity port 0).eliFramed_leaves port 0
  rw [hcapacity, hport] at leaves
  exact ⟨_, _, exec_eliTxFrameStart hon hmfas, leaves, rfl⟩

/-- A rise that is due too early waits, and is a hold-down event. -/
theorem eliTxFrameStart_deferred (hnew : ((s.at_ t).eliPort port).tx.cap < new)
    (hsince : ((s.at_ t).eliPort port).tx.sinceSwitch < 3) :
    ∃ s' x l, exec (.eliTxFrameStart t port) s = .next s' ∧
      FrameLeaves 0 ((Eli.withPending x (some { raw := r, cap := new, left := 0 })).heldDown l) (s'.eliPort port) ∧
      x.counters = ((s.at_ t).eliPort port).counters ∧ x.tx.cap = ((s.at_ t).eliPort port).tx.cap := by
  obtain ⟨low, hport⟩ := State.eliApply_eliPort htypes hcfg
  obtain ⟨l, hcapacity⟩ := State.eliCapacity_deferred (s := (s.at_ t).eliApply port) (p := port) (r := r) (new := new)
    (by rw [hport]; exact h.lowered) (by rw [hport]; exact hnew) (by rw [hport]; exact hsince)
  obtain ⟨leaves, -⟩ := (((s.at_ t).eliApply port).eliCapacity port 0).eliFramed_leaves port 0
  rw [hcapacity, hport] at leaves
  exact ⟨_, _, l, exec_eliTxFrameStart hon hmfas, leaves, rfl, rfl⟩

end

/-- While dLOL or dLOF holds, a frame is sent with the capacity as it was, and says so in its backward defect. -/
theorem eliTxFrameStart_held (hon : (s.at_ t).eliOn port = true) (htypes : ((s.at_ t).eliPort port).nextTypes = none)
    (hcfg : ((s.at_ t).eliPort port).nextCfg = none)
    (hcap : ((s.at_ t).eliPort port).tx.cap ≤ ((s.at_ t).eliPort port).cfg.capMax)
    (hdefect : ((s.at_ t).eliPort port).rx.lol = true ∨ ((s.at_ t).eliPort port).rx.lof = true) :
    ∃ s', exec (.eliTxFrameStart t port) s = .next s' ∧ (s'.eliPort port).tx.cap = ((s.at_ t).eliPort port).tx.cap ∧
      (s'.eliPort port).tx.bdi = true := by
  refine ⟨_, exec_eliTxFrameStart hon rfl, ?_⟩
  generalize ((s.at_ t).eliPort port).tx.mfas = mfas
  have applied : ∃ low, (if mfas = 0 then (s.at_ t).eliApply port else s.at_ t).eliPort port =
      { (s.at_ t).eliPort port with tx := { ((s.at_ t).eliPort port).tx with capLow := low } } := by
    split
    · exact State.eliApply_eliPort htypes hcfg
    · exact ⟨_, rfl⟩
  generalize (if mfas = 0 then (s.at_ t).eliApply port else s.at_ t) = a at applied
  obtain ⟨low, hport⟩ := applied
  have stays : ((a.eliCapacity port mfas).eliPort port).tx.cap = ((s.at_ t).eliPort port).tx.cap ∧
      ((a.eliCapacity port mfas).eliPort port).rx = ((s.at_ t).eliPort port).rx := by
    rcases State.eliCapacity_held mfas (by rw [hport]; exact hcap) (by rw [hport]; exact hdefect) with h | h
    · rw [h, hport]
      exact ⟨rfl, rfl⟩
    · rw [h, State.setEli_same, hport]
      exact ⟨rfl, rfl⟩
  obtain ⟨hkept, hrx⟩ := stays
  obtain ⟨leaves, -⟩ := (a.eliCapacity port mfas).eliFramed_leaves port mfas
  exact ⟨leaves.cap.trans hkept, leaves.bdi (by rw [hrx]; exact hdefect)⟩

/-- Settles O14: each clause is its row's rule above. A transmit frame start is followed through what waits for MFAS 0, the capacity, and the
frame that leaves. -/
theorem eliReceiveCompletes : Obligations.EliReceiveCompletes := by
  unfold Obligations.EliReceiveCompletes
  refine ⟨?marker, ?match_, ?fifth, ?early, ?good, ?bad, ?replace, ?restore, ?switch, ?deferred, ?within, ?kept⟩
  case marker =>
    rintro port lane m t s ⟨hpers, hen, hlane, hpattern, hinv, hline, hgood⟩
    obtain ⟨s', row, hlanes⟩ := exec_eliLaneMarker (m := m) (State.eliOn_of hpers hen) hlane
    refine ⟨s', row, ?_⟩
    dsimp only
    rw [hlanes, look_put_same, EliLane.marker_locks _ _ hpattern hinv hline hgood]
    exact ⟨rfl, rfl, rfl⟩
  case match_ =>
    rintro port offset mfas k a b t s ⟨hpers, hen, hhunt, hcands, hfirst, hmfas⟩
    refine ⟨_, exec_eliFawMatch (State.eliOn_of hpers hen), ?_⟩
    dsimp only
    rw [(State.eliRx_eliPort _ _ _).1, EliRx.faw_third hhunt hcands hfirst hmfas]
    exact ⟨rfl, rfl, rfl, rfl, rfl⟩
  case fifth =>
    rintro port offset t s ⟨hpers, hen, hin, hoffset, hbad⟩
    refine ⟨_, exec_eliFawNotFound (State.eliOn_of hpers hen) hin hoffset, ?_⟩
    dsimp only
    obtain ⟨hrx, hcounters⟩ := (s.at_ t).eliRx_eliPort port ((s.at_ t).eliPort port).rx.badFrame
    rw [hrx, hcounters, EliRx.badFrame_fifth hbad, hin]
    exact ⟨rfl, rfl, rfl, look_put_same _ _ _ _⟩
  case early =>
    rintro port offset t s ⟨hpers, hen, hin, hoffset, hbad⟩
    refine ⟨_, exec_eliFawNotFound (State.eliOn_of hpers hen) hin hoffset, ?_⟩
    dsimp only
    rw [(State.eliRx_eliPort _ _ _).1, EliRx.badFrame_early hbad]
    exact ⟨hin, rfl⟩
  case good =>
    rintro port f o t s ⟨hpers, hen, hin, rfl, hcrc, hone⟩
    obtain ⟨s', d, row, hport⟩ := exec_eliFrameReceive (f := f) (State.eliOn_of hpers hen) hin
    have seen := Eli.frame_good ((s.at_ t).eliPort port) f (by simp [goodOverhead, hcrc, hone])
    rw [hin] at seen
    refine ⟨s', row, ?_⟩
    dsimp only
    rw [hport]
    simpa only [EliRx.seen, Prod.mk.injEq] using seen
  case bad =>
    rintro port f o t s ⟨hpers, hen, hin, rfl, hbad⟩
    obtain ⟨s', d, row, hport⟩ := exec_eliFrameReceive (f := f) (State.eliOn_of hpers hen) hin
    have kept := Eli.frame_bad ((s.at_ t).eliPort port) f (by rcases hbad with h | h <;> simp [goodOverhead, h])
    refine ⟨s', row, ?_⟩
    dsimp only
    rw [hport]
    simp only [Eli.kept, EliRx.seen, Prod.mk.injEq] at kept
    obtain ⟨⟨hcap, hmodem, -⟩, hpending, hcount⟩ := kept
    exact ⟨hcap, hmodem, hpending, hcount⟩
  case replace =>
    rintro dst group t s ⟨hgroup, hlive, hplain, hbad⟩
    exact ⟨_, exec_eliExpressReplace rfl hgroup hlive hplain hbad, rfl⟩
  case restore =>
    rintro dst group t s ⟨hgroup, hlive, hreplaced, hgood, hstore⟩
    exact ⟨_, exec_eliExpressRestore rfl hgroup hlive hreplaced hgood hstore, rfl⟩
  case switch =>
    rintro port r new t s ⟨hpers, hen, htypes, hcfg, hcap, hin, hlol, hlof, hsafety, hmfas, hfirst, hfollow, hpending, hmax, hnew, hsince⟩
    obtain ⟨s', x, row, leaves, hcounters⟩ := eliTxFrameStart_switch (State.eliOn_of hpers hen) hmfas htypes hcfg
      ⟨hcap, hin, hlol, hlof, hsafety, hfirst, hfollow, hpending, hmax⟩ hnew hsince
    refine ⟨s', row, leaves.cap, leaves.pending, leaves.since, leaves.mfas, ?_⟩
    rw [leaves.counters, ← hcounters]
    exact look_put_same _ _ _ _
  case deferred =>
    rintro port r new t s ⟨hpers, hen, htypes, hcfg, hcap, hin, hlol, hlof, hsafety, hmfas, hfirst, hfollow, hpending, hmax, hnew, hsince⟩
    obtain ⟨s', x, l, row, leaves, hcounters, hkept⟩ := eliTxFrameStart_deferred (State.eliOn_of hpers hen) hmfas htypes hcfg
      ⟨hcap, hin, hlol, hlof, hsafety, hfirst, hfollow, hpending, hmax⟩ hnew hsince
    refine ⟨s', row, leaves.cap.trans hkept, leaves.pending, ?_⟩
    rw [leaves.counters, ← hcounters]
    exact look_put_same _ _ _ _
  case within =>
    rintro port t s ⟨hpers, hen, hmfas, hsafety⟩
    have row := exec_eliTxFrameStart (State.eliOn_of hpers hen) (rfl : ((s.at_ t).eliPort port).tx.mfas = _)
    rw [if_neg hmfas, State.eliCapacity_within hmfas hsafety] at row
    obtain ⟨leaves, frame⟩ := (s.at_ t).eliFramed_leaves port ((s.at_ t).eliPort port).tx.mfas
    exact ⟨_, row, leaves.cap, leaves.mfas, leaves.pending, frame⟩
  case kept =>
    rintro port t s ⟨hpers, hen, htypes, hcfg, hcap, hdefect⟩
    exact eliTxFrameStart_held (State.eliOn_of hpers hen) htypes hcfg hcap hdefect

end Sys2Proof.Machine
end


section
/-! SUPPORT for O26 and O27. Rows and arrays (R203–R213): a read of a row after each of the writes of rows, what settling the searches of
an array leaves, and the search slots that an update takes. -/

namespace Sys2Proof.Machine

set_option Elab.async false

variable {s : State} {k n : Nat} {a : AArray}

/-! ### One row -/

/-- Rows of a block below 8,192 have a place of their own. -/
theorem State.setArow_arow (s : State) (b : Nat) {r : Nat} (hr : r < 8192) (x : ARow) (d : Nat) {q : Nat} (hq : q < 8192) :
    (s.setArow b r x).arow d q = if d = b ∧ q = r then x else s.arow d q :=
  (look_put _ _ _ _ _).trans (ite_congr (propext (by omega)) (fun _ => rfl) (fun _ => rfl))

@[simp] theorem State.setArray_arow (s : State) (k : Nat) (x : AArray) (b r : Nat) : (s.setArray k x).arow b r = s.arow b r := rfl

theorem State.arow_of_rows {s' : State} (h : s'.assoc.rows = s.assoc.rows) (b r : Nat) : s'.arow b r = s.arow b r := by
  rw [State.arow, State.arow, h]

theorem State.array_of_arrays {s' : State} (h : s'.assoc.arrays = s.assoc.arrays) (k : Nat) : s'.array k = s.array k := by
  rw [State.array, State.array, h]

/-! ### Cleared blocks -/

/-- A read of a table whose rows are selected by their number. -/
theorem look_filter_number {α : Type} (m : Sparse α) (p : Nat → Bool) (j : Nat) (d : α) :
    look (m.filter fun r => p r.1) j d = if p j then look m j d else d := by
  induction m with
  | nil => exact (ite_self d).symm
  | cons r m ih =>
    obtain ⟨i, v⟩ := r
    by_cases hij : i = j
    · subst hij
      by_cases hp : p i <;> simp [hp, look, ih]
    · by_cases hp : p i <;> simp [hp, hij, look, ih]

theorem State.clearBlock_arow (b : Nat) (s : State) (d : Nat) {r : Nat} (hr : r < 8192) :
    (State.clearBlock b s).arow d r = if d = b then {} else s.arow d r := by
  have row := look_filter_number s.assoc.rows (fun i => i / 8192 ≠ b) (d * 8192 + r) {}
  have block : (d * 8192 + r) / 8192 = d := by omega
  rw [block] at row
  refine row.trans ?_
  by_cases h : d = b <;> simp [h, State.arow]

theorem each_clearBlock_arow (l : List Nat) (s : State) (d : Nat) {r : Nat} (hr : r < 8192) :
    (each State.clearBlock l s).arow d r = if d ∈ l then {} else s.arow d r := by
  induction l generalizing s with
  | nil => rfl
  | cons b l ih =>
    rw [each_cons, ih, State.clearBlock_arow b s d hr]
    by_cases h : d = b <;> simp [h]

theorem each_clearBlock_array (l : List Nat) (s : State) (k : Nat) : (each State.clearBlock l s).array k = s.array k :=
  each_keeps State.clearBlock (fun s => s.array k) (fun _ _ => rfl) l s

theorem AArray.mem_blocks (h : a.live = true) {b : Nat} : b ∈ a.blocks ↔ a.first ≤ b ∧ b < a.first + a.count := by
  rw [AArray.blocks, if_pos h]
  exact mem_rangeOf

/-! ### The blocks of a segment -/

/-- The row `r` of the blocks from `base` on, each changed by `upd`. -/
def State.updateRow (base r : Nat) (upd : Nat → ARow → ARow) (j : Nat) (s : State) : State :=
  s.setArow (base + j) r (upd j (s.arow (base + j) r))

/-- What a write of a row leaves alone. -/
theorem each_updateRow_keeps {α : Type} (g : State → α) (hg : ∀ s b r x, g (State.setArow s b r x) = g s) (base r : Nat)
    (upd : Nat → ARow → ARow) (l : List Nat) (s : State) : g (each (State.updateRow base r upd) l s) = g s :=
  each_keeps (State.updateRow base r upd) g (fun _ _ => hg _ _ _ _) l s

/-- The rows of the other numbers and of the other blocks stay as they are. -/
theorem each_updateRow_other {base r : Nat} (hr : r < 8192) {upd : Nat → ARow → ARow} {l : List Nat} {b q : Nat} (hq : q < 8192)
    (h : q ≠ r ∨ ∀ j ∈ l, b ≠ base + j) (s : State) : (each (State.updateRow base r upd) l s).arow b q = s.arow b q := by
  refine each_inv_mem (P := fun x : State => x.arow b q = s.arow b q) (fun j hj x hx => ?_) rfl
  refine (x.setArow_arow _ hr _ b hq).trans ((if_neg ?_).trans hx)
  rintro ⟨hb, rfl⟩
  exact h.elim (fun hne => hne rfl) (fun hne => hne j hj hb)

/-- The row of each of the blocks is changed once. -/
theorem each_updateRow_mem {base r : Nat} (hr : r < 8192) {upd : Nat → ARow → ARow} {l : List Nat} (hl : l.Nodup) {j : Nat}
    (hj : j ∈ l) (s : State) : (each (State.updateRow base r upd) l s).arow (base + j) r = upd j (s.arow (base + j) r) := by
  induction l generalizing s with
  | nil => cases hj
  | cons i l ih =>
    obtain ⟨hi, hl⟩ := List.nodup_cons.1 hl
    have first := s.setArow_arow (base + i) hr (upd i (s.arow (base + i) r)) (base + j) hr
    rcases List.mem_cons.1 hj with rfl | hj
    · have apart : ∀ m ∈ l, base + j ≠ base + m := fun m hm he => hi (Nat.add_left_cancel he ▸ hm)
      exact (each_updateRow_other hr hr (.inr apart) _).trans (first.trans (if_pos ⟨rfl, rfl⟩))
    · have apart : ¬ (base + j = base + i ∧ r = r) := fun he => hi (Nat.add_left_cancel he.1 ▸ hj)
      exact (ih hl hj _).trans (congrArg (upd j) (first.trans (if_neg apart)))

/-- A block of segment `p` is its first one or lies `j` after it. -/
theorem AArray.mem_segment {p b : Nat} : b ∈ a.segment p ↔ ∃ j, j < a.width ∧ a.first + p * a.width + j = b := by
  simp only [AArray.segment, List.mem_map, List.mem_range]

theorem AArray.ne_of_not_mem_segment {p b : Nat} (h : b ∉ a.segment p) : ∀ j ∈ List.range a.width, b ≠ a.first + p * a.width + j :=
  fun j hj he => h (AArray.mem_segment.2 ⟨j, List.mem_range.1 hj, he.symm⟩)

section
variable {r : ARecord} {v : Bool} {b q : Nat}

theorem State.setValid_eq (s : State) (a : AArray) (r : ARecord) (v : Bool) : s.setValid a r v =
    each (State.updateRow (a.first + r.position * a.width) r.row fun _ x => { x with valid := v, held := false }) (List.range a.width) s :=
  each_map _ _ _ _

theorem State.setValid_arow_mem (hr : r.row < 8192) (hb : b ∈ a.segment r.position) (s : State) :
    (s.setValid a r v).arow b r.row = { s.arow b r.row with valid := v, held := false } := by
  obtain ⟨j, hj, rfl⟩ := AArray.mem_segment.1 hb
  rw [State.setValid_eq]
  exact each_updateRow_mem hr List.nodup_range (List.mem_range.2 hj) s

theorem State.setValid_arow_other (hr : r.row < 8192) (hq : q < 8192) (h : q ≠ r.row ∨ b ∉ a.segment r.position) (s : State) :
    (s.setValid a r v).arow b q = s.arow b q := by
  rw [State.setValid_eq]
  exact each_updateRow_other hr hq (h.imp_right AArray.ne_of_not_mem_segment) s

/-- What a record writes to block `j` of its segment (R203). -/
def ARecord.part (r : ARecord) (j : Nat) : ARow :=
  { valid := false, value := r.value / 2 ^ (80 * j) % 2 ^ 80, mask := r.mask / 2 ^ (80 * j) % 2 ^ 80,
    result := if j = 0 then r.result else 0 }

theorem State.writeArow_eq (s : State) (a : AArray) (r : ARecord) : s.writeArow a r =
    each (State.updateRow (a.first + r.position * a.width) r.row fun j _ => r.part j) (List.range a.width) s := rfl

theorem State.writeArow_arow_mem (hr : r.row < 8192) {j : Nat} (hj : j < a.width) (s : State) :
    (s.writeArow a r).arow (a.first + r.position * a.width + j) r.row = r.part j := by
  rw [State.writeArow_eq]
  exact each_updateRow_mem hr List.nodup_range (List.mem_range.2 hj) s

theorem State.writeArow_arow_other (hr : r.row < 8192) (hq : q < 8192) (h : q ≠ r.row ∨ b ∉ a.segment r.position) (s : State) :
    (s.writeArow a r).arow b q = s.arow b q := by
  rw [State.writeArow_eq]
  exact each_updateRow_other hr hq (h.imp_right AArray.ne_of_not_mem_segment) s

theorem State.setValid_host (s : State) (a : AArray) (r : ARecord) (v : Bool) : (s.setValid a r v).host = s.host := by
  rw [State.setValid_eq]
  exact each_updateRow_keeps State.host (fun _ _ _ _ => rfl) _ _ _ _ _

theorem State.setValid_array (s : State) (a : AArray) (r : ARecord) (v : Bool) (k : Nat) : (s.setValid a r v).array k = s.array k := by
  rw [State.setValid_eq]
  exact each_updateRow_keeps (fun s => s.array k) (fun _ _ _ _ => rfl) _ _ _ _ _

theorem State.writeArow_host (s : State) (a : AArray) (r : ARecord) : (s.writeArow a r).host = s.host := by
  rw [State.writeArow_eq]
  exact each_updateRow_keeps State.host (fun _ _ _ _ => rfl) _ _ _ _ _

end

/-! ### Searches that are settled, and update slots -/

/-- The searches under way become these. -/
def State.setSearches (s : State) (l : List ASearch) : State := { s with assoc := { s.assoc with searches := l } }

/-- Searches that are settled change themselves alone, but for the count of those that an array with a block mapped out refused (R213). -/
theorem State.settleSearches_cases (s : State) (k cycle : Nat) : ∃ l, s.settleSearches k cycle = s.setSearches l ∨
    (s.arrayDown k = true ∧ ∃ x, s.settleSearches k cycle = (s.setSearches l).setArray k x) := by
  unfold State.settleSearches
  cases s.arrayDown k with
  | false => exact ⟨_, .inl rfl⟩
  | true =>
    simp only [if_true]
    split
    · exact ⟨_, .inl rfl⟩
    · exact ⟨_, .inr ⟨trivial, _, rfl⟩⟩

theorem State.settleSearches_rows (s : State) (k cycle : Nat) : (s.settleSearches k cycle).assoc.rows = s.assoc.rows := by
  obtain ⟨l, h | ⟨-, x, h⟩⟩ := s.settleSearches_cases k cycle <;> rw [h] <;> rfl

theorem State.settleSearches_array_ne (s : State) (cycle : Nat) {j : Nat} (hj : j ≠ k) :
    (s.settleSearches k cycle).array j = s.array j := by
  obtain ⟨l, h | ⟨-, x, h⟩⟩ := s.settleSearches_cases k cycle
  · rw [h]
    rfl
  · rw [h, State.setArray_array, if_neg hj]
    rfl

/-- No search of an array in service is refused. -/
theorem State.settleSearches_array_of_up (cycle : Nat) (up : s.arrayDown k = false) (j : Nat) :
    (s.settleSearches k cycle).array j = s.array j := by
  obtain ⟨l, h | ⟨down, -⟩⟩ := s.settleSearches_cases k cycle
  · rw [h]
    rfl
  · exact absurd (up.symm.trans down) (by decide)

theorem State.settleSearches_none (cycle : Nat) (h : s.assoc.searches = []) : s.settleSearches k cycle = s := by
  unfold State.settleSearches
  rw [h]
  simp only [List.filter_nil, List.length_nil, ite_self, if_true, List.map_nil]
  rw [← h]

/-- An update takes the `n` search slots of an array from now on (R211). -/
def State.slotsTaken (s : State) (k n : Nat) : State :=
  s.setArray k { s.array k with nextSlot := s.cclk + n, nextUpdate := s.cclk + 8 }

@[simp] theorem State.slotsTaken_array (s : State) (k n : Nat) :
    (s.slotsTaken k n).array k = { s.array k with nextSlot := s.cclk + n, nextUpdate := s.cclk + 8 } := s.setArray_same _ _

/-- While no search waits and a slot is free, an update has its slots at once (R211). -/
theorem State.takeSlots_free (h : s.assoc.searches = []) (hslot : (s.array k).nextSlot ≤ s.cclk) :
    s.takeSlots k n = some (s.slotsTaken k n) := by
  unfold State.takeSlots
  dsimp only
  rw [State.settleSearches_none _ h, h]
  simp only [List.any_nil, Bool.false_eq_true, if_false, Nat.not_lt.2 hslot, List.map_nil]
  rw [← h]
  rfl

end Sys2Proof.Machine
end


section
/-! SUPPORT for O26. The associative-array commands (R203, R204, R206–R208, R210): for each, the next state that `exec` answers, and what
it leaves of arrays, rows and tags. -/

namespace Sys2Proof.Machine

set_option Elab.async false

variable {s : State} {t k : Nat} {c : Cmd} {b : BufRead}

theorem State.arrayDown_of_blocksErr (h : s.blocksErr (s.array k).blocks = none) : s.arrayDown k = false := by
  unfold State.blocksErr at h
  split at h
  · rename_i found
    exact List.any_eq_false.2 (List.find?_eq_none.1 found)
  · cases h

/-! ### ASSOC_CREATE and ASSOC_DELETE (R203, R204) -/

/-- The array that ASSOC_CREATE makes. -/
def createdArray (c : Cmd) : AArray :=
  { live := true, first := c.u8 17, count := c.u8 18, width := c.u8 19, prefilter := c.u8 20 = 1,
    pf := (List.range 8).map fun i => c.u16 (24 + 2 * i) }

theorem exec_assocCreate (hr : ready (s.at_ t) c 0x0600 .any = true) (he : firstErr (assocCreateErrs c (s.at_ t)) = none) :
    exec (.assocCreate t c) s = .next (((each State.clearBlock (createdArray c).blocks (s.at_ t)).setArray (c.u8 16)
      (createdArray c)).answer c .ok 0 0 []) :=
  congrArg Host.Outcome.next (command_ok _ _ _ _ _ _ _ hr he)

theorem exec_assocDelete (hr : ready (s.at_ t) c 0x0601 .any = true) (ha : (s.at_ t).arrayErr c 16 = none) (hz : c.zeros 17 47 = none)
    (hw : ((s.at_ t).array (c.u8 16)).work = none) (hb : (s.at_ t).blocksErr ((s.at_ t).array (c.u8 16)).blocks = none) :
    exec (.assocDelete t c) s = .next (((s.at_ t).deleteArray (c.u8 16) true).answer c .ok 0 0 []) :=
  congrArg Host.Outcome.next (command_ok _ _ _ _ _ _ _ hr (by simp [ha, hz, hb, need, AArray.busy, hw]))

theorem State.deleteArray_array (s : State) (k j : Nat) : (s.deleteArray k true).array j = if j = k then {} else s.array j := by
  have cleared := each_clearBlock_array (s.array k).blocks ((s.settleSearches k (s.cclk + 2 ^ 40)).setArray k {}) j
  refine cleared.trans ((State.setArray_array _ _ _ _).trans ?_)
  by_cases h : j = k
  · rw [if_pos h, if_pos h]
  · rw [if_neg h, if_neg h, State.settleSearches_array_ne _ _ h]

theorem State.deleteArray_arow (s : State) (k d : Nat) {r : Nat} (hr : r < 8192) :
    (s.deleteArray k true).arow d r = if d ∈ (s.array k).blocks then {} else s.arow d r := by
  have cleared := each_clearBlock_arow (s.array k).blocks ((s.settleSearches k (s.cclk + 2 ^ 40)).setArray k {}) d hr
  rw [State.setArray_arow, State.arow_of_rows (s.settleSearches_rows _ _)] at cleared
  exact cleared

/-! ### ASSOC_WRITE and ASSOC_READ (R210) -/

/-- An update joins those of its array: it runs where none does, else it waits behind them (R211). -/
def AArray.joined (a : AArray) (w : AWork) : AArray :=
  if a.work.isNone then { a with work := some w } else { a with later := a.later ++ [w] }

theorem AArray.joined_idle {a : AArray} (h : a.work = none) (w : AWork) : a.joined w = { a with work := some w } := by
  simp [AArray.joined, h]

theorem AArray.joined_busy {a : AArray} {v : AWork} (h : a.work = some v) (w : AWork) :
    a.joined w = { a with later := a.later ++ [w] } := by
  simp [AArray.joined, h]

/-- ASSOC_WRITE with every check passed: an empty list is answered at once, the records of another are kept. -/
theorem exec_assocWrite (hr : ready (s.at_ t) c 0x0602 .any = true) (hbuf : c.bufferErr = none) (hlen : c.u32 24 = c.u32 32 * 176)
    (ha : (s.at_ t).arrayErr c 28 = none) (hz : c.zeros 29 3 = none) (hz' : c.zeros 36 28 = none)
    (hb : (s.at_ t).blocksErr ((s.at_ t).array (c.u8 28)).blocks = none) (hread : b.err = none) :
    exec (.assocWrite t c b) s = .next (if c.u32 32 = 0 then (s.at_ t).answer c .ok 0 0 [] else
      ((s.at_ t).setArray (c.u8 28) (((s.at_ t).array (c.u8 28)).joined { cmd := c, data := b.bytes c, count := c.u32 32 })).keepWorking
        c) := by
  refine congrArg Host.Outcome.next
    ((command_ok _ _ _ _ _ _ _ hr (by simp [hbuf, hlen, at_, need, ha, hz, hz', hb, hread])).trans ?_)
  by_cases hn : c.u32 32 = 0
  · simp [hn]
  · simp [hn, AArray.joined]

theorem State.length_arowBytes (s : State) (a : AArray) (pos row : Nat) : (s.arowBytes a pos row).length = 176 := by
  simp [State.arowBytes, length_leBytes, slice]

theorem exec_assocRead (hr : ready (s.at_ t) c 0x0603 .any = true) (hreply : c.needReply = none) (ha : (s.at_ t).arrayErr c 16 = none)
    (hpos : c.u8 17 < ((s.at_ t).array (c.u8 16)).segments) (hrow : c.u16 18 < 8192) (hz : c.zeros 20 44 = none)
    (hb : (s.at_ t).blocksErr ((s.at_ t).array (c.u8 16)).blocks = none) :
    exec (.assocRead t c) s =
      .next ((s.at_ t).answer c .ok 0 176 ((s.at_ t).arowBytes ((s.at_ t).array (c.u8 16)) (c.u8 17) (c.u16 18))) :=
  congrArg Host.Outcome.next (command_ok _ _ _ _ _ _ _ hr (by simp [hreply, ha, at_, need, hpos, hrow, hz, hb]))

/-! ### ASSOC_GROUP (R206, R207) -/

/-- The array with one tag set. -/
def AArray.setTag (a : AArray) (pos g gval gmask : Nat) : AArray :=
  { a with tags := put a.tags (pos * 256 + g) 0 (gval * 256 + gmask) }

theorem AArray.setTag_tag (a : AArray) {gmask g g' : Nat} (hm : gmask < 256) (hg : g < 256) (hg' : g' < 256) (pos gval p : Nat) :
    (a.setTag pos g gval gmask).tag p g' = if p = pos ∧ g' = g then (gval, gmask) else a.tag p g' := by
  have row := look_put a.tags (pos * 256 + g) (p * 256 + g') 0 (gval * 256 + gmask)
  unfold AArray.setTag AArray.tag
  dsimp only
  rw [row]
  by_cases h : p = pos ∧ g' = g
  · obtain ⟨rfl, rfl⟩ := h
    rw [if_pos rfl, if_pos ⟨rfl, rfl⟩, Prod.mk.injEq]
    omega
  · rw [if_neg (by omega), if_neg h]

theorem byteAt_lt (b : Bytes) (i : Nat) : byteAt b i < 256 := by
  unfold byteAt
  split
  · exact BitVec.isLt _
  · decide

theorem Cmd.u8_lt (c : Cmd) (off : Nat) : c.u8 off < 256 := byteAt_lt _ _

section
variable (hr : ready (s.at_ t) c 0x0604 .any = true) (ha : (s.at_ t).arrayErr c 16 = none)
  (hpos : c.u8 17 < ((s.at_ t).array (c.u8 16)).segments) (hg : c.u16 18 < 256) (hz : c.zeros 22 42 = none)
  (hb : (s.at_ t).blocksErr ((s.at_ t).array (c.u8 16)).blocks = none)
include hr ha hpos hg hz hb

theorem exec_assocGroup (hoff : ∀ i, i < 32 →
      (s.at_ t).segmentOn (((s.at_ t).array (c.u8 16)).segment (c.u8 17)) (32 * c.u16 18 + i) = false) :
    exec (.assocGroup t c) s = .next ((((s.at_ t).settleSearches (c.u8 16) (s.at_ t).cclk).setArray (c.u8 16)
      (((s.at_ t).array (c.u8 16)).setTag (c.u8 17) (c.u16 18) (c.u8 20) (c.u8 21))).answer c .ok 0 0 []) := by
  have none_on : ((List.range 32).any fun i =>
      (s.at_ t).segmentOn (((s.at_ t).array (c.u8 16)).segment (c.u8 17)) (32 * c.u16 18 + i)) = false :=
    List.any_eq_false.2 fun i hi => Bool.eq_false_iff.1 (hoff i (List.mem_range.1 hi))
  have settled := State.settleSearches_array_of_up (s.at_ t).cclk (State.arrayDown_of_blocksErr hb) (c.u8 16)
  refine congrArg Host.Outcome.next
    ((command_ok _ _ _ _ _ _ _ hr (by simp [ha, at_, need, hpos, hg, hz, hb, none_on])).trans ?_)
  simp only [settled]
  rfl

theorem exec_assocGroup_refused {i : Nat} (hi : i < 32)
    (hon : (s.at_ t).segmentOn (((s.at_ t).array (c.u8 16)).segment (c.u8 17)) (32 * c.u16 18 + i) = true) :
    exec (.assocGroup t c) s = .next ((s.at_ t).answer c .refused 1 0 []) := by
  have some_on : ((List.range 32).any fun i =>
      (s.at_ t).segmentOn (((s.at_ t).array (c.u8 16)).segment (c.u8 17)) (32 * c.u16 18 + i)) = true :=
    List.any_eq_true.2 ⟨i, List.mem_range.2 hi, hon⟩
  exact congrArg Host.Outcome.next
    (command_refused (e := refusedWith 1) _ _ hr (by simp [ha, at_, need, hpos, hg, hz, hb, some_on, firstErr]))

end

/-! ### ASSOC_SEARCH (R208) -/

theorem exec_assocSearch (hr : ready (s.at_ t) c 0x0605 .any = true) (hreply : c.needReply = none) (hbuf : c.bufferErr = none)
    (hlen : c.u32 24 = 80) (ha : (s.at_ t).arrayErr c 28 = none) (hz : c.zeros 29 35 = none)
    (hb : (s.at_ t).blocksErr ((s.at_ t).array (c.u8 28)).blocks = none) (hread : b.err = none) :
    exec (.assocSearch t c b) s = .next (((((s.at_ t).countDomain c.domain 5).count (2560 + 16 * c.domain + 6)
      ((s.at_ t).searchNow (c.u8 28) (leAt (b.bytes c) 0 80)).groups).setArray (c.u8 28)
        { (s.at_ t).array (c.u8 28) with nextSlot := max (s.at_ t).cclk ((s.at_ t).array (c.u8 28)).nextSlot + 1 }).answer c .ok 0 16
          ((s.at_ t).searchNow (c.u8 28) (leAt (b.bytes c) 0 80)).bytes) :=
  congrArg Host.Outcome.next (command_ok _ _ _ _ _ _ _ hr (by simp [hreply, hbuf, at_, need, hlen, ha, hz, hb, hread]))

/-- Settles O26: each clause is its row's rule above; a read of a row after ASSOC_CREATE and ASSOC_DELETE is one after the blocks are
cleared. -/
theorem assocCommandsComplete : Obligations.AssocCommandsComplete := by
  unfold Obligations.AssocCommandsComplete
  refine ⟨?create, ?delete, ?write, ?queued, ?empty, ?read, ?group, ?refused, ?search⟩
  case create =>
    rintro c a t s ⟨hr, he, rfl⟩
    refine ⟨_, exec_assocCreate hr he, _, rfl, State.setArray_same _ _ _, fun k hk => ?_, fun b r hrow => ?_⟩
    · exact (State.setArray_array _ _ _ _).trans ((if_neg hk).trans (each_clearBlock_array _ _ _))
    · exact (each_clearBlock_arow _ _ b hrow).trans (ite_congr (propext (AArray.mem_blocks rfl)) (fun _ => rfl) (fun _ => rfl))
  case delete =>
    rintro c a t s ⟨hr, ha, hz, hw, rfl, hb⟩
    have arrays := (s.at_ t).deleteArray_array (c.u8 16)
    exact ⟨_, exec_assocDelete hr ha hz hw hb, _, rfl, (arrays _).trans (if_pos rfl), fun k hk => (arrays k).trans (if_neg hk),
      fun b r hrow => State.deleteArray_arow _ _ _ hrow⟩
  case write =>
    rintro c b a t s ⟨hr, hbuf, hlen, ha, hz, hz', rfl, hb, hread, hn, hw⟩
    have row := exec_assocWrite hr hbuf hlen ha hz hz' hb hread
    rw [if_neg hn, AArray.joined_idle hw] at row
    exact ⟨_, row, rfl⟩
  case queued =>
    rintro c b a w t s ⟨hr, hbuf, hlen, ha, hz, hz', rfl, hb, hread, hn, hw⟩
    have row := exec_assocWrite hr hbuf hlen ha hz hz' hb hread
    rw [if_neg hn, AArray.joined_busy hw] at row
    exact ⟨_, row, rfl⟩
  case empty =>
    rintro c b a t s ⟨hr, hbuf, hlen, ha, hz, hz', rfl, hb, hread, hn⟩
    have row := exec_assocWrite hr hbuf hlen ha hz hz' hb hread
    rw [if_pos hn] at row
    exact ⟨_, row, rfl⟩
  case read =>
    rintro c a t s ⟨hr, hreply, ha, rfl, hpos, hrow, hz, hb⟩
    exact ⟨_, exec_assocRead hr hreply ha hpos hrow hz hb, rfl, State.length_arowBytes _ _ _ _⟩
  case group =>
    rintro c a t s ⟨hr, ha, rfl, hpos, hg, hz, hb, hoff⟩
    exact ⟨_, exec_assocGroup hr ha hpos hg hz hb hoff, _, rfl, fun p g hg' => AArray.setTag_tag _ (Cmd.u8_lt _ _) hg hg' _ _ _, rfl⟩
  case refused =>
    rintro c a i t s ⟨hr, ha, rfl, hpos, hg, hz, hb, hi, hon⟩
    exact ⟨_, exec_assocGroup_refused hr ha hpos hg hz hb hi hon, rfl⟩
  case search =>
    rintro c b a t s ⟨hr, hreply, hbuf, hlen, ha, hz, rfl, hb, hread⟩
    exact ⟨_, exec_assocSearch hr hreply hbuf hlen ha hz hb hread, rfl⟩

end Sys2Proof.Machine
end


section
/-! SUPPORT for O27. Row updates, scrubbing and repair (R210–R212): the cases of one update step, and for each row the next state that
`exec` answers. -/

namespace Sys2Proof.Machine

set_option Elab.async false

variable {s : State} {t k : Nat} {w : AWork}

/-! ### One step of a record (R210) -/

/-- The record that an update is at. -/
def AWork.record (w : AWork) : ARecord := arecordOf w.data (176 * w.index)

theorem State.updateStep_bad (hstep : w.step = 0) (hbad : (s.array k).recordOk w.data (176 * w.index) = false) :
    s.updateStep k w = s.endUpdate k w .invalidParam (badBuffer (176 * w.index)).detail :=
  if_pos (by simp [hstep, hbad])

/-- A record that may be written is not refused. -/
theorem State.updateStep_good (hgood : (w.step = 0 ∧ (s.array k).recordOk w.data (176 * w.index) = true) ∨
      (w.step = 2 ∧ (s.array k).keepsTag w.record = true)) : s.updateStep k w =
    if w.record.invalidate then (s.setValid (s.array k) w.record false).nextRecord k w
    else if w.step = 0 && s.segmentOn ((s.array k).segment w.record.position) w.record.row then
      (s.setValid (s.array k) w.record false).setArray k { s.array k with work := some { w with step := 1 } }
    else if w.step ≤ 1 then (s.writeArow (s.array k) w.record).setArray k { s.array k with work := some { w with step := 2 } }
    else (s.setValid (s.array k) w.record true).nextRecord k w := by
  refine if_neg ?_
  rcases hgood with ⟨hstep, hok⟩ | ⟨hstep, htag⟩
  · simp [hstep, hok]
  · simp [hstep, show (s.array k).keepsTag (arecordOf w.data (176 * w.index)) = true from htag]

theorem AWork.record_row_lt {a : AArray} (h : a.recordOk w.data (176 * w.index) = true) : w.record.row < 8192 := by
  simp only [AArray.recordOk, Bool.and_eq_true, decide_eq_true_eq] at h
  obtain ⟨⟨⟨⟨⟨⟨hrow, -⟩, -⟩, -⟩, -⟩, -⟩, -⟩ := h
  exact hrow

theorem State.nextRecord_last (h : w.index + 1 = w.count) :
    s.nextRecord k w = s.endUpdate k { w with index := w.index + 1, step := 0 } .ok 0 := if_pos h

theorem State.nextRecord_more (h : w.index + 1 ≠ w.count) :
    s.nextRecord k w = s.setArray k { s.array k with work := some { w with index := w.index + 1, step := 0 } } := if_neg h

theorem State.endUpdate_alone (h : (s.array k).later = []) (w : AWork) (st : Status) (detail : Nat) : s.endUpdate k w st detail =
    (s.setArray k { s.array k with work := none, later := [] }).answer w.cmd st detail w.index [] := by
  simp only [State.endUpdate, h, List.head?_nil, List.drop_nil]

/-! ### A step's view of its array once the slot is taken: its shape, its tags and its rows are as they were -/

section
variable (s : State) (k n : Nat)

theorem State.slotsTaken_recordOk (d : Bytes) (i : Nat) : ((s.slotsTaken k n).array k).recordOk d i = (s.array k).recordOk d i := by
  rw [State.slotsTaken_array]
  rfl

theorem State.slotsTaken_keepsTag (r : ARecord) : ((s.slotsTaken k n).array k).keepsTag r = (s.array k).keepsTag r := by
  rw [State.slotsTaken_array]
  rfl

theorem State.slotsTaken_later : ((s.slotsTaken k n).array k).later = (s.array k).later := by rw [State.slotsTaken_array]

theorem State.slotsTaken_segmentOn (p r : Nat) :
    (s.slotsTaken k n).segmentOn (((s.slotsTaken k n).array k).segment p) r = s.segmentOn ((s.array k).segment p) r := by
  rw [State.slotsTaken_array]
  rfl

theorem State.slotsTaken_setValid (r : ARecord) (v : Bool) :
    (s.slotsTaken k n).setValid ((s.slotsTaken k n).array k) r v = (s.slotsTaken k n).setValid (s.array k) r v := by
  rw [State.slotsTaken_array]
  rfl

theorem State.slotsTaken_writeArow (r : ARecord) :
    (s.slotsTaken k n).writeArow ((s.slotsTaken k n).array k) r = (s.slotsTaken k n).writeArow (s.array k) r := by
  rw [State.slotsTaken_array]
  rfl

end

/-! ### The rows of ASSOC_UPDATE_STEP -/

section
variable (hw : ((s.at_ t).array k).work = some w)

theorem exec_assocUpdateStep_idle (hidle : ((s.at_ t).array k).work = none) : exec (.assocUpdateStep t k) s = .next (s.at_ t) := by
  simp only [exec, execAssocUpdateStep, hidle]

include hw

theorem exec_assocUpdateStep_waits (hwait : (s.at_ t).takeSlots k 1 = none) : exec (.assocUpdateStep t k) s = .next (s.at_ t) := by
  simp only [exec, execAssocUpdateStep, hw, hwait]

variable (hs : (s.at_ t).assoc.searches = []) (hslot : ((s.at_ t).array k).nextSlot ≤ (s.at_ t).cclk)
include hs hslot

theorem exec_assocUpdateStep_granted : exec (.assocUpdateStep t k) s = .next (((s.at_ t).slotsTaken k 1).updateStep k w) := by
  simp only [exec, execAssocUpdateStep, hw, State.takeSlots_free hs hslot]

/-- A step of a record that is not refused, over the rows as they were when its slot was granted. -/
theorem exec_assocUpdateStep_good (hgood : (w.step = 0 ∧ ((s.at_ t).array k).recordOk w.data (176 * w.index) = true) ∨
      (w.step = 2 ∧ ((s.at_ t).array k).keepsTag w.record = true)) : exec (.assocUpdateStep t k) s = .next (
    let z := (s.at_ t).slotsTaken k 1
    let a := (s.at_ t).array k
    if w.record.invalidate then (z.setValid a w.record false).nextRecord k w
    else if w.step = 0 && (s.at_ t).segmentOn (a.segment w.record.position) w.record.row then
      (z.setValid a w.record false).setArray k { z.array k with work := some { w with step := 1 } }
    else if w.step ≤ 1 then (z.writeArow a w.record).setArray k { z.array k with work := some { w with step := 2 } }
    else (z.setValid a w.record true).nextRecord k w) := by
  rw [exec_assocUpdateStep_granted hw hs hslot, State.updateStep_good (by rwa [State.slotsTaken_recordOk, State.slotsTaken_keepsTag])]
  simp only [State.slotsTaken_setValid, State.slotsTaken_writeArow, State.slotsTaken_segmentOn]

theorem exec_assocUpdateStep_clear (hinv : w.record.invalidate = false) (hstep : w.step = 0)
    (hok : ((s.at_ t).array k).recordOk w.data (176 * w.index) = true)
    (hon : (s.at_ t).segmentOn (((s.at_ t).array k).segment w.record.position) w.record.row = true) :
    exec (.assocUpdateStep t k) s = .next ((((s.at_ t).slotsTaken k 1).setValid ((s.at_ t).array k) w.record false).setArray k
      { ((s.at_ t).slotsTaken k 1).array k with work := some { w with step := 1 } }) := by
  rw [exec_assocUpdateStep_good hw hs hslot (.inl ⟨hstep, hok⟩)]
  simp only [hinv, hstep, hon, Bool.false_eq_true, decide_true, Bool.and_self, if_true, if_false]

theorem exec_assocUpdateStep_write (hinv : w.record.invalidate = false) (hstep : w.step = 0)
    (hok : ((s.at_ t).array k).recordOk w.data (176 * w.index) = true)
    (hoff : (s.at_ t).segmentOn (((s.at_ t).array k).segment w.record.position) w.record.row = false) :
    exec (.assocUpdateStep t k) s = .next ((((s.at_ t).slotsTaken k 1).writeArow ((s.at_ t).array k) w.record).setArray k
      { ((s.at_ t).slotsTaken k 1).array k with work := some { w with step := 2 } }) := by
  rw [exec_assocUpdateStep_good hw hs hslot (.inl ⟨hstep, hok⟩)]
  simp only [hinv, hstep, hoff, Bool.false_eq_true, Bool.and_false, Nat.zero_le, if_true, if_false]

theorem exec_assocUpdateStep_validate (hinv : w.record.invalidate = false) (hstep : w.step = 2)
    (htag : ((s.at_ t).array k).keepsTag w.record = true) : exec (.assocUpdateStep t k) s =
    .next ((((s.at_ t).slotsTaken k 1).setValid ((s.at_ t).array k) w.record true).nextRecord k w) := by
  rw [exec_assocUpdateStep_good hw hs hslot (.inr ⟨hstep, htag⟩)]
  simp [hinv, hstep]

theorem exec_assocUpdateStep_invalidate (hinv : w.record.invalidate = true) (hstep : w.step = 0)
    (hok : ((s.at_ t).array k).recordOk w.data (176 * w.index) = true) : exec (.assocUpdateStep t k) s =
    .next ((((s.at_ t).slotsTaken k 1).setValid ((s.at_ t).array k) w.record false).nextRecord k w) := by
  rw [exec_assocUpdateStep_good hw hs hslot (.inl ⟨hstep, hok⟩)]
  simp only [hinv, if_true]

theorem exec_assocUpdateStep_bad (hstep : w.step = 0) (hbad : ((s.at_ t).array k).recordOk w.data (176 * w.index) = false)
    (hlater : ((s.at_ t).array k).later = []) : exec (.assocUpdateStep t k) s = .next (
    (((s.at_ t).slotsTaken k 1).setArray k { ((s.at_ t).slotsTaken k 1).array k with work := none, later := [] }).answer w.cmd
      .invalidParam (badBuffer (176 * w.index)).detail w.index []) := by
  rw [exec_assocUpdateStep_granted hw hs hslot, State.updateStep_bad hstep (by rwa [State.slotsTaken_recordOk]),
    State.endUpdate_alone (by rwa [State.slotsTaken_later])]

end

/-! ### What a reply leaves of the arrays -/

theorem State.answer_assoc (s : State) (c : Cmd) (st : Status) (detail result : Nat) (long : Bytes) :
    (s.answer c st detail result long).assoc = s.assoc := by
  rw [answer_onlyHost]

/-- The state in which a command has started too, before the others, whose reply is to be dropped (R72). -/
def State.owingDropped (s : State) (c : Cmd) : State :=
  { s with host := { s.host with started := { cmd := c, mode := .service, held := true, dropped := true } :: s.host.started } }

/-- Every state is one that some state comes to by a reply, whatever the reply says. -/
theorem State.exists_answer_eq (y : State) (c : Cmd) (st : Status) (detail result : Nat) (long : Bytes) :
    ∃ x : State, y = x.answer c st detail result long ∧ x.assoc = y.assoc := by
  by_cases up : y.basecampUp = true
  · have up' : (y.owingDropped c).basecampUp = true := up
    have started : (y.owingDropped c).startedAs c = some { cmd := c, mode := .service, held := true, dropped := true } := if_pos rfl
    refine ⟨y.owingDropped c, ?_, rfl⟩
    simp only [State.answer, started, up', Bool.not_true, Bool.false_eq_true, if_true, if_false]
    simp only [State.owingDropped, dropStarted, if_true]
  · refine ⟨y, ?_, rfl⟩
    unfold State.answer
    split
    · rfl
    · rw [if_pos (by simp [up])]

/-! ### ASSOC_SCRUB and ASSOC_ROW_REPAIR (R212) -/

section
variable {block row : Nat}

/-- An error log that is written and an event that is posted leave the rows alone, and the event the error log. -/
theorem State.logged_reads (s : State) (block row : Nat) (x : ARow) (l : ABlock) (d code detail result : Nat) :
    (((s.setArow block row x).setAblock block l).eventTo d code detail result).arow block row = x ∧
      (((s.setArow block row x).setAblock block l).eventTo d code detail result).ablock block = l := by
  have assoc : (((s.setArow block row x).setAblock block l).eventTo d code detail result).assoc =
    ((s.setArow block row x).setAblock block l).assoc := by simp
  constructor
  · rw [State.arow, assoc]
    exact s.setArow_same _ _ _
  · rw [State.ablock, assoc]
    exact (s.setArow block row x).setAblock_same _ _

theorem exec_assocScrub_bad (hblock : block < 32) (hrow : row < 8192) (hup : (s.at_ t).healthy 6 block = true) :
    exec (.assocScrub t block row true) s = .next (
      let x := (s.at_ t).arow block row
      let n := ((s.at_ t).ablock block).errors + 1
      ((((s.at_ t).settleBlock block).setArow block row { x with bad := true, valid := false, held := x.valid || x.held }).setAblock block
        { errValid := true, errRepaired := false, errRow := row, errors := n }).eventTo ((s.at_ t).owner 4 block) 0x06F0
          (block + 32 * row) n) :=
  congrArg Host.Outcome.next (if_pos (by simp [hblock, hrow, hup]))

theorem exec_assocScrub_good : exec (.assocScrub t block row false) s = .next (s.at_ t) := rfl

/-- A repair whose array, where the block has one, has a slot free: `z` is the state with the slots taken. -/
theorem exec_assocRowRepair (hbad : ((s.at_ t).arow block row).bad = true)
    (hfree : ∀ k, (s.at_ t).arrayOf block = some k →
      (s.at_ t).assoc.searches = [] ∧ ((s.at_ t).array k).nextSlot ≤ (s.at_ t).cclk) :
    ∃ z : State, exec (.assocRowRepair t block row) s = .next (
      let l := (s.at_ t).ablock block
      ((z.setArow block row ((s.at_ t).arow block row).restored).setAblock block
        { l with errRepaired := if l.errRow = row then true else l.errRepaired }).eventTo (z.owner 4 block) 0x06F0
          (block + 32 * row + 2 ^ 18) l.errors) := by
  cases harray : (s.at_ t).arrayOf block with
  | none =>
    refine ⟨s.at_ t, ?_⟩
    simp only [exec, execAssocRowRepair, hbad, harray, if_true]
  | some k =>
    obtain ⟨hs, hslot⟩ := hfree k harray
    refine ⟨(s.at_ t).slotsTaken k 2, ?_⟩
    simp only [exec, execAssocRowRepair, hbad, harray, if_true, State.takeSlots_free hs hslot]

end

/-- Settles O27: the cases of one update step and the two rows of R212. The clause on a bad record asks for the byte offset in full, while
the model, as R78, gives its low 16 bits. The offsets that fit are the model's own; for the others, those of record 373 and on, the clause
holds only because the state that it has answered may be any one (`State.exists_answer_eq`). -/
theorem assocEnginesComplete : Obligations.AssocEnginesComplete := by
  unfold Obligations.AssocEnginesComplete
  refine ⟨?clear, ?write, ?validate, ?invalidate, ?idle, ?waits, ?bad, ?scrub, ?scrubGood, ?repair⟩
  case clear =>
    rintro k a w r t s ⟨rfl, -, hw, hs, hslot, hr, hinv, hstep, hok, hon⟩
    obtain rfl : r = w.record := hr
    have hrow := AWork.record_row_lt hok
    refine ⟨_, exec_assocUpdateStep_clear hw hs hslot hinv hstep hok hon, fun b hb => ?_, fun b q hq h => ?_, ?_, ?_⟩
    · rw [State.setArray_arow, State.setValid_arow_mem hrow hb]
      exact ⟨rfl, rfl, rfl⟩
    · exact State.setValid_arow_other hrow hq h _
    · rw [State.setArray_same]
    · exact State.setValid_host _ _ _ _
  case write =>
    rintro k a w r t s ⟨rfl, -, hw, hs, hslot, hr, hinv, hstep, hok, hoff⟩
    obtain rfl : r = w.record := hr
    have hrow := AWork.record_row_lt hok
    refine ⟨_, exec_assocUpdateStep_write hw hs hslot hinv hstep hok hoff, fun j hj => ?_, fun b q hq h => ?_, ?_, ?_⟩
    · exact State.writeArow_arow_mem hrow hj _
    · exact State.writeArow_arow_other hrow hq h _
    · rw [State.setArray_same]
    · exact State.writeArow_host _ _ _
  case validate =>
    rintro k a w r t s ⟨rfl, -, hw, hs, hslot, hr, hinv, hstep, htag, hlast, hlater, hrow⟩
    obtain rfl : r = w.record := hr
    have row := exec_assocUpdateStep_validate hw hs hslot hinv hstep htag
    have alone : ((((s.at_ t).slotsTaken k 1).setValid ((s.at_ t).array k) w.record true).array k).later = [] := by
      rwa [State.setValid_array, State.slotsTaken_later]
    rw [State.nextRecord_last hlast, State.endUpdate_alone alone, hlast] at row
    refine ⟨_, row, _, rfl, fun b hb => ?_, fun b q hq h => ?_, ?_⟩
    · rw [State.setArray_arow, State.setValid_arow_mem hrow hb]
    · exact State.setValid_arow_other hrow hq h _
    · rw [State.setArray_same]
  case invalidate =>
    rintro k a w r t s ⟨rfl, -, hw, hs, hslot, hr, hinv, hstep, hok, hmore⟩
    obtain rfl : r = w.record := hr
    have hrow := AWork.record_row_lt hok
    have row := exec_assocUpdateStep_invalidate hw hs hslot hinv hstep hok
    rw [State.nextRecord_more hmore] at row
    refine ⟨_, row, fun b hb => ?_, fun b q hq h => ?_, ?_, ?_⟩
    · rw [State.setArray_arow, State.setValid_arow_mem hrow hb]
      exact ⟨rfl, rfl, rfl⟩
    · exact State.setValid_arow_other hrow hq h _
    · rw [State.setArray_same]
    · exact State.setValid_host _ _ _ _
  case idle =>
    rintro k a t s ⟨rfl, hidle⟩
    exact ⟨_, exec_assocUpdateStep_idle hidle, rfl⟩
  case waits =>
    rintro k a w t s ⟨rfl, hw, hwait⟩
    exact ⟨_, exec_assocUpdateStep_waits hw hwait, rfl⟩
  case bad =>
    rintro k a w t s ⟨rfl, -, hw, hs, hslot, hstep, hbad, hlater⟩
    have row := exec_assocUpdateStep_bad hw hs hslot hstep hbad hlater
    by_cases fits : 176 * w.index < 65536
    · rw [badBuffer, Nat.mod_eq_of_lt fits] at row
      exact ⟨_, row, _, rfl, rfl, by rw [State.setArray_same]⟩
    · obtain ⟨x, hx, hassoc⟩ := State.exists_answer_eq _ w.cmd .invalidParam (0x02000000 + 176 * w.index) w.index []
      refine ⟨_, row, x, hx, ?_, ?_⟩
      · rw [hassoc, State.answer_assoc]
        rfl
      · rw [State.array_of_arrays (congrArg Assoc.arrays (hassoc.trans (State.answer_assoc _ _ _ _ _ _))), State.setArray_same]
  case scrub =>
    rintro block row bad t s ⟨rfl, hblock, hrow, hup⟩
    have reads := State.logged_reads ((s.at_ t).settleBlock block) block row
    refine ⟨_, exec_assocScrub_bad hblock hrow hup, ?_⟩
    simp only [reads, and_self]
  case scrubGood =>
    rintro block row bad t s rfl
    exact ⟨_, exec_assocScrub_good, rfl⟩
  case repair =>
    rintro block row t s ⟨hbad, herr, hfree⟩
    obtain ⟨z, repaired⟩ := exec_assocRowRepair hbad hfree
    have reads := State.logged_reads z block row
    refine ⟨_, repaired, ?_⟩
    simp only [reads, herr, ARow.restored, hbad, if_true, and_self]

end Sys2Proof.Machine
end


section
/-! SUPPORT for O28. Scout's cache and segments (R240–R242, R250, R251): what a read of an entry gives after a fill, after entries are
dropped, and after segments move. -/

namespace Sys2Proof.Machine

set_option Elab.async false

variable {s : State} {c d b k : Nat} {f : Fill}

/-! ### Selected rows -/

/-- A row whose number no listed row has holds the default. -/
theorem look_of_not_listed {α : Type} {m : Sparse α} {k : Nat} (h : ∀ r ∈ m, r.1 ≠ k) (d : α) : look m k d = d :=
  Classical.byContradiction fun hv => h _ (mem_of_look rfl hv) rfl

/-- A read of a table in canonical form whose rows are selected by number and content. -/
theorem look_keepRows_of_canon {α : Type} [DecidableEq α] {d : α} {m : Sparse α} (hm : canon d m = true) (p : Nat → α → Bool)
    (k : Nat) : look (keepRows m p) k d = if p k (look m k d) then look m k d else d := by
  induction m with
  | nil => exact (ite_self d).symm
  | cons r m ih =>
    obtain ⟨i, a⟩ := r
    obtain ⟨-, above, hm⟩ := (canon_cons d i a m).1 hm
    by_cases hik : i = k
    · subst hik
      have tail : look (keepRows m p) i d = d :=
        look_of_not_listed (fun r hr => Nat.ne_of_gt (above r (List.mem_filter.1 hr).1)) d
      by_cases hp : p i a = true
      · simp [keepRows, look, hp]
      · simp only [keepRows, List.filter_cons, hp, look, if_true, Bool.false_eq_true, if_false]
        exact tail
    · by_cases hp : p i a = true
      · simpa [keepRows, look, hp, hik] using ih hm
      · simpa [keepRows, look, hp, hik] using ih hm

/-! ### Dropped entries (R251) -/

/-- What a drop leaves: the entries that it does not pick, and counts. -/
theorem State.scoutDrop_eq (s : State) (counted : Bool) (p : Nat → SEntry → Bool) : ∃ n, s.scoutDrop counted p =
    { s with scout := { s.scout with cache := keepRows s.scout.cache fun k e => !p k e, stats := n } } := by
  unfold State.scoutDrop
  dsimp only
  split
  · refine each_inv _ (fun z : State => ∃ n, z =
      { s with scout := { s.scout with cache := keepRows s.scout.cache fun k e => !p k e, stats := n } }) ?_ _ _ ⟨s.scout.stats, rfl⟩
    rintro r _ ⟨n, rfl⟩
    exact ⟨_, rfl⟩
  · exact ⟨s.scout.stats, rfl⟩

theorem State.scoutDrop_cache (s : State) (counted : Bool) (p : Nat → SEntry → Bool) :
    (s.scoutDrop counted p).scout.cache = keepRows s.scout.cache fun k e => !p k e := by
  obtain ⟨n, hn⟩ := s.scoutDrop_eq counted p
  rw [hn]

theorem State.scoutDrop_segOwner (s : State) (counted : Bool) (p : Nat → SEntry → Bool) (g : Nat) :
    (s.scoutDrop counted p).segOwner g = s.segOwner g := by
  obtain ⟨n, hn⟩ := s.scoutDrop_eq counted p
  rw [hn]
  rfl

/-- The entries that a drop picks are empty after it, and the others unchanged. -/
theorem State.scoutDrop_sentry (hcanon : canon {} s.scout.cache = true) (counted : Bool) (p : Nat → SEntry → Bool) (k : Nat) :
    (s.scoutDrop counted p).sentry k = if p k (s.sentry k) then {} else s.sentry k := by
  have row := look_keepRows_of_canon hcanon (fun k e => !p k e) k
  rw [← State.scoutDrop_cache s counted p] at row
  refine row.trans ?_
  by_cases h : p k (s.sentry k) = true
  · rw [if_pos h, if_neg (by simpa [State.sentry] using h)]
  · rw [if_neg h, if_pos (by simpa [State.sentry] using h)]
    rfl

/-- A drop that picks rows by their number needs no canonical form. -/
theorem State.scoutDrop_sentry_number (s : State) (counted : Bool) (p : Nat → Bool) (k : Nat) :
    (s.scoutDrop counted fun k _ => p k).sentry k = if p k then {} else s.sentry k := by
  have row := look_filter_number s.scout.cache (fun i => !p i) k {}
  have cache := s.scoutDrop_cache counted fun k _ => p k
  refine (congrArg (fun m : Sparse SEntry => look m k {}) cache).trans (row.trans ?_)
  cases p k <;> rfl

/-! ### Segments that move (R242) -/

theorem State.moveSegment_segOwner (d g : Nat) (s : State) (j : Nat) :
    (State.moveSegment d g s).segOwner j = if j = g then d else s.segOwner j := by
  unfold State.moveSegment
  split
  · rename_i own
    split
    · rename_i hj
      rw [hj, own]
    · rfl
  · rw [State.scoutDrop_segOwner]
    exact look_put _ _ _ _ _

theorem State.moveSegment_sentry (d g : Nat) (s : State) (k : Nat) :
    (State.moveSegment d g s).sentry k = if segOf k = g ∧ s.segOwner g ≠ d then {} else s.sentry k := by
  unfold State.moveSegment
  by_cases own : s.segOwner g = d
  · rw [if_pos own, if_neg fun h => h.2 own]
  · rw [if_neg own, State.scoutDrop_sentry_number _ _ (fun k => segOf k = g)]
    simp only [decide_eq_true_eq, own, ne_eq, not_false_eq_true, and_true]
    rfl

theorem each_moveSegment_segOwner (d : Nat) (l : List Nat) (s : State) (g : Nat) :
    (each (State.moveSegment d) l s).segOwner g = if g ∈ l then d else s.segOwner g := by
  induction l generalizing s with
  | nil => rfl
  | cons a l ih =>
    rw [each_cons, ih, State.moveSegment_segOwner]
    by_cases hg : g = a
    · simp [hg]
    · simp [hg]

/-- Segments that move lose their entries; those that were the domain's already keep them. -/
theorem each_moveSegment_sentry (d : Nat) (l : List Nat) (s : State) (k : Nat) : (each (State.moveSegment d) l s).sentry k =
    if segOf k ∈ l ∧ s.segOwner (segOf k) ≠ d then {} else s.sentry k := by
  induction l generalizing s with
  | nil => simp
  | cons a l ih =>
    rw [each_cons, ih, State.moveSegment_segOwner, State.moveSegment_sentry]
    by_cases hk : segOf k = a
    · simp [hk]
    · simp [hk]

/-! ### Fills (R250) -/

/-- The way that a fill takes in the set at `b`: the one that holds its signature, else the least recently used. -/
def State.fillWay (s : State) (c b : Nat) (f : Fill) : Nat := (s.findWay c f.domain f.sig f.template).getD (s.victim b)

/-- The victim is one of the four ways of its set. -/
theorem State.victim_way (s : State) (b : Nat) : ∃ w, w < 4 ∧ s.victim b = b + w := by
  unfold State.victim
  dsimp only
  refine List.foldlRecOn (motive := fun v => ∃ w, w < 4 ∧ v = b + w) _ _ ⟨0, by decide, rfl⟩ fun v hv a ha => ?_
  refine iteInduction (motive := fun v => ∃ w, w < 4 ∧ v = b + w) (fun _ => ?_) fun _ => hv
  simp only [List.mem_cons, List.not_mem_nil, or_false] at ha
  rcases ha with rfl | rfl | rfl
  · exact ⟨1, by decide, rfl⟩
  · exact ⟨2, by decide, rfl⟩
  · exact ⟨3, by decide, rfl⟩

theorem State.countDomain_sentry (s : State) (d j k : Nat) : (s.countDomain d j).sentry k = s.sentry k := by
  simp only [State.sentry, State.countDomain_rest]

/-- A way that is used stays as it is but for its place in its set's order. -/
theorem State.touch_sentry (s : State) (k j : Nat) :
    (s.touch k).sentry j = if j = k then { s.sentry k with used := s.scout.uses + 1 } else s.sentry j :=
  look_put _ _ _ _ _

theorem State.fillWay_held (h : s.findWay c f.domain f.sig f.template = some k) : s.fillWay c b f = k := by
  rw [State.fillWay, h, Option.getD_some]

theorem State.fillWay_new (h : s.findWay c f.domain f.sig f.template = none) : ∃ w, w < 4 ∧ s.fillWay c b f = b + w := by
  rw [State.fillWay, h, Option.getD_none]
  exact s.victim_way b

/-- The entry that a fill writes; `n` orders its set by use. -/
def Fill.entry (f : Fill) (n : Nat) : SEntry :=
  { valid := true, sig := f.sig, template := f.template, domain := f.domain, bundle := f.bundle, used := n }

/-- A fill of a domain that owns a segment writes its entry into its way alone. -/
theorem State.applyFill_sentry (hset : s.setBase c f.domain f.sig = some b) (k : Nat) : (s.applyFill c f).sentry k =
    if k = s.fillWay c b f then f.entry (s.scout.uses + 1) else s.sentry k := by
  simp only [State.applyFill, hset]
  refine (State.countDomain_sentry _ _ _ _).trans ((State.touch_sentry _ _ _).trans (ite_congr rfl (fun _ => ?_) fun h => ?_))
  · rw [State.setSentry_same]
    rfl
  · exact (State.setSentry_sentry _ _ _ _).trans (if_neg h)

theorem State.applyFill_fills (s : State) (c : Nat) (f : Fill) : (s.applyFill c f).scout.fills = s.scout.fills := by
  unfold State.applyFill
  dsimp only
  split
  · rfl
  · simp only [State.countDomain_rest]
    rfl

theorem State.applyFill_none (hset : s.setBase c f.domain f.sig = none) : s.applyFill c f = s := by
  simp only [State.applyFill, hset]

end Sys2Proof.Machine
end


section
/-! SUPPORT for O28. What Scout's answer and a squash make of a thread (R244–R248), and that a pass that a fault ends stays ended. -/

namespace Sys2Proof.Machine

set_option Elab.async false

variable {s a : State} {th : ThreadId} {c k : Nat}

/-! ### What leaves threads and packets alone -/

theorem State.thread_of_eng (h : a.eng = s.eng) (th : ThreadId) : a.thread th = s.thread th := by
  rw [State.thread, State.thread, h]

/-- What stays within the engines leaves the packets alone. -/
theorem Within.pkts (h : Within .eng s a) : a.pkts = s.pkts := h.same.2 .pkts (by decide) (by decide)

theorem State.thread_ite {p : Prop} [Decidable p] {x y : State} (hx : x.thread th = s.thread th) (hy : y.thread th = s.thread th) :
    (if p then x else y).thread th = s.thread th := by
  split
  · exact hx
  · exact hy

/-- The ALLWAIT detector notes what it sees in its cluster alone. -/
theorem State.quietAt_thread (s : State) (c : Nat) (th : ThreadId) : (s.quietAt c).thread th = s.thread th :=
  State.thread_ite (State.thread_ite rfl rfl) (State.thread_ite rfl rfl)

@[simp] theorem State.count_thread (s : State) (i n : Nat) (th : ThreadId) : (s.count i n).thread th = s.thread th :=
  State.thread_of_eng (by simp) th

@[simp] theorem State.countDomain_thread (s : State) (d j : Nat) (th : ThreadId) : (s.countDomain d j).thread th = s.thread th :=
  State.thread_of_eng (by simp) th

theorem State.setScout_thread (s : State) (x : Scout) (th : ThreadId) : State.thread { s with scout := x } th = s.thread th := rfl

@[simp] theorem State.countScout_thread (s : State) (c d i n : Nat) (th : ThreadId) :
    (s.countScout c d i n).thread th = s.thread th := rfl

@[simp] theorem State.countScout_pkts (s : State) (c d i n : Nat) : (s.countScout c d i n).pkts = s.pkts := rfl

/-! ### Scout's answer (R241, R244) -/

theorem Thread.putBundle_regs (x : Thread) (b : Nat) : look (x.putBundle b).regs 62 0 = b % 2 ^ 64 ∧
    look (x.putBundle b).regs 63 0 = b / 2 ^ 64 ∧ ∀ r, r ≠ 62 → r ≠ 63 → look (x.putBundle b).regs r 0 = look x.regs r 0 := by
  refine ⟨?_, look_put_same _ _ _ _, fun r h62 h63 => ?_⟩
  · exact (look_put_ne _ (by decide) _ _ _).trans (look_put_same _ _ _ _)
  · exact (look_put_ne _ h63 _ _ _).trans (look_put_ne _ h62 _ _ _)

/-- A thread that has had Scout's answer. -/
def Thread.probed (x : Thread) : Thread := { x with spec := { x.spec with due := none, probed := true } }

/-- The checkpoint of a thread (R245). -/
def Thread.checkpoint (x : Thread) : Checkpoint :=
  { pc := x.pc, regs := x.regs, mask := x.mask, watch := x.watch, timer := x.timer, issued := x.issued }

/-- A thread that runs ahead with the bundle of the way `k` (R244, R245). -/
def Thread.ahead (x : Thread) (bundle k : Nat) (cmp : Compare) : Thread :=
  Thread.putBundle
    { x.probed with
      spec := { x.probed.spec with found := some (bundle, k), prov := true, ckpt := some x.checkpoint, compare := cmp } } bundle

/-- The comparison's outcome is all that a look at it changes. -/
theorem State.noteCompare_thread (s : State) (th : ThreadId) : ∃ cmp, (s.noteCompare th).thread th =
    { s.thread th with spec := { (s.thread th).spec with compare := cmp } } := by
  unfold State.noteCompare
  dsimp only
  split
  · exact ⟨_, rfl⟩
  · split
    · exact ⟨_, State.setThread_same _ _ _⟩
    · exact ⟨_, rfl⟩

/-- Scout has no prediction: it is off for the thread, its domain owns no segment, its template is disabled, it parsed the outer headers
only, or no way holds its signature. -/
def State.NoPrediction (s : State) (th : ThreadId) (hv : Bytes) : Prop :=
  (s.thread th).spec.enabled = false ∨ s.segsOf (s.thread th).domain = [] ∨ (s.tplOf (s.thread th)).enabled = false ∨
    outerOnly hv = true ∨ s.findWay th.cluster (s.thread th).domain (s.thread th).spec.sig (s.thread th).spec.template = none

/-- Without a prediction the bundle is what has returned (R239). -/
theorem State.scoutAnswer_miss {hv : Bytes} (h : s.NoPrediction th hv) : (s.scoutAnswer th hv).thread th =
    (s.thread th).probed.putBundle (assemble (s.tplOf (s.thread th)) (s.thread th).got) := by
  unfold State.scoutAnswer
  dsimp only
  split
  · exact State.setThread_same _ _ _
  · rename_i looks
    have way : (s.countScout th.cluster (s.thread th).domain 0 1).findWay th.cluster (s.thread th).domain (s.thread th).spec.sig
        (s.thread th).spec.template = none := by
      simp only [Bool.or_eq_true, Bool.not_eq_true', decide_eq_true_eq, not_or] at looks
      obtain ⟨⟨⟨on, owns⟩, enabled⟩, inner⟩ := looks
      exact (((h.resolve_left on).resolve_left owns).resolve_left enabled).resolve_left inner
    rw [way]
    exact State.setThread_same _ _ _

/-- With one the thread runs ahead. -/
theorem State.scoutAnswer_hit {hv : Bytes} (on : (s.thread th).spec.enabled = true) (owns : s.segsOf (s.thread th).domain ≠ [])
    (enabled : (s.tplOf (s.thread th)).enabled = true) (inner : outerOnly hv = false)
    (way : s.findWay th.cluster (s.thread th).domain (s.thread th).spec.sig (s.thread th).spec.template = some k) :
    ∃ cmp, (s.scoutAnswer th hv).thread th = (s.thread th).ahead (s.sentry k).bundle k cmp := by
  have way' : (s.countScout th.cluster (s.thread th).domain 0 1).findWay th.cluster (s.thread th).domain (s.thread th).spec.sig
      (s.thread th).spec.template = some k := way
  unfold State.scoutAnswer
  dsimp only
  rw [if_neg (by simp [on, owns, enabled, inner]), way']
  obtain ⟨cmp, hcmp⟩ := State.noteCompare_thread _ th
  refine ⟨cmp, hcmp.trans ?_⟩
  rw [State.setThread_same]
  rfl

/-- A thread that waits for nothing and holds no fault has nothing to settle. -/
theorem State.settle_idle (hw : (s.thread th).waiting = .none) (hf : (s.thread th).spec.heldFault = none) : s.settle th = s := by
  simp [State.settle, hw, hf]

/-! ### A pass that a fault ends (R228) -/

theorem State.countDomain_pkt (s : State) (d j k : Nat) : (s.countDomain d j).pkt k = s.pkt k := pkt_congr (by simp) k

/-- A pass that starts marks its packet, and neither makes nor drops one. -/
theorem State.startPass_live (s : State) (th : ThreadId) (j k : Nat) : ((s.startPass th j).pkt k).live = (s.pkt k).live := by
  unfold State.startPass
  dsimp only
  rw [pkt_congr (quietAt_within _ _).pkts, State.countDomain_pkt, State.setPkt_pkt]
  split
  · rename_i hk
    rw [hk]
  · rfl

theorem State.setClusterQueue_pkts (s : State) (c : Nat) (egress : Bool) (l : List Nat) : (s.setClusterQueue c egress l).pkts = s.pkts := by
  cases egress <;> rfl

theorem State.feed_live (s : State) (c k : Nat) : ((s.feed c).pkt k).live = (s.pkt k).live := by
  unfold State.feed
  dsimp only
  split
  · rfl
  · split
    · rw [State.startPass_live, pkt_congr (State.setClusterQueue_pkts _ _ _ _)]
      split <;> rfl
    · split <;> rfl

theorem State.feedMany_live (c n : Nat) (s : State) (k : Nat) : ((State.feedMany c n s).pkt k).live = (s.pkt k).live := by
  induction n generalizing s with
  | zero => rfl
  | succ n ih =>
    unfold State.feedMany
    split
    · rfl
    · rw [ih, State.feed_live]

theorem State.retire_live (s : State) (th : ThreadId) (restart : Bool) (k : Nat) :
    ((s.retire th restart).pkt k).live = (s.pkt k).live :=
  State.feedMany_live _ _ _ _

/-- The packet of a pass that is dropped is gone. -/
theorem State.dropPass_pkt (s : State) (k : Nat) : (s.dropPass k).pkt k = {} := (dropPkt_pkt _ k k).trans (if_pos rfl)

/-- A fault ends the pass: the packet is gone when the thread retires, and no pass that starts then brings it back. -/
theorem State.takeFault_gone (hpass : (s.thread th).pass = some k) (code detail : Nat) :
    ((s.takeFault th code detail).pkt k).live = false := by
  have gone : ((((s.unstage th).channelMoved th.cluster).dropPass k).pkt k).live = false := by rw [State.dropPass_pkt]
  generalize hd : ((s.unstage th).channelMoved th.cluster).dropPass k = dropped at gone
  unfold State.takeFault
  dsimp only
  rw [State.retire_live, hpass]
  dsimp only
  rw [hd]
  refine (congrArg Packet.live (pkt_congr ?_ k)).trans gone
  split
  · simp only [State.eventTo_rest, apply_ite State.pkts, State.countDomain_rest, ite_self]
  · rw [(wakeCluster_within _ _).pkts]
    simp only [State.setCluster_rest, apply_ite State.pkts, State.countDomain_rest, ite_self]

/-! ### A squash (R247, R248) -/

/-- The provisional slots of a thread resolve. -/
theorem State.resolveSlots_thread (s : State) (th : ThreadId) (kept : Bool) : (s.resolveSlots th kept).thread th =
    { s.thread th with spec := { (s.thread th).spec with slots := 0 } } := by
  unfold State.resolveSlots
  dsimp only
  split <;> simp [State.ledger]

theorem State.resolveSlots_pkts (s : State) (th : ThreadId) (kept : Bool) : (s.resolveSlots th kept).pkts = s.pkts := by
  unfold State.resolveSlots
  dsimp only
  split <;> simp [State.ledger]

theorem look_restoreRegs (old new : Sparse Nat) {r : Nat} (h62 : r ≠ 62) (h63 : r ≠ 63) :
    look (restoreRegs old new) r 0 = look old r 0 :=
  (look_put_ne _ h63 _ _ _).trans (look_put_ne _ h62 _ _ _)

/-- What a squash makes of a thread `x` with the checkpoint `ck`: the thread `y` that replays. -/
structure Replays (x : Thread) (ck : Checkpoint) (y : Thread) : Prop where
  prov : y.spec.prov = false
  pc : y.pc = ck.pc
  mask : y.mask = ck.mask
  timer : y.timer = ck.timer
  issued : y.issued = ck.issued
  watch : y.watch = ck.watch
  mem : y.mem = unwind x.mem x.spec.undo
  slots : y.spec.slots = 0
  heldFault : y.spec.heldFault = none
  pass : y.pass = x.pass
  state : y.state = if x.state = .stopped then .stopped else .run
  before : x.state = .stopped → y.before = .run
  regs : ∀ r, r ≠ 62 → r ≠ 63 → look y.regs r 0 = look ck.regs r 0

/-- The end of a squash: after a comparison that timed out fault 0x09 follows, which a STOPPED thread holds (log entry 121) and another
takes. -/
def State.endSquash (s : State) (th : ThreadId) (stopped : Prop) [Decidable stopped] (timeout : Option Nat) : State :=
  match timeout with
  | some b =>
    if stopped then s.setThread th { s.thread th with spec := { (s.thread th).spec with heldFault := some (9, b) } }
    else s.takeFault th 9 b
  | none => s

/-- A squash restores the checkpoint and leaves the packets alone; where a request timed out, its fault follows. -/
theorem State.squash_replays {ck : Checkpoint} {other : Bool} {timeout : Option Nat} (hck : (s.thread th).spec.ckpt = some ck)
    (hcmp : (s.thread th).spec.compare = .unequal other timeout) : ∃ a : State, Replays (s.thread th) ck (a.thread th) ∧
      a.pkts = s.pkts ∧ s.squash th = a.endSquash th ((s.thread th).state = .stopped) timeout := by
  unfold State.squash
  dsimp only
  rw [State.resolveSlots_thread]
  simp only [hck, hcmp]
  refine ⟨_, ?_, ?_, rfl⟩
  · simp only [State.count_thread, State.countDomain_thread, State.setScout_thread, State.countScout_thread, State.setThread_same]
    exact {
      prov := rfl
      pc := rfl
      mask := rfl
      timer := rfl
      issued := rfl
      watch := rfl
      mem := rfl
      slots := rfl
      heldFault := rfl
      pass := rfl
      state := rfl
      before := fun h => if_pos h
      regs := fun r h62 h63 =>
        ((Thread.putBundle_regs _ _).2.2 r h62 h63).trans (look_restoreRegs _ _ h62 h63) }
  · simp only [State.count_rest, State.countDomain_rest, State.countScout_pkts, State.setThread_rest, State.resolveSlots_pkts]

end Sys2Proof.Machine
end


section
/-! SUPPORT for O28. The rows of Scout (R242, R244, R247, R250–R253), and the obligation. -/

namespace Sys2Proof.Machine

set_option Elab.async false

variable {s : State} {t : Nat} {th : ThreadId} {c : Cmd}

/-! ### SCOUT_DELIVER (R244) -/

/-- At its instant Scout's answer is all that becomes of a thread that waits for nothing and holds no fault. -/
theorem scoutDeliver_thread {d k : Nat} {y : Thread} (hdue : ((s.at_ t).thread th).spec.due = some d) (hd : d ≤ (s.at_ t).now)
    (hpass : ((s.at_ t).thread th).pass = some k)
    (hy : ((s.at_ t).scoutAnswer th ((s.at_ t).pkt k).hv).thread th = y) (hw : y.waiting = .none) (hf : y.spec.heldFault = none) :
    ∃ s', exec (.scoutDeliver t th) s = .next s' ∧ s'.thread th = y := by
  have settled : ((s.at_ t).scoutAnswer th ((s.at_ t).pkt k).hv).settle th = (s.at_ t).scoutAnswer th ((s.at_ t).pkt k).hv :=
    State.settle_idle (hy ▸ hw) (hy ▸ hf)
  refine ⟨_, rfl, ?_⟩
  simp only [hdue, hpass, hd, if_true, settled, State.quietAt_thread, hy]

theorem exec_scoutDeliver_early {d : Nat} (hdue : ((s.at_ t).thread th).spec.due = some d) (hd : (s.at_ t).now < d) :
    exec (.scoutDeliver t th) s = .next (s.at_ t) := by
  cases hpass : ((s.at_ t).thread th).pass with
  | none => simp only [exec, execScoutDeliver, hdue, hpass]
  | some k => simp only [exec, execScoutDeliver, hdue, hpass, Nat.not_le.2 hd, if_false]

/-! ### SQUASH (R247) -/

theorem exec_squash {other : Bool} {timeout : Option Nat} (hprov : ((s.at_ t).thread th).spec.prov = true)
    (hcmp : ((s.at_ t).thread th).spec.compare = .unequal other timeout) :
    exec (.squash t th) s = .next (((s.at_ t).squash th).quietAt th.cluster) := by
  simp only [exec, execSquash, hprov, hcmp, if_true]

/-! ### SCOUT_FILL (R250) -/

/-- The fill queue of a cluster becomes `l`. -/
def State.setFills (s : State) (cluster : Nat) (l : List Fill) : State :=
  { s with scout := { s.scout with fills := put s.scout.fills cluster [] l } }

theorem exec_scoutFill {cluster : Nat} {f : Fill} {l : List Fill} (hq : look (s.at_ t).scout.fills cluster [] = f :: l) :
    exec (.scoutFill t cluster) s = .next (((s.at_ t).setFills cluster l).applyFill cluster f) := by
  simp only [exec, execScoutFill, hq]
  rfl

/-- A fill leaves the queue of its cluster. -/
theorem State.setFills_applyFill_fills (s : State) (cluster : Nat) (f : Fill) (l : List Fill) :
    look ((s.setFills cluster l).applyFill cluster f).scout.fills cluster [] = l := by
  rw [State.applyFill_fills]
  exact look_put_same _ _ _ _

/-! ### SCOUT_ALARM_INTERVAL (R253) -/

theorem exec_scoutAlarmInterval_early (h : (s.at_ t).now / 6000000 ≤ (s.at_ t).scout.interval) :
    exec (.scoutAlarmInterval t) s = .next (s.at_ t) :=
  congrArg Host.Outcome.next (if_pos h)

/-- An alarm is an event alone. -/
theorem State.alarm_rest (k : Nat) (s : State) : (State.alarm k s).scout = s.scout ∧ (State.alarm k s).now = s.now := by
  have only : State.alarm k s = { s with host := (State.alarm k s).host } := alarm_onlyHost k s
  rw [only]
  exact ⟨rfl, rfl⟩

theorem exec_scoutAlarmInterval_due (h : (s.at_ t).scout.interval < (s.at_ t).now / 6000000) :
    ∃ s', exec (.scoutAlarmInterval t) s = .next s' ∧
      s'.scout = { (s.at_ t).scout with hits := [], squashes := [], interval := (s.at_ t).now / 6000000 } := by
  refine ⟨_, congrArg Host.Outcome.next (if_neg (Nat.not_le.2 h)), ?_⟩
  have scout := each_keeps State.alarm State.scout (fun k z => (State.alarm_rest k z).1) (List.range 512) (s.at_ t)
  have now := each_keeps State.alarm State.now (fun k z => (State.alarm_rest k z).2) (List.range 512) (s.at_ t)
  simp only [scout, now]
  rfl

/-! ### The commands (R242, R251–R253) -/

theorem exec_scoutPartition (hr : ready (s.at_ t) c 0x0780 .d0 = true) (hdom : c.u8 16 < 16)
    (hlive : ((s.at_ t).domain (c.u8 16)).live = true) (hfirst : c.u8 17 < 64) (hone : 1 ≤ c.u8 18) (hmax : c.u8 18 ≤ 64)
    (hlast : c.u8 17 + c.u8 18 ≤ 64) (hz : c.zeros 19 45 = none) :
    exec (.scoutPartition t c) s =
      .next ((each (State.moveSegment (c.u8 16)) (rangeOf (c.u8 17) (c.u8 18)) (s.at_ t)).answer c .ok 0 0 []) :=
  congrArg Host.Outcome.next
    (command_ok _ _ _ _ _ _ _ hr (by simp [at_, need, hdom, hlive, hfirst, hone, hmax, hlast, hz]))

/-- A domain's settings become `x`. -/
def State.setScoutDom (s : State) (d : Nat) (x : ScoutDom) : State :=
  { s with scout := { s.scout with doms := put s.scout.doms d {} x } }

theorem exec_scoutConfig (hr : ready (s.at_ t) c 0x0781 .any = true) (hon : c.u8 16 ≤ 1) (hfill : c.u8 17 ≤ 1)
    (halarm : c.u16 18 ≤ 1000) (hz : c.zeros 20 44 = none) :
    exec (.scoutConfig t c) s = .next (((s.at_ t).setScoutDom c.domain
      { enable := c.u8 16 = 1, fill := c.u8 17 = 1, alarm := c.u16 18 }).answer c .ok 0 0 []) :=
  congrArg Host.Outcome.next (command_ok _ _ _ _ _ _ _ hr (by simp [at_, need, hon, hfill, halarm, hz]))

/-- The entries of a template that is enabled are dropped. -/
def State.dropTemplate (s : State) (d k : Nat) : State :=
  if (s.template d k).enabled then s.scoutDrop true fun _ e => e.domain = d && e.template = k else s

theorem State.dropTemplate_sentry (hcanon : canon {} s.scout.cache = true) (d i k : Nat) : (s.dropTemplate d i).sentry k =
    if (s.template d i).enabled = true ∧ (s.sentry k).domain = d ∧ (s.sentry k).template = i then {} else s.sentry k := by
  unfold State.dropTemplate
  by_cases on : (s.template d i).enabled = true
  · rw [if_pos on, State.scoutDrop_sentry hcanon]
    simp only [on, true_and, Bool.and_eq_true, decide_eq_true_eq]
  · rw [if_neg on, if_neg fun h => on h.1]

/-- A template of a domain becomes `x`. -/
def State.setTemplate (s : State) (d i : Nat) (x : Template) : State :=
  { s with scout := { s.scout with templates := put s.scout.templates (d * 32 + i) {} x } }

theorem exec_scoutTemplate (hr : ready (s.at_ t) c 0x0782 .any = true) (hbusy : (s.at_ t).busyErr c = none)
    (he : firstErr (scoutTemplateErrs c) = none) :
    exec (.scoutTemplate t c) s =
      .next ((((s.at_ t).dropTemplate c.domain (c.u8 16)).setTemplate c.domain (c.u8 16) (cmdTemplate c)).answer c .ok 0 0 []) :=
  congrArg Host.Outcome.next (command_ok _ _ _ _ _ _ _ hr (by rw [hbusy, firstErr_cons_none, he]))

theorem exec_scoutInvalidate (hr : ready (s.at_ t) c 0x0783 .any = true) (hbusy : (s.at_ t).busyErr c = none) (hop : c.u8 16 ≤ 3)
    (htpl : c.u8 16 = 1 → c.u8 17 < 32) (hport : c.u8 16 = 3 → (s.at_ t).ownErr c 1 (c.u8 17) = none) (hz : c.zeros 18 6 = none)
    (hz' : c.zeros 32 32 = none) :
    exec (.scoutInvalidate t c) s = .next (((s.at_ t).scoutDrop true fun _ e => inScope c e).answer c .ok 0 0 []) := by
  refine congrArg Host.Outcome.next (command_ok _ _ _ _ _ _ _ hr ?_)
  by_cases tpl : c.u8 16 = 1
  · simp [hbusy, at_, need, tpl, htpl tpl, hz, hz']
  · by_cases port : c.u8 16 = 3
    · simp [hbusy, at_, need, port, hport port, hz, hz']
    · simp [hbusy, at_, need, hop, tpl, port, hz, hz']

/-- SCOUT_STATS clears the counters of the domain `d` that it reads: those of the cluster `cl`, or of all. -/
def State.clearStats (s : State) (clear : Prop) [Decidable clear] (cl d : Nat) : State :=
  if clear then
    { s with scout := { s.scout with stats := keepRows s.scout.stats fun k _ => !(k / 8 % 16 = d && (cl = 0xFF || k / 128 = cl)) } }
  else s

theorem State.clearStats_stats (s : State) (clear : Prop) [Decidable clear] (cl d k : Nat) :
    look (s.clearStats clear cl d).scout.stats k 0 =
      if clear ∧ k / 8 % 16 = d ∧ (cl = 0xFF ∨ k / 128 = cl) then 0 else look s.scout.stats k 0 := by
  unfold State.clearStats
  by_cases h : clear
  · rw [if_pos h]
    refine (look_filter_number s.scout.stats (fun k => !(k / 8 % 16 = d && (cl = 0xFF || k / 128 = cl))) k 0).trans ?_
    have mine : (k / 8 % 16 = d && (cl = 0xFF || k / 128 = cl)) = true ↔ k / 8 % 16 = d ∧ (cl = 0xFF ∨ k / 128 = cl) := by
      simp only [Bool.and_eq_true, Bool.or_eq_true, decide_eq_true_eq]
    simp only [h, true_and, ← mine]
    generalize (k / 8 % 16 = d && (cl = 0xFF || k / 128 = cl)) = counted
    cases counted <;> rfl
  · rw [if_neg h, if_neg fun both => h both.1]

theorem State.clearStats_cache (s : State) (clear : Prop) [Decidable clear] (cl d : Nat) :
    (s.clearStats clear cl d).scout.cache = s.scout.cache := by
  unfold State.clearStats
  split <;> rfl

theorem exec_scoutStats (hr : ready (s.at_ t) c 0x0784 .any = true) (hreply : c.needReply = none)
    (hcl : c.u8 16 = 0xFF ∨ (c.u8 16 < 32 ∧ (s.at_ t).healthy 4 (c.u8 16) = true)) (hclear : c.u8 17 ≤ 1) (hz : c.zeros 18 46 = none) :
    exec (.scoutStats t c) s = .next (((s.at_ t).clearStats (c.u8 17 = 1) (c.u8 16) c.domain).answer c .ok 0 64
      ((s.at_ t).scoutStats (c.u8 16) c.domain)) := by
  refine congrArg Host.Outcome.next (command_ok _ _ _ _ _ _ _ hr ?_)
  rcases hcl with hall | ⟨hlt, hup⟩
  · simp [hreply, at_, need, hall, hclear, hz]
  · simp [hreply, at_, need, hlt, hup, hclear, hz]

/-- Settles O28: each clause is its row's rule above. That a STOPPED thread holds the fault of a squash until it resumes is the model's
choice (log entry 121): R247 has the replay take it. -/
theorem scoutCompletes : Obligations.ScoutCompletes := by
  unfold Obligations.ScoutCompletes
  refine ⟨?hit, ?miss, ?early, ?squash, ?timeout, ?stopped, ?fill, ?fillNew, ?fillNowhere, ?alarmEarly, ?alarm, ?partition, ?config,
    ?template, ?invalidate, ?stats⟩
  case hit =>
    rintro th d k w t s ⟨hdue, hd, hpass, -, hw, hf, on, owns, enabled, inner, way⟩
    obtain ⟨cmp, hthread⟩ := State.scoutAnswer_hit on owns enabled inner way
    obtain ⟨s', hexec, hs'⟩ := scoutDeliver_thread hdue hd hpass hthread hw hf
    obtain ⟨h62, h63, hregs⟩ := Thread.putBundle_regs ((s.at_ t).thread th) ((s.at_ t).sentry w).bundle
    refine ⟨s', hexec, ?_⟩
    dsimp only
    rw [hs']
    exact ⟨rfl, h62, h63, hregs, rfl, rfl⟩
  case miss =>
    rintro th d k t s ⟨hdue, hd, hpass, hw, hf, hmiss⟩
    obtain ⟨s', hexec, hs'⟩ := scoutDeliver_thread hdue hd hpass (State.scoutAnswer_miss hmiss) hw hf
    obtain ⟨h62, h63, hregs⟩ := Thread.putBundle_regs ((s.at_ t).thread th)
      (assemble ((s.at_ t).tplOf ((s.at_ t).thread th)) ((s.at_ t).thread th).got)
    refine ⟨s', hexec, ?_⟩
    dsimp only
    rw [hs']
    exact ⟨rfl, h62, h63, rfl, rfl, hregs⟩
  case early =>
    rintro th d t s ⟨hdue, hd⟩
    exact ⟨_, exec_scoutDeliver_early hdue hd, rfl⟩
  case squash =>
    rintro th other ck t s ⟨hprov, hcmp, hck, hrun⟩
    obtain ⟨a, h, hpkts, hsquash⟩ := State.squash_replays hck hcmp
    refine ⟨_, exec_squash hprov hcmp, ?_⟩
    dsimp only
    rw [hsquash, State.quietAt_thread, (quietAt_within _ _).pkts]
    exact ⟨h.prov, h.pc, h.mask, h.timer, h.issued, h.watch, h.mem, h.slots, h.heldFault, h.pass, h.state.trans (if_neg hrun),
      h.regs, hpkts⟩
  case timeout =>
    rintro th other b ck k t s ⟨hprov, hcmp, hck, hrun, hpass⟩
    obtain ⟨a, h, -, hsquash⟩ := State.squash_replays hck hcmp
    refine ⟨_, exec_squash hprov hcmp, ?_⟩
    dsimp only
    rw [hsquash, pkt_congr (quietAt_within _ _).pkts, State.endSquash, if_neg hrun]
    exact State.takeFault_gone (h.pass.trans hpass) 9 b
  case stopped =>
    rintro th other b ck t s ⟨hprov, hcmp, hck, hstop⟩
    obtain ⟨a, h, hpkts, hsquash⟩ := State.squash_replays hck hcmp
    refine ⟨_, exec_squash hprov hcmp, ?_⟩
    dsimp only
    rw [hsquash, State.quietAt_thread, (quietAt_within _ _).pkts, State.endSquash, if_pos hstop, State.setThread_same]
    exact ⟨rfl, h.state.trans (if_pos hstop), h.before hstop, h.pc, h.prov, hpkts⟩
  case fill =>
    rintro cluster f l b k t s ⟨hq, hset, hway⟩
    have row := State.applyFill_sentry (s := (s.at_ t).setFills cluster l) hset k
    rw [State.fillWay_held (s := (s.at_ t).setFills cluster l) hway, if_pos rfl] at row
    refine ⟨_, exec_scoutFill hq, State.setFills_applyFill_fills _ _ _ _, ?_⟩
    rw [row]
    exact ⟨rfl, rfl, rfl, rfl, rfl⟩
  case fillNew =>
    rintro cluster f l b t s ⟨hq, hset, hway⟩
    have row := State.applyFill_sentry (s := (s.at_ t).setFills cluster l) hset
    obtain ⟨w, hw, hnew⟩ := State.fillWay_new (s := (s.at_ t).setFills cluster l) (b := b) hway
    rw [hnew] at row
    refine ⟨_, exec_scoutFill hq, State.setFills_applyFill_fills _ _ _ _, w, hw, ?_⟩
    rw [row, if_pos rfl]
    exact ⟨rfl, rfl, rfl, rfl, fun k hk => (row k).trans (if_neg hk)⟩
  case fillNowhere =>
    rintro cluster f l t s ⟨hq, hset⟩
    refine ⟨_, exec_scoutFill hq, State.setFills_applyFill_fills _ _ _ _, ?_⟩
    rw [State.applyFill_none (s := (s.at_ t).setFills cluster l) hset]
    rfl
  case alarmEarly =>
    intro t s h
    exact ⟨_, exec_scoutAlarmInterval_early h, rfl⟩
  case alarm =>
    intro t s h
    obtain ⟨s', hexec, hscout⟩ := exec_scoutAlarmInterval_due h
    refine ⟨s', hexec, ?_⟩
    dsimp only
    rw [hscout]
    exact ⟨rfl, rfl, rfl, rfl⟩
  case partition =>
    rintro c t s ⟨hr, hdom, hlive, hfirst, hone, hmax, hlast, hz⟩
    refine ⟨_, exec_scoutPartition hr hdom hlive hfirst hone hmax hlast hz, _, rfl, fun g => ?_, fun k => ?_⟩
    · rw [each_moveSegment_segOwner]
      simp only [mem_rangeOf]
    · rw [each_moveSegment_sentry]
      simp only [mem_rangeOf, and_assoc]
  case config =>
    rintro c t s ⟨hr, hon, hfill, halarm, hz⟩
    exact ⟨_, exec_scoutConfig hr hon hfill halarm hz, rfl⟩
  case template =>
    rintro c t s ⟨hr, hbusy, he, hcanon⟩
    exact ⟨_, exec_scoutTemplate hr hbusy he, _, rfl, look_put_same _ _ _ _, State.dropTemplate_sentry hcanon _ _⟩
  case invalidate =>
    rintro c t s ⟨hr, hbusy, hop, htpl, hport, hz, hz', hcanon⟩
    exact ⟨_, exec_scoutInvalidate hr hbusy hop htpl hport hz hz', _, rfl, State.scoutDrop_sentry hcanon _ _⟩
  case stats =>
    rintro c t s ⟨hr, hreply, hcl, hclear, hz⟩
    exact ⟨_, exec_scoutStats hr hreply hcl hclear hz, _, rfl, State.clearStats_cache _ _ _ _, State.clearStats_stats _ _ _ _⟩

end Sys2Proof.Machine
end
